-- ==== Sys2Proof/Syntax.lean ====
section
/-! DEFINITION. The commands of the block: one constructor for every row of spec/opcode_table.json, with the row's operands,
and the plain types those operands use. A row is one whole, indivisible step of the module (spec/95_what_each_step_holds.md). -/

namespace Sys2Proof

/-- One byte. -/
abbrev Byte := BitVec 8

/-- The two PCIe ports (R36), also used for the two 54 V inputs V54A and V54B (R493). -/
inductive Port where
  | a
  | b
  deriving DecidableEq, Repr

/-- A PCIe function of one port: fn 0 is PF0, fn n (1 to 6) is VFn (R36). -/
structure RingId where
  port : Port
  fn   : Nat
  deriving DecidableEq, Repr

/-- A resident group slot: global cluster (R19), unit 0 to 3 and slot 0 to 15 (R21). -/
structure GroupId where
  cluster : Nat
  unit    : Nat
  slot    : Nat
  deriving DecidableEq, Repr

/-- A management chain frame as it arrives: header fields, payload and CRC-32 (R73). -/
structure ChainFrame where
  dest    : Byte
  src     : Byte
  type    : Byte
  seq     : Byte
  len     : Nat
  payload : List Byte
  crc     : BitVec 32
  deriving DecidableEq, Repr

/-- The engines that signal a completion object (R136, R143). -/
inductive Engine where
  | matrix
  | stream
  | dma
  | fabric
  | collective
  deriving DecidableEq, Repr

/-- Where a queued wait stands (Table 10.5, QUEUE 1 to 3). -/
inductive WaitQueue where
  | stream
  | dma
  | send
  deriving DecidableEq, Repr

/-- What drives an ACTIVE link into RETRAIN (Table 11.2). -/
inductive RetrainCause where
  | replays
  | fecLock
  | uncorrectable
  | modeChange
  deriving DecidableEq, Repr

/-- A survey probe arriving on a port: what the neighbour that sent it holds (R70, Table 2.22a). -/
structure SurveyProbe where
  lengths   : List Nat
  shelfAxis : Nat
  coord     : List Nat
  /-- SLOTIDs of the chain peers, in ascending chain address, for the check of R71. -/
  shelf     : List (Nat × Nat)
  /-- Far end's SLOTID and shelf, when the neighbour is on this shelf (R71). -/
  farSlotId : Option Nat
  deriving DecidableEq, Repr

/-- What a journal record request records (R420, R437, R427). -/
inductive JournalKind where
  | commit
  | snapCommitted
  | reshardCommitted
  deriving DecidableEq, Repr

/-- How stored bits go bad (R288, R302, R303, MEM_INJECT of Table 9.10). -/
inductive ErrKind where
  | onDie
  | one
  | two
  | many
  deriving DecidableEq, Repr

/-- The commands of the block. Each constructor is one row of the table; its docstring is the row's mnemonic and rule. -/
inductive Instr where
  /-- RING_ENABLE (R39). -/
  | ringEnable (r : RingId) (value : BitVec 32)
  /-- RING_DISABLE (R43). -/
  | ringDisable (r : RingId) (value : BitVec 32)
  /-- RING_CONFIG_WRITE (R40). -/
  | ringConfigWrite (r : RingId) (value : BitVec 32)
  /-- RING_BASE_WRITE (R40). -/
  | ringBaseWrite (r : RingId) (off : Nat) (wide : Bool) (value : BitVec 64)
  /-- LMB_DOORBELL (R42). -/
  | lmbDoorbell (r : RingId) (value : BitVec 32)
  /-- BAR0_LOW_READ (R38). -/
  | bar0LowRead (r : RingId) (off : Nat)
  /-- REGISTER_WRITE (R8). -/
  | registerWrite (r : RingId) (off : Nat) (value : BitVec 32)
  /-- RING_STOP_COMPLETE (R43). -/
  | ringStopComplete (r : RingId)
  /-- COMPLETION_DEFERRED (R45). -/
  | completionDeferred (r : RingId)
  /-- COMMAND_TIMEOUT (R53). -/
  | commandTimeout (r : RingId) (tag : BitVec 16) (elapsedMs : Nat)
  /-- FUNCTION_LEVEL_RESET (R37). -/
  | functionLevelReset (r : RingId)
  /-- NOP (R56). -/
  | nop (r : RingId) (tag : BitVec 16)
  /-- IDENTIFY (R58). -/
  | identify (r : RingId) (tag : BitVec 16)
  /-- FW_STAGE (R59). -/
  | fwStage (r : RingId) (tag : BitVec 16)
  /-- FW_COMMIT (R464). -/
  | fwCommit (r : RingId) (tag : BitVec 16)
  /-- FW_ACTIVATE (R60). -/
  | fwActivate (r : RingId) (tag : BitVec 16)
  /-- EVENT_GET (R56). -/
  | eventGet (r : RingId) (tag : BitVec 16)
  /-- CMD_ABORT (R57). -/
  | cmdAbort (r : RingId) (tag : BitVec 16)
  /-- MODULE_RESET (R508). -/
  | moduleReset (r : RingId) (tag : BitVec 16)
  /-- SURVEY_START (R70). -/
  | surveyStart (r : RingId) (tag : BitVec 16)
  /-- SURVEY_STATUS (R72). -/
  | surveyStatus (r : RingId) (tag : BitVec 16)
  /-- DETACH (R69). -/
  | detach (r : RingId) (tag : BitVec 16)
  /-- ATTACH (R68). -/
  | attach (r : RingId) (tag : BitVec 16)
  /-- LANTERN_SWITCH (R67). -/
  | lanternSwitch (r : RingId) (tag : BitVec 16)
  /-- SURVEY_ACCEPT (R68). -/
  | surveyAccept (r : RingId) (tag : BitVec 16)
  /-- TLM_LIST (R65). -/
  | tlmList (r : RingId) (tag : BitVec 16)
  /-- TLM_READ (R65). -/
  | tlmRead (r : RingId) (tag : BitVec 16)
  /-- TLM_SAMPLE_CFG (R63). -/
  | tlmSampleCfg (r : RingId) (tag : BitVec 16)
  /-- TELEMETRY_SAMPLE (R66). -/
  | telemetrySample
  /-- LOAD_WINDOW (R63). -/
  | loadWindow (load : Nat) (classes : List Nat)
  /-- LANTERN_HEARTBEAT_MISS (R67). -/
  | lanternHeartbeatMiss
  /-- BOOT_COMPLETE (R68). -/
  | bootComplete
  /-- BOOT_WATCHDOG (R59). -/
  | bootWatchdog
  /-- ENUM (R75). -/
  | enum (f : ChainFrame)
  /-- HEALTH_REQ (R76). -/
  | healthReq (f : ChainFrame)
  /-- POWER_ON (R497). -/
  | powerOn (f : ChainFrame)
  /-- POWER_OFF (R497). -/
  | powerOff (f : ChainFrame)
  /-- STOP (R74). -/
  | stop (f : ChainFrame)
  /-- RESET (R508). -/
  | reset (f : ChainFrame)
  /-- RECOVERY (R497). -/
  | recovery (f : ChainFrame)
  /-- RESCUE_DATA (R498). -/
  | rescueData (f : ChainFrame)
  /-- CHAIN_FRAME_OTHER (R77). -/
  | chainFrameOther (f : ChainFrame)
  /-- MOV (R127). -/
  | mov (g : GroupId)
  /-- ADD (R127). -/
  | add (g : GroupId)
  /-- SUB (R127). -/
  | sub (g : GroupId)
  /-- MUL (R127). -/
  | mul (g : GroupId)
  /-- MULHI (R127). -/
  | mulhi (g : GroupId)
  /-- MAD (R127). -/
  | mad (g : GroupId)
  /-- MIN (R127). -/
  | min (g : GroupId)
  /-- MAX (R127). -/
  | max (g : GroupId)
  /-- AND (R127). -/
  | and (g : GroupId)
  /-- OR (R127). -/
  | or (g : GroupId)
  /-- XOR (R127). -/
  | xor (g : GroupId)
  /-- SHL (R127). -/
  | shl (g : GroupId)
  /-- SHR (R127). -/
  | shr (g : GroupId)
  /-- SAR (R127). -/
  | sar (g : GroupId)
  /-- POPC (R127). -/
  | popc (g : GroupId)
  /-- CLZ (R127). -/
  | clz (g : GroupId)
  /-- SEL (R127). -/
  | sel (g : GroupId)
  /-- RDLANE (R127). -/
  | rdlane (g : GroupId)
  /-- SREG (R127). -/
  | sreg (g : GroupId)
  /-- FADD (R128). -/
  | fadd (g : GroupId)
  /-- FSUB (R128). -/
  | fsub (g : GroupId)
  /-- FMUL (R128). -/
  | fmul (g : GroupId)
  /-- FFMA (R128). -/
  | ffma (g : GroupId)
  /-- FMIN (R128). -/
  | fmin (g : GroupId)
  /-- FMAX (R128). -/
  | fmax (g : GroupId)
  /-- FABS (R154). -/
  | fabs (g : GroupId)
  /-- FNEG (R154). -/
  | fneg (g : GroupId)
  /-- RCP (R183). -/
  | rcp (g : GroupId)
  /-- RSQ (R183). -/
  | rsq (g : GroupId)
  /-- SQRT (R128). -/
  | sqrt (g : GroupId)
  /-- EXP2 (R128). -/
  | exp2 (g : GroupId)
  /-- LOG2 (R183). -/
  | log2 (g : GroupId)
  /-- CVT_RNE (R129). -/
  | cvtRne (g : GroupId)
  /-- CVT_RTZ (R129). -/
  | cvtRtz (g : GroupId)
  /-- CVT_SR (R167). -/
  | cvtSr (g : GroupId)
  /-- ISETP (R130). -/
  | isetp (g : GroupId)
  /-- FSETP (R130). -/
  | fsetp (g : GroupId)
  /-- PAND (R125). -/
  | pand (g : GroupId)
  /-- POR (R125). -/
  | por (g : GroupId)
  /-- PXOR (R125). -/
  | pxor (g : GroupId)
  /-- PNOT (R125). -/
  | pnot (g : GroupId)
  /-- BALLOT (R125). -/
  | ballot (g : GroupId)
  /-- BRA (R131). -/
  | bra (g : GroupId)
  /-- BRX (R132). -/
  | brx (g : GroupId)
  /-- CALL (R131). -/
  | call (g : GroupId)
  /-- RET (R132). -/
  | ret (g : GroupId)
  /-- EXIT (R94). -/
  | exit (g : GroupId)
  /-- CONV (R90). -/
  | conv (g : GroupId)
  /-- FORCED_RELEASE (R92). -/
  | forcedRelease (g : GroupId)
  /-- BAR (R93). -/
  | bar (g : GroupId)
  /-- BARRIER_STARVED (R96). -/
  | barrierStarved (cluster block barrier : Nat)
  /-- ACTMASK (R90). -/
  | actmask (g : GroupId)
  /-- VIRDY_NOP (R125). -/
  | virdyNop (g : GroupId)
  /-- LD (R133). -/
  | ld (g : GroupId)
  /-- LOAD_RETURN (R85). -/
  | loadReturn (g : GroupId) (n : Nat)
  /-- ST (R133). -/
  | st (g : GroupId)
  /-- FENCE (R141). -/
  | fence (g : GroupId)
  /-- DMA (R313). -/
  | dma (g : GroupId)
  /-- DMA_START (R313). -/
  | dmaStart (cluster : Nat)
  /-- ATOM_ADD (R144). -/
  | atomAdd (g : GroupId)
  /-- ATOM_MIN (R144). -/
  | atomMin (g : GroupId)
  /-- ATOM_MAX (R144). -/
  | atomMax (g : GroupId)
  /-- ATOM_AND (R144). -/
  | atomAnd (g : GroupId)
  /-- ATOM_OR (R144). -/
  | atomOr (g : GroupId)
  /-- ATOM_XOR (R144). -/
  | atomXor (g : GroupId)
  /-- ATOM_XCHG (R144). -/
  | atomXchg (g : GroupId)
  /-- ATOM_CAS (R133). -/
  | atomCas (g : GroupId)
  /-- MCFG (R187). -/
  | mcfg (g : GroupId)
  /-- MLOAD (R191). -/
  | mload (g : GroupId)
  /-- MMUL (R195). -/
  | mmul (g : GroupId)
  /-- MFILL (R203). -/
  | mfill (g : GroupId)
  /-- MADAPT (R207). -/
  | madapt (g : GroupId)
  /-- MDRAIN (R213). -/
  | mdrain (g : GroupId)
  /-- MATRIX_DEQUEUE (R199). -/
  | matrixDequeue (cluster : Nat)
  /-- FILL_TIMEOUT (R205). -/
  | fillTimeout (cluster n : Nat)
  /-- MDRAIN_READ_START (R215). -/
  | mdrainReadStart (cluster n : Nat)
  /-- SHADOW_RECOMPUTE (R275). -/
  | shadowRecompute (cluster : Nat)
  /-- STREAM_ISSUE (R227). -/
  | streamIssue (g : GroupId)
  /-- STREAM_DESCRIPTOR_READ (R236). -/
  | streamDescriptorRead (cluster : Nat)
  /-- STREAM_COMMAND_START (R229). -/
  | streamCommandStart (cluster : Nat)
  /-- ENGINE_COMPLETION (R143). -/
  | engineCompletion (cluster : Nat) (e : Engine)
  /-- SIG_ADD (R328). -/
  | sigAdd (g : GroupId)
  /-- SIG_SET (R328). -/
  | sigSet (g : GroupId)
  /-- WAIT_GE (R332). -/
  | waitGe (g : GroupId)
  /-- WAIT_TAKE (R333). -/
  | waitTake (g : GroupId)
  /-- SIGNAL_APPLY (R333). -/
  | signalApply (n : Nat)
  /-- WAIT_ARRIVE (R334). -/
  | waitArrive (n : Nat)
  /-- WAIT_REPRESENT (R335). -/
  | waitRepresent (n : Nat)
  /-- QUEUED_WAIT_HEAD (R337). -/
  | queuedWaitHead (cluster : Nat) (q : WaitQueue)
  /-- PUT (R375). -/
  | put (g : GroupId)
  /-- GET (R136). -/
  | get (g : GroupId)
  /-- ACC (R376). -/
  | acc (g : GroupId)
  /-- COLL (R397). -/
  | coll (g : GroupId)
  /-- COLLECTIVE_START (R399). -/
  | collectiveStart (ctx axes number : Nat)
  /-- FLAGRD (R137). -/
  | flagrd (g : GroupId)
  /-- FLAGCLR (R137). -/
  | flagclr (g : GroupId)
  /-- SCRD (R267). -/
  | scrd (g : GroupId)
  /-- SCWR (R268). -/
  | scwr (g : GroupId)
  /-- BRK (R138). -/
  | brk (g : GroupId)
  /-- SEND_QUEUE_SEND (R371). -/
  | sendQueueSend (cluster : Nat)
  /-- ACK_TIMEOUT (R372). -/
  | ackTimeout (cluster msg pkt : Nat)
  /-- FLIT_RECEIVE (R357). -/
  | flitReceive (link : Nat) (bytes : List Byte)
  /-- REPLAY_TIMEOUT (R357). -/
  | replayTimeout (link : Nat)
  /-- HALT_FLIT (R381). -/
  | haltFlit (link : Nat) (bytes : List Byte)
  /-- LINK_SIGNAL_DETECT (R353). -/
  | linkSignalDetect (link : Nat)
  /-- LINK_NOSIGNAL (R353). -/
  | linkNosignal (link : Nat)
  /-- EQUALISE_DONE (R353). -/
  | equaliseDone (link : Nat)
  /-- ALIGN_DONE (R353). -/
  | alignDone (link : Nat)
  /-- TRAIN_TIMEOUT (R353). -/
  | trainTimeout (link : Nat)
  /-- EXCHANGE (R354). -/
  | exchange (link farPort farSlot : Nat) (farFabric : BitVec 64) (farSealed : Bool)
  /-- RETRAIN_ENTRY (R353). -/
  | retrainEntry (link : Nat) (cause : RetrainCause)
  /-- REALIGN_DONE (R353). -/
  | realignDone (link : Nat)
  /-- RETRAIN_FAIL (R353). -/
  | retrainFail (link : Nat)
  /-- DOWN_TIMEOUT (R353). -/
  | downTimeout (link : Nat)
  /-- PUT_PACKET (R373). -/
  | putPacket (n : Nat)
  /-- GET_REQ (R373). -/
  | getReq (n : Nat)
  /-- GET_DATA (R372). -/
  | getData (n : Nat)
  /-- ACC_PACKET (R376). -/
  | accPacket (n : Nat)
  /-- SIGNAL_PACKET (R331). -/
  | signalPacket (n : Nat)
  /-- ATOMIC_REQ (R375). -/
  | atomicReq (n : Nat)
  /-- ATOMIC_RSP (R372). -/
  | atomicRsp (n : Nat)
  /-- REDUCE_CHUNK (R401). -/
  | reduceChunk (n : Nat)
  /-- PERMUTE_PACKET (R400). -/
  | permutePacket (n : Nat)
  /-- FABRIC_ACK (R372). -/
  | fabricAck (n : Nat)
  /-- SURVEY_PROBE (R70). -/
  | surveyProbe (port : Nat) (probe : SurveyProbe)
  /-- FAILOVER (R358). -/
  | failover (link : Nat) (slot lastSeq : Nat)
  /-- FAB_INFO (R384). -/
  | fabInfo (r : RingId) (tag : BitVec 16)
  /-- FAB_LINK (R353). -/
  | fabLink (r : RingId) (tag : BitVec 16)
  /-- FAB_ROUTE (R367). -/
  | fabRoute (r : RingId) (tag : BitVec 16)
  /-- FAB_HALT (R380). -/
  | fabHalt (r : RingId) (tag : BitVec 16)
  /-- FAB_INJECT (R383). -/
  | fabInject (r : RingId) (tag : BitVec 16)
  /-- FAB_CFG (R372). -/
  | fabCfg (r : RingId) (tag : BitVec 16)
  /-- DBG_ATTACH (R109). -/
  | dbgAttach (r : RingId) (tag : BitVec 16)
  /-- DBG_DETACH (R109). -/
  | dbgDetach (r : RingId) (tag : BitVec 16)
  /-- DBG_HALT (R110). -/
  | dbgHalt (r : RingId) (tag : BitVec 16)
  /-- DBG_RESUME (R103). -/
  | dbgResume (r : RingId) (tag : BitVec 16)
  /-- DBG_STEP (R111). -/
  | dbgStep (r : RingId) (tag : BitVec 16)
  /-- DBG_READ (R109). -/
  | dbgRead (r : RingId) (tag : BitVec 16)
  /-- DBG_WRITE (R113). -/
  | dbgWrite (r : RingId) (tag : BitVec 16)
  /-- DBG_BP_SET (R114). -/
  | dbgBpSet (r : RingId) (tag : BitVec 16)
  /-- DBG_WP_SET (R115). -/
  | dbgWpSet (r : RingId) (tag : BitVec 16)
  /-- DBG_KILL (R103). -/
  | dbgKill (r : RingId) (tag : BitVec 16)
  /-- DBG_STATUS (R109). -/
  | dbgStatus (r : RingId) (tag : BitVec 16)
  /-- MEM_INFO (R315). -/
  | memInfo (r : RingId) (tag : BitVec 16)
  /-- MEM_MAP (R299). -/
  | memMap (r : RingId) (tag : BitVec 16)
  /-- MEM_UNMAP (R316). -/
  | memUnmap (r : RingId) (tag : BitVec 16)
  /-- MEM_HOST_COPY (R316). -/
  | memHostCopy (r : RingId) (tag : BitVec 16)
  /-- MEM_POISON_LIST (R307). -/
  | memPoisonList (r : RingId) (tag : BitVec 16)
  /-- MEM_THERMAL_CFG (R309). -/
  | memThermalCfg (r : RingId) (tag : BitVec 16)
  /-- MEM_SCRUB_CFG (R306). -/
  | memScrubCfg (r : RingId) (tag : BitVec 16)
  /-- MEM_SHARED_ALLOC (R298). -/
  | memSharedAlloc (r : RingId) (tag : BitVec 16)
  /-- MEM_INJECT (R316). -/
  | memInject (r : RingId) (tag : BitVec 16)
  /-- SP_PATROL_SCRUB (R289). -/
  | spPatrolScrub (cluster row : Nat)
  /-- STACK_PATROL_SCRUB (R306). -/
  | stackPatrolScrub (addr : Nat)
  /-- STACK_TEMP_READING (R308). -/
  | stackTempReading (stack : Nat) (celsius : Int)
  /-- SHARED_UNCORRECTABLE_READ (R486). -/
  | sharedUncorrectableRead (addr : Nat)
  /-- SHARED_REPAIR_DONE (R486). -/
  | sharedRepairDone (slot : Nat)
  /-- SHARED_REPAIR_TIMEOUT (R486). -/
  | sharedRepairTimeout (slot : Nat)
  /-- SYNC_INFO (R343). -/
  | syncInfo (r : RingId) (tag : BitVec 16)
  /-- SYNC_HOME (R344). -/
  | syncHome (r : RingId) (tag : BitVec 16)
  /-- SYNC_SET (R344). -/
  | syncSet (r : RingId) (tag : BitVec 16)
  /-- SYNC_SIGNAL (R344). -/
  | syncSignal (r : RingId) (tag : BitVec 16)
  /-- SYNC_DUMP (R344). -/
  | syncDump (r : RingId) (tag : BitVec 16)
  /-- SYNC_BALANCE (R342). -/
  | syncBalance (r : RingId) (tag : BitVec 16)
  /-- NUM_CFG (R279). -/
  | numCfg (r : RingId) (tag : BitVec 16)
  /-- NUM_CENSUS_REG (R269). -/
  | numCensusReg (r : RingId) (tag : BitVec 16)
  /-- NUM_CENSUS_TAG (R279). -/
  | numCensusTag (r : RingId) (tag : BitVec 16)
  /-- NUM_CENSUS_STATE (R272). -/
  | numCensusState (r : RingId) (tag : BitVec 16)
  /-- NUM_FLAGS (R279). -/
  | numFlags (r : RingId) (tag : BitVec 16)
  /-- NUM_RECOVER (R279). -/
  | numRecover (r : RingId) (tag : BitVec 16)
  /-- CTX_LOAD (R388). -/
  | ctxLoad (r : RingId) (tag : BitVec 16)
  /-- CTX_LAUNCH (R390). -/
  | ctxLaunch (r : RingId) (tag : BitVec 16)
  /-- CTX_CLOSE (R391). -/
  | ctxClose (r : RingId) (tag : BitVec 16)
  /-- CTX_STATUS (R392). -/
  | ctxStatus (r : RingId) (tag : BitVec 16)
  /-- JOB_BIND (R394). -/
  | jobBind (r : RingId) (tag : BitVec 16)
  /-- JOB_UNBIND (R389). -/
  | jobUnbind (r : RingId) (tag : BitVec 16)
  /-- STEP_STATUS (R422). -/
  | stepStatus (r : RingId) (tag : BitVec 16)
  /-- STEP_RESUME (R423). -/
  | stepResume (r : RingId) (tag : BitVec 16)
  /-- SHARD_REG (R406). -/
  | shardReg (r : RingId) (tag : BitVec 16)
  /-- PIPE_REG (R414). -/
  | pipeReg (r : RingId) (tag : BitVec 16)
  /-- PIPE_STATUS (R416). -/
  | pipeStatus (r : RingId) (tag : BitVec 16)
  /-- RESHARD_START (R427). -/
  | reshardStart (r : RingId) (tag : BitVec 16)
  /-- RESHARD_STATUS (R427). -/
  | reshardStatus (r : RingId) (tag : BitVec 16)
  /-- RESHARD_ABORT (R427). -/
  | reshardAbort (r : RingId) (tag : BitVec 16)
  /-- RESHARD_COPIED (R427). -/
  | reshardCopied (ctx : Nat)
  /-- COPIED (R427). -/
  | copied (ctx rank : Nat)
  /-- RESHARD_COMMITTED (R427). -/
  | reshardCommitted (ctx : Nat)
  /-- PROPOSE_ENTER (R418). -/
  | proposeEnter (ctx : Nat)
  /-- VOTE_OK (R419). -/
  | voteOk (ctx child epoch : Nat)
  /-- VOTE_FAIL (R419). -/
  | voteFail (ctx child epoch : Nat) (cause : Nat) (fabricId site trap : Nat)
  /-- PROPOSE_TIMEOUT (R419). -/
  | proposeTimeout (ctx : Nat)
  /-- COMMIT_DECISION (R420). -/
  | commitDecision (ctx epoch : Nat) (snap : Option Nat)
  /-- ABORT_DECISION (R420). -/
  | abortDecision (ctx epoch : Nat)
  /-- DECISION_TIMEOUT (R421). -/
  | decisionTimeout (ctx : Nat)
  /-- DECISION_QUERY (R421). -/
  | decisionQuery (ctx rank epoch : Nat)
  /-- APPLY_COMPLETE (R422). -/
  | applyComplete (ctx : Nat)
  /-- DISCARD_COMPLETE (R424). -/
  | discardComplete (ctx : Nat)
  /-- DISCARDED_REPORT (R425). -/
  | discardedReport (ctx rank epoch : Nat) (lost : Bool)
  /-- RERUN (R422). -/
  | rerun (ctx epoch : Nat)
  /-- LAUNCH (R422). -/
  | launch (ctx epoch : Nat)
  /-- SNAP_BOUNDARY_COPY_DONE (R437). -/
  | snapBoundaryCopyDone (ctx micros : Nat)
  /-- SNAP_WRITE_DONE (R437). -/
  | snapWriteDone (ctx : Nat)
  /-- SNAP_OK (R437). -/
  | snapOk (ctx rank snap : Nat)
  /-- SNAP_COMMITTED (R437). -/
  | snapCommitted (ctx snap : Nat)
  /-- RISK_UPDATE (R433). -/
  | riskUpdate
  /-- RISK_REPORT (R436). -/
  | riskReport (ctx rank risk : Nat)
  /-- MEMBER_HEARTBEAT_MISS (R446). -/
  | memberHeartbeatMiss (ctx rank : Nat)
  /-- MEMBER_LOST (R447). -/
  | memberLost (ctx rank cause : Nat)
  /-- SPARE_BIND_DONE (R452). -/
  | spareBindDone (ctx fabricId : Nat) (verified : Bool)
  /-- SPARE_FILL_DONE (R452). -/
  | spareFillDone (ctx fabricId : Nat)
  /-- SPARE_REBUILD_DONE (R452). -/
  | spareRebuildDone (ctx fabricId : Nat)
  /-- SURV_CFG (R456). -/
  | survCfg (r : RingId) (tag : BitVec 16)
  /-- SNAP_TENSOR_REG (R440). -/
  | snapTensorReg (r : RingId) (tag : BitVec 16)
  /-- SNAP_TENSOR_UNREG (R456). -/
  | snapTensorUnreg (r : RingId) (tag : BitVec 16)
  /-- SNAP_NOW (R436). -/
  | snapNow (r : RingId) (tag : BitVec 16)
  /-- SNAP_STATUS (R456). -/
  | snapStatus (r : RingId) (tag : BitVec 16)
  /-- SURV_RISK (R433). -/
  | survRisk (r : RingId) (tag : BitVec 16)
  /-- SURV_SPARE_ADD (R450). -/
  | survSpareAdd (r : RingId) (tag : BitVec 16)
  /-- SURV_SPARE_REMOVE (R456). -/
  | survSpareRemove (r : RingId) (tag : BitVec 16)
  /-- SURV_REPORT (R449). -/
  | survReport (r : RingId) (tag : BitVec 16)
  /-- SNAP_EXPORT (R456). -/
  | snapExport (r : RingId) (tag : BitVec 16)
  /-- SNAP_IMPORT (R449). -/
  | snapImport (r : RingId) (tag : BitVec 16)
  /-- SURV_RESTORE (R447). -/
  | survRestore (r : RingId) (tag : BitVec 16)
  /-- SEC_IDENTITY (R462). -/
  | secIdentity (r : RingId) (tag : BitVec 16)
  /-- SEC_ATTEST (R463). -/
  | secAttest (r : RingId) (tag : BitVec 16)
  /-- SEC_LC_STATUS (R490). -/
  | secLcStatus (r : RingId) (tag : BitVec 16)
  /-- SEC_LC_NONCE (R466). -/
  | secLcNonce (r : RingId) (tag : BitVec 16)
  /-- SEC_LC_TOKEN (R467). -/
  | secLcToken (r : RingId) (tag : BitVec 16)
  /-- SEC_LC_RETRY (R469). -/
  | secLcRetry (r : RingId) (tag : BitVec 16)
  /-- SEC_MODE (R475). -/
  | secMode (r : RingId) (tag : BitVec 16)
  /-- SEC_PART_CREATE (R474). -/
  | secPartCreate (r : RingId) (tag : BitVec 16)
  /-- SEC_PART_DESTROY (R478). -/
  | secPartDestroy (r : RingId) (tag : BitVec 16)
  /-- SEC_PART_RESET (R478). -/
  | secPartReset (r : RingId) (tag : BitVec 16)
  /-- SEC_KEY_INSTALL (R480). -/
  | secKeyInstall (r : RingId) (tag : BitVec 16)
  /-- SEC_KEY_SWITCH (R481). -/
  | secKeySwitch (r : RingId) (tag : BitVec 16)
  /-- SEC_KEY_ERASE (R490). -/
  | secKeyErase (r : RingId) (tag : BitVec 16)
  /-- SEC_SHARED_SEAL (R485). -/
  | secSharedSeal (r : RingId) (tag : BitVec 16)
  /-- SEC_SHARED_UNSEAL (R485). -/
  | secSharedUnseal (r : RingId) (tag : BitVec 16)
  /-- SEC_SHARED_STRIPE (R485). -/
  | secSharedStripe (r : RingId) (tag : BitVec 16)
  /-- SEC_CFG (R488). -/
  | secCfg (r : RingId) (tag : BitVec 16)
  /-- INPUT_ACCEPTED (R493). -/
  | inputAccepted (input : Port) (feedA feedB : BitVec 8)
  /-- INPUT_DROPPED (R494). -/
  | inputDropped (input : Port)
  /-- BUS_LOSS (R497). -/
  | busLoss
  /-- PWR_EN_RISE (R497). -/
  | pwrEnRise
  /-- POWER_UP_COMPLETE (R499). -/
  | powerUpComplete (ok : Bool)
  /-- PWR_EN_FALL (R497). -/
  | pwrEnFall
  /-- POWER_SAMPLE (R501). -/
  | powerSample (total : Nat) (budgets : List Nat)
  /-- TRIP_CLEARED (R497). -/
  | tripCleared
  /-- DROOP_EVENT (R503). -/
  | droopEvent (die : Option Nat)
  /-- FEEDID_READ (R495). -/
  | feedidRead (feedA feedB : BitVec 8)
  /-- DIE_TEMP_READING (R506). -/
  | dieTempReading (die : Nat) (celsius : Int)
  /-- COOLANT_READING (R506). -/
  | coolantReading (inlet outlet : Int) (flow : Nat)
  /-- THERMAL_CRITICAL_TIMEOUT (R506). -/
  | thermalCriticalTimeout
  /-- REFCLK_SYS_LOSS (R513). -/
  | refclkSysLoss
  /-- REFCLK_LINK_LOSS (R513). -/
  | refclkLinkLoss
  /-- REFCLK_HOST_LOSS (R513). -/
  | refclkHostLoss
  /-- HOST_PERST_ASSERT (R510). -/
  | hostPerstAssert
  /-- HOST_PERST_DEASSERT (R510). -/
  | hostPerstDeassert
  /-- DIE_ISOLATE (R511). -/
  | dieIsolate (die : Nat)
  /-- UNASSIGNED_COMMAND (R10). -/
  | unassignedCommand (r : RingId) (tag : BitVec 16)
  /-- RESERVED_INSTRUCTION (R126). -/
  | reservedInstruction (g : GroupId)
  /-- REFCLK_LINK_RETURN (R513). -/
  | refclkLinkReturn
  /-- REFCLK_HOST_RETURN (R513). -/
  | refclkHostReturn
  /-- REFCLK_SYS_RETURN (R513). -/
  | refclkSysReturn
  /-- JOURNAL_RECORD (R421). -/
  | journalRecord (ctx : Nat) (kind : JournalKind) (epoch : Nat)
  /-- JOURNAL_RECORD_ACK (R420). -/
  | journalRecordAck (ctx : Nat) (kind : JournalKind) (epoch : Nat) (recorded : Bool)
  /-- MEMORY_ERROR (R302). -/
  | memoryError (addr : Nat) (kind : ErrKind)
  deriving DecidableEq, Repr

end Sys2Proof
end

