-- ==== Sys2Proof/Decode.lean ====
section
/-! DEFINITION. The command a word of the table spells. No row of spec/opcode_table.json gives bits (every row's field list is empty: a row is a
whole step of the module, not an encoded word), so no word spells a command. -/

namespace Sys2Proof

/-- The command the table's bits `w` spell: none, since the table gives no row bits. -/
def decodeTableWord (nbits w : Nat) : Option Instr :=
  match nbits, w with
  | _, _ => none

end Sys2Proof
end

