-- ==== Sys2Proof/Word.lean ====
section
/-! DEFINITION. The words of the module: thread registers of 32 bits, uniform registers and instruction words of 64 bits (R13, R121). -/

namespace Sys2Proof

/-- A thread register v0 to v63 (R13). -/
abbrev Word32 := BitVec 32

/-- A uniform register u0 to u31, an instruction word, a context address (R13, R121, R134). -/
abbrev Word64 := BitVec 64

end Sys2Proof
end

