-- ==== Sys2Proof/Config.lean ====
section
/-! DEFINITION. What the spec leaves open: free values (opaque constants with no body, so no proof can see what they are) and the
cryptographic standards the spec names without restating them. Each is named in the assumption log. -/

namespace Sys2Proof

/-- A 16-bit draw of a cluster's random source (R167, R168): free for every cluster and draw number. -/
opaque Config.draw16 (cluster n : Nat) : BitVec 16

/-- Which of the results that lie within the stated accuracy a transcendental or reciprocal operation returns (Tables 4.8 and 7.10):
operation code, operand, and a free choice among the values the bound admits. -/
opaque Config.ulpChoice (op : Nat) (a : BitVec 32) : Int

/-- A free 32-bit value: a result whose value the spec does not state. -/
opaque Config.free32 (n : Nat) : BitVec 32

/-- A free 64-bit value. -/
opaque Config.free64 (n : Nat) : BitVec 64

/-- A free byte. -/
opaque Config.freeByte (n : Nat) : Byte

/-- A free choice between two outcomes the spec leaves open. -/
opaque Config.freeBool (n : Nat) : Bool

/-- A free natural number, for a choice among several outcomes the spec leaves open. -/
opaque Config.freeNat (n : Nat) : Nat

/-- The event code of the CONTEXT_KILL event (R108): the spec gives no code. -/
opaque Config.contextKillCode : BitVec 16

/-- Where Mirsis maps a context's CONST section (R134): the spec gives no address. -/
opaque Config.constBase (ctx : Nat) : Nat

/-- Whether lantern data has room to map a CONST section of `size` bytes (Table 2.15a, identifier 10): the spec gives no amount. -/
opaque Config.constFits (ctx size : Nat) : Bool

/-- Where the collective service stages chunks of a slot (R404): the spec gives no address. -/
opaque Config.stagingBase (slot : Nat) : Nat

/-- Ed25519 (RFC 8032) and ML-DSA-65 (FIPS 204) verification of one signature block: key id, the domain and digest signed, and the block (R460, R461). -/
opaque Config.verifyEd25519 (keyId : Nat) (message signature : List Byte) : Bool
opaque Config.verifyMlDsa65 (keyId : Nat) (message signature : List Byte) : Bool

/-- Signing with the device identity keys (R459): the 3,384-byte block over a message. -/
opaque Config.signDevice (message : List Byte) : List Byte

/-- Unwrapping of an installed link key (R480): FPN, slot and the payload of Table 14.15 give the 256-bit key, or nothing when the tag fails. -/
opaque Config.unwrapKey (fpn slot : Nat) (payload : List Byte) : Option (List Byte)

/-- AES-256-GCM under a key, IV and additional data (R377): ciphertext and 16-byte tag. -/
opaque Config.gcmSeal (key iv aad plain : List Byte) : List Byte × List Byte
opaque Config.gcmOpen (key iv aad cipher tag : List Byte) : Option (List Byte)

/-- Keep entropy (R463, R466): the n-th 32-byte nonce. -/
opaque Config.entropy (n : Nat) : List Byte

/-- The layouts of lantern messages (TXN 0x10) are lantern-defined (Table 11.11): the data bytes of the n-th message. -/
opaque Config.mgmtData (n : Nat) : List Byte

end Sys2Proof
end

