-- ==== Sys2Proof/Machine/State.lean ====
section
/-! DEFINITION. The state of the module as plain data: every register, queue, table, pin and mode the spec gives it, the queue of waiting
commands, the reasons a step can stop, and the state after reset. Sparse tables are lists of (key, value) pairs in rising key order. -/

namespace Sys2Proof.Machine

/-- A sparse table: rising keys; a key that is not listed holds the table's default value. -/
abbrev Sparse (α : Type) := List (Nat × α)

/-- An exact value: a NaN, an infinity, or (−1)^neg × m × 2^e. -/
inductive FVal where
  | nan (signalling : Bool)
  | inf (neg : Bool)
  | fin (neg : Bool) (m : Nat) (e : Int)
  deriving DecidableEq, Repr

/-- Faults: the block has no step that stops the machine with an error of its own. -/
inductive Fault where
  /-- Raised by an access to a module physical address that Table 9.1 gives no content (R282), should a step of the module itself ever form
  one. Safe: the model stops where the hardware has nothing to reach. -/
  | noSuchAddress (addr : Nat)
  deriving DecidableEq, Repr

/-- Refusals. -/
inductive Refusal where
  /-- Raised by Dispatch for a row that has no meaning yet. Safe: nothing is claimed of it. -/
  | notModelled (mnemonic : String)
  deriving DecidableEq, Repr

/-! ## The part -/

/-- The three ordering numbers of Table 0.1. -/
inductive OrderNo where
  | h96
  | h64
  | h96e
  deriving DecidableEq, Repr

/-- Part identity and fuses that no command of this module changes (R2, R4, R489, Table 14.4, SLOTID pins). -/
structure Part where
  order    : OrderNo
  serial   : List Byte
  cert     : List Byte
  slotid   : BitVec 6
  evalLock : Bool
  deriving DecidableEq, Repr

/-! ## Rings and BAR0 -/

/-- A fetched command that has not completed: the header of Table 2.13, its payload, whether it has started, and where a started command waits. -/
structure OutCmd where
  opcode      : BitVec 16
  tag         : BitVec 16
  flags       : Byte
  version     : Byte
  rsv         : BitVec 16
  payloadLen  : Nat
  resultLen   : Nat
  payloadAddr : Nat
  resultAddr  : Nat
  context     : Nat
  timeoutMs   : Nat
  args        : List Byte
  payload     : List Byte
  started     : Bool
  stage       : Nat
  deriving DecidableEq, Repr

/-- A completion ring entry (Table 2.14) before its PHASE bit is set. -/
structure CqEntry where
  tag       : BitVec 16
  opcode    : BitVec 16
  status    : Byte
  event     : Bool
  dupTag    : Bool
  retryHint : BitVec 16
  resultLen : BitVec 32
  detail    : BitVec 32
  deriving DecidableEq, Repr

/-- An event record kept for EVENT_GET (R108, Table 2.17). -/
structure EventRec where
  seq    : Nat
  code   : Nat
  detail : Nat
  bytes  : List Byte
  deriving DecidableEq, Repr

/-- BAR0 registers, rings and BAR2 of one function of one port (Tables 2.2 to 2.12, R38 to R45). -/
structure Ring where
  en       : Bool
  loc      : Bool
  sqLog2   : BitVec 4
  cqLog2   : BitVec 4
  ready    : Bool
  errCfg   : Bool
  errFetch : Bool
  errDb    : Bool
  sqHead   : Nat
  sqTail   : Nat
  cqHead   : BitVec 16
  cqTail   : Nat
  phase    : Bool
  sqBase   : BitVec 64
  cqBase   : BitVec 64
  hisStatus : BitVec 6
  hisMask  : BitVec 6
  /-- High words latched by low-word reads of the 64-bit registers (R38), by register offset. -/
  latch    : Sparse (BitVec 32)
  /-- The value the last BAR0 read returned (the model's own output field). -/
  rdata    : BitVec 32
  out      : List OutCmd
  /-- Completions that found the completion ring full (R45). -/
  waiting  : List CqEntry
  bar2     : Sparse Byte
  deriving DecidableEq, Repr

/-- A function's events: sequence numbers, records for EVENT_GET, and the buffer of at most 256 events that found the ring full (R45). -/
structure FnEvents where
  nextSeq : Nat
  recs    : List EventRec
  held    : List CqEntry
  lost    : Nat
  deriving DecidableEq, Repr

/-! ## The lantern -/

/-- Management states (Table 2.21). -/
inductive MState where
  | boot
  | ready
  | joined
  | detaching
  | detached
  | recovery
  | mismatch
  deriving DecidableEq, Repr

/-- Firmware slot states (Table 2.18, Table 2.17a). -/
inductive FwState where
  | empty
  | valid
  | pending
  | trial
  | active
  deriving DecidableEq, Repr

/-- A firmware slot: its state and the image header fields the rules use (Table 14.6), with the image for FW_DIGEST (Table 14.5). -/
structure FwSlot where
  st       : FwState
  version  : BitVec 32
  svn      : Nat
  evalBit  : Bool
  virdyMax : Nat
  image    : List Byte
  deriving DecidableEq, Repr

/-- The survey record (Table 2.22a). -/
structure Survey where
  st        : Nat
  flags     : Byte
  lengths   : List Nat
  shelfAxis : Nat
  fabricId  : Option Nat
  coord     : List Nat
  port      : Option Nat
  confCoord : List Nat
  confPort  : Option Nat
  deriving DecidableEq, Repr

/-- A telemetry sample: local counter, step epoch and the counters at that moment (R66). -/
structure Sample where
  time   : BitVec 64
  epoch  : Nat
  values : Sparse Nat
  deriving DecidableEq, Repr

/-- The lantern and its firmware state (R58 to R72). -/
structure Lantern where
  mstate     : MState
  standby    : Bool
  serving    : Bool
  slotA      : FwSlot
  slotB      : FwSlot
  bootSlot   : Bool
  bootFails  : Nat
  recoveryBoot : Bool
  staged     : Option (Nat × Sparse Byte)
  /-- True between the start of FW_COMMIT's write and its end (Table 2.18, Table 15.11). -/
  fwWriting  : Bool
  fabricId   : Nat
  coord      : List Nat
  fabValid   : Bool
  lengths    : List Nat
  survey     : Survey
  load       : Nat
  shed       : Nat
  shedLow    : Nat
  /-- Per-class load, shed level and quiet windows in SEALED mode (Table 14.13): keys 0 to 5 partitions, 6 administrator. -/
  clsLoad    : Sparse Nat
  clsShed    : Sparse Nat
  clsLow     : Sparse Nat
  tlmPeriod  : Nat
  /-- Periods still to be skipped while the sampling period is stretched (Table 2.19), and the stretch (1 to 16). -/
  tlmStretch : Nat
  tlmSkip    : Nat
  samples    : List Sample
  chainAddr  : Option Byte
  shelf      : BitVec 16
  /-- TYPE and SEQ of the last addressed frame acted on, and its reply, by source (R78). -/
  chainLast  : Sparse (Byte × Byte × ChainFrame)
  rescue     : Sparse Byte
  /-- The firmware slot that the last RECOVERY frame named for the rescue image: true for slot B. -/
  rescueSlot : Bool
  /-- MODULE_RESET and FW_ACTIVATE commands that complete after the restart: ring, tag and opcode (Table 2.17). -/
  restartBy  : List (RingId × BitVec 16 × BitVec 16)
  /-- DETACH in progress: the ring and tag that asked, and whether it is graceful (Table 2.22). -/
  detachBy   : Option (RingId × BitVec 16)
  detachMode : Nat
  detail1    : Bool
  deriving DecidableEq, Repr

/-! ## The keep -/

/-- A life-cycle fuse record (R467): target, whether intent and commit are VALID in banks A and B. -/
structure FuseRec where
  target  : Nat
  digest  : List Byte
  intentA : Bool
  intentB : Bool
  commitA : Bool
  commitB : Bool
  deriving DecidableEq, Repr

/-- A partition slot (R474, Table 14.5 PARTS, ADMIN_DEBUG, SCRUBBED). -/
structure Partition where
  exist      : Bool
  adminDebug : Bool
  scrubbed   : Bool
  deriving DecidableEq, Repr

/-- Repair of one chunk of a shared slot (R486, Table 14.18). -/
structure Repair where
  chunk : Nat
  addr  : Nat
  held  : Nat
  deriving DecidableEq, Repr

/-- States of a shared slot (R485, R486). -/
inductive SharedState where
  | opened
  | sealed
  | failed
  deriving DecidableEq, Repr

/-- A shared far slot: its place in the order of allocation, its state, recorded root, stripe copy and repairs in arrival order. -/
structure Shared where
  seq     : Nat
  st      : SharedState
  root    : List Byte
  stripe  : Option (Nat × Nat × Nat × Nat)
  repairs : List Repair
  deriving DecidableEq, Repr

/-- The keep (chapter 14). -/
structure Keep where
  lc         : Nat
  pendingLc  : Option Nat
  recs       : List FuseRec
  svn        : Nat
  boots      : BitVec 64
  nonce      : Option (List Byte)
  entropyN   : Nat
  keysOk     : Bool
  /-- Link keys by 2 × FPN + slot (R480), sending slot by FPN (R481). -/
  linkKeys   : Sparse (List Byte)
  sendSlot   : Sparse Nat
  sealed     : Bool
  k4Import   : Bool
  pf0Keys    : Bool
  parts      : Sparse Partition
  shared     : Sparse Shared
  /-- Fabric IDs whose identity certificates the keep has verified (R462). -/
  certs      : List Nat
  deriving DecidableEq, Repr

/-! ## Memory -/

/-- What a slot block holds (R292 to R298): owner 0 to 5 a partition, 6 shared. -/
inductive SlotMode where
  | free
  | near (mask : BitVec 6)
  | far (owner : Nat)
  deriving DecidableEq, Repr

/-- A stack controller (R308 to R311). -/
structure Stack where
  temp      : Int
  level     : Nat
  low       : Nat
  /-- Refresh rate of the reserve pseudo-channels: 1, 2 or 4 times the base rate (R310). -/
  refresh   : Nat
  stopped   : Bool
  deriving DecidableEq, Repr

/-- The memory system: bytes by module physical address (R282), poison markers by 64-byte granule number, errors waiting to be found. -/
structure MemSys where
  bytes     : Sparse Byte
  poison    : Sparse Bool
  errs      : Sparse ErrKind
  slots     : Sparse SlotMode
  /-- Slots, remainder pieces (100 + die), and clusters (200 + cluster) scrubbed since cold reset (R479). -/
  scrubbed  : Sparse Bool
  stackSt   : Sparse Stack
  t1        : Nat
  t2        : Nat
  t3        : Nat
  patrolH   : Nat
  deriving DecidableEq, Repr

/-! ## Contexts, blocks and groups -/

/-- A granted range (R299); rights 1 read, 3 read and write. -/
structure MapRange where
  base  : Nat
  len   : Nat
  write : Bool
  deriving DecidableEq, Repr

/-- An entry record of a VMOD (Table 4.20). -/
structure Entry where
  offset : Nat
  groups : Nat
  name   : List Byte
  deriving DecidableEq, Repr

/-- A handle registration (R192), with the STAT reference captured at MLOAD (R264). -/
structure Handle where
  id     : BitVec 32
  quad   : Nat
  addr   : Nat
  stride : Nat
  type   : Nat
  cplx   : Bool
  stat   : BitVec 64
  used   : Nat
  gen    : Nat
  deriving DecidableEq, Repr

/-- Where a stage queue stands (Table 12.7) with the charges of R416. -/
structure StageQueue where
  role      : Nat
  dir       : Nat
  qid       : Nat
  depth     : Nat
  base      : Nat
  slotBytes : Nat
  creditVid : Nat
  arriveVid : Nat
  input     : Nat
  credit    : Nat
  other     : Nat
  deriving DecidableEq, Repr

/-- Member step states with their codes (R423). -/
inductive StepState where
  | running
  | voted
  | applying
  | haltedIn
  | haltedAt
  | discarding
  | waitRerun
  | restoring
  deriving DecidableEq, Repr

/-- Re-shard states (Table 12.14). -/
inductive ReshardState where
  | idle
  | copying
  | copied
  | committed
  | done
  | incomplete
  deriving DecidableEq, Repr

/-- A re-shard in progress and the journal's view of it (R427). -/
structure Reshard where
  st       : ReshardState
  number   : Nat
  moves    : Nat
  nMoves   : Nat
  newTable : Nat
  newRecs  : Nat
  moved    : Nat
  copiedBy : List Nat
  asked    : Bool
  deriving DecidableEq, Repr

/-- A registered snapshot tensor (R440, Table 13.13). -/
structure Tensor where
  id     : Nat
  method : Nat
  flags  : Nat
  addr   : Nat
  bytes  : Nat
  shard  : Nat
  encoded : Nat
  deriving DecidableEq, Repr

/-- Spare states (Table 13.8). -/
inductive SpareState where
  | pool
  | claimed
  | filling
  | ready
  | rebuilding
  | guarded
  | held
  | ineligible
  deriving DecidableEq, Repr

/-- A spare of the pool and the rank it serves (R450 to R452). -/
structure Spare where
  fabricId : Nat
  st       : SpareState
  rank     : Nat
  deriving DecidableEq, Repr

/-- One line of SURV_REPORT (Table 13.13). -/
structure ReportLine where
  rank    : Nat
  tensor  : Nat
  source  : Nat
  missing : Nat
  deriving DecidableEq, Repr

/-- What one landing set holds of a member: the job record and the registered tensors' bytes (R435, R437), with the manifest's own bytes. -/
structure Snap where
  epoch      : Nat
  step       : Nat
  ranges     : List (Nat × Nat)
  bytes      : Sparse Byte
  objs       : List (Nat × Word32 × Word32)
  shardTable : Nat
  shardRecs  : Nat
  queues     : List StageQueue
  tensors    : List Tensor
  manifest   : List Byte
  deriving DecidableEq, Repr

/-- Snapshot and survival state of one bound job on this member (chapter 13). -/
structure Survival where
  threshold  : Nat
  maxSteps   : Nat
  k          : Nat
  m          : Nat
  axis       : Nat
  /-- MODE K4 (R454). -/
  k4         : Bool
  mirrorMiB  : Nat
  nextSnap   : Nat
  /-- Snapshot being taken (0 none), its step epoch, and how far this member is (0 none, 1 boundary copy, 2 writing, 3 written and SNAP_OK sent). -/
  taking     : Nat
  takingStep : Nat
  phase      : Nat
  okFrom     : List Nat
  lastSnap   : Nat
  lastStep   : Nat
  trigger    : Nat
  stepsSince : Nat
  orderNow   : Bool
  orderRisk  : Bool
  orderDetach : Bool
  riskSent   : Bool
  tensors    : List Tensor
  landing    : Nat
  /-- Rank of this member's partner, and of the root's (R443). -/
  partner    : Option Nat
  rootPartner : Option Nat
  correlated : Bool
  /-- Seconds since the last committed snapshot (Table 13.1). -/
  age        : Nat
  lost       : List Nat
  spares     : List Spare
  subst      : Sparse Nat
  report     : List ReportLine
  /-- The landing set of the last committed snapshot, the one being written, and the checkpoint SNAP_IMPORT supplied. -/
  saved      : Option Snap
  draft      : Option Snap
  exported   : Option Snap
  /-- The restore in progress waits for an exported checkpoint (R449). -/
  useExport  : Bool
  /-- At the acting root: the epoch with which the restored job relaunches once every spare is READY (R447). -/
  relaunch   : Option Nat
  deriving DecidableEq, Repr

/-- A decision a member keeps in its journal (R420). -/
structure Decision where
  epoch  : Nat
  commit : Bool
  snap   : Option Nat
  deriving DecidableEq, Repr

/-- The binding of a context to a job (R394, Table 12.1) and the step machine of this member (Tables 12.9 and 12.10). -/
structure Job where
  fpn        : Nat
  pipeV      : Nat
  pipeW      : Nat
  origin     : List Nat
  extent     : List Nat
  stepFirst  : Nat
  stepObj    : Nat
  reduceAt   : Nat
  proposeAt  : Nat
  proposeMs  : Nat
  decisionMs : Nat
  causes     : List (Nat × Nat)
  launches   : List (Nat × Nat × Nat)
  epoch      : Nat
  st         : StepState
  /-- Launched and not yet ended at this epoch: the step is under way rather than standing at its boundary. -/
  launched   : Bool
  discards   : Nat
  /-- Children that have sent OK for this epoch; an OK for the next epoch stands as the rank + 2^32. -/
  childOk    : List Nat
  failed     : Bool
  failCause  : Nat
  failFab    : Nat
  failSite   : Nat
  failTrap   : Nat
  votedUp    : Bool
  decision   : Option Decision
  /-- At the root: the records waiting for the partner's acknowledgment (R420). -/
  awaiting   : List JournalKind
  /-- Records kept for a root whose partner this member is (R420, R421). -/
  partnerRec : List (JournalKind × Nat)
  partnerAbort : List Nat
  queries    : Nat
  lostFlag   : Bool
  anyLost    : Bool
  discarded  : List Nat
  haltHeld   : Bool
  retries    : Bool
  shardTable : Nat
  shardRecs  : Nat
  queues     : List StageQueue
  reshard    : Reshard
  surv       : Survival
  deriving DecidableEq, Repr

/-- A context (R388 to R392), with what its VMOD declares (Table 4.17) and its numerics settings (Table 8.11). -/
structure Ctx where
  slot       : Nat
  owner      : Nat
  code       : List Word64
  entries    : List Entry
  constSec   : List Byte
  debugSec   : List Byte
  sbEntries  : Nat
  wdW        : Nat
  maxGroups  : Nat
  accTiles   : Nat
  scratchKib : Nat
  syncObjects : Nat
  digest     : List Byte
  fwVersion  : BitVec 32
  defaultArg : BitVec 64
  hold       : Bool
  maps       : List MapRange
  vids       : List Nat
  handles    : Sparse (List Handle)
  recSteps   : Nat
  shadowK    : Nat
  shadowLim  : Int
  census     : Sparse Nat
  unreg      : Nat
  /-- Collectives issued so far by 256 × cluster + AXES (R399). -/
  collCount  : Sparse Nat
  job        : Option Job
  deriving DecidableEq, Repr

/-- A block on a cluster (R390): groups in placement order, tiles, scratchpad share, barriers' watchdogs and scale references (R263). -/
structure Block where
  ctx     : Nat
  groups  : List GroupId
  tileBase : Nat
  tiles   : Nat
  kib     : Nat
  doneVid : Option Nat
  stat    : BitVec 64
  strm    : BitVec 64
  drain   : BitVec 64
  /-- Writes of the references that no barrier has ordered yet (R263): which (0 STAT, 1 STRM, 2 DRAIN), the writing group's index, the old value. -/
  stale   : List (Nat × Nat × BitVec 64)
  /-- Watchdog counters of barriers 0 to 3 (R96). -/
  wd      : Sparse Nat
  deriving DecidableEq, Repr

/-- Group states of a placed group (Table 3.6; FREE is no group at all). -/
inductive GState where
  | active
  | halted
  | held
  deriving DecidableEq, Repr

/-- A convergence site (R90). -/
structure Site where
  addr   : BitVec 64
  expect : BitVec 64
  parked : BitVec 64
  deriving DecidableEq, Repr

/-- A variable-latency result on its way (R85): destination designator, threads, the values read, and the threads that read poison. -/
structure Pend where
  dest   : Nat
  mask   : BitVec 64
  vals   : List Word64
  poison : BitVec 64
  paddr  : Nat
  pspace : Nat
  ready  : Bool
  /-- Message number a GET with REG waits for. -/
  msg    : Option Nat
  deriving DecidableEq, Repr

/-- A resident group (R13, R87, R103, Table 3.11, Table 4.16). -/
structure Group where
  st       : GState
  ctx      : Nat
  block    : Nat
  idx      : Nat
  lastTrap : Nat
  live     : BitVec 64
  pcs      : Sparse Word64
  v        : Sparse Word32
  u        : Sparse Word64
  p        : Sparse Bool
  sites    : List Site
  /-- Threads parked at barriers 0 to 3 (R93). -/
  bars     : Sparse (BitVec 64)
  collMask : BitVec 64
  collPc   : Word64
  pend     : List Pend
  /-- Poisoned registers (R106): key 64 × register code + thread for v, 64 × code for u; value is the address and space of the poison. -/
  poisoned : Sparse (Nat × Nat)
  /-- Stalled on a QUEUE 0 wait (R336). -/
  stalled  : Bool
  /-- The next instruction is not checked against breakpoints (R112). -/
  skipBp   : Bool
  deriving DecidableEq, Repr

/-- A breakpoint of a unit (R114). -/
structure Bp where
  ctx  : Nat
  slots : BitVec 16
  addr : Word64
  deriving DecidableEq, Repr

/-- A watchpoint of a cluster (R115): kind 1 read, 2 write, 3 both. -/
structure Wp where
  ctx  : Nat
  kind : Nat
  l    : Nat
  base : Nat
  deriving DecidableEq, Repr

/-- A unit: sticky flags (R181), scheduler pointer (R82) and breakpoints 0 to 7. -/
structure UnitSt where
  flags : BitVec 4
  ptr   : Nat
  bps   : Sparse Bp
  deriving DecidableEq, Repr

/-! ## Engines -/

/-- Accumulator tile metadata (Table 6.22). -/
structure TileMeta where
  int     : Bool
  exp     : Int
  invalid : Bool
  tags    : Sparse (BitVec 12)
  poison  : BitVec 32
  deriving DecidableEq, Repr

/-- A matrix command in the command queue (R199), with everything captured at issue; tiles are physical (R217), `n` is
the tile of the block. -/
inductive MatCmd where
  | mcfg (ctx : Nat) (word : Word64)
  | mload (ctx : Nat) (h : Handle) (defer : Bool)
  | mmul (ctx : Nat) (tile : Nat) (addr stride : Nat) (h : Option Handle) (yAddr : Nat) (type : Nat) (acc : Bool) (kind rows : Nat)
      (pair half : Bool) (strm : BitVec 64) (live : BitVec 64)
  | mfill (ctx : Nat) (tile : Nat) (addr : Nat) (h : Handle) (type : Nat) (acc : Bool) (rows first : Nat) (tag : BitVec 12)
      (strm : BitVec 64) (live : BitVec 64)
  | madapt (ctx : Nat) (tile : Nat) (desc : Nat) (tagSrc : Word64) (rank type : Nat) (live : BitVec 64)
  | mdrain (ctx : Nat) (n tile : Nat) (addr stride : Nat) (type round : Nat) (clear fence : Bool) (drain : BitVec 64) (epoch : Nat)
      (obj : Option Nat) (site : BitVec 32)
  deriving DecidableEq, Repr

/-- One MFILL request of a batch (R203). -/
structure FillReq where
  tile  : Nat
  addr  : Nat
  type  : Nat
  acc   : Bool
  rows  : Nat
  first : Nat
  tag   : BitVec 12
  strm  : BitVec 64
  live  : BitVec 64
  deriving DecidableEq, Repr

/-- An open fill batch (R204). -/
structure Batch where
  ctx  : Nat
  h    : Handle
  timeout : Nat
  reqs : List FillReq
  deriving DecidableEq, Repr

/-- A stationary bank (R193): the entry it was loaded from, raw rows, scale codes of its tiles, and whether a granule was poisoned. -/
structure Bank where
  ctx    : Nat
  h      : Handle
  rows   : List (List Byte)
  codes  : List Int
  poison : Bool
  deriving DecidableEq, Repr

/-- A finished engine command that has still to signal (R143). -/
structure Done where
  engine : Engine
  ctx    : Nat
  obj    : Option Nat
  site   : BitVec 32
  /-- Mark carried by the completion: kind 1 POISON, 2 SHARD_STALE, with DETAIL0 and DETAIL1 (R338). -/
  mark   : Option (Nat × Nat × Nat)
  deriving DecidableEq, Repr

/-- A stream command in the stream queue (R224 to R228), or a QUEUE 1 wait. -/
inductive SeqEntry where
  | cmd (op ctx base tiles : Nat) (obj : Option Nat) (site : BitVec 32) (desc : Nat) (inline : Option Word64) (s0 s1 s2 s3 : Word32) (epoch : Nat)
  | wait (ctx vid : Nat) (take : Bool) (operand : Word32) (site : BitVec 32)
  deriving DecidableEq, Repr

/-- A DMA command in the DMA queue (R313), or a QUEUE 2 wait. -/
inductive DmaEntry where
  | copy (ctx : Nat) (dst src len : Nat) (obj : Option Nat) (site : BitVec 32)
  | wait (ctx vid : Nat) (take : Bool) (operand : Word32) (site : BitVec 32)
  deriving DecidableEq, Repr

/-- An entry of the fabric send queue (R371). -/
inductive SendEntry where
  | put (ctx : Nat) (laddr len : Nat) (dest : Word64) (raddr : Nat) (obj : Option Nat) (site : BitVec 32)
  | get (ctx : Nat) (laddr len : Nat) (dest : Word64) (raddr : Nat) (obj : Option Nat) (site : BitVec 32) (reg : Option (GroupId × Nat))
  | acc (ctx : Nat) (laddr len : Nat) (dest : Word64) (raddr : Nat) (type : Nat) (obj : Option Nat) (site : BitVec 32)
  | coll (ctx : Nat) (desc : Nat) (code : Nat) (obj : Option Nat) (site : BitVec 32)
  | signal (ctx : Nat) (dest vid : Nat) (set : Bool) (value : Word32) (site : BitVec 32)
  | wait (ctx vid : Nat) (take : Bool) (operand : Word32) (site : BitVec 32)
  deriving DecidableEq, Repr

/-- A message with packets not yet acknowledged (R371, R372). -/
structure Msg where
  num    : Nat
  ctx    : Nat
  fpn    : Nat
  txn    : Nat
  dest   : Nat
  raddr  : Nat
  laddr  : Nat
  len    : Nat
  npkt   : Nat
  acked  : BitVec 16
  obj    : Option Nat
  site   : BitVec 32
  notify : Option Nat
  reg    : Option (GroupId × Nat)
  /-- Address and space that the completion's POISON mark will name: poison read at the source, a packet that arrived poisoned or was
  rejected (R305, R373). -/
  bad    : Option (Nat × Nat)
  deriving DecidableEq, Repr

/-- The status of the command at the head of the stream queue (R229, R236): none before its descriptor is read. -/
structure HeadDesc where
  code   : Nat
  offset : Nat
  bytes  : List Byte
  waiting : Bool
  deriving DecidableEq, Repr

/-- A captured shadow sample (R274): the tile's operand values, prior values, results and the tag and context it belongs to. -/
structure ShadowSample where
  ctx    : Nat
  tag    : Nat
  epoch  : Nat
  cols   : List (List FVal)
  /-- Streamed row, prior values and result of each row written. -/
  rows   : List (List FVal × List Word32 × List Word32)
  deriving DecidableEq, Repr

/-- A cluster: array, accumulator file, stream engine, DMA engine and fabric send queue. -/
structure Cluster where
  shape     : Nat
  timeout   : Nat
  issShape  : Nat
  /-- Follower of a SPAN pair, as the issue checks see it (Table 6.3). -/
  follower  : Bool
  mq        : List MatCmd
  batches   : List Batch
  active    : Sparse Bank
  shadow    : Sparse Bank
  acc       : Sparse Word32
  tmeta     : Sparse TileMeta
  drains    : List MatCmd
  matFlags  : BitVec 4
  seFlags   : BitVec 4
  sq        : List SeqEntry
  head      : Option HeadDesc
  dq        : List DmaEntry
  fq        : List SendEntry
  /-- The wait at the head of the stream, DMA (1), send (2) queue has been presented to its object: keys 0 to 2. -/
  atWait    : Sparse Bool
  done      : List Done
  msgs      : List Msg
  nextMsg   : Nat
  blocks    : Sparse Block
  wps       : Sparse Wp
  gap       : Nat
  sample    : Option ShadowSample
  handleN   : Nat
  deriving DecidableEq, Repr

/-! ## Synchronisation objects -/

/-- A waiter (Table 10.12). -/
structure Waiter where
  seq     : Nat
  queue   : Nat
  take    : Bool
  operand : Word32
  site    : BitVec 32
  since   : BitVec 64
  group   : Option GroupId
  /-- Address of the group's WAIT. -/
  pc      : Word64
  cluster : Nat
  deriving DecidableEq, Repr

/-- A physical object (R319, Table 10.11). -/
structure Obj where
  ctx      : Nat
  vid      : Nat
  value    : Word32
  base     : Word32
  mark     : Option (Nat × Nat × Nat)
  obs      : List Waiter
  cons     : List Waiter
  seq      : Nat
  lastSrc  : BitVec 32
  lastSite : BitVec 32
  lastOp   : Nat
  lastEpoch : Nat
  deriving DecidableEq, Repr

/-- A change on its way to a home store (R328, R329). -/
structure Signal where
  ctx    : Nat
  vid    : Nat
  set    : Bool
  value  : Word32
  src    : BitVec 32
  site   : BitVec 32
  op     : Nat
  mark   : Option (Nat × Nat × Nat)
  /-- Ring and tag of a SYNC_SIGNAL that completes when the change is applied (R344). -/
  host   : Option (RingId × BitVec 16)
  deriving DecidableEq, Repr

/-- A wait on its way to a home store, or refused there for want of an entry (R334, R335). -/
structure WaitMsg where
  ctx     : Nat
  vid     : Nat
  take    : Bool
  operand : Word32
  queue   : Nat
  group   : Option GroupId
  pc      : Word64
  cluster : Nat
  site    : BitVec 32
  deriving DecidableEq, Repr

/-- The home stores and what is in flight to them. -/
structure SyncSys where
  objs     : Sparse Obj
  inflight : List Signal
  arriving : List WaitMsg
  refused  : List WaitMsg
  deriving DecidableEq, Repr

/-! ## The fabric -/

/-- Link states with their codes (Table 11.2). -/
inductive LinkState where
  | disabled
  | detect
  | equalise
  | align
  | exchange
  | active
  | retrain
  | down
  | miswired
  deriving DecidableEq, Repr

/-- A packet (Tables 11.8 and 11.9). -/
structure Packet where
  dest   : Nat
  src    : Nat
  fpn    : Nat
  txn    : Nat
  ord    : Bool
  adapt  : Bool
  bulk   : Bool
  notify : Bool
  enc    : Bool
  key    : Nat
  msg    : Nat
  pkt    : Nat
  npkt   : Nat
  axis   : Nat
  dir    : Bool
  status : Nat
  site   : BitVec 32
  addr   : Nat
  arg0   : BitVec 64
  arg1   : BitVec 64
  data   : List Byte
  nonce  : BitVec 64
  pmask  : BitVec 64
  crc    : BitVec 32
  tag    : List Byte
  deriving DecidableEq, Repr

/-- A DATA flit in the replay buffer, which keeps only KIND, VC, SEQ and the payload (R356). -/
structure TxFlit where
  vc      : Nat
  seq     : Nat
  payload : List Byte
  /-- Credit share: the FPN's slot, 7 for management traffic (R361, R363). -/
  share   : Nat
  /-- Flits of the same packet that follow, the flits of the whole packet, and its ORD flag (R358, R367, R383). -/
  left    : Nat
  total   : Nat
  ord     : Bool
  deriving DecidableEq, Repr

/-- Error injection on a link (Table 11.14). -/
structure Inject where
  kind  : Nat
  vcs   : BitVec 8
  rate  : Nat
  count : Nat
  delay : Nat
  deriving DecidableEq, Repr

/-- A halt symbol still to be sent on a link (R381). -/
structure HaltTx where
  fpn  : Nat
  id   : Nat
  left : Nat
  deriving DecidableEq, Repr

/-- A link controller. -/
structure Link where
  st       : LinkState
  attempts : Nat
  nextSeq  : Nat
  expSeq   : Nat
  ackSent  : Nat
  nakOwed  : Bool
  nakDone  : Bool
  replay   : List TxFlit
  txq      : List TxFlit
  /-- Credits left by 8 × share + VC; share 7 stands for unsealed. -/
  credits  : Sparse Int
  crOwed   : Sparse Nat
  rxPart   : Sparse (List Byte)
  farSealed : Bool
  retrains : Nat
  inject   : Option Inject
  halts    : List HaltTx
  keyCtr   : Sparse Nat
  keyLow   : List Nat
  noProgress : Nat
  /-- Ordered packets of this slot stay on the failover link until the next module reset (R359). -/
  displaced : Bool
  /-- Flits that have left on the line (the model's own output field), newest last. -/
  wire     : List (List Byte)
  deriving DecidableEq, Repr

/-- Contributions and progress of one collective on this member (R399 to R403). -/
structure Collective where
  ctx     : Nat
  axes    : Nat
  number  : Nat
  code    : Nat
  /-- Issuing cluster, descriptor address, completion object and site, in order of arrival. -/
  issuers : List (Nat × Nat × Option Nat × BitVec 32)
  /-- The first issuer's descriptor; empty while only chunks have arrived. -/
  desc    : List Byte
  started : Bool
  /-- Element values being combined or moved: pairs as their 8 bytes stand in memory. -/
  acc     : List Word64
  /-- Chunks that arrived before the member started. -/
  held    : List Packet
  /-- Elements received, by 256 × axis + ring step. -/
  got     : Sparse Nat
  /-- Exchange stages sent. -/
  sent    : Nat
  /-- Some of DST has been written. -/
  wrote   : Bool
  /-- An operand was poisoned (R305). -/
  poison  : Bool
  deriving DecidableEq, Repr

/-- The Lanit side of the module. -/
structure Fabric where
  links     : Sparse Link
  dead      : List (Nat × Nat)
  /-- Halt identifiers h by FPN (R381), and the local time of the last wave this module originated by FPN (R380). -/
  haltId    : Sparse Nat
  haltAt    : Sparse Nat
  ackUs     : Nat
  adaptive  : Bool
  arrived   : List Packet
  /-- The link each arrived packet came in on, in the same order. -/
  arrivedOn : List Nat
  colls     : List Collective
  mgmtN     : Nat
  deriving DecidableEq, Repr

/-! ## Power and the carrier -/

/-- Carrier power states (Table 15.3). -/
inductive Power where
  | unpowered
  | standby
  | powerUp
  | on
  | tripped
  deriving DecidableEq, Repr

/-- One throttle budget (R501, R504). -/
structure Budget where
  level   : Nat
  /-- Samples above the sustained limit within the last second, by sample number. -/
  overs   : List Nat
  lowRun  : Nat
  riseRun : Nat
  peakRun : Nat
  watts   : Nat
  deriving DecidableEq, Repr

/-- The carrier (chapter 15). -/
structure Carrier where
  power     : Power
  inA       : Bool
  inB       : Bool
  pwrEn     : Bool
  perstN    : Bool
  refSys    : Bool
  refLink   : Bool
  refHost   : Bool
  feedA     : BitVec 8
  feedB     : BitVec 8
  inlet     : Int
  outlet    : Int
  flow      : Nat
  watts     : Nat
  sampleN   : Nat
  budgets   : Sparse Budget
  dieTemp   : Sparse Int
  dieRise   : Sparse Nat
  critical  : Bool
  alerts    : List Nat
  /-- Alerts whose condition has cleared but which no HEALTH_RSP has reported yet (R507). -/
  cleared   : List Nat
  isolated  : List Nat
  tripCause : Nat
  chainPass : Bool
  deriving DecidableEq, Repr

/-- Inputs of the risk estimate (R433, R434): decaying counts kept in 1/65,536 of an event. -/
structure Risk where
  value    : Nat
  memErr   : Nat
  linkEv   : Nat
  replays  : Nat
  droops   : Nat
  neigh    : Nat
  halfLife : Nat
  snapAge  : Nat
  deriving DecidableEq, Repr

/-- What leaves the module (the model's own output fields): chain frames and MSI-X messages in order. -/
structure Tx where
  chain : List ChainFrame
  msix  : List (RingId × Nat)
  deriving DecidableEq, Repr

/-- The state of the block. -/
structure State where
  /-- Commands waiting, first in, first out. -/
  pending  : List Instr
  part     : Part
  /-- The module-local counter (R31). -/
  time     : BitVec 64
  /-- The model's own counter for free values; no statement rests on its value. -/
  free     : Nat
  rings    : Sparse Ring
  fnEvents : Sparse FnEvents
  hostMem  : Sparse Byte
  hostFail : List (Nat × Nat)
  lantern  : Lantern
  keep     : Keep
  mem      : MemSys
  ctxs     : Sparse Ctx
  nextCtx  : Nat
  groups   : Sparse Group
  units    : Sparse UnitSt
  clusters : Sparse Cluster
  sync     : SyncSys
  fabric   : Fabric
  carrier  : Carrier
  risk     : Risk
  /-- Journals in lantern data, kept across a module warm reset, by FPN (R420, R427, R437). -/
  journals : Sparse Job
  /-- Telemetry counters by identifier (R65). -/
  counters : Sparse Nat
  tx       : Tx
  deriving DecidableEq, Repr

/-! ## After reset

The module as it is found before any input is accepted: carrier UNPOWERED (Table 15.3), nothing in the main domain, fuses as shipped. Registers
take the reset values of chapters 2, 6 and 10; a value the spec does not give is named in the assumption log. -/

/-- BAR0 and rings of a function after reset (Tables 2.6 to 2.11): every cause masked. -/
def Ring.fresh : Ring :=
  { en := false, loc := false, sqLog2 := 0, cqLog2 := 0, ready := false, errCfg := false, errFetch := false, errDb := false, sqHead := 0,
    sqTail := 0, cqHead := 0, cqTail := 0, phase := true, sqBase := 0, cqBase := 0, hisStatus := 0, hisMask := 0x3F, latch := [], rdata := 0,
    out := [], waiting := [], bar2 := [] }

def FnEvents.fresh : FnEvents := { nextSeq := 1, recs := [], held := [], lost := 0 }

def FwSlot.fresh : FwSlot := { st := .empty, version := 0, svn := 0, evalBit := false, virdyMax := 1, image := [] }

/-- A firmware image of a header alone (Table 14.6: SVN 0, version 0, VIRDY_MAX 1, IMAGE_BYTES 64) and a signature block whose signatures are zero bytes. -/
def bareImage : List Byte :=
  [0x4B, 0x35, 0x46, 0x57, 1, 0, 0, 0] ++ List.replicate 4 0 ++ [1, 0, 0, 0] ++ [64] ++ List.replicate 47 0 ++ [3, 0, 0, 0, 1, 0, 0, 0] ++ List.replicate 3376 0

/-- No survey since boot (Table 2.22a). -/
def Survey.fresh : Survey :=
  { st := 0, flags := 0, lengths := [0, 0, 0, 0, 0, 0], shelfAxis := 0, fabricId := none, coord := [], port := none, confCoord := [], confPort := none }

/-- The lantern at the start of boot, with slot A active. -/
def Lantern.fresh : Lantern :=
  { mstate := .boot, standby := false, serving := false, slotA := { FwSlot.fresh with st := .active, image := bareImage }, slotB := FwSlot.fresh, bootSlot := false,
    bootFails := 0, recoveryBoot := false, staged := none, fwWriting := false, fabricId := 0, coord := [0, 0, 0, 0, 0, 0], fabValid := false,
    lengths := [1, 1, 1, 1, 1, 1], survey := Survey.fresh, load := 0, shed := 0, shedLow := 0, clsLoad := [], clsShed := [], clsLow := [],
    tlmPeriod := 1000, tlmStretch := 1, tlmSkip := 0, samples := [], chainAddr := none, shelf := 0xFFFF, chainLast := [], rescue := [],
    rescueSlot := false, restartBy := [], detachBy := none, detachMode := 0, detail1 := false }

def Partition.fresh : Partition := { exist := false, adminDebug := false, scrubbed := false }

/-- The keep of a module in service: FIELD, provisioning records 0 and 1 used (R467). -/
def Keep.fresh : Keep :=
  { lc := 2, pendingLc := none,
    recs := [{ target := 1, digest := [], intentA := true, intentB := true, commitA := true, commitB := true },
             { target := 2, digest := [], intentA := true, intentB := true, commitA := true, commitB := true }],
    svn := 0, boots := 0, nonce := none, entropyN := 0, keysOk := true, linkKeys := [], sendSlot := [], sealed := false, k4Import := false,
    pf0Keys := false, parts := [], shared := [], certs := [] }

def Stack.fresh : Stack := { temp := 25, level := 0, low := 0, refresh := 1, stopped := false }

def MemSys.fresh : MemSys :=
  { bytes := [], poison := [], errs := [], slots := [], scrubbed := [], stackSt := [], t1 := 95, t2 := 100, t3 := 103, patrolH := 24 }

/-- Metadata after scrub or CLEAR (Table 6.22). -/
def TileMeta.fresh : TileMeta := { int := false, exp := 0, invalid := false, tags := [], poison := 0 }

def UnitSt.fresh : UnitSt := { flags := 0, ptr := 15, bps := [] }

/-- A cluster after any reset of R222: FULL, FILL_TIMEOUT 256 (Table 6.2), queues empty. -/
def Cluster.fresh : Cluster :=
  { shape := 0, timeout := 256, issShape := 0, follower := false, mq := [], batches := [], active := [], shadow := [], acc := [], tmeta := [],
    drains := [], matFlags := 0, seFlags := 0, sq := [], head := none, dq := [], fq := [], atWait := [], done := [], msgs := [], nextMsg := 0,
    blocks := [], wps := [], gap := 1, sample := none, handleN := 0 }

def Link.fresh : Link :=
  { st := .disabled, attempts := 0, nextSeq := 0, expSeq := 0, ackSent := 4095, nakOwed := false, nakDone := false, replay := [], txq := [],
    credits := [], crOwed := [], rxPart := [], farSealed := false, retrains := 0, inject := none, halts := [], keyCtr := [], keyLow := [],
    noProgress := 0, displaced := false, wire := [] }

/-- ACK_TIMEOUT 200 µs and adaptive routing on (R372, R366). -/
def Fabric.fresh : Fabric :=
  { links := [], dead := [], haltId := [], haltAt := [], ackUs := 200, adaptive := true, arrived := [], arrivedOn := [], colls := [], mgmtN := 0 }

def SyncSys.fresh : SyncSys := { objs := [], inflight := [], arriving := [], refused := [] }

def Budget.fresh : Budget := { level := 0, overs := [], lowRun := 0, riseRun := 0, peakRun := 0, watts := 0 }

/-- No input, PWR_EN and HOST_PERST_N pulled down (R497, R510), clocks present, coolant at 25 °C. -/
def Carrier.fresh : Carrier :=
  { power := .unpowered, inA := false, inB := false, pwrEn := false, perstN := false, refSys := true, refLink := true, refHost := true, feedA := 0,
    feedB := 0, inlet := 25, outlet := 25, flow := 160, watts := 0, sampleN := 0, budgets := [], dieTemp := [], dieRise := [], critical := false,
    alerts := [], cleared := [], isolated := [], tripCause := 0, chainPass := false }

def Risk.fresh : Risk := { value := 0, memErr := 0, linkEv := 0, replays := 0, droops := 0, neigh := 0, halfLife := 600, snapAge := 0 }

/-- The module right after reset. -/
def State.reset : State :=
  { pending := [], part := { order := .h96, serial := [], cert := [], slotid := 0, evalLock := false }, time := 0, free := 0, rings := [],
    fnEvents := [], hostMem := [], hostFail := [], lantern := Lantern.fresh, keep := Keep.fresh, mem := MemSys.fresh, ctxs := [], nextCtx := 1,
    groups := [], units := [], clusters := [], sync := SyncSys.fresh, fabric := Fabric.fresh, carrier := Carrier.fresh, risk := Risk.fresh, journals := [],
    counters := [], tx := { chain := [], msix := [] } }

end Sys2Proof.Machine
end

