-- ==== Sys2Proof/Machine/Ops.lean ====
section
/-! DEFINITION. The named operations over sparse tables, bytes, registers and the address map, which every other file uses. -/

namespace Sys2Proof.Machine

/-! ## Sparse tables -/

/-- The entry of key `k`, if one is listed. -/
def Sparse.find? {α : Type} : Sparse α → Nat → Option α
  | [], _ => none
  | (a, v) :: r, k => if a = k then some v else Sparse.find? r k

/-- `m` with the entry of key `k` set to `v`, keys kept in rising order. -/
def Sparse.set {α : Type} : Sparse α → Nat → α → Sparse α
  | [], k, v => [(k, v)]
  | (a, w) :: r, k, v => if a = k then (k, v) :: r else if k < a then (k, v) :: (a, w) :: r else (a, w) :: Sparse.set r k v

/-- `m` without an entry of key `k`. -/
def Sparse.del {α : Type} (m : Sparse α) (k : Nat) : Sparse α := m.filter (fun e => e.1 != k)

/-- The value of key `k`, the default when none is listed. -/
def Sparse.get {α : Type} (d : α) (m : Sparse α) (k : Nat) : α := (Sparse.find? m k).getD d

/-- `m` with the value of key `k` set to `v`; the default value is never listed. -/
def Sparse.put {α : Type} [DecidableEq α] (d : α) (m : Sparse α) (k : Nat) (v : α) : Sparse α :=
  if v = d then Sparse.del m k else Sparse.set m k v

/-- Keys strictly rising. -/
def Sparse.rising {α : Type} : Sparse α → Bool
  | [] => true
  | [_] => true
  | (a, _) :: (b, w) :: r => decide (a < b) && Sparse.rising ((b, w) :: r)

/-- The canonical form of a table with default `d`: keys strictly rising and no entry equal to the default. -/
def Sparse.wf {α : Type} [DecidableEq α] (d : α) (m : Sparse α) : Bool :=
  Sparse.rising m && m.all (fun e => decide (e.2 ≠ d))

/-- `m` without the entries whose keys lie in [lo, hi). -/
def Sparse.clear {α : Type} (m : Sparse α) (lo hi : Nat) : Sparse α := m.filter (fun e => decide (e.1 < lo) || decide (hi ≤ e.1))

/-- The keys listed in [lo, hi). -/
def Sparse.keysIn {α : Type} (m : Sparse α) (lo hi : Nat) : List Nat :=
  (m.filter (fun e => decide (lo ≤ e.1) && decide (e.1 < hi))).map (fun e => e.1)

/-! ## Memory: bytes by address, 0 where nothing is listed -/

/-- What an unlisted byte reads as. -/
def Memory.blank : Byte := 0

/-- The canonical form of memory. -/
def Memory.wf (m : Sparse Byte) : Bool := Sparse.wf Memory.blank m

def Memory.read (m : Sparse Byte) (a : Nat) : Byte := Sparse.get Memory.blank m a

def Memory.write (m : Sparse Byte) (a : Nat) (b : Byte) : Sparse Byte := Sparse.put Memory.blank m a b

/-- `n` bytes from address `a`. -/
def Memory.load (m : Sparse Byte) (a n : Nat) : List Byte := (List.range n).map (fun i => Memory.read m (a + i))

/-- The bytes `bs` stored from address `a` on. -/
def Memory.store (m : Sparse Byte) (a : Nat) : List Byte → Sparse Byte
  | [] => m
  | b :: bs => Memory.store (Memory.write m a b) (a + 1) bs

/-- Zero written to [lo, hi). -/
def Memory.zero (m : Sparse Byte) (lo hi : Nat) : Sparse Byte := Sparse.clear m lo hi

/-! ## Little-endian bytes (R7) -/

def leNat : List Byte → Nat
  | [] => 0
  | b :: bs => b.toNat + 256 * leNat bs

def leBytes : Nat → Nat → List Byte
  | 0, _ => []
  | n + 1, x => BitVec.ofNat 8 x :: leBytes n (x / 256)

/-- The field of `n` bytes at offset `o` of a record. -/
def field (bs : List Byte) (o n : Nat) : Nat := leNat ((bs.drop o).take n)

/-- The byte at offset `o`, 0 beyond the end. -/
def byteAt (bs : List Byte) (o : Nat) : Byte := bs.getD o 0

/-- Whether `n` bytes at offset `o` are all zero. -/
def zeroAt (bs : List Byte) (o n : Nat) : Bool := ((bs.drop o).take n).all (fun b => b == 0)

/-- A run of `n` zero bytes. -/
def zeros (n : Nat) : List Byte := List.replicate n 0

/-- `bs` cut or zero-padded to `n` bytes. -/
def padTo (n : Nat) (bs : List Byte) : List Byte := (bs ++ zeros n).take n

/-- A two's-complement reading of the low `n` bits of `x`. -/
def signed (n x : Nat) : Int := if x % 2 ^ n < 2 ^ (n - 1) then (x % 2 ^ n : Nat) else ((x % 2 ^ n : Nat) : Int) - (2 ^ n : Nat)

/-- The low `n` bits of an integer, as a natural number. -/
def unsign (n : Nat) (x : Int) : Nat := (x % ((2 ^ n : Nat) : Int)).toNat

/-! ## Threads -/

/-- Threads of a mask, in ascending order. -/
def threads (m : BitVec 64) : List Nat := (List.range 64).filter (fun t => m.getLsbD t)

/-- The mask of the threads that satisfy `f`. -/
def maskOf (f : Nat → Bool) : BitVec 64 := BitVec.ofNat 64 (((List.range 64).filter f).foldl (fun a t => a + 2 ^ t) 0)

def popMask (m : BitVec 64) : Nat := (threads m).length

/-! ## Geometry (R19 to R23) -/

def dieOf (c : Nat) : Nat := if c < 576 then c / 24 else 24 + (c - 576) / 8
def regionOf (c : Nat) : Nat := if c < 576 then (c % 24) / 6 else ((c - 576) % 8) / 4
def posOf (c : Nat) : Nat := if c < 576 then c % 6 else (c - 576) % 4

/-- The partition slot whose spire dies hold cluster `c` (R23). -/
def spireSlot (c : Nat) : Option Nat := if c < 576 then some (c / 96) else none

/-- Belfry position of a belfry cluster (R477). -/
def belfryPos (c : Nat) : Nat := (c - 576) % 8

/-- The clusters of partition slot `i`: its spire clusters and one belfry cluster on each belfry die (R477). -/
def slotClusters (i : Nat) : List Nat :=
  if i < 6 then (List.range 96).map (fun n => 96 * i + n) ++ (List.range 8).map (fun j => 576 + 8 * j + i)
  else (List.range 8).flatMap (fun j => [576 + 8 * j + 6, 576 + 8 * j + 7])

/-- Whether cluster `c` belongs to slot `i` (Table 12.0a, check 2). -/
def clusterOfSlot (i c : Nat) : Bool :=
  if i < 6 then (c < 576 && c / 96 == i) || (decide (576 ≤ c) && decide (c < 640) && belfryPos c == i)
  else decide (576 ≤ c) && decide (c < 640) && decide (6 ≤ belfryPos c)

/-- The site word (Table 1.2). -/
def siteWord (c u sl t : Nat) : BitVec 32 :=
  BitVec.ofNat 32 (c % 1024 + (u % 4) * 2 ^ 10 + (sl % 16) * 2 ^ 12 + (t % 64) * 2 ^ 16 + (dieOf c) * 2 ^ 22 + (regionOf c) * 2 ^ 27 + (posOf c) * 2 ^ 29)

def groupSite (g : GroupId) : BitVec 32 := siteWord g.cluster g.unit g.slot 0

def clusterSite (c : Nat) : BitVec 32 := siteWord c 0 0 0

def groupKey (g : GroupId) : Nat := (4 * g.cluster + g.unit) * 16 + g.slot

def unitKey (g : GroupId) : Nat := 4 * g.cluster + g.unit

def groupOfKey (k : Nat) : GroupId := { cluster := k / 64, unit := (k / 16) % 4, slot := k % 16 }

/-- Whether a site word supplied by software agrees with itself (R22). -/
def siteAgrees (w : BitVec 32) : Bool :=
  let c := w.toNat % 1024
  decide (c < 640) && (w.toNat / 2 ^ 22) % 32 == dieOf c && (w.toNat / 2 ^ 27) % 4 == regionOf c && (w.toNat / 2 ^ 29) % 8 == posOf c

def siteCluster (w : BitVec 32) : Nat := w.toNat % 1024
def siteUnit (w : BitVec 32) : Nat := (w.toNat / 2 ^ 10) % 4
def siteSlot (w : BitVec 32) : Nat := (w.toNat / 2 ^ 12) % 16
def siteThread (w : BitVec 32) : Nat := (w.toNat / 2 ^ 16) % 64
def siteDie (w : BitVec 32) : Nat := (w.toNat / 2 ^ 22) % 32

/-! ## The address map (Table 9.1, R282 to R298) -/

def slotCount : OrderNo → Nat
  | .h64 => 56
  | _ => 84

def slotBytes : Nat := 0xC_0000_0000

def remBase : OrderNo → Nat
  | .h64 => 0x2A0_0000_0000
  | _ => 0x3F0_0000_0000

def remPiece : OrderNo → Nat
  | .h64 => 0x2000_0000
  | _ => 0x3000_0000

def resBase : OrderNo → Nat
  | .h64 => 0x2A3_0000_0000
  | _ => 0x3F4_8000_0000

def resPiece : OrderNo → Nat
  | .h64 => 0xF000_0000
  | _ => 0x1_6800_0000

def spBase : Nat := 0x1000_0000_0000
def spBytes : Nat := 0x200_0000

/-- The scratchpad of cluster `c` starts here (R283). -/
def spOf (c : Nat) : Nat := spBase + spBytes * c

/-- What a module physical address names. -/
inductive Place where
  | slot (k off : Nat)
  | rem (die off : Nat)
  | reserve (stack off : Nat)
  | scratch (cluster off : Nat)
  | none
  deriving DecidableEq, Repr

def placeOf (o : OrderNo) (a : Nat) : Place :=
  if a < slotBytes * slotCount o then .slot (a / slotBytes) (a % slotBytes)
  else if remBase o ≤ a ∧ a < remBase o + 24 * remPiece o then .rem ((a - remBase o) / remPiece o) ((a - remBase o) % remPiece o)
  else if resBase o ≤ a ∧ a < resBase o + 48 * resPiece o then .reserve ((a - resBase o) / resPiece o) ((a - resBase o) % resPiece o)
  else if spBase ≤ a ∧ a < spBase + 640 * spBytes then .scratch ((a - spBase) / spBytes) ((a - spBase) % spBytes)
  else .none

/-- The slot's assignment. -/
def MemSys.slot (m : MemSys) (k : Nat) : SlotMode := Sparse.get .free m.slots k

/-- The stack an address lies on, for stacked memory (R292, R293, R295, R296). -/
def stackOf (o : OrderNo) (m : MemSys) (a : Nat) : Option Nat :=
  match placeOf o a with
  | .slot k off =>
    match m.slot k with
    | .near _ => some (2 * (off / 0x8000_0000) + (off / 256) % 2)
    | _ => some ((off / 4096) % 48)
  | .rem d off => some (2 * d + (off / 256) % 2)
  | .reserve st _ => some st
  | _ => none

/-- Class code of Table 9.8a: 0 near, 1 far, 2 shared, 3 reserve, 4 scratchpad. -/
def classOf (o : OrderNo) (m : MemSys) (a : Nat) : Nat :=
  match placeOf o a with
  | .slot k _ =>
    match m.slot k with
    | .near _ => 0
    | .far 6 => 2
    | _ => 1
  | .rem _ _ => 0
  | .reserve _ _ => 3
  | _ => 4

/-- The partition that owns an address, if one does. -/
def ownerOf (o : OrderNo) (m : MemSys) (a : Nat) : Option Nat :=
  match placeOf o a with
  | .slot k off =>
    match m.slot k with
    | .near mask =>
      let i := (off / 0x8000_0000) / 4
      if mask.getLsbD i then some i else none
    | .far w => if w < 6 then some w else none
    | .free => none
  | .rem d _ => some (d / 4)
  | .scratch c _ => if c < 576 then some (c / 96) else none
  | _ => none

/-! ## Tables of the state -/

def portKey : Port → Nat
  | .a => 0
  | .b => 7

def ringKey (r : RingId) : Nat := portKey r.port + r.fn

def State.ring (s : State) (r : RingId) : Ring := Sparse.get Ring.fresh s.rings (ringKey r)
def State.setRing (s : State) (r : RingId) (x : Ring) : State := { s with rings := Sparse.put Ring.fresh s.rings (ringKey r) x }

def State.fev (s : State) (fn : Nat) : FnEvents := Sparse.get FnEvents.fresh s.fnEvents fn
def State.setFev (s : State) (fn : Nat) (x : FnEvents) : State := { s with fnEvents := Sparse.put FnEvents.fresh s.fnEvents fn x }

def State.group? (s : State) (g : GroupId) : Option Group := Sparse.find? s.groups (groupKey g)
def State.setGroup (s : State) (g : GroupId) (x : Group) : State := { s with groups := Sparse.set s.groups (groupKey g) x }
def State.freeGroup (s : State) (g : GroupId) : State := { s with groups := Sparse.del s.groups (groupKey g) }

def State.ctx? (s : State) (n : Nat) : Option Ctx := Sparse.find? s.ctxs n
def State.setCtx (s : State) (n : Nat) (x : Ctx) : State := { s with ctxs := Sparse.set s.ctxs n x }
def State.delCtx (s : State) (n : Nat) : State := { s with ctxs := Sparse.del s.ctxs n }

def State.cluster (s : State) (c : Nat) : Cluster := Sparse.get Cluster.fresh s.clusters c
def State.setCluster (s : State) (c : Nat) (x : Cluster) : State := { s with clusters := Sparse.put Cluster.fresh s.clusters c x }

def State.unitSt (s : State) (k : Nat) : UnitSt := Sparse.get UnitSt.fresh s.units k
def State.setUnit (s : State) (k : Nat) (x : UnitSt) : State := { s with units := Sparse.put UnitSt.fresh s.units k x }

def State.link (s : State) (n : Nat) : Link := Sparse.get Link.fresh s.fabric.links n
def State.setLink (s : State) (n : Nat) (x : Link) : State :=
  { s with fabric := { s.fabric with links := Sparse.put Link.fresh s.fabric.links n x } }

def State.part? (s : State) (i : Nat) : Partition := Sparse.get Partition.fresh s.keep.parts i
def State.setPart (s : State) (i : Nat) (x : Partition) : State :=
  { s with keep := { s.keep with parts := Sparse.put Partition.fresh s.keep.parts i x } }

def State.stack (s : State) (n : Nat) : Stack := Sparse.get Stack.fresh s.mem.stackSt n
def State.setStack (s : State) (n : Nat) (x : Stack) : State :=
  { s with mem := { s.mem with stackSt := Sparse.put Stack.fresh s.mem.stackSt n x } }

def State.obj? (s : State) (n : Nat) : Option Obj := Sparse.find? s.sync.objs n
def State.setObj (s : State) (n : Nat) (x : Obj) : State := { s with sync := { s.sync with objs := Sparse.set s.sync.objs n x } }

def State.setMem (s : State) (b : Sparse Byte) : State := { s with mem := { s.mem with bytes := b } }
def State.setHost (s : State) (b : Sparse Byte) : State := { s with hostMem := b }
def State.setLantern (s : State) (x : Lantern) : State := { s with lantern := x }
def State.setKeep (s : State) (x : Keep) : State := { s with keep := x }
def State.setCarrier (s : State) (x : Carrier) : State := { s with carrier := x }
def State.setSync (s : State) (x : SyncSys) : State := { s with sync := x }
def State.setFabric (s : State) (x : Fabric) : State := { s with fabric := x }
def State.setMemSys (s : State) (x : MemSys) : State := { s with mem := x }

/-- `n` more on telemetry counter `id` (R65). -/
def State.bump (s : State) (id n : Nat) : State := { s with counters := Sparse.put 0 s.counters id (Sparse.get 0 s.counters id + n) }

def State.counter (s : State) (id : Nat) : Nat := Sparse.get 0 s.counters id

/-- A moment with nothing commanded: the module-local counter advances by 1 (R31). -/
def idle (s : State) : State := { s with time := s.time + 1 }

/-- The next number for a free value. -/
def State.tick (s : State) : State := { s with free := s.free + 1 }

/-- The step epoch of a context: its job's, or 0 for a context bound to none. -/
def Ctx.epoch (c : Ctx) : Nat :=
  match c.job with
  | some j => j.epoch
  | none => 0

/-- The step epoch current for partition slot `i`: that of its bound context, 0 when none (R257, R417). -/
def State.slotEpoch (s : State) (i : Nat) : Nat :=
  match List.find? (fun e => e.2.slot == i && e.2.job.isSome) s.ctxs with
  | some e => e.2.epoch
  | none => 0

/-- The context bound to an FPN (R393). -/
def State.boundTo (s : State) (fpn : Nat) : Option (Nat × Ctx × Job) :=
  match List.find? (fun e => match e.2.job with | some j => j.fpn == fpn | none => false) s.ctxs with
  | some (n, c) => c.job.map (fun j => (n, c, j))
  | none => none

/-- LID_FABRIC (Table 2.5). -/
def lidFabric (s : State) : BitVec 64 :=
  let c (a : Nat) : Nat := s.lantern.coord.getD a 0 % 32
  BitVec.ofNat 64 (s.lantern.fabricId % 2 ^ 20 + c 0 * 2 ^ 20 + c 1 * 2 ^ 25 + c 2 * 2 ^ 30 + c 3 * 2 ^ 35 + c 4 * 2 ^ 40 + c 5 * 2 ^ 45 +
    (if s.lantern.fabValid then 2 ^ 50 else 0))

/-! ## Events and completions (R44, R45, R108) -/

/-- A cause of HIS_STATUS set, and its interrupt when the cause is not masked (Table 2.11, Table 2.1). -/
def raiseCause (s : State) (r : RingId) (bit : Nat) : State :=
  let g := s.ring r
  let s1 := s.setRing r { g with hisStatus := g.hisStatus ||| BitVec.ofNat 6 (2 ^ bit) }
  if g.hisMask.getLsbD bit then s1
  else { s1 with tx := { s1.tx with msix := s1.tx.msix ++ [(r, if bit = 0 then 0 else 1)] } }

def Ring.cqSize (g : Ring) : Nat := 2 ^ g.cqLog2.toNat
def Ring.sqSize (g : Ring) : Nat := 2 ^ g.sqLog2.toNat

/-- A completion ring holds at most one entry less than its size (R45; the rule R42 gives for command rings). -/
def Ring.cqFull (g : Ring) : Bool := (g.cqTail + 1) % g.cqSize == g.cqHead.toNat % g.cqSize

/-- The 16 bytes of a completion entry (Table 2.14). -/
def cqBytes (e : CqEntry) (phase : Bool) : List Byte :=
  leBytes 2 e.tag.toNat ++ leBytes 2 e.opcode.toNat ++ [e.status] ++
  [BitVec.ofNat 8 ((if phase then 1 else 0) + (if e.event then 2 else 0) + (if e.dupTag then 4 else 0))] ++
  leBytes 2 e.retryHint.toNat ++ leBytes 4 e.resultLen.toNat ++ leBytes 4 e.detail.toNat

/-- Whether a host-memory access fails on PCIe (R54). -/
def hostFails (s : State) (a n : Nat) : Bool := s.hostFail.any (fun f => decide (a < f.1 + f.2) && decide (f.1 < a + n))

/-- Bytes written by Mirsis to the memory a ring's addresses name: host memory, or BAR2 with LOC = 1 (R41). -/
def ringWrite (s : State) (r : RingId) (a : Nat) (bs : List Byte) : State :=
  let g := s.ring r
  if g.loc then s.setRing r { g with bar2 := Memory.store g.bar2 a bs }
  else s.setHost (Memory.store s.hostMem a bs)

def ringRead (s : State) (r : RingId) (a n : Nat) : List Byte :=
  let g := s.ring r
  if g.loc then Memory.load g.bar2 a n else Memory.load s.hostMem a n

def Ring.cqAddr (g : Ring) : Nat := if g.loc then 0x4_0000 else g.cqBase.toNat / 4096 * 4096
def Ring.sqAddr (g : Ring) : Nat := if g.loc then 0 else g.sqBase.toNat / 4096 * 4096

/-- An entry written to the next completion slot, its PHASE as R44 gives, with the cause it raises. -/
def writeCq (s : State) (r : RingId) (e : CqEntry) : State :=
  let g := s.ring r
  let a := g.cqAddr + 16 * g.cqTail
  let s1 := ringWrite s r a (cqBytes e g.phase)
  let g1 := s1.ring r
  let t := (g.cqTail + 1) % g.cqSize
  raiseCause (s1.setRing r { g1 with cqTail := t, phase := if t = 0 then !g.phase else g.phase }) r (if e.event then 1 else 0)

/-- A command completion: written, or waiting while the ring is full (R45). -/
def postCompletion (s : State) (r : RingId) (e : CqEntry) : State :=
  let g := s.ring r
  if g.cqFull || !g.waiting.isEmpty then s.setRing r { g with waiting := g.waiting ++ [e] }
  else writeCq s r e

/-- The ring that takes a function's events: port A's while it is READY, else port B's. -/
def eventRing (s : State) (fn : Nat) : Option RingId :=
  if (s.ring ⟨.a, fn⟩).ready then some ⟨.a, fn⟩ else if (s.ring ⟨.b, fn⟩).ready then some ⟨.b, fn⟩ else none

/-- An event for function `fn`: its record kept for EVENT_GET, its entry written, held while the ring is full, or discarded when 256 are held,
counted and EVENT_LOST set (R45). -/
def postEvent (s : State) (fn code detail : Nat) (rec : List Byte) : State :=
  let f := s.fev fn
  let e : CqEntry := { tag := 0xFFFF, opcode := BitVec.ofNat 16 code, status := 0, event := true, dupTag := false, retryHint := 0,
                       resultLen := BitVec.ofNat 32 f.nextSeq, detail := BitVec.ofNat 32 detail }
  let f1 : FnEvents := { f with nextSeq := f.nextSeq + 1, recs := f.recs ++ [{ seq := f.nextSeq, code := code, detail := detail, bytes := rec }] }
  match eventRing s fn with
  | some r =>
    if f.held.isEmpty && (s.ring r).waiting.isEmpty && !(s.ring r).cqFull then writeCq (s.setFev fn f1) r e
    else if f.held.length < 256 then s.setFev fn { f1 with held := f.held ++ [e] }
    else raiseCause ((s.setFev fn { f with nextSeq := f.nextSeq + 1, lost := f.lost + 1 }).bump 0x01000006 1) r 4
  | none =>
    if f.held.length < 256 then s.setFev fn { f1 with held := f.held ++ [e] }
    else
      let s1 := (s.setFev fn { f with nextSeq := f.nextSeq + 1, lost := f.lost + 1 }).bump 0x01000006 1
      raiseCause (raiseCause s1 ⟨.a, fn⟩ 4) ⟨.b, fn⟩ 4

/-- An event for PF0 and for the VF of partition slot `i` (R385, R430, R457). -/
def postBoth (s : State) (i code detail : Nat) (rec : List Byte) : State :=
  let s1 := postEvent s 0 code detail rec
  if i < 6 ∧ (s.part? i).exist then postEvent s1 (i + 1) code detail rec else s1

/-! ## Reading and writing stored data (R288, R302 to R307) -/

/-- Far or remainder data on a stack of an isolated spire die (R511). -/
def onIsolated (s : State) (a : Nat) : Bool :=
  if s.carrier.isolated.isEmpty then false
  else
    match placeOf s.part.order a, stackOf s.part.order s.mem a with
    | .slot k _, some st => s.carrier.isolated.contains (st / 2) && (match s.mem.slot k with | .far w => w != 6 | _ => false)
    | .rem _ _, some st => s.carrier.isolated.contains (st / 2)
    | _, _ => false

/-- Whether a read of the 64-byte sector or granule that holds `a` delivers poison: its marker is set, or its stack's die is isolated. -/
def poisonedAt (s : State) (a : Nat) : Bool := Sparse.get false s.mem.poison (a / 64) || onIsolated s (64 * (a / 64))

def setPoison (s : State) (a : Nat) (p : Bool) : State :=
  { s with mem := { s.mem with poison := Sparse.put false s.mem.poison (a / 64) p } }

/-- Granule numbers of the `n` bytes at `a`. -/
def granules (a n : Nat) : List Nat := if n = 0 then [] else (List.range ((a + n - 1) / 64 - a / 64 + 1)).map (fun i => a / 64 + i)

/-- The address of the first poisoned granule of the `n` bytes at `a`. -/
def firstPoison (s : State) (a n : Nat) : Option Nat :=
  ((granules a n).find? (fun g => poisonedAt s (64 * g))).map (fun g => 64 * g)

/-- The space code of a POISON trap's DETAIL1 (Table 3.7). -/
def spaceOf (a : Nat) : Nat := if spBase ≤ a then 2 else 1

/-- The MEM_POISON record (Table 9.8a). -/
def poisonRec (s : State) (a : Nat) : List Byte :=
  let cl := classOf s.part.order s.mem a
  let pl := match placeOf s.part.order a with
    | .scratch c _ => c
    | _ => (stackOf s.part.order s.mem a).getD 0
  let ep := match ownerOf s.part.order s.mem a with
    | some i => s.slotEpoch i
    | none => 0
  leBytes 8 (64 * (a / 64)) ++ [BitVec.ofNat 8 cl, 0] ++ leBytes 2 pl ++ zeros 4 ++ leBytes 8 ep

/-- MEM_POISON posted to the recipients of Table 9.8; a shared slot's goes to PF0 (R487). -/
def postPoison (s : State) (a : Nat) : State :=
  let d := match placeOf s.part.order a with
    | .scratch c _ => c
    | _ => (stackOf s.part.order s.mem a).getD 0
  let rec_ := poisonRec s a
  match ownerOf s.part.order s.mem a with
  | some i => postBoth s i 0x0380 d rec_
  | none => postEvent s 0 0x0380 d rec_

/-- A granule newly poisoned by the module itself (R307). -/
def newlyPoison (s : State) (a : Nat) : State :=
  let s1 := setPoison s a true
  postPoison (s1.bump (if spBase ≤ a then 0x0300000B else 0x03000003) 1) a

/-- Whether `a` lies in a sealed shared slot (R486). -/
def inSealed (s : State) (a : Nat) : Bool :=
  match placeOf s.part.order a with
  | .slot k _ =>
    match Sparse.find? s.keep.shared k with
    | some x => x.st == .sealed
    | none => false
  | _ => false

/-- The granule's bytes replaced by free values: an error beyond the code's guarantee (R288, R303). -/
def miscorrect (s : State) (g : Nat) : State :=
  let bs := (List.range 64).map (fun i => Config.freeByte (64 * s.free + i))
  (s.setMem (Memory.store s.mem.bytes (64 * g) bs)).tick

/-- One correctable error more in the decaying count (Table 13.1, R434), kept in 1/65,536. -/
def noteCorrectable (s : State) : State := { s with risk := { s.risk with memErr := s.risk.memErr + 65536 } }

/-- Where an error is kept: by aligned 8-byte word of scratchpad (R288), by 64-byte sector of stacked memory (R302). -/
def errKey (a : Nat) : Nat := if spBase ≤ a then a / 8 else a / 64

/-- The address an error key stands for. -/
def errAddr (k : Nat) : Nat := if spBase ≤ 8 * k then 8 * k else 64 * k

/-- The first error key after those of the `n` bytes at `a`. -/
def errEnd (a n : Nat) : Nat := if n = 0 then errKey a else errKey (a + n - 1) + 1

/-- Error keys of the `n` bytes at `a`. -/
def errKeys (a n : Nat) : List Nat := (List.range (errEnd a n - errKey a)).map (fun i => errKey a + i)

/-- A read of one word or sector meets the error its stored bits hold, if any (R288, Table 9.7, R303). A sealed shared slot's uncorrectable sector is
left to the repair of R486. -/
def meetKey (s : State) (k : Nat) : State :=
  match Sparse.find? s.mem.errs k with
  | none => s
  | some e =>
    let s0 := { s with mem := { s.mem with errs := Sparse.del s.mem.errs k } }
    let a := errAddr k
    let sp := decide (spBase ≤ a)
    match e with
    | .onDie => s0.bump 0x03000001 1
    | .one =>
      if sp then (noteCorrectable s0).bump 0x0300000A 1
      else ((noteCorrectable s0).bump 0x03000002 1).bump (0x03100000 + (stackOf s.part.order s.mem a).getD 0) 1
    | .two =>
      if sp then (if Sparse.get false s0.mem.poison (a / 64) then s0 else newlyPoison s0 a)
      else if inSealed s a then s
      else if Config.freeBool s.free then miscorrect s0 (a / 64)
      else newlyPoison s0.tick a
    | .many => miscorrect s0 (a / 64)

/-- The errors of a 64-byte granule or sector met. -/
def meetError (s : State) (g : Nat) : State := (errKeys (64 * g) 64).foldl meetKey s

/-- A read of the `n` bytes at `a` meets their errors; stacked sectors that already carried the marker count as reads that delivered poison (Table 9.7). -/
def touch (s : State) (a n : Nat) : State :=
  let marked := if spBase ≤ a then 0 else ((granules a n).filter (fun g => Sparse.get false s.mem.poison g)).length
  let s1 := (errKeys a n).foldl meetKey s
  if marked = 0 then s1 else s1.bump 0x03000004 marked

/-- A repair of the 1 MiB chunk of a shared slot that holds `a` is under way (R486). -/
def underRepair (s : State) (a : Nat) : Bool :=
  match placeOf s.part.order a with
  | .slot k off => (Sparse.find? s.keep.shared k).any (fun x => x.repairs.any (fun r => r.chunk == off / 0x10_0000))
  | _ => false

/-- A held read: an uncorrectable sector of a sealed shared slot in the range, or a chunk of one under repair (R486). -/
def heldRead (s : State) (a n : Nat) : Bool :=
  (granules a n).any (fun g => inSealed s (64 * g) && (Sparse.find? s.mem.errs (errKey (64 * g)) == some .two || underRepair s (64 * g)))

/-- A write reaches granule or sector `g`, covering the whole of it when `whole`: one wholly covered loses its marker and any error its bits held. A
partial write of a stacked sector is a read-modify-write that meets its error (R291, R304). Of a scratchpad granule written in part, a word that one
access covers takes new check bits, and a word written in part is read first (R287, R288). -/
def writeCell (whole : Bool) (covers reaches : Nat → Nat → Bool) (s : State) (g : Nat) : State :=
  let ks := errKeys (64 * g) 64
  if whole then
    { s with mem := { s.mem with poison := Sparse.put false s.mem.poison g false, errs := ks.foldl (fun m k => Sparse.del m k) s.mem.errs } }
  else if spBase ≤ 64 * g then
    ks.foldl (fun t k =>
      if covers (8 * k) 8 then { t with mem := { t.mem with errs := Sparse.del t.mem.errs k } }
      else if reaches (8 * k) 8 then meetKey t k
      else t) s
  else (meetError s g).bump 0x03000005 1

/-- Bytes stored at `a` by one access. -/
def storeGranule (s : State) (a : Nat) (bs : List Byte) (g : Nat) : State :=
  let covers (x n : Nat) : Bool := decide (a ≤ x) && decide (x + n ≤ a + bs.length)
  writeCell (covers (64 * g) 64) covers (fun x n => decide (a < x + n) && decide (x < a + bs.length)) s g

def storeMem (s : State) (a : Nat) (bs : List Byte) : State :=
  let s1 := (granules a bs.length).foldl (fun t g => storeGranule t a bs g) s
  s1.setMem (Memory.store s1.mem.bytes a bs)

/-- Bytes written with the destination granules poisoned when `p` (R305). -/
def storeMarked (s : State) (a : Nat) (bs : List Byte) (p : Bool) : State :=
  let s1 := storeMem s a bs
  if p then (granules a bs.length).foldl (fun t g => setPoison t (64 * g) true) s1 else s1

def loadMem (s : State) (a n : Nat) : List Byte := Memory.load s.mem.bytes a n

/-! ## Rights of a context (R134, R299) -/

/-- The CONST section's range, when the context has one. -/
def constRange (n : Nat) (c : Ctx) : Option (Nat × Nat) :=
  if c.constSec.isEmpty then none else some (Config.constBase n, c.constSec.length)

/-- Whether every byte of [a, a+n) lies in granted ranges with the right asked for. -/
def covered : Nat → List MapRange → Bool → Nat → Nat → Bool
  | 0, _, _, _, n => n == 0
  | fuel + 1, ms, w, a, n =>
    if n = 0 then true
    else
      match ms.find? (fun m => decide (m.base ≤ a) && decide (a < m.base + m.len) && (m.write || !w)) with
      | none => false
      | some m => if a + n ≤ m.base + m.len then true else covered fuel ms w (m.base + m.len) (a + n - (m.base + m.len))

def inConst (n : Nat) (c : Ctx) (a len : Nat) : Bool :=
  match constRange n c with
  | some (b, l) => decide (b ≤ a) && decide (a + len ≤ b + l)
  | none => false

/-- Whether context `n` may access the `len` bytes at `a`, to write when `w` (R134). -/
def mayAccess (n : Nat) (c : Ctx) (w : Bool) (a len : Nat) : Bool :=
  decide (a + len ≤ 2 ^ 48) && (covered 257 c.maps w a len || (!w && inConst n c a len))

/-- Whether the range lies in the context's mapping of cluster `k`'s own scratchpad. -/
def mayScratch (n : Nat) (c : Ctx) (k : Nat) (w : Bool) (a len : Nat) : Bool :=
  decide (spOf k ≤ a) && decide (a + len ≤ spOf k + spBytes) && mayAccess n c w a len

/-- The bytes context `n` reads at `a`: its CONST section, or memory. -/
def ctxLoad (s : State) (n : Nat) (c : Ctx) (a len : Nat) : List Byte :=
  match constRange n c with
  | some (b, _) => if inConst n c a len then (c.constSec.drop (a - b)).take len else loadMem s a len
  | none => loadMem s a len

/-! ## Ownership of contexts by functions (R36, R109) -/

/-- Whether function `fn` may act on a context of slot `i`: PF0, or the slot's VF. -/
def fnOwns (fn i : Nat) : Bool := fn == 0 || (decide (i < 6) && fn == i + 1)

/-- The function that owns a context (R108): the partition's VF, or PF0 for slot 6. -/
def ownerFn (c : Ctx) : Nat := c.owner

end Sys2Proof.Machine
end

