-- ==== Sys2Proof/Machine/Ring.lean ====
section
/-! DEFINITION. BAR0 of every function, command and completion rings, and the fetch of commands (R36 to R45, R51, R54, Tables 2.2 to 2.14). -/

namespace Sys2Proof.Machine

open Sys2Proof

/-! ## Which functions are served -/

/-- Mirsis serves BAR0 of a function: the module is ON with a lantern serving, the port is out of reset, its die present, and a VF is enabled by its
partition (R474, R510, R511). -/
def served (s : State) (r : RingId) : Bool :=
  s.carrier.power == .on && s.lantern.serving && s.carrier.perstN && s.carrier.refHost && s.keep.lc != 5 &&
  !(r.port == .a && s.carrier.isolated.contains 24) && (r.fn == 0 || (decide (r.fn ≤ 6) && (s.part? (r.fn - 1)).exist))

/-- The class of a function in the lantern's fair share (R62): a partition, or 6 for the administrator. -/
def classOfFn (fn : Nat) : Nat := if fn = 0 then 6 else fn - 1

/-- The shed level a function meets: module-wide, or its class's in SEALED mode (Table 14.13). -/
def shedOf (s : State) (fn : Nat) : Nat := if s.keep.sealed then Sparse.get 0 s.lantern.clsShed (classOfFn fn) else s.lantern.shed

def loadOf (s : State) (fn : Nat) : Nat := if s.keep.sealed then Sparse.get 0 s.lantern.clsLoad (classOfFn fn) else s.lantern.load

/-! ## Identity registers (Tables 2.3 to 2.5) -/

def orderCode : OrderNo → Nat
  | .h96 => 1
  | .h64 => 2
  | .h96e => 3

def lidIdent (s : State) (r : RingId) : BitVec 64 :=
  BitVec.ofNat 64 (0x0005 + orderCode s.part.order * 2 ^ 16 + 0xA1 * 2 ^ 24 + (r.fn % 8) * 2 ^ 32 + (if r.port = .b then 2 ^ 35 else 0))

def runningSlot (s : State) : FwSlot := if s.lantern.bootSlot then s.lantern.slotB else s.lantern.slotA
def otherSlot (s : State) : FwSlot := if s.lantern.bootSlot then s.lantern.slotA else s.lantern.slotB

def lidFwver (s : State) : BitVec 64 :=
  BitVec.ofNat 64 ((runningSlot s).version.toNat + (if s.lantern.bootSlot then 2 ^ 32 else 0))

/-- Codes of Table 2.21. -/
def mstateCode : MState → Nat
  | .boot => 0
  | .ready => 1
  | .joined => 2
  | .detaching => 3
  | .detached => 4
  | .recovery => 5
  | .mismatch => 6

/-! ## Register reads (R38) -/

/-- Offsets of the 64-bit registers. -/
def wide64 (off : Nat) : Bool := off == 0x000 || off == 0x008 || off == 0x010 || off == 0x050 || off == 0x058

def reg64 (s : State) (r : RingId) (off : Nat) : BitVec 64 :=
  match off with
  | 0x000 => lidIdent s r
  | 0x008 => lidFwver s
  | 0x010 => lidFabric s
  | 0x050 => (s.ring r).sqBase
  | _ => (s.ring r).cqBase

def bit (b : Bool) (n : Nat) : Nat := if b then 2 ^ n else 0

/-- 32-bit registers; LMB_DOORBELL is write-only and RSV offsets read as 0 (R8). -/
def reg32 (s : State) (r : RingId) (off : Nat) : BitVec 32 :=
  let g := s.ring r
  match off with
  | 0x040 => BitVec.ofNat 32 (bit g.en 0 + bit g.loc 1 + g.sqLog2.toNat * 2 ^ 8 + g.cqLog2.toNat * 2 ^ 12)
  | 0x044 => BitVec.ofNat 32 (bit g.ready 0 + bit g.errCfg 1 + bit g.errFetch 2 + bit g.errDb 3 + bit s.lantern.standby 4 +
      mstateCode s.lantern.mstate * 2 ^ 8 + g.sqHead % 2 ^ 16 * 2 ^ 16)
  | 0x04C => g.cqHead.setWidth 32
  | 0x080 => g.hisStatus.setWidth 32
  | 0x084 => g.hisMask.setWidth 32
  | 0x088 => BitVec.ofNat 32 (shedOf s r.fn % 4 + loadOf s r.fn % 256 * 2 ^ 8)
  | _ => 0

/-- A 32-bit read: a low word latches its register, a high word alone returns what was latched. -/
def readBar0 (s : State) (r : RingId) (off : Nat) : State :=
  let g := s.ring r
  if wide64 off then
    let v := reg64 s r off
    s.setRing r { g with latch := Sparse.put 0 g.latch off ((v >>> 32).setWidth 32), rdata := v.setWidth 32 }
  else if 4 ≤ off ∧ wide64 (off - 4) then s.setRing r { g with rdata := Sparse.get 0 g.latch (off - 4) }
  else s.setRing r { g with rdata := reg32 s r off }

/-! ## Errors -/

inductive RingErr where
  | cfg
  | fetch
  | db
  deriving DecidableEq, Repr

/-- An ERR_ bit of LMB_STATUS and the cause RING_ERR (Table 2.11). -/
def ringErr (s : State) (r : RingId) (e : RingErr) : State :=
  let g := s.ring r
  raiseCause (s.setRing r (match e with
    | .cfg => { g with errCfg := true }
    | .fetch => { g with errFetch := true }
    | .db => { g with errDb := true })) r 2

/-! ## Completion entries (Tables 2.14 and 2.15) -/

/-- A completion entry of a command. -/
def cqEntry (c : OutCmd) (st detail len : Nat) (dup : Bool) : CqEntry :=
  { tag := c.tag, opcode := c.opcode, status := BitVec.ofNat 8 st, event := false, dupTag := dup, retryHint := 0, resultLen := BitVec.ofNat 32 len,
    detail := BitVec.ofNat 32 detail }

/-- Status codes of Table 2.15. -/
def sOK : Nat := 0
def sBUSY : Nat := 1
def sBAD_COMMAND : Nat := 2
def sBAD_ARGUMENT : Nat := 3
def sDENIED : Nat := 4
def sNOT_IN_STATE : Nat := 5
def sRESOURCE : Nat := 6
def sABORTED : Nat := 7
def sPARTIAL : Nat := 8
def sINTEGRITY : Nat := 9
def sTIMEOUT : Nat := 10
def sUNSUPPORTED : Nat := 11

/-- At EN = 0 every fetched command completes or is aborted (R43): one that has not started may be aborted, a free choice. -/
def abortFetched (s : State) (r : RingId) : State :=
  ((s.ring r).out.filter (fun c => !c.started)).foldl (fun t c =>
    let g := t.ring r
    if Config.freeBool t.free then
      postCompletion (t.setRing r { g with out := g.out.filter (fun x => x.tag != c.tag) }).tick r (cqEntry c sABORTED 2 0 false)
    else t.tick) s

/-! ## LMB_CTRL and the ring bases (R39, R40, R43, Table 2.10a) -/

/-- Whether a ring size is in range (Table 2.6). -/
def log2Ok (v : BitVec 32) (lo : Nat) : Bool := decide (4 ≤ v.toNat / 2 ^ lo % 16) && decide (v.toNat / 2 ^ lo % 16 ≤ 12)

/-- EN goes from 0 to 1 (R39). Every 4 KiB-aligned base is in range. -/
def ringEnable (s : State) (r : RingId) (v : BitVec 32) : State :=
  let g := s.ring r
  if log2Ok v 8 && log2Ok v 12 then
    s.setRing r { g with en := true, ready := true, loc := v.getLsbD 1, sqLog2 := (v >>> 8).setWidth 4, cqLog2 := (v >>> 12).setWidth 4, errCfg := false,
                         errFetch := false, errDb := false, sqHead := 0, sqTail := 0, cqHead := 0, cqTail := 0, phase := true }
  else ringErr s r .cfg

/-- A write to LMB_CTRL. -/
def writeCtrl (s : State) (r : RingId) (v : BitVec 32) : State :=
  let g := s.ring r
  if g.en then
    if v.getLsbD 0 then ringErr s r .cfg else abortFetched (s.setRing r { g with en := false }) r
  else if g.ready then ringErr s r .cfg
  else if v.getLsbD 0 then ringEnable s r v
  else s.setRing r { g with loc := v.getLsbD 1, sqLog2 := (v >>> 8).setWidth 4, cqLog2 := (v >>> 12).setWidth 4 }

/-- The value of a base register after a 64-bit write, or a 32-bit write of either half; bits [11:0] are RSV. -/
def baseAfter (old : BitVec 64) (high wide : Bool) (v : BitVec 64) : BitVec 64 :=
  let x : Nat := if wide then v.toNat else if high then old.toNat % 2 ^ 32 + v.toNat % 2 ^ 32 * 2 ^ 32 else old.toNat / 2 ^ 32 * 2 ^ 32 + v.toNat % 2 ^ 32
  BitVec.ofNat 64 (x / 4096 * 4096)

/-- A write to LMB_SQ_BASE (0x050, 0x054) or LMB_CQ_BASE (0x058, 0x05C). -/
def writeBase (s : State) (r : RingId) (off : Nat) (wide : Bool) (v : BitVec 64) : State :=
  let g := s.ring r
  if off = 0x050 ∨ off = 0x054 ∧ wide = false then
    if g.en || g.ready then ringErr s r .cfg else s.setRing r { g with sqBase := baseAfter g.sqBase (off == 0x054) wide v }
  else if off = 0x058 ∨ off = 0x05C ∧ wide = false then
    if g.en || g.ready then ringErr s r .cfg else s.setRing r { g with cqBase := baseAfter g.cqBase (off == 0x05C) wide v }
  else s

/-! ## Command codes (Table 2.16 and the tables of the owning chapters) -/

/-- Assigned ranges: first code and number of codes. -/
def codeRanges : List (Nat × Nat) :=
  [(0x0100, 14), (0x0200, 17), (0x0300, 9), (0x0400, 6), (0x0500, 6), (0x0600, 14), (0x0700, 12), (0x0800, 6), (0x0900, 11), (0x0A00, 3)]

def assignedCode (op : Nat) : Bool := codeRanges.any (fun x => decide (x.1 ≤ op) && decide (op < x.1 + x.2))

/-- Commands never refused with BUSY: those marked urgent, and SNAP_NOW, which is protected work (R61, R436). -/
def urgentCode (op : Nat) : Bool :=
  [0x0106, 0x0107, 0x010A, 0x010C, 0x0403, 0x0503, 0x0603, 0x0703, 0x070B, 0x0902, 0x0909].contains op

/-! ## Fetch (R42, R51, R54) -/

/-- The command of a 64-byte ring entry (Table 2.13). -/
def parseCmd (b : List Byte) : OutCmd :=
  { opcode := BitVec.ofNat 16 (field b 0 2), tag := BitVec.ofNat 16 (field b 2 2), flags := byteAt b 4, version := byteAt b 5,
    rsv := BitVec.ofNat 16 (field b 6 2), payloadLen := field b 8 4, resultLen := field b 12 4, payloadAddr := field b 16 8, resultAddr := field b 24 8,
    context := field b 32 4, timeoutMs := field b 36 4, args := (b.drop 40).take 24, payload := [], started := false, stage := 0 }

/-- A TAG that names an outstanding command (R51): fetched and not completed, or completed with its entry still waiting to be written. -/
def tagTaken (g : Ring) (t : BitVec 16) : Bool := g.out.any (fun c => c.tag == t) || g.waiting.any (fun e => e.tag == t && !e.dupTag && !e.event)

/-- A fetched command is refused for its TAG, refused with BUSY at shed level 3, or accepted. The earliest useful retry is a free value. -/
def acceptCmd (s : State) (r : RingId) (c : OutCmd) : State :=
  let g := s.ring r
  if tagTaken g c.tag then postCompletion s r (cqEntry c sBAD_ARGUMENT 2 0 true)
  else if shedOf s r.fn = 3 ∧ assignedCode c.opcode.toNat ∧ c.version = 1 ∧ !urgentCode c.opcode.toNat then
    let e := { cqEntry c sBUSY 3 0 false with retryHint := BitVec.ofNat 16 (1 + Config.freeNat s.free % 65535) }
    postCompletion ((s.tick).bump (0x01000020 + classOfFn r.fn) 1) r e
  else (s.setRing r { g with out := g.out ++ [c] }).bump (0x01000010 + classOfFn r.fn) 1

/-- Entries fetched up to the tail; a failed read of the ring stops fetching with READY 0 (R54). -/
def fetchLoop (r : RingId) : Nat → State → State
  | 0, s => s
  | n + 1, s =>
    let g := s.ring r
    if g.sqHead = g.sqTail || !g.ready || !g.en then s
    else
      let a := g.sqAddr + 64 * g.sqHead
      if !g.loc && hostFails s a 64 then
        let s1 := ringErr s r .fetch
        s1.setRing r { s1.ring r with ready := false }
      else
        let c := parseCmd (ringRead s r a 64)
        fetchLoop r n (acceptCmd (s.setRing r { g with sqHead := (g.sqHead + 1) % g.sqSize }) r c)

/-- A doorbell write (R42). -/
def doorbell (s : State) (r : RingId) (v : BitVec 32) : State :=
  let g := s.ring r
  let t := v.toNat % 2 ^ 16
  let n := g.sqSize
  if !g.ready then s
  else if n ≤ t ∨ (t + n - g.sqHead % n) % n < (g.sqTail + n - g.sqHead % n) % n then ringErr s r .db
  else fetchLoop r n (s.setRing r { g with sqTail := t })

/-! ## Other registers (R8, Tables 2.9 and 2.11) -/

/-- A 32-bit write to any register: RO and RSV offsets ignore it. -/
def writeReg (s : State) (r : RingId) (off : Nat) (v : BitVec 32) : State :=
  let g := s.ring r
  match off with
  | 0x040 => writeCtrl s r v
  | 0x048 => doorbell s r v
  | 0x04C => s.setRing r { g with cqHead := v.setWidth 16 }
  | 0x050 | 0x054 | 0x058 | 0x05C => writeBase s r off false (v.setWidth 64)
  | 0x080 => s.setRing r { g with hisStatus := g.hisStatus &&& ~~~(v.setWidth 6) }
  | 0x084 => s.setRing r { g with hisMask := v.setWidth 6 }
  | _ => s

/-- The rings have stopped (R43): with every fetched command completed and its entry written, READY reads 0. -/
def ringStopped (s : State) (r : RingId) : State :=
  let g := s.ring r
  if !g.en && g.ready && g.out.isEmpty && g.waiting.isEmpty then s.setRing r { g with ready := false } else s

/-- A waiting completion, or else a held event, is written once the completion ring has room (R45). -/
def deferred (s : State) (r : RingId) : State :=
  let g := s.ring r
  if !g.ready || g.cqFull then s
  else
    match g.waiting with
    | e :: rest => writeCq (s.setRing r { g with waiting := rest }) r e
    | [] =>
      let f := s.fev r.fn
      match f.held with
      | e :: rest => if eventRing s r.fn = some r then writeCq (s.setFev r.fn { f with held := rest }) r e else s
      | [] => s

/-- A host's signal still on its way no longer completes a command of ring `r`: of the tag given, or of every one. -/
def forgetHost (s : State) (r : RingId) (tag : Option (BitVec 16)) : State :=
  s.setSync { s.sync with inflight := s.sync.inflight.map (fun x =>
    match x.host with
    | some (q, t) => if q = r ∧ (tag = none ∨ tag = some t) then { x with host := none } else x
    | none => x) }

/-- Function level reset (Table 2.1): rings and BAR0 state; BAR2 memory, events and the partition stay. -/
def flr (s : State) (r : RingId) : State := forgetHost (s.setRing r { Ring.fresh with bar2 := (s.ring r).bar2 }) r none

/-! ## Rows -/

/-- A register access while the function is served. -/
def atBar0 (r : RingId) (s : State) (f : State → State) : Host.Outcome State Fault Refusal := .next (if served s r then f s else s)

/-- RING_ENABLE: a write of LMB_CTRL with EN = 1 while EN and READY are 0. -/
def execRingEnable (r : RingId) (value : BitVec 32) (s : State) : Host.Outcome State Fault Refusal :=
  atBar0 r s (fun t => if value.getLsbD 0 && !(t.ring r).en && !(t.ring r).ready then writeCtrl t r value else t)

/-- RING_DISABLE: a write of LMB_CTRL with EN = 0 while EN is 1. -/
def execRingDisable (r : RingId) (value : BitVec 32) (s : State) : Host.Outcome State Fault Refusal :=
  atBar0 r s (fun t => if !value.getLsbD 0 && (t.ring r).en then writeCtrl t r value else t)

/-- RING_CONFIG_WRITE: every other write of LMB_CTRL. -/
def execRingConfigWrite (r : RingId) (value : BitVec 32) (s : State) : Host.Outcome State Fault Refusal :=
  atBar0 r s (fun t =>
    if value.getLsbD 0 && !(t.ring r).en && !(t.ring r).ready then t
    else if !value.getLsbD 0 && (t.ring r).en then t
    else writeCtrl t r value)

def execRingBaseWrite (r : RingId) (off : Nat) (wide : Bool) (value : BitVec 64) (s : State) : Host.Outcome State Fault Refusal :=
  atBar0 r s (fun t => writeBase t r off wide value)

def execLmbDoorbell (r : RingId) (value : BitVec 32) (s : State) : Host.Outcome State Fault Refusal := atBar0 r s (fun t => doorbell t r value)

def execBar0LowRead (r : RingId) (off : Nat) (s : State) : Host.Outcome State Fault Refusal := atBar0 r s (fun t => readBar0 t r off)

def execRegisterWrite (r : RingId) (off : Nat) (value : BitVec 32) (s : State) : Host.Outcome State Fault Refusal :=
  atBar0 r s (fun t => writeReg t r off value)

def execRingStopComplete (r : RingId) (s : State) : Host.Outcome State Fault Refusal := .next (ringStopped s r)

def execCompletionDeferred (r : RingId) (s : State) : Host.Outcome State Fault Refusal := .next (deferred s r)

def execFunctionLevelReset (r : RingId) (s : State) : Host.Outcome State Fault Refusal := atBar0 r s (fun t => flr t r)

end Sys2Proof.Machine
end

