-- ==== Sys2Proof/Machine/Mailbox.lean ====
section
/-! DEFINITION. How Mirsis starts, checks and completes a mailbox command (R46 to R57, Tables 2.13 to 2.15): what every command shares. A row of a
command runs the fetched command that carries the row's tag, when that command may start; its meaning is the `run` of its `Cmd`. -/

namespace Sys2Proof.Machine

open Sys2Proof

/-- What running a command came to: it completes with a status, DETAIL and result; it has started and waits at a stage; it is no longer a command
of any ring; or what it needs has not come about yet and nothing happens. -/
inductive Ran where
  | fin (s : State) (status detail : Nat) (bytes : List Byte)
  | keep (s : State) (stage : Nat)
  | gone (s : State)
  | later

def Ran.ok (s : State) : Ran := .fin s sOK 0 []
def Ran.okWith (s : State) (bytes : List Byte) : Ran := .fin s sOK 0 bytes
def Ran.badArg (s : State) (off : Nat) : Ran := .fin s sBAD_ARGUMENT off []
def Ran.denied (s : State) (reason : Nat) : Ran := .fin s sDENIED reason []
def Ran.unsupported (s : State) : Ran := .fin s sUNSUPPORTED 0 []
def Ran.notInState (s : State) (now : Nat) : Ran := .fin s sNOT_IN_STATE now []
/-- NOT_IN_STATE where no code is given for the target's state: DETAIL is a free value. -/
def Ran.notInStateFree (s : State) : Ran := .fin s.tick sNOT_IN_STATE (Config.free32 s.free).toNat []
def Ran.resource (s : State) (id : Nat) : Ran := .fin s sRESOURCE id []

/-- DENIED reasons. -/
def dFUNCTION : Nat := 1
def dLIFE_CYCLE : Nat := 2
def dEVAL_LOCK : Nat := 3
def dROLLBACK : Nat := 4
def dNOT_GRANTABLE : Nat := 5
def dADMIN_DEBUG : Nat := 6
def dTOKEN_BINDING : Nat := 7
def dMODE : Nat := 8

/-- A command of the tables: its code, the fixed size of its result (R55), its BAD_ARGUMENT conditions with their offsets (R48, R49), its effect once
those hold, and what its row does when the command has started and waits. -/
structure Cmd where
  code  : Nat
  fixed : Nat
  bad   : State → RingId → OutCmd → List (Bool × Nat)
  run   : State → RingId → OutCmd → Ran
  again : State → RingId → OutCmd → Ran := fun _ _ _ => .later

def noBad : State → RingId → OutCmd → List (Bool × Nat) := fun _ _ _ => []

/-- Inline arguments: `n` bytes at offset `o` of ARGS. -/
def OutCmd.arg (c : OutCmd) (o n : Nat) : Nat := field c.args o n
/-- Payload fields. -/
def OutCmd.pay (c : OutCmd) (o n : Nat) : Nat := field c.payload o n

/-! ## Completion (R46, R54) -/

/-- An outstanding command completes: its result is written, then its entry. -/
def finish (s : State) (r : RingId) (tag : BitVec 16) (status detail : Nat) (bytes : List Byte) : State :=
  let g := s.ring r
  match g.out.find? (fun c => c.tag == tag) with
  | none => s
  | some c =>
    let s1 := s.setRing r { g with out := g.out.filter (fun x => x.tag != tag) }
    let bs := bytes.take c.resultLen
    if bs.isEmpty then postCompletion s1 r (cqEntry c status detail 0 false)
    else if !g.loc && hostFails s c.resultAddr bs.length then postCompletion (ringErr s1 r .fetch) r (cqEntry c sABORTED 5 0 false)
    else postCompletion (ringWrite s1 r c.resultAddr bs) r (cqEntry c status detail bs.length false)

/-- An outstanding command as changed by `f`. -/
def setOut (s : State) (r : RingId) (tag : BitVec 16) (f : OutCmd → OutCmd) : State :=
  let g := s.ring r
  s.setRing r { g with out := g.out.map (fun c => if c.tag == tag then f c else c) }

/-! ## Starting (R50, R61, R63, R469) -/

/-- Commands of one ring start in ring order, and a fenced one only after every earlier one has completed. -/
def startable (s : State) (r : RingId) (c : OutCmd) : Bool :=
  let g := s.ring r
  served s r && !c.started && (g.out.takeWhile (fun x => x.tag != c.tag)).all (fun x => x.started) &&
  (!c.flags.getLsbD 0 || (g.out.head?.map (fun x => x.tag) == some c.tag && g.waiting.all (fun e => e.event || e.dupTag)))

def debugCode (op : Nat) : Bool := decide (0x0900 ≤ op) && decide (op ≤ 0x090A)

/-- Debug service is deferred at shed level 2 and above (Table 2.19); a deferred request is counted once (R64). -/
def deferDebug (s : State) (r : RingId) (c : OutCmd) : Bool :=
  debugCode c.opcode.toNat && !urgentCode c.opcode.toNat && decide (2 ≤ shedOf s r.fn)

def noteDeferred (s : State) (r : RingId) (c : OutCmd) : State :=
  if c.stage = 1 then s else (setOut s r c.tag (fun x => { x with stage := 1 })).bump (0x01000030 + classOfFn r.fn) 1

/-- While a life-cycle transition is pending only SEC_LC_STATUS, SEC_LC_RETRY and IDENTIFY are served (R469). -/
def lcBlocked (s : State) (op : Nat) : Bool := s.keep.lc == 7 && !([0x0101, 0x0202, 0x0205].contains op)

/-! ## Checks of header and payload fields (R48, R49, R55) -/

/-- A payload or result range reaching outside its place in BAR2 (R41). -/
def outsideBar2 (g : Ring) (a n : Nat) : Bool := g.loc && n != 0 && (decide (a < 0x5_0000) || decide (0x8_0000 < a + n))

def headerBad (g : Ring) (k : Cmd) (c : OutCmd) : List (Bool × Nat) :=
  [(c.tag == 0xFFFF, 2), (decide (2 ≤ c.flags.toNat), 4), (c.rsv != 0, 6), (decide (65536 < c.payloadLen), 8),
   (decide (65536 < c.resultLen) || decide (c.resultLen < k.fixed), 12), (outsideBar2 g c.payloadAddr c.payloadLen, 16),
   (outsideBar2 g c.resultAddr c.resultLen, 24), (decide (600000 < c.timeoutMs), 36)]

/-- The least offset of the conditions that hold. -/
def leastBad (bs : List (Bool × Nat)) : Option Nat :=
  ((bs.filter (fun b => b.1)).map (fun b => b.2)).foldl (fun m o => some (m.elim o (Nat.min o))) none

/-- The payload as fetched; none when the host-memory read fails (R54). -/
def fetchPayload (s : State) (r : RingId) (c : OutCmd) : Option (List Byte) :=
  if c.payloadLen = 0 then some []
  else if !(s.ring r).loc && hostFails s c.payloadAddr c.payloadLen then none
  else some (ringRead s r c.payloadAddr c.payloadLen)

/-- The state after a command ran. -/
def ranState (s : State) (r : RingId) (tag : BitVec 16) (x : Ran) : State :=
  match x with
  | .fin t st d bs => finish t r tag st d bs
  | .keep t n => setOut t r tag (fun y => { y with stage := n })
  | .gone t => t
  | .later => s

/-- The effect of a command whose fields are all good. -/
def runGood (k : Cmd) (s : State) (r : RingId) (c : OutCmd) : State :=
  if lcBlocked s k.code then finish s r c.tag sDENIED dLIFE_CYCLE []
  else ranState s r c.tag (k.run (setOut s r c.tag (fun _ => { c with started := true })) r c)

/-- A command that may start is checked in the order of R48 and runs. -/
def start (k : Cmd) (s : State) (r : RingId) (c : OutCmd) : State :=
  match leastBad ((headerBad (s.ring r) k c ++ k.bad s r c).filter (fun b => decide (b.2 < 64))) with
  | some o => finish s r c.tag sBAD_ARGUMENT o []
  | none =>
    match fetchPayload s r c with
    | none => finish (ringErr s r .fetch) r c.tag sABORTED 5 []
    | some p =>
      match leastBad (k.bad s r { c with payload := p }) with
      | some o => finish s r c.tag sBAD_ARGUMENT o []
      | none => runGood k s r { c with payload := p }

/-- The row of a command: the fetched command with this tag runs, when it is this command and may
start; one that has started and waits goes on. -/
def runCmd (k : Cmd) (r : RingId) (tag : BitVec 16) (s : State) : Host.Outcome State Fault Refusal :=
  match (s.ring r).out.find? (fun c => c.tag == tag) with
  | none => .next s
  | some c =>
    if c.opcode.toNat != k.code || c.version != 1 then .next s
    else if c.started then .next (ranState s r tag (k.again s r c))
    else if !startable s r c then .next s
    else if deferDebug s r c then .next (noteDeferred s r c)
    else .next (start k s r c)

/-- UNASSIGNED_COMMAND (R10, R47): an unassigned code, or a VERSION other than 1, completes with BAD_COMMAND and no effect. -/
def execUnassignedCommand (r : RingId) (tag : BitVec 16) (s : State) : Host.Outcome State Fault Refusal :=
  match (s.ring r).out.find? (fun c => c.tag == tag) with
  | none => .next s
  | some c =>
    if (assignedCode c.opcode.toNat && c.version == 1) || !startable s r c then .next s
    else .next (finish s r tag sBAD_COMMAND 0 [])

/-! ## Results of variable size (R55) -/

/-- Records that fit after `used` bytes. -/
def fitting : Nat → List (List Byte) → List (List Byte)
  | _, [] => []
  | room, x :: xs => if x.length ≤ room then x :: fitting (room - x.length) xs else []

/-- A header that may count its records, and whole records as far as they fit. -/
def listResult (s : State) (c : OutCmd) (hdr : Nat → List Byte) (recs : List (List Byte)) : Ran :=
  let full := (hdr recs.length).length + (recs.map List.length).sum
  if full ≤ c.resultLen then .fin s sOK 0 (hdr recs.length ++ recs.flatten)
  else
    let fit := fitting (c.resultLen - (hdr 0).length) recs
    .fin s sPARTIAL full ((hdr fit.length ++ fit.flatten).take c.resultLen)

/-- A result of variable size that is no list. -/
def rawResult (s : State) (c : OutCmd) (bs : List Byte) : Ran :=
  if bs.length ≤ c.resultLen then .fin s sOK 0 bs else .fin s sPARTIAL bs.length (bs.take c.resultLen)

/-! ## Functions and contexts (R36, R56, R429) -/

/-- Only PF0 may issue the command. -/
def pf0Only (s : State) (r : RingId) (k : Unit → Ran) : Ran := if r.fn = 0 then k () else .denied s dFUNCTION

/-- A CONTEXT that names no context, or a closed one. -/
def noCtx (s : State) (c : OutCmd) : Bool := (s.ctx? c.context).isNone

/-- The context a command acts on: PF0 or the VF of its slot. -/
def withCtx (s : State) (r : RingId) (c : OutCmd) (f : Ctx → Ran) : Ran :=
  match s.ctx? c.context with
  | none => .badArg s 32
  | some x => if fnOwns r.fn x.slot then f x else .denied s dFUNCTION

/-- The bad field of a context command. -/
def badCtx (s : State) (_ : RingId) (c : OutCmd) : List (Bool × Nat) := [(noCtx s c, 32)]

end Sys2Proof.Machine
end

