-- ==== Sys2Proof/Machine/Flags.lean ====
section
/-! DEFINITION. Exact values, rounding, and the arithmetic flags (chapter 5): every floating-point result is the exact value rounded once, with
the flags of Table 5.8. -/

namespace Sys2Proof.Machine

open Sys2Proof

/-- The four sticky flags (R137): OVF bit 0, UNF bit 1, INX bit 2, INV bit 3. -/
abbrev Flags := BitVec 4

def fOVF : Flags := 1
def fUNF : Flags := 2
def fINX : Flags := 4
def fINV : Flags := 8

/-- The rounding modes of R164; SR carries its 16-bit draw. -/
inductive Rmode where
  | rne
  | rtz
  | rdn
  | rup
  | sr (draw : Nat)
  deriving DecidableEq, Repr

/-- An IEEE-style format: mantissa and exponent bits (Table 5.1). -/
structure Fp where
  mb : Nat
  eb : Nat
  deriving DecidableEq, Repr

def fp32 : Fp := ⟨23, 8⟩
def bf16 : Fp := ⟨7, 8⟩
def fp16 : Fp := ⟨10, 5⟩

/-- The exponent of the smallest normal number. -/
def Fp.emin (f : Fp) : Int := 2 - (2 ^ (f.eb - 1) : Nat)
/-- The code of +∞. -/
def Fp.infCode (f : Fp) : Nat := (2 ^ f.eb - 1) * 2 ^ f.mb
/-- The canonical quiet NaN (R153). -/
def Fp.nanCode (f : Fp) : Nat := f.infCode + 2 ^ (f.mb - 1)
def Fp.signBit (f : Fp) : Nat := 2 ^ (f.mb + f.eb)

/-- The value a code of an IEEE-style format stands for (R153). -/
def Fp.decode (f : Fp) (x : Nat) : FVal :=
  let neg := x / f.signBit % 2 == 1
  let e := x / 2 ^ f.mb % 2 ^ f.eb
  let m := x % 2 ^ f.mb
  if e = 2 ^ f.eb - 1 then (if m = 0 then .inf neg else .nan (decide (m < 2 ^ (f.mb - 1))))
  else if e = 0 then .fin neg m (f.emin - f.mb)
  else .fin neg (2 ^ f.mb + m) (f.emin + (e : Int) - 1 - f.mb)

/-- The exponent of the leading bit of m × 2^e, for m > 0. -/
def leadExp (m : Nat) (e : Int) : Int := (Nat.log2 m : Int) + e

/-- m × 2^e, of sign `neg`, rounded to a whole number of units 2^q, and whether that lost anything (R164, R167). `tieUp` says which way a tie goes when
the lower neighbour counts `n` units. -/
def roundUnits (mode : Rmode) (tieUp : Nat → Bool) (neg : Bool) (m : Nat) (e q : Int) : Nat × Bool :=
  if q ≤ e then (m * 2 ^ (e - q).toNat, false)
  else
    let d := 2 ^ (q - e).toNat
    let n := m / d
    let r := m % d
    if r = 0 then (n, false)
    else
      let up := match mode with
        | .rne => decide (d < 2 * r) || (decide (2 * r = d) && tieUp n)
        | .rtz => false
        | .rdn => neg
        | .rup => !neg
        | .sr draw => if neg then decide (65536 * (d - r) / d + draw < 65536) else decide (65536 ≤ 65536 * r / d + draw)
      (if up then n + 1 else n, true)

/-- The usual tie rule: to the even code. -/
def tieOdd (n : Nat) : Bool := n % 2 == 1

/-- A code with its flags. -/
structure Rounded where
  code  : Nat
  flags : Flags
  deriving DecidableEq, Repr

def signed? (neg : Bool) (bit n : Nat) : Nat := if neg then bit + n else n

/-- An exact value rounded into an IEEE-style format, with the flags of FADD (Table 5.8) and the overflow of Table 5.3. -/
def Fp.round (f : Fp) (mode : Rmode) (v : FVal) : Rounded :=
  match v with
  | .nan sig => ⟨f.nanCode, if sig then fINV else 0⟩
  | .inf neg => ⟨signed? neg f.signBit f.infCode, 0⟩
  | .fin neg m e =>
    if m = 0 then ⟨signed? neg f.signBit 0, 0⟩
    else
      let qmin := f.emin - (f.mb : Int)
      let qu := leadExp m e - (f.mb : Int)
      let q := max qu qmin
      let (n, inexact) := roundUnits mode tieOdd neg m e q
      let (nu, _) := roundUnits mode tieOdd neg m e qu
      let code := (q - qmin).toNat * 2 ^ f.mb + n
      -- overflow is judged on the rounded magnitude, tininess on rounding with an unbounded exponent
      if f.infCode ≤ code then
        let toMax := match mode with
          | .rtz => true
          | .rdn => !neg
          | .rup => neg
          | _ => false
        ⟨signed? neg f.signBit (if toMax then f.infCode - 1 else f.infCode), fOVF ||| fINX⟩
      else
        let tiny := decide (leadExp nu qu < f.emin)
        ⟨signed? neg f.signBit code, (if inexact then fINX else 0) ||| (if inexact && tiny then fUNF else 0)⟩

/-! ## Exact arithmetic -/

/-- An exact result and whether an invalid operation made it (Table 5.8). -/
structure Exact where
  v   : FVal
  inv : Bool
  deriving DecidableEq, Repr

def FVal.isNan : FVal → Bool
  | .nan _ => true
  | _ => false

def FVal.isSnan : FVal → Bool
  | .nan sig => sig
  | _ => false

def FVal.isFin : FVal → Bool
  | .fin _ _ _ => true
  | _ => false

def FVal.isZero : FVal → Bool
  | .fin _ m _ => m == 0
  | _ => false

def FVal.neg : FVal → FVal
  | .nan s => .nan s
  | .inf n => .inf (!n)
  | .fin n m e => .fin (!n) m e

/-- The sign a value carries. -/
def FVal.sgn : FVal → Bool
  | .nan _ => false
  | .inf n => n
  | .fin n _ _ => n

/-- The exact sum; an exact zero of unlike signs is +0, −0 when rounding downwards. -/
def exAdd (rdn : Bool) (a b : FVal) : Exact :=
  match a, b with
  | .nan s, .nan t => ⟨.nan false, s || t⟩
  | .nan s, _ => ⟨.nan false, s⟩
  | _, .nan t => ⟨.nan false, t⟩
  | .inf x, .inf y => if x = y then ⟨.inf x, false⟩ else ⟨.nan false, true⟩
  | .inf x, _ => ⟨.inf x, false⟩
  | _, .inf y => ⟨.inf y, false⟩
  | .fin x m e, .fin y n g =>
    let k := min e g
    let p : Int := (m * 2 ^ (e - k).toNat : Nat)
    let r : Int := (n * 2 ^ (g - k).toNat : Nat)
    let t := (if x then -p else p) + (if y then -r else r)
    if t = 0 then ⟨.fin (if x = y then x else rdn) 0 k, false⟩
    else ⟨.fin (decide (t < 0)) t.natAbs k, false⟩

/-- The exact product. -/
def exMul (a b : FVal) : Exact :=
  match a, b with
  | .nan s, .nan t => ⟨.nan false, s || t⟩
  | .nan s, _ => ⟨.nan false, s⟩
  | _, .nan t => ⟨.nan false, t⟩
  | .inf x, .inf y => ⟨.inf (x != y), false⟩
  | .inf x, .fin y n _ => if n = 0 then ⟨.nan false, true⟩ else ⟨.inf (x != y), false⟩
  | .fin x m _, .inf y => if m = 0 then ⟨.nan false, true⟩ else ⟨.inf (x != y), false⟩
  | .fin x m e, .fin y n g => ⟨.fin (x != y) (m * n) (e + g), false⟩

/-- a × b + c before rounding. -/
def exFma (rdn : Bool) (a b c : FVal) : Exact :=
  let p := exMul a b
  let s := exAdd rdn p.v c
  ⟨s.v, p.inv || s.inv⟩

def Rmode.down : Rmode → Bool
  | .rdn => true
  | _ => false

/-- An exact result rounded, INV added when the operation was invalid. -/
def Exact.round (f : Fp) (mode : Rmode) (x : Exact) : Rounded :=
  let r := f.round mode x.v
  ⟨r.code, r.flags ||| (if x.inv then fINV else 0)⟩

/-! ## FP32 operations -/

def f32 (w : Word32) : FVal := fp32.decode w.toNat
def w32 (n : Nat) : Word32 := BitVec.ofNat 32 n

/-- A 32-bit result with its flags. -/
structure R32 where
  w     : Word32
  flags : Flags
  deriving DecidableEq, Repr

def Rounded.r32 (r : Rounded) : R32 := ⟨w32 r.code, r.flags⟩

def canonNan : Word32 := 0x7FC00000

def f32Add (mode : Rmode) (a b : Word32) : R32 := ((exAdd mode.down (f32 a) (f32 b)).round fp32 mode).r32
def f32Sub (mode : Rmode) (a b : Word32) : R32 := ((exAdd mode.down (f32 a) (f32 b).neg).round fp32 mode).r32
def f32Mul (mode : Rmode) (a b : Word32) : R32 := ((exMul (f32 a) (f32 b)).round fp32 mode).r32
def f32Fma (mode : Rmode) (a b c : Word32) : R32 := ((exFma mode.down (f32 a) (f32 b) (f32 c)).round fp32 mode).r32

/-- Order of two values neither of which is a NaN, −0 below +0. -/
def fvLt (a b : FVal) : Bool :=
  match a, b with
  | .inf x, .inf y => x && !y
  | .inf x, _ => x
  | _, .inf y => !y
  | .fin x m e, .fin y n g =>
    let k := min e g
    let p := m * 2 ^ (e - k).toNat
    let r := n * 2 ^ (g - k).toNat
    if x = y then (if x then decide (r < p) else decide (p < r)) else x
  | _, _ => false

/-- Equality of two values as numbers, ±0 equal. -/
def fvEq (a b : FVal) : Bool :=
  if a.isNan || b.isNan then false
  else (a.isZero && b.isZero) || (!fvLt a b && !fvLt b a)

/-- Numeric order, ±0 equal. -/
def fvLess (a b : FVal) : Bool := !(a.isNan || b.isNan) && fvLt a b && !fvEq a b

/-- IEEE 754 minimumNumber and maximumNumber; INV for a signalling NaN. -/
def f32MinMax (wantMax : Bool) (a b : Word32) : R32 :=
  let x := f32 a
  let y := f32 b
  let fl : Flags := if x.isSnan || y.isSnan then fINV else 0
  if x.isNan then (if y.isNan then ⟨canonNan, fl⟩ else ⟨b, fl⟩)
  else if y.isNan then ⟨a, fl⟩
  else if fvLt x y = wantMax then ⟨b, fl⟩
  else ⟨a, fl⟩

/-- FSETP conditions (R130): codes 0 to 7. -/
def f32Cmp (cc : Nat) (a b : Word32) : Bool × Flags :=
  let x := f32 a
  let y := f32 b
  let fl : Flags := if x.isSnan || y.isSnan then fINV else 0
  let r := match cc with
    | 0 => fvEq x y
    | 1 => !fvEq x y
    | 2 => fvLess x y
    | 3 => fvLess x y || fvEq x y
    | 4 => fvLess y x
    | 5 => fvLess y x || fvEq x y
    | 6 => !(x.isNan || y.isNan)
    | _ => x.isNan || y.isNan
  (r, fl)

/-! ## Results within a bound (Table 4.8, R183)

The magnitude of the exact result is bracketed: `code` is the FP32 code of the largest representable value not above it, `exact` says it is that
value. The result returned lies within `ulps` codes of it, which one is free (`Config.ulpChoice`). -/

/-- The code chosen among those within `ulps` of a magnitude. -/
def ulpPick (op : Nat) (a : Word32) (ulps code : Nat) (exact : Bool) : Nat :=
  let lo : Int := (code : Int) - (if exact then ulps else ulps - 1)
  let hi : Int := (code : Int) + ulps
  ((max lo 0) + (Config.ulpChoice op a) % (hi - max lo 0 + 1)).toNat

/-- A chosen magnitude with sign and flags: past the largest finite code it is ∞ with OVF; tiny and inexact raises UNF when `under`. -/
def ulpResult (op : Nat) (a : Word32) (ulps : Nat) (neg : Bool) (code : Nat) (exact under : Bool) : R32 :=
  let c := if fp32.infCode ≤ code then fp32.infCode else Nat.min (ulpPick op a ulps code exact) fp32.infCode
  let hit := exact && decide (c = code)
  let fl : Flags :=
    if c = fp32.infCode then fOVF ||| fINX
    else (if hit then 0 else fINX) ||| (if !hit && under && decide (c < 2 ^ 23) then fUNF else 0)
  ⟨w32 (signed? neg fp32.signBit c), fl⟩

/-- The code of the largest FP32 value not above n/d × 2^e (n, d > 0), and whether it is equal; ∞'s code when the value is 2^128 or more. -/
def floorCode (n d : Nat) (e : Int) : Nat × Bool :=
  -- scaled so that the quotient has at least 26 bits
  let k := (Nat.log2 d + 27) - Nat.log2 n
  let t := n * 2 ^ k / d
  let rest := n * 2 ^ k % d
  let f := e - (k : Int)
  let qmin : Int := -149
  let q := max (leadExp t f - 23) qmin
  let sh := (q - f).toNat
  let u := if f ≤ q then t / 2 ^ sh else t * 2 ^ (f - q).toNat
  let lost := if f ≤ q then t % 2 ^ sh else 0
  (Nat.min ((q - qmin).toNat * 2 ^ 23 + u) fp32.infCode, lost == 0 && rest == 0)

/-- 1 / a (Table 4.8). -/
def f32Rcp (a : Word32) : R32 :=
  match f32 a with
  | .nan s => ⟨canonNan, if s then fINV else 0⟩
  | .inf n => ⟨w32 (signed? n fp32.signBit 0), 0⟩
  | .fin n m e =>
    if m = 0 then ⟨w32 (signed? n fp32.signBit fp32.infCode), 0⟩
    else
      let (c, x) := floorCode 1 m (-e)
      ulpResult 8 a 1 n c x true

/-- √(m × 2^e) bracketed, with 40 bits below the leading one. -/
def sqrtParts (m : Nat) (e : Int) : Nat × Int × Bool :=
  let k := 120 - Nat.log2 m
  let k' := if (e - (k : Int)) % 2 = 0 then k else k + 1
  let t := m * 2 ^ k'
  let r := Nat.sqrt t
  (r, (e - (k' : Int)) / 2, r * r == t)

def f32Sqrt (a : Word32) : R32 :=
  match f32 a with
  | .nan s => ⟨canonNan, if s then fINV else 0⟩
  | .inf n => if n then ⟨canonNan, fINV⟩ else ⟨a, 0⟩
  | .fin n m e =>
    if m = 0 then ⟨a, 0⟩
    else if n then ⟨canonNan, fINV⟩
    else
      let (r, f, x) := sqrtParts m e
      let (c, y) := floorCode r 1 f
      ulpResult 10 a 1 false c (x && y) false

/-- 1 / √a: RSQ(±0) gives ±∞ (R183). -/
def f32Rsq (a : Word32) : R32 :=
  match f32 a with
  | .nan s => ⟨canonNan, if s then fINV else 0⟩
  | .inf n => if n then ⟨canonNan, fINV⟩ else ⟨0, 0⟩
  | .fin n m e =>
    if m = 0 then ⟨w32 (signed? n fp32.signBit fp32.infCode), 0⟩
    else if n then ⟨canonNan, fINV⟩
    else
      -- exact exactly when m × 2^e is a power of four; else 1/√x = √(1/x), bracketed by the square root of a truncated reciprocal
      let j := Nat.log2 m
      if m = 2 ^ j ∧ (e + (j : Int)) % 2 = 0 then
        let (c, y) := floorCode 1 1 (-(e + (j : Int)) / 2)
        ulpResult 9 a 1 false c y false
      else
        let k := 256 + 2 * j
        let k' := if (e - (k : Int)) % 2 = 0 then k else k + 1
        let r := Nat.sqrt (2 ^ k' / m)
        let (c, _) := floorCode r 1 ((-e - (k' : Int)) / 2)
        ulpResult 9 a 1 false c false false

/-- Working precision of the series below, in bits. -/
def seriesBits : Nat := 256

/-- 2^(f / 2^256) for a fraction, as an integer over 2^256: the product of the roots 2^(1/2^k) its bits select. -/
def exp2Frac (f : Nat) : Nat :=
  let one := 2 ^ seriesBits
  ((List.range 160).foldl (fun (st : Nat × Nat) k =>
    let root := Nat.sqrt (st.1 * one)
    (root, if f.testBit (seriesBits - 1 - k) then st.2 * root / one else st.2)) (2 * one, one)).2

/-- Fixed-point fraction of x in units of 2^-256, with its integer part. -/
def splitFixed (neg : Bool) (m : Nat) (e : Int) : Int × Nat :=
  let t : Int := if 0 ≤ e + (seriesBits : Int) then (m * 2 ^ (e + (seriesBits : Int)).toNat : Nat) else (m / 2 ^ (-(e + (seriesBits : Int))).toNat : Nat)
  let v := if neg then -t else t
  (v / (2 ^ seriesBits : Nat), (v % (2 ^ seriesBits : Nat)).toNat)

/-- 2^a within `ulps` of the exact result: 2^-∞ is +0, 2^+∞ is +∞. -/
def exp2Within (op ulps : Nat) (a : Word32) : R32 :=
  match f32 a with
  | .nan s => ⟨canonNan, if s then fINV else 0⟩
  | .inf n => if n then ⟨0, 0⟩ else ⟨a, 0⟩
  | .fin n m e =>
    if m = 0 then ⟨0x3F800000, 0⟩
    else if 9 ≤ leadExp m e then (if n then ulpResult op a ulps false 0 false true else ⟨w32 fp32.infCode, fOVF ||| fINX⟩)
    else
      let (i, f) := splitFixed n m e
      let (c, x) := floorCode (exp2Frac f) 1 (i - (seriesBits : Int))
      ulpResult op a ulps false c (x && f == 0) true

/-- EXP2 (Table 4.8). -/
def f32Exp2 (a : Word32) : R32 := exp2Within 11 1 a

/-- The first 160 bits of log2 of t / 2^600 for 1 ≤ t / 2^600 < 2. -/
def log2Frac (t : Nat) : Nat :=
  ((List.range 160).foldl (fun (st : Nat × Nat) _ =>
    let sq := st.1 * st.1 / 2 ^ 600
    if 2 ^ 601 ≤ sq then (sq / 2, 2 * st.2 + 1) else (sq, 2 * st.2)) (t, 0)).2

/-- log2 a (Table 4.8): LOG2(±0) is −∞ without a flag (R183). -/
def f32Log2 (a : Word32) : R32 :=
  match f32 a with
  | .nan s => ⟨canonNan, if s then fINV else 0⟩
  | .inf n => if n then ⟨canonNan, fINV⟩ else ⟨a, 0⟩
  | .fin n m e =>
    if m = 0 then ⟨w32 (fp32.signBit + fp32.infCode), 0⟩
    else if n then ⟨canonNan, fINV⟩
    else
      let j := Nat.log2 m
      let i := e + (j : Int)
      let f := log2Frac (m * 2 ^ (600 - j))
      let v : Int := i * (2 ^ 160 : Nat) + f
      if v = 0 then ulpResult 12 a 1 false 0 true false
      else if v < 0 then
        -- the bits computed truncate the true value, which lies nearer zero
        let (c, x) := floorCode (if m = 2 ^ j then v.natAbs else v.natAbs - 1) 1 (-160)
        ulpResult 12 a 1 true c (x && m == 2 ^ j) false
      else
        let (c, x) := floorCode v.natAbs 1 (-160)
        ulpResult 12 a 1 false c (x && m == 2 ^ j) false

end Sys2Proof.Machine
end

