-- ==== Sys2Proof/Machine/Convert.lean ====
section
/-! DEFINITION. Formats and conversions (R152 to R170), compensated pairs (R173 to R177) and the operand splits of the multi-pass modes (R178, R180). -/

namespace Sys2Proof.Machine

open Sys2Proof

/-- The scaled formats (Table 5.1). -/
inductive SFmt where
  | d8
  | d8w
  | d4
  | int8
  | int4
  deriving DecidableEq, Repr

def SFmt.bits : SFmt → Nat
  | .d8 | .d8w | .int8 => 8
  | .d4 | .int4 => 4

def SFmt.isInt : SFmt → Bool
  | .int8 | .int4 => true
  | _ => false

/-- Significant bits of a normal value of a short float (Table 5.2). -/
def SFmt.prec : SFmt → Nat
  | .d8 => 4
  | .d8w => 3
  | _ => 1

/-- The exponent of the smallest positive code of a short float (Table 5.2). -/
def SFmt.qmin : SFmt → Int
  | .d8 => -10
  | .d8w => -17
  | .d4 => -2
  | _ => 0

/-- The largest code a conversion writes (Table 5.2, R158). -/
def SFmt.top : SFmt → Nat
  | .d8 | .d8w | .int8 => 127
  | .d4 | .int4 => 7

/-- decode(c), before the scale (R155, R156, R158). -/
def SFmt.decode (f : SFmt) (c : Nat) : FVal :=
  let h := 2 ^ (f.bits - 1)
  let neg := c / h % 2 == 1
  let b := c % h
  if f.isInt then (let x := signed f.bits c; .fin (decide (x < 0)) x.natAbs 0)
  else
    let u := 2 ^ (f.prec - 1)
    let e := b / u
    let m := b % u
    if e = 0 then .fin neg m f.qmin
    else .fin neg (u + m) (f.qmin + (e : Int) - 1)

def FVal.scale (v : FVal) (s : Int) : FVal :=
  match v with
  | .fin n m e => .fin n m (e + s)
  | x => x

/-- A tie goes to the even code: in D4 the code of the lower neighbour counts, not the number of units (R164). -/
def SFmt.tie (f : SFmt) (q : Int) (n : Nat) : Bool :=
  match f with
  | .d4 => if n = 0 then false else (q - f.qmin + 1) % 2 == 1
  | _ => tieOdd n

/-- What became of one element. -/
structure Coded where
  code  : Nat
  flags : Flags
  sat   : Bool
  deriving DecidableEq, Repr

/-- x / 2^s converted to a scaled format (R163 to R166); `s` is not −128. NaN gives code 0 and INV. -/
def SFmt.encode (f : SFmt) (mode : Rmode) (v : FVal) (s : Int) : Coded :=
  let h := 2 ^ (f.bits - 1)
  let put (neg : Bool) (n : Nat) : Nat := if f.isInt then (if neg && n != 0 then 2 ^ f.bits - n else n) else signed? neg h n
  match v with
  | .nan _ => ⟨0, fINV, false⟩
  | .inf neg => ⟨put neg f.top, fOVF ||| fINX, true⟩
  | .fin neg m e =>
    if m = 0 then ⟨put neg 0, 0, false⟩
    else
      let ex := e - s
      let q := if f.isInt then 0 else max (leadExp m ex - ((f.prec : Int) - 1)) f.qmin
      let (n, inexact) := roundUnits mode (f.tie q) neg m ex q
      let code := if f.isInt then n else (q - f.qmin).toNat * 2 ^ (f.prec - 1) + n
      if f.top < code then ⟨put neg f.top, fOVF ||| fINX, true⟩
      else
        let low := if f.isInt || f == .d4 then decide (code = 0) else decide (code < 2 ^ (f.prec - 1))
        ⟨put neg code, (if inexact then fINX else 0) ||| (if inexact && low then fUNF else 0), false⟩

/-- A code under exponent `s` read into FP32 (R160, R161). -/
def SFmt.read (f : SFmt) (c : Nat) (s : Int) : R32 :=
  if s = -128 then ⟨canonNan, fINV⟩
  else (fp32.round .rne ((f.decode c).scale s)).r32

/-! ## The type codes of Table 4.5 -/

inductive Ty where
  | i32
  | u32
  | i64
  | u64
  | fp (f : Fp)
  | sc (f : SFmt)
  deriving DecidableEq, Repr

def tyOf : Nat → Option Ty
  | 0 => some .i32
  | 1 => some .u32
  | 2 => some .i64
  | 3 => some .u64
  | 4 => some (.fp fp32)
  | 5 => some (.fp fp16)
  | 6 => some (.fp bf16)
  | 7 => some (.sc .int8)
  | 8 => some (.sc .int4)
  | 9 => some (.sc .d8)
  | 10 => some (.sc .d8w)
  | 11 => some (.sc .d4)
  | _ => none

def Ty.bits : Ty → Nat
  | .i32 | .u32 => 32
  | .i64 | .u64 => 64
  | .fp f => 1 + f.eb + f.mb
  | .sc f => f.bits

def Ty.scaled : Ty → Bool
  | .sc _ => true
  | _ => false

def ofInt (x : Int) : FVal := .fin (decide (x < 0)) x.natAbs 0

/-- Conversion to a 32-bit or 64-bit integer type (Tables 5.3, 5.4): `lo` to `hi` are its limits. -/
def toInt (bits : Nat) (lo hi : Int) (mode : Rmode) (v : FVal) : Rounded :=
  match v with
  | .nan _ => ⟨0, fINV⟩
  | .inf neg => ⟨unsign bits (if neg then lo else hi), fINV⟩
  | .fin neg m e =>
    let (n, inexact) := roundUnits mode tieOdd neg m e 0
    let x : Int := if neg then -(n : Int) else n
    let fl : Flags := if inexact then fINX else 0
    if x < lo then ⟨unsign bits lo, fINV ||| fl⟩
    else if hi < x then ⟨unsign bits hi, fINV ||| fl⟩
    else ⟨unsign bits x, fl⟩

/-- The value of a source code, with the flags of reading it into FP32 (R153, R161, Table 5.8). -/
def Ty.source (t : Ty) (x : Nat) (s : Int) : FVal × Flags :=
  match t with
  | .i32 => (ofInt (signed 32 x), 0)
  | .u32 => (ofInt ((x % 2 ^ 32 : Nat) : Int), 0)
  | .i64 => (ofInt (signed 64 x), 0)
  | .u64 => (ofInt ((x % 2 ^ 64 : Nat) : Int), 0)
  | .fp f => (f.decode (x % 2 ^ (1 + f.eb + f.mb)), 0)
  | .sc f =>
    let r := f.read (x % 2 ^ f.bits) s
    (f32 r.w, r.flags)

/-- CVT (R129): source type, destination type, scale exponent of either, and the operand's bits. Between two scaled formats the value keeps its exact
decode; under scale −128 a scaled destination is code 0 with INV (R162). -/
def convert (mode : Rmode) (dst src : Ty) (s : Int) (x : Nat) : Rounded :=
  let (v, fl) := match dst, src with
    | .sc _, .sc f => if s = -128 then (FVal.nan false, fINV) else ((f.decode (x % 2 ^ f.bits)).scale s, 0)
    | _, _ => src.source x s
  let r : Rounded := match dst with
    | .i32 => toInt 32 (-(2 ^ 31 : Nat)) ((2 ^ 31 : Nat) - 1) mode v
    | .u32 => toInt 32 0 ((2 ^ 32 : Nat) - 1) mode v
    | .i64 => toInt 64 (-(2 ^ 63 : Nat)) ((2 ^ 63 : Nat) - 1) mode v
    | .u64 => toInt 64 0 ((2 ^ 64 : Nat) - 1) mode v
    | .fp f => f.round mode v
    | .sc f => if s = -128 then ⟨0, fINV⟩ else (let c := f.encode mode v s; ⟨c.code, c.flags⟩)
  ⟨r.code, r.flags ||| fl⟩

/-! ## Tile conversion (R169, R170) -/

/-- The outcome of Table 5.5, with the codes written, the scale code written and the flags raised. -/
structure TileOut where
  codes : List Nat
  scale : Int
  amax  : Word32
  sat   : Bool
  allZero : Bool
  nan   : Bool
  flags : Flags
  deriving DecidableEq, Repr

/-- The largest magnitude among the finite elements, as FP32; 0 if none. -/
def amaxOf (xs : List Word32) : Word32 :=
  xs.foldl (fun a x => if (f32 x).isFin then (if a.toNat < x.toNat % 2 ^ 31 then w32 (x.toNat % 2 ^ 31) else a) else a) 0

/-- Whether a code decodes to ±0 (R169). -/
def SFmt.zeroCode (f : SFmt) (c : Nat) : Bool := if f.isInt then c == 0 else c % 2 ^ (f.bits - 1) == 0

/-- The elements of a tile converted under exponent `s`; `draws n` is the draw of the n-th element, used in mode SR. -/
def convertTile (f : SFmt) (sr : Bool) (mode : Rmode) (draws : Nat → Nat) (s : Int) (xs : List Word32) : TileOut :=
  let nan := xs.any (fun x => (f32 x).isNan)
  let am := amaxOf xs
  if s = -128 then
    { codes := xs.map (fun _ => 0), scale := -128, amax := am, sat := false, allZero := false, nan := nan, flags := fINV }
  else
    let cs := xs.zipIdx.map (fun p => f.encode (if sr then .sr (draws p.2) else mode) (f32 p.1) s)
    let sat := cs.any (fun c => c.sat)
    let fl := cs.foldl (fun a c => a ||| c.flags) 0
    if nan then { codes := xs.map (fun _ => 0), scale := -128, amax := am, sat := sat, allZero := false, nan := true, flags := fl ||| fINV }
    else
      { codes := cs.map (fun c => c.code), scale := s, amax := am, sat := sat,
        allZero := cs.all (fun c => f.zeroCode c.code) && xs.any (fun x => !(f32 x).isZero), nan := false, flags := fl }

/-! ## Compensated pairs (R173 to R177) -/

structure Pair where
  hi : Word32
  lo : Word32
  deriving DecidableEq, Repr

/-- One FP32 step of a pair operation: its result and the flags R177 keeps, in a running account. -/
structure Steps where
  flags : Flags
  /-- Sign of the first step that overflowed. -/
  ovf   : Option Bool
  deriving DecidableEq, Repr

def Steps.zero : Steps := ⟨0, none⟩

def Steps.note (k : Steps) (r : R32) : Steps :=
  { flags := k.flags ||| (r.flags &&& (fOVF ||| fINV)),
    ovf := if (r.flags &&& fOVF) != 0 && k.ovf.isNone then some (r.w.getLsbD 31) else k.ovf }

def twoSum (k : Steps) (a b : Word32) : Word32 × Word32 × Steps :=
  let s := f32Add .rne a b
  let k1 := k.note s
  if (f32 s.w).isFin then
    let bb := f32Sub .rne s.w a
    let x := f32Sub .rne s.w bb.w
    let y := f32Sub .rne a x.w
    let z := f32Sub .rne b bb.w
    let e := f32Add .rne y.w z.w
    (s.w, e.w, ((((k1.note bb).note x).note y).note z).note e)
  else (s.w, 0, k1)

def fastTwoSum (k : Steps) (a b : Word32) : Word32 × Word32 × Steps :=
  let s := f32Add .rne a b
  let k1 := k.note s
  if (f32 s.w).isFin then
    let x := f32Sub .rne s.w a
    let e := f32Sub .rne b x.w
    (s.w, e.w, (k1.note x).note e)
  else (s.w, 0, k1)

def twoProd (k : Steps) (a b : Word32) : Word32 × Word32 × Steps :=
  let p := f32Mul .rne a b
  let k1 := k.note p
  if (f32 p.w).isFin then
    let e := f32Fma .rne a b (p.w ^^^ 0x80000000)
    (p.w, e.w, k1.note e)
  else (p.w, 0, k1)

/-- The result of a pair operation under R177: (±∞, +0) when a step overflowed, (canonical NaN, +0) when one produced NaN. -/
def pairClose (hi lo : Word32) (k : Steps) : Pair × Flags :=
  let fl : Flags := (k.flags &&& fINV) ||| (if (k.flags &&& fOVF) != 0 then fOVF ||| fINX else 0)
  match k.ovf with
  | some neg => (⟨w32 (signed? neg fp32.signBit fp32.infCode), 0⟩, fl)
  | none =>
    if (f32 hi).isNan || (f32 lo).isNan then (⟨canonNan, 0⟩, fl)
    else if !(f32 hi).isFin then (⟨hi, 0⟩, fl)
    else (⟨hi, lo⟩, fl)

/-- pair_add (R175), of operands that may be infinite or NaN (their sum as FP32 gives). -/
def pairAdd (x y : Pair) : Pair × Flags :=
  let (sh, sl, k1) := twoSum .zero x.hi y.hi
  if (f32 sh).isFin then
    let (th, tl, k2) := twoSum k1 x.lo y.lo
    let c := f32Add .rne sl th
    let (vh, vl, k3) := fastTwoSum (k2.note c) sh c.w
    let w := f32Add .rne tl vl
    let (h, l, k4) := fastTwoSum (k3.note w) vh w.w
    pairClose h l k4
  else pairClose sh 0 k1

/-- pair_acc_product (R175). -/
def pairAccProduct (acc : Pair) (a b : Word32) : Pair × Flags :=
  let (p, e, k) := twoProd .zero a b
  let (q, f0) := pairClose p e k
  let (r, f1) := pairAdd acc q
  (r, f0 ||| f1)

/-- A pair as an engine reads it: replaced by two_sum(hi, lo) (R176). -/
def pairRead (hi lo : Word32) : Pair × Flags :=
  let (s, e, k) := twoSum .zero hi lo
  pairClose s e k

/-! ## Operand splits (R178, R180) -/

/-- hi of a split FP32 operand: the value rounded with RNE to 12 significant bits. -/
def splitHi (v : FVal) : FVal :=
  match v with
  | .fin n m e =>
    if m = 0 then v
    else
      let q := leadExp m e - 11
      let (k, _) := roundUnits .rne tieOdd n m e q
      if e < q then .fin n k q else v
  | x => x

/-- lo = a − hi, 0 for an infinite or NaN operand. -/
def splitLo (v : FVal) : FVal :=
  match v with
  | .fin n _ _ =>
    match (exAdd false v (splitHi v).neg).v with
    | .fin s m e => if m = 0 then .fin n 0 e else .fin s m e
    | x => x
  | _ => .fin false 0 0

/-- Limb `i` of an integer operand of `n` limbs: the top one signed, the others unsigned (R180). -/
def limb (n i : Nat) (x : Word32) : Int :=
  let b := x.toNat / 2 ^ (8 * i) % 256
  if i + 1 = n then signed 8 b else b

end Sys2Proof.Machine
end

