-- ==== Sys2Proof/Machine/Hash.lean ====
section
/-! DEFINITION. The checks and digests the spec names by their published parameters: reflected CRCs (R73, R355, R373, R406) and SHA3-256. -/

namespace Sys2Proof.Machine

open Sys2Proof

/-- `n` bits shifted out of a reflected CRC register with polynomial `poly`. -/
def crcBits (poly : Nat) : Nat → Nat → Nat
  | 0, r => r
  | n + 1, r => crcBits poly n (if r % 2 = 1 then (r / 2) ^^^ poly else r / 2)

/-- A reflected CRC over bytes, initial value and final mask both `mask`. -/
def crcReflected (poly mask : Nat) (bs : List Byte) : Nat :=
  (bs.foldl (fun r b => crcBits poly 8 (r ^^^ b.toNat)) mask) ^^^ mask

/-- CRC-32 of IEEE 802.3 (R73). -/
def crc32 (bs : List Byte) : Nat := crcReflected 0xEDB88320 0xFFFFFFFF bs

/-- CRC-32C (R406, Table 11.8). -/
def crc32c (bs : List Byte) : Nat := crcReflected 0x82F63B78 0xFFFFFFFF bs

/-- CRC-64/XZ (R355). -/
def crc64xz (bs : List Byte) : Nat := crcReflected 0xC96C5795D7870F42 0xFFFFFFFFFFFFFFFF bs

/-! ## SHA3-256 -/

/-- Round constants of Keccak-f[1600]. -/
def keccakRc : List Word64 :=
  [0x0000000000000001, 0x0000000000008082, 0x800000000000808A, 0x8000000080008000, 0x000000000000808B, 0x0000000080000001,
   0x8000000080008081, 0x8000000000008009, 0x000000000000008A, 0x0000000000000088, 0x0000000080008009, 0x000000008000000A] ++
  [0x000000008000808B, 0x800000000000008B, 0x8000000000008089, 0x8000000000008003, 0x8000000000008002, 0x8000000000000080,
   0x000000000000800A, 0x800000008000000A, 0x8000000080008081, 0x8000000000008080, 0x0000000080000001, 0x8000000080008008]

/-- Rotation of lane x + 5y. -/
def keccakRot : List Nat :=
  [0, 1, 62, 28, 27, 36, 44, 6, 55, 20, 3, 10, 43] ++ [25, 39, 41, 45, 15, 21, 8, 18, 2, 61, 56, 14]

/-- One round on the 25 lanes. -/
def keccakRound (a : List Word64) (rc : Word64) : List Word64 :=
  let l (b : List Word64) (i : Nat) : Word64 := b.getD i 0
  let c := (List.range 5).map (fun x => l a x ^^^ l a (x + 5) ^^^ l a (x + 10) ^^^ l a (x + 15) ^^^ l a (x + 20))
  let d := (List.range 5).map (fun x => l c ((x + 4) % 5) ^^^ (l c ((x + 1) % 5)).rotateLeft 1)
  let t := (List.range 25).map (fun i => (l a i ^^^ l d (i % 5)).rotateLeft (keccakRot.getD i 0))
  -- lane (x, y) of the permuted state comes from lane ((x + 3y) mod 5, x)
  let b := (List.range 25).map (fun i => l t ((i % 5 + 3 * (i / 5)) % 5 + 5 * (i % 5)))
  let e := (List.range 25).map (fun i =>
    let y := 5 * (i / 5)
    l b i ^^^ (~~~(l b (y + (i % 5 + 1) % 5)) &&& l b (y + (i % 5 + 2) % 5)))
  match e with
  | [] => []
  | h :: r => (h ^^^ rc) :: r

def keccakF (a : List Word64) : List Word64 := keccakRc.foldl keccakRound a

/-- A 136-byte block absorbed. -/
def keccakAbsorb (a : List Word64) (blk : List Byte) : List Word64 :=
  keccakF ((List.range 25).map (fun i => if i < 17 then a.getD i 0 ^^^ BitVec.ofNat 64 (field blk (8 * i) 8) else a.getD i 0))

/-- Message and padding absorbed block by block, on as much fuel as there are blocks. -/
def sha3Blocks : Nat → List Word64 → List Byte → List Word64
  | 0, a, _ => a
  | n + 1, a, bs => sha3Blocks n (keccakAbsorb a (bs.take 136)) (bs.drop 136)

/-- Padding with the SHA3 domain bits to whole blocks. -/
def sha3Pad (bs : List Byte) : List Byte :=
  let q := 136 - bs.length % 136
  if q = 1 then bs ++ [0x86] else bs ++ [0x06] ++ zeros (q - 2) ++ [0x80]

/-- SHA3-256: 32 bytes. -/
def sha3 (bs : List Byte) : List Byte :=
  let p := sha3Pad bs
  let a := sha3Blocks (p.length / 136) (List.replicate 25 0) p
  (List.range 4).flatMap (fun i => leBytes 8 (a.getD i 0).toNat)

end Sys2Proof.Machine
end

