-- ==== Sys2Proof/Machine/Fabric.lean ====
section
/-! DEFINITION. The Lanit fabric on the transmit side (chapter 11): coordinates, routes, packets, flits, credits, encryption, messages lost and the
halt wave's flood. -/

namespace Sys2Proof.Machine

open Sys2Proof

/-! ## Records of events

Where the spec names the fields of a record but gives no layout, each field takes 8 bytes in the order named (assumption log). -/

def rec8 (fs : List Nat) : List Byte := fs.flatMap (fun x => leBytes 8 x)

/-! ## Coordinates (R347 to R349) -/

/-- The fabric ID of a coordinate. -/
def fabIdOf : List Nat → List Nat → Nat
  | [], _ => 0
  | _, [] => 0
  | c :: cs, l :: ls => c + l * fabIdOf cs ls

/-- The coordinate of a fabric ID. -/
def coordOf : Nat → List Nat → List Nat
  | _, [] => []
  | x, l :: ls => x % l :: coordOf (x / l) ls

def systemSize (ls : List Nat) : Nat := ls.foldl (fun a l => a * l) 1

def axisLen (s : State) (a : Nat) : Nat := s.lantern.lengths.getD a 1
def ownCoord (s : State) (a : Nat) : Nat := s.lantern.coord.getD a 0

/-- Axis of a port and of a link. -/
def portOfLink (n : Nat) : Nat := n / 4
def slotOfLink (n : Nat) : Nat := n % 4
def axisOfPort (p : Nat) : Nat := p / 2

/-- The links of a port, in ascending order. -/
def linksOf (p : Nat) : List Nat := [4 * p, 4 * p + 1, 4 * p + 2, 4 * p + 3]

def isActive (s : State) (n : Nat) : Bool := (s.link n).st == .active

/-- The failover link of a port: its lowest-numbered ACTIVE link (R358). -/
def failoverLink (s : State) (p : Nat) : Option Nat := (linksOf p).find? (fun n => isActive s n && !(s.link n).displaced)

/-- A port is live while one of its links is ACTIVE (R351). -/
def portLive (s : State) (p : Nat) : Bool := (linksOf p).any (isActive s)

/-! ## Packets (R368) -/

def b2n (b : Bool) (n : Nat) : Nat := if b then n else 0

/-- The header with ROUTE as given (Table 11.8). -/
def headerBytes (p : Packet) (route : Nat) (len : Nat) : List Byte :=
  leBytes 4 p.dest ++ leBytes 4 p.src ++ leBytes 2 p.fpn ++ [BitVec.ofNat 8 p.txn] ++
  [BitVec.ofNat 8 (b2n p.ord 1 + b2n p.adapt 2 + b2n p.bulk 4 + b2n p.notify 8 + b2n p.enc 16 + 32 * (p.key % 2))] ++
  leBytes 2 len ++ leBytes 2 p.msg ++ [BitVec.ofNat 8 p.pkt, BitVec.ofNat 8 p.npkt, BitVec.ofNat 8 route, BitVec.ofNat 8 p.status] ++
  leBytes 4 p.site.toNat ++ leBytes 8 p.addr ++ leBytes 8 p.arg0.toNat ++ leBytes 8 p.arg1.toNat

def routeByte (p : Packet) : Nat := p.axis % 8 + b2n p.dir 8

/-- What the CRC-32C covers: the header with ROUTE as zero, the data as sent, NONCE and POISON_MASK (Table 11.9). -/
def crcCover (p : Packet) (data : List Byte) : List Byte :=
  headerBytes p 0 data.length ++ data ++ leBytes 8 p.nonce.toNat ++ leBytes 8 p.pmask.toNat

/-- The bytes of a packet whose data is already as sent. -/
def packetBytes (p : Packet) : List Byte :=
  headerBytes p (routeByte p) p.data.length ++ p.data ++ leBytes 8 p.nonce.toNat ++ leBytes 8 p.pmask.toNat ++ leBytes 4 p.crc.toNat ++ zeros 4 ++
  padTo 16 p.tag

/-- Data length a header announces, and flits the packet fills. -/
def headerLen (bs : List Byte) : Nat := field bs 12 2
def flitsOf (len : Nat) : Nat := (88 + len + 239) / 240

/-- The packet of received bytes. -/
def parsePacket (bs : List Byte) : Packet :=
  let len := headerLen bs
  let fl := (byteAt bs 11).toNat
  let tr := bs.drop (48 + len)
  { dest := field bs 0 4, src := field bs 4 4, fpn := field bs 8 2, txn := field bs 10 1, ord := fl % 2 == 1, adapt := fl / 2 % 2 == 1,
    bulk := fl / 4 % 2 == 1, notify := fl / 8 % 2 == 1, enc := fl / 16 % 2 == 1, key := fl / 32 % 2, msg := field bs 14 2, pkt := field bs 16 1,
    npkt := field bs 17 1, axis := (byteAt bs 18).toNat % 8, dir := (byteAt bs 18).toNat / 8 % 2 == 1, status := field bs 19 1,
    site := BitVec.ofNat 32 (field bs 20 4), addr := field bs 24 8, arg0 := BitVec.ofNat 64 (field bs 32 8), arg1 := BitVec.ofNat 64 (field bs 40 8),
    data := (bs.drop 48).take len, nonce := BitVec.ofNat 64 (field tr 0 8), pmask := BitVec.ofNat 64 (field tr 8 8),
    crc := BitVec.ofNat 32 (field tr 16 4), tag := (tr.drop 24).take 16 }

/-- A packet with no route taken and nothing encrypted yet. -/
def newPacket (s : State) (dest fpn txn : Nat) : Packet :=
  { dest := dest, src := s.lantern.fabricId, fpn := fpn, txn := txn, ord := false, adapt := false, bulk := false, notify := false, enc := true, key := 0,
    msg := 0, pkt := 0, npkt := 1, axis := 7, dir := false, status := 0, site := 0, addr := 0, arg0 := 0, arg1 := 0, data := [], nonce := 0, pmask := 0,
    crc := 0, tag := [] }

/-- Routing classes (Table 11.5): 0 R, 1 S, 2 B, 3 C, 4 M. -/
def classOfPacket (neighbour : Bool) (p : Packet) : Nat :=
  match p.txn with
  | 0x01 => if p.bulk then 2 else 0
  | 0x03 | 0x07 | 0x0A => 1
  | 0x08 => if neighbour then 3 else 0
  | 0x09 => 2
  | 0x10 | 0x11 | 0x12 => 4
  | _ => 0

/-- Lower and upper virtual channel of a class. -/
def vcsOf : Nat → Nat × Nat
  | 0 => (0, 1)
  | 1 => (2, 3)
  | 2 => (4, 5)
  | 3 => (6, 6)
  | _ => (7, 7)

/-! ## Routes (R364 to R367) -/

inductive Hop where
  | here
  | drop
  | out (port vc axis : Nat) (dir : Bool)
  deriving DecidableEq, Repr

/-- Whether `n` hops from `x` on axis `a`, in the plus direction or the minus one, cross a dead segment. -/
def crossesDead (s : State) (a x n : Nat) (minus : Bool) : Bool :=
  let l := axisLen s a
  (List.range n).any (fun k => s.fabric.dead.contains (a, if minus then (x + l * (k + 2) - 1 - k) % l else (x + k) % l))

/-- Whether two coordinates are torus neighbours. -/
def neighbours (s : State) (d : List Nat) : Bool :=
  let diff := (List.range 6).filter (fun a => d.getD a 0 != ownCoord s a)
  match diff with
  | [a] =>
    let l := axisLen s a
    let up := (d.getD a 0 + l - ownCoord s a) % l
    up == 1 || up + 1 == l
  | _ => false

/-- Free credits a link holds for a VC and share (R361): keys 0 to 6 reserved flits of the VC, 7 VC7, 9 the shared pool; 16 + 8 × share + VC sealed. -/
def creditKey (sealed : Bool) (share vc : Nat) : Nat := if vc = 7 then 7 else if sealed then 16 + 8 * share + vc else vc

def freeCredits (l : Link) (share vc : Nat) : Int :=
  let own := Sparse.get 0 l.credits (creditKey l.farSealed share vc)
  if l.farSealed || vc = 7 then own else own + Sparse.get 0 l.credits 9

def portCredits (s : State) (p share vc : Nat) : Int :=
  (linksOf p).foldl (fun a n => if isActive s n then a + freeCredits (s.link n) share vc else a) 0

def shareOf (fpn : Nat) : Nat := fpn / 2 ^ 13 % 8

/-- The next hop of a packet that arrived on `vc` (R364). A fabric ID that names no module leads nowhere. -/
def routeOf (s : State) (p : Packet) (vc : Nat) : Hop :=
  if systemSize s.lantern.lengths ≤ p.dest then .drop
  else
  let d := coordOf p.dest s.lantern.lengths
  match (List.range 6).find? (fun a => d.getD a 0 != ownCoord s a) with
  | none => .here
  | some a =>
    let l := axisLen s a
    let x := ownCoord s a
    let up := (d.getD a 0 + l - x) % l
    let down := l - up
    let cls := classOfPacket (neighbours s d) p
    let (lower, upper) := vcsOf cls
    let wrap (minus : Bool) : Bool := if minus then x == 0 else x + 1 == l
    let go (minus : Bool) (v : Nat) : Hop := .out (2 * a + (if minus then 1 else 0)) (if wrap minus then upper else v) a minus
    if p.axis = a then go p.dir vc
    else
      let prefer : Bool :=
        if up < down then false
        else if down < up then true
        else !p.ord && p.adapt && s.fabric.adaptive &&
          decide (portCredits s (2 * a) (shareOf p.fpn) lower < portCredits s (2 * a + 1) (shareOf p.fpn) lower)
      if crossesDead s a x (if prefer then down else up) prefer then
        if crossesDead s a x (if prefer then up else down) (!prefer) then .drop else go (!prefer) lower
      else go prefer lower

/-- The link of a port that a packet leaves on (Table 11.4). -/
def linkFor (s : State) (p : Packet) (port vc cls : Nat) : Option Nat :=
  if !p.ord && p.adapt && s.fabric.adaptive then
    (linksOf port).foldl (fun best n =>
      if isActive s n then
        match best with
        | none => some n
        | some b => if freeCredits (s.link b) (shareOf p.fpn) vc < freeCredits (s.link n) (shareOf p.fpn) vc then some n else best
      else best) none
  else
    let n := 4 * port + (p.src ^^^ p.dest ^^^ p.fpn ^^^ cls) % 4
    if isActive s n && !(s.link n).displaced then some n else failoverLink s port

/-! ## Flits (R355 to R357, R361) -/

/-- The 8 header bytes of Table 11.3. -/
def flitHeader (data : Bool) (vc seq ack : Nat) (nak halt : Bool) (crvc crpart credits fpn id : Nat) : List Byte :=
  leBytes 8 (b2n data 1 + vc % 8 * 2 ^ 2 + seq % 4096 * 2 ^ 5 + ack % 4096 * 2 ^ 17 + b2n nak (2 ^ 29) + b2n halt (2 ^ 30) + crvc % 8 * 2 ^ 31 +
    crpart % 8 * 2 ^ 34 + credits % 256 * 2 ^ 37 + b2n halt (fpn % 65536 * 2 ^ 45) + b2n halt (id % 8 * 2 ^ 61))

/-- Credits owed to the far end, the next to return: their key and number. -/
def nextOwed (l : Link) : Option (Nat × Nat) := l.crOwed.head?

/-- One flit leaves on a link: what the transmitter writes as it leaves is written now, and what it reported is no longer owed (R356). `flip`
is an injected error in the payload (R383). -/
def emit (l : Link) (data : Bool) (vc seq : Nat) (payload : List Byte) (flip : Option Nat) : Link :=
  let (key, n) := (nextOwed l).getD (7, 0)
  let crvc := if key < 8 then key else key % 8
  let crpart := if key < 16 then 7 else (key - 16) / 8
  let h := l.halts.head?
  let hd := flitHeader data vc seq l.ackSent l.nakOwed h.isSome crvc crpart (Nat.min n 255) (h.elim 0 (·.fpn)) (h.elim 0 (·.id))
  let body := hd ++ padTo 240 payload
  let crc := leBytes 8 (crc64xz body)
  let body' := match flip with
    | some k => body.zipIdx.map (fun e => if e.2 = 8 + k / 8 % 240 then e.1 ^^^ BitVec.ofNat 8 (2 ^ (k % 8)) else e.1)
    | none => body
  let halts' := match l.halts with
    | [] => []
    | x :: r => if x.left ≤ 1 then r else { x with left := x.left - 1 } :: r
  { l with nakOwed := false, halts := halts', crOwed := if n ≤ 255 then l.crOwed.drop 1 else Sparse.set l.crOwed key (n - 255),
           wire := l.wire ++ [body' ++ crc] }

/-- A credit taken for one flit (R361): a VC's reserved flits go before the shared pool. Keys 32 + VC count a VC's pool flits. -/
def takeCredit (l : Link) (share vc : Nat) : Link :=
  let k := creditKey l.farSealed share vc
  let c := Sparse.get 0 l.credits k
  if 0 < c ∨ l.farSealed ∨ vc = 7 then { l with credits := Sparse.put 0 l.credits k (c - 1) }
  else
    let m := Sparse.put 0 l.credits 9 (Sparse.get 0 l.credits 9 - 1)
    { l with credits := Sparse.put 0 m (100 + vc) (Sparse.get 0 m (100 + vc) + 1) }

/-- One credit returned: pool flits are freed first. -/
def giveCredit (l : Link) (share vc : Nat) : Link :=
  let used := Sparse.get 0 l.credits (100 + vc)
  if !l.farSealed && 0 < used then
    let m := Sparse.put 0 l.credits (100 + vc) (used - 1)
    { l with credits := Sparse.put 0 m 9 (Sparse.get 0 m 9 + 1) }
  else
    let k := creditKey l.farSealed share vc
    { l with credits := Sparse.put 0 l.credits k (Sparse.get 0 l.credits k + 1) }

/-- Credits of a link that has just become ACTIVE (Table 11.6). -/
def startCredits (sealed : Bool) : Sparse Int :=
  if sealed then (7, 32) :: (List.range 7).flatMap (fun sh => (List.range 7).map (fun v => (16 + 8 * sh + v, (20 : Int))))
  else (List.range 7).map (fun v => (v, (16 : Int))) ++ [(7, 32), (9, 880)]

/-- The flit that may leave next: VC7 first, then the oldest flit of a VC whose credits allow one (R362). -/
def nextFlit (l : Link) : Option TxFlit :=
  let ready (f : TxFlit) : Bool := decide (0 < freeCredits l f.share f.vc)
  let heads := (List.range 8).filterMap (fun v => l.txq.find? (fun f => f.vc == v))
  match heads.find? (fun f => f.vc == 7 && ready f) with
  | some f => some f
  | none => l.txq.find? (fun f => f.vc != 7 && ready f && heads.contains f)

/-- The number of an injection's remaining flits, none when exhausted. -/
def Inject.spend (i : Inject) : Option Inject := if i.count = 0 then some i else if i.count = 1 then none else some { i with count := i.count - 1 }

/-- Whether injection of kind `kind` hits now: with probability 2^-RATE, a free draw (R383). -/
def injectHits (s : State) (l : Link) (kind vc : Nat) : Bool :=
  match l.inject with
  | some i => i.kind == kind && i.vcs.getLsbD vc && vc != 7 && Config.freeNat s.free % 2 ^ i.rate == 0
  | none => false

/-- Flits of a link leave while the replay buffer has room and credits allow (R357). -/
def pumpLink (n : Nat) : Nat → State → State
  | 0, s => s
  | fuel + 1, s =>
    let l := s.link n
    if l.st != .active || 512 ≤ l.replay.length then s
    else
      match nextFlit l with
      | none => s
      | some f =>
        let f1 := { f with seq := l.nextSeq }
        let l1 := takeCredit { l with txq := l.txq.erase f, replay := l.replay ++ [f1], nextSeq := (l.nextSeq + 1) % 4096 } f.share f.vc
        let drop := injectHits s l 1 f.vc
        let corrupt := injectHits s l 2 f.vc
        let l2 := if drop then l1 else emit l1 true f.vc f1.seq f.payload (if corrupt then some (Config.freeNat (s.free + 1)) else none)
        let l3 := if drop || corrupt then { l2 with inject := l2.inject.bind Inject.spend } else l2
        let s1 := (s.setLink n l3).bump 0x05000001 1
        let s2 := if drop || corrupt then s1.bump 0x0500000E 1 else s1
        let s3 := if l.inject.isSome then { s2 with free := s2.free + 2 } else s2
        pumpLink n fuel s3

def pump (s : State) (n : Nat) : State := pumpLink n ((s.link n).txq.length) s

/-- A packet's bytes cut into flits of 240 bytes. -/
def cutFlits (total vc share : Nat) (ord : Bool) : Nat → List Byte → List TxFlit
  | 0, _ => []
  | n + 1, bs => { vc := vc, seq := 0, payload := padTo 240 (bs.take 240), share := share, left := n, total := total, ord := ord } :: cutFlits total vc share ord n (bs.drop 240)

/-- Whether the last packet queued on `vc` has not begun to leave and may be overtaken by an injected reorder (R383). -/
def lastWhole (q : List TxFlit) (vc : Nat) : Option Nat :=
  let mine := q.filter (fun f => f.vc == vc)
  match mine.getLast? with
  | some f =>
    if f.ord then none
    else
      -- flits of the last packet: the longest final run with falling LEFT
      let run := (mine.reverse.zipIdx.takeWhile (fun e => e.1.left == e.2)).length
      if run = f.total then some run else none
  | none => none

/-- A packet's flits queued for a link, and what can leave leaves. -/
def queueOn (s : State) (n vc : Nat) (p : Packet) (bs : List Byte) : State :=
  let l := s.link n
  let fs := cutFlits (flitsOf p.data.length) vc (if vc = 7 then 7 else shareOf p.fpn) p.ord (flitsOf p.data.length) bs
  let swap := injectHits s l 3 vc && !p.ord && (lastWhole l.txq vc).isSome
  let delay := injectHits s l 4 vc
  let l1 := if swap then
      let mine := l.txq.filter (fun f => f.vc == vc)
      let keep := mine.length - (lastWhole l.txq vc).getD 0
      { l with txq := l.txq.filter (fun f => f.vc != vc) ++ mine.take keep ++ fs ++ mine.drop keep }
    else { l with txq := l.txq ++ fs }
  let l2 := if swap || delay then { l1 with inject := l1.inject.bind Inject.spend } else l1
  let s1 := s.setLink n l2
  let s2 := if l.inject.isSome then s1.tick else s1
  pump (if swap || delay then s2.bump 0x0500000E 1 else s2) n

/-! ## Encryption at the egress link (R377, R379) -/

def keyIndex (fpn slot : Nat) : Nat := 2 * fpn + slot

/-- A packet as it leaves on link `n`: encrypted under its FPN's key with that link's next counter. None when no key is installed or the counter is spent. -/
def sealOn (s : State) (n : Nat) (p : Packet) : Option (Packet × State) :=
  if !p.enc then
    some ({ p with crc := BitVec.ofNat 32 (crc32c (crcCover p p.data)) }, s)
  else
    let k := keyIndex p.fpn p.key
    let l := s.link n
    let c := Sparse.get 0 l.keyCtr k
    match Sparse.find? s.keep.linkKeys k with
    | none => none
    | some key =>
      if 2 ^ 58 - 1 ≤ c then none
      else
        let nonce := BitVec.ofNat 64 (2 ^ 58 * n + c)
        let p1 := { p with nonce := nonce }
        let (ct, tag) := Config.gcmSeal key (leBytes 4 p.src ++ leBytes 8 nonce.toNat)
          (headerBytes p1 0 p.data.length ++ leBytes 8 nonce.toNat ++ leBytes 8 p.pmask.toNat) p.data
        let ct := padTo p.data.length ct
        let p2 := { p1 with data := ct, tag := padTo 16 tag }
        let low := decide (2 ^ 57 < c + 1) && !l.keyLow.contains k
        let s1 := s.setLink n { l with keyCtr := Sparse.put 0 l.keyCtr k (c + 1), keyLow := if low then k :: l.keyLow else l.keyLow }
        let s2 := if low then postBoth s1 (shareOf p.fpn) 0x0586 p.fpn (rec8 [n, p.key, c + 1]) else s1
        some ({ p2 with crc := BitVec.ofNat 32 (crc32c (crcCover p2 ct)) }, s2)

/-- What became of a packet offered to the network. -/
inductive Sent where
  | sent
  | delivered
  | blocked
  | dropped
  | exhausted
  deriving DecidableEq, Repr

/-- A packet sent from this module (R364): routed, encrypted at its first hop, queued on its link; a packet for this module itself arrives at once. -/
def sendPacket (s : State) (p : Packet) : State × Sent :=
  match routeOf s p 0 with
  | .here =>
    let q := { p with enc := false, crc := BitVec.ofNat 32 (crc32c (crcCover { p with enc := false } p.data)) }
    (s.setFabric { s.fabric with arrived := s.fabric.arrived ++ [q], arrivedOn := s.fabric.arrivedOn ++ [255] }, .delivered)
  | .drop => (s.bump 0x05000008 1, .dropped)
  | .out port vc axis dir =>
    let p1 := { p with axis := axis, dir := dir }
    let cls := classOfPacket (neighbours s (coordOf p.dest s.lantern.lengths)) p
    match linkFor s p1 port vc cls with
    | none => (s, .blocked)
    | some n =>
      match sealOn s n p1 with
      | none => (s.bump 0x05000010 1, .exhausted)
      | some (q, s1) => (queueOn s1 n vc q (packetBytes q), .sent)

/-- A packet of the lantern's or of the receive side, which no message waits for: dropped when it cannot leave. -/
def sendLoose (s : State) (p : Packet) : State := (sendPacket s p).1

/-- A packet in transit: routed on, only ROUTE changed (R364, R377). -/
def forward (s : State) (p : Packet) (vc : Nat) : State :=
  match routeOf s p vc with
  | .here => s
  | .drop => s.bump 0x05000008 1
  | .out port vc' axis dir =>
    let p1 := { p with axis := axis, dir := dir }
    match linkFor s p1 port vc' (classOfPacket (neighbours s (coordOf p.dest s.lantern.lengths)) p) with
    | none => s.bump 0x05000008 1
    | some n => queueOn s n vc' p1 (packetBytes p1)

/-- A lantern message to another module on VC7, its data lantern-defined (Table 11.11). -/
def sendMgmt (s : State) (dest fpn : Nat) : State :=
  let p := { newPacket s dest fpn 0x10 with ord := true, key := Sparse.get 0 s.keep.sendSlot fpn, data := padTo 152 (Config.mgmtData s.fabric.mgmtN) }
  let s1 := s.setFabric { s.fabric with mgmtN := s.fabric.mgmtN + 1 }
  if dest = s.lantern.fabricId then s1 else sendLoose s1 p

/-! ## Signals and engine completions -/

/-- A completion signal of +1 on its way to object `vid` of context `ctx` (R136, R143, R338). -/
def complete (s : State) (ctx : Nat) (obj : Option Nat) (site : BitVec 32) (mark : Option (Nat × Nat × Nat)) : State :=
  match obj with
  | none => s
  | some vid =>
    let x : Signal := { ctx := ctx, vid := vid, set := false, value := 1, src := BitVec.ofNat 32 s.lantern.fabricId, site := site, op := 3,
                        mark := mark, host := none }
    s.setSync { s.sync with inflight := s.sync.inflight ++ [x] }

/-- The poison mark of a completion (R338): kind 1, address and space. -/
def poisonMark (p : Option (Nat × Nat)) : Option (Nat × Nat × Nat) := p.map (fun x => (1, x.1, x.2))

/-- A finished engine command waits to signal (R143). -/
def addDone (s : State) (c : Nat) (d : Done) : State :=
  let k := s.cluster c
  s.setCluster c { k with done := k.done ++ [d] }

/-! ## Messages (R371, R372) -/

/-- Bytes poisoned where they stand. -/
def poisonRange (s : State) (a n : Nat) : State := (granules a n).foldl (fun t g => setPoison t (64 * g) true) s

def sameColl (k x : Collective) : Bool := x.ctx == k.ctx && x.axes == k.axes && x.number == k.number

/-- Bytes a collective writes at DST on this member. -/
def collBytes (k : Collective) : Nat :=
  field k.desc 16 8 * (if field k.desc 24 1 = 5 ∨ field k.desc 24 1 = 6 then 2 else if field k.desc 27 1 % 2 = 1 then 8 else 4)

/-- A collective ends on this member: each issuer's descriptor gets its STATUS word and its completion object is to be signalled, with a mark when
the collective failed (R397, R402, R403, R407). -/
def finishColl (s : State) (k : Collective) (status : Nat → Nat) (mark : Option (Nat × Nat × Nat)) : State :=
  let s1 := k.issuers.zipIdx.foldl (fun t i =>
    addDone (storeMem t (i.1.2.1 + 124) (leBytes 4 (status i.2))) i.1.1
      { engine := .collective, ctx := k.ctx, obj := i.1.2.2.1, site := i.1.2.2.2, mark := mark }) s
  s1.setFabric { s1.fabric with colls := s1.fabric.colls.filter (fun c => !sameColl k c) }

/-- A collective ends with a failure: what it had written of DST is written poisoned (R402). -/
def failColl (s : State) (k : Collective) (status : Nat → Nat) : State :=
  finishColl (if k.wrote then poisonRange s (field k.desc 8 8) (collBytes k) else s) k status (some (1, field k.desc 8 8, 3))

/-- The pending register of a GET with REG gets its value (R136), poisoned when the message was lost or the data poisoned. -/
def fillPend (s : State) (g : GroupId) (msg : Nat) (v : Word64) (poison : Option (Nat × Nat)) : State :=
  match s.group? g with
  | none => s
  | some gr =>
    s.setGroup g { gr with pend := gr.pend.map (fun p =>
      if p.msg == some msg then
        { p with vals := [v], ready := true, msg := none, poison := if poison.isSome then 1 else 0, paddr := (poison.getD (0, 0)).1, pspace := (poison.getD (0, 0)).2 }
      else p) }

def dropMsg (k : Cluster) (num : Nat) : Cluster := { k with msgs := k.msgs.filter (fun m => m.num != num) }

/-- The step epoch of a context, 0 when it is closed or unbound. -/
def ctxEpoch (s : State) (n : Nat) : Nat := ((s.ctx? n).map Ctx.epoch).getD 0

/-- What names a collective in a message of the service. -/
def collKey (axes number : Nat) : Nat := 256 * number + axes

/-- A message is lost (R372): POISON mark with the remote address of the first lost packet, FAB_LOST, PKT_LOST; a GET's destination granules are poisoned. -/
def msgLost (s : State) (c : Nat) (m : Msg) (pkt : Nat) : State :=
  let s0 := s.setCluster c (dropMsg (s.cluster c) m.num)
  let addr := m.raddr + 4096 * pkt
  let s1 := (s0.bump 0x05000009 1)
  let s2 := postBoth s1 (shareOf m.fpn) 0x0582 m.fpn (rec8 [m.dest, addr, m.txn, m.site.toNat, ctxEpoch s m.ctx])
  let s3 := if m.txn = 2 ∧ m.reg.isNone then (granules m.laddr m.len).foldl (fun t g => setPoison t (64 * g) true) s2 else s2
  let s4 := match m.reg with
    | some (g, _) => (fillPend s3 g m.num (Config.free64 s3.free) (some (addr, 3))).tick
    | none => s3
  let s5 := match s4.ctx? m.ctx with
    | some cx => match cx.job with
      | some j => s4.setCtx m.ctx { cx with job := some { j with lostFlag := true } }
      | none => s4
    | none => s4
  let s6 := if m.obj.isSome then addDone s5 c { engine := .fabric, ctx := m.ctx, obj := m.obj, site := m.site, mark := some (1, addr, 3) } else s5
  if m.txn = 8 ∨ m.txn = 9 ∨ m.txn = 6 then
    (s6.fabric.colls.filter (fun k => k.ctx == m.ctx && collKey k.axes k.number == m.laddr)).foldl (fun t k => failColl t k (fun _ => 4)) s6
  else s6

/-! ## The halt wave's flood (R381) -/

def haltIdOf (s : State) (fpn : Nat) : Nat := Sparse.get 0 s.fabric.haltId fpn

/-- HALT with this FPN and identifier in the next 64 flits of every ACTIVE link: they leave as IDLE flits when no data waits. -/
def emitIdle : Nat → Link → Link
  | 0, l => l
  | n + 1, l => emitIdle n (emit l false 0 0 [] none)

def flood (s : State) (fpn id : Nat) : State :=
  (List.range 48).foldl (fun t n =>
    if isActive t n then
      let l := t.link n
      t.setLink n (emitIdle 64 { l with halts := l.halts ++ [{ fpn := fpn, id := id, left := 64 }] })
    else t) s

end Sys2Proof.Machine
end

