-- ==== Sys2Proof/Machine/Operands.lean ====
section
/-! DEFINITION. Virdy instruction words (R121 to R137, Tables 4.1 to 4.14): fields, designators, boundaries, reserved encodings, and the operand
forms through which instructions read and write the registers of a group. -/

namespace Sys2Proof.Machine

open Sys2Proof

/-- The Virdy instructions, each a row of the table (every SE.* code is the row STREAM_ISSUE); `reserved` stands for every reserved encoding. -/
inductive Mn where
  | mov | add | sub | mul | mulhi | mad | min | max | and | or | xor | shl | shr | sar | popc | clz | sel | rdlane | sreg
  | fadd | fsub | fmul | ffma | fmin | fmax | fabs | fneg | rcp | rsq | sqrt | exp2 | log2 | cvtRne | cvtRtz | cvtSr
  | isetp | fsetp | pand | por | pxor | pnot | ballot
  | bra | brx | call | ret | exit | conv | bar | actmask | virdyNop
  | ld | st | fence | dma | atomAdd | atomMin | atomMax | atomAnd | atomOr | atomXor | atomXchg | atomCas
  | mcfg | mload | mmul | mfill | madapt | mdrain | streamIssue
  | sigAdd | sigSet | waitGe | waitTake | put | get | acc | coll | flagrd | flagclr | scrd | scwr | brk
  | reserved
  deriving DecidableEq, Repr

/-- The fields of Table 4.1. -/
structure Insn where
  addr : Nat
  word : Word64
  /-- The extension word, when X = 1 and the code section holds it. -/
  ext  : Option Word64
  op   : Nat
  cls  : Nat
  x    : Bool
  pn   : Bool
  pg   : Nat
  pge  : Bool
  dst  : Nat
  s0   : Nat
  s1   : Nat
  s2   : Nat
  mod  : Nat
  top  : Nat
  i    : Bool
  imm  : Int
  deriving DecidableEq, Repr

def bitsOf (w : Word64) (lo n : Nat) : Nat := w.toNat / 2 ^ lo % 2 ^ n

/-- The word at byte address `a` of the code. -/
def codeAt (code : List Word64) (a : Nat) : Option Word64 := if a % 8 = 0 then code[a / 8]? else none

/-- The instruction at Virdy address `a`, when a word stands there. -/
def insnAt (code : List Word64) (a : Nat) : Option Insn :=
  (codeAt code a).map (fun w =>
    { addr := a, word := w, ext := if w.getLsbD 10 then codeAt code (a + 8) else none, op := bitsOf w 0 6, cls := bitsOf w 6 4, x := w.getLsbD 10,
      pn := w.getLsbD 11, pg := bitsOf w 12 3, pge := w.getLsbD 15, dst := bitsOf w 16 8, s0 := bitsOf w 24 8, s1 := bitsOf w 32 8,
      s2 := bitsOf w 40 8, mod := bitsOf w 48 8, top := bitsOf w 56 7, i := w.getLsbD 63, imm := signed 16 (bitsOf w 32 16) })

/-- Bytes to the next instruction. -/
def Insn.size (i : Insn) : Nat := if i.x then 16 else 8
def Insn.next (i : Insn) : Nat := i.addr + i.size

/-- Virdy addresses of the instruction boundaries, decoding in a straight line from byte 0 (R122). -/
def boundaries : List Word64 → Nat → Bool → List Nat
  | [], _, _ => []
  | w :: r, a, isExt => if isExt then boundaries r (a + 8) false else a :: boundaries r (a + 8) (w.getLsbD 10)

def isBoundary (code : List Word64) (a : Nat) : Bool := (boundaries code 0 false).contains a

/-! ## Designators (Table 4.2) -/

inductive Desig where
  | v (n : Nat)
  | u (n : Nat)
  | p (n : Nat)
  | zero
  | ext
  | a (n : Nat)
  | bad
  deriving DecidableEq, Repr

def desig (c : Nat) : Desig :=
  if c < 0x40 then .v c
  else if c < 0x60 then .u (c - 0x40)
  else if c < 0x68 then .p (c - 0x60)
  else if c = 0x70 then .zero
  else if c = 0x71 then .ext
  else if 0x80 ≤ c ∧ c < 0xC0 then .a (c - 0x80)
  else .bad

/-- Kinds of designator an operand field allows. -/
inductive Kind where
  | v
  | u
  | p
  | z
  | e
  | a
  deriving DecidableEq, Repr

def Desig.kind? : Desig → Option Kind
  | .v _ => some .v
  | .u _ => some .u
  | .p _ => some .p
  | .zero => some .z
  | .ext => some .e
  | .a _ => some .a
  | .bad => none

/-- How an instruction uses bit I (R124). -/
inductive ImmUse where
  | no
  | may
  | must
  deriving DecidableEq, Repr

/-- What its tables give an instruction: allowed kinds of each field (none: unused, 0x00), uses of I and of the extension word, and MOD values. -/
structure Form where
  mn   : Mn
  d    : List Kind
  s0   : List Kind
  s1   : List Kind
  s2   : List Kind
  imm  : ImmUse
  /-- The table defines a use of the extension word of its own (displacement, stride, remote address, inline word); `extMust`: required. -/
  ext  : Bool
  extMust : Bool
  mod  : Nat → Bool

def form (mn : Mn) (d s0 s1 s2 : List Kind) (imm : ImmUse) (mod : Nat → Bool) : Form :=
  { mn := mn, d := d, s0 := s0, s1 := s1, s2 := s2, imm := imm, ext := false, extMust := false, mod := mod }

def modZero (m : Nat) : Bool := m == 0
/-- An integer type code in MOD[3:0], MOD[7:4] zero (R127). -/
def modInt (wide : Bool) (m : Nat) : Bool := decide (m < (if wide then 4 else 2))
/-- F32 in MOD[3:0], rounding in MOD[5:4] where the operation rounds (R128). -/
def modFp (rounds : Bool) (m : Nat) : Bool := m % 16 == 4 && decide (m < (if rounds then 64 else 16))
/-- Matrix operand types (Tables 6.7 and 6.21). -/
def matType (t : Nat) : Bool := t == 0 || (decide (4 ≤ t) && decide (t ≤ 11))

/-- Integer operations of Table 4.6: mnemonic and number of sources. -/
def intForm : Nat → Option (Mn × Nat)
  | 0 => some (.mov, 1)
  | 1 => some (.add, 2)
  | 2 => some (.sub, 2)
  | 3 => some (.mul, 2)
  | 4 => some (.mulhi, 2)
  | 5 => some (.mad, 3)
  | 6 => some (.min, 2)
  | 7 => some (.max, 2)
  | 8 => some (.and, 2)
  | 9 => some (.or, 2)
  | 10 => some (.xor, 2)
  | 11 => some (.shl, 2)
  | 12 => some (.shr, 2)
  | 13 => some (.sar, 2)
  | 14 => some (.popc, 1)
  | 15 => some (.clz, 1)
  | _ => none

/-- Floating-point operations of Table 4.8: mnemonic, number of sources, and whether MOD selects a rounding. -/
def fpForm : Nat → Option (Mn × Nat × Bool)
  | 0 => some (.fadd, 2, true)
  | 1 => some (.fsub, 2, true)
  | 2 => some (.fmul, 2, true)
  | 3 => some (.ffma, 3, true)
  | 4 => some (.fmin, 2, false)
  | 5 => some (.fmax, 2, false)
  | 6 => some (.fabs, 1, false)
  | 7 => some (.fneg, 1, false)
  | 8 => some (.rcp, 1, false)
  | 9 => some (.rsq, 1, false)
  | 10 => some (.sqrt, 1, false)
  | 11 => some (.exp2, 1, false)
  | 12 => some (.log2, 1, false)
  | _ => none

/-- A form with `n` like sources; three-source instructions take no IMM16. -/
def arith (mn : Mn) (d s : List Kind) (n : Nat) (mod : Nat → Bool) : Form :=
  form mn d s (if 2 ≤ n then s else []) (if 3 ≤ n then s else []) (if 3 ≤ n then .no else .may) mod

def scaledType (t : Nat) : Bool := decide (7 ≤ t) && decide (t ≤ 11)

/-- CVT (R129): types of Table 4.5, I64 and U64 only in UFLT. -/
def modCvt (wide : Bool) (m : Nat) : Bool :=
  decide (m % 16 < 12) && decide (m / 16 < 12) && (wide || (!(m % 16 == 2 || m % 16 == 3) && !(m / 16 == 2 || m / 16 == 3)))

/-- CVT's form depends on MOD: without a scaled type s must be ZERO. -/
def cvtForm (mn : Mn) (wide : Bool) (d s : List Kind) (m : Nat) : Form :=
  if scaledType (m % 16) || scaledType (m / 16) then form mn d s [.u, .z, .e] [] .may (modCvt wide)
  else form mn d s [.z] [] .no (modCvt wide)

/-- SE.* command codes (Table 7.1) and whether they have an inline form. -/
def seCode : Nat → Option Bool
  | 0x00 | 0x01 | 0x08 | 0x09 | 0x0A | 0x0B | 0x0C | 0x10 | 0x11 | 0x12 | 0x18 | 0x20 | 0x21 | 0x22 | 0x28 => some false
  | 0x02 | 0x03 | 0x04 => some true
  | _ => none

/-- The form of an instruction: its class and operation, with the fields that select among forms. -/
def formOf (i : Insn) : Option Form :=
  let us : List Kind := [.u, .z, .e]
  let vs : List Kind := [.v, .u, .z, .e]
  let ud : List Kind := [.u, .z]
  let vd : List Kind := [.v, .z]
  match i.cls with
  | 0 =>
    if i.op = 0x12 then some (form .sreg ud [] [] [] .must (modInt true))
    else (intForm i.op).map (fun f => arith f.1 ud us f.2 (modInt true))
  | 2 =>
    if i.op = 0x10 then some (form .sel vd vs vs [.p] .no (modInt false))
    else if i.op = 0x11 then some (form .rdlane ud [.v] us [] .may (modInt false))
    else if i.op = 0x12 then some (form .sreg vd [] [] [] .must (modInt false))
    else (intForm i.op).map (fun f => arith f.1 vd vs f.2 (modInt false))
  | 1 =>
    if i.op = 0x10 then some (cvtForm .cvtRne true ud us i.mod)
    else if i.op = 0x11 then some (cvtForm .cvtRtz true ud us i.mod)
    else if i.op = 0x12 then some (cvtForm .cvtSr true ud us i.mod)
    else (fpForm i.op).map (fun f => arith f.1 ud us f.2.1 (modFp f.2.2))
  | 3 =>
    if i.op = 0x10 then some (cvtForm .cvtRne false vd vs i.mod)
    else if i.op = 0x11 then some (cvtForm .cvtRtz false vd vs i.mod)
    else if i.op = 0x12 then some (cvtForm .cvtSr false vd vs i.mod)
    else (fpForm i.op).map (fun f => arith f.1 vd vs f.2.1 (modFp f.2.2))
  | 4 =>
    match i.op with
    | 0 => some (form .isetp [.p, .z] vs vs [] .may (fun m => decide (m % 16 < 2) && decide (m / 16 < 6)))
    | 1 => some (form .fsetp [.p, .z] vs vs [] .may (fun m => m % 16 == 4 && decide (m / 16 < 8)))
    | 2 => some (form .pand [.p, .z] [.p] [.p] [] .no modZero)
    | 3 => some (form .por [.p, .z] [.p] [.p] [] .no modZero)
    | 4 => some (form .pxor [.p, .z] [.p] [.p] [] .no modZero)
    | 5 => some (form .pnot [.p, .z] [.p] [] [] .no modZero)
    | 6 => some (form .ballot ud [.p] [] [] .no modZero)
    | _ => none
  | 5 =>
    match i.op with
    | 0 => some (form .bra [] [] [.e] [] .may modZero)
    | 1 => some (form .brx [] [.v] [] [] .no modZero)
    | 2 => some (form .call vd [] [.e] [] .may modZero)
    | 3 => some (form .ret [] [.v] [] [] .no modZero)
    | 4 => some (form .exit [] [] [] [] .no modZero)
    | 5 => some (form .conv [] [.u] [] [] .no modZero)
    | 6 => some (form .bar [] [] [] [] .must modZero)
    | 7 => some (form .actmask ud [] [] [] .no modZero)
    | 8 => some (form .virdyNop [] [] [] [] .no modZero)
    | _ => none
  | 6 =>
    let w := i.mod % 4
    -- MOD[3] and MOD[7:6] are zero; width 8 takes a u data register (R133)
    let common (m : Nat) : Bool := decide (m < 64) && m / 8 % 2 == 0
    let data (u : Nat) : Bool := w != 3 || (match desig u with | .v _ => false | _ => true)
    let atomMod (signedOk : Bool) (m : Nat) : Bool := common m && decide (2 ≤ w) && (signedOk || m / 4 % 2 == 0) && data i.dst && data i.s2
    let atom (mn : Mn) (signedOk : Bool) : Option Form :=
      some { form mn [.v, .u, .z] [.u] [.v, .u, .z] [.v, .u] .no (atomMod signedOk) with ext := true }
    match i.op with
    | 0x00 => some { form .ld [.v, .u] [.u] [.v, .u, .z] [] .may (fun m => common m && data i.dst) with ext := true }
    | 0x01 => some { form .st [] [.u] [.v, .u, .z] [.v, .u] .no (fun m => common m && m / 4 % 2 == 0 && data i.s2) with ext := true }
    | 0x03 => some (form .fence [] [] [] [] .no (fun m => decide (m < 2)))
    | 0x04 => some (form .dma ud [.u] [.u] [.u] .no modZero)
    | 0x08 => atom .atomAdd false
    | 0x09 => atom .atomMin true
    | 0x0A => atom .atomMax true
    | 0x0B => atom .atomAnd false
    | 0x0C => atom .atomOr false
    | 0x0D => atom .atomXor false
    | 0x0E => atom .atomXchg false
    | 0x0F => atom .atomCas false
    | _ => none
  | 7 =>
    match i.op with
    | 0 => some (form .mcfg [] [.u] [] [] .no modZero)
    | 1 => some { form .mload [] [.u] [.u] [] .may
        (fun m => matType (m % 16) && decide (m < 64) && (m / 32 == 0 || m % 16 == 5 || m % 16 == 6)) with ext := true }
    | 2 => some { form .mmul [.a] [.u] [.u] [.u] .no (fun m => matType (m % 16)) with ext := true }
    | 3 => some (form .mfill [.a] [.u] [.u] [.u] .no (fun m => matType (m % 16) && decide (m < 32)))
    | 4 => some (form .madapt [.a] [.u] [.u] [] .may (fun _ => true))
    | 5 => some { form .mdrain ud [.a] [.u] [] .may
        (fun m => matType (m % 16) && (m / 16 % 4 != 3 || m % 16 == 4) && m / 64 != 3) with ext := true }
    | _ => none
  | 8 =>
    (seCode i.op).map (fun inl =>
      { form .streamIssue ud (if i.op = 0 || (inl && i.x) then [.z] else [.u]) ud ud .no modZero with ext := inl })
  | 9 =>
    match i.op with
    | 0 => some (form .sigAdd [] [.u] [.u, .e] [] .may modZero)
    | 1 => some (form .sigSet [] [.u] [.u, .e] [] .may modZero)
    | 2 => some (form .waitGe [] [.u] [.u, .e] [] .may modZero)
    | 3 => some (form .waitTake [] [.u] [.u, .e] [] .may modZero)
    | _ => none
  | 10 =>
    match i.op with
    | 0 => some { form .put ud [.u] [.u] [.u] .no modZero with ext := true, extMust := true }
    | 1 =>
      if i.mod = 1 then some { form .get [.u] [] [.u] [] .no (fun m => m == 1) with ext := true, extMust := true }
      else some { form .get ud [.u] [.u] [.u] .no modZero with ext := true, extMust := true }
    | 2 => some { form .acc ud [.u] [.u] [.u] .no (fun m => m == 0 || m == 1 || m == 4 || m == 5 || m == 6) with ext := true, extMust := true }
    | 3 => some (form .coll ud [.u] [] [] .no (fun m => decide (m < 9)))
    | _ => none
  | 11 =>
    let eng (m : Nat) : Bool := decide (m < 3)
    -- Table 8.7: HIST alone takes a slot; block references take ZERO; some fields are read-only
    let fld (m : Nat) : Bool := decide (m % 16 < 12) && (m / 16 == 0 || m % 16 == 8)
    let ref : List Kind := if 9 ≤ i.mod % 16 then [.z] else [.u]
    match i.op with
    | 0 => some (form .flagrd [.u] [] [] [] .no eng)
    | 1 => some (form .flagclr [] [.u] [] [] .may eng)
    | 2 => some (form .scrd [.u] ref [] [] .no fld)
    | 3 => some (form .scwr [] ref [.u] [] .may (fun m => fld m && !(m % 16 == 1 || m % 16 == 5 || m % 16 == 7 || m % 16 == 8)))
    | _ => none
  | 12 => if i.op = 0 then some (form .brk [] [] [] [] .must modZero) else none
  | _ => none

/-- Whether IMM16 replaces the SRC0 operand: the instruction's one source lies there (R124). -/
def Form.immS0 (f : Form) : Bool := f.imm == .may && !f.s0.isEmpty && f.s1.isEmpty

def fieldOk (ks : List Kind) (c : Nat) : Bool :=
  if ks.isEmpty then c == 0
  else match (desig c).kind? with
    | some k => ks.contains k
    | none => false

/-- Values IMM16 may take where it selects (Tables 4.7 and 4.10). -/
def immOk (i : Insn) (m : Mn) : Bool :=
  match m with
  | .sreg => if i.cls = 2 then i.imm == 0 || i.imm == 1 else decide (2 ≤ i.imm) && decide (i.imm ≤ 7)
  | .bar => decide (0 ≤ i.imm) && decide (i.imm ≤ 3)
  | _ => true

/-- Whether an instruction of form `f` is a reserved encoding (R126). -/
def reservedIn (f : Form) (i : Insn) : Bool :=
  let s0 := if i.i && f.immS0 then [] else f.s0
  let usesExt := f.ext || desig i.dst == .ext || desig i.s0 == .ext || (!i.i && (desig i.s1 == .ext || desig i.s2 == .ext))
  let namesExt := desig i.s0 == .ext || (!i.i && (desig i.s1 == .ext || desig i.s2 == .ext))
  i.top != 0
  || (!i.pge && (i.pn || i.pg != 0))
  || (i.pge && (i.cls == 7 || i.cls == 8))
  || (i.i && f.imm == .no) || (!i.i && f.imm == .must)
  || (i.x && !usesExt) || (namesExt && !i.x) || (f.extMust && !i.x) || (i.x && i.ext.isNone)
  || !fieldOk f.d i.dst || !fieldOk s0 i.s0
  || (!i.i && (!fieldOk f.s1 i.s1 || !fieldOk f.s2 i.s2))
  || !f.mod i.mod || !immOk i f.mn

/-- The instruction an encoding stands for. -/
def mnOf (i : Insn) : Mn :=
  match formOf i with
  | none => .reserved
  | some f => if reservedIn f i then .reserved else f.mn

/-- What executes once for each thread, once for each issue, or once for the group (Table 4.4). -/
inductive Acts where
  | perThread
  | perIssue
  | collective
  deriving DecidableEq, Repr

def isV (c : Nat) : Bool := match desig c with | .v _ => true | _ => false

def actsOf (i : Insn) : Acts :=
  match i.cls with
  | 2 | 3 | 4 => .perThread
  | 5 => if i.op = 7 || i.op = 8 then .perIssue else .perThread
  | 6 =>
    if i.op = 0 then (if isV i.dst || (!i.i && isV i.s1) then .perThread else .perIssue)
    else if i.op = 1 then (if isV i.s1 || isV i.s2 then .perThread else .perIssue)
    else if 8 ≤ i.op then (if isV i.dst || isV i.s1 || isV i.s2 then .perThread else .perIssue)
    else .perIssue
  | 7 | 8 => .collective
  | _ => .perIssue

/-! ## Registers of a group -/

def Group.vGet (g : Group) (r t : Nat) : Word32 := Sparse.get 0 g.v (64 * r + t)
def Group.uGet (g : Group) (r : Nat) : Word64 := Sparse.get 0 g.u r
def Group.pGet (g : Group) (k t : Nat) : Bool := Sparse.get false g.p (64 * k + t)
def Group.pcGet (g : Group) (t : Nat) : Word64 := Sparse.get 0 g.pcs t

/-- A register written: its poison goes (R106). -/
def Group.vPut (g : Group) (r t : Nat) (x : Word32) : Group :=
  { g with v := Sparse.put 0 g.v (64 * r + t) x, poisoned := Sparse.del g.poisoned (64 * r + t) }
def Group.uPut (g : Group) (r : Nat) (x : Word64) : Group :=
  { g with u := Sparse.put 0 g.u r x, poisoned := Sparse.del g.poisoned (64 * (0x40 + r)) }
def Group.pPut (g : Group) (k t : Nat) (x : Bool) : Group := { g with p := Sparse.put false g.p (64 * k + t) x }
def Group.pcPut (g : Group) (t : Nat) (a : Word64) : Group := { g with pcs := Sparse.put 0 g.pcs t a }

/-- The PC of every thread of a mask set to `a`. -/
def Group.pcAll (g : Group) (m : BitVec 64) (a : Nat) : Group := (threads m).foldl (fun x t => x.pcPut t (BitVec.ofNat 64 a)) g

/-- A 64-bit source value: a uniform or per-thread register, ZERO or the extension word. A v register is zero-extended. -/
def srcVal (g : Group) (i : Insn) (c t : Nat) : Word64 :=
  match desig c with
  | .v n => (g.vGet n t).setWidth 64
  | .u n => g.uGet n
  | .p n => if g.pGet n t then 1 else 0
  | .ext => i.ext.getD 0
  | _ => 0

def immVal (i : Insn) : Word64 := BitVec.ofInt 64 i.imm

/-- The first source of a one-source instruction, which IMM16 replaces (R124). -/
def src0 (g : Group) (i : Insn) (one : Bool) (t : Nat) : Word64 := if i.i && one then immVal i else srcVal g i i.s0 t
/-- The second source, which IMM16 replaces. -/
def src1 (g : Group) (i : Insn) (t : Nat) : Word64 := if i.i then immVal i else srcVal g i i.s1 t
def src2 (g : Group) (i : Insn) (t : Nat) : Word64 := if i.i then 0 else srcVal g i i.s2 t

/-- The u register a designator names, 0 for ZERO. -/
def uVal (g : Group) (c : Nat) : Word64 :=
  match desig c with
  | .u n => g.uGet n
  | _ => 0

/-- Designators read by an instruction, its address and data operands included. -/
def readsOf (f : Form) (i : Insn) : List Nat :=
  let s0 := if f.s0.isEmpty || (i.i && f.immS0) then [] else [i.s0]
  let s12 := if i.i then [] else (if f.s1.isEmpty then [] else [i.s1]) ++ (if f.s2.isEmpty then [] else [i.s2])
  -- CAS reads its destination; a guard reads its predicate
  s0 ++ s12 ++ (if f.mn = .atomCas then [i.dst] else []) ++ (if i.pge then [0x60 + i.pg] else [])
  ++ (if f.d.isEmpty || f.mn != .dma && f.mn != .mdrain && f.mn != .streamIssue && f.mn != .put && f.mn != .acc && f.mn != .coll
      && !(f.mn = .get && i.mod = 0) then [] else [i.dst])

/-- The destination designator written, if any: a completion object's register is read, not written. -/
def writesOf (f : Form) (i : Insn) : List Nat :=
  if f.d.isEmpty || f.mn = .dma || f.mn = .mdrain || f.mn = .streamIssue || f.mn = .put || f.mn = .acc || f.mn = .coll || (f.mn = .get && i.mod = 0)
    || f.mn = .mmul || f.mn = .mfill || f.mn = .madapt then []
  else [i.dst]

/-- Whether an instruction takes a scoreboard entry (R85). -/
def takesEntry (m : Mn) (i : Insn) : Bool :=
  match m with
  | .ld | .flagrd | .scrd => true
  | .atomAdd | .atomMin | .atomMax | .atomAnd | .atomOr | .atomXor | .atomXchg | .atomCas => desig i.dst != .zero
  | .get => i.mod == 1
  | _ => false

/-! ## Subsets (R87 to R89) -/

/-- Threads parked at a convergence site. -/
def Group.convMask (g : Group) : BitVec 64 := g.sites.foldl (fun m s => m ||| s.parked) 0
def Group.barMask (g : Group) : BitVec 64 := g.bars.foldl (fun m e => m ||| e.2) 0
def Group.runnable (g : Group) : BitVec 64 := g.live &&& ~~~(g.convMask ||| g.barMask ||| g.collMask)

/-- Live threads with the PC of thread `t`. -/
def Group.sameAs (g : Group) (m : BitVec 64) (t : Nat) : BitVec 64 := maskOf (fun k => m.getLsbD k && decide (g.pcGet k = g.pcGet t))

/-- The selected subset: the largest part of the runnable threads by PC, the lower address on a tie (R88). -/
def Group.select (g : Group) : Option (Nat × BitVec 64) :=
  let r := g.runnable
  (threads r).foldl (fun best t =>
    let m := g.sameAs r t
    let pc := (g.pcGet t).toNat
    match best with
    | none => some (pc, m)
    | some (bp, bm) => if popMask bm < popMask m ∨ (popMask bm = popMask m ∧ pc < bp) then some (pc, m) else best) none

/-- Threads of the subset whose guard holds. -/
def guardMask (g : Group) (i : Insn) (m : BitVec 64) : BitVec 64 :=
  if i.pge then maskOf (fun t => m.getLsbD t && (g.pGet i.pg t != i.pn)) else m

end Sys2Proof.Machine
end

