-- ==== Sys2Proof/Machine/Groups.lean ====
section
/-! DEFINITION. Groups, blocks, barriers and convergence sites; killing a group or a context; the job's commit tree, failing a step, the halt wave on
a member; and taking a trap (chapters 3, 11 and 12). -/

namespace Sys2Proof.Machine

open Sys2Proof

/-! ## Results on their way (R85) -/

/-- A returned result written to its register, poisoned where the data was (R106). -/
def deliver (gr : Group) (p : Pend) : Group :=
  match desig p.dest with
  | .v r =>
    ((threads p.mask).zip p.vals).foldl (fun x e =>
      let y := x.vPut r e.1 (e.2.setWidth 32)
      if p.poison.getLsbD e.1 then { y with poisoned := Sparse.set y.poisoned (64 * r + e.1) (p.paddr, p.pspace) } else y) gr
  | .u r =>
    let y := gr.uPut r (p.vals.headD 0)
    if p.poison != 0 then { y with poisoned := Sparse.set y.poisoned (64 * (0x40 + r)) (p.paddr, p.pspace) } else y
  | _ => gr

/-- Every result that has its value is written, in issue order. -/
def retire (gr : Group) : Group :=
  { (gr.pend.filter (·.ready)).foldl deliver gr with pend := gr.pend.filter (fun p => !p.ready) }

/-! ## Convergence sites (R90, R91) -/

/-- A site's parked threads continue at the next instruction. CONV has no extension word. -/
def releaseSite (gr : Group) (x : Site) : Group :=
  { gr.pcAll x.parked (x.addr.toNat + 8) with sites := gr.sites.filter (fun y => y.addr != x.addr) }

/-- A site releases when every thread of its expected set is parked there or has exited. -/
def siteDone (gr : Group) (x : Site) : Bool := (x.expect &&& gr.live &&& ~~~x.parked) == 0

def checkSites (gr : Group) : Group := (gr.sites.filter (siteDone gr)).foldl releaseSite gr

/-! ## Blocks and barriers (R93 to R97) -/

def blockOf (s : State) (c b : Nat) : Option Block := Sparse.find? (s.cluster c).blocks b

/-- The groups of a block that still hold their slots. -/
def blockGroups (s : State) (b : Nat) (k : Block) : List GroupId :=
  k.groups.filter (fun g => match s.group? g with | some x => x.block == b | none => false)

def barAt (gr : Group) (n : Nat) : BitVec 64 := Sparse.get 0 gr.bars n

def setBlock (s : State) (c b : Nat) (k : Block) : State :=
  let cl := s.cluster c
  s.setCluster c { cl with blocks := Sparse.set cl.blocks b k }

def setWd (s : State) (c b n v : Nat) : State :=
  match blockOf s c b with
  | some k => setBlock s c b { k with wd := Sparse.put 0 k.wd n v }
  | none => s

/-- A barrier orders every earlier write of the block's scale references before what follows it (R263). -/
def clearStale (s : State) (c b : Nat) : State :=
  match blockOf s c b with
  | some k => setBlock s c b { k with stale := [] }
  | none => s

/-- Barrier `n` of a block releases when every live thread of the block is parked there; its watchdog restarts (R93, R96). -/
def checkBarrier (s : State) (c b n : Nat) : State :=
  match blockOf s c b with
  | none => s
  | some k =>
    let gs := blockGroups s b k
    let arrived := gs.foldl (fun a g => a + ((s.group? g).elim 0 (fun x => popMask (barAt x n)))) 0
    let expected := gs.foldl (fun a g => a + ((s.group? g).elim 0 (fun x => popMask x.live))) 0
    if arrived = 0 ∨ arrived ≠ expected then s
    else
      let s1 := gs.foldl (fun t g =>
        match t.group? g with
        | none => t
        | some x =>
          let m := barAt x n
          let y := (threads m).foldl (fun z th => z.pcPut th (z.pcGet th + 8)) x
          t.setGroup g { y with bars := Sparse.put 0 y.bars n 0 }) s
      clearStale (setWd s1 c b n 0) c b

/-- After an exit or a kill in a block: every watchdog restarts and every barrier is judged again (R94, R96). -/
def checkBarriers (s : State) (c b : Nat) : State :=
  (List.range 4).foldl (fun t n => checkBarrier (setWd t c b n 0) c b n) s

/-- When a block's last group is free, the block ends: its resources are free and DONE_VID is signalled (R390). -/
def settleBlock (s : State) (c b : Nat) : State :=
  match blockOf s c b with
  | none => s
  | some k =>
    if (blockGroups s b k).isEmpty then
      let cl := s.cluster c
      complete (s.setCluster c { cl with blocks := Sparse.del cl.blocks b }) k.ctx k.doneVid (clusterSite c) none
    else s

/-- A group whose threads have all exited and whose scoreboard is empty frees its slot (Table 3.6). -/
def settleGroup (s : State) (g : GroupId) : State :=
  match s.group? g with
  | some gr => if gr.live = 0 ∧ gr.pend.isEmpty ∧ gr.st = .active then settleBlock (s.freeGroup g) g.cluster gr.block else s
  | none => s

/-- Threads of a group exit (R94). -/
def exitThreads (s : State) (g : GroupId) (m : BitVec 64) : State :=
  match s.group? g with
  | none => s
  | some gr =>
    let gr1 := checkSites { gr with live := gr.live &&& ~~~m }
    settleGroup (checkBarriers (s.setGroup g gr1) g.cluster gr.block) g

/-! ## Killing (R103, R104, R222, R252, Table 10.6) -/

/-- The groups of a context. -/
def ctxGroups (s : State) (n : Nat) : List GroupId := (s.groups.filter (fun e => e.2.ctx == n)).map (fun e => groupOfKey e.1)

def matCtx : MatCmd → Nat
  | .mcfg c _ => c
  | .mload c _ _ => c
  | .mmul c _ _ _ _ _ _ _ _ _ _ _ _ _ => c
  | .mfill c _ _ _ _ _ _ _ _ _ _ => c
  | .madapt c _ _ _ _ _ _ => c
  | .mdrain c _ _ _ _ _ _ _ _ _ _ _ _ => c

def seqCtx : SeqEntry → Nat
  | .cmd _ c _ _ _ _ _ _ _ _ _ _ _ => c
  | .wait c _ _ _ _ => c

def dmaCtx : DmaEntry → Nat
  | .copy c _ _ _ _ _ => c
  | .wait c _ _ _ _ => c

def sendCtx : SendEntry → Nat
  | .put c _ _ _ _ _ _ => c
  | .get c _ _ _ _ _ _ _ => c
  | .acc c _ _ _ _ _ _ _ => c
  | .coll c _ _ _ _ => c
  | .signal c _ _ _ _ _ => c
  | .wait c _ _ _ _ => c

/-- A queue without the entries of context `n`; the wait presented at its head goes with its entry. -/
def headGone {α : Type} (f : α → Nat) (n : Nat) (q : List α) : Bool := (q.head?.map (fun e => f e == n)).getD false

/-- Queued commands, batches and completions of context `n` on one cluster discarded; nothing discarded is signalled. -/
def discardCluster (n : Nat) (k : Cluster) : Cluster :=
  let w0 := if headGone seqCtx n k.sq then Sparse.del k.atWait 0 else k.atWait
  let w1 := if headGone dmaCtx n k.dq then Sparse.del w0 1 else w0
  let w2 := if headGone sendCtx n k.fq then Sparse.del w1 2 else w1
  { k with
    mq := k.mq.filter (fun m => matCtx m != n), batches := k.batches.filter (fun b => b.ctx != n), drains := k.drains.filter (fun m => matCtx m != n),
    sq := k.sq.filter (fun e => seqCtx e != n), head := if headGone seqCtx n k.sq then none else k.head, dq := k.dq.filter (fun e => dmaCtx e != n),
    fq := k.fq.filter (fun e => sendCtx e != n), atWait := w2, done := k.done.filter (fun d => d.ctx != n),
    sample := k.sample.filter (fun x => x.ctx != n) }

/-- The queued work and the waits of a context are discarded; messages already sent stay until acknowledged or lost. -/
def discardWork (s : State) (n : Nat) : State :=
  let s1 : State := { s with clusters := (s.clusters.map (fun e => (e.1, discardCluster n e.2))).filter (fun e => decide (e.2 ≠ Cluster.fresh)) }
  let sy := s1.sync
  let s1 := s1.setFabric { s1.fabric with colls := s1.fabric.colls.filter (fun k => k.ctx != n) }
  s1.setSync { sy with
    arriving := sy.arriving.filter (fun w => w.ctx != n), refused := sy.refused.filter (fun w => w.ctx != n),
    objs := sy.objs.map (fun e => if e.2.ctx = n then (e.1, { e.2 with obs := [], cons := [] }) else e) }

/-- Every group of a context stops and its queued work is discarded. Each block ends. -/
def stopContext (s : State) (n : Nat) : State :=
  let gs := ctxGroups s n
  let s1 := discardWork s n
  let s2 := gs.foldl (fun t g =>
    match t.group? g with
    | some gr => settleBlock (t.freeGroup g) g.cluster gr.block
    | none => t) s1
  s2.bump 0x09000008 gs.length

/-! ## Trap records (R105, R108, Table 3.8) -/

structure Trap where
  code   : Nat
  d0     : Nat
  d1     : Nat
  d2     : Nat
  pcA    : Nat
  maskA  : BitVec 64
  second : Option (Nat × BitVec 64)
  bar    : Option Nat
  parked : Bool
  deriving DecidableEq, Repr

/-- Trap codes of Table 3.7. -/
def tILLEGAL_OP : Nat := 0x01
def tMISALIGNED : Nat := 0x02
def tACCESS : Nat := 0x03
def tCOLLECTIVE_SPLIT : Nat := 0x04
def tBARRIER_STARVED : Nat := 0x05
def tSYNC_RANGE : Nat := 0x06
def tSHARD_STALE : Nat := 0x07
def tPOISON : Nat := 0x08
def tBREAKPOINT : Nat := 0x09
def tSTEP_DONE : Nat := 0x0A
def tWATCH : Nat := 0x0B
def tSCALE_RANGE : Nat := 0x0C
def tHALT_WAVE : Nat := 0x0D
def tCONTEXT_KILL : Nat := 0x0E

def mkTrap (code d0 d1 d2 pcA : Nat) (m : BitVec 64) : Trap :=
  { code := code, d0 := d0, d1 := d1, d2 := d2, pcA := pcA, maskA := m, second := none, bar := none, parked := false }

def trapFlags (t : Trap) (held : Bool) : Nat :=
  1 + b2n t.second.isSome 2 + b2n t.bar.isSome 4 + b2n held 8 + b2n t.parked 16

/-- The 256-byte record. -/
def trapRecord (s : State) (g : GroupId) (gr : Group) (t : Trap) (held : Bool) : List Byte :=
  let k := blockOf s g.cluster gr.block
  let insn := (s.ctx? gr.ctx).bind (fun c => insnAt c.code t.pcA)
  let arrival (i : Nat) : BitVec 64 :=
    match t.bar, k with
    | some n, some kb =>
      match kb.groups[i]? with
      | some h => (s.group? h).elim 0 (fun x => if x.block == gr.block then barAt x n else 0)
      | none => 0
    | _, _ => 0
  [BitVec.ofNat 8 t.code, 1] ++ leBytes 2 (trapFlags t held) ++ leBytes 4 (groupSite g).toNat ++ leBytes 4 gr.ctx ++ leBytes 2 gr.block ++
  [BitVec.ofNat 8 (k.elim 0 (·.groups.length)), BitVec.ofNat 8 (t.bar.getD 0xFF)] ++ leBytes 8 (ctxEpoch s gr.ctx) ++ leBytes 8 s.time.toNat ++
  leBytes 8 t.pcA ++ leBytes 8 t.maskA.toNat ++ leBytes 8 (t.second.getD (0, 0)).1 ++ leBytes 8 (t.second.getD (0, 0)).2.toNat ++
  leBytes 8 gr.live.toNat ++ leBytes 8 t.d0 ++ leBytes 8 t.d1 ++ leBytes 8 t.d2 ++ leBytes 8 (insn.elim 0 (·.word.toNat)) ++
  leBytes 8 (insn.elim 0 (fun i => (i.ext.getD 0).toNat)) ++ zeros 16 ++ (List.range 16).flatMap (fun i => leBytes 8 (arrival i).toNat)

/-- A context is killed (Table 3.6): groups stopped, work discarded, one CONTEXT_KILL event (R108). Its record has the layout of Table 3.8 with CODE, the
context, its step epoch, the time and the cause in DETAIL0; the event's code, its DETAIL and the record's other bytes, which belong to a group, are free
values. -/
def killContext (s : State) (n cause : Nat) : State :=
  match s.ctx? n with
  | none => s
  | some c =>
    let s1 := stopContext s n
    let any (k m : Nat) : List Byte := (List.range m).map (fun i => Config.freeByte (s1.free + k + i))
    let r := [BitVec.ofNat 8 tCONTEXT_KILL, 1] ++ any 2 6 ++ leBytes 4 n ++ any 12 4 ++ leBytes 8 c.epoch ++ leBytes 8 s.time.toNat ++
      any 32 40 ++ leBytes 8 cause ++ any 80 176
    postEvent { s1 with free := s1.free + 257 } (ownerFn c) Config.contextKillCode.toNat (Config.free32 (s1.free + 256)).toNat r

/-! ## The box of a job and its commit tree (R393, R396, R419) -/

def jobSize (j : Job) : Nat := systemSize j.extent

/-- Partition coordinate of a rank. -/
def rankCoord (j : Job) (r : Nat) : List Nat := coordOf r j.extent

def rankOf (j : Job) (c : List Nat) : Nat := fabIdOf c j.extent

/-- The fabric ID of the member of a rank: the spare's where the substitution table names one (R451). -/
def memberFab (s : State) (j : Job) (r : Nat) : Nat :=
  (Sparse.find? j.surv.subst r).getD
    (fabIdOf ((List.range 6).map (fun a => (j.origin.getD a 0 + (rankCoord j r).getD a 0) % axisLen s a)) s.lantern.lengths)

/-- This module's own partition coordinate and rank, when the box holds it. -/
def ownRank (s : State) (j : Job) : Option Nat :=
  let r := (List.range 6).map (fun a => (ownCoord s a + axisLen s a - j.origin.getD a 0 % axisLen s a) % axisLen s a)
  if (List.range 6).all (fun a => decide (r.getD a 0 < j.extent.getD a 1)) then some (rankOf j r) else none

def isRoot (s : State) (j : Job) : Bool := ownRank s j == some 0

/-- r AND (r − 1) (R419). -/
def clearLow (x : Nat) : Nat := x &&& (x - 1)

/-- The parent of rank `r`, none at the root. -/
def parentOf (j : Job) (r : Nat) : Option Nat :=
  let c := rankCoord j r
  match ((List.range 6).reverse).find? (fun a => c.getD a 0 != 0) with
  | none => none
  | some a => some (rankOf j (c.set a (clearLow (c.getD a 0))))

def childrenOf (j : Job) (r : Nat) : List Nat := (List.range (jobSize j)).filter (fun x => parentOf j x == some r)

/-- A message of the commit tree to the member of rank `r`. -/
def tell (s : State) (j : Job) (r : Nat) : State := sendMgmt s (memberFab s j r) j.fpn

def tellParent (s : State) (j : Job) : State :=
  match (ownRank s j).bind (parentOf j) with
  | some p => tell s j p
  | none => s

def tellChildren (s : State) (j : Job) : State :=
  match ownRank s j with
  | some r => (childrenOf j r).foldl (fun t x => tell t j x) s
  | none => s

def setJob (s : State) (n : Nat) (j : Job) : State :=
  match s.ctx? n with
  | some c => s.setCtx n { c with job := some j }
  | none => s

/-! ## Discarding and halting a step (R380 to R382, R422, R424) -/

/-- The member enters DISCARDING: action 1 of Table 12.11, groups killed and queued work discarded, without a CONTEXT_KILL event. -/
def enterDiscard (s : State) (n : Nat) (j : Job) : State :=
  setJob (stopContext s n) n { j with st := .discarding, launched := false, haltHeld := false }

/-- A group stops at its boundary with HALT_WAVE, its earlier results written (R382); a stopped group's disposition becomes HALT_WAVE (Table 3.12). -/
def haltGroup (s : State) (g : GroupId) : State :=
  match s.group? g with
  | none => s
  | some gr =>
    let s1 := if gr.st = .active then s.bump 0x09000008 1 else s
    s1.setGroup g { retire gr with st := .held, lastTrap := tHALT_WAVE }

/-- A halt, or a lost member, while moves are being copied leaves the re-shard INCOMPLETE with the old table registered (Table 12.14). -/
def breakReshard (j : Job) : Job := if j.reshard.st = .copying then { j with reshard := { j.reshard with st := .incomplete } } else j

/-- Where a halt comes from: Mirsis or a peer (code 0), FAB_HALT (1), chain STOP (2). -/
def actHalt (s : State) (fpn id origin via : Nat) : State :=
  let s1 := s.setFabric { s.fabric with haltId := Sparse.put 0 s.fabric.haltId fpn id }
  let s2 := (flood s1 fpn id).bump 0x0500000D 1
  match s2.boundTo fpn with
  | none => s2
  | some (n, c, j0) =>
    let j := breakReshard j0
    let s3 := (ctxGroups s2 n).foldl haltGroup s2
    let s4 := postBoth s3 c.slot 0x0585 fpn (rec8 [id, via, j.epoch, s.time.toNat])
    match j.st with
    | .running =>
      if origin = 0 then enterDiscard s4 n j
      else
        postBoth (setJob s4 n { j with st := .haltedIn }) c.slot 0x0681 id (rec8 [j.epoch, origin])
    | .voted => if origin = 0 then enterDiscard s4 n j else setJob s4 n { j with haltHeld := true }
    | .applying => setJob s4 n { j with haltHeld := true }
    | _ => setJob s4 n j

/-- A halt originated here (R380): never a second wave for one FPN within 1 ms. -/
def originateHalt (s : State) (fpn origin : Nat) : State :=
  match Sparse.find? s.fabric.haltAt fpn with
  | some t =>
    if s.time.toNat < t + 1000000 then s
    else actHalt (s.setFabric { s.fabric with haltAt := Sparse.set s.fabric.haltAt fpn s.time.toNat }) fpn ((haltIdOf s fpn + 1) % 8) origin 0xFF
  | none => actHalt (s.setFabric { s.fabric with haltAt := Sparse.set s.fabric.haltAt fpn s.time.toNat }) fpn ((haltIdOf s fpn + 1) % 8) origin 0xFF

/-- The first failure of the epoch that this member knows: cause, fabric ID, site and trap code of R430's record. -/
def noteFail (j : Job) (cause fab site trap : Nat) : Job :=
  if j.failed then j else { j with failed := true, failCause := cause, failFab := fab, failSite := site, failTrap := trap }

/-- Whether the epoch has its decision, or a COMMIT that waits only for its record (R420). -/
def decided (j : Job) : Bool := j.decision.any (fun d => d.epoch == j.epoch) || j.awaiting.contains .commit

/-- At the root a FAIL decides ABORT, sent to every child (R420). -/
def rootAbort (s : State) (n : Nat) : State :=
  match (s.ctx? n).bind (·.job) with
  | none => s
  | some j =>
    if isRoot s j && !decided j then
      let s1 := tellChildren s j
      setJob s1 n { j with decision := some { epoch := j.epoch, commit := false, snap := none } }
    else s

/-- FAIL on this member: sent up at once, the step discarded here, a halt originated (Table 12.10). -/
def failStep (s : State) (n : Nat) (cause site trap : Nat) : State :=
  match (s.ctx? n).bind (·.job) with
  | none => s
  | some j =>
    let j1 := noteFail j cause s.lantern.fabricId site trap
    let s1 := tellParent (enterDiscard s n j1) j1
    originateHalt (rootAbort s1 n) j.fpn 0

/-- A context killed by a trap or by DBG_DETACH: a bound one fails its step, STEP_DISCARDED taking the place of CONTEXT_KILL. -/
def killByTrap (s : State) (n : Nat) (site trap : Nat) : State :=
  match (s.ctx? n).bind (·.job) with
  | some j =>
    match j.st with
    | .running | .voted | .haltedIn => failStep s n 1 site trap
    | _ => killContext s n 1
  | none => killContext s n 1

/-! ## Taking a trap (R104, R105, R108) -/

/-- A trap that fails the step of a bound context under way, whatever the disposition (Table 12.10). -/
def failsStep (c : Ctx) (code : Nat) : Bool :=
  c.job.any (fun j => j.st == .running) && (code == tCOLLECTIVE_SPLIT || code == tSHARD_STALE || code == tPOISON)

/-- Debug traps always hold; every other fault follows the context's disposition. -/
def holds (c : Ctx) (code : Nat) : Bool :=
  code == tBREAKPOINT || code == tSTEP_DONE || code == tWATCH || (c.hold && !failsStep c code)

/-- One group's trap: earlier results are written, the record is posted, and the group stands HELD. -/
def postTrap (s : State) (g : GroupId) (t : Trap) : State :=
  match s.group? g with
  | none => s
  | some gr =>
    match s.ctx? gr.ctx with
    | none => s
    | some c =>
      let gr1 := retire gr
      let s0 := if t.code = tSYNC_RANGE then s.bump 0x04000008 1 else s
      let s1 := (s0.setGroup g gr1).bump 0x09000008 1
      let s2 := postEvent s1 (ownerFn c) 0x0980 (groupSite g).toNat (trapRecord s1 g gr1 t (holds c t.code))
      s2.setGroup g { gr1 with st := .held, lastTrap := t.code, stalled := false }

/-- Groups of one context that trap together: every record is posted before a kill takes effect (R108). -/
def takeTraps (s : State) (ts : List (GroupId × Trap)) : State :=
  let s1 := ts.foldl (fun x e => postTrap x e.1 e.2) s
  match ts with
  | [] => s1
  | (g, t) :: _ =>
    match s.group? g with
    | none => s1
    | some gr =>
      match s.ctx? gr.ctx with
      | none => s1
      | some c => if holds c t.code then s1 else killByTrap s1 gr.ctx (groupSite g).toNat t.code

/-- A group takes a trap at an instruction boundary: it is held, or its context killed (Table 3.6). -/
def takeTrap (s : State) (g : GroupId) (t : Trap) : State := takeTraps s [(g, t)]

end Sys2Proof.Machine
end

