-- ==== Sys2Proof/Machine/Sync.lean ====
section
/-! DEFINITION. Synchronisation objects (chapter 10): references, homes, how a change and an arriving wait are judged, and what a release does. -/

namespace Sys2Proof.Machine

open Sys2Proof

/-! ## Homes (R319, R320, R335) -/

def dieOfObj (n : Nat) : Nat := n / 8192

/-- The home store of physical object `n`: a cluster, or 1000 + die for a die store. -/
def storeOf (n : Nat) : Nat :=
  let d := n / 8192
  let x := n % 8192
  if d < 24 then (if x < 7680 then 24 * d + x / 320 else 1000 + d) else 576 + 8 * (d - 24) + x / 1024

/-- The physical objects of a store, in ascending order. -/
def storeObjs (k : Nat) : List Nat :=
  if 1000 ≤ k then (List.range 512).map (fun i => (k - 1000) * 8192 + 7680 + i)
  else if k < 576 then (List.range 320).map (fun i => (k / 24) * 8192 + (k % 24) * 320 + i)
  else (List.range 1024).map (fun i => (24 + (k - 576) / 8) * 8192 + ((k - 576) % 8) * 1024 + i)

/-- Waiter entries of a store. -/
def waiterRoom (k : Nat) : Nat := if k < 576 then 256 else 512

def waitersIn (s : State) (k : Nat) : Nat :=
  s.sync.objs.foldl (fun a e => if storeOf e.1 = k then a + e.2.obs.length + e.2.cons.length else a) 0

/-- The physical object of a VID. -/
def physOf (s : State) (ctx vid : Nat) : Option Nat := (s.ctx? ctx).bind (fun c => c.vids[vid]?)

/-! ## Object references (Tables 10.2 and 10.3) -/

def refVid (r : Word64) : Nat := bitsOf r 0 16
def refRemote (r : Word64) : Bool := r.getLsbD 16
def refFabric (r : Word64) : Nat := bitsOf r 17 20
def refQueue (r : Word64) : Nat := bitsOf r 40 2

inductive RefUse where
  | wait
  | sig
  | completion
  deriving DecidableEq, Repr

/-- V, reserved bits and FABRIC_ID; REMOTE; QUEUE. -/
def refIllegal (r : Word64) (u : RefUse) : Bool :=
  !r.getLsbD 63 || bitsOf r 37 3 != 0 || bitsOf r 42 21 != 0 || (!refRemote r && refFabric r != 0)
  || (refRemote r && u != .sig) || (refQueue r != 0 && u != .wait)

/-- A local VID at or beyond SYNC_OBJECTS. -/
def refOut (c : Ctx) (r : Word64) : Bool := !refRemote r && decide (c.syncObjects ≤ refVid r)

/-! ## Comparison (Table 10.4) -/

def ahead (t v : Word32) : Nat := (t - v).toNat

def condHolds (t v : Word32) : Bool := ahead t v == 0 || decide (2 ^ 31 < ahead t v)

/-- The range test (R327). -/
def rangeBad (take : Bool) (t v : Word32) : Bool := if take then decide (2 ^ 31 ≤ t.toNat) else ahead t v == 2 ^ 31

/-! ## Judging an object (R333, R338) -/

/-- What a change released: the object after it, waiters released, and group waiters that take the mark's trap instead. -/
structure Judged where
  obj     : Obj
  freed   : List Waiter
  trapped : List Waiter
  deriving DecidableEq, Repr

/-- The consuming queue against value `v`: only its head can be released; a marked group wait takes nothing. -/
def judgeCons (marked : Bool) : List Waiter → Word32 → List Waiter × List Waiter × List Waiter × Word32
  | [], v => ([], [], [], v)
  | w :: r, v =>
    if condHolds w.operand v then
      if marked && w.queue == 0 then
        let (q, f, t, v1) := judgeCons marked r v
        (q, f, w :: t, v1)
      else
        let (q, f, t, v1) := judgeCons marked r (v - w.operand)
        (q, w :: f, t, v1)
    else (w :: r, [], [], v)

/-- Observers together against the value the change left, then consumers from the head. -/
def judge (o : Obj) : Judged :=
  let ok := o.obs.filter (fun w => condHolds w.operand o.value)
  let marked := o.mark.isSome
  let (tr, fr) := ok.partition (fun w => marked && w.queue == 0)
  let (q, f, t, v) := judgeCons marked o.cons o.value
  { obj := { o with obs := o.obs.filter (fun w => !condHolds w.operand o.value), cons := q, value := v,
                    mark := if (tr ++ t).isEmpty then o.mark else none },
    freed := fr ++ f, trapped := tr ++ t }

/-! ## Releases (R336, R337) -/

/-- A stalled group proceeds past its WAIT. -/
def freeGroupWait (s : State) (g : GroupId) (pc : Word64) : State :=
  match s.group? g with
  | none => s
  | some gr =>
    let sz := (((s.ctx? gr.ctx).bind (fun c => insnAt c.code pc.toNat)).map Insn.size).getD 8
    let m := maskOf (fun t => gr.runnable.getLsbD t && decide (gr.pcGet t = pc))
    s.setGroup g { gr.pcAll m (pc.toNat + sz) with stalled := false }

/-- A released wait: its group or its queue proceeds. -/
def freeWaiter (s : State) (w : Waiter) : State :=
  let k := s.cluster w.cluster
  match w.queue with
  | 0 => match w.group with
    | some g => freeGroupWait s g w.pc
    | none => s
  | 1 => s.setCluster w.cluster { k with sq := k.sq.drop 1, atWait := Sparse.del k.atWait 0 }
  | 2 => s.setCluster w.cluster { k with dq := k.dq.drop 1, atWait := Sparse.del k.atWait 1 }
  | 3 => s.setCluster w.cluster { k with fq := k.fq.drop 1, atWait := Sparse.del k.atWait 2 }
  | _ => s.setCluster w.cluster { k with head := k.head.map (fun h => { h with waiting := false }) }

def trapOfMark (m : Nat × Nat × Nat) (pc : Word64) (mask : BitVec 64) : Trap :=
  mkTrap (if m.1 = 2 then tSHARD_STALE else tPOISON) m.2.1 m.2.2 0 pc.toNat mask

/-- Threads of a group that stand at `pc` and can run. -/
def maskAt (s : State) (g : GroupId) (pc : Word64) : BitVec 64 :=
  match s.group? g with
  | some gr => maskOf (fun t => gr.runnable.getLsbD t && decide (gr.pcGet t = pc))
  | none => 0

/-- The object stored as judged, its waiters released, its mark delivered. -/
def settle (s : State) (n : Nat) (j : Judged) (mark : Option (Nat × Nat × Nat)) : State :=
  let s1 := (s.setObj n j.obj).bump 0x04000002 j.freed.length
  let s2 := j.freed.foldl freeWaiter s1
  takeTraps s2 (j.trapped.filterMap (fun w =>
    match w.group, mark with
    | some g, some m => some (g, trapOfMark m w.pc (maskAt s2 g w.pc))
    | _, _ => none))

/-- A change applied to an object (R329), judged under R333. -/
def applyChange (s : State) (n : Nat) (x : Signal) : State :=
  match s.obj? n with
  | none => s
  | some o =>
    let lost := x.mark.isSome && o.mark.isSome
    let o1 := { o with value := if x.set then x.value else o.value + x.value, mark := if o.mark.isSome then o.mark else x.mark,
                       lastSrc := x.src, lastSite := x.site, lastOp := x.op, lastEpoch := ctxEpoch s o.ctx }
    let s1 := (if lost then s.bump 0x04000009 1 else s).bump 0x04000001 1
    settle s1 n (judge o1) o1.mark

/-- A wait presented to its home store (R334, R335): refused for want of an entry, range-tested when it is a group's, released, or queued. -/
def presentWait (s : State) (w : WaitMsg) : State :=
  match physOf s w.ctx w.vid with
  | none => s
  | some n =>
    match s.obj? n with
    | none => s
    | some o =>
      let store := storeOf n
      if waiterRoom store ≤ waitersIn s store then
        (s.setSync { s.sync with refused := s.sync.refused ++ [w] }).bump 0x04000004 1
      else
        let wt : Waiter := { seq := o.seq, queue := w.queue, take := w.take, operand := w.operand, site := w.site, since := s.time, group := w.group,
                             pc := w.pc, cluster := w.cluster }
        let o1 := { o with seq := o.seq + 1 }
        if w.queue = 0 ∧ rangeBad w.take w.operand o.value then
          match w.group with
          | some g =>
            takeTrap (s.setObj n o1) g (mkTrap tSYNC_RANGE w.vid (o.value.toNat * 2 ^ 32 + w.operand.toNat) 0 w.pc.toNat (maskAt s g w.pc))
          | none => s
        else
          let now := if w.take then w.operand == 0 || (condHolds w.operand o.value && o.cons.isEmpty) else condHolds w.operand o.value
          if now then
            if w.queue = 0 ∧ o.mark.isSome then
              -- the mark's trap: nothing is taken, the consuming queue is judged again
              settle s n { (judge { o1 with mark := none }) with trapped := [wt] } o.mark
            else
              let v := if w.take then o.value - w.operand else o.value
              settle s n { obj := { o1 with value := v }, freed := [wt], trapped := [] } none
          else if w.take then s.setObj n { o1 with cons := o.cons ++ [wt] }
          else s.setObj n { o1 with obs := o.obs ++ [wt] }

/-- The waits of a killed group removed; a consuming queue that loses its head is judged again (Table 10.6). -/
def dropWaits (s : State) (g : GroupId) : State :=
  let s1 := s.setSync { s.sync with arriving := s.sync.arriving.filter (fun w => w.group != some g), refused := s.sync.refused.filter (fun w => w.group != some g) }
  (s1.sync.objs.filter (fun e => (e.2.obs ++ e.2.cons).any (fun w => w.group == some g))).foldl (fun t e =>
    match t.obj? e.1 with
    | none => t
    | some o =>
      let o1 := { o with obs := o.obs.filter (fun w => w.group != some g), cons := o.cons.filter (fun w => w.group != some g) }
      settle t e.1 (judge o1) o1.mark) s1

/-- A group killed on its own (DBG_KILL): as if its live threads had all exited (R94). -/
def killGroup (s : State) (g : GroupId) : State :=
  match s.group? g with
  | none => s
  | some gr =>
    let s1 := settleBlock (s.freeGroup g) g.cluster gr.block
    dropWaits (checkBarriers s1 g.cluster gr.block) g

/-- The queue a queued wait or command enters, with its capacity. -/
def streamRoom : Nat := 16
def dmaRoom : Nat := 16
def sendRoom : Nat := 32

end Sys2Proof.Machine
end

