-- ==== Sys2Proof/Machine/Issue.lean ====
section
/-! DEFINITION. What every Virdy instruction meets as it issues: its environment, its outcome, readiness (R81, R84), poisoned registers (R106),
watchpoints (R115) and the writing of results. -/

namespace Sys2Proof.Machine

open Sys2Proof

/-- An instruction about to issue: the group and its context, the word, the selected subset and the threads that act. -/
structure Env where
  g    : GroupId
  gr   : Group
  c    : Ctx
  blk  : Block
  i    : Insn
  f    : Form
  /-- The selected subset; for a group-collective instruction all live threads. -/
  mask : BitVec 64
  /-- Threads whose guard holds. -/
  act  : BitVec 64

/-- What issuing an instruction did. -/
inductive Res where
  /-- Committed; the subset continues at the next instruction. -/
  | done (s : State)
  /-- Committed; program counters are already as the instruction leaves them. -/
  | jumped (s : State)
  /-- The subset parked, or stalled on a wait. -/
  | parked (s : State)
  /-- A trap; nothing is committed. -/
  | trap (t : Trap)
  /-- Not ready (R81): nothing happens. -/
  | notReady

def Env.ctx (e : Env) : Nat := e.gr.ctx
def Env.pc (e : Env) : Nat := e.i.addr
def Env.site (e : Env) : BitVec 32 := groupSite e.g

/-- A trap of the subset at this instruction. -/
def Env.trap (e : Env) (code d0 d1 d2 : Nat) : Trap := mkTrap code d0 d1 d2 e.pc e.mask

def Env.illegal (e : Env) : Trap := e.trap tILLEGAL_OP 0 0 0

/-- The group as it is in `s`. -/
def Env.group (e : Env) (s : State) : Group := (s.group? e.g).getD e.gr

def Env.update (e : Env) (s : State) (f : Group → Group) : State := s.setGroup e.g (f (e.group s))

/-- The unit's sticky flags take what the instruction raised (R181, R182). -/
def Env.raise (e : Env) (s : State) (fl : Flags) : State :=
  if fl = 0 then s
  else
    let k := unitKey e.g
    let u := s.unitSt k
    s.setUnit k { u with flags := u.flags ||| fl }

/-- The first acting thread. -/
def Env.lead (e : Env) : Nat := (threads e.act).headD 0

/-- A result written for thread `t`: 32 bits to a v register, 64 to a u register, bit 0 to a predicate, nothing to ZERO. -/
def putDst (gr : Group) (c t : Nat) (x : Word64) : Group :=
  match desig c with
  | .v r => gr.vPut r t (x.setWidth 32)
  | .u r => gr.uPut r x
  | .p k => gr.pPut k t (x.getLsbD 0)
  | _ => gr

/-- The result `f t` written for each thread that acts, or once for a per-issue instruction. -/
def Env.write (e : Env) (s : State) (f : Nat → Word64) : State :=
  match actsOf e.i with
  | .perThread => e.update s (fun gr => (threads e.act).foldl (fun x t => putDst x e.i.dst t (f t)) gr)
  | _ => e.update s (fun gr => putDst gr e.i.dst e.lead (f e.lead))

/-- Results with flags: every flag any of them raises is set. -/
def Env.writeFl (e : Env) (s : State) (f : Nat → Word64 × Flags) : State :=
  let ts := match actsOf e.i with
    | .perThread => threads e.act
    | _ => [e.lead]
  e.raise (e.write s (fun t => (f t).1)) (ts.foldl (fun a t => a ||| (f t).2) 0)

/-! ## Readiness -/

/-- Whether two designators name one register. -/
def sameReg (a b : Nat) : Bool :=
  a == b && (match desig a with | .v _ | .u _ | .p _ => true | _ => false)

/-- A register read or written has a pending write (R84). -/
def marked (gr : Group) (f : Form) (i : Insn) : Bool :=
  (readsOf f i ++ writesOf f i).any (fun c => gr.pend.any (fun p => sameReg p.dest c))

/-- A scoreboard entry is free, of 16 and of those the VMOD declares (R85, R148). -/
def entryFree (gr : Group) (c : Ctx) : Bool := decide (gr.pend.length < Nat.min 16 c.sbEntries)

/-! ## Poisoned registers (R106) -/

/-- Keys of the registers the instruction reads, for the threads that act. -/
def Env.readKeys (e : Env) : List (Nat × Nat) :=
  (readsOf e.f e.i).flatMap (fun c =>
    match desig c with
    | .v r =>
      if e.f.mn = .rdlane then
        let b := (src1 e.gr e.i e.lead).toNat % 64
        [(b, 64 * r + b)]
      else (threads e.act).map (fun t => (t, 64 * r + t))
    | .u r => [(e.lead, 64 * (0x40 + r))]
    | _ => [])

/-- POISON at the first instruction that reads a poisoned register: its address and space, the lowest thread's first. -/
def Env.poisonTrap (e : Env) : Option Trap :=
  let hits := e.readKeys.filterMap (fun k => (Sparse.find? e.gr.poisoned k.2).map (fun a => (k.1, a)))
  match hits with
  | [] => none
  | h :: r =>
    let low := r.foldl (fun b x => if x.1 < b.1 then x else b) h
    some (e.trap tPOISON low.2.1 low.2.2 (maskOf (fun t => hits.any (fun x => x.1 == t))).toNat)

/-! ## Completion objects and local ranges -/

/-- Reference checks of a completion object (Table 10.3): ILLEGAL_OP conditions. -/
def Env.objIllegal (e : Env) : Bool :=
  match desig e.i.dst with
  | .u r => refIllegal (e.gr.uGet r) .completion
  | _ => false

def Env.objAccess (e : Env) : Option Trap :=
  match desig e.i.dst with
  | .u r => if refOut e.c (e.gr.uGet r) then some (e.trap tACCESS (refVid (e.gr.uGet r)) 3 0) else none
  | _ => none

def Env.obj (e : Env) : Option Nat :=
  match desig e.i.dst with
  | .u r => some (refVid (e.gr.uGet r))
  | _ => none

/-- The first trap of a list of conditions in the order of R107. -/
def firstTrap (ts : List (Option Trap)) : Option Trap := (ts.filterMap id).head?

def trapIf (b : Bool) (t : Trap) : Option Trap := if b then some t else none

/-- General pseudo-channels of a stopped stack answer nothing (R311), and an uncorrectable sector of a sealed shared slot is held for repair (R486). -/
def stackStopped (s : State) (a n : Nat) : Bool :=
  (granules a n).any (fun g =>
    match placeOf s.part.order (64 * g), stackOf s.part.order s.mem (64 * g) with
    | .reserve _ _, _ => false
    | _, some k => (s.stack k).stopped
    | _, none => false)

def unavailable (s : State) (a n : Nat) : Bool := stackStopped s a n || heldRead s a n

end Sys2Proof.Machine
end

