-- ==== Sys2Proof/Machine/Alu.lean ====
section
/-! DEFINITION. Arithmetic, predicate and conversion instructions (R127 to R130, Tables 4.6 to 4.9): one definition per instruction over the shared
forms of operands, widths and flags. -/

namespace Sys2Proof.Machine

open Sys2Proof

/-! ## Integer instructions (Table 4.6) -/

/-- Operand width of an integer instruction: 32 bits per thread and for I32 and U32, else 64. -/
def intWidth (i : Insn) : Nat := if i.cls = 0 ∧ 2 ≤ i.mod % 16 then 64 else 32

def intSigned (i : Insn) : Bool := i.mod % 2 == 0

/-- A 32-bit uniform result is sign-extended for I32 and zero-extended for U32 (R119). -/
def extendInt (i : Insn) (x : Nat) : Word64 :=
  if intWidth i = 64 then BitVec.ofNat 64 x
  else if i.cls = 0 ∧ intSigned i then BitVec.ofInt 64 (signed 32 x)
  else BitVec.ofNat 64 (x % 2 ^ 32)

/-- An integer result computed from the operands cut to the width. -/
def intRes (one : Bool) (op : Nat → Bool → Nat → Nat → Nat → Nat) (e : Env) (s : State) : Res :=
  let w := intWidth e.i
  let cut (x : Word64) : Nat := x.toNat % 2 ^ w
  .done (e.write s (fun t =>
    extendInt e.i (op w (intSigned e.i) (cut (src0 e.gr e.i one t)) (if one then 0 else cut (src1 e.gr e.i t)) (cut (src2 e.gr e.i t)) % 2 ^ w)))

/-- A reading of a w-bit operand by its type. -/
def readAs (w : Nat) (sg : Bool) (x : Nat) : Int := if sg then signed w x else x

def runMov : Env → State → Res := intRes true (fun _ _ a _ _ => a)
def runAdd : Env → State → Res := intRes false (fun _ _ a b _ => a + b)
def runSub : Env → State → Res := intRes false (fun w _ a b _ => a + 2 ^ w - b)
def runMul : Env → State → Res := intRes false (fun _ _ a b _ => a * b)
def runMulhi : Env → State → Res := intRes false (fun w sg a b _ => unsign w (readAs w sg a * readAs w sg b / ((2 ^ w : Nat) : Int)))
def runMad : Env → State → Res := intRes false (fun _ _ a b c => a * b + c)
def runMin : Env → State → Res := intRes false (fun w sg a b _ => if readAs w sg b < readAs w sg a then b else a)
def runMax : Env → State → Res := intRes false (fun w sg a b _ => if readAs w sg a < readAs w sg b then b else a)
def runAnd : Env → State → Res := intRes false (fun _ _ a b _ => a &&& b)
def runOr : Env → State → Res := intRes false (fun _ _ a b _ => a ||| b)
def runXor : Env → State → Res := intRes false (fun _ _ a b _ => a ^^^ b)
def runShl : Env → State → Res := intRes false (fun w _ a b _ => a * 2 ^ (b % w))
def runShr : Env → State → Res := intRes false (fun w _ a b _ => a / 2 ^ (b % w))
def runSar : Env → State → Res := intRes false (fun w _ a b _ => unsign w (signed w a / ((2 ^ (b % w) : Nat) : Int)))
def runPopc : Env → State → Res := intRes true (fun w _ a _ _ => ((List.range w).filter (fun k => a.testBit k)).length)
def runClz : Env → State → Res := intRes true (fun w _ a _ _ => if a = 0 then w else w - 1 - Nat.log2 a)

/-- SEL: a where pc is true, else b. -/
def runSel (e : Env) (s : State) : Res :=
  .done (e.write s (fun t =>
    let pc := match desig e.i.s2 with
      | .p k => e.gr.pGet k t
      | _ => false
    if pc then srcVal e.gr e.i e.i.s0 t else srcVal e.gr e.i e.i.s1 t))

/-- RDLANE: the value of va in thread b mod 64, zero-extended. -/
def runRdlane (e : Env) (s : State) : Res :=
  let b := (src1 e.gr e.i e.lead).toNat % 64
  .done (e.update s (fun gr => putDst gr e.i.dst e.lead (srcVal e.gr e.i e.i.s0 b)))

/-- SREG (Table 4.7). -/
def runSreg (e : Env) (s : State) : Res :=
  let val (t : Nat) : Nat := match e.i.imm with
    | 0 => t
    | 1 => t % 16
    | 2 => e.site.toNat
    | 3 => e.gr.idx
    | 4 => e.gr.block
    | 5 => e.g.cluster
    | 6 => e.c.slot
    | _ => (lidFabric s).toNat
  .done (e.write s (fun t => extendInt e.i (val t % 2 ^ intWidth e.i)))

/-! ## Floating-point instructions (Table 4.8) -/

def roundOf (m : Nat) : Rmode :=
  match m with
  | 1 => .rtz
  | 2 => .rdn
  | 3 => .rup
  | _ => .rne

/-- An FP32 result from 32-bit operands, with its flags; a uniform result is zero-extended. -/
def fpRes (one : Bool) (op : Rmode → Word32 → Word32 → Word32 → R32) (e : Env) (s : State) : Res :=
  .done (e.writeFl s (fun t =>
    let r := op (roundOf (e.i.mod / 16 % 4)) ((src0 e.gr e.i one t).setWidth 32) (if one then 0 else (src1 e.gr e.i t).setWidth 32) ((src2 e.gr e.i t).setWidth 32)
    (r.w.setWidth 64, r.flags)))

def runFadd : Env → State → Res := fpRes false (fun m a b _ => f32Add m a b)
def runFsub : Env → State → Res := fpRes false (fun m a b _ => f32Sub m a b)
def runFmul : Env → State → Res := fpRes false (fun m a b _ => f32Mul m a b)
def runFfma : Env → State → Res := fpRes false (fun m a b c => f32Fma m a b c)
def runFmin : Env → State → Res := fpRes false (fun _ a b _ => f32MinMax false a b)
def runFmax : Env → State → Res := fpRes false (fun _ a b _ => f32MinMax true a b)
/-- FABS and FNEG act on the bits alone (R154). -/
def runFabs : Env → State → Res := fpRes true (fun _ a _ _ => ⟨a &&& 0x7FFFFFFF, 0⟩)
def runFneg : Env → State → Res := fpRes true (fun _ a _ _ => ⟨a ^^^ 0x80000000, 0⟩)
def runRcp : Env → State → Res := fpRes true (fun _ a _ _ => f32Rcp a)
def runRsq : Env → State → Res := fpRes true (fun _ a _ _ => f32Rsq a)
def runSqrt : Env → State → Res := fpRes true (fun _ a _ _ => f32Sqrt a)
def runExp2 : Env → State → Res := fpRes true (fun _ a _ _ => f32Exp2 a)
def runLog2 : Env → State → Res := fpRes true (fun _ a _ _ => f32Log2 a)

/-- CVT (R129): s is the signed low 8 bits of its operand. `mode n` is the rounding of the n-th element. -/
def cvtWith (mode : Nat → Rmode) (e : Env) (s : State) : State :=
  let dst := (tyOf (e.i.mod % 16)).getD .i32
  let src := (tyOf (e.i.mod / 16)).getD .i32
  let sc (t : Nat) : Int := if dst.scaled || src.scaled then signed 8 ((src1 e.gr e.i t).toNat % 256) else 0
  let pos (t : Nat) : Nat := ((threads e.act).filter (fun k => decide (k < t))).length
  e.writeFl s (fun t =>
    let r := convert (mode (pos t)) dst src (sc t) ((srcVal e.gr e.i e.i.s0 t).toNat)
    (if e.i.cls = 1 ∧ dst = .i32 then BitVec.ofInt 64 (signed 32 r.code) else BitVec.ofNat 64 r.code, r.flags))

def runCvtRne (e : Env) (s : State) : Res := .done (cvtWith (fun _ => .rne) e s)
def runCvtRtz (e : Env) (s : State) : Res := .done (cvtWith (fun _ => .rtz) e s)

/-- CVT.SR: every element takes its own draw of the cluster's random source (R167, R168). -/
def runCvtSr (e : Env) (s : State) : Res :=
  let s1 := cvtWith (fun n => .sr (Config.draw16 e.g.cluster (s.free + n)).toNat) e s
  .done { s1 with free := s1.free + 64 }

/-! ## Predicates (Table 4.9, R130) -/

/-- ISETP conditions. -/
def intCmp (cc : Nat) (a b : Int) : Bool :=
  match cc with
  | 0 => a == b
  | 1 => a != b
  | 2 => decide (a < b)
  | 3 => decide (a ≤ b)
  | 4 => decide (b < a)
  | _ => decide (b ≤ a)

def bit64 (b : Bool) : Word64 := if b then 1 else 0

def runIsetp (e : Env) (s : State) : Res :=
  let rd (x : Word64) : Int := readAs 32 (intSigned e.i) (x.toNat % 2 ^ 32)
  .done (e.write s (fun t => bit64 (intCmp (e.i.mod / 16) (rd (srcVal e.gr e.i e.i.s0 t)) (rd (src1 e.gr e.i t)))))

def runFsetp (e : Env) (s : State) : Res :=
  .done (e.writeFl s (fun t =>
    let r := f32Cmp (e.i.mod / 16) ((srcVal e.gr e.i e.i.s0 t).setWidth 32) ((src1 e.gr e.i t).setWidth 32)
    (bit64 r.1, r.2)))

/-- Predicate logic on the named predicates of each thread. -/
def predRes (op : Bool → Bool → Bool) (e : Env) (s : State) : Res :=
  .done (e.write s (fun t => bit64 (op ((srcVal e.gr e.i e.i.s0 t).getLsbD 0) ((srcVal e.gr e.i e.i.s1 t).getLsbD 0))))

def runPand : Env → State → Res := predRes (fun a b => a && b)
def runPor : Env → State → Res := predRes (fun a b => a || b)
def runPxor : Env → State → Res := predRes (fun a b => a != b)
def runPnot : Env → State → Res := predRes (fun a _ => !a)

/-- BALLOT: bit t for each acting thread t in which pa is true. -/
def runBallot (e : Env) (s : State) : Res :=
  let m := maskOf (fun t => e.act.getLsbD t && (srcVal e.gr e.i e.i.s0 t).getLsbD 0)
  .done (e.update s (fun gr => putDst gr e.i.dst e.lead m))

end Sys2Proof.Machine
end

