-- ==== Sys2Proof/Machine/Control.lean ====
section
/-! DEFINITION. Control instructions (R131, R132, Table 4.10) with convergence (R90 to R92), barriers (R93 to R98) and exits (R94). -/

namespace Sys2Proof.Machine

open Sys2Proof

/-- Threads of the subset whose guard is false continue at the next instruction (R125). -/
def Env.skip (e : Env) (gr : Group) : Group := gr.pcAll (e.mask &&& ~~~e.act) e.i.next

/-- The target of BRA and CALL: own address plus 8 × the offset (R131). -/
def branchTarget (i : Insn) : Nat :=
  let off : Int := if i.i then i.imm else signed 64 (i.ext.getD 0).toNat
  unsign 64 ((i.addr : Int) + 8 * off)

/-- Acting threads go to `f t`, the others to the next instruction (R89). -/
def Env.jump (e : Env) (s : State) (f : Nat → Nat) : State :=
  e.update s (fun gr => (threads e.act).foldl (fun x t => x.pcPut t (BitVec.ofNat 64 (f t))) (e.skip gr))

def runBra (e : Env) (s : State) : Res := .jumped (e.jump s (fun _ => branchTarget e.i))

/-- CALL writes the address of the next instruction to vd. -/
def runCall (e : Env) (s : State) : Res := .jumped (e.jump (e.write s (fun _ => BitVec.ofNat 64 e.i.next)) (fun _ => branchTarget e.i))

/-- The target of BRX and RET in thread `t`. -/
def Env.indirect (e : Env) (t : Nat) : Nat := (srcVal e.gr e.i e.i.s0 t).toNat

/-- R132: a target outside the code or at an extension word is illegal; one that is not a multiple of 8 is misaligned. -/
def checkIndirect (e : Env) : Option Trap :=
  let size := 8 * e.c.code.length
  let bad := maskOf (fun t => e.act.getLsbD t && (decide (size ≤ e.indirect t) || (e.indirect t % 8 == 0 && !isBoundary e.c.code (e.indirect t))))
  let odd := maskOf (fun t => e.act.getLsbD t && e.indirect t % 8 != 0)
  firstTrap [trapIf (bad != 0) (e.trap tILLEGAL_OP 0 0 bad.toNat),
    trapIf (odd != 0) (e.trap tMISALIGNED (e.indirect ((threads odd).headD 0)) 8 odd.toNat)]

def runBrx (e : Env) (s : State) : Res := .jumped (e.jump s e.indirect)
def runRet (e : Env) (s : State) : Res := .jumped (e.jump s e.indirect)

/-- EXIT (R94): the acting threads exit, the others continue. -/
def runExit (e : Env) (s : State) : Res := .jumped (exitThreads (e.update s (fun gr => { e.skip gr with skipBp := false })) e.g e.act)

/-- A site force-released (R91, R92). -/
def forceSite (s : State) (g : GroupId) (x : Site) : State :=
  match s.group? g with
  | some gr => (s.setGroup g (releaseSite gr x)).bump 0x09000005 1
  | none => s

/-- CONV uM (R90, R91). -/
def runConv (e : Env) (s : State) : Res :=
  let here (x : Site) : Bool := x.addr.toNat == e.pc
  let full := !e.gr.sites.any here && decide (8 ≤ e.gr.sites.length)
  let s1 := if full then (match e.gr.sites with
    | x :: _ => forceSite s e.g x
    | [] => s) else s
  .parked (e.update s1 (fun gr0 =>
    let gr := e.skip gr0
    let sites := if gr.sites.any here then gr.sites.map (fun x => if here x then { x with parked := x.parked ||| e.act } else x)
      else gr.sites ++ [{ addr := BitVec.ofNat 64 e.pc, expect := uVal e.gr e.i.s0, parked := e.act }]
    checkSites { gr with sites := sites }))

/-- The split of R100, with the subset parked elsewhere (R102). -/
def Env.split (e : Env) (pcB : Nat) (maskB : BitVec 64) : Trap := { e.trap tCOLLECTIVE_SPLIT 0 0 0 with second := some (pcB, maskB) }

/-- BAR meets threads parked at a collective instruction: case 4 of Table 3.5. -/
def checkBar (e : Env) : Option Trap := trapIf (e.gr.collMask != 0) (e.split e.gr.collPc.toNat e.gr.collMask)

/-- BAR b (R93): the arrival restarts the watchdog (R96), and the barrier is judged. -/
def runBar (e : Env) (s : State) : Res :=
  let n := e.i.imm.toNat
  let s1 := e.update s (fun gr => let x := e.skip gr; { x with bars := Sparse.put 0 x.bars n (barAt x n ||| e.act) })
  .parked (checkBarrier (setWd s1 e.g.cluster e.gr.block n 0) e.g.cluster e.gr.block n)

def runActmask (e : Env) (s : State) : Res := .done (e.write s (fun _ => e.mask))
def runVirdyNop (_ : Env) (s : State) : Res := .done s

/-- BRK (R138): BREAKPOINT while a debugger is attached, unless the resumed instruction (R112). -/
def checkBrk (e : Env) : Option Trap :=
  trapIf (e.c.hold && !e.gr.skipBp) (e.trap tBREAKPOINT (0x10000 + unsign 16 e.i.imm) 0 0)

def runBrk (_ : Env) (s : State) : Res := .done s

/-- A forced release when nothing else can move (R92): most parked threads, lowest address on a tie. -/
def forcedRelease (s : State) (g : GroupId) : State :=
  match s.group? g with
  | none => s
  | some gr =>
    if gr.st = .active ∧ gr.live ≠ 0 ∧ gr.runnable = 0 ∧ !gr.sites.any (siteDone gr) then
      match gr.sites with
      | [] => s
      | x :: r =>
        let best := r.foldl (fun b y => if popMask b.parked < popMask y.parked ∨ (popMask b.parked = popMask y.parked ∧ y.addr.toNat < b.addr.toNat) then y else b) x
        forceSite s g best
    else s

/-- A barrier's watchdog reaches 2^W (R96, R97): every group with a thread parked there traps with the arrival masks of its block. -/
def barrierStarved (s : State) (c b n : Nat) : State :=
  match blockOf s c b with
  | none => s
  | some k =>
    let gs := blockGroups s b k
    let stopped := gs.any (fun g => (s.group? g).elim false (fun x => x.st != .active))
    let hit := gs.filter (fun g => (s.group? g).elim false (fun x => barAt x n != 0))
    match s.ctx? k.ctx with
    | none => s
    | some cx =>
      if stopped || hit.isEmpty then s
      else
        let limit := 2 ^ cx.wdW
        takeTraps (setWd s c b n limit) (hit.filterMap (fun g => (s.group? g).map (fun x =>
          let m := barAt x n
          (g, { mkTrap tBARRIER_STARVED n limit 0 (x.pcGet ((threads m).headD 0)).toNat m with bar := some n }))))

end Sys2Proof.Machine
end

