-- ==== Sys2Proof/Machine/FabInsn.lean ====
section
/-! DEFINITION. Issue of fabric instructions (R374, R375, R395, R397, Tables 11.11b and 11.12): what enters the fabric send queue. -/

namespace Sys2Proof.Machine

open Sys2Proof

/-! ## The destination word (Table 11.11b) -/

def destFabric (w : Word64) : Nat := bitsOf w 0 20
def destOrd (w : Word64) : Bool := w.getLsbD 20
def destAdapt (w : Word64) : Bool := w.getLsbD 21
def destBulk (w : Word64) : Bool := w.getLsbD 22
def destNotify (w : Word64) : Bool := w.getLsbD 23
def destNvid (w : Word64) : Nat := bitsOf w 24 16

/-- V = 0, a reserved bit set, NVID without NOTIFY, or ADAPT with ORD. -/
def destIllegal (w : Word64) : Bool :=
  !w.getLsbD 63 || bitsOf w 40 23 != 0 || (!destNotify w && destNvid w != 0) || (destAdapt w && destOrd w)

def Env.localAddr (e : Env) : Nat := (uVal e.gr e.i.s0).toNat
def Env.destWord (e : Env) : Word64 := uVal e.gr e.i.s1
def Env.msgLen (e : Env) : Nat := (uVal e.gr e.i.s2).toNat
def Env.remote (e : Env) : Nat := (e.i.ext.getD 0).toNat

/-- A context bound to no FPN (R395). -/
def Env.unbound (e : Env) (d0 : Nat) : Option Trap := trapIf e.c.job.isNone (e.trap tACCESS d0 2 0)

/-- A fabric ID outside the system. -/
def Env.noModule (e : Env) (s : State) (kind : Nat) : Option Trap :=
  trapIf (decide (systemSize s.lantern.lengths ≤ destFabric e.destWord)) (e.trap tACCESS e.remote kind 0)

/-- The checks that PUT, ACC and GET without REG share; `get` tells GET from the others, `bulk` that BULK is allowed. -/
def checkBlockMsg (get bulk : Bool) (e : Env) (s : State) : Option Trap :=
  let w := e.destWord
  let n := e.msgLen
  firstTrap [trapIf (e.objIllegal || destIllegal w || (destBulk w && !bulk) || (destNotify w && get) || n == 0 || decide (65536 < n)) e.illegal,
    trapIf (e.localAddr % 64 != 0) (e.trap tMISALIGNED e.localAddr 64 0), trapIf (e.remote % 64 != 0) (e.trap tMISALIGNED e.remote 64 0),
    trapIf (n % 64 != 0) (e.trap tMISALIGNED n 64 0), e.objAccess,
    trapIf (!mayAccess e.ctx e.c get e.localAddr n) (e.trap tACCESS e.localAddr (if get then 2 else 1) 0), e.noModule s (if get then 1 else 2),
    e.unbound e.remote]

def checkPut : Env → State → Option Trap := checkBlockMsg false true
def checkAcc : Env → State → Option Trap := checkBlockMsg false false

def checkGet (e : Env) (s : State) : Option Trap :=
  if e.i.mod = 1 then
    let w := e.destWord
    firstTrap [trapIf (destIllegal w || destBulk w || destNotify w) e.illegal, trapIf (e.remote % 8 != 0) (e.trap tMISALIGNED e.remote 8 0),
      e.noModule s 1, e.unbound e.remote]
  else checkBlockMsg true false e s

/-- An entry of the fabric send queue (R371). -/
def Env.sendQ (e : Env) (s : State) (x : SendEntry) : Res :=
  let k := s.cluster e.g.cluster
  if sendRoom ≤ k.fq.length then .notReady else .done (s.setCluster e.g.cluster { k with fq := k.fq ++ [x] })

def runPut (e : Env) (s : State) : Res :=
  e.sendQ s (.put e.ctx e.localAddr e.msgLen e.destWord e.remote e.obj (clusterSite e.g.cluster))

def runAcc (e : Env) (s : State) : Res :=
  e.sendQ s (.acc e.ctx e.localAddr e.msgLen e.destWord e.remote e.i.mod e.obj (clusterSite e.g.cluster))

/-- GET; with REG its register takes a scoreboard entry, filled when the response arrives (R85, R136). -/
def runGet (e : Env) (s : State) : Res :=
  let site := clusterSite e.g.cluster
  if e.i.mod = 1 then
    match e.sendQ s (.get e.ctx 0 8 e.destWord e.remote none site (some (e.g, e.i.dst))) with
    | .done t =>
      let x : Pend := { dest := e.i.dst, mask := e.act, vals := [0], poison := 0, paddr := 0, pspace := 0, ready := false, msg := none }
      .done (e.update t (fun gr => { gr with pend := gr.pend ++ [x] }))
    | r => r
  else e.sendQ s (.get e.ctx e.localAddr e.msgLen e.destWord e.remote e.obj site none)

/-- COLL (R397). Its ACCESS for an unbound context names no remote address: DETAIL0 is then a free value. -/
def checkColl (e : Env) (s : State) : Option Trap :=
  let a := e.localAddr
  firstTrap [trapIf e.objIllegal e.illegal, trapIf (a % 64 != 0) (e.trap tMISALIGNED a 64 0), e.objAccess,
    trapIf (!mayScratch e.ctx e.c e.g.cluster false a 128) (e.trap tACCESS a 1 0), e.unbound (Config.free64 s.free).toNat]

def runColl (e : Env) (s : State) : Res := e.sendQ s (.coll e.ctx e.localAddr e.i.mod e.obj (clusterSite e.g.cluster))

end Sys2Proof.Machine
end

