-- ==== Sys2Proof/Machine/SyncInsn.lean ====
section
/-! DEFINITION. SIG and WAIT instructions (R323 to R337), FLAGRD and FLAGCLR (R137, R182). -/

namespace Sys2Proof.Machine

open Sys2Proof

/-- The object reference in SRC0 and the 32-bit operand of SRC1. -/
def Env.ref (e : Env) : Word64 := uVal e.gr e.i.s0
def Env.operand (e : Env) : Word32 := (src1 e.gr e.i e.lead).setWidth 32

/-- A remote reference of a context bound to no FPN (R395), then a local VID out of range: `kind` is DETAIL1. -/
def checkRef (u : RefUse) (kind : Nat) (e : Env) (_ : State) : Option Trap :=
  firstTrap [trapIf (refIllegal e.ref u) e.illegal,
    trapIf (refRemote e.ref && e.c.job.isNone) (e.trap tACCESS (refVid e.ref) 2 0),
    trapIf (refOut e.c e.ref) (e.trap tACCESS (refVid e.ref) kind 0)]

/-- A signal leaves: to its home store, or into the fabric send queue when remote (R328, R330). -/
def signalRes (set : Bool) (e : Env) (s : State) : Res :=
  if refRemote e.ref then
    let k := s.cluster e.g.cluster
    if sendRoom ≤ k.fq.length then .notReady
    else .done (s.setCluster e.g.cluster { k with fq := k.fq ++ [.signal e.ctx (refFabric e.ref) (refVid e.ref) set e.operand e.site] })
  else
    let x : Signal := { ctx := e.ctx, vid := refVid e.ref, set := set, value := e.operand, src := BitVec.ofNat 32 s.lantern.fabricId, site := e.site,
                        op := if set then 2 else 1, mark := none, host := none }
    .done (s.setSync { s.sync with inflight := s.sync.inflight ++ [x] })

def runSigAdd : Env → State → Res := signalRes false
def runSigSet : Env → State → Res := signalRes true

/-- The value a queued wait's range test sees at issue (R327). -/
def valueNow (s : State) (ctx vid : Nat) : Word32 := (((physOf s ctx vid).bind s.obj?).map (·.value)).getD 0

/-- A wait (R336, R337): QUEUE 0 stalls the group until its object releases it; QUEUE 1 to 3 is range-tested now and takes an entry of its queue. -/
def waitRes (take : Bool) (e : Env) (s : State) : Res :=
  let vid := refVid e.ref
  let q := refQueue e.ref
  let k := s.cluster e.g.cluster
  let v := valueNow s e.ctx vid
  if q = 0 then
    let w : WaitMsg := { ctx := e.ctx, vid := vid, take := take, operand := e.operand, queue := 0, group := some e.g, pc := BitVec.ofNat 64 e.pc,
                         cluster := e.g.cluster, site := e.site }
    let s1 := s.setSync { s.sync with arriving := s.sync.arriving ++ [w] }
    .parked (e.update s1 (fun gr => { gr with stalled := true }))
  else if (q = 1 ∧ streamRoom ≤ k.sq.length) ∨ (q = 2 ∧ dmaRoom ≤ k.dq.length) ∨ (q = 3 ∧ sendRoom ≤ k.fq.length) then .notReady
  else if rangeBad take e.operand v then
    .trap (e.trap tSYNC_RANGE vid (v.toNat * 2 ^ 32 + e.operand.toNat) 0)
  else
    let site := clusterSite e.g.cluster
    let k1 := match q with
      | 1 => { k with sq := k.sq ++ [.wait e.ctx vid take e.operand site] }
      | 2 => { k with dq := k.dq ++ [.wait e.ctx vid take e.operand site] }
      | _ => { k with fq := k.fq ++ [.wait e.ctx vid take e.operand site] }
    .done (s.setCluster e.g.cluster k1)

def runWaitGe : Env → State → Res := waitRes false
def runWaitTake : Env → State → Res := waitRes true

/-- A queued wait that has reached the head of its queue goes to its object (R337). -/
def queuedWaitHead (s : State) (c : Nat) (q : WaitQueue) : State :=
  let k := s.cluster c
  let go (key queue : Nat) (w : Option (Nat × Nat × Bool × Word32 × BitVec 32)) : State :=
    match w with
    | none => s
    | some (ctx, vid, take, x, site) =>
      if Sparse.get false k.atWait key then s
      else
        let m : WaitMsg := { ctx := ctx, vid := vid, take := take, operand := x, queue := queue, group := none, pc := 0, cluster := c, site := site }
        (s.setCluster c { k with atWait := Sparse.set k.atWait key true }).setSync { s.sync with arriving := s.sync.arriving ++ [m] }
  match q with
  | .stream => go 0 1 (match k.sq with
    | .wait ctx vid take x site :: _ => some (ctx, vid, take, x, site)
    | _ => none)
  | .dma => go 1 2 (match k.dq with
    | .wait ctx vid take x site :: _ => some (ctx, vid, take, x, site)
    | _ => none)
  | .send => go 2 3 (match k.fq with
    | .wait ctx vid take x site :: _ => some (ctx, vid, take, x, site)
    | _ => none)

/-! ## Flag words (R137) -/

/-- The flags of an engine of the issuing unit's cluster. -/
def engineFlags (s : State) (g : GroupId) (m : Nat) : Flags :=
  match m with
  | 0 => (s.unitSt (unitKey g)).flags
  | 1 => (s.cluster g.cluster).matFlags
  | _ => (s.cluster g.cluster).seFlags

/-- Flags cleared where the mask has ones. -/
def clearFlags (s : State) (g : GroupId) (m : Nat) (mask : Flags) : State :=
  let k := s.cluster g.cluster
  match m with
  | 0 => let u := s.unitSt (unitKey g); s.setUnit (unitKey g) { u with flags := u.flags &&& ~~~mask }
  | 1 => s.setCluster g.cluster { k with matFlags := k.matFlags &&& ~~~mask }
  | _ => s.setCluster g.cluster { k with seFlags := k.seFlags &&& ~~~mask }

/-- A value on its way to the u register of DST (R85). -/
def Env.postU (e : Env) (s : State) (v : Word64) (poison : Option (Nat × Nat)) : State :=
  let x : Pend := { dest := e.i.dst, mask := e.act, vals := [v], poison := if poison.isSome then 1 else 0,
                    paddr := (poison.getD (0, 0)).1, pspace := (poison.getD (0, 0)).2, ready := true, msg := none }
  e.update s (fun gr => { gr with pend := gr.pend ++ [x] })

def runFlagrd (e : Env) (s : State) : Res := .done (e.postU s ((engineFlags s e.g (e.i.mod % 4)).setWidth 64) none)

def runFlagclr (e : Env) (s : State) : Res :=
  .done (clearFlags s e.g (e.i.mod % 4) ((src0 e.gr e.i true e.lead).setWidth 4))

end Sys2Proof.Machine
end

