-- ==== Sys2Proof/Machine/Scale.lean ====
section
/-! DEFINITION. Scale tables (R255 to R262), scale references (R263 to R266), the silent-zero census (R269 to R272), and SCRD and SCWR. -/

namespace Sys2Proof.Machine

open Sys2Proof

/-- `bs` with the bytes `xs` at offset `o`. -/
def spliceAt (bs : List Byte) (o : Nat) (xs : List Byte) : List Byte := bs.take o ++ xs ++ bs.drop (o + xs.length)

def sfmtOf (t : Nat) : Option SFmt :=
  match tyOf t with
  | some (.sc f) => some f
  | _ => none

/-! ## Entries (Tables 8.1 and 8.2) -/

/-- An entry's 64 bytes read as fields. -/
structure SEntry where
  hist  : List (BitVec 16)
  last  : Nat
  code  : Int
  exp   : Int
  floorB : Nat
  state : Nat
  recLeft : Nat
  flags : BitVec 8
  tag   : Nat
  tile  : Nat
  raw   : List Byte
  deriving DecidableEq, Repr

def SEntry.ofBytes (bs : List Byte) : SEntry :=
  { hist := (List.range 16).map (fun i => BitVec.ofNat 16 (field bs (2 * i) 2)), last := field bs 32 8, code := signed 8 (field bs 40 1),
    exp := signed 8 (field bs 41 1), floorB := field bs 42 1, state := field bs 43 1 % 4, recLeft := field bs 44 1, flags := BitVec.ofNat 8 (field bs 45 1),
    tag := field bs 46 2 % 4096, tile := field bs 48 4, raw := bs }

def sbyte (x : Int) : Byte := BitVec.ofInt 8 x

/-- The entry's bytes; ignored and reserved bits keep what they held. -/
def SEntry.bytes (e : SEntry) : List Byte :=
  e.hist.flatMap (fun h => leBytes 2 h.toNat) ++ leBytes 8 e.last ++ [sbyte e.code, sbyte e.exp, BitVec.ofNat 8 e.floorB,
    BitVec.ofNat 8 (field e.raw 43 1 / 4 * 4 + e.state), BitVec.ofNat 8 e.recLeft, e.flags] ++
    leBytes 2 (field e.raw 46 2 / 4096 * 4096 + e.tag) ++ leBytes 4 e.tile ++ e.raw.drop 52

def SEntry.floor (e : SEntry) : Int := (Nat.min e.floorB 254 : Int) - 127

def readEntry (s : State) (a : Nat) : SEntry := SEntry.ofBytes (loadMem s a 64)

def writeEntry (s : State) (a : Nat) (e : SEntry) : State := s.setMem (Memory.store s.mem.bytes a e.bytes)

def flagBit (b : Bool) (n : Nat) : BitVec 8 := if b then BitVec.ofNat 8 (2 ^ n) else 0

/-! ## The exponent (R258) -/

/-- Whether `a` lies within the format's largest magnitude under exponent `s`. -/
def SFmt.fits (f : SFmt) (a : FVal) (s : Int) : Bool := !fvLess ((f.decode f.top).scale s) a

/-- need(a): the smallest exponent from the floor to 127 that fits; none for a = +∞. -/
def SFmt.need? (f : SFmt) (floor : Int) (a : FVal) : Option Int :=
  ((List.range 255).map (fun (k : Nat) => (k : Int) - 127)).find? (fun s => decide (floor ≤ s) && f.fits a s)

/-- need of a value; a history slot may hold +∞, whose need the spec does not state: a free exponent from the floor to 127. -/
def needOf (s : State) (f : SFmt) (floor : Int) (a : FVal) : Int :=
  (f.need? floor a).getD (floor + ((Config.freeNat s.free % (128 - floor).toNat : Nat) : Int))

/-- An FP32 magnitude rounded towards +∞ to BF16. -/
def bf16Up (a : Word32) : BitVec 16 := BitVec.ofNat 16 (bf16.round .rup (f32 a)).code

/-- A BF16 value. -/
def bf16Val (h : BitVec 16) : FVal := bf16.decode h.toNat

/-! ## A conversion against its entry (R259, R260) -/

/-- The roll of Table 8.3, with the counters it advances. -/
def rollEntry (s : State) (f : SFmt) (e : SEntry) (epoch : Nat) : State × SEntry :=
  let fovf := e.flags.getLsbD 1
  let drop := e.flags.getLsbD 4 && !e.flags.getLsbD 3 && !fovf
  let shifted := { e with hist := 0 :: e.hist.take 15, flags := 0, last := epoch }
  match e.state with
  | 1 =>
    if fovf then (s.bump 0x08000001 1, { shifted with exp := min (e.exp + 1) 127 })
    else if drop then (s.bump 0x08000002 1, { shifted with exp := max (e.exp - 1) e.floor })
    else (s, shifted)
  | 2 =>
    let x := if drop then { shifted with exp := needOf s f e.floor (bf16Val (e.hist.headD 0)) } else shifted
    let s1 := if drop then s.tick else s
    if 2 ≤ e.recLeft then (s1, { x with recLeft := e.recLeft - 1 }) else (s1, { x with recLeft := 0, state := 1 })
  | 3 => (s, shifted)
  | _ => (s, e)

def TileOut.finiteOvf (o : TileOut) (f : SFmt) (s : Int) : Bool := o.sat && !f.fits (f32 o.amax) s

/-- STEP_FLAGS that one conversion under exponent `s` sets (Table 8.2). -/
def stepFlags (f : SFmt) (s : Int) (o : TileOut) : BitVec 8 :=
  let fo := o.finiteOvf f s
  flagBit true 0 ||| flagBit fo 1 ||| flagBit (o.sat && !fo) 2 ||| flagBit (o.codes.any (fun c => !f.zeroCode c) && !o.nan) 3 ||| flagBit o.allZero 4 |||
    flagBit o.nan 5

/-- What a conversion against an entry gave: the codes to write, the entry's tag, whether a retry took place, whether the entry was poisoned. -/
structure Scaled where
  out    : TileOut
  tag    : Nat
  retry  : Bool
  poison : Bool
  deriving DecidableEq, Repr

/-- A tile converted by an engine of cluster `c`, draws taken in element order (R168). -/
def tileAt (s : State) (c : Nat) (f : SFmt) (sr : Bool) (mode : Rmode) (exp : Int) (xs : List Word32) : State × TileOut :=
  let o := convertTile f sr mode (fun n => (Config.draw16 c (s.free + n)).toNat) exp xs
  (if sr then { s with free := s.free + xs.length } else s, o)

/-- R259: one indivisible read and update of the entry at `a` (R256), including a retry. -/
def convertEntry (s : State) (c : Nat) (recSteps : Nat) (a epoch : Nat) (f : SFmt) (sr : Bool) (mode : Rmode) (xs : List Word32) : State × Scaled :=
  let s := touch s a 64
  let e0 := readEntry s a
  if poisonedAt s a then
    -- the entry is not updated; the rows are written poisoned, so their values are free
    let (s1, o) := tileAt s.tick c f sr mode ((Config.freeNat s.free % 255 : Nat) - (127 : Int)) xs
    (s1, { out := o, tag := e0.tag, retry := false, poison := true })
  else
    let (s1, e1) := if epoch != e0.last && e0.state != 0 then rollEntry s f e0 epoch else (s, e0)
    let am := amaxOf xs
    if e1.state = 0 ∧ (f32 am).isZero then
      let (s2, o) := tileAt s1 c f sr mode 0 xs
      (writeEntry s2 a { e1 with code := if o.nan then -128 else 0 }, { out := o, tag := e0.tag, retry := false, poison := false })
    else
      let enter := e1.state == 0
      let e2 := if enter then { e1 with exp := needOf s f e1.floor (f32 am), state := 2, recLeft := recSteps, last := epoch, hist := List.replicate 16 0, flags := 0 }
        else e1
      let s2 := if enter then s1.bump 0x08000003 1 else s1
      let (s3, o1) := tileAt s2 c f sr mode e2.exp xs
      let again := o1.finiteOvf f e2.exp && e2.state == 2
      let x2 := if again then max e2.exp (needOf s3 f e2.floor (f32 o1.amax)) else e2.exp
      let (s4, o2) := if again then tileAt s3 c f sr mode x2 xs else (s3, o1)
      let fl := e2.flags ||| stepFlags f e2.exp o1 ||| stepFlags f x2 o2 ||| flagBit again 6
      let h := bf16Up o2.amax
      let h0 := e2.hist.headD 0
      let e3 := { e2 with exp := x2, flags := fl, hist := (if fvLess (bf16Val h0) (bf16Val h) then h else h0) :: e2.hist.drop 1,
                          code := if o2.nan then -128 else o2.scale }
      let s5 := if again then s4.bump 0x08000004 1 else s4
      (writeEntry s5 a e3, { out := { o2 with flags := o1.flags ||| o2.flags }, tag := e0.tag, retry := again, poison := false })

/-! ## The census (R269 to R272) -/

/-- Table 8.8, with the old step closed when the epoch changes (R271). -/
def closeCensus (s : State) (c : Nat) (n : Nat) (cx : Ctx) (tag epoch : Nat) (r : List Byte) : State × List Byte :=
  if field r 0 8 = epoch then (s, r)
  else
    let fl := field r 22 1
    let enable := fl % 2 == 1
    let alerted := fl / 2 % 2 == 1
    let nz := field r 12 4
    let fz := field r 8 4
    let run := field r 16 2
    let limit := Nat.max 1 (field r 18 2)
    let thresh := Nat.max 1 (field r 20 2)
    let below := enable && decide (0 < nz + fz) && decide (65536 * nz < thresh * (nz + fz))
    let run1 := if below then Nat.min (run + 1) 65535 else if !enable || 0 < nz + fz then 0 else run
    let notify := below && run1 == limit && !alerted
    let alerted1 := if below then alerted || notify else if !enable || 0 < nz + fz then false else alerted
    let s1 := if notify then
        (postEvent s (ownerFn cx) 0x0880 tag (rec8 [n, (clusterSite c).toNat, tag, field r 0 8, fz, nz, run1])).bump 0x08000006 1
      else s
    (s1, leBytes 8 epoch ++ zeros 8 ++ leBytes 2 run1 ++ (r.drop 18).take 4 ++ [BitVec.ofNat 8 (b2n enable 1 + b2n alerted1 2)] ++ r.drop 23)

/-- One tile conversion counted (R270). -/
def census (s : State) (c n : Nat) (tag epoch : Nat) (f : SFmt) (o : TileOut) : State :=
  match s.ctx? n with
  | none => s
  | some cx =>
    match Sparse.find? cx.census c with
    | none => (s.setCtx n { cx with unreg := cx.unreg + 1 }).bump 0x08000005 1
    | some base =>
      let a := base + 32 * tag
      let (s1, r) := closeCensus s c n cx tag epoch (loadMem s a 32)
      let flushed := field r 8 4 + b2n o.allZero 1
      let nonzero := field r 12 4 + b2n (!o.nan && o.codes.any (fun k => !f.zeroCode k)) 1
      s1.setMem (Memory.store s1.mem.bytes a (r.take 8 ++ leBytes 4 flushed ++ leBytes 4 nonzero ++ r.drop 16))

/-! ## Scale references (R263 to R265, Table 8.5) -/

def refTable (w : Word64) : Bool := w.getLsbD 63
def refAddr (w : Word64) : Nat := bitsOf w 0 48
def refExp (w : Word64) : Int := signed 8 (bitsOf w 0 8)
def refTag (w : Word64) : Nat := bitsOf w 16 12

/-- Reserved bits of a captured reference. -/
def refReserved (w : Word64) : Bool := if refTable w then bitsOf w 48 15 != 0 else bitsOf w 8 8 != 0 || bitsOf w 28 35 != 0

/-- A reference at placement: TABLE 0, EXP 0, TAG 0xFFF. -/
def refFresh : Word64 := BitVec.ofNat 64 (0xFFF * 2 ^ 16)

/-- Where a block keeps reference `which`. -/
def Block.ref (b : Block) (which : Nat) : Word64 :=
  match which with
  | 0 => b.stat
  | 1 => b.strm
  | _ => b.drain

def Block.setRef (b : Block) (which : Nat) (w : Word64) : Block :=
  match which with
  | 0 => { b with stat := w }
  | 1 => { b with strm := w }
  | _ => { b with drain := w }

/-- The writes of a reference that come after group `me`'s own last write of it. -/
def afterOwn (me : Nat) : List (Nat × Nat × Word64) → List (Nat × Nat × Word64) → List (Nat × Nat × Word64)
  | [], acc => acc
  | x :: r, acc => afterOwn me r (if x.2.1 = me then [] else acc ++ [x])

/-- The value group `me` captures: a write of another group that no barrier has ordered yet may or may not be seen (R263). -/
def Block.capture (b : Block) (which me draw : Nat) : Word64 :=
  let olds := afterOwn me (b.stale.filter (fun x => x.1 == which)) []
  ((olds.map (fun x => x.2.2)) ++ [b.ref which])[draw % (olds.length + 1)]?.getD (b.ref which)

/-- Issue checks of a captured reference: reserved bits, alignment, and `n` entries from entry `first` in the cluster's own scratchpad (R264). -/
def refIll (w : Word64) : Bool := refReserved w
def Env.refMis (e : Env) (w : Word64) : Option Trap := trapIf (refTable w && refAddr w % 64 != 0) (e.trap tMISALIGNED (refAddr w) 64 0)
def Env.refAcc (e : Env) (w : Word64) (first n : Nat) (write : Bool) : Option Trap :=
  let a := refAddr w + 64 * first
  trapIf (refTable w && !mayScratch e.ctx e.c e.g.cluster write a (64 * n)) (e.trap tACCESS a (if write then 2 else 1) 0)

/-- The exponent consumers decode with: a fixed one, or CODE of entry `i` (R265). -/
def refCode (s : State) (w : Word64) (i : Nat) : Int := if refTable w then (readEntry s (refAddr w + 64 * i)).code else refExp w

/-- Whether entry `i` of a TABLE reference is poisoned. -/
def refPoison (s : State) (w : Word64) (i : Nat) : Bool := refTable w && poisonedAt s (refAddr w + 64 * i)

/-- The tag of a reference: index 0's entry in TABLE mode (R270, R275). -/
def refTagOf (s : State) (w : Word64) : Nat := if refTable w then (readEntry s (refAddr w)).tag else refTag w

/-! ## SCRD and SCWR (R267, R268) -/

def scField (e : Env) : Nat := e.i.mod % 16
def Env.entryAddr (e : Env) : Nat := (uVal e.gr e.i.s0).toNat

/-- Alignment and rights of an entry field; block references need none. -/
def checkSc (write : Bool) (e : Env) (_ : State) : Option Trap :=
  if 9 ≤ scField e then none
  else firstTrap [trapIf (e.entryAddr % 64 != 0) (e.trap tMISALIGNED e.entryAddr 64 0),
    trapIf (!mayScratch e.ctx e.c e.g.cluster write e.entryAddr 64) (e.trap tACCESS e.entryAddr (if write then 2 else 1) 0)]

def checkScrd : Env → State → Option Trap := checkSc false
def checkScwr : Env → State → Option Trap := checkSc true

/-- The value SCRD returns (Table 8.7). -/
def scValue (e : Env) (x : SEntry) (b : Block) : Word64 :=
  match scField e with
  | 0 => BitVec.ofInt 64 x.exp
  | 1 => BitVec.ofInt 64 x.code
  | 2 => BitVec.ofInt 64 x.floor
  | 3 => BitVec.ofNat 64 x.state
  | 4 => BitVec.ofNat 64 x.recLeft
  | 5 => x.flags.setWidth 64
  | 6 => BitVec.ofNat 64 x.tag
  | 7 => BitVec.ofNat 64 x.last
  | 8 => BitVec.ofNat 64 ((x.hist.getD (e.i.mod / 16) 0).toNat * 65536)
  | k => b.ref (k - 9)

def runScrd (e : Env) (s : State) : Res :=
  if 9 ≤ scField e then .done (e.postU s (scValue e (SEntry.ofBytes []) e.blk) none)
  else
    let s1 := touch s e.entryAddr 64
    .done (e.postU s1 (scValue e (readEntry s1 e.entryAddr) e.blk) (if poisonedAt s1 e.entryAddr then some (e.entryAddr, 2) else none))

/-- SCWR of an entry field: the new entry, or none where SCALE_RANGE is raised. -/
def scWrite (e : Env) (x : SEntry) (v : Word64) : Option SEntry :=
  let z := v.toInt
  match scField e with
  | 0 => if z < x.floor ∨ 127 < z then none else some { x with exp := z }
  | 2 => if z < -127 ∨ 127 < z then none else some { x with floorB := (z + 127).toNat, exp := max x.exp z }
  | 3 => some { x with state := bitsOf v 0 2, recLeft := if bitsOf v 0 2 = 2 then e.c.recSteps else x.recLeft }
  | 4 => some { x with recLeft := bitsOf v 0 8 }
  | 6 => some { x with tag := bitsOf v 0 12 }
  | _ => some x

def runScwr (e : Env) (s : State) : Res :=
  let v := src1 e.gr e.i e.lead
  if 9 ≤ scField e then
    let w := scField e - 9
    match blockOf s e.g.cluster e.gr.block with
    | none => .done s
    | some b =>
      let b1 := { b.setRef w v with stale := b.stale ++ [(w, e.gr.idx, b.ref w)] }
      .done (setBlock s e.g.cluster e.gr.block b1)
  else
    let s1 := touch s e.entryAddr 64
    if poisonedAt s1 e.entryAddr then .trap (e.trap tPOISON e.entryAddr 2 0)
    else
      let x := readEntry s1 e.entryAddr
      match scWrite e x v with
      | none => .trap (e.trap tSCALE_RANGE x.tile v.toNat 0)
      | some y => .done (writeEntry s1 e.entryAddr y)

end Sys2Proof.Machine
end

