-- ==== Sys2Proof/Machine/Matrix.lean ====
section
/-! DEFINITION. The matrix array (chapter 6): stationary banks, passes, fill batches, adapters, drains, and shadow samples (R273 to R276). A command that
dequeues runs to its end in that step; a drain waits until its row of the table. -/

namespace Sys2Proof.Machine

open Sys2Proof

/-! ## Geometry (Tables 6.1 and 6.5) -/

/-- Bits of an operand type. -/
def tyBits (t : Nat) : Nat := ((tyOf t).map Ty.bits).getD 32

def depthOf (shape : Nat) : Nat := match shape with | 0 => 32 | 1 => 16 | _ => 64

/-- Stationary columns, which are the result columns; 32 for the 32-bit operands of the multi-pass modes. -/
def statCols (shape t : Nat) : Nat := if tyBits t = 32 then 32 else (if shape = 1 then 16 else 32) * (16 / tyBits t)
def statRow (shape t : Nat) : Nat := statCols shape t * tyBits t / 8
def streamRow (shape t : Nat) : Nat := depthOf shape * tyBits t / 8

/-- Wt of R195. -/
def tileCols (shape t : Nat) : Nat := Nat.max 1 (statCols shape t / 32)

/-- Types whose passes accumulate in INT32 (R189). -/
def intType (t : Nat) : Bool := t == 0 || t == 7 || t == 8

/-- Operand types that may meet in one pass (R189). -/
def typesPair (a b : Nat) : Bool :=
  ((a == 5 || a == 6) && (b == 5 || b == 6)) || ((a == 9 || a == 10) && (b == 9 || b == 10)) || (a == b && (a == 7 || a == 8 || a == 11))

/-- Limbs of an integer KIND (Table 6.20). -/
def limbsOf (kind : Nat) : Nat := match kind with | 5 => 2 | 6 => 3 | _ => 4

def subPasses (kind : Nat) : Nat := match kind with | 2 => 3 | 3 | 4 | 5 => 4 | 6 => 9 | 7 => 16 | _ => 1

/-- Tiles a MMUL writes, from its first. -/
def mmulTiles (shape t kind rows : Nat) (pair : Bool) : Nat :=
  let n := match kind with
    | 4 => 2
    | 5 => 3
    | 6 => 5
    | 7 => 7
    | 1 => (rows + 31) / 32
    | _ => (rows + 31) / 32 * tileCols shape t
  if pair then 2 * n else n

/-! ## Operands -/

/-- Element codes of a row of bytes. -/
def elems (bits n : Nat) (bs : List Byte) : List Nat :=
  (List.range n).map (fun i => if bits = 4 then (byteAt bs (i / 2)).toNat / 16 ^ (i % 2) % 16 else field bs (i * bits / 8) (bits / 8))

/-- The exact value of an operand element under its exponent; NaN in an invalid tile (R160, R171). -/
def opVal (t code : Nat) (x : Int) : FVal :=
  match tyOf t with
  | some (.fp f) => f.decode code
  | some (.sc f) => if x = -128 then .nan false else (f.decode code).scale x
  | _ => ofInt (signed 32 code)

/-- The integer of an INT8, INT4 or I32 element. -/
def opInt (t code : Nat) : Int := signed (tyBits t) code

def usesExp (t : Nat) : Bool := scaledType t

/-- A row of `n` bytes read from scratchpad: its bytes and whether a granule was poisoned. -/
def readRow (s : State) (a n : Nat) : State × List Byte × Bool :=
  let s1 := touch s a n
  (s1, loadMem s1 a n, (firstPoison s1 a n).isSome)

def rowAddr (a stride r : Nat) : Nat := (a + r * stride) % 2 ^ 64

/-! ## Stationary banks (R191 to R193) -/

/-- Indices of the scale entries of a stationary operand (Table 8.6). -/
def statBlocks (shape t : Nat) : Nat := if shape = 1 then 1 else depthOf shape / 32 * tileCols shape t

/-- The stationary tile read from scratchpad. -/
def loadBank (s : State) (c ctx : Nat) (h : Handle) : State × Bank :=
  let sh := (s.cluster c).shape
  let n := depthOf sh * (if h.cplx then 2 else 1)
  let (s1, rows, p) := (List.range n).foldl (fun (x : State × List (List Byte) × Bool) r =>
    let (t, bs, q) := readRow x.1 (rowAddr h.addr h.stride r) (statRow sh h.type)
    (t, x.2.1 ++ [bs], x.2.2 || q)) (s, [], false)
  let idx := List.range (statBlocks sh h.type)
  (s1.bump 0x0A000602 1,
   { ctx := ctx, h := h, rows := rows, codes := if usesExp h.type then idx.map (refCode s1 h.stat) else [],
     poison := p || (usesExp h.type && idx.any (refPoison s1 h.stat)) })

def posOfHandle (shape : Nat) (h : Handle) : Nat := if shape = 1 then h.quad else 0

def bankIs (ctx : Nat) (h : Handle) (b : Bank) : Bool := b.ctx == ctx && b.h.gen == h.gen

/-- A load by MLOAD: into the shadow bank, or in SPAN, which has none, into the array (R200, R202). -/
def loadShadow (s : State) (c ctx : Nat) (h : Handle) : State :=
  let (s1, b) := loadBank s c ctx h
  let k := s1.cluster c
  let p := posOfHandle k.shape h
  s1.setCluster c (if k.shape = 2 then { k with active := Sparse.set k.active p b } else { k with shadow := Sparse.set k.shadow p b })

/-- The operand of a pass: resident in the active or the shadow bank, else loaded by the array (R193). -/
def passBank (s : State) (c ctx : Nat) (h : Handle) : State × Bank :=
  let k := s.cluster c
  let p := posOfHandle k.shape h
  match (Sparse.find? k.active p).filter (bankIs ctx h) with
  | some b => (s, b)
  | none =>
    let (s1, b) := match (Sparse.find? k.shadow p).filter (bankIs ctx h) with
      | some b => (s, b)
      | none => loadBank s c ctx h
    let k1 := s1.cluster c
    (s1.setCluster c { k1 with active := Sparse.set k1.active p b, shadow := Sparse.del k1.shadow p }, b)

/-- A position left with no resident handle (R209, R211). -/
def dropBank (s : State) (c p : Nat) : State :=
  let k := s.cluster c
  s.setCluster c { k with active := Sparse.del k.active p, shadow := Sparse.del k.shadow p }

/-- An entry's last use by a pass, for the eviction of R192. -/
def noteUse (s : State) (c ctx gen : Nat) : State :=
  match s.ctx? ctx with
  | none => s
  | some cx =>
    let k := s.cluster c
    let hs := (Sparse.get [] cx.handles c).map (fun h => if h.gen = gen then { h with used := k.handleN + 1 } else h)
    (s.setCtx ctx { cx with handles := Sparse.put [] cx.handles c hs }).setCluster c { k with handleN := k.handleN + 1 }

/-- Exponent code of stationary element (k, col). -/
def Bank.code (b : Bank) (shape k col : Nat) : Int :=
  b.codes.getD (if shape = 1 then 0 else k / 32 * tileCols shape b.h.type + col / 32) 0

/-- Element codes of the stationary operand, by row; `im` selects the imaginary part. -/
def Bank.elemRows (b : Bank) (shape : Nat) (im : Bool) : List (List Nat) :=
  ((b.rows.drop (if im then depthOf shape else 0)).take (depthOf shape)).map (elems (tyBits b.h.type) (statCols shape b.h.type))

/-- Column `col` as exact values. -/
def Bank.colVals (b : Bank) (shape : Nat) (rows : List (List Nat)) (col : Nat) : List FVal :=
  rows.zipIdx.map (fun r => opVal b.h.type (r.1.getD col 0) (b.code shape r.2 col))

def Bank.colInts (b : Bank) (rows : List (List Nat)) (col : Nat) : List Int := rows.map (fun r => opInt b.h.type (r.getD col 0))

/-! ## Sums (R171, R172, R198, R210) -/

def sumFp (start : Word32) (ps : List (FVal × FVal)) : R32 :=
  ps.foldl (fun acc p => let r := ((exFma false p.1 p.2 (f32 acc.w)).round fp32 .rne).r32; ⟨r.w, acc.flags ||| r.flags⟩) ⟨start, 0⟩

/-- Flags a pair operation keeps of one FP32 step (R177). -/
def pairFlags (f : Flags) : Flags := (f &&& fINV) ||| (if (f &&& fOVF) != 0 then fOVF ||| fINX else 0)

def sumPair (start : Pair) (ps : List (FVal × FVal)) : Pair × Flags :=
  ps.foldl (fun acc p =>
    let x := ((exMul p.1 p.2).round fp32 .rne).r32
    let (r, f) := pairAdd acc.1 ⟨x.w, 0⟩
    (r, acc.2 ||| f ||| pairFlags x.flags)) (start, 0)

/-- An INT32 sum that saturates at each addition. -/
def addSat (acc : Int × Flags) (x : Int) : Int × Flags :=
  let y := acc.1 + x
  if y < -(2 ^ 31 : Nat) then (-(2 ^ 31 : Nat), acc.2 ||| fOVF ||| fINX)
  else if (2 ^ 31 : Nat) - 1 < y then ((2 ^ 31 : Nat) - 1, acc.2 ||| fOVF ||| fINX)
  else (y, acc.2)

def sumInt (start : Word32) (ps : List (Int × Int)) : R32 :=
  let r := ps.foldl (fun acc p => addSat acc (p.1 * p.2)) (start.toInt, 0)
  ⟨BitVec.ofInt 32 r.1, r.2⟩

/-! ## The accumulator file (R217, R218) -/

def accKey (tile row col : Nat) : Nat := 1024 * tile + 32 * row + col

def Cluster.accGet (k : Cluster) (tile row col : Nat) : Word32 := Sparse.get 0 k.acc (accKey tile row col)
def Cluster.tile (k : Cluster) (t : Nat) : TileMeta := Sparse.get TileMeta.fresh k.tmeta t
def Cluster.setTile (k : Cluster) (t : Nat) (m : TileMeta) : Cluster := { k with tmeta := Sparse.put TileMeta.fresh k.tmeta t m }

/-- One result row of one tile, as a pass writes it. -/
structure TRow where
  tile   : Nat
  row    : Nat
  acc    : Bool
  tag    : BitVec 12
  poison : Bool
  int    : Bool
  /-- Combined exponents of the row's products (R266). -/
  exps   : List Int
  /-- An operand tile was invalid. -/
  inv    : Bool
  cells  : List (Nat × Word32)
  x      : List FVal
  prior  : List Word32
  deriving DecidableEq, Repr

def putCells (m : Sparse Word32) (r : TRow) : Sparse Word32 := r.cells.foldl (fun a e => Sparse.put 0 a (accKey r.tile r.row e.1) e.2) m

def setBit (m : BitVec 32) (n : Nat) (b : Bool) : BitVec 32 := if b then m ||| BitVec.ofNat 32 (2 ^ n) else m &&& ~~~BitVec.ofNat 32 (2 ^ n)

/-- Metadata after one row of a pass (Table 6.22), and whether INV is raised. -/
def metaRow (x : TileMeta × Bool) (r : TRow) : TileMeta × Bool :=
  let m := x.1
  let e := r.exps.headD 0
  let tags := Sparse.put 0xFFF m.tags r.row r.tag
  if r.acc then
    let clash := m.int != r.int || (r.int && m.exp != e)
    ({ m with invalid := m.invalid || clash || r.inv, tags := tags, poison := setBit m.poison r.row (m.poison.getLsbD r.row || r.poison) },
     x.2 || clash || r.inv || m.invalid)
  else
    ({ m with int := r.int, exp := if r.int then e else m.exp, invalid := m.invalid || r.inv, tags := tags, poison := setBit m.poison r.row r.poison },
     x.2 || r.inv)

/-- Metadata after a pass or batch that wrote the rows `rs` of one tile. -/
def metaAfter (m : TileMeta) (rs : List TRow) : TileMeta × Bool :=
  let full := (List.range 32).all (fun i => rs.any (fun r => r.row == i && !r.acc))
  let mixed := decide (1 < (rs.flatMap (fun r => if r.int then r.exps else [])).dedup.length)
  let (m1, inv) := rs.foldl metaRow (if full then { m with invalid := false } else m, false)
  ({ m1 with invalid := m1.invalid || mixed }, inv || mixed)

/-- Rows written into a cluster's file, with the array's flags. -/
def writeRows (k : Cluster) (rs : List TRow) (fl : Flags) : Cluster :=
  let k1 := { k with acc := rs.foldl putCells k.acc }
  let (k2, inv) := ((rs.map (·.tile)).dedup).foldl (fun (x : Cluster × Bool) t =>
    let (m, i) := metaAfter (x.1.tile t) (rs.filter (fun r => r.tile == t))
    (x.1.setTile t m, x.2 || i)) (k1, false)
  { k2 with matFlags := k2.matFlags ||| fl ||| (if inv then fINV else 0) }

/-! ## Shadow samples (R273, R274) -/

/-- A tile of a sampled pass was written: the gap counter decreases, and at zero the tile is captured or the sample is dropped. -/
def sampleTile (s : State) (c ctx : Nat) (stat : Word64) (cols : Nat → List (List FVal)) (rs : List TRow) : State :=
  match s.ctx? ctx with
  | none => s
  | some cx =>
    if cx.shadowK = 0xFF then s
    else
      let k := s.cluster c
      if 1 < k.gap then s.setCluster c { k with gap := k.gap - 1 }
      else
        let k1 := { k with gap := 1 + Config.freeNat s.free % (2 ^ (cx.shadowK + 1) - 1) }
        let s1 := s.tick
        if k.sample.isSome || rs.any (·.poison) then (s1.setCluster c k1).bump 0x08000008 1
        else
          let t := (rs.head?.map (·.tile)).getD 0
          let smp : ShadowSample := { ctx := ctx, tag := refTagOf s stat, epoch := ctxEpoch s ctx, cols := cols t,
                                      rows := rs.map (fun r => (r.x, r.prior, r.cells.map (·.2))) }
          s1.setCluster c { k1 with sample := some smp }

/-- A pass ends: its rows are written, its tiles may be sampled. `cols` gives the 32 stationary columns that fed a tile. -/
def endPass (s : State) (c ctx : Nat) (rs : List TRow) (fl : Flags) (sampled : Option (Word64 × (Nat → List (List FVal)))) : State :=
  let s1 := s.setCluster c (writeRows (s.cluster c) rs fl)
  match sampled with
  | none => s1
  | some (stat, cols) => ((rs.map (·.tile)).dedup).foldl (fun t x => sampleTile t c ctx stat cols (rs.filter (fun r => r.tile == x))) s1

/-! ## Streamed rows -/

/-- A streamed row of a pass, its destination and its operand elements. -/
structure PRow where
  tile   : Nat
  row    : Nat
  acc    : Bool
  tag    : BitVec 12
  codes  : List Nat
  /-- Exponents of its depth blocks. -/
  exps   : List Int
  poison : Bool
  deriving DecidableEq, Repr

/-- Streamed row read at `a`, entries from index `i` on for `d` depth blocks. -/
def streamedRow (s : State) (shape t a : Nat) (strm : Word64) (i d : Nat) (mk : List Nat → List Int → Bool → PRow) : State × PRow :=
  let (s1, bs, p) := readRow s a (streamRow shape t)
  let idx := (List.range d).map (fun k => i + k)
  let q := usesExp t && idx.any (refPoison s1 strm)
  (s1, mk (elems (tyBits t) (depthOf shape) bs) (if usesExp t then idx.map (refCode s1 strm) else [0]) (p || q))

/-- Elements of a streamed row as exact values. -/
def PRow.vals (p : PRow) (t : Nat) : List FVal := p.codes.zipIdx.map (fun e => opVal t e.1 (p.exps.getD (e.2 / 32) 0))

/-- The prior value of a result element: the tile's, or +0. -/
def priorOf (k : Cluster) (acc : Bool) (tile row col : Nat) : Word32 := if acc then k.accGet tile row col else 0

/-- Result rows of one streamed row of a NORMAL pass against a bank (R195, R198). `off` is HALF's column offset. -/
def normalRows (k : Cluster) (shape : Nat) (b : Bank) (rows : List (List Nat)) (t off : Nat) (pair : Bool) (p : PRow) : List TRow × Flags :=
  let n := statCols shape t
  let blocks := depthOf shape / 32
  let int := intType t
  (List.range (tileCols shape t)).foldl (fun (x : List TRow × Flags) cb =>
    let cols := (List.range (Nat.min 32 n)).map (fun c => 32 * cb + c)
    let tile := p.tile + (if pair then 2 * cb else cb)
    let sc (kb : Nat) : Int := if usesExp t then b.codes.getD (if shape = 1 then 0 else kb * tileCols shape t + cb) 0 else 0
    let kbs := List.range (Nat.max 1 blocks)
    let inv := usesExp t && kbs.any (fun kb => sc kb == -128 || p.exps.getD kb 0 == -128)
    let mk (tl : Nat) (cells : List (Nat × Word32)) (pr : List Word32) : TRow :=
      { tile := tl, row := p.row, acc := p.acc, tag := p.tag, poison := p.poison || b.poison, int := int,
        exps := if int then kbs.map (fun kb => sc kb + p.exps.getD kb 0) else [], inv := inv, cells := cells, x := p.vals t, prior := pr }
    let prior (tl : Nat) : List Word32 := cols.map (fun c => priorOf k p.acc tl p.row (c % 32 + off))
    if pair then
      let rs := cols.map (fun c =>
        let (a0, f0) := if p.acc then pairRead (k.accGet tile p.row (c % 32)) (k.accGet (tile + 1) p.row (c % 32)) else (⟨0, 0⟩, 0)
        let (r, f) := sumPair a0 ((p.vals t).zip (b.colVals shape rows c))
        (c % 32, r, f0 ||| f))
      (x.1 ++ [mk tile (rs.map (fun r => (r.1, r.2.1.hi))) (prior tile), mk (tile + 1) (rs.map (fun r => (r.1, r.2.1.lo))) (prior (tile + 1))],
       rs.foldl (fun a r => a ||| r.2.2) x.2)
    else
      let rs := cols.map (fun c =>
        let st := priorOf k p.acc tile p.row (c % 32 + off)
        let r := if int then sumInt st ((p.codes.map (opInt t)).zip (b.colInts rows c)) else sumFp st ((p.vals t).zip (b.colVals shape rows c))
        (c % 32 + off, r))
      (x.1 ++ [mk tile (rs.map (fun r => (r.1, r.2.w))) (prior tile)], rs.foldl (fun a r => a ||| r.2.flags) x.2)) ([], 0)

/-- A multi-pass FP32 product sum (Table 5.7): the streamed operand's part first, the stationary operand's second. -/
def splitTerms (kind : Nat) (xs ys : List FVal) : List (FVal × FVal) :=
  let hh := (xs.map splitHi).zip (ys.map splitHi)
  let hl := (xs.map splitHi).zip (ys.map splitLo)
  let lh := (xs.map splitLo).zip (ys.map splitHi)
  let ll := (xs.map splitLo).zip (ys.map splitLo)
  if kind = 3 then ll ++ hl ++ lh ++ hh else hl ++ lh ++ hh

/-- A result tile's row from its 32 cells. -/
def tileRow (p : PRow) (poison int : Bool) (tile : Nat) (cells : List Word32) : TRow :=
  { tile := tile, row := p.row, acc := p.acc, tag := p.tag, poison := poison, int := int, exps := if int then [0] else [], inv := false,
    cells := cells.zipIdx.map (fun e => (e.2, e.1)), x := [], prior := [] }

/-- Result rows of FP32X3 and FP32X4 (R178, R179, R210). -/
def fp32Rows (k : Cluster) (b : Bank) (rows : List (List Nat)) (kind : Nat) (pair : Bool) (p : PRow) : List TRow × Flags :=
  let rs := (List.range 32).map (fun c =>
    let ts := splitTerms kind (p.codes.map (fun x => opVal 4 x 0)) (b.colVals 0 rows c)
    if pair then
      let (a0, f0) := if p.acc then pairRead (k.accGet p.tile p.row c) (k.accGet (p.tile + 1) p.row c) else (⟨0, 0⟩, 0)
      let (r, f) := sumPair a0 ts
      (r.hi, r.lo, f0 ||| f)
    else
      let r := sumFp (priorOf k p.acc p.tile p.row c) ts
      (r.w, 0, r.flags))
  let q := p.poison || b.poison
  ((if pair then [tileRow p q false p.tile (rs.map (·.1)), tileRow p q false (p.tile + 1) (rs.map (·.2.1))] else [tileRow p q false p.tile (rs.map (·.1))]),
   rs.foldl (fun a r => a ||| r.2.2) 0)

/-- Result rows of CPLX: `im` is the row's imaginary part. -/
def cplxRows (k : Cluster) (b : Bank) (re im : List (List Nat)) (t : Nat) (p pi : PRow) : List TRow × Flags :=
  let ar := p.vals t
  let ai := pi.vals t
  let rs := (List.range 32).map (fun c =>
    let br := b.colVals 0 re c
    let bi := b.colVals 0 im c
    (sumFp (priorOf k p.acc p.tile p.row c) (ar.zip br ++ (ai.map FVal.neg).zip bi), sumFp (priorOf k p.acc (p.tile + 1) p.row c) (ar.zip bi ++ ai.zip br)))
  let q := p.poison || pi.poison || b.poison
  ([tileRow p q false p.tile (rs.map (·.1.w)), tileRow p q false (p.tile + 1) (rs.map (·.2.w))], rs.foldl (fun a r => a ||| r.1.flags ||| r.2.flags) 0)

/-- Result rows of the integer KINDs: limb pairs with i + j = s accumulate into tile s, the stationary limb j outermost (R180, R212). -/
def intRows (k : Cluster) (b : Bank) (rows : List (List Nat)) (kind : Nat) (p : PRow) : List TRow × Flags :=
  let n := limbsOf kind
  let out (s c : Nat) : R32 :=
    let ys := rows.map (fun r => w32 (r.getD c 0))
    let ps := (List.range n).flatMap (fun j => if j ≤ s ∧ s - j < n then
      (p.codes.map (fun x => limb n (s - j) (w32 x))).zip (ys.map (limb n j)) else [])
    sumInt (priorOf k p.acc (p.tile + s) p.row c) ps
  let ts := (List.range (2 * n - 1)).map (fun s => (s, (List.range 32).map (out s)))
  (ts.map (fun e => tileRow p (p.poison || b.poison) true (p.tile + e.1) (e.2.map (·.w))), ts.foldl (fun a e => e.2.foldl (fun f r => f ||| r.flags) a) 0)

/-- The result row of EWISE (R211); both operands decode under the streamed reference. -/
def ewiseRow (k : Cluster) (t : Nat) (p y : PRow) : List TRow × Flags :=
  let int := intType t
  let e := p.exps.headD 0
  let rs := (List.range 32).map (fun c =>
    let st := priorOf k p.acc p.tile p.row c
    if int then sumInt st [(opInt t (p.codes.getD c 0), opInt t (y.codes.getD c 0))] else sumFp st [(opVal t (p.codes.getD c 0) e, opVal t (y.codes.getD c 0) e)])
  let r := tileRow p (p.poison || y.poison) int p.tile (rs.map (·.w))
  ([{ r with exps := if int then [e + e] else [], inv := usesExp t && e == -128 }], rs.foldl (fun a r => a ||| r.flags) 0)

/-! ## Passes -/

/-- The rows of several streamed rows. -/
def gather {α : Type} (f : α → List TRow × Flags) (ps : List α) : List TRow × Flags :=
  ps.foldl (fun x p => let (r, fl) := f p; (x.1 ++ r, x.2 ||| fl)) ([], 0)

/-- Rows read by a fold over row numbers. -/
def readRows (s : State) (rs : List Nat) (f : State → Nat → State × PRow) : State × List PRow :=
  rs.foldl (fun (x : State × List PRow) r => let (t, p) := f x.1 r; (t, x.2 ++ [p])) (s, [])

/-- MMUL (R194, R195, R198, R210 to R212): rows of absent threads are not read or written. -/
def mmulPass (s : State) (c ctx tile addr stride : Nat) (h : Option Handle) (yAddr t : Nat) (acc : Bool) (kind rows : Nat) (pair half : Bool)
    (strm live : Word64) : State :=
  let sh := (s.cluster c).shape
  let wt := if kind = 0 then tileCols sh t else 1
  let here := (List.range rows).filter (fun r => live.getLsbD (r % 64))
  let blocks := Nat.max 1 (depthOf sh / 32)
  let at_ (base : Nat) (u : State) (r : Nat) : State × PRow :=
    streamedRow u sh t (rowAddr base stride r) strm ((r / 32) * blocks) blocks (fun codes exps p =>
      { tile := tile + (r / 32) * wt * (if pair then 2 else 1), row := r % 32, acc := acc, tag := 0xFFF, codes := codes, exps := exps, poison := p })
  let s0 := s.bump 0x0A000601 (rows * subPasses kind)
  match h with
  | none =>
    let (s1, xs) := readRows s0 here (at_ addr)
    let (s2, ys) := readRows s1 here (at_ yAddr)
    let (rs, fl) := gather (fun e => ewiseRow (s2.cluster c) t e.1 e.2) (xs.zip ys)
    dropBank (endPass s2 c ctx rs fl none) c 0
  | some h =>
    let (s1, b) := passBank (noteUse s0 c ctx h.gen) c ctx h
    let (s2, xs) := readRows s1 here (at_ addr)
    let k := s2.cluster c
    let re := b.elemRows sh false
    match kind with
    | 0 =>
      let (rs, fl) := gather (normalRows k sh b re t (if half then 16 else 0) pair) xs
      let cols (tl : Nat) : List (List FVal) := (List.range 32).map (fun i => b.colVals sh re (32 * ((tl - tile) % wt) + i))
      endPass s2 c ctx rs fl (if sh = 0 ∧ !intType t ∧ !pair then some (h.stat, cols) else none)
    | 4 =>
      let (s3, ys) := readRows s2 here (at_ (rowAddr addr stride rows))
      let (rs, fl) := gather (fun e => cplxRows k b re (b.elemRows sh true) t e.1 e.2) (xs.zip ys)
      endPass s3 c ctx rs fl none
    | 5 | 6 | 7 =>
      let (rs, fl) := gather (intRows k b re kind) xs
      endPass s2 c ctx rs fl none
    | _ =>
      let (rs, fl) := gather (fp32Rows k b re kind pair) xs
      endPass s2 c ctx rs fl none

/-! ## Fill batches (R203 to R206) -/

def Batch.rows (b : Batch) : Nat := b.reqs.foldl (fun a r => a + r.rows) 0

/-- Tiles a request writes. -/
def FillReq.tiles (shape : Nat) (r : FillReq) : List Nat := (List.range (tileCols shape r.type)).map (fun i => r.tile + i)

/-- A closed batch streams: its rows in join order. -/
def runBatch (s : State) (c : Nat) (b : Batch) : State :=
  let sh := (s.cluster c).shape
  let (s1, bank) := passBank (noteUse s c b.ctx b.h.gen) c b.ctx b.h
  let rows := b.reqs.flatMap (fun q => ((List.range q.rows).filter (fun r => q.live.getLsbD (q.first + r))).map (fun r => (q, r)))
  let (s2, xs) := rows.foldl (fun (x : State × List (FillReq × PRow)) e =>
    let q := e.1
    let (t, p) := streamedRow x.1 sh q.type (rowAddr q.addr (streamRow sh q.type) e.2) q.strm 0 1 (fun codes exps p =>
      { tile := q.tile, row := q.first + e.2, acc := q.acc, tag := q.tag, codes := codes, exps := exps, poison := p })
    (t, x.2 ++ [(q, p)])) (s1, [])
  let re := bank.elemRows sh false
  -- each row sees what earlier rows of the batch left
  let (k, rs, fl) := xs.foldl (fun (x : Cluster × List TRow × Flags) e =>
    let (r, f) := normalRows x.1 sh bank re e.1.type 0 false e.2
    ({ x.1 with acc := r.foldl putCells x.1.acc }, x.2.1 ++ r, x.2.2 ||| f)) (s2.cluster c, [], 0)
  let wt := (b.reqs.head?.map (fun q => tileCols sh q.type)).getD 1
  let first (tl : Nat) : Nat := ((b.reqs.find? (fun q => (q.tiles sh).contains tl)).map (·.tile)).getD tl
  let cols (tl : Nat) : List (List FVal) := (List.range 32).map (fun i => bank.colVals sh re (32 * ((tl - first tl) % wt) + i))
  let int := (b.reqs.head?.map (fun q => intType q.type)).getD false
  let n := b.rows
  ((endPass (s2.setCluster c k) c b.ctx rs fl (if sh = 0 ∧ !int then some (b.h.stat, cols) else none)).bump 0x0A000608 n).bump 0x0A000601 n

/-- Batch `i` closes under a condition counted as `id` (Table 6.16). -/
def closeBatch (s : State) (c i id : Nat) : State :=
  let k := s.cluster c
  match k.batches[i]? with
  | none => s
  | some b => runBatch ((s.setCluster c { k with batches := k.batches.eraseIdx i }).bump id 1) c b

/-- Every open batch that meets `f` closes, oldest first, as forced. -/
def forceBatches (f : Batch → Bool) (c : Nat) : Nat → State → State
  | 0, s => s
  | fuel + 1, s =>
    match (s.cluster c).batches.findIdx? f with
    | none => s
    | some i => forceBatches f c fuel (closeBatch s c i 0x0A000607)

def batchWrites (shape : Nat) (ts : List Nat) (b : Batch) : Bool := b.reqs.any (fun q => (q.tiles shape).any ts.contains)

/-- A dequeued MFILL joins or opens a batch (R204). -/
def joinBatch (s : State) (c ctx : Nat) (h : Handle) (q : FillReq) : State :=
  let k := s.cluster c
  let same (b : Batch) : Bool := b.ctx == ctx && b.h.id == h.id && b.h.quad == h.quad
  let open_ (s : State) : State :=
    let s1 := if 4 ≤ (s.cluster c).batches.length then closeBatch s c 0 0x0A000607 else s
    let k1 := s1.cluster c
    let b : Batch := { ctx := ctx, h := h, timeout := k1.timeout, reqs := [q] }
    s1.setCluster c { k1 with batches := k1.batches ++ [b] }
  let s1 := match k.batches.findIdx? same with
    | none => open_ s
    | some i =>
      match k.batches[i]? with
      | none => s
      | some b =>
        if b.h.gen = h.gen ∧ b.rows + q.rows ≤ 32 then
          s.setCluster c { k with batches := k.batches.set i { b with reqs := b.reqs ++ [q] } }
        else open_ (closeBatch s c i 0x0A000607)
  match (s1.cluster c).batches.findIdx? (fun b => decide (32 ≤ b.rows)) with
  | some i => closeBatch s1 c i 0x0A000605
  | none => s1

/-! ## Adapters (R207 to R209) -/

/-- The descriptor of Table 6.19, checked against R207, Table 6.10 and the context's scratchpad mapping. -/
def adaptBad (c ctx : Nat) (cx : Ctx) (d : List Byte) (rank t : Nat) : Bool :=
  let bits := tyBits t
  let inBase := field d 0 8
  let inStride := field d 8 4
  let limit := field d 12 4
  let fBase := field d 16 8
  let fStride := field d 24 4
  let row := 32 * bits / 8
  !zeroAt d 30 34 || inStride % 64 != 0 || limit == 0 || decide (4095 < limit) || fStride % 64 != 0 || decide (fStride < 64 * rank)
  || (!usesExp t && (field d 28 1 != 0 || field d 29 1 != 0)) || inBase % 64 != 0 || fBase % 64 != 0
  || (List.range 32).any (fun i => !mayScratch ctx cx c false (rowAddr inBase inStride i) ((rank * bits + 7) / 8))
  || (List.range limit).any (fun v => !mayScratch ctx cx c false (rowAddr fBase fStride v) (64 * (rank - 1) + row))

/-- The variant of row `i`. -/
def variantOf (m : TileMeta) (tagSrc : Word64) (i : Nat) : Nat :=
  if tagSrc.getLsbD 63 then (Sparse.get 0xFFF m.tags i).toNat else bitsOf tagSrc 0 12

def addMat (s : State) (c : Nat) (fl : Flags) : State :=
  let k := s.cluster c
  s.setCluster c { k with matFlags := k.matFlags ||| fl }

/-- MADAPT in the stream stage. -/
def adaptPass (s : State) (c ctx tile desc : Nat) (tagSrc : Word64) (rank t : Nat) (live : Word64) : State :=
  let (s0, d, dp) := readRow s desc 64
  match s0.ctx? ctx with
  | none => s0
  | some cx =>
    if adaptBad c ctx cx d rank t then (addMat s0 c fINV).bump 0x0A00060B 1
    else if ((s0.cluster c).tile tile).int then addMat s0 c fINV
    else
      let m := (s0.cluster c).tile tile
      let bits := tyBits t
      let si := signed 8 (field d 28 1)
      let sf := signed 8 (field d 29 1)
      let rows := ((List.range 32).filter (fun i => live.getLsbD i)).map (fun i => (i, variantOf m tagSrc i))
      let miss := rows.filter (fun r => r.2 != 0xFFF && decide (field d 12 4 ≤ r.2))
      let hit := rows.filter (fun r => decide (r.2 < field d 12 4) && r.2 != 0xFFF)
      let (s1, rs, fl) := hit.foldl (fun (x : State × List TRow × Flags) r =>
        let (u0, ib, ip) := readRow x.1 (rowAddr (field d 0 8) (field d 8 4) r.1) ((rank * bits + 7) / 8)
        let xs := (elems bits rank ib).map (fun e => opVal t e si)
        let (u1, fs, fp) := (List.range rank).foldl (fun (y : State × List (List FVal) × Bool) l =>
          let (v, fb, q) := readRow y.1 (rowAddr (field d 16 8) (field d 24 4) r.2 + 64 * l) (32 * bits / 8)
          (v, y.2.1 ++ [(elems bits 32 fb).map (fun e => opVal t e sf)], y.2.2 || q)) (u0, [], false)
        let k := u1.cluster c
        let cells := (List.range 32).map (fun col => (col, sumFp (k.accGet tile r.1 col) (xs.zip (fs.map (fun f => f.getD col (.fin false 0 0))))))
        let tr : TRow := { tile := tile, row := r.1, acc := true, tag := Sparse.get 0xFFF m.tags r.1, poison := ip || fp || dp, int := false, exps := [],
                           inv := usesExp t && (si == -128 || sf == -128), cells := cells.map (fun e => (e.1, e.2.w)), x := [], prior := [] }
        (u1, x.2.1 ++ [tr], cells.foldl (fun a e => a ||| e.2.flags) x.2.2)) (s0, [], 0)
      let vs := (hit.map (·.2)).dedup
      let chunks := (rank + 31) / 32
      let s2 := endPass s1 c ctx rs (fl ||| (if miss.isEmpty then 0 else fINV)) none
      ((((dropBank s2 c 0).bump 0x0A000609 hit.length).bump 0x0A00060A miss.length).bump 0x0A000601 (hit.length * chunks)).bump 0x0A000602 (vs.length * chunks)

/-! ## Dequeue (R199, Table 6.12) -/

/-- Tiles a waiting drain reads. -/
def drainTiles : MatCmd → List Nat
  | .mdrain _ _ tile _ _ _ round _ _ _ _ _ _ => if round = 3 then [tile, tile + 1] else [tile]
  | _ => []

/-- Tiles a command writes. -/
def writesTiles (shape : Nat) : MatCmd → List Nat
  | .mmul _ tile _ _ _ _ t _ kind rows pair _ _ _ => (List.range (mmulTiles shape t kind rows pair)).map (fun i => tile + i)
  | .mfill _ tile _ _ t _ _ _ _ _ _ => (List.range (tileCols shape t)).map (fun i => tile + i)
  | .madapt _ tile _ _ _ _ _ => [tile]
  | _ => []

/-- Discards on a change of shape (R187): banks and a held sample; registrations went when the MCFG issued. -/
def reshape (k : Cluster) (shape timeout : Nat) : Cluster :=
  { k with shape := shape, timeout := timeout, active := [], shadow := [], sample := none }

/-- The command at the head of the matrix queue dequeues and runs, once nothing holds it back. -/
def matrixDequeue (s : State) (c : Nat) : State :=
  let k := s.cluster c
  match k.mq with
  | [] => s
  | cmd :: rest =>
    let busy := (k.drains.flatMap drainTiles).any (writesTiles k.shape cmd).contains
    let isDrain := match cmd with
      | .mdrain .. => true
      | _ => false
    let joined := decide (c % 2 = 1) && k.shape == 2
    if busy || (joined && !isDrain) then s
    else
      -- a shadow recomputation in progress, which the model does not show, is abandoned (R221)
      let abandoned := k.sample.isSome && Config.freeBool s.free
      let s0 := if abandoned then (s.tick.bump 0x0A00060D 1).bump 0x0A000602 1 else if k.sample.isSome then s.tick else s
      let s1 := s0.setCluster c { k with mq := rest }
      match cmd with
      | .mcfg _ w =>
        let sh := bitsOf w 0 2
        let tmo := bitsOf w 4 13
        let s2 := forceBatches (fun _ => true) c 8 s1
        let k2 := s2.cluster c
        if sh = k.shape then s2.setCluster c { k2 with timeout := tmo }
        else
          let f := s.cluster (c + 1)
          if !k.drains.isEmpty || (sh == 2 && (!f.mq.isEmpty || !f.batches.isEmpty)) then s
          else
            let s3 := s2.setCluster c (reshape k2 sh tmo)
            if sh = 2 then s3.setCluster (c + 1) (reshape (s3.cluster (c + 1)) 2 (s3.cluster (c + 1)).timeout)
            else if k.shape = 2 then s3.setCluster (c + 1) (reshape (s3.cluster (c + 1)) 0 256)
            else s3
      | .mload ctx h defer => if defer then s1 else loadShadow s1 c ctx h
      | .mmul ctx tile addr stride h y t acc kind rows pair half strm live => mmulPass s1 c ctx tile addr stride h y t acc kind rows pair half strm live
      | .mfill ctx tile addr h t acc rows first tag strm live =>
        joinBatch s1 c ctx h { tile := tile, addr := addr, type := t, acc := acc, rows := rows, first := first, tag := tag, strm := strm, live := live }
      | .madapt ctx tile desc tagSrc rank t live => adaptPass (forceBatches (batchWrites k.shape [tile]) c 8 s1) c ctx tile desc tagSrc rank t live
      | .mdrain .. =>
        let s2 := forceBatches (batchWrites k.shape (drainTiles cmd)) c 8 s1
        let k2 := s2.cluster c
        s2.setCluster c { k2 with drains := k2.drains ++ [cmd] }

/-- A batch's fill timeout expires (R205). -/
def fillTimeout (s : State) (c n : Nat) : State := closeBatch s c n 0x0A000606

/-! ## Drains (R213 to R216) -/

/-- A tile's elements as the FP32 values a drain or a stream command reads (R214, R235), row-major, with the flags of reading. -/
def tileValues (k : Cluster) (tile : Nat) : List R32 :=
  let m := k.tile tile
  (List.range 1024).map (fun i =>
    let w := k.accGet tile (i / 32) (i % 32)
    if m.invalid then ⟨canonNan, fINV⟩
    else if m.int then (fp32.round .rne ((ofInt w.toInt).scale m.exp)).r32
    else ⟨w, 0⟩)

def roundField (r : Nat) (draw : Nat) : Rmode := match r with | 1 => .rtz | 2 => .sr draw | _ => .rne

/-- Codes of a row packed into bytes. -/
def packRow (bits : Nat) (cs : List Nat) : List Byte :=
  if bits = 4 then (List.range (cs.length / 2)).map (fun i => BitVec.ofNat 8 (cs.getD (2 * i) 0 % 16 + 16 * (cs.getD (2 * i + 1) 0 % 16)))
  else cs.flatMap (fun x => leBytes (bits / 8) x)

/-- Rows of 32 elements cut from a row-major list. -/
def rows32 (xs : List Nat) : List (List Nat) := (List.range 32).map (fun r => (xs.drop (32 * r)).take 32)

/-- What a drain writes: its rows, flags, an entry address that was poisoned, and the state after draws and entry updates. -/
def drainRows (s : State) (c ctx tile t round : Nat) (drain : Word64) (epoch : Nat) : State × List (List Byte) × Flags × Option Nat :=
  let k := s.cluster c
  let m := k.tile tile
  if round = 3 then
    let inv := m.invalid || (k.tile (tile + 1)).invalid
    let his := tileValues k tile
    let los := tileValues k (tile + 1)
    let ps := (his.zip los).map (fun e =>
      if inv then (leBytes 4 canonNan.toNat ++ zeros 4, (0 : Flags))
      else
        let (p, f) := pairRead e.1.w e.2.w
        (leBytes 4 p.hi.toNat ++ leBytes 4 p.lo.toNat, f ||| e.1.flags ||| e.2.flags))
    (s, (List.range 32).map (fun r => ((ps.drop (32 * r)).take 32).flatMap (·.1)), if inv then fINV else ps.foldl (fun a p => a ||| p.2) 0, none)
  else if t = 0 ∧ m.int ∧ !m.invalid then
    (s, rows32 ((List.range 1024).map (fun i => (k.accGet tile (i / 32) (i % 32)).toNat)) |>.map (packRow 32), 0, none)
  else
    let vs := tileValues k tile
    let fl0 : Flags := vs.foldl (fun a v => a ||| v.flags) 0
    match tyOf t with
    | some (.sc f) =>
      let xs := vs.map (·.w)
      let mode := roundField round 0
      let steps := ((s.ctx? ctx).map (·.recSteps)).getD 8
      let (s1, o, tag, ep) :=
        if refTable drain then
          let (s1, r) := convertEntry s c steps (refAddr drain) epoch f (round == 2) mode xs
          (s1, r.out, r.tag, if r.poison then some (refAddr drain) else none)
        else
          let (s1, o) := tileAt s c f (round == 2) mode (refExp drain) xs
          (s1, o, refTag drain, none)
      (census s1 c ctx tag epoch f o, (rows32 o.codes).map (packRow f.bits), fl0 ||| o.flags, ep)
    | some ty =>
      if t = 4 then (s, (rows32 (vs.map (fun v => v.w.toNat))).map (packRow 32), fl0, none)
      else
        let rs := vs.zipIdx.map (fun v => convert (roundField round (Config.draw16 c (s.free + v.2)).toNat) ty (.fp fp32) 0 v.1.w.toNat)
        (if round = 2 then { s with free := s.free + 1024 } else s, (rows32 (rs.map (·.code))).map (packRow ty.bits), rs.foldl (fun a r => a ||| r.flags) fl0, none)
    | none => (s, [], 0, none)

/-- A drained tile after CLEAR. -/
def clearTile (k : Cluster) (t : Nat) : Cluster := { k with acc := Sparse.clear k.acc (1024 * t) (1024 * t + 1024), tmeta := Sparse.put TileMeta.fresh k.tmeta t TileMeta.fresh }

/-- The n-th waiting drain reads its tile, converts it, writes its rows and finishes (R215, R216). -/
def drainStart (s : State) (c n : Nat) : State :=
  let k := s.cluster c
  match k.drains[n]? with
  | some (.mdrain ctx rel tile addr stride t round clear fence drain epoch obj site) =>
    let ts := if round = 3 then [tile, tile + 1] else [tile]
    let rowLen := if round = 3 then 256 else 4 * tyBits t
    let earlier := (k.drains.take n).any (fun d => (drainTiles d).any ts.contains)
    if earlier || (!fence && (List.range 32).any (fun r => unavailable s (rowAddr addr stride r) rowLen)) then s
    else
      let s0 := s.setCluster c { k with drains := k.drains.eraseIdx n }
      let d : Done := { engine := .matrix, ctx := ctx, obj := obj, site := site, mark := none }
      if fence then addDone s0 c d
      else
        let poison (r : Nat) : Bool := ts.any (fun t => (k.tile t).poison.getLsbD r)
        let (s1, rows, fl, ep) := drainRows s0 c ctx tile t round drain epoch
        let s2 := rows.zipIdx.foldl (fun u e => storeMarked u (rowAddr addr stride e.2) e.1 (poison e.2 || ep.isSome)) s1
        let k2 := s2.cluster c
        let k3 := { k2 with matFlags := k2.matFlags ||| fl }
        let k4 := if clear then ts.foldl clearTile k3 else k3
        let bad := ts.zipIdx.flatMap (fun t => ((List.range 32).filter (fun r => (k.tile t.1).poison.getLsbD r)).map (fun r => 4096 * (rel + t.2) + 128 * r))
        let mark := match bad.head? with
          | some a => some (1, a, 4)
          | none => ep.map (fun a => (1, a, 2))
        addDone (s2.setCluster c k4) c { d with mark := mark }
  | _ => s

/-! ## Shadow recomputation (R275, R276) -/

/-- m × 2^e compared with n × 2^f: whether the first is larger. -/
def scaledGt (m : Nat) (e : Int) (n : Nat) (f : Int) : Bool :=
  if f ≤ e then decide (n < m * 2 ^ (e - f).toNat) else decide (n * 2 ^ (f - e).toNat < m)

/-- A quotient (m × 2^e) / (n × 2^f), n > 0, as FP32 rounded with RNE. -/
def quotFp (m : Nat) (e : Int) (n : Nat) (f : Int) : Word32 :=
  let q := 2 ^ 64 * m / n
  let sticky := decide (2 ^ 64 * m % n ≠ 0)
  (fp32.round .rne (.fin false (2 * q + (if sticky then 1 else 0)) (e - f - 65))).r32.w

/-- Smallest t from −300 to 300 with m × 2^e ≤ n × 2^(f + t). -/
def ceilLog2 (m : Nat) (e : Int) (n : Nat) (f : Int) : Int :=
  (((List.range 601).map (fun (k : Nat) => (k : Int) - 300)).find? (fun t => !scaledGt m e n (f + t))).getD 300

/-- The magnitude of a finite FP32 word. -/
def magOf (w : Word32) : Nat × Int :=
  match f32 w with
  | .fin _ m e => (m, e)
  | _ => (0, 0)

def maxMag (a b : Nat × Int) : Nat × Int := if scaledGt b.1 b.2 a.1 a.2 then b else a

/-- The sample in the buffer is compared, while the array is idle. -/
def shadowRecompute (s : State) (c : Nat) : State :=
  let k := s.cluster c
  match k.sample with
  | none => s
  | some x =>
    if !k.mq.isEmpty || !k.batches.isEmpty then s
    else
      let s1 := s.setCluster c { k with sample := none }
      let cells := x.rows.flatMap (fun r => (r.2.1.zip (r.2.2.zip x.cols)).map (fun e => (e.2.1, (sumPair ⟨e.1, 0⟩ (r.1.zip e.2.2)).1)))
      if cells.any (fun e => !(f32 e.2.hi).isFin || !(f32 e.2.lo).isFin) then s1.bump 0x08000008 1
      else
        let diffs := cells.map (fun e => (pairAdd ⟨e.1, 0⟩ ⟨e.2.hi ^^^ 0x80000000, e.2.lo ^^^ 0x80000000⟩).1.hi)
        let inf := diffs.any (fun w => !(f32 w).isFin)
        let num := diffs.foldl (fun a w => maxMag a (magOf w)) (0, 0)
        let den := cells.foldl (fun a e => maxMag a (magOf e.2.hi)) (1, -126)
        match s1.ctx? x.ctx with
        | none => s1
        | some cx =>
          let wide := inf || scaledGt num.1 num.2 den.1 (den.2 + cx.shadowLim)
          let s2 := s1.bump 0x08000007 1
          let s3 := if wide then s2.bump 0x08000009 1 else s2
          match Sparse.find? cx.census c with
          | none => s3
          | some base =>
            let a := base + 32 * x.tag
            let r := loadMem s3 a 32
            let samples := field r 24 4 + 1
            let overN := field r 28 4 + b2n wide 1
            let lg := ceilLog2 num.1 num.2 den.1 den.2
            let dm := signed 8 (field r 23 1)
            let dm1 : Byte := if inf then Config.freeByte s3.free else if num.1 = 0 then sbyte dm else sbyte (max dm lg)
            let fl := field r 22 1
            let alert := wide && fl / 4 % 2 == 0
            let dfp := if inf then 0x7F800000 else (quotFp num.1 num.2 den.1 den.2).toNat
            let s4 := if inf then s3.tick else s3
            let s5 := s4.setMem (Memory.store s4.mem.bytes a (r.take 22 ++ [BitVec.ofNat 8 (if alert then fl + 4 else fl), dm1] ++ leBytes 4 samples ++ leBytes 4 overN))
            if alert then postEvent s5 (ownerFn cx) 0x0881 x.tag (rec8 [x.ctx, (clusterSite c).toNat, x.tag, x.epoch, dfp, samples, overN]) else s5

end Sys2Proof.Machine
end

