-- ==== Sys2Proof/Machine/MatInsn.lean ====
section
/-! DEFINITION. Issue of matrix instructions (R186 to R197, R203, R207, R213): the checks of Table 6.11 and what enters the command queue. -/

namespace Sys2Proof.Machine

open Sys2Proof

/-- Entries of the matrix command queue (R199). -/
def matRoom : Nat := 16

def Env.clu (e : Env) (s : State) : Cluster := s.cluster e.g.cluster

/-- Address and stride operands. -/
def Env.base0 (e : Env) : Nat := (uVal e.gr e.i.s0).toNat
def Env.src1v (e : Env) : Word64 := src1 e.gr e.i e.lead
def Env.src2v (e : Env) : Word64 := uVal e.gr e.i.s2
def Env.stride (e : Env) (d : Nat) : Nat := if e.i.x then (e.i.ext.getD 0).toNat else d

def tileOf (c : Nat) : Nat := match desig c with
  | .a n => n
  | _ => 0

/-- Whether every one of `n` rows of `len` bytes lies in the context's mapping of its own cluster's scratchpad. -/
def Env.rowsIn (e : Env) (a stride n len : Nat) : Bool := (List.range n).all (fun r => mayScratch e.ctx e.c e.g.cluster false (rowAddr a stride r) len)

/-- A tile range beyond the block's allocation (R118): the first tile that is. -/
def Env.tilesTrap (e : Env) (n count kind : Nat) : Option Trap :=
  trapIf (decide (e.blk.tiles < n + count)) (e.trap tACCESS (4096 * Nat.max n e.blk.tiles) kind 0)

def Env.misIf (e : Env) (a stride align : Nat) : Option Trap :=
  firstTrap [trapIf (a % align != 0) (e.trap tMISALIGNED a align 0), trapIf (stride % align != 0) (e.trap tMISALIGNED stride align 0)]

/-- A scale reference captured by this group now (R264). -/
def Env.capture (e : Env) (s : State) (which : Nat) : Word64 := e.blk.capture which e.gr.idx (Config.freeNat s.free)

/-- The step epoch a command carries (R257). -/
def Env.epoch (e : Env) : Nat := e.c.epoch

def Env.enqueue (e : Env) (s : State) (cmd : MatCmd) : State :=
  let k := e.clu s
  s.setCluster e.g.cluster { k with mq := k.mq ++ [cmd] }

def Env.full (e : Env) (s : State) : Bool := decide (matRoom ≤ (e.clu s).mq.length)

/-! ## Registrations (R192) -/

def Env.handles (e : Env) : List Handle := Sparse.get [] e.c.handles e.g.cluster

/-- The registration a handle word names: ID and quadrant. -/
def Env.handle? (e : Env) (w : Word64) : Option Handle :=
  if bitsOf w 34 30 != 0 then none else e.handles.find? (fun h => h.id.toNat == bitsOf w 0 32 && h.quad == bitsOf w 32 2)

/-- Registrations named by queued commands and open batches of the context. -/
def namedGens (k : Cluster) (ctx : Nat) : List Nat :=
  k.mq.filterMap (fun m => match m with
    | .mload c h _ => if c = ctx then some h.gen else none
    | .mmul c _ _ _ (some h) _ _ _ _ _ _ _ _ _ => if c = ctx then some h.gen else none
    | .mfill c _ _ h _ _ _ _ _ _ _ => if c = ctx then some h.gen else none
    | _ => none) ++ (k.batches.filter (fun b => b.ctx == ctx)).map (fun b => b.h.gen)

/-- The handle list with `h` registered: in place of its ID, in a free entry, or over the least recently used entry that nothing names. -/
def register (hs : List Handle) (named : List Nat) (h : Handle) : Option (List Handle) :=
  if hs.any (fun x => x.id == h.id) then some (hs.map (fun x => if x.id = h.id then h else x))
  else if hs.length < 16 then some (hs ++ [h])
  else
    match hs.filter (fun x => !named.contains x.gen) with
    | [] => none
    | x :: r =>
      let old := r.foldl (fun b y => if y.used < b.used ∨ (y.used = b.used ∧ y.gen < b.gen) then y else b) x
      some (hs.filter (fun y => y.gen != old.gen) ++ [h])

/-! ## MCFG (R186, R187) -/

def checkMcfg (e : Env) (s : State) : Option Trap :=
  let w := uVal e.gr e.i.s0
  let sh := bitsOf w 0 2
  let tmo := bitsOf w 4 13
  trapIf (bitsOf w 2 2 != 0 || bitsOf w 17 47 != 0 || sh == 3 || decide (tmo < 16) || decide (4096 < tmo) || (sh == 2 && e.g.cluster % 2 == 1)
    || (e.clu s).follower) e.illegal

/-- Every context's registrations on a cluster discarded. -/
def dropHandles (s : State) (c : Nat) : State := { s with ctxs := s.ctxs.map (fun x => (x.1, { x.2 with handles := Sparse.del x.2.handles c })) }

/-- The shape the issue checks see from now on (R188). -/
def setIss (s : State) (c shape : Nat) (follower : Bool) : State :=
  let s1 := dropHandles s c
  let k := s1.cluster c
  s1.setCluster c { k with issShape := shape, follower := follower }

def runMcfg (e : Env) (s : State) : Res :=
  if e.full s then .notReady
  else
    let w := uVal e.gr e.i.s0
    let sh := bitsOf w 0 2
    let old := (e.clu s).issShape
    let s1 := e.enqueue s (.mcfg e.ctx w)
    if sh = old then .done s1
    else
      let s2 := setIss s1 e.g.cluster sh false
      .done (if sh = 2 then setIss s2 (e.g.cluster + 1) 2 true else if old = 2 then setIss s2 (e.g.cluster + 1) 0 false else s2)

/-! ## MLOAD (R191, R192) -/

def loadType (e : Env) : Nat := e.i.mod % 16
def loadCplx (e : Env) : Bool := e.i.mod / 32 % 2 == 1

/-- 32-bit operands occur in the multi-pass modes alone, which FULL alone has (R189, Table 6.4). -/
def checkMload (e : Env) (s : State) : Option Trap :=
  let k := e.clu s
  let sh := k.issShape
  let t := loadType e
  let w := e.src1v
  let row := statRow sh t
  let st := e.stride row
  let ref := e.capture s 0
  let n := depthOf sh * (if loadCplx e then 2 else 1)
  firstTrap [trapIf (k.follower || bitsOf w 34 30 != 0 || (sh != 1 && bitsOf w 32 2 != 0) || (tyBits t == 32 && sh != 0) || refIll ref) e.illegal,
    e.misIf e.base0 st (if sh = 1 then 32 else 64), e.refMis ref,
    trapIf (!e.rowsIn e.base0 st n row) (e.trap tACCESS e.base0 1 0), e.refAcc ref 0 (if usesExp t then statBlocks sh t else 1) false]

def runMload (e : Env) (s : State) : Res :=
  let k := e.clu s
  if e.full s then .notReady
  else
    let w := e.src1v
    let t := loadType e
    let h : Handle := { id := BitVec.ofNat 32 (bitsOf w 0 32), quad := bitsOf w 32 2, addr := e.base0, stride := e.stride (statRow k.issShape t), type := t,
                        cplx := loadCplx e, stat := e.capture s 0, used := 0, gen := k.handleN + 1 }
    match register e.handles (namedGens k e.ctx) h with
    | none => .notReady
    | some hs =>
      let s1 := s.setCtx e.ctx { e.c with handles := Sparse.put [] e.c.handles e.g.cluster hs }
      let s2 := (e.enqueue s1 (.mload e.ctx h (e.i.mod / 16 % 2 == 1))).tick
      let k2 := e.clu s2
      .done (s2.setCluster e.g.cluster { k2 with handleN := k2.handleN + 1 })

/-! ## MMUL (R194, R195, R210 to R212) -/

def mulType (e : Env) : Nat := e.i.mod % 16
def mulAcc (e : Env) : Bool := e.i.mod / 16 % 2 == 1
def mulKind (e : Env) : Nat := e.i.mod / 32
def rowsWord (e : Env) : Word64 := e.src2v
def mulRows (e : Env) : Nat := bitsOf (rowsWord e) 0 9
def mulPair (e : Env) : Bool := (rowsWord e).getLsbD 16
def mulHalf (e : Env) : Bool := (rowsWord e).getLsbD 17

/-- Combinations that R188, R189, Table 6.9, R191, R210, R211 and Table 6.20 permit. -/
def mulOk (e : Env) (k : Cluster) (h : Option Handle) : Bool :=
  let sh := k.issShape
  let t := mulType e
  let kind := mulKind e
  let rows := mulRows e
  let n := tileOf e.i.dst
  bitsOf (rowsWord e) 9 7 == 0 && bitsOf (rowsWord e) 18 46 == 0 && decide (1 ≤ rows) && decide (rows ≤ if 4 ≤ kind then 32 else 256)
  && !k.follower && (sh == 0 || (kind == 0 && !mulPair e)) && (!mulHalf e || (sh == 1 && tyBits t == 16))
  && (!mulPair e || (n % 2 == 0 && (kind == 2 || kind == 3 || (kind == 0 && !intType t))))
  && (match kind, h with
    | 1, _ => tyBits t == 16 || tyBits t == 8
    | _, none => false
    | 0, some h => !h.cplx && typesPair t h.type
    | 4, some h => h.cplx && (t == 5 || t == 6) && n % 2 == 0
    | 2, some h | 3, some h => !h.cplx && t == 4 && h.type == 4
    | _, some h => !h.cplx && t == 0 && h.type == 0)

/-- Streamed row size of a pass: that of the shape, 32 elements for EWISE in FULL. -/
def mulRow (e : Env) (k : Cluster) : Nat := streamRow k.issShape (mulType e)

def checkMmul (e : Env) (s : State) : Option Trap :=
  let k := e.clu s
  let h := e.handle? e.src1v
  let kind := mulKind e
  let row := mulRow e k
  let st := e.stride row
  let rows := mulRows e
  let ref := e.capture s 1
  let blocks := Nat.max 1 (depthOf k.issShape / 32)
  let y := e.src1v.toNat
  firstTrap [trapIf (!mulOk e k h || refIll ref) e.illegal,
    e.misIf e.base0 st row, (if kind = 1 then trapIf (y % row != 0) (e.trap tMISALIGNED y row 0) else none), e.refMis ref,
    e.tilesTrap (tileOf e.i.dst) (mmulTiles k.issShape (mulType e) kind rows (mulPair e)) 2,
    trapIf (!e.rowsIn e.base0 st (if kind = 4 then 2 * rows else rows) row) (e.trap tACCESS e.base0 1 0),
    (if kind = 1 then trapIf (!e.rowsIn y st rows row) (e.trap tACCESS y 1 0) else none),
    e.refAcc ref 0 (if usesExp (mulType e) then (rows + 31) / 32 * blocks else 1) false]

def runMmul (e : Env) (s : State) : Res :=
  let k := e.clu s
  if e.full s then .notReady
  else
    let h := if mulKind e = 1 then none else e.handle? e.src1v
    .done (e.enqueue s (.mmul e.ctx (e.blk.tileBase + tileOf e.i.dst) e.base0 (e.stride (mulRow e k)) h e.src1v.toNat (mulType e) (mulAcc e) (mulKind e)
      (mulRows e) (mulPair e) (mulHalf e) (e.capture s 1) e.gr.live)).tick

/-! ## MFILL (R203) -/

def fillRows (e : Env) : Nat := bitsOf (rowsWord e) 0 6
def fillFirst (e : Env) : Nat := bitsOf (rowsWord e) 6 5

def checkMfill (e : Env) (s : State) : Option Trap :=
  let k := e.clu s
  let h := e.handle? e.src1v
  let t := mulType e
  let row := streamRow k.issShape t
  let ref := e.capture s 1
  let ok := k.issShape != 2 && !k.follower && decide (1 ≤ fillRows e) && decide (fillFirst e + fillRows e ≤ 32) && bitsOf (rowsWord e) 11 5 == 0
    && bitsOf (rowsWord e) 28 36 == 0 && (match h with
      | some h => !h.cplx && typesPair t h.type
      | none => false)
  firstTrap [trapIf (!ok || refIll ref) e.illegal, e.misIf e.base0 row row, e.refMis ref,
    e.tilesTrap (tileOf e.i.dst) (tileCols k.issShape t) 2, trapIf (!e.rowsIn e.base0 row (fillRows e) row) (e.trap tACCESS e.base0 1 0),
    e.refAcc ref 0 1 false]

def runMfill (e : Env) (s : State) : Res :=
  if e.full s then .notReady
  else
    match e.handle? e.src1v with
    | none => .trap e.illegal
    | some h =>
      .done (e.enqueue s (.mfill e.ctx (e.blk.tileBase + tileOf e.i.dst) e.base0 h (mulType e) (mulAcc e) (fillRows e) (fillFirst e)
        (BitVec.ofNat 12 (bitsOf (rowsWord e) 16 12)) (e.capture s 1) e.gr.live)).tick

/-! ## MADAPT (R207) -/

/-- Type of MOD[7:6]: BF16, FP16, D8, D8W. -/
def adaptType (e : Env) : Nat := match e.i.mod / 64 with | 0 => 6 | 1 => 5 | 2 => 9 | _ => 10

def checkMadapt (e : Env) (s : State) : Option Trap :=
  let k := e.clu s
  firstTrap [trapIf (k.issShape != 0 || k.follower || bitsOf e.src1v 12 51 != 0) e.illegal, trapIf (e.base0 % 64 != 0) (e.trap tMISALIGNED e.base0 64 0),
    e.tilesTrap (tileOf e.i.dst) 1 2, trapIf (!mayScratch e.ctx e.c e.g.cluster false e.base0 64) (e.trap tACCESS e.base0 1 0)]

def runMadapt (e : Env) (s : State) : Res :=
  if e.full s then .notReady
  else .done (e.enqueue s (.madapt e.ctx (e.blk.tileBase + tileOf e.i.dst) e.base0 e.src1v (e.i.mod % 64 + 1) (adaptType e) e.gr.live))

/-! ## MDRAIN (R213 to R215) -/

def drainRound (e : Env) : Nat := e.i.mod / 16 % 4
def drainFence (e : Env) : Bool := e.i.mod / 128 % 2 == 1
def drainTile (e : Env) : Nat := tileOf e.i.s0
def drainRow (e : Env) : Nat := if drainRound e = 3 then 256 else 4 * tyBits (e.i.mod % 16)
def drainDst (e : Env) : Nat := e.src1v.toNat
def drainCount (e : Env) : Nat := if drainRound e = 3 then 2 else 1

def checkMdrain (e : Env) (s : State) : Option Trap :=
  let ref := e.capture s 2
  let st := e.stride (drainRow e)
  let scaled := usesExp (e.i.mod % 16)
  firstTrap [trapIf ((drainRound e == 3 && drainTile e % 2 == 1) || refIll ref || e.objIllegal) e.illegal,
    (if drainFence e then none else e.misIf (drainDst e) st (drainRow e)), e.refMis ref, e.objAccess,
    e.tilesTrap (drainTile e) (drainCount e) 1,
    trapIf (!drainFence e && (List.range 32).any (fun r => !mayAccess e.ctx e.c true (rowAddr (drainDst e) st r) (drainRow e))) (e.trap tACCESS (drainDst e) 2 0),
    e.refAcc ref (drainTile e) 1 scaled]

/-- The drain reference of tile n: entry ADDR + 64 × n (Table 8.6). -/
def drainRef (w : Word64) (n : Nat) : Word64 := if refTable w then BitVec.ofNat 64 (2 ^ 63 + (refAddr w + 64 * n) % 2 ^ 48) else w

def runMdrain (e : Env) (s : State) : Res :=
  if e.full s then .notReady
  else .done (e.enqueue s (.mdrain e.ctx (drainTile e) (e.blk.tileBase + drainTile e) (drainDst e) (e.stride (drainRow e)) (e.i.mod % 16) (drainRound e)
    (e.i.mod / 64 % 2 == 1) (drainFence e) (drainRef (e.capture s 2) (drainTile e)) e.epoch e.obj (clusterSite e.g.cluster))).tick

end Sys2Proof.Machine
end

