-- ==== Sys2Proof/Machine/MemInsn.lean ====
section
/-! DEFINITION. Memory instructions (R133 to R144, Tables 4.12 and 4.13): addresses, checks, loads, stores, atomics, fences and DMA. -/

namespace Sys2Proof.Machine

open Sys2Proof

/-- Access width in bytes. -/
def accWidth (i : Insn) : Nat := 2 ^ (i.mod % 4)

/-- base + (index << MOD[5:4]) + displacement, in 64 bits (R133). -/
def Env.addr (e : Env) (t : Nat) : Nat :=
  let idx := src1 e.gr e.i t
  (uVal e.gr e.i.s0 + idx <<< (e.i.mod / 16 % 4) + (if e.i.x then e.i.ext.getD 0 else 0)).toNat

/-- Threads for which the instruction makes an access: all that act, or one for a per-issue instruction. -/
def Env.lanes (e : Env) : List Nat := if actsOf e.i = .perThread then threads e.act else [e.lead]

def laneMask (ts : List Nat) : Nat := (maskOf (fun t => ts.contains t)).toNat

/-- Watchpoints of the context on this cluster that an access overlaps (R115): the index of the first. -/
def watchHit (s : State) (e : Env) (kind a n : Nat) : Option Nat :=
  (List.find? (fun (w : Nat × Wp) =>
    w.2.ctx == e.ctx && (w.2.kind &&& kind) != 0 && decide (a < w.2.base + 2 ^ w.2.l) && decide (w.2.base < a + n)) (s.cluster e.g.cluster).wps).map (·.1)

/-- MISALIGNED, ACCESS and WATCH of a load (kind 1), store (2) or atomic (3). -/
def checkAccess (kind : Nat) (e : Env) (s : State) : Option Trap :=
  let w := accWidth e.i
  let ts := e.lanes
  let odd := ts.filter (fun t => e.addr t % w != 0)
  let bad := ts.filter (fun t => !mayAccess e.ctx e.c (kind != 1) (e.addr t) w)
  let wp := ts.filterMap (fun t => (watchHit s e kind (e.addr t) w).map (fun k => (t, k)))
  let per (l : List Nat) : Nat := if actsOf e.i = .perThread then laneMask l else 0
  firstTrap [trapIf (!odd.isEmpty) (e.trap tMISALIGNED (e.addr (odd.headD 0)) w (per odd)),
    trapIf (!bad.isEmpty) (e.trap tACCESS (e.addr (bad.headD 0)) kind (per bad)),
    (wp.head?).map (fun x => e.trap tWATCH x.2 (e.addr x.1) (per (wp.map (·.1))))]

/-! ## Loads -/

/-- A value as a load returns it: zero-extended, or sign-extended with MOD[2] (R133). -/
def extendLoad (sg : Bool) (n x : Nat) : Word64 := if sg then BitVec.ofInt 64 (signed (8 * n) x) else BitVec.ofNat 64 x

/-- One lane's read: the value, and the poison it met. Reads of poisoned stacked memory are counted (Table 9.7). -/
def readLane (s : State) (e : Env) (a n : Nat) : State × Nat × Option Nat :=
  let s1 := touch s a n
  match firstPoison s1 a n with
  | some p => (s1, leNat (ctxLoad s1 e.ctx e.c a n), some p)
  | none => (s1, leNat (ctxLoad s1 e.ctx e.c a n), none)

/-- Values read and the poison met, over lanes in order. -/
structure Reads where
  s      : State
  vals   : List Word64
  poison : List Nat
  pa     : Option Nat

/-- A variable-latency result put on its way (R85). -/
def Env.post (e : Env) (s : State) (ts : List Nat) (r : Reads) : State :=
  let perT := isV e.i.dst
  let m := if perT then maskOf (fun t => ts.contains t) else e.act
  let x : Pend := { dest := e.i.dst, mask := m, vals := r.vals, poison := maskOf (fun t => r.poison.contains t),
                    paddr := r.pa.getD 0, pspace := spaceOf (r.pa.getD 0), ready := true, msg := none }
  e.update s (fun gr => { gr with pend := gr.pend ++ [x] })

/-- LD (R133): performed as it issues, its values on their way to the registers. -/
def runLd (e : Env) (s : State) : Res :=
  let n := accWidth e.i
  let sg := e.i.mod / 4 % 2 == 1
  let ts := e.lanes
  if ts.any (fun t => unavailable s (e.addr t) n) then .notReady
  else
    let r := ts.foldl (fun (x : Reads) t =>
      let (s1, v, p) := readLane x.s e (e.addr t) n
      { s := s1, vals := x.vals ++ [extendLoad sg n v], poison := if p.isSome then x.poison ++ [t] else x.poison,
        pa := if x.pa.isSome then x.pa else p }) ⟨s, [], [], none⟩
    .done (e.post r.s ts r)

/-! ## Stores -/

/-- The bytes of a store's data operand. -/
def Env.storeData (e : Env) (t : Nat) : List Byte := leBytes (accWidth e.i) (srcVal e.gr e.i e.i.s2 t).toNat

/-- Stores of several threads as one access (R304): a granule that they cover together loses its marker; any other store to a
stacked sector is a read-modify-write. -/
def storeAll (s : State) (ws : List (Nat × List Byte)) : State :=
  let gs := (ws.flatMap (fun w => granules w.1 w.2.length)).dedup
  let covered (g : Nat) : Bool := (List.range 64).all (fun k => ws.any (fun w => decide (w.1 ≤ 64 * g + k) && decide (64 * g + k < w.1 + w.2.length)))
  let s1 := gs.foldl (fun t g =>
    writeCell (covered g) (fun x n => ws.any (fun w => decide (w.1 ≤ x) && decide (x + n ≤ w.1 + w.2.length)))
      (fun x n => ws.any (fun w => decide (w.1 < x + n) && decide (x < w.1 + w.2.length))) t g) s
  s1.setMem (ws.foldl (fun m w => Memory.store m w.1 w.2) s1.mem.bytes)

/-- An order of the lanes that the spec leaves open: any rotation of them. -/
def rotated (s : State) (ts : List Nat) : List Nat := ts.rotateLeft (Config.freeNat s.free % (ts.length + 1))

/-- ST (R133). -/
def runSt (e : Env) (s : State) : Res :=
  let n := accWidth e.i
  let ts := e.lanes
  if ts.any (fun t => unavailable s (e.addr t) n) then .notReady
  else
    let clash := decide ((ts.map e.addr).dedup.length < ts.length)
    let order := if clash then rotated s ts else ts
    .done (storeAll (if clash then s.tick else s) (order.map (fun t => (e.addr t, e.storeData t))))

/-! ## Atomics (R144) -/

/-- One lane's atomic: the old value, and the value left. -/
def atomLane (op : Bool → Nat → Nat → Nat → Nat → Nat) (e : Env) (s : State) (t : Nat) : State × Word64 × Option Nat :=
  let n := accWidth e.i
  let a := e.addr t
  let (s1, old, p) := readLane s e a n
  let x := (srcVal e.gr e.i e.i.s2 t).toNat % 2 ^ (8 * n)
  let cmp := (match desig e.i.dst with | .v _ | .u _ => srcVal e.gr e.i e.i.dst t | _ => 0).toNat % 2 ^ (8 * n)
  let new := op (e.i.mod / 4 % 2 == 1) (8 * n) old x cmp % 2 ^ (8 * n)
  (storeMem s1 a (leBytes n new), BitVec.ofNat 64 old, p)

/-- An atomic over the lanes, one after another in an order the spec leaves open. -/
def atomRes (op : Bool → Nat → Nat → Nat → Nat → Nat) (e : Env) (s : State) : Res :=
  let n := accWidth e.i
  let ts := e.lanes
  if ts.any (fun t => unavailable s (e.addr t) n) then .notReady
  else
    let order := rotated s ts
    let (s1, got) := order.foldl (fun (x : State × List (Nat × Word64 × Option Nat)) t =>
      let (s2, v, p) := atomLane op e x.1 t
      (s2, x.2 ++ [(t, v, p)])) (s.tick, [])
    let val (t : Nat) : Word64 × Option Nat := ((got.find? (fun x => x.1 == t)).map (·.2)).getD (0, none)
    let r : Reads := { s := s1, vals := ts.map (fun t => (val t).1), poison := ts.filter (fun t => (val t).2.isSome), pa := (ts.filterMap (fun t => (val t).2)).head? }
    if desig e.i.dst = .zero then .done s1 else .done (e.post s1 ts r)

def runAtomAdd : Env → State → Res := atomRes (fun _ _ o x _ => o + x)
def runAtomMin : Env → State → Res := atomRes (fun sg w o x _ =>
  if (if sg then decide (signed w x < signed w o) else decide (x < o)) then x else o)
def runAtomMax : Env → State → Res := atomRes (fun sg w o x _ =>
  if (if sg then decide (signed w o < signed w x) else decide (o < x)) then x else o)
def runAtomAnd : Env → State → Res := atomRes (fun _ _ o x _ => o &&& x)
def runAtomOr : Env → State → Res := atomRes (fun _ _ o x _ => o ||| x)
def runAtomXor : Env → State → Res := atomRes (fun _ _ o x _ => o ^^^ x)
def runAtomXchg : Env → State → Res := atomRes (fun _ _ _ x _ => x)
def runAtomCas : Env → State → Res := atomRes (fun _ _ o x c => if o = c then x else o)

/-- FENCE (R141): every earlier access of the group has been performed when it issued, so the fence completes. -/
def runFence (_ : Env) (s : State) : Res := .done s

/-! ## DMA (R313, R314) -/

def Env.dmaDst (e : Env) : Nat := (uVal e.gr e.i.s0).toNat
def Env.dmaSrc (e : Env) : Nat := (uVal e.gr e.i.s1).toNat
def Env.dmaLen (e : Env) : Nat := (uVal e.gr e.i.s2).toNat

def checkDma (e : Env) (_ : State) : Option Trap :=
  let badLen := e.dmaLen % 64 != 0 || e.dmaLen == 0 || decide (2 ^ 32 < e.dmaLen)
  firstTrap [trapIf e.objIllegal e.illegal,
    trapIf (e.dmaDst % 64 != 0) (e.trap tMISALIGNED e.dmaDst 64 0), trapIf (e.dmaSrc % 64 != 0) (e.trap tMISALIGNED e.dmaSrc 64 0),
    trapIf badLen (e.trap tMISALIGNED e.dmaLen 64 0), e.objAccess,
    trapIf (!mayAccess e.ctx e.c true e.dmaDst e.dmaLen) (e.trap tACCESS e.dmaDst 2 0),
    trapIf (!mayAccess e.ctx e.c false e.dmaSrc e.dmaLen) (e.trap tACCESS e.dmaSrc 1 0)]

def runDma (e : Env) (s : State) : Res :=
  let k := s.cluster e.g.cluster
  if dmaRoom ≤ k.dq.length then .notReady
  else .done (s.setCluster e.g.cluster { k with dq := k.dq ++ [.copy e.ctx e.dmaDst e.dmaSrc e.dmaLen e.obj (clusterSite e.g.cluster)] })

/-- One granule that has been read copied, poison with it (R305). -/
def copyGranule (s : State) (dst src : Nat) : State := storeMarked s dst (loadMem s src 64) (poisonedAt s src)

/-- The granules of a copy, their errors met before. Where source and destination overlap, each destination granule ends with its old content or some source granule's (R314). -/
def copyRange (s : State) (dst src n : Nat) : State :=
  let k := n / 64
  if dst + n ≤ src ∨ src + n ≤ dst then (List.range k).foldl (fun t i => copyGranule t (dst + 64 * i) (src + 64 * i)) s
  else
    let pick (i : Nat) : Nat := Config.freeNat (s.free + i)
    let s1 := (List.range k).foldl (fun t i =>
      if pick i % 2 = 0 then t
      else
        let from_ := src + 64 * (pick i / 2 % k)
        storeMarked t (dst + 64 * i) (loadMem s from_ 64) (poisonedAt s from_)) s
    { s1 with free := s.free + k }

/-- The first poisoned granule a command read, with its space: the mark of its completion (R305). -/
def readPoison (s : State) (a n : Nat) : Option (Nat × Nat) := (firstPoison s a n).map (fun p => (p, spaceOf p))

/-- The DMA engine runs the command at the head of its queue (R313). -/
def dmaStart (s : State) (c : Nat) : State :=
  let k := s.cluster c
  match k.dq with
  | .copy ctx dst src n obj site :: r =>
    if unavailable s src n || unavailable s dst n then s
    else
      let s0 := touch s src n
      let mark := poisonMark (readPoison s0 src n)
      let s1 := (copyRange s0 dst src n).bump 0x0300000D n
      let k1 := s1.cluster c
      addDone (s1.setCluster c { k1 with dq := r }) c { engine := .dma, ctx := ctx, obj := obj, site := site, mark := mark }
  | _ => s

/-- A returned result written, its scoreboard entry free (R85). -/
def loadReturn (s : State) (g : GroupId) (n : Nat) : State :=
  match s.group? g with
  | none => s
  | some gr =>
    match gr.pend[n]? with
    | none => s
    | some p => if p.ready then settleGroup (s.setGroup g { deliver gr p with pend := gr.pend.eraseIdx n }) g else s

/-- The oldest finished command of an engine signals its completion object (R143). -/
def engineCompletion (s : State) (c : Nat) (e : Engine) : State :=
  let k := s.cluster c
  match k.done.find? (fun d => d.engine == e) with
  | none => s
  | some d => complete (s.setCluster c { k with done := k.done.erase d }) d.ctx d.obj d.site d.mark

end Sys2Proof.Machine
end

