-- ==== Sys2Proof/Machine/Smooth.lean ====
section
/-! DEFINITION. The stream engine's chain operations (Table 7.10): EXP, TANH, SIGMOID, SILU and GELU within their stated accuracy, and one step of a chain. -/

namespace Sys2Proof.Machine

open Sys2Proof

/-- log2 e and √(2/π) in units of 2^-400. -/
def log2e400 : Nat :=
  3725399093452113361508878261685348397064333121840474113669779251110053462896811095071531244706817557295705407090210624801
def rootTwoOverPi400 : Nat :=
  2060337309860625669158887524896583040847384015804865113243324589387049149478680161082114736606036866790242378560860575272

/-- A finite value in units of 2^-400. -/
def fixed400 (m : Nat) (e : Int) : Nat := if 0 ≤ e + 400 then m * 2 ^ (e + 400).toNat else m / 2 ^ (-(e + 400)).toNat

/-- e^y for y ≥ 0 in units of 2^-400, below 2^12, as a numerator over 2^256. -/
def expNum (y : Nat) : Nat :=
  let t := y * log2e400 / 2 ^ 400
  exp2Frac (t % 2 ^ 400 / 2 ^ 144) * 2 ^ (t / 2 ^ 400)

/-- 1 / (1 + e^-y), y of sign `neg` and magnitude in units of 2^-400, as a fraction. -/
def sigmoidFrac (neg : Bool) (y : Nat) : Nat × Nat :=
  if 2 ^ 412 ≤ y then (if neg then (1, 2 ^ 5000) else (2 ^ 400 - 1, 2 ^ 400))
  else
    let n := expNum y
    (if neg then 2 ^ 256 else n, n + 2 ^ 256)

/-- tanh y for y > 0 given as m × 2^e, as a fraction with an exponent. -/
def tanhFrac (m : Nat) (e : Int) : Nat × Nat × Int :=
  if leadExp m e < -60 then (2 ^ 64 * m - 1, 1, e - 64)
  else if 8 ≤ leadExp m e then (2 ^ 400 - 1, 2 ^ 400, 0)
  else
    let n := expNum (2 * fixed400 m e)
    (n - 2 ^ 256, n + 2 ^ 256, 0)

/-- A value chosen within 4 ulp of a magnitude; INX for every finite non-zero result (R241). -/
def smoothPick (op : Nat) (a : Word32) (neg : Bool) (n d : Nat) (e : Int) : R32 :=
  let (code, _) := floorCode n d e
  let c := Nat.min (ulpPick op a 4 code false) (fp32.infCode - 1)
  ⟨w32 (signed? neg fp32.signBit c), if c = 0 then 0 else fINX⟩

def smoothNan (a : Word32) : R32 := ⟨canonNan, if (f32 a).isSnan then fINV else 0⟩

def f32Tanh (a : Word32) : R32 :=
  match f32 a with
  | .nan _ => smoothNan a
  | .inf n => ⟨if n then 0xBF800000 else 0x3F800000, 0⟩
  | .fin n m e => if m = 0 then ⟨a, 0⟩ else (let (p, q, x) := tanhFrac m e; smoothPick 15 a n p q x)

def f32Sigmoid (a : Word32) : R32 :=
  match f32 a with
  | .nan _ => smoothNan a
  | .inf n => ⟨if n then 0 else 0x3F800000, 0⟩
  | .fin n m e => let (p, q) := sigmoidFrac n (fixed400 m e); smoothPick 16 a false p q 0

def f32Silu (a : Word32) : R32 :=
  match f32 a with
  | .nan _ => smoothNan a
  | .inf n => ⟨if n then 0x80000000 else a, 0⟩
  | .fin n m e => if m = 0 then ⟨a, 0⟩ else (let (p, q) := sigmoidFrac n (fixed400 m e); smoothPick 17 a n (m * p) q e)

/-- x × 1 / (1 + e^−2z), z = √(2/π) (x + 0.044715 x³), which is the formula of Table 7.10. -/
def f32Gelu (a : Word32) : R32 :=
  match f32 a with
  | .nan _ => smoothNan a
  | .inf n => ⟨if n then 0x80000000 else a, 0⟩
  | .fin n m e =>
    if m = 0 then ⟨a, 0⟩
    else
      let x := fixed400 m e
      let z := 2 * rootTwoOverPi400 * (x + 44715 * (x * x / 2 ^ 400 * x / 2 ^ 400) / 1000000) / 2 ^ 400
      let (p, q) := sigmoidFrac n z
      smoothPick 18 a n (m * p) q e

/-- EXP: the exact product of X and log2 e rounded once, then EXP2 of it (Table 7.10). -/
def f32Exp (a : Word32) : R32 :=
  match f32 a with
  | .fin n m e =>
    if m = 0 then exp2Within 10 2 a
    else
      let p := (fp32.round .rne (.fin n (2 * m * log2e400 + 1) (e - 401))).r32
      let r := exp2Within 10 2 p.w
      ⟨r.w, p.flags ||| r.flags⟩
  | _ => exp2Within 10 2 a

/-- One step of a chain: T := op(X, Y, T). -/
def chainStep (op : Nat) (x y t : Word32) : R32 :=
  match op with
  | 0x01 => f32Add .rne x y
  | 0x02 => f32Sub .rne x y
  | 0x03 => f32Mul .rne x y
  | 0x04 => f32Fma .rne x y t
  | 0x05 => f32MinMax true x y
  | 0x06 => f32MinMax false x y
  | 0x07 => ⟨x &&& 0x7FFFFFFF, 0⟩
  | 0x08 => ⟨x ^^^ 0x80000000, 0⟩
  | 0x09 => f32Exp2 x
  | 0x0A => f32Exp x
  | 0x0B => f32Log2 x
  | 0x0C => f32Rcp x
  | 0x0D => f32Rsq x
  | 0x0E => f32Sqrt x
  | 0x0F => f32Tanh x
  | 0x10 => f32Sigmoid x
  | 0x11 => f32Silu x
  | _ => f32Gelu x

end Sys2Proof.Machine
end

