-- ==== Sys2Proof/Machine/Stream.lean ====
section
/-! DEFINITION. The stream engine (chapter 7): issue checks, descriptors and their status, operand slots, and every command. A command that starts runs to
its end in that step. -/

namespace Sys2Proof.Machine

open Sys2Proof

/-! ## Slots and descriptors (Tables 7.4 and 7.5) -/

structure Slot where
  off    : Nat
  loc    : Nat
  space  : Bool
  tile   : Nat
  stride : Nat
  /-- Table 4.5 code, or 15 for an unused slot. -/
  ty     : Nat
  pair   : Bool
  bcast  : Nat
  tyByte : Nat
  scale  : Int
  deriving DecidableEq, Repr

def Slot.used (x : Slot) : Bool := x.ty != 15

def slotOf (d : List Byte) (o : Nat) : Slot :=
  let l := field d o 8
  let t := field d (o + 12) 1
  { off := o, loc := l, space := decide (2 ^ 63 ≤ l), tile := l % 64, stride := field d (o + 8) 4, ty := t % 16, pair := t / 16 % 2 == 1, bcast := t / 32 % 4,
    tyByte := t, scale := signed 8 (field d (o + 13) 1) }

structure Desc where
  out    : Slot
  a      : Slot
  b      : Slot
  c      : Slot
  rows   : Nat
  cols   : Nat
  round  : Nat
  auxTy  : Nat
  aux0   : Nat
  aux1   : Nat
  bytes  : List Byte
  deriving DecidableEq, Repr

def Desc.ofBytes (d : List Byte) : Desc :=
  { out := slotOf d 0, a := slotOf d 16, b := slotOf d 32, c := slotOf d 48, rows := field d 64 4, cols := field d 68 4, round := field d 84 1,
    auxTy := field d 86 1, aux0 := field d 88 8, aux1 := field d 96 8, bytes := d }

def Desc.slots (d : Desc) : List Slot := [d.out, d.a, d.b, d.c]

/-- A parameter word. -/
def Desc.param (d : Desc) (i : Nat) : Word32 := w32 (field d.bytes (104 + 4 * i) 4)

/-- SHADOW_DELTA added to an address (R248). -/
def Desc.shadow (d : Desc) (a : Nat) : Nat := (a + d.aux1) % 2 ^ 64

/-! ## The first pass of R236: values of fields -/

/-- What a command's slot may hold. -/
inductive Role where
  | none
  | dst
  | col (pair : Bool)
  | src
  | opt
  | mask
  | gamma
  | quant
  | weight
  | moment
  | limbOut
  | limbIn
  deriving DecidableEq, Repr

/-- Slots of each command (Table 7.7). -/
def roles (op : Nat) : List Role :=
  match op with
  | 0x01 => [.dst, .opt, .opt, .opt]
  | 0x02 => [.dst, .src, .none, .none]
  | 0x03 => [.dst, .none, .none, .none]
  | 0x04 => [.dst, .src, .src, .none]
  | 0x08 | 0x0B => [.col true, .src, .none, .none]
  | 0x09 | 0x0A => [.col false, .src, .none, .none]
  | 0x0C => [.none, .src, .none, .none]
  | 0x10 => [.dst, .src, .mask, .none]
  | 0x11 => [.dst, .src, .gamma, .gamma]
  | 0x12 => [.dst, .src, .gamma, .none]
  | 0x18 => [.quant, .src, .none, .none]
  | 0x20 => [.weight, .src, .moment, .moment]
  | 0x21 => [.weight, .src, .moment, .none]
  | 0x22 => [.weight, .src, .none, .none]
  | _ => [.limbOut, .limbIn, .none, .none]

def srcType (t : Nat) : Bool := decide (4 ≤ t) && decide (t ≤ 11)
def dstType (t : Nat) : Bool := decide (4 ≤ t) && decide (t ≤ 6)

/-- Whether a slot's TYPE byte suits its role: type, PAIR, BCAST and space. -/
def typeOk (r : Role) (x : Slot) : Bool :=
  let plain := x.tyByte < 128 && x.bcast != 3 && (!x.pair || x.ty == 4) && (!x.space || (x.bcast == 0 && (x.ty == 4 || r == .limbIn)))
  if !x.used then x.tyByte == 15 && (r == .none || r == .opt || r == .mask)
  else
    plain && (match r with
      | .none => false
      | .dst => dstType x.ty && x.bcast == 0
      | .col p => x.ty == 4 && x.bcast == 0 && (p || !x.pair)
      | .src | .opt => srcType x.ty
      | .mask => x.ty == 7
      | .gamma => srcType x.ty && x.bcast == 1
      | .quant => scaledType x.ty && x.bcast == 0
      | .weight => x.ty == 4 && x.bcast == 0 && !x.space
      | .moment => (x.ty == 4 || x.ty == 6) && !x.pair && x.bcast == 0 && !x.space
      | .limbOut => x.ty == 2 && x.bcast == 0 && !x.space
      | .limbIn => x.ty == 0 && !x.pair && x.bcast == 0 && x.space)

/-- Failing fields of a slot, in ascending offset. An unused slot is judged by its TYPE alone (R237). -/
def slotBad (d : List Byte) (r : Role) (x : Slot) : List (Bool × Nat) :=
  let live := x.used && r != .none
  let isCol := match r with
    | .col _ => true
    | _ => false
  let resv := if x.space then x.loc / 64 % 2 ^ 57 != 0 || (x.pair && x.tile % 2 == 1) else x.loc / 2 ^ 48 != 0
  [(live && resv, x.off), (live && !x.space && x.bcast == 0 && !isCol && (x.stride % 64 != 0 || (r == .limbOut && decide (x.stride < 256))), x.off + 8),
   (!typeOk r x, x.off + 12), (live && x.scale != 0 && !scaledType x.ty, x.off + 13), (live && field d (x.off + 14) 2 != 0, x.off + 14)]

/-- Steps of an SE.EW program: operation and selectors, up to the first END. -/
def program (d : List Byte) : List (Nat × Nat × Nat) :=
  ((List.range 8).map (fun k => field d (104 + 2 * k) 2)).takeWhile (fun w => w % 256 != 0) |>.map (fun w => (w % 256, w / 256 % 16, w / 4096))

def unaryOp (op : Nat) : Bool := decide (7 ≤ op)

/-- Failing steps of a program (R241), in ascending offset. -/
def programBad (d : Desc) : List (Bool × Nat) :=
  let p := program d.bytes
  let unused (sel : Nat) : Bool := match sel with
    | 1 => !d.a.used
    | 2 => !d.b.used
    | 3 => !d.c.used
    | _ => false
  (p.isEmpty, 104) :: (p.zipIdx.map (fun s =>
    (decide (0x12 < s.1.1) || decide (9 < s.1.2.1) || decide (9 < s.1.2.2) || (unaryOp s.1.1 && s.1.2.2 != 0) || unused s.1.2.1 ||
      (!unaryOp s.1.1 && unused s.1.2.2), 104 + 2 * s.2))) ++
    -- bytes after the step that ends the program
    (((List.range 16).filter (fun k => decide (2 * p.length + 2 ≤ k))).map (fun k => (field d.bytes (104 + k) 1 != 0, 104 + k))) ++
    [(decide (p.length < 8) && field d.bytes (105 + 2 * p.length) 1 != 0, 104 + 2 * p.length)]

/-- Failing auxiliary fields and PARAMS of a command. -/
def auxBad (op : Nat) (d : Desc) : List (Bool × Nat) :=
  let p (i : Nat) : Nat := (d.param i).toNat
  let adam := op == 0x20 || op == 0x21 || op == 0x22
  let aux0 : Bool := match op with
    | 0x18 => if 2 ^ 63 ≤ d.aux0 then d.aux0 / 2 ^ 48 % 2 ^ 15 != 0 else d.aux0 != 0
    | 0x01 | 0x02 | 0x04 | 0x0C | 0x10 | 0x11 => false
    | 0x20 | 0x21 | 0x22 => d.aux0 != 0 && d.auxTy == 15
    | _ => d.aux0 != 0
  let aux1 : Bool := match op with
    | 0x10 | 0x11 | 0x12 | 0x18 => false
    | 0x20 | 0x21 | 0x22 => d.aux1 % 64 != 0
    | _ => d.aux1 != 0
  let zero (l : List Nat) : List (Bool × Nat) := l.map (fun i => (p i != 0, 104 + 4 * i))
  [(if adam then !(d.auxTy == 5 || d.auxTy == 6 || d.auxTy == 15) else d.auxTy != 0, 86), (field d.bytes 87 1 != 0, 87), (aux0, 88), (aux1, 96)] ++
  (match op with
    | 0x01 => programBad d
    | 0x10 => [(decide (4 ≤ p 1) || (p 1 % 2 == 1 && !d.b.used), 108), (p 3 != 0, 116)]
    | 0x11 | 0x12 => zero [1, 2, 3]
    | 0x20 => []
    | 0x21 => zero [1, 2]
    | 0x22 => zero [0, 1, 2]
    | 0x28 => (!(p 0 == 5 || p 0 == 6 || p 0 == 7), 104) :: zero [1, 2, 3]
    | _ => zero [0, 1, 2, 3])

/-- The offset of the first field that fails the first pass. -/
def descBad (op : Nat) (d : Desc) : Option Nat :=
  let rows := decide (d.rows = 0) || decide (65536 < d.rows) || (op == 0x18 && d.rows % 32 != 0) || (op == 0x28 && decide (32 < d.rows))
  let cols := decide (d.cols = 0) || decide (65536 < d.cols) || (op == 0x18 && d.cols % 32 != 0) || (op == 0x28 && d.cols != 32)
  let w := BitVec.ofNat 64 (field d.bytes 72 8)
  let all := (roles op).zip d.slots |>.flatMap (fun x => slotBad d.bytes x.1 x.2)
  let rest := [(rows, 64), (cols, 68), (w != 0 && (refIllegal w .completion), 72), (decide (2 < d.round), 84), (field d.bytes 85 1 != 0, 85)] ++ auxBad op d ++
    [(field d.bytes 120 4 != 0, 120)]
  ((all ++ rest).find? (·.1)).map (·.2)

/-! ## The second pass of R236: operands -/

def elemBits (x : Slot) : Nat := if x.pair then 64 else tyBits x.ty

def ceilDiv (a b : Nat) : Nat := (a + b - 1) / b

/-- Bytes of a row of `n` elements. -/
def rowBytes (x : Slot) (n : Nat) : Nat := ceilDiv (n * elemBits x) 8

/-- Whether `n` rows lie in the context's own scratchpad mapping with the right asked for. -/
def rowsOk (n : Nat) (cx : Ctx) (c : Nat) (write : Bool) (a stride rows len : Nat) : Bool :=
  (List.range rows).all (fun r => mayScratch n cx c write (a + r * stride) len)

/-- Status of an operand slot: 0, MISALIGNED or ACCESS. `column`: one element per row. -/
def slotStatus (n : Nat) (cx : Ctx) (c tiles : Nat) (d : Desc) (write column : Bool) (x : Slot) : Nat :=
  if !x.used then 0
  else if x.space then
    let wt := if column then 1 else ceilDiv d.cols 32
    if tiles < x.tile + ceilDiv d.rows 32 * wt * (if x.pair then 2 else 1) then 2 else 0
  else if x.loc % 64 != 0 then 3
  else if column || x.bcast == 2 then (if mayScratch n cx c write x.loc (rowBytes x d.rows) then 0 else 2)
  else if x.bcast = 1 then (if mayScratch n cx c write x.loc (rowBytes x d.cols) then 0 else 2)
  else if rowsOk n cx c write x.loc x.stride d.rows (rowBytes x d.cols) then 0 else 2

/-- Status of an auxiliary range. -/
def auxStatus (n : Nat) (cx : Ctx) (c : Nat) (write : Bool) (align a len : Nat) : Nat :=
  if a % align != 0 then 3 else if mayScratch n cx c write a len then 0 else 2

def isCol (op : Nat) : Bool := op == 0x08 || op == 0x09 || op == 0x0A || op == 0x0B

/-- Whether an accumulator source of SE.LIMB has the wrong KIND or is INVALID (R249). -/
def limbState (k : Cluster) (base : Nat) (d : Desc) : Bool :=
  (List.range (2 * limbsOf ((d.param 0).toNat) - 1)).any (fun i => let m := k.tile (base + d.a.tile + i); !m.int || m.invalid)

/-- The second pass: (status, offset) of the first operand that fails, in ascending offset. -/
def operandBad (s : State) (c n : Nat) (cx : Ctx) (base tiles op : Nat) (d : Desc) : Option (Nat × Nat) :=
  let adam := op == 0x20 || op == 0x21 || op == 0x22
  let st (x : Slot) (write column : Bool) : Nat × Nat := (slotStatus n cx c tiles d write column x, x.off)
  let shadowed (x : Slot) : Nat × Nat :=
    let a := slotStatus n cx c tiles d false false x
    if a != 0 || !x.used then (a, x.off) else (if rowsOk n cx c true (d.shadow x.loc) x.stride d.rows (rowBytes x d.cols) then 0 else 2, x.off)
  let limbA : Nat × Nat :=
    if tiles < d.a.tile + (2 * limbsOf ((d.param 0).toNat) - 1) then (2, 16) else if limbState (s.cluster c) base d then (7, 16) else (0, 16)
  let w := BitVec.ofNat 64 (field d.bytes 72 8)
  let qt := d.rows * d.cols / 1024
  let aux0 : Nat :=
    match op with
    | 0x01 | 0x02 | 0x04 => if d.aux0 = 0 then 0 else auxStatus n cx c true 8 d.aux0 8
    | 0x0C => auxStatus n cx c true 8 d.aux0 8
    | 0x10 | 0x11 => if d.aux0 = 0 then 0 else auxStatus n cx c true 64 d.aux0 (4 * d.rows)
    | 0x18 => if 2 ^ 63 ≤ d.aux0 then auxStatus n cx c true 64 (d.aux0 % 2 ^ 48) (64 * qt) else 0
    | 0x20 | 0x21 | 0x22 => if d.aux0 = 0 then 0 else if rowsOk n cx c true d.aux0 d.out.stride d.rows (2 * d.cols) then 0 else 2
    | _ => 0
  let aux1 : Nat :=
    if d.aux1 = 0 then 0
    else match op with
      | 0x10 => auxStatus n cx c true 1 d.aux1 d.rows
      | 0x11 | 0x12 => auxStatus n cx c true 64 d.aux1 (4 * d.rows)
      | 0x18 => auxStatus n cx c true 1 d.aux1 (8 * qt)
      | _ => 0
  let l := [(if adam then shadowed d.out else st d.out true (isCol op)), (if op = 0x28 then limbA else st d.a false false),
    (if adam then shadowed d.b else st d.b false false), (if adam then shadowed d.c else st d.c false false),
    ((if w != 0 && decide (cx.syncObjects ≤ refVid w) then 2 else 0), 72), (aux0, 88), (aux1, 96)]
  l.find? (fun x => x.1 != 0)

/-! ## Issue (R224 to R228, R239) -/

/-- Fields of an inline word (Table 7.8). -/
def inOut (w : Word64) : Nat := bitsOf w 0 6
def inA (w : Word64) : Nat := bitsOf w 6 6
def inB (w : Word64) : Nat := bitsOf w 12 6
def inCount (w : Word64) : Nat := bitsOf w 18 6 + 1
def inPair (w : Word64) : Bool := w.getLsbD 24

def inlineBad (op : Nat) (w : Word64) : Bool :=
  bitsOf w 25 39 != 0 || (op == 0x03 && (inA w != 0 || inB w != 0)) || (op == 0x02 && inB w != 0) || (inPair w && (inOut w % 2 == 1 || inA w % 2 == 1))

/-- An inline command as the descriptor it stands for: whole F32 tiles side by side. -/
def inlineDesc (op : Nat) (w : Word64) : Desc :=
  let slot (o tile : Nat) (pair used : Bool) : Slot :=
    { off := o, loc := 2 ^ 63 + tile, space := true, tile := tile, stride := 0, ty := if used then 4 else 15, pair := pair, bcast := 0, tyByte := 0, scale := 0 }
  { out := slot 0 (inOut w) (inPair w) true, a := slot 16 (inA w) (inPair w) (op != 0x03), b := slot 32 (inB w) false (op == 0x04), c := slot 48 0 false false,
    rows := 32, cols := 32 * inCount w, round := 0, auxTy := 0, aux0 := 0, aux1 := 0, bytes := [] }

def Env.seAddr (e : Env) : Nat := (uVal e.gr e.i.s0).toNat

def checkStream (e : Env) (_ : State) : Option Trap :=
  let w := e.i.ext.getD 0
  let inl := e.i.x
  let desc := !inl && e.i.op != 0
  let beyond (n count kind : Nat) : Option Trap :=
    trapIf (decide (e.blk.tiles < n + count)) (e.trap tACCESS (4096 * Nat.max n e.blk.tiles) kind 0)
  let m := inCount w * (if inPair w then 2 else 1)
  firstTrap [trapIf ((inl && inlineBad e.i.op w) || e.objIllegal) e.illegal, trapIf (desc && e.seAddr % 64 != 0) (e.trap tMISALIGNED e.seAddr 64 0), e.objAccess,
    trapIf (desc && !mayScratch e.ctx e.c e.g.cluster false e.seAddr 128) (e.trap tACCESS e.seAddr 1 0),
    (if inl then firstTrap [beyond (inOut w) m 2, (if e.i.op != 0x03 then beyond (inA w) m 1 else none),
      (if e.i.op = 0x04 then beyond (inB w) (inCount w) 1 else none)] else none)]

def runStream (e : Env) (s : State) : Res :=
  let k := s.cluster e.g.cluster
  if streamRoom ≤ k.sq.length then .notReady
  else
    let s1 := uVal e.gr e.i.s1
    let s2 := uVal e.gr e.i.s2
    let x : SeqEntry := .cmd e.i.op e.ctx e.blk.tileBase e.blk.tiles e.obj (clusterSite e.g.cluster) e.seAddr (if e.i.x then e.i.ext else none)
      (s1.setWidth 32) ((s1 >>> 32).setWidth 32) (s2.setWidth 32) ((s2 >>> 32).setWidth 32) e.c.epoch
    .done (s.setCluster e.g.cluster { k with sq := k.sq ++ [x] })

/-! ## Reading the descriptor (R230, R232, R236) -/

/-- Status codes of Table 7.6. -/
def stBAD_DESC : Nat := 1
def stRANGE : Nat := 4
def stPOISONED : Nat := 5
def stDESC_POISON : Nat := 6

def setHead (s : State) (c : Nat) (h : HeadDesc) : State :=
  let k := s.cluster c
  s.setCluster c { k with head := some h }

/-- The head's descriptor is read: checked, and its wait presented (queue code 4). -/
def streamDescriptorRead (s : State) (c : Nat) : State :=
  let k := s.cluster c
  match k.sq, k.head with
  | .cmd op ctx base tiles _ site desc none _ _ _ _ _ :: _, none =>
    if op = 0 then s
    else
      match s.ctx? ctx with
      | none => s
      | some cx =>
        let (s1, bs, p) := readRow s desc 128
        let d := Desc.ofBytes bs
        let head (code off : Nat) (w : Bool) : HeadDesc := { code := code, offset := off, bytes := bs, waiting := w }
        if p then setHead s1 c (head stDESC_POISON 0 false)
        else
          match descBad op d with
          | some o => setHead s1 c (head stBAD_DESC o false)
          | none =>
            match operandBad s1 c ctx cx base tiles op d with
            | some (code, o) => setHead s1 c (head code o false)
            | none =>
              let w := BitVec.ofNat 64 (field bs 72 8)
              if w = 0 then setHead s1 c (head 0 0 false)
              else
                let t := w32 (field bs 80 4)
                let v := valueNow s1 ctx (refVid w)
                if rangeBad false t v then (setHead s1 c (head stRANGE 80 false)).bump 0x04000008 1
                else
                  let m : WaitMsg := { ctx := ctx, vid := refVid w, take := false, operand := t, queue := 4, group := none, pc := 0, cluster := c, site := site }
                  let s2 := setHead s1 c (head 0 0 true)
                  s2.setSync { s2.sync with arriving := s2.sync.arriving ++ [m] }
  | _, _ => s

/-! ## Operand elements (R233, R235) -/

/-- An element read: its value (lo is +0 but in a pair), flags, and the poison met. -/
structure Elem where
  p      : Pair
  fl     : Flags
  poison : Option (Nat × Nat)
  deriving DecidableEq, Repr

/-- What a running command knows: cluster, the block's first tile, the columns, the tiles' state as it starts, and the scalars. -/
structure SCtx where
  c    : Nat
  ctx  : Nat
  cx   : Ctx
  base : Nat
  d    : Desc
  tm   : Sparse TileMeta
  s0   : Word32
  s1   : Word32
  s2   : Word32
  s3   : Word32
  epoch : Nat

/-- Tile of element (r, col) relative to the block, its row and column. -/
def accPlace (x : Slot) (cols r col : Nat) : Nat × Nat × Nat :=
  let t := r / 32 * ceilDiv cols 32 + col / 32
  (x.tile + (if x.pair then 2 * t else t), r % 32, col % 32)

/-- One accumulator word as a source. -/
def accWord (e : SCtx) (s : State) (t row col : Nat) : Elem :=
  let m := Sparse.get TileMeta.fresh e.tm (e.base + t)
  let w := (s.cluster e.c).accGet (e.base + t) row col
  let r : R32 := if m.invalid then ⟨canonNan, fINV⟩ else if m.int then (fp32.round .rne ((ofInt w.toInt).scale m.exp)).r32 else ⟨w, 0⟩
  { p := ⟨r.w, 0⟩, fl := r.flags, poison := if m.poison.getLsbD row then some (4096 * t + 128 * row, 4) else none }

def memPoison (s : State) (a : Nat) : Option (Nat × Nat) := if poisonedAt s a then some (64 * (a / 64), 2) else none

/-- Address of a scratchpad element in bits. -/
def elemAddr (x : Slot) (r col : Nat) : Nat :=
  let i := if x.bcast = 2 then r else col
  8 * (x.loc + (if x.bcast = 0 then r * x.stride else 0)) + i * elemBits x

/-- The code of `bits` bits at a bit address. -/
def codeAtBits (s : State) (bits a : Nat) : Nat :=
  if bits = 4 then (Memory.read s.mem.bytes (a / 8)).toNat / 2 ^ (a % 8) % 16 else leNat (loadMem s (a / 8) (bits / 8))

/-- A value of a source type in FP32. -/
def widen (t : Nat) (scale : Int) (x : Nat) : R32 :=
  if t = 4 then ⟨w32 x, 0⟩ else (convert .rne (.fp fp32) ((tyOf t).getD (.fp fp32)) scale x).r32

/-- Element (r, col) of a source; a pair is replaced by two_sum of its halves (R176). -/
def readElem (e : SCtx) (s : State) (x : Slot) (r col : Nat) : Elem :=
  if x.space then
    let (t, row, c) := accPlace x e.d.cols r col
    let h := accWord e s t row c
    if x.pair then
      let l := accWord e s (t + 1) row c
      let (p, f) := pairRead h.p.hi l.p.hi
      { p := p, fl := f ||| h.fl ||| l.fl, poison := h.poison.or l.poison }
    else h
  else
    let a := elemAddr x r col
    if x.pair then
      let (p, f) := pairRead (w32 (codeAtBits s 32 a)) (w32 (codeAtBits s 32 (a + 32)))
      { p := p, fl := f, poison := (memPoison s (a / 8)).or (memPoison s (a / 8 + 4)) }
    else
      let v := widen x.ty x.scale (codeAtBits s (elemBits x) a)
      { p := ⟨v.w, 0⟩, fl := v.flags, poison := memPoison s (a / 8) }

/-! ## Writing rows -/

/-- The running account of a command: state, flags, first poison read, whether a poisoned row was written, rows of tiles written, SSQ partials. -/
structure Run where
  s     : State
  fl    : Flags
  mark  : Option (Nat × Nat)
  bad   : Bool
  tiles : List (Nat × Nat × Bool)
  parts : List Pair

def Run.note (x : Run) (fl : Flags) (p : Option (Nat × Nat)) : Run := { x with fl := x.fl ||| fl, mark := x.mark.or p }

/-- Codes merged into bytes at a bit address: whole bytes are replaced, a lone nibble keeps its neighbour. -/
def mergeCodes (s : State) (bits a : Nat) (cs : List Nat) : List Byte :=
  if bits = 4 then
    (List.range (ceilDiv (a % 8 + 4 * cs.length) 8)).map (fun k =>
      let old := (Memory.read s.mem.bytes (a / 8 + k)).toNat
      let nib (h : Nat) : Nat :=
        let i : Int := ((8 * k + 4 * h : Nat) : Int) - ((a % 8 : Nat) : Int)
        if 0 ≤ i ∧ i / 4 < cs.length then cs.getD (i / 4).toNat 0 % 16 else old / 16 ^ h % 16
      BitVec.ofNat 8 (nib 0 + 16 * nib 1))
  else cs.flatMap (fun x => leBytes (bits / 8) x)

/-- Codes written at a bit address, poisoned when `p`. -/
def Run.bytes (x : Run) (bits a : Nat) (cs : List Nat) (p : Bool) : Run :=
  { x with s := storeMarked x.s (a / 8) (mergeCodes x.s bits a cs) p, bad := x.bad || p }

/-- Values narrowed to a destination type, each SR element with its own draw (R167, R232). -/
def narrow (e : SCtx) (s : State) (t round : Nat) (vs : List Word32) : State × List Nat × Flags :=
  if t = 4 then (s, vs.map (·.toNat), 0)
  else
    let rs := vs.zipIdx.map (fun v => convert (roundField round (Config.draw16 e.c (s.free + v.2)).toNat) ((tyOf t).getD (.fp fp32)) (.fp fp32) 0 v.1.toNat)
    (if round = 2 then { s with free := s.free + vs.length } else s, rs.map (·.code), rs.foldl (fun a r => a ||| r.flags) 0)

/-- Row `r` of a destination, or one element of a column: narrowed, or (value, +0) in a pair (R235). -/
def Run.row (x : Run) (e : SCtx) (o : Slot) (column : Bool) (r : Nat) (vs : List Pair) (p : Bool) : Run :=
  if o.space then
    let wt := if column then 1 else e.d.cols
    let put (m : Sparse Word32) (i half : Nat) (w : Word32) : Sparse Word32 :=
      let (t, row, c) := accPlace o wt r i
      Sparse.put 0 m (accKey (e.base + t + half) row c) w
    let k := x.s.cluster e.c
    let acc := vs.zipIdx.foldl (fun m v => if o.pair then put (put m v.2 0 v.1.hi) v.2 1 v.1.lo else put m v.2 0 v.1.hi) k.acc
    let ts := ((List.range (ceilDiv vs.length 32)).map (fun b => (accPlace o wt r (32 * b)).1)).flatMap (fun t => if o.pair then [t, t + 1] else [t])
    { x with s := x.s.setCluster e.c { k with acc := acc }, bad := x.bad || p, tiles := x.tiles ++ ts.map (fun t => (e.base + t, r % 32, p)) }
  else
    let a := 8 * (o.loc + (if column then r * (elemBits o / 8) else r * o.stride))
    if o.pair then x.bytes 32 a (vs.flatMap (fun v => [v.hi.toNat, v.lo.toNat])) p
    else
      let (s1, cs, fl) := narrow e x.s o.ty e.d.round (vs.map (·.hi))
      { x with s := s1, fl := x.fl ||| fl }.bytes (tyBits o.ty) a cs p

/-- Metadata of the tiles a command wrote (R250). -/
def finishTiles (k : Cluster) (ws : List (Nat × Nat × Bool)) : Cluster :=
  ((ws.map (·.1)).dedup).foldl (fun k t =>
    let mine := ws.filter (fun w => w.1 == t)
    let m := k.tile t
    let full := (List.range 32).all (fun r => mine.any (fun w => w.2.1 == r))
    k.setTile t { m with int := false, exp := 0, invalid := m.invalid && !full, poison := mine.foldl (fun b w => setBit b w.2.1 w.2.2) m.poison }) k

/-! ## Reductions (R240) -/

/-- Partials combined pairwise: p with p + P/2, then the halved set. -/
def foldHalves {α : Type} (f : α → α → α × Flags) : Nat → List α → List α × Flags
  | 0, xs => (xs, 0)
  | n + 1, xs =>
    let h := xs.length / 2
    if h = 0 then (xs, 0)
    else
      let rs := ((xs.take h).zip (xs.drop h)).map (fun p => f p.1 p.2)
      let (ys, fl) := foldHalves f n (rs.map (·.1))
      (ys, rs.foldl (fun a r => a ||| r.2) fl)

/-- Partials of `n` classes over the columns, each element entering by `f`. -/
def partials {α : Type} (n : Nat) (zero : α) (f : α → Word32 → α × Flags) (xs : List Pair) (g : Pair → Word32) : List α × Flags :=
  let rs := (List.range n).map (fun p =>
    (xs.zipIdx.filter (fun x => x.2 % n == p)).foldl (fun (a : α × Flags) x => let (y, fl) := f a.1 (g x.1); (y, a.2 ||| fl)) (zero, 0))
  (rs.map (·.1), rs.foldl (fun a r => a ||| r.2) 0)

def addR (a b : Word32) : Word32 × Flags := let r := f32Add .rne a b; (r.w, r.flags)
def fmaSq (a x : Word32) : Word32 × Flags := let r := f32Fma .rne x x a; (r.w, r.flags)

/-- A row sum in FP32: elements added, or squares by fma. -/
def rowSum (sq : Bool) (xs : List Word32) : Word32 × Flags :=
  let (ps, f0) := partials 128 (0 : Word32) (if sq then fmaSq else addR) (xs.map (fun x => ⟨x, 0⟩)) (·.hi)
  let (r, f1) := foldHalves addR 8 ps
  (r.headD 0, f0 ||| f1)

/-- A row sum of pairs, or of squares of their hi values. -/
def rowSumPair (sq : Bool) (xs : List Pair) : Pair × Flags :=
  let rs := (List.range 32).map (fun p =>
    (xs.zipIdx.filter (fun x => x.2 % 32 == p)).foldl (fun (a : Pair × Flags) x =>
      let (y, fl) := if sq then pairAccProduct a.1 x.1.hi x.1.hi else pairAdd a.1 x.1
      (y, a.2 ||| fl)) (⟨0, 0⟩, 0))
  let (r, f1) := foldHalves pairAdd 6 (rs.map (·.1))
  (r.headD ⟨0, 0⟩, rs.foldl (fun a r => a ||| r.2) f1)

/-- Squares of a row's output values entering the 32 partials of an SSQ sum, ascending row-major. -/
def squaresIn (parts : List Pair) (vs : List Word32) : List Pair × Flags :=
  vs.zipIdx.foldl (fun (x : List Pair × Flags) v =>
    let (y, f) := pairAccProduct (x.1.getD (v.2 % 32) ⟨0, 0⟩) v.1 v.1
    (x.1.set (v.2 % 32) y, x.2 ||| f)) (parts, 0)

def noParts : List Pair := List.replicate 32 ⟨0, 0⟩

/-- The sum of squares added to the pair at `a` (R238, R240). -/
def Run.ssq (x : Run) (a : Nat) (p : Bool) : Run :=
  let (r, f0) := foldHalves pairAdd 6 x.parts
  let old := memPoison x.s a
  let (o, f1) := pairRead (w32 (codeAtBits x.s 32 (8 * a))) (w32 (codeAtBits x.s 32 (8 * a + 32)))
  let (v, f2) := pairAdd o (r.headD ⟨0, 0⟩)
  (x.note (f0 ||| f1 ||| f2) old).bytes 32 (8 * a) [v.hi.toNat, v.lo.toNat] (p || old.isSome)

/-! ## Element-wise commands (R238 to R241) -/

def rowElems (e : SCtx) (s : State) (x : Slot) (r : Nat) : List Elem := (List.range e.d.cols).map (readElem e s x r)

def elemsFl (xs : List Elem) : Flags := xs.foldl (fun a x => a ||| x.fl) 0
def elemsPoison (xs : List Elem) : Option (Nat × Nat) := xs.findSome? (·.poison)

/-- The chain of SE.EW on one element. -/
def runChain (e : SCtx) (prog : List (Nat × Nat × Nat)) (a b c : Word32) : R32 :=
  prog.foldl (fun t st =>
    let sel (k : Nat) : Word32 := match k with
      | 0 => t.w
      | 1 => a
      | 2 => b
      | 3 => c
      | 4 => e.s0
      | 5 => e.s1
      | 6 => e.s2
      | 7 => e.s3
      | 8 => 0
      | _ => 0x3F800000
    let r := chainStep st.1 (sel st.2.1) (sel st.2.2) t.w
    ⟨r.w, t.flags ||| r.flags⟩) ⟨0, 0⟩

/-- One output row of SE.EW, SE.COPY, SE.ZERO or SE.AXPY: values and flags. -/
def ewRow (e : SCtx) (op : Nat) (as bs cs : List Elem) : List (Pair × Flags) :=
  let prog := program e.d.bytes
  (List.range e.d.cols).map (fun i =>
    let a := (as[i]?.map (·.p)).getD ⟨0, 0⟩
    let b := (bs[i]?.map (·.p)).getD ⟨0, 0⟩
    let c := (cs[i]?.map (·.p)).getD ⟨0, 0⟩
    match op with
    | 0x01 => let r := runChain e prog a.hi b.hi c.hi; (⟨r.w, 0⟩, r.flags)
    | 0x02 =>
      if e.d.out.pair then (a, 0)
      else if (f32 a.hi).isNan then (⟨canonNan, 0⟩, if (f32 a.hi).isSnan then fINV else 0)
      else (⟨a.hi, 0⟩, 0)
    | 0x03 => (⟨0, 0⟩, 0)
    | _ =>
      if e.d.out.pair then pairAccProduct a e.s0 b.hi
      else let r := f32Fma .rne e.s0 b.hi a.hi; (⟨r.w, 0⟩, r.flags))

/-- Which slots the program of SE.EW reads. -/
def ewReads (e : SCtx) (op k : Nat) : Bool :=
  op != 0x01 || (program e.d.bytes).any (fun s => s.2.1 == k || (!unaryOp s.1 && s.2.2 == k))

def runEw (e : SCtx) (op : Nat) (x : Run) : Run :=
  let get (s : State) (sl : Slot) (k r : Nat) : List Elem := if sl.used && ewReads e op k then rowElems e s sl r else []
  let y := (List.range e.d.rows).foldl (fun (x : Run) r =>
    let as := get x.s e.d.a 1 r
    let bs := get x.s e.d.b 2 r
    let cs := get x.s e.d.c 3 r
    let out : List (Pair × Flags) := ewRow e op as bs cs
    let p := elemsPoison (as ++ bs ++ cs)
    let sq : List Pair × Flags := if e.d.aux0 = 0 then (x.parts, 0) else squaresIn x.parts (out.map (fun o => o.1.hi))
    let fl : Flags := elemsFl (as ++ bs ++ cs) ||| sq.2 ||| out.foldl (fun (a : Flags) (o : Pair × Flags) => a ||| o.2) 0
    let x1 : Run := { x.note fl p with parts := sq.1 }
    x1.row e e.d.out false r (out.map (fun o => o.1)) p.isSome) x
  if e.d.aux0 = 0 then y else y.ssq e.d.aux0 y.bad

/-- The largest or smallest of a row; a NaN gives the canonical NaN, INV only for a signalling one. -/
def extreme (wantMax : Bool) (xs : List Word32) : R32 :=
  let inv : Flags := if xs.any (fun x => (f32 x).isSnan) then fINV else 0
  if xs.any (fun x => (f32 x).isNan) then ⟨canonNan, inv⟩
  else ⟨xs.tail.foldl (fun a x => (f32MinMax wantMax a x).w) (xs.headD 0), 0⟩

def runReduce (e : SCtx) (op : Nat) (x : Run) : Run :=
  (List.range e.d.rows).foldl (fun (x : Run) r =>
    let as := rowElems e x.s e.d.a r
    let p := elemsPoison as
    let (v, f) : Pair × Flags :=
      if op = 0x09 ∨ op = 0x0A then (let m := extreme (op == 0x09) (as.map (·.p.hi)); (⟨m.w, 0⟩, m.flags))
      else if e.d.out.pair then rowSumPair (op == 0x0B) (as.map (·.p))
      else (let (w, f) := rowSum (op == 0x0B) (as.map (·.p.hi)); (⟨w, 0⟩, f))
    (x.note (elemsFl as ||| f) p).row e e.d.out true r [v] p.isSome) x

/-- SE.SSQ: the 32 partials run over the whole operand, by column. -/
def runSsq (e : SCtx) (x : Run) : Run :=
  let y := (List.range e.d.rows).foldl (fun (x : Run) r =>
    let as := rowElems e x.s e.d.a r
    let (parts, f) := squaresIn x.parts (as.map (·.p.hi))
    { x.note (elemsFl as ||| f) (elemsPoison as) with parts := parts }) x
  y.ssq e.d.aux0 y.mark.isSome

/-! ## Normalisation and softmax (R242, R243) -/

/-- An F32 element of an auxiliary column. -/
def Run.col (x : Run) (a r : Nat) (w : Word32) (p : Bool) : Run := if a = 0 then x else x.bytes 32 (8 * (a + 4 * r)) [w.toNat] p

def natFp (n : Nat) : Word32 := (fp32.round .rne (.fin false n 0)).r32.w

/-- Values computed one after another with their flags gathered. -/
def mapFl (f : Word32 → R32) (xs : List Word32) : List Word32 × Flags :=
  let rs := xs.map f
  (rs.map (·.w), rs.foldl (fun a r => a ||| r.flags) 0)

def runNorm (e : SCtx) (rms : Bool) (x : Run) : Run :=
  let k := f32Rcp (natFp e.d.cols)
  let eps := e.d.param 0
  (List.range e.d.rows).foldl (fun (x : Run) r =>
    let as := rowElems e x.s e.d.a r
    let gs := rowElems e x.s e.d.b r
    let bs := if rms then [] else rowElems e x.s e.d.c r
    let p := elemsPoison (as ++ gs ++ bs)
    let pa := elemsPoison as
    let xs := as.map (·.p.hi)
    let (sum, f0) := if rms then (0, 0) else rowSum false xs
    let mu : R32 := if rms then ⟨0, 0⟩ else f32Mul .rne sum k.w
    let (ds, f1) := if rms then (xs, 0) else mapFl (fun v => f32Sub .rne v mu.w) xs
    let (sq, f2) := rowSum true ds
    let var := f32Mul .rne sq k.w
    let ve := f32Add .rne var.w eps
    let rr := f32Rsq ve.w
    let ys := (ds.zip (gs.map (·.p.hi))).zipIdx.map (fun v =>
      let t := f32Mul .rne v.1.1 rr.w
      let y := if rms then f32Mul .rne t.w v.1.2 else f32Fma .rne t.w v.1.2 ((bs[v.2]?.map (·.p.hi)).getD 0)
      (y.w, t.flags ||| y.flags))
    let fl := k.flags ||| f0 ||| mu.flags ||| f1 ||| f2 ||| var.flags ||| ve.flags ||| rr.flags ||| ys.foldl (fun a y => a ||| y.2) 0
    let x1 := (x.note (elemsFl (as ++ gs ++ bs) ||| fl) p).row e e.d.out false r (ys.map (fun y => ⟨y.1, 0⟩)) p.isSome
    let x2 := if rms then x1 else x1.col e.d.aux0 r mu.w pa.isSome
    x2.col e.d.aux1 r rr.w pa.isSome) x

def fpPosInf : Word32 := 0x7F800000
def fpNegInf : Word32 := 0xFF800000
def ln2Fp : Word32 := 0x3F317218

/-- Whether position `c` of row `r` is masked. -/
def masked (e : SCtx) (mask : List Nat) (r c : Nat) : Bool :=
  let kind := (e.d.param 1).toNat
  (kind % 2 == 1 && mask.getD c 0 != 0) || (kind / 2 % 2 == 1 && decide ((r : Int) + (e.d.param 2).toInt < (c : Int)))

def runSoftmax (e : SCtx) (x : Run) : Run :=
  (List.range e.d.rows).foldl (fun (x : Run) r =>
    let useMask := e.d.b.used && (e.d.param 1).toNat % 2 == 1
    let mask := if useMask then (List.range e.d.cols).map (fun c => codeAtBits x.s 8 (elemAddr e.d.b r c)) else []
    let mp := if useMask then (List.range e.d.cols).findSome? (fun c => memPoison x.s (elemAddr e.d.b r c / 8)) else none
    let live := (List.range e.d.cols).filter (fun c => !masked e mask r c)
    let as := live.map (readElem e x.s e.d.a r)
    let p := mp.or (elemsPoison as)
    let (xs, f0) := mapFl (fun v => f32Mul .rne v (e.d.param 0)) (as.map (·.p.hi))
    let place (ys : List Word32) : List Pair := (List.range e.d.cols).map (fun c => ⟨((live.zip ys).find? (fun v => v.1 == c)).elim 0 (·.2), 0⟩)
    let infs := (xs.filter (· == fpPosInf)).length
    let put (x : Run) (ys : List Word32) (lse : Word32) (flag : Nat) : Run :=
      let x1 := (x.row e e.d.out false r (place ys) p.isSome).col e.d.aux0 r lse p.isSome
      if e.d.aux1 = 0 then x1 else x1.bytes 8 (8 * (e.d.aux1 + r)) [flag] p.isSome
    if xs.any (fun v => (f32 v).isNan) then put (x.note fINV p) (xs.map (fun _ => canonNan)) canonNan 4
    else if 0 < infs then
      let k := quotFp 1 0 infs 0
      let y := put (x.note 0 p) (xs.map (fun v => if v = fpPosInf then k else 0)) fpPosInf 2
      { y with s := y.s.bump 0x0A000708 1 }
    else if xs.all (· == fpNegInf) then
      let y := put (x.note 0 p) (xs.map (fun _ => 0)) fpNegInf 1
      { y with s := y.s.bump 0x0A000707 1 }
    else
      let m := (extreme true xs).w
      let es := xs.map (fun v =>
        if v = fpNegInf then (⟨0, 0⟩ : R32)
        else let d := f32Sub .rne v m; let y := f32Exp d.w; ⟨y.w, d.flags ||| y.flags⟩)
      -- the sum runs over the row's columns, a masked one entering as its +0
      let (sum, f1) := rowSum false ((place (es.map (·.w))).map (·.hi))
      let rc := f32Rcp sum
      let (ys, f2) := mapFl (fun v => if v = 0 then ⟨0, 0⟩ else f32Mul .rne v rc.w) (es.map (·.w))
      let lg := f32Log2 sum
      let t := f32Mul .rne lg.w ln2Fp
      let lse := f32Add .rne m t.w
      let fl := elemsFl as ||| f0 ||| es.foldl (fun a v => a ||| v.flags) 0 ||| f1 ||| rc.flags ||| f2 |||
        (if e.d.aux0 = 0 then 0 else lg.flags ||| t.flags ||| lse.flags)
      put (x.note fl p) ys lse.w 0) x

/-! ## Quantisation (R244 to R246) -/

/-- An outcome record (Table 7.13). -/
def outcome (o : TileOut) : Nat :=
  o.amax.toNat + b2n o.sat (2 ^ 32) + b2n o.allZero (2 ^ 33) + b2n o.nan (2 ^ 34) + unsign 8 o.scale * 2 ^ 40

def runQuant (e : SCtx) (x : Run) : Run :=
  match sfmtOf e.d.out.ty with
  | none => x
  | some f =>
    let wt := e.d.cols / 32
    let sr := e.d.round == 2
    (List.range (e.d.rows / 32 * wt)).foldl (fun (x : Run) t =>
      let cell (i j : Nat) : Elem := readElem e x.s e.d.a (32 * (t / wt) + i) (32 * (t % wt) + j)
      let es := (List.range 1024).map (fun i => cell (i / 32) (i % 32))
      let xs := es.map (·.p.hi)
      let tbl := decide (2 ^ 63 ≤ e.d.aux0)
      let a := e.d.aux0 % 2 ^ 48 + 64 * t
      let (s1, k) : State × Scaled :=
        if tbl then convertEntry x.s e.c e.cx.recSteps a e.epoch f sr (roundField e.d.round 0) xs
        else
          let (s1, o) := tileAt x.s e.c f sr (roundField e.d.round 0) e.d.out.scale xs
          (s1, { out := o, tag := 0xFFF, retry := false, poison := false })
      let s2 := census s1 e.c e.ctx k.tag e.epoch f k.out
      let s3 := (if k.retry then s2.bump 0x0A00070A 1 else s2).bump 0x0A000709 1
      let p := (elemsPoison es).or (if k.poison then some (a, 2) else none)
      let x1 := ({ x with s := s3 }).note (elemsFl es ||| k.out.flags) p
      let x2 := (List.range 32).foldl (fun (y : Run) i =>
        let rowP := k.poison || (elemsPoison ((es.drop (32 * i)).take 32)).isSome
        y.bytes f.bits (8 * (e.d.out.loc + (32 * (t / wt) + i) * e.d.out.stride) + 32 * (t % wt) * f.bits) ((k.out.codes.drop (32 * i)).take 32) rowP) x1
      if e.d.aux1 = 0 then x2 else x2.bytes 64 (8 * (e.d.aux1 + 8 * t)) [outcome k.out] false) x

/-! ## Optimisers (R247, R248) -/

def negW (w : Word32) : Word32 := w ^^^ 0x80000000
def isZeroW (w : Word32) : Bool := w.toNat % 2 ^ 31 == 0

/-- New weight, first and second moment of one element. -/
def optStep (e : SCtx) (op : Nat) (w : Pair) (g0 m0 v0 : Word32) : (Pair × Word32 × Word32) × Flags :=
  let g := f32Mul .rne g0 e.s1
  let one : Word32 := 0x3F800000
  let (u, m, v, fu) : Word32 × Word32 × Word32 × Flags :=
    match op with
    | 0x20 =>
      let b1 := e.d.param 0
      let b2 := e.d.param 1
      let n1 := f32Sub .rne one b1
      let n2 := f32Sub .rne one b2
      let t1 := f32Mul .rne n1.w g.w
      let m := f32Fma .rne b1 m0 t1.w
      let t2 := f32Mul .rne n2.w g.w
      let t3 := f32Mul .rne t2.w g.w
      let v := f32Fma .rne b2 v0 t3.w
      let mc := f32Mul .rne m.w e.s2
      let vc := f32Mul .rne v.w e.s3
      let sq := f32Sqrt vc.w
      let se := f32Add .rne sq.w (e.d.param 2)
      let rc := f32Rcp se.w
      let u := f32Mul .rne mc.w rc.w
      (u.w, m.w, v.w, n1.flags ||| n2.flags ||| t1.flags ||| m.flags ||| t2.flags ||| t3.flags ||| v.flags ||| mc.flags ||| vc.flags ||| sq.flags |||
        se.flags ||| rc.flags ||| u.flags)
    | 0x21 =>
      let m := f32Fma .rne (e.d.param 0) m0 g.w
      (m.w, m.w, 0, m.flags)
    | _ => (g.w, 0, 0, 0)
  let lam := e.d.param 3
  let u1 : R32 := if isZeroW lam then ⟨u, 0⟩ else f32Fma .rne lam w.hi u
  let (w1, fw) := if e.d.out.pair then pairAccProduct w (negW e.s0) u1.w else (let r := f32Fma .rne (negW e.s0) u1.w w.hi; (⟨r.w, 0⟩, r.flags))
  ((w1, m, v), g.flags ||| fu ||| u1.flags ||| fw)

/-- A slot moved by SHADOW_DELTA. -/
def shadowSlot (d : Desc) (x : Slot) : Slot := { x with loc := d.shadow x.loc }

def runOpt (e : SCtx) (op : Nat) (x : Run) : Run :=
  (List.range e.d.rows).foldl (fun (x : Run) r =>
    let ws := rowElems e x.s e.d.out r
    let gs := rowElems e x.s e.d.a r
    let ms := if e.d.b.used then rowElems e x.s e.d.b r else []
    let vs := if e.d.c.used then rowElems e x.s e.d.c r else []
    let p := elemsPoison (ws ++ gs ++ ms ++ vs)
    let hi (l : List Elem) (i : Nat) : Word32 := (l[i]?.map (·.p.hi)).getD 0
    let out := ws.zipIdx.map (fun w => optStep e op w.1.p (hi gs w.2) (hi ms w.2) (hi vs w.2))
    let x1 := x.note (elemsFl (ws ++ gs ++ ms ++ vs) ||| out.foldl (fun a o => a ||| o.2) 0) p
    let x2 := x1.row e (shadowSlot e.d e.d.out) false r (out.map (·.1.1)) p.isSome
    let x3 := if e.d.b.used then x2.row e (shadowSlot e.d e.d.b) false r (out.map (fun o => ⟨o.1.2.1, 0⟩)) p.isSome else x2
    let x4 := if e.d.c.used then x3.row e (shadowSlot e.d e.d.c) false r (out.map (fun o => ⟨o.1.2.2, 0⟩)) p.isSome else x3
    if e.d.aux0 = 0 then x4
    else
      let (s1, cs, fl) := narrow e x4.s e.d.auxTy e.d.round (out.map (·.1.1.hi))
      ({ x4 with s := s1, fl := x4.fl ||| fl }).bytes 16 (8 * (e.d.aux0 + r * e.d.out.stride)) cs p.isSome) x

/-! ## Multi-pass integer results (R249) -/

def runLimb (e : SCtx) (x : Run) : Run :=
  let n := 2 * limbsOf ((e.d.param 0).toNat) - 1
  (List.range e.d.rows).foldl (fun (x : Run) r =>
    let k := x.s.cluster e.c
    let t (i : Nat) : Nat := e.base + e.d.a.tile + i
    let cs := (List.range 32).map (fun c => unsign 64 ((List.range n).foldl (fun a i => a + (k.accGet (t i) r c).toInt * ((2 ^ (8 * i) : Nat) : Int)) 0))
    let p := ((List.range n).find? (fun i => (Sparse.get TileMeta.fresh e.tm (t i)).poison.getLsbD r)).map (fun i => (4096 * (e.d.a.tile + i) + 128 * r, 4))
    (x.note 0 p).bytes 64 (8 * (e.d.out.loc + r * e.d.out.stride)) cs p.isSome) x

/-! ## Starting the head (R229, R236, R250 to R254) -/

/-- Reads per row (Table 7.2). -/
def readsPerRow (op : Nat) : Nat := match op with | 0x10 | 0x11 => 3 | 0x12 => 2 | _ => 1

def runCommand (e : SCtx) (op : Nat) (x : Run) : Run :=
  match op with
  | 0x01 | 0x02 | 0x03 | 0x04 => runEw e op x
  | 0x08 | 0x09 | 0x0A | 0x0B => runReduce e op x
  | 0x0C => runSsq e x
  | 0x10 => runSoftmax e x
  | 0x11 => runNorm e false x
  | 0x12 => runNorm e true x
  | 0x18 => runQuant e x
  | 0x20 | 0x21 | 0x22 => runOpt e op x
  | _ => runLimb e x

/-- Errors in the scratchpad rows a command reads are met before its elements are. -/
def touchSlot (d : Desc) (s : State) (x : Slot) : State :=
  if !x.used || x.space then s
  else if x.bcast = 2 then touch s x.loc (rowBytes x d.rows)
  else if x.bcast = 1 then touch s x.loc (rowBytes x d.cols)
  else (List.range d.rows).foldl (fun t r => touch t (x.loc + r * x.stride) (rowBytes x d.cols)) s

def popStream (s : State) (c : Nat) : State :=
  let k := s.cluster c
  s.setCluster c { k with sq := k.sq.drop 1, head := none }

def addSe (s : State) (c : Nat) (fl : Flags) : State :=
  let k := s.cluster c
  s.setCluster c { k with seFlags := k.seFlags ||| fl }

/-- The head command starts and runs; a wait or a descriptor not yet read holds it. -/
def streamCommandStart (s : State) (c : Nat) : State :=
  let k := s.cluster c
  match k.sq with
  | .cmd op ctx base _ obj site desc inline s0 s1 s2 s3 epoch :: _ =>
    let dn : Done := { engine := .stream, ctx := ctx, obj := obj, site := site, mark := none }
    let go (d : Desc) (hasStatus : Bool) : State :=
      match s.ctx? ctx with
      | none => s
      | some cx =>
        let t0 := (popStream s c).bump 0x0A000701 1
        let t1 := (d.slots.foldl (touchSlot d) t0).bump 0x0A000702 (d.rows * d.cols * readsPerRow op)
        let e : SCtx := { c := c, ctx := ctx, cx := cx, base := base, d := d, tm := k.tmeta, s0 := s0, s1 := s1, s2 := s2, s3 := s3, epoch := epoch }
        let r := runCommand e op { s := t1, fl := 0, mark := none, bad := false, tiles := [], parts := noParts }
        let t2 := addSe (r.s.setCluster c (finishTiles (r.s.cluster c) r.tiles)) c r.fl
        let t3 := if hasStatus then storeMem t2 (desc + 124) (leBytes 4 (if r.bad then stPOISONED else 0)) else t2
        addDone t3 c { dn with mark := if r.bad then poisonMark r.mark else none }
    if op = 0 then addDone ((popStream s c).bump 0x0A000701 1) c dn
    else
      match inline, k.head with
      | some w, _ => go (inlineDesc op w) false
      | none, some h =>
        if h.waiting then s
        else if h.code = 0 then go (Desc.ofBytes h.bytes) true
        else
          let t1 := (addSe (popStream s c) c fINV).bump 0x0A000703 1
          let t2 := storeMem t1 (desc + 124) (leBytes 4 (h.code + 256 * h.offset))
          addDone t2 c { dn with mark := if h.code = stDESC_POISON then some (1, desc, 2) else none }
      | none, none => s
  | _ => s

end Sys2Proof.Machine
end

