-- ==== Sys2Proof/Machine/Virdy.lean ====
section
/-! DEFINITION. Issue of a group's next instruction (R81, R88, R100, R105, R107, R112) and the rows of the Virdy instructions: the row of an
instruction runs when that instruction is what the group issues next, and changes nothing otherwise. -/

namespace Sys2Proof.Machine

open Sys2Proof

/-! ## Checks and effects by instruction -/

/-- Traps met before anything is performed, poison excepted: ILLEGAL_OP, COLLECTIVE_SPLIT at BAR, MISALIGNED, ACCESS, WATCH. -/
def checkOf (m : Mn) (e : Env) (s : State) : Option Trap :=
  match m with
  | .brx | .ret => checkIndirect e
  | .bar => checkBar e
  | .brk => checkBrk e
  | .ld => checkAccess 1 e s
  | .st => checkAccess 2 e s
  | .atomAdd | .atomMin | .atomMax | .atomAnd | .atomOr | .atomXor | .atomXchg | .atomCas => checkAccess 3 e s
  | .dma => checkDma e s
  | .mcfg => checkMcfg e s
  | .mload => checkMload e s
  | .mmul => checkMmul e s
  | .mfill => checkMfill e s
  | .madapt => checkMadapt e s
  | .mdrain => checkMdrain e s
  | .streamIssue => checkStream e s
  | .sigAdd => checkRef .sig 3 e s
  | .sigSet => checkRef .sig 2 e s
  | .waitGe => checkRef .wait 1 e s
  | .waitTake => checkRef .wait 3 e s
  | .put => checkPut e s
  | .get => checkGet e s
  | .acc => checkAcc e s
  | .coll => checkColl e s
  | .scrd => checkScrd e s
  | .scwr => checkScwr e s
  | _ => none

def runOf (m : Mn) (e : Env) (s : State) : Res :=
  match m with
  | .mov => runMov e s
  | .add => runAdd e s
  | .sub => runSub e s
  | .mul => runMul e s
  | .mulhi => runMulhi e s
  | .mad => runMad e s
  | .min => runMin e s
  | .max => runMax e s
  | .and => runAnd e s
  | .or => runOr e s
  | .xor => runXor e s
  | .shl => runShl e s
  | .shr => runShr e s
  | .sar => runSar e s
  | .popc => runPopc e s
  | .clz => runClz e s
  | .sel => runSel e s
  | .rdlane => runRdlane e s
  | .sreg => runSreg e s
  | .fadd => runFadd e s
  | .fsub => runFsub e s
  | .fmul => runFmul e s
  | .ffma => runFfma e s
  | .fmin => runFmin e s
  | .fmax => runFmax e s
  | .fabs => runFabs e s
  | .fneg => runFneg e s
  | .rcp => runRcp e s
  | .rsq => runRsq e s
  | .sqrt => runSqrt e s
  | .exp2 => runExp2 e s
  | .log2 => runLog2 e s
  | .cvtRne => runCvtRne e s
  | .cvtRtz => runCvtRtz e s
  | .cvtSr => runCvtSr e s
  | .isetp => runIsetp e s
  | .fsetp => runFsetp e s
  | .pand => runPand e s
  | .por => runPor e s
  | .pxor => runPxor e s
  | .pnot => runPnot e s
  | .ballot => runBallot e s
  | .bra => runBra e s
  | .brx => runBrx e s
  | .call => runCall e s
  | .ret => runRet e s
  | .exit => runExit e s
  | .conv => runConv e s
  | .bar => runBar e s
  | .actmask => runActmask e s
  | .virdyNop => runVirdyNop e s
  | .ld => runLd e s
  | .st => runSt e s
  | .fence => runFence e s
  | .dma => runDma e s
  | .atomAdd => runAtomAdd e s
  | .atomMin => runAtomMin e s
  | .atomMax => runAtomMax e s
  | .atomAnd => runAtomAnd e s
  | .atomOr => runAtomOr e s
  | .atomXor => runAtomXor e s
  | .atomXchg => runAtomXchg e s
  | .atomCas => runAtomCas e s
  | .mcfg => runMcfg e s
  | .mload => runMload e s
  | .mmul => runMmul e s
  | .mfill => runMfill e s
  | .madapt => runMadapt e s
  | .mdrain => runMdrain e s
  | .streamIssue => runStream e s
  | .sigAdd => runSigAdd e s
  | .sigSet => runSigSet e s
  | .waitGe => runWaitGe e s
  | .waitTake => runWaitTake e s
  | .put => runPut e s
  | .get => runGet e s
  | .acc => runAcc e s
  | .coll => runColl e s
  | .flagrd => runFlagrd e s
  | .flagclr => runFlagclr e s
  | .scrd => runScrd e s
  | .scwr => runScwr e s
  | .brk => runBrk e s
  | .reserved => .notReady

/-! ## The next instruction of a group -/

/-- What stands at an address that holds no instruction word: nothing that Table 4.4 assigns (R10). -/
def noInsn (pc : Nat) : Insn :=
  { addr := pc, word := 0, ext := none, op := 0, cls := 13, x := false, pn := false, pg := 0, pge := false, dst := 0, s0 := 0, s1 := 0, s2 := 0, mod := 0,
    top := 0, i := false, imm := 0 }

def noForm : Form := form .reserved [] [] [] [] .no modZero

/-- The address and threads a group issues for: a collective instruction at which every live thread is parked (R100 cases 1 and 6), else the
selected subset (R88). -/
def nextAt (gr : Group) : Option (Nat × BitVec 64) :=
  if gr.collMask != 0 && gr.collMask == gr.live then some (gr.collPc.toNat, gr.live) else gr.select

/-- The instruction a group stands at, with its environment. -/
def nextEnv (s : State) (g : GroupId) : Option Env :=
  match s.group? g with
  | none => none
  | some gr =>
    match s.ctx? gr.ctx, blockOf s g.cluster gr.block, nextAt gr with
    | some c, some b, some (pc, m) =>
      let i := (insnAt c.code pc).getD (noInsn pc)
      some { g := g, gr := gr, c := c, blk := b, i := i, f := (formOf i).getD noForm, mask := m, act := guardMask gr i m }
    | _, _, _ => none

def Env.mn (e : Env) : Mn := mnOf e.i

/-- Enabled breakpoints of the unit that match (R114): the lowest index. -/
def Env.bpHit (s : State) (e : Env) : Option Nat :=
  (List.find? (fun (b : Nat × Bp) => b.2.ctx == e.ctx && b.2.slots.getLsbD e.g.slot && decide (b.2.addr = BitVec.ofNat 64 e.pc)) (s.unitSt (unitKey e.g)).bps).map (·.1)

/-- R100 at an arrival: cases 3 and 5 of Table 3.5. -/
def Env.collSplit (e : Env) : Option Trap :=
  if e.gr.collMask != 0 && e.gr.collPc.toNat != e.pc then some (e.split e.gr.collPc.toNat e.gr.collMask)
  else if e.gr.barMask != 0 then some (e.split (e.gr.pcGet ((threads e.gr.barMask).headD 0)).toNat e.gr.barMask)
  else none

/-- An instruction that is ready meets its trap conditions in the order of R107, or is performed. -/
def perform (e : Env) (s : State) : Res :=
  if e.act = 0 then .done s
  else
    match checkOf e.mn e s with
    | some t => .trap t
    | none =>
      match e.poisonTrap with
      | some t => .trap t
      | none => runOf e.mn e s

/-- The queue a collective instruction feeds has room (R81). -/
def Env.collRoom (e : Env) (s : State) : Bool :=
  let k := s.cluster e.g.cluster
  if e.mn = .streamIssue then decide (k.sq.length < streamRoom) else decide (k.mq.length < matRoom)

/-- A subset reaches a collective instruction (R100): split, parked, or performed once every live thread is there. -/
def arriveColl (e : Env) (s : State) : Res :=
  if !e.collRoom s then .notReady
  else if e.gr.collMask == e.gr.live then perform e s
  else
    match e.collSplit with
    | some t => .trap t
    | none =>
      let all := e.gr.collMask ||| e.mask
      let parked := e.update s (fun gr => { gr with collMask := all, collPc := BitVec.ofNat 64 e.pc })
      if all = e.gr.live then
        match perform { e with mask := all, act := all, gr := { e.gr with collMask := all, collPc := BitVec.ofNat 64 e.pc } } parked with
        | .notReady => .parked parked
        | .trap t => .trap t
        | r => r
      else .parked parked

/-- What issuing the instruction at `e` does. -/
def attempt (e : Env) (s : State) : Res :=
  if e.mn != .reserved && (marked e.gr e.f e.i || (takesEntry e.mn e.i && !entryFree e.gr e.c)) then .notReady
  else
    match (if e.gr.skipBp then none else Env.bpHit s e) with
    | some k => .trap (e.trap tBREAKPOINT k 0 0)
    | none =>
      if e.mn = .reserved then .trap e.illegal
      else if actsOf e.i = .collective then arriveColl e s
      else perform e s

/-- After an instruction has issued: breakpoints are checked again, the unit's pointer stands at the group, and the issue is counted (R82, R112). -/
def afterIssue (s : State) (g : GroupId) : State :=
  let s1 := match s.group? g with
    | some gr => s.setGroup g { gr with skipBp := false }
    | none => s
  let u := s1.unitSt (unitKey g)
  (s1.setUnit (unitKey g) { u with ptr := g.slot }).bump 0x09000003 1

/-- The threads of a committed instruction continue at the next one; a collective instruction releases those parked at it. -/
def advance (e : Env) (s : State) : State :=
  match s.group? e.g with
  | some gr =>
    let gr1 := gr.pcAll (if actsOf e.i = .collective then gr.live else e.mask) e.i.next
    s.setGroup e.g (if actsOf e.i = .collective then { gr1 with collMask := 0 } else gr1)
  | none => s

/-- The state after an attempt. -/
def settleRes (e : Env) (s : State) (r : Res) : State :=
  match r with
  | .done t => advance e (afterIssue t e.g)
  | .jumped t => afterIssue t e.g
  | .parked t => afterIssue t e.g
  | .trap t => takeTrap s e.g t
  | .notReady => s

/-- The row of instruction `m`: the group issues it when it is ACTIVE, not stalled on a wait, and stands at it. -/
def issue (m : Mn) (g : GroupId) (s : State) : State :=
  match nextEnv s g with
  | none => s
  | some e => if e.gr.st = .active ∧ e.gr.stalled = false ∧ e.mn = m then settleRes e s (attempt e s) else s

end Sys2Proof.Machine
end

