-- ==== Sys2Proof/Machine/Debug.lean ====
section
/-! DEFINITION. The debug commands (R109 to R116, Tables 3.9 to 3.12). -/

namespace Sys2Proof.Machine

open Sys2Proof

/-! ## Checks (R22, R109) -/

/-- The site word in ARGS and the group it names. -/
def OutCmd.site (c : OutCmd) : BitVec 32 := BitVec.ofNat 32 (c.arg 0 4)
def OutCmd.group (c : OutCmd) : GroupId := { cluster := siteCluster c.site, unit := siteUnit c.site, slot := siteSlot c.site }

/-- A site word must agree with itself, and every bit from `lo` to 21 that the command does not use must be zero. -/
def badSite (c : OutCmd) (lo : Nat) : Bool := !siteAgrees c.site || c.site.toNat / 2 ^ lo % 2 ^ (22 - lo) != 0

/-- Bytes of ARGS beyond those used must be zero. -/
def unusedArgs (c : OutCmd) (used : Nat) : List (Bool × Nat) := (List.range (24 - used)).map (fun i => (byteAt c.args (used + i) != 0, 40 + used + i))

def badDebug (s : State) (_ : RingId) (c : OutCmd) : List (Bool × Nat) := (noCtx s c, 32) :: unusedArgs c 0

def badDebugGroup (s : State) (_ : RingId) (c : OutCmd) : List (Bool × Nat) := [(noCtx s c, 32), (badSite c 16, 40)] ++ unusedArgs c 4

/-- The group debugger column of Table 14.11, with the reasons of R472. -/
def debugDenied (s : State) (fn : Nat) (x : Ctx) : Option Nat :=
  if !fnOwns fn x.slot then some dFUNCTION
  else if s.keep.lc = 4 then (if fn = 0 then none else some dLIFE_CYCLE)
  else if s.keep.lc = 2 then
    if x.owner = fn then none else if (s.part? x.slot).adminDebug then none else some dADMIN_DEBUG
  else if s.keep.lc = 5 ∨ s.keep.lc = 7 then some dLIFE_CYCLE
  else none

def onCtx (s : State) (r : RingId) (c : OutCmd) (f : Ctx → Ran) : Ran :=
  match s.ctx? c.context with
  | none => .badArg s 32
  | some x =>
    match debugDenied s r.fn x with
    | some d => .denied s d
    | none => f x

/-- State codes of Table 3.6. -/
def gstateCode : GState → Nat
  | .active => 1
  | .halted => 2
  | .held => 3

/-- The group the site names, of this context and in one of the states; a slot that holds no group of it is FREE. -/
def onGroup (s : State) (r : RingId) (c : OutCmd) (ok : Group → Bool) (f : Ctx → Group → Ran) : Ran :=
  onCtx s r c (fun x =>
    match s.group? c.group with
    | none => .notInState s 0
    | some gr => if gr.ctx != c.context then .notInState s 0 else if ok gr then f x gr else .notInState s (gstateCode gr.st))

def isActiveGroup (gr : Group) : Bool := gr.st == .active
def isStopped (gr : Group) : Bool := gr.st == .halted || gr.st == .held
/-- Stopped, and not held by a halt wave, which only Mirsis ends (Table 3.6). -/
def isOurs (gr : Group) : Bool := isStopped gr && !(gr.st == .held && gr.lastTrap == tHALT_WAVE)

/-! ## Attach and detach -/

def cmdDbgAttach : Cmd :=
  { code := 0x0900, fixed := 0, bad := badDebug,
    run := fun s r c => onCtx s r c (fun x => .ok (s.setCtx c.context { x with hold := true })) }

/-- Breakpoints and watchpoints of a context removed. -/
def clearPoints (s : State) (n : Nat) : State :=
  let us : List (Nat × UnitSt) := s.units.map (fun (e : Nat × UnitSt) => (e.1, { e.2 with bps := e.2.bps.filter (fun (b : Nat × Bp) => b.2.ctx != n) }))
  let cs : List (Nat × Cluster) := s.clusters.map (fun (e : Nat × Cluster) => (e.1, { e.2 with wps := e.2.wps.filter (fun (w : Nat × Wp) => w.2.ctx != n) }))
  { s with units := us.filter (fun e => decide (e.2 ≠ UnitSt.fresh)), clusters := cs.filter (fun e => decide (e.2 ≠ Cluster.fresh)) }

/-- A stopped group runs on: its next instruction is not checked against breakpoints (R112), and a barrier it starved at counts from zero (R97). -/
def resumeGroup (s : State) (g : GroupId) : State :=
  match s.group? g with
  | none => s
  | some gr =>
    let s1 := if gr.lastTrap = tBARRIER_STARVED then
        (List.range 4).foldl (fun t n => if barAt gr n != 0 then setWd t g.cluster gr.block n 0 else t) s
      else s
    settleGroup (s1.setGroup g { gr with st := .active, lastTrap := 0, skipBp := true }) g

/-- A group held by a fault: not by a debug trap, and not by a halt wave. -/
def heldByFault (gr : Group) : Bool :=
  gr.st == .held && !([tBREAKPOINT, tSTEP_DONE, tWATCH, tHALT_WAVE].contains gr.lastTrap)

def detachDebugger (s : State) (n : Nat) (x : Ctx) : State :=
  let s1 := clearPoints (s.setCtx n { x with hold := false }) n
  let s2 := (ctxGroups s1 n).foldl (fun t g => if (t.group? g).any (fun gr => gr.st == .halted) then resumeGroup t g else t) s1
  match (ctxGroups s2 n).find? (fun g => (s2.group? g).any heldByFault) with
  | some g => killByTrap s2 n (groupSite g).toNat (((s2.group? g).map (·.lastTrap)).getD 0)
  | none => s2

def cmdDbgDetach : Cmd :=
  { code := 0x0901, fixed := 0, bad := badDebug, run := fun s r c => onCtx s r c (fun x => .ok (detachDebugger s c.context x)) }

/-! ## Halt, resume, kill -/

/-- The subset R88 would select. -/
def nextPc (gr : Group) : Nat × BitVec 64 := (nextAt gr).getD (0, 0)

/-- DBG_HALT takes effect once every scoreboard entry can retire (R110). -/
def cmdDbgHalt : Cmd :=
  { code := 0x0902, fixed := 16, bad := badDebugGroup,
    run := fun s r c => onGroup s r c isActiveGroup (fun _ gr =>
      if gr.pend.all (·.ready) then
        let gr1 := { retire gr with st := .halted }
        .okWith (s.setGroup c.group gr1) (leBytes 8 (nextPc gr1).1 ++ leBytes 8 (nextPc gr1).2.toNat)
      else .later) }

def cmdDbgResume : Cmd :=
  { code := 0x0903, fixed := 0, bad := badDebugGroup, run := fun s r c => onGroup s r c isOurs (fun _ _ => .ok (resumeGroup s c.group)) }

def cmdDbgKill : Cmd :=
  { code := 0x0909, fixed := 0, bad := badDebugGroup, run := fun s r c => onGroup s r c isStopped (fun _ _ => .ok (killGroup s c.group)) }

/-! ## Single step (R111) -/

/-- STEP_DONE: recorded and posted like every trap (R108); the group stands HALTED at the boundary it reached. -/
def stepDone (s : State) (g : GroupId) (gr : Group) (x : Ctx) (pc : Nat) (m : BitVec 64) (parked : Bool) : Ran :=
  let rec_ := trapRecord s g gr { mkTrap tSTEP_DONE 0 0 0 pc m with parked := parked } false
  let s1 := (if (s.group? g).isSome then s.setGroup g { gr with st := .halted, lastTrap := 0 } else s).bump 0x09000008 1
  .okWith (postEvent s1 (ownerFn x) 0x0980 (groupSite g).toNat rec_) rec_

/-- The record of the trap that holds a group: the latest TRAP event of its site. -/
def heldRecord (s : State) (fn : Nat) (g : GroupId) : List Byte :=
  (((s.fev fn).recs.reverse.find? (fun e => e.code == 0x0980 && e.detail == (groupSite g).toNat)).map (·.bytes)).getD (zeros 256)

/-- Where the stepped subset stands afterwards: its lowest live thread's address and the threads of the subset there. -/
def standsAt (gr : Group) (m : BitVec 64) : Nat × BitVec 64 :=
  match (threads (m &&& gr.live)).head? with
  | some t => ((gr.pcGet t).toNat, gr.sameAs (m &&& gr.live) t)
  | none => (0, 0)

/-- One instruction of the selected subset. A step whose results are still on their way, or which stalled on a wait, completes later. -/
def stepOnce (s : State) (c : OutCmd) (x : Ctx) (gr : Group) : Ran :=
  let g := c.group
  let s0 := s.setGroup g { gr with st := .active, skipBp := true, lastTrap := 0 }
  match (if gr.stalled then none else nextEnv s0 g) with
  | none => .notInState s 0x10
  | some e =>
    match attempt e s0 with
    | .notReady => .later
    | .trap t =>
      let s1 := takeTrap s0 g t
      .okWith s1 (heldRecord s1 (ownerFn x) g)
    | r =>
      let s1 := settleRes e s0 r
      let parked := match r with | .parked _ => true | _ => false
      match s1.group? g with
      | none => stepDone s1 g { gr with live := 0 } x e.i.next e.mask parked
      | some y =>
        if y.stalled || y.pend.any (fun p => !p.ready) then .keep (s1.setGroup g { y with st := .halted }) 2
        else if y.st = .held then .okWith s1 (heldRecord s1 (ownerFn x) g)
        else
          let z := retire y
          let s2 := settleGroup (s1.setGroup g z) g
          let at_ := if parked then (e.pc, e.mask) else standsAt z e.mask
          stepDone s2 g z x at_.1 at_.2 parked

/-- A step that waited: aborted when the context was killed (Table 3.12), else done once its results are written. -/
def stepAgain (s : State) (c : OutCmd) : Ran :=
  match s.ctx? c.context, s.group? c.group with
  | some x, some y =>
    if y.st = .held then .okWith s (heldRecord s (ownerFn x) c.group)
    else if y.stalled || y.pend.any (fun p => !p.ready) then .later
    else
      let z := retire y
      stepDone (s.setGroup c.group z) c.group z x (nextPc z).1 (nextPc z).2 false
  | _, _ => .fin s sABORTED 1 []

def cmdDbgStep : Cmd :=
  { code := 0x0904, fixed := 256, bad := badDebugGroup, run := fun s r c => onGroup s r c isOurs (fun x gr => stepOnce s c x gr),
    again := fun s _ c => stepAgain s c }

/-! ## Register image (Table 3.11, R113) -/

def collParked (gr : Group) : BitVec 64 := gr.collMask

def image (g : GroupId) (gr : Group) : List Byte :=
  [BitVec.ofNat 8 (gstateCode gr.st), BitVec.ofNat 8 gr.lastTrap] ++ zeros 2 ++ leBytes 4 (groupSite g).toNat ++ leBytes 8 gr.live.toNat ++
  leBytes 8 gr.convMask.toNat ++ leBytes 8 gr.barMask.toNat ++ leBytes 8 (collParked gr).toNat ++ leBytes 8 (nextPc gr).1 ++
  leBytes 8 (nextPc gr).2.toNat ++ zeros 8 ++ (List.range 64).flatMap (fun t => leBytes 8 (gr.pcGet t).toNat) ++
  (List.range 32).flatMap (fun n => leBytes 8 (gr.uGet n).toNat) ++
  (List.range 64).map (fun t => BitVec.ofNat 8 ((List.range 8).foldl (fun a k => a + (if gr.pGet k t then 2 ^ k else 0)) 0)) ++
  (List.range 64).flatMap (fun t => (List.range 64).flatMap (fun r => leBytes 4 (gr.vGet r t).toNat))

def cmdDbgRead : Cmd :=
  { code := 0x0905, fixed := 17280, bad := badDebugGroup, run := fun s r c => onGroup s r c isStopped (fun _ gr => .okWith s (image c.group gr)) }

/-- PCs of live threads that are no instruction boundary, with the offsets of R113. -/
def badPcs (s : State) (c : OutCmd) : List (Bool × Nat) :=
  match s.ctx? c.context, s.group? c.group with
  | some x, some gr =>
    if gr.ctx = c.context ∧ c.arg 4 1 % 2 = 1 then
      (threads gr.live).map (fun t => (!isBoundary x.code (c.pay (64 + 8 * t) 8), 128 + 8 * t))
    else []
  | _, _ => []

def writePcs (c : OutCmd) (gr : Group) : Group :=
  (threads gr.live).foldl (fun x t => x.pcPut t (BitVec.ofNat 64 (c.pay (64 + 8 * t) 8))) { gr with sites := [], bars := [], collMask := 0 }

def writeU (c : OutCmd) (gr : Group) : Group := (List.range 32).foldl (fun x n => x.uPut n (BitVec.ofNat 64 (c.pay (576 + 8 * n) 8))) gr

def writeP (c : OutCmd) (gr : Group) : Group :=
  (threads gr.live).foldl (fun x t => (List.range 8).foldl (fun y k => y.pPut k t ((byteAt c.payload (832 + t)).getLsbD k)) x) gr

def writeV (c : OutCmd) (gr : Group) : Group :=
  (threads gr.live).foldl (fun x t => (List.range 64).foldl (fun y r => y.vPut r t (BitVec.ofNat 32 (c.pay (896 + 256 * t + 4 * r) 4))) x) gr

/-- The fields the select bits name; every other field, and values of exited threads, are ignored. -/
def writeImage (c : OutCmd) (gr : Group) : Group :=
  let sel := c.arg 4 1
  let g1 := if sel % 2 = 1 then writePcs c gr else gr
  let g2 := if sel / 2 % 2 = 1 then writeU c g1 else g1
  let g3 := if sel / 4 % 2 = 1 then writeP c g2 else g2
  if sel / 8 % 2 = 1 then writeV c g3 else g3

def cmdDbgWrite : Cmd :=
  { code := 0x0906, fixed := 0,
    bad := fun s _ c => [(noCtx s c, 32), (decide (c.payloadLen < 17280), 8), (badSite c 16, 40), (decide (16 ≤ c.arg 4 1), 44)] ++ unusedArgs c 5 ++ badPcs s c,
    run := fun s r c => onGroup s r c isStopped (fun _ gr => .ok (s.setGroup c.group (writeImage c gr))) }

/-! ## Breakpoints, watchpoints, status (R114, R115) -/

def cmdDbgBpSet : Cmd :=
  { code := 0x0907, fixed := 0,
    bad := fun s _ c => [(noCtx s c, 32), (badSite c 12, 40), (decide (7 < c.arg 4 1), 44), (decide (1 < c.arg 5 1), 45)] ++ unusedArgs c 16,
    run := fun s r c => onCtx s r c (fun _ =>
      let k := unitKey c.group
      let u := s.unitSt k
      let b : Bp := { ctx := c.context, slots := BitVec.ofNat 16 (c.arg 6 2), addr := BitVec.ofNat 64 (c.arg 8 8) }
      if (Sparse.find? u.bps (c.arg 4 1)).any (fun x => x.ctx != c.context) then .resource s 9
      else if c.arg 5 1 = 0 then .ok (s.setUnit k { u with bps := Sparse.del u.bps (c.arg 4 1) })
      else .ok (s.setUnit k { u with bps := Sparse.set u.bps (c.arg 4 1) b })) }

/-- The range of a watchpoint: aligned to its size, within the scratchpad window. -/
def wpRangeBad (l base : Nat) : Bool := base % 2 ^ l != 0 || decide (base < 0x1000_0000_0000) || decide (0x1005_0000_0000 < base + 2 ^ l)

def cmdDbgWpSet : Cmd :=
  { code := 0x0908, fixed := 0,
    bad := fun s _ c =>
      let on := c.arg 5 1 != 0
      let l := c.arg 6 1
      [(noCtx s c, 32), (badSite c 10, 40), (decide (3 < c.arg 4 1), 44), (decide (3 < c.arg 5 1), 45), (on && (decide (l < 3) || decide (25 < l)), 46),
       (c.arg 7 1 != 0, 47), (on && wpRangeBad (l % 64) (c.arg 8 8), 48)] ++ unusedArgs c 16,
    run := fun s r c => onCtx s r c (fun _ =>
      let n := siteCluster c.site
      let k := s.cluster n
      if (Sparse.find? k.wps (c.arg 4 1)).any (fun w => w.ctx != c.context) then .resource s 0
      else if c.arg 5 1 = 0 then .ok (s.setCluster n { k with wps := Sparse.del k.wps (c.arg 4 1) })
      else
        let w : Wp := { ctx := c.context, kind := c.arg 5 1, l := c.arg 6 1, base := c.arg 8 8 }
        .ok (s.setCluster n { k with wps := Sparse.set k.wps (c.arg 4 1) w })) }

def statusLine (s : State) (g : GroupId) : List Byte :=
  match s.group? g with
  | none => []
  | some gr => leBytes 4 (groupSite g).toNat ++ [BitVec.ofNat 8 (gstateCode gr.st), BitVec.ofNat 8 gr.lastTrap] ++ zeros 2 ++ leBytes 8 (nextPc gr).1

def cmdDbgStatus : Cmd :=
  { code := 0x090A, fixed := 0, bad := badDebug,
    run := fun s r c => onCtx s r c (fun _ => listResult s c (fun _ => []) ((ctxGroups s c.context).map (statusLine s))) }

/-! ## Rows -/

def execDbgAttach (r : RingId) (tag : BitVec 16) (s : State) : Host.Outcome State Fault Refusal := runCmd cmdDbgAttach r tag s
def execDbgDetach (r : RingId) (tag : BitVec 16) (s : State) : Host.Outcome State Fault Refusal := runCmd cmdDbgDetach r tag s
def execDbgHalt (r : RingId) (tag : BitVec 16) (s : State) : Host.Outcome State Fault Refusal := runCmd cmdDbgHalt r tag s
def execDbgResume (r : RingId) (tag : BitVec 16) (s : State) : Host.Outcome State Fault Refusal := runCmd cmdDbgResume r tag s
def execDbgStep (r : RingId) (tag : BitVec 16) (s : State) : Host.Outcome State Fault Refusal := runCmd cmdDbgStep r tag s
def execDbgRead (r : RingId) (tag : BitVec 16) (s : State) : Host.Outcome State Fault Refusal := runCmd cmdDbgRead r tag s
def execDbgWrite (r : RingId) (tag : BitVec 16) (s : State) : Host.Outcome State Fault Refusal := runCmd cmdDbgWrite r tag s
def execDbgBpSet (r : RingId) (tag : BitVec 16) (s : State) : Host.Outcome State Fault Refusal := runCmd cmdDbgBpSet r tag s
def execDbgWpSet (r : RingId) (tag : BitVec 16) (s : State) : Host.Outcome State Fault Refusal := runCmd cmdDbgWpSet r tag s
def execDbgKill (r : RingId) (tag : BitVec 16) (s : State) : Host.Outcome State Fault Refusal := runCmd cmdDbgKill r tag s
def execDbgStatus (r : RingId) (tag : BitVec 16) (s : State) : Host.Outcome State Fault Refusal := runCmd cmdDbgStatus r tag s

end Sys2Proof.Machine
end

