-- ==== Sys2Proof/Machine/Mem.lean ====
section
/-! DEFINITION. The memory commands (R299, R305 to R307, R315, R316, Tables 9.4 and 9.10), patrol scrub, and errors in stored bits. -/

namespace Sys2Proof.Machine

open Sys2Proof

/-! ## MEM_INFO -/

/-- One slot's 8 bytes as function `fn` sees them. -/
def slotInfo (s : State) (fn k : Nat) : List Byte :=
  match s.mem.slot k with
  | .free => [0, 0xFF] ++ zeros 6
  | .near m => [1, 0xFF, BitVec.ofNat 8 (if fn = 0 then m.toNat else m.toNat &&& 2 ^ (fn - 1))] ++ zeros 5
  | .far w => [2, BitVec.ofNat 8 (if fn = 0 ∨ w = 6 ∨ w + 1 = fn then w else 7)] ++ zeros 6

def slotsWhere (s : State) (f : SlotMode → Bool) : List Nat := (List.range (slotCount s.part.order)).filter (fun k => f (s.mem.slot k))

def isFree : SlotMode → Bool
  | .free => true
  | _ => false

def isShared : SlotMode → Bool
  | .far w => w == 6
  | _ => false

def cmdMemInfo : Cmd :=
  { code := 0x0300, fixed := 0, bad := fun s _ c => [(decide (c.resultLen < 16 + 8 * slotCount s.part.order), 12)],
    run := fun s r _ => .okWith s
      ([BitVec.ofNat 8 (match s.part.order with | .h96 => 1 | .h64 => 2 | .h96e => 3), BitVec.ofNat 8 (slotCount s.part.order),
        BitVec.ofNat 8 (slotsWhere s isFree).length, BitVec.ofNat 8 (slotsWhere s isShared).length] ++ zeros 12 ++
       (List.range (slotCount s.part.order)).flatMap (slotInfo s r.fn)) }

/-! ## MEM_MAP and MEM_UNMAP (R299, R316) -/

/-- What holds the byte at `a`, seen from partition slot `i` (Table 9.4): where that piece ends, and the rights that may be granted (0, 1 or 3). -/
def grantPiece (s : State) (i a : Nat) : Nat × Nat :=
  match placeOf s.part.order a with
  | .scratch c _ => (spOf (c + 1), if clusterOfSlot i c then 3 else 0)
  | .slot k off =>
    match s.mem.slot k with
    | .near _ => (slotBytes * k + 0x8000_0000 * (off / 0x8000_0000 + 1), if i < 6 ∧ ownerOf s.part.order s.mem a = some i then 3 else 0)
    | .far w => (slotBytes * (k + 1), if w = 6 then 1 else if i < 6 ∧ w = i then 3 else 0)
    | .free => (slotBytes * (k + 1), 0)
  | .rem d off => (a - off + remPiece s.part.order, if i < 6 ∧ d / 4 = i then 3 else 0)
  | _ => (a + 1, 0)

/-- Rights that may be granted over the whole range: the least over its pieces. -/
def grantable : Nat → State → Nat → Nat → Nat → Nat
  | 0, _, _, _, _ => 0
  | fuel + 1, s, i, a, hi =>
    let (next, rights) := grantPiece s i a
    if rights = 0 then 0 else if hi ≤ next then rights else Nat.min rights (grantable fuel s i next hi)

/-- Shared slots that a range reaches. -/
def sharedIn (s : State) (a n : Nat) : List Nat := (slotsWhere s isShared).filter (fun k => decide (a < slotBytes * (k + 1)) && decide (slotBytes * k < a + n))

def sharedState (s : State) (k : Nat) : SharedState := ((Sparse.find? s.keep.shared k).map (·.st)).getD .opened

/-- Granting alignment: 4 KiB in the scratchpads, 64 KiB in stacked memory. -/
def mapAlign (base : Nat) : Nat := if spBase ≤ base then 4096 else 65536

def overlaps (ms : List MapRange) (a n : Nat) : Bool := ms.any (fun m => decide (a < m.base + m.len) && decide (m.base < a + n))

def cmdMemMap : Cmd :=
  { code := 0x0301, fixed := 0,
    bad := fun s _ c =>
      let b := c.arg 0 8
      let n := c.arg 8 8
      [(noCtx s c, 32), (b % mapAlign b != 0 || ((s.ctx? c.context).any (fun x => overlaps x.maps b n)), 40), (n == 0 || n % mapAlign b != 0, 48),
       (c.arg 16 1 != 1 && c.arg 16 1 != 3, 56)],
    run := fun s r c => withCtx s r c (fun x =>
      let b := c.arg 0 8
      let n := c.arg 8 8
      if grantable 4096 s x.slot b (b + n) < c.arg 16 1 then .denied s dNOT_GRANTABLE
      else if (sharedIn s b n).any (fun k => sharedState s k == .opened) then .notInStateFree s
      else if 256 ≤ x.maps.length then .resource s 8
      else .ok (s.setCtx c.context { x with maps := x.maps ++ [{ base := b, len := n, write := c.arg 16 1 == 3 }] })) }

def meets (a n b m : Nat) : Bool := decide (a < b + m) && decide (b < a + n)

/-- Accesses that passed their checks and are still to be performed in [b, b+n): queued DMA, matrix and stream work and fabric messages. -/
def rangeBusy (s : State) (ctx b n : Nat) : Bool :=
  s.clusters.any (fun e =>
    let k := e.2
    k.dq.any (fun x => match x with | .copy c d f l _ _ => c == ctx && (meets b n d l || meets b n f l) | _ => false) ||
    k.fq.any (fun x => match x with
      | .put c a l _ _ _ _ => c == ctx && meets b n a l
      | .get c a l _ _ _ _ _ => c == ctx && meets b n a l
      | .acc c a l _ _ _ _ _ => c == ctx && meets b n a l
      | _ => false) ||
    k.msgs.any (fun m => m.ctx == ctx && m.txn == 2 && meets b n m.laddr m.len) ||
    (meets b n (spOf e.1) spBytes && (k.mq.any (fun m => matCtx m == ctx) || k.drains.any (fun m => matCtx m == ctx) || k.batches.any (fun x => x.ctx == ctx) ||
      k.sq.any (fun x => seqCtx x == ctx))))

/-- MEM_UNMAP: the range is no longer granted; the command completes when what passed its check has been performed. While it waits, its payload field
holds the range's length and rights, which an abort grants again. -/
def cmdMemUnmap : Cmd :=
  { code := 0x0302, fixed := 0,
    bad := fun s _ c => [(noCtx s c, 32), ((s.ctx? c.context).any (fun x => !x.maps.any (fun m => m.base == c.arg 0 8)), 40)],
    run := fun s r c => withCtx s r c (fun x =>
      match x.maps.find? (fun m => m.base == c.arg 0 8) with
      | none => .badArg s 40
      | some m =>
        let s1 := s.setCtx c.context { x with maps := x.maps.filter (fun y => y.base != m.base) }
        if rangeBusy s c.context m.base m.len then .keep (setOut s1 r c.tag (fun y => { y with payload := leBytes 8 m.len ++ leBytes 1 (if m.write then 1 else 0) })) 2
        else .ok s1),
    again := fun s _ c => if rangeBusy s c.context (c.arg 0 8) (c.pay 0 8) then .later else .ok s }

/-- An aborted MEM_UNMAP leaves its range granted (Table 9.10). -/
def remap (s : State) (c : OutCmd) : State :=
  match s.ctx? c.context with
  | some x => s.setCtx c.context { x with maps := x.maps ++ [{ base := c.arg 0 8, len := c.pay 0 8, write := c.pay 8 1 == 1 }] }
  | none => s

/-! ## MEM_HOST_COPY (R305, R316) -/

/-- The ranges of Table 9.1 that read-back covers: everything but lantern data, and sealed shared slots to read only. -/
def readBack (s : State) (write : Bool) (a n : Nat) : Bool :=
  let inMem := decide (a + n ≤ resBase s.part.order + 48 * resPiece s.part.order) || (decide (spBase ≤ a) && decide (a + n ≤ spBase + 640 * spBytes))
  inMem && !(List.range 48).any (fun k => meets a n (resBase s.part.order + k * resPiece s.part.order) 0x1000_0000) &&
  !(write && (sharedIn s a n).any (fun k => sharedState s k != .opened))

/-- Whether the range lies in OPEN shared slots. -/
def inOpenShared (s : State) (a n : Nat) : Bool :=
  decide (a + n ≤ slotBytes * slotCount s.part.order) &&
  (List.range (slotCount s.part.order)).all (fun k => !meets a n (slotBytes * k) slotBytes || (isShared (s.mem.slot k) && sharedState s k == .opened))

/-- What refuses the copy, if anything. -/
def copyRefused (s : State) (r : RingId) (c : OutCmd) : Option Nat :=
  let a := c.arg 8 8
  let n := c.arg 16 7
  let out := c.arg 23 1 == 1
  if c.context = 0 then
    if r.fn != 0 then some dFUNCTION
    else if s.keep.lc = 2 then (if !out && inOpenShared s a n then none else some dNOT_GRANTABLE)
    else if s.keep.lc = 5 ∨ s.keep.lc = 7 then some dLIFE_CYCLE
    else if readBack s (!out) a n then none else some dNOT_GRANTABLE
  else
    match s.ctx? c.context with
    | none => some dFUNCTION
    | some x => if !fnOwns r.fn x.slot then some dFUNCTION else if mayAccess c.context x (!out) a n then none else some dNOT_GRANTABLE

/-- Blocks copied to the host in ascending order, to the first poisoned block or the first that the host does not take. -/
def copyOut (c : OutCmd) (r : RingId) (src : State → Nat → List Byte) : Nat → Nat → State → Ran
  | 0, _, s => .ok s
  | k + 1, i, s =>
    let a := c.arg 8 8 + 64 * i
    let s1 := touch s a 64
    if (firstPoison s1 a 64).isSome then .fin s1 sINTEGRITY i []
    else if hostFails s1 (c.arg 0 8 + 64 * i) 64 then .fin (ringErr s1 r .fetch) sABORTED 5 []
    else copyOut c r src k (i + 1) (s1.setHost (Memory.store s1.hostMem (c.arg 0 8 + 64 * i) (src s1 a)))

/-- Blocks copied from the host; after a failed read each destination granule holds old or new data, a free choice. -/
def copyIn (s : State) (r : RingId) (c : OutCmd) : Ran :=
  let h := c.arg 0 8
  let a := c.arg 8 8
  let k := c.arg 16 7 / 64
  if hostFails s h (64 * k) then
    let s1 := (List.range k).foldl (fun t i =>
      if !hostFails s (h + 64 * i) 64 && Config.freeBool (s.free + i) then storeMem t (a + 64 * i) (Memory.load s.hostMem (h + 64 * i) 64) else t) s
    .fin (ringErr { s1 with free := s1.free + k } r .fetch) sABORTED 5 []
  else .ok ((List.range k).foldl (fun t i => storeMem t (a + 64 * i) (Memory.load s.hostMem (h + 64 * i) 64)) s)

def cmdMemHostCopy : Cmd :=
  { code := 0x0303, fixed := 0,
    bad := fun s _ c =>
      let n := c.arg 16 7
      [(c.context != 0 && noCtx s c, 32), (n % 64 != 0 || decide (n < 64) || decide (2 ^ 32 < n), 56), (decide (1 < c.arg 23 1), 63)],
    run := fun s r c =>
      match copyRefused s r c with
      | some d => .denied s d
      | none =>
        if unavailable s (c.arg 8 8) (c.arg 16 7) then .later
        else if c.arg 23 1 = 1 then
          copyOut c r (fun t a => match t.ctx? c.context with
            | some x => ctxLoad t c.context x a 64
            | none => loadMem t a 64) (c.arg 16 7 / 64) 0 s
        else copyIn s r c }

/-! ## Poison, temperatures, scrub, shared slots, injection -/

/-- Whether function `fn` may grant the granule's range (Table 9.4). -/
def mayGrant (s : State) (fn a : Nat) : Bool := fn == 0 || (grantPiece s (fn - 1) a).2 != 0

def poisonLine (s : State) (a : Nat) : List Byte :=
  let cl := classOf s.part.order s.mem a
  let pl := match placeOf s.part.order a with
    | .scratch c _ => c
    | _ => (stackOf s.part.order s.mem a).getD 0
  leBytes 8 a ++ [BitVec.ofNat 8 cl] ++ leBytes 2 pl ++ zeros 5

def cmdMemPoisonList : Cmd :=
  { code := 0x0304, fixed := 0, bad := noBad,
    run := fun s r c => listResult s c (fun _ => []) (((s.mem.poison.map (fun e => 64 * e.1)).filter (mayGrant s r.fn)).map (poisonLine s)) }

/-- The threshold a byte of ARGS gives, 0 keeping the old one. -/
def newT (old x : Nat) : Nat := if x = 0 then old else x

def badT (x : Nat) : Bool := x != 0 && (decide (x < 85) || decide (104 < x))

def cmdMemThermalCfg : Cmd :=
  { code := 0x0305, fixed := 96,
    bad := fun s _ c =>
      let t1 := newT s.mem.t1 (c.arg 0 1)
      let t2 := newT s.mem.t2 (c.arg 1 1)
      let t3 := newT s.mem.t3 (c.arg 2 1)
      [(badT (c.arg 0 1), 40), (badT (c.arg 1 1) || decide (t2 ≤ t1), 41), (badT (c.arg 2 1) || decide (t3 ≤ t2), 42)],
    run := fun s r c => pf0Only s r (fun _ =>
      .okWith (s.setMemSys { s.mem with t1 := newT s.mem.t1 (c.arg 0 1), t2 := newT s.mem.t2 (c.arg 1 1), t3 := newT s.mem.t3 (c.arg 2 1) })
        ((List.range 48).flatMap (fun k => [BitVec.ofInt 8 (s.stack k).temp, BitVec.ofNat 8 (s.stack k).level]))) }

def cmdMemScrubCfg : Cmd :=
  { code := 0x0306, fixed := 0, bad := fun _ _ c => [(decide (c.arg 0 2 = 0) || decide (168 < c.arg 0 2), 40)],
    run := fun s r c => pf0Only s r (fun _ => .ok (s.setMemSys { s.mem with patrolH := c.arg 0 2 })) }

def sharedMax (s : State) : Nat := if s.part.order = .h64 then 3 else 5

def Shared.fresh : Shared := { seq := 0, st := .opened, root := [], stripe := none, repairs := [] }

def setShared (s : State) (k : Nat) (x : Shared) : State := s.setKeep { s.keep with shared := Sparse.set s.keep.shared k x }

/-- The next place in the order of allocation. -/
def nextSeq (s : State) : Nat := (s.keep.shared.map (fun e => e.2.seq + 1)).foldl Nat.max 0

/-- Whether any context maps a byte of slot `k`. -/
def slotMapped (s : State) (k : Nat) : Bool := s.ctxs.any (fun e => overlaps e.2.maps (slotBytes * k) slotBytes)

/-- MEM_SHARED_ALLOC (R298): the highest-numbered free slots, in state OPEN; the result is the first of them. -/
def cmdMemSharedAlloc : Cmd :=
  { code := 0x0307, fixed := 1, bad := fun s _ c => [(decide (sharedMax s < c.arg 0 1), 40)],
    run := fun s r c => pf0Only s r (fun _ =>
      let now := slotsWhere s isShared
      if c.arg 0 1 = 0 then
        if now.any (slotMapped s) then .notInStateFree s
        else
          let s1 := now.foldl (fun t k => (t.setMemSys { t.mem with slots := Sparse.put .free t.mem.slots k .free }).setKeep
            { t.keep with shared := Sparse.del t.keep.shared k }) s
          .okWith s1.tick [Config.freeByte s.free]
      else
        let pick := (slotsWhere s isFree).reverse.take (c.arg 0 1)
        if pick.length < c.arg 0 1 ∨ sharedMax s < now.length + c.arg 0 1 then .resource s 7
        else .okWith (pick.foldl (fun t k => setShared (t.setMemSys { t.mem with slots := Sparse.put .free t.mem.slots k (.far 6) }) k { Shared.fresh with seq := nextSeq t }) s)
          [BitVec.ofNat 8 (pick.headD 0)]) }

/-- Stored bits of the granule that holds `a` go bad, to be found by the next read (R288, R302, R316). -/
def placeError (s : State) (a : Nat) (k : ErrKind) : State := s.setMemSys { s.mem with errs := Sparse.set s.mem.errs (errKey a) k }

def isScratch (s : State) (a : Nat) : Bool := match placeOf s.part.order a with | .scratch _ _ => true | _ => false
def isStacked (s : State) (a : Nat) : Bool := match placeOf s.part.order a with | .slot _ _ | .rem _ _ | .reserve _ _ => true | _ => false

def cmdMemInject : Cmd :=
  { code := 0x0308, fixed := 0,
    bad := fun s _ c =>
      let a := c.arg 0 8
      let k := c.arg 8 1
      [(!isScratch s a && !isStacked s a, 40), (!((isStacked s a && (k == 1 || k == 2)) || (isScratch s a && (k == 3 || k == 4))), 48)],
    run := fun s r c => pf0Only s r (fun _ =>
      if s.keep.lc = 2 ∨ s.keep.lc = 5 ∨ s.keep.lc = 7 then .denied s dLIFE_CYCLE
      else .ok (placeError s (c.arg 0 8) (if c.arg 8 1 = 1 ∨ c.arg 8 1 = 3 then .one else .two))) }

/-! ## Events of memory -/

/-- Patrol scrub of one scratchpad row (R289). -/
def execSpPatrolScrub (cluster row : Nat) (s : State) : Host.Outcome State Fault Refusal :=
  .next (if cluster < 640 ∧ row < 524288 then meetError s (spOf cluster / 64 + row) else s)

/-- Patrol scrub of one stacked sector (R306). A stopped stack's general pseudo-channels take no command, and a bad sector of a sealed shared slot is
left to its repair. -/
def execStackPatrolScrub (addr : Nat) (s : State) : Host.Outcome State Fault Refusal :=
  .next (if isStacked s addr && !stackStopped s addr 1 then meetError s (addr / 64) else s)

/-- MEMORY_ERROR (R288, R302): bits of a stored word or sector go bad. -/
def execMemoryError (addr : Nat) (kind : ErrKind) (s : State) : Host.Outcome State Fault Refusal :=
  .next (if isStacked s addr || (isScratch s addr && kind != .onDie) then placeError s addr kind else s)

/-! ## Repair of shared weights (R486, R487) -/

/-- The chunk of a shared slot that holds an address. -/
def chunkAt (s : State) (a : Nat) : Option (Nat × Nat) :=
  match placeOf s.part.order a with
  | .slot k off => some (k, off / 0x10_0000)
  | _ => none

/-- A read of a sealed shared slot meets an uncorrectable sector: its chunk's repair is queued in arrival order. -/
def execSharedUncorrectableRead (addr : Nat) (s : State) : Host.Outcome State Fault Refusal :=
  .next (match chunkAt s addr with
    | none => s
    | some (k, ch) =>
      match Sparse.find? s.keep.shared k with
      | none => s
      | some x =>
        if x.st = .sealed ∧ Sparse.find? s.mem.errs (addr / 64) = some .two ∧ !x.repairs.any (fun y => y.chunk == ch) then
          setShared s k { x with repairs := x.repairs ++ [{ chunk := ch, addr := addr / 64 * 64, held := 1 }] }
        else s)

/-- Partitions with a context that maps the slot. -/
def mappers (s : State) (k : Nat) : List Nat :=
  (List.range 6).filter (fun i => s.ctxs.any (fun e => e.2.slot == i && overlaps e.2.maps (slotBytes * k) slotBytes))

/-- SEC_SHARED_REPAIR to every partition that maps the slot and to PF0, which also receives MEM_POISON. -/
def postRepair (s : State) (k : Nat) (x : Repair) (result : Nat) : State :=
  let rec_ := rec8 [x.chunk, result]
  let s1 := (mappers s k).foldl (fun t i => postEvent t (i + 1) 0x0280 k rec_) s
  let s2 := postEvent s1 0 0x0280 k rec_
  postEvent s2 0 0x0380 ((stackOf s.part.order s.mem x.addr).getD 0) (poisonRec s x.addr)

/-- Granules of a chunk. -/
def chunkLo (k ch : Nat) : Nat := (slotBytes * k + 0x10_0000 * ch) / 64

/-- The first repair of a slot is done: the sector is rewritten from a copy that verified, and its readers go on. Which copy verified is a free
choice where a stripe is registered. -/
def execSharedRepairDone (slot : Nat) (s : State) : Host.Outcome State Fault Refusal :=
  .next (match Sparse.find? s.keep.shared slot with
    | none => s
    | some x =>
      match x.repairs with
      | [] => s
      | y :: rest =>
        let result := if x.stripe.isSome && Config.freeBool s.free then 1 else 0
        let lo := chunkLo slot y.chunk
        let s1 := setShared s.tick slot { x with repairs := rest }
        let s2 := s1.setMemSys { s1.mem with errs := Sparse.clear s1.mem.errs lo (lo + 16384), poison := Sparse.clear s1.mem.poison lo (lo + 16384) }
        postRepair s2 slot y result)

/-- No copy verifies, or 100 ms pass: the slot is FAILED, the chunk's reads deliver poison, and every job bound in a partition that maps the slot fails
its step. -/
def execSharedRepairTimeout (slot : Nat) (s : State) : Host.Outcome State Fault Refusal :=
  .next (match Sparse.find? s.keep.shared slot with
    | none => s
    | some x =>
      match x.repairs with
      | [] => s
      | y :: _ =>
        let lo := chunkLo slot y.chunk
        let s1 := setShared s slot { x with st := .failed, repairs := [] }
        let bad : Sparse Bool := (List.range 16384).map (fun i => (lo + i, true))
        let p : Sparse Bool := s1.mem.poison
        let marked : Sparse Bool := p.filter (fun e => decide (e.1 < lo)) ++ bad ++ p.filter (fun e => decide (lo + 16384 ≤ e.1))
        let s2 := s1.setMemSys { s1.mem with errs := Sparse.clear s1.mem.errs lo (lo + 16384), poison := marked }
        let s3 := postRepair s2 slot y 2
        let jobs := (s3.ctxs.filter (fun e => e.2.job.isSome && (mappers s slot).contains e.2.slot)).map (fun e => e.1)
        jobs.foldl (fun t n => failStep t n 1 0 0) s3)

/-! ## Rows -/

def execMemInfo (r : RingId) (tag : BitVec 16) (s : State) : Host.Outcome State Fault Refusal := runCmd cmdMemInfo r tag s
def execMemMap (r : RingId) (tag : BitVec 16) (s : State) : Host.Outcome State Fault Refusal := runCmd cmdMemMap r tag s
def execMemUnmap (r : RingId) (tag : BitVec 16) (s : State) : Host.Outcome State Fault Refusal := runCmd cmdMemUnmap r tag s
def execMemHostCopy (r : RingId) (tag : BitVec 16) (s : State) : Host.Outcome State Fault Refusal := runCmd cmdMemHostCopy r tag s
def execMemPoisonList (r : RingId) (tag : BitVec 16) (s : State) : Host.Outcome State Fault Refusal := runCmd cmdMemPoisonList r tag s
def execMemThermalCfg (r : RingId) (tag : BitVec 16) (s : State) : Host.Outcome State Fault Refusal := runCmd cmdMemThermalCfg r tag s
def execMemScrubCfg (r : RingId) (tag : BitVec 16) (s : State) : Host.Outcome State Fault Refusal := runCmd cmdMemScrubCfg r tag s
def execMemSharedAlloc (r : RingId) (tag : BitVec 16) (s : State) : Host.Outcome State Fault Refusal := runCmd cmdMemSharedAlloc r tag s
def execMemInject (r : RingId) (tag : BitVec 16) (s : State) : Host.Outcome State Fault Refusal := runCmd cmdMemInject r tag s

end Sys2Proof.Machine
end

