-- ==== Sys2Proof/Machine/SyncCmd.lean ====
section
/-! DEFINITION. Changes reaching their home stores, which objects a context may take (R320, R321), and the sync commands (R341 to R344, Tables 10.9 to
10.12). -/

namespace Sys2Proof.Machine

open Sys2Proof

/-! ## SIGNAL_APPLY (R329, R333, R344) -/

/-- The n-th change on its way reaches its home store, behind every earlier one from the same site to the same object,
a remote one behind every earlier one from its cluster (R330); a host's command completes once
it has been applied. A change to an object whose context has closed is dropped, and a command that waits for it is aborted. -/
def signalApply (s : State) (n : Nat) : State :=
  match s.sync.inflight[n]? with
  | none => s
  | some x =>
    if (s.sync.inflight.take n).any (fun y => (y.ctx == x.ctx && y.vid == x.vid && y.site == x.site) ||
        (x.src.getLsbD 20 && y.src == x.src && y.site == x.site)) then s
    else
      let s0 := s.setSync { s.sync with inflight := s.sync.inflight.eraseIdx n }
      let k := physOf s x.ctx x.vid
      let s1 := k.elim s0 (fun k => applyChange s0 k x)
      match x.host with
      | some (r, tag) =>
        if (s1.ring r).out.any (fun c => c.tag == tag && c.opcode == 0x0403 && c.started) then
          if k.isSome then finish s1 r tag sOK 0 [] else finish s1 r tag sABORTED 1 []
        else s1
      | none => s1

def execSignalApply (n : Nat) (s : State) : Host.Outcome State Fault Refusal := .next (signalApply s n)

/-! ## Free objects (R320, R321) -/

/-- Stores on a partition's own dies: cluster stores, then die stores. -/
def ownStores (i : Nat) : List Nat :=
  if i < 6 then (List.range 96).map (fun c => 96 * i + c) ++ (List.range 4).map (fun d => 1000 + 4 * i + d) else []

/-- Belfry stores that a context of slot `i` may take objects of, by the module's mode. -/
def belfryStores (s : State) (i : Nat) : List Nat :=
  ((List.range 64).map (fun c => 576 + c)).filter (fun c => !s.keep.sealed || clusterOfSlot i c)

def freeIn (s : State) (store : Nat) : List Nat := (storeObjs store).filter (fun n => (s.obj? n).isNone)

def freeObjs (s : State) (i : Nat) : List Nat := (ownStores i ++ belfryStores s i).flatMap (freeIn s)

/-- An object as a context finds it at load. -/
def newObj (ctx vid : Nat) : Obj :=
  { ctx := ctx, vid := vid, value := 0, base := 0, mark := none, obs := [], cons := [], seq := 0, lastSrc := BitVec.ofNat 32 (2 ^ 22), lastSite := 0, lastOp := 0,
    lastEpoch := 0 }

/-! ## Balance (R341, R342) -/

def ctxObj (s : State) (x : Ctx) (vid : Nat) : Option Obj := (x.vids[vid]?).bind s.obj?

def balanceLine (vid : Nat) (o : Obj) : List Byte :=
  leBytes 2 vid ++ leBytes 2 (o.obs.length + o.cons.length) ++ leBytes 4 o.value.toNat ++ leBytes 4 o.base.toNat

/-- VIDs that differ from their baseline or have a waiter, ascending. -/
def unbalanced (s : State) (x : Ctx) : List (Nat × Obj) :=
  (List.range x.vids.length).filterMap (fun v =>
    match ctxObj s x v with
    | some o => if o.value != o.base || !o.obs.isEmpty || !o.cons.isEmpty then some (v, o) else none
    | none => none)

/-! ## Commands -/

def sCount (c : OutCmd) : Nat := c.arg 2 2 + 1

/-- Whether a range of VIDs reaches SYNC_OBJECTS. -/
def badVids (s : State) (c : OutCmd) (n : Nat) : Bool := (s.ctx? c.context).any (fun x => decide (x.syncObjects < c.arg 0 2 + n))

def cmdSyncInfo : Cmd :=
  { code := 0x0400, fixed := 16, bad := badCtx,
    run := fun s r c => withCtx s r c (fun x => .okWith s
      (leBytes 4 ((ownStores x.slot).flatMap (freeIn s)).length ++ leBytes 4 ((belfryStores s x.slot).flatMap (freeIn s)).length ++ leBytes 4 x.syncObjects ++ zeros 4)) }

def anyWaiter (s : State) (x : Ctx) (vs : List Nat) : Bool := vs.any (fun v => (ctxObj s x v).any (fun o => !o.obs.isEmpty || !o.cons.isEmpty))

/-- One object moved to a free object of `store`, value, baseline and mark with it. -/
def moveObj (s : State) (n : Nat) (store vid : Nat) : State :=
  match s.ctx? n with
  | none => s
  | some x =>
    match x.vids[vid]? with
    | none => s
    | some old =>
      if storeOf old = store then s
      else
        match s.obj? old, (freeIn s store).head? with
        | some o, some new =>
          let s1 := s.setSync { s.sync with objs := Sparse.del s.sync.objs old }
          (s1.setObj new o).setCtx n { x with vids := x.vids.set vid new }
        | _, _ => s

def homeStore (c : OutCmd) : Nat := if c.arg 8 1 = 1 then 1000 + siteDie (BitVec.ofNat 32 (c.arg 4 4)) else siteCluster (BitVec.ofNat 32 (c.arg 4 4))

def cmdSyncHome : Cmd :=
  { code := 0x0401, fixed := 0,
    bad := fun s _ c =>
      let w := BitVec.ofNat 32 (c.arg 4 4)
      [(noCtx s c, 32), (badVids s c 1, 40), (badVids s c (sCount c), 42), (!siteAgrees w || (c.arg 8 1 == 1 && decide (24 ≤ siteDie w)), 44), (decide (1 < c.arg 8 1), 48)],
    run := fun s r c => withCtx s r c (fun x =>
      let store := homeStore c
      let vs := (List.range (sCount c)).map (fun i => c.arg 0 2 + i)
      if !(ownStores x.slot ++ belfryStores s x.slot).contains store then .denied s dNOT_GRANTABLE
      else if anyWaiter s x vs then .notInStateFree s
      else if (freeIn s store).length < (vs.filter (fun v => (x.vids[v]?).any (fun o => storeOf o != store))).length then .resource s 6
      else .ok (vs.foldl (fun t v => moveObj t c.context store v) s)) }

def hostSignal (s : State) (c : OutCmd) (vid : Nat) (set : Bool) (op : Nat) (host : Option (RingId × BitVec 16)) : Signal :=
  { ctx := c.context, vid := vid, set := set, value := BitVec.ofNat 32 (c.arg 4 4), src := BitVec.ofNat 32 (s.lantern.fabricId + 2 ^ 21), site := 0, op := op, mark := none,
    host := host }

def cmdSyncSet : Cmd :=
  { code := 0x0402, fixed := 0, bad := fun s _ c => [(noCtx s c, 32), (badVids s c 1, 40), (badVids s c (sCount c), 42)],
    run := fun s r c => withCtx s r c (fun x =>
      let vs := (List.range (sCount c)).map (fun i => c.arg 0 2 + i)
      if anyWaiter s x vs then .notInStateFree s
      else .ok (vs.foldl (fun t v =>
        match x.vids[v]? with
        | none => t
        | some k =>
          match t.obj? k with
          | none => t
          | some o => applyChange (t.setObj k { o with base := BitVec.ofNat 32 (c.arg 4 4) }) k (hostSignal s c v true 5 none)) s)) }

def cmdSyncSignal : Cmd :=
  { code := 0x0403, fixed := 0, bad := fun s _ c => [(noCtx s c, 32), (badVids s c 1, 40)],
    run := fun s r c => withCtx s r c (fun _ =>
      .keep (s.setSync { s.sync with inflight := s.sync.inflight ++ [hostSignal s c (c.arg 0 2) false 4 (some (r, c.tag))] }) 2) }

def waiterBytes (w : Waiter) : List Byte :=
  leBytes 4 w.seq ++ [BitVec.ofNat 8 w.queue, if w.take then 1 else 0] ++ zeros 2 ++ leBytes 4 w.operand.toNat ++ leBytes 4 w.site.toNat ++ leBytes 8 w.since.toNat

/-- An object record and its waiter entries, with the number of entries. -/
def objBytes (phys : Nat) (o : Obj) : List Byte × Nat :=
  let ws := o.obs ++ o.cons
  (leBytes 4 o.ctx ++ leBytes 2 o.vid ++ leBytes 2 ws.length ++ leBytes 4 phys ++ leBytes 4 o.value.toNat ++ leBytes 4 o.base.toNat ++
   [BitVec.ofNat 8 (o.mark.elim 0 (·.1))] ++ zeros 3 ++ leBytes 4 o.lastSrc.toNat ++ leBytes 4 o.lastSite.toNat ++ [BitVec.ofNat 8 o.lastOp] ++ zeros 7 ++
   leBytes 8 o.lastEpoch ++ ws.flatMap waiterBytes, ws.length)

/-- Object records of a dump that fit after `room` bytes. -/
def dumpFit : Nat → List (List Byte × Nat) → List (List Byte × Nat)
  | _, [] => []
  | room, x :: xs => if x.1.length ≤ room then x :: dumpFit (room - x.1.length) xs else []

def dumpBytes (s : State) (epoch : Nat) (rs : List (List Byte × Nat)) : List Byte :=
  leBytes 4 rs.length ++ leBytes 4 (rs.map (fun x => x.2)).sum ++ leBytes 8 epoch ++ leBytes 8 s.time.toNat ++ zeros 8 ++ rs.flatMap (fun x => x.1)

def everyCtx (c : OutCmd) : Bool := c.context == 0xFFFF_FFFF

def syncDump (s : State) (c : OutCmd) : Ran :=
  let cs : Sparse Ctx := if everyCtx c then s.ctxs else s.ctxs.filter (fun e => e.1 == c.context)
  let rs := cs.flatMap (fun e => (List.range e.2.vids.length).filterMap (fun v =>
    if v < c.arg 0 2 then none else (ctxObj s e.2 v).map (fun o => objBytes ((e.2.vids[v]?).getD 0) o)))
  let epoch := ((List.find? (fun (e : Nat × Ctx) => e.2.job.isSome) cs).map (fun e => e.2.epoch)).getD 0
  let full := dumpBytes s epoch rs
  if full.length ≤ c.resultLen then .fin s sOK 0 full
  else .fin s sPARTIAL full.length ((dumpBytes s epoch (dumpFit (c.resultLen - 32) rs)).take c.resultLen)

def cmdSyncDump : Cmd :=
  { code := 0x0404, fixed := 0, bad := fun s _ c => [(!everyCtx c && noCtx s c, 32), (!everyCtx c && badVids s c 1, 40)],
    run := fun s r c => if everyCtx c then pf0Only s r (fun _ => syncDump s c) else withCtx s r c (fun _ => syncDump s c) }

def cmdSyncBalance : Cmd :=
  { code := 0x0405, fixed := 0, bad := badCtx,
    run := fun s r c => withCtx s r c (fun x => listResult s c (fun _ => []) ((unbalanced s x).map (fun e => balanceLine e.1 e.2))) }

def execSyncInfo (r : RingId) (tag : BitVec 16) (s : State) : Host.Outcome State Fault Refusal := runCmd cmdSyncInfo r tag s
def execSyncHome (r : RingId) (tag : BitVec 16) (s : State) : Host.Outcome State Fault Refusal := runCmd cmdSyncHome r tag s
def execSyncSet (r : RingId) (tag : BitVec 16) (s : State) : Host.Outcome State Fault Refusal := runCmd cmdSyncSet r tag s
def execSyncSignal (r : RingId) (tag : BitVec 16) (s : State) : Host.Outcome State Fault Refusal := runCmd cmdSyncSignal r tag s
def execSyncDump (r : RingId) (tag : BitVec 16) (s : State) : Host.Outcome State Fault Refusal := runCmd cmdSyncDump r tag s
def execSyncBalance (r : RingId) (tag : BitVec 16) (s : State) : Host.Outcome State Fault Refusal := runCmd cmdSyncBalance r tag s

end Sys2Proof.Machine
end

