-- ==== Sys2Proof/Machine/CtxCmd.lean ====
section
/-! DEFINITION. Contexts: loading a VMOD (R146, R388, Tables 4.17 to 4.21), placing blocks (R390, Table 4.16), closing (R391) and status (R392). -/

namespace Sys2Proof.Machine

open Sys2Proof

/-! ## The VMOD (Tables 4.17 to 4.20) -/

structure Section where
  entry : Nat
  type  : Nat
  off   : Nat
  size  : Nat
  deriving DecidableEq, Repr

def sectionsOf (b : List Byte) : List Section :=
  (List.range (Nat.min 64 (field b 8 4))).map (fun i =>
    { entry := 256 + 32 * i, type := field b (256 + 32 * i) 2, off := field b (264 + 32 * i) 8, size := field b (272 + 32 * i) 8 })

def sectionBytes (b : List Byte) (x : Section) : List Byte := (b.drop x.off).take x.size

def findSection (b : List Byte) (type : Nat) : Option Section := (sectionsOf b).find? (fun x => x.type == type)

def wordsOf (bs : List Byte) : List Word64 := (List.range (bs.length / 8)).map (fun i => BitVec.ofNat 64 (field bs (8 * i) 8))

def codeOf (b : List Byte) : List Word64 := ((findSection b 1).map (fun x => wordsOf (sectionBytes b x))).getD []

def entryOf (r : List Byte) : Entry := { offset := field r 0 8, groups := field r 8 1, name := (r.drop 16).take 16 }

def entriesOf (b : List Byte) : List Entry :=
  match findSection b 2 with
  | some x => (List.range (x.size / 32)).map (fun j => entryOf ((b.drop (x.off + 32 * j)).take 32))
  | none => []

/-- Checks 1 to 6 of Table 4.21 in order, each a list of failing conditions with their offsets in the VMOD. -/
def vmodBad (b : List Byte) (n : Nat) : List (List (Bool × Nat)) :=
  let ss := sectionsOf b
  let tableEnd := 256 + 32 * field b 8 4
  let code := codeOf b
  let bs := boundaries code 0 false
  let codeOff := ((findSection b 1).map (·.off)).getD 0
  [[(field b 0 4 != 0x444F_4D56, 0), (field b 4 2 != 1, 4), (!zeroAt b 12 4, 12), (!zeroAt b 36 28, 36), (!zeroAt b 128 128, 128)],
   [(field b 6 2 == 0, 6), (decide (field b 8 4 < 2) || decide (64 < field b 8 4), 8), (field b 16 8 != n, 16),
    (decide (field b 24 1 < 1) || decide (16 < field b 24 1), 24),
    (field b 25 1 != 0 && (decide (field b 25 1 < 16) || decide (32 < field b 25 1)), 25),
    (decide (field b 26 1 < 1) || decide (16 < field b 26 1), 26), (decide (64 < field b 27 1), 27),
    (field b 28 4 % 4 != 0 || decide (32768 < field b 28 4), 28), (decide (65536 < field b 32 4), 32)],
   (decide (n < tableEnd), 8) :: ss.flatMap (fun x =>
     [(!zeroAt b (x.entry + 2) 6, x.entry + 2),
      (x.off % 8 != 0 || decide (x.off < tableEnd) ||
        ss.any (fun y => x.size != 0 && y.size != 0 && y.entry != x.entry && decide (x.off < y.off + y.size) &&
          (decide (y.off < x.off) || (y.off == x.off && decide (y.entry < x.entry)))), x.entry + 8),
      (decide (n < x.off + x.size), x.entry + 16), (!zeroAt b (x.entry + 24) 8, x.entry + 24)]),
   ((findSection b 1).isNone || (findSection b 2).isNone, 256) :: ss.flatMap (fun x =>
     [((decide (x.type < 1) || (decide (5 < x.type) && decide (x.type < 0x8000))) ||
        ((x.type == 1 || x.type == 2 || x.type == 3) && ss.any (fun y => y.type == x.type && decide (y.entry < x.entry))), x.entry),
      ((x.type == 1 && (x.size % 8 != 0 || decide (x.size < 8) || decide (67108864 < x.size))) ||
        (x.type == 2 && (x.size % 32 != 0 || decide (x.size < 32) || decide (131072 < x.size))), x.entry + 16)]),
   (match findSection b 2 with
     | some x => (List.range (x.size / 32)).flatMap (fun j =>
         let o := x.off + 32 * j
         [(!bs.contains (field b o 8), o), (decide (field b (o + 8) 1 < 1) || decide (field b 26 1 < field b (o + 8) 1), o + 8), (!zeroAt b (o + 9) 7, o + 9)])
     | none => []),
   bs.filterMap (fun a =>
     (insnAt code a).map (fun i => ((mnOf i == .bra || mnOf i == .call) && !bs.contains (branchTarget i), codeOff + a)))]

/-- The offset found by the first check that fails. -/
def firstBad : List (List (Bool × Nat)) → Option Nat
  | [] => none
  | x :: xs =>
    match leastBad x with
    | some o => some o
    | none => firstBad xs

/-! ## CTX_LOAD (R388, R389) -/

def slotLimit (i : Nat) : Nat := if i = 6 then 8 else 16

def slotCtxs (s : State) (i : Nat) : List Nat := (s.ctxs.filter (fun e => e.2.slot == i)).map (fun e => e.1)

def loadSlot (c : OutCmd) : Nat := c.arg 16 1
def loadSize (c : OutCmd) : Nat := c.arg 8 8

/-- The context a good VMOD gives. -/
def newCtx (s : State) (c : OutCmd) (b : List Byte) (vids : List Nat) : Ctx :=
  let i := loadSlot c
  { slot := i, owner := if i = 6 then 0 else i + 1, code := codeOf b, entries := entriesOf b,
    constSec := ((findSection b 3).map (sectionBytes b)).getD [], debugSec := ((findSection b 4).map (sectionBytes b)).getD [],
    sbEntries := field b 24 1, wdW := if field b 25 1 = 0 then 24 else field b 25 1, maxGroups := field b 26 1, accTiles := field b 27 1,
    scratchKib := field b 28 4, syncObjects := field b 32 4, digest := (b.drop 64).take 32, fwVersion := (runningSlot s).version,
    defaultArg := BitVec.ofNat 64 (c.arg 17 7), hold := false, maps := [], vids := vids, handles := [], recSteps := 8, shadowK := 12, shadowLim := -10,
    census := [], unreg := 0, collCount := [], job := none }

/-- The objects of a new context, with value and baseline 0. -/
def takeObjs (s : State) (n : Nat) (vids : List Nat) : State := vids.zipIdx.foldl (fun t e => t.setObj e.1 (newObj n e.2)) s

def ctxLoadRun (s : State) (r : RingId) (c : OutCmd) : Ran :=
  let i := loadSlot c
  if r.fn != 0 && (i == 6 || r.fn != i + 1) then .denied s dFUNCTION
  else if i < 6 && !(s.part? i).exist then .notInStateFree s
  else if hostFails s (c.arg 0 8) (loadSize c) then .fin (ringErr s r .fetch) sABORTED 5 []
  else
    let b := Memory.load s.hostMem (c.arg 0 8) (loadSize c)
    match firstBad (vmodBad b (loadSize c)) with
    | some o => .badArg s (64 + o)
    | none =>
      let kib := ((findSection b 3).map (·.size)).getD 0
      let vids := (freeObjs s i).take (field b 32 4)
      if (runningSlot s).virdyMax < field b 6 2 then .unsupported s
      else if sha3 (b.drop 256) ≠ (b.drop 64).take 32 then .fin s sINTEGRITY 128 []
      else if slotLimit i ≤ (slotCtxs s i).length then .resource s 5
      else if vids.length < field b 32 4 then .resource s 6
      else if kib != 0 && !Config.constFits s.nextCtx kib then .resource s 10
      else
        let n := s.nextCtx
        let s0 := if i < 6 then s.setPart i { s.part? i with scrubbed := false } else s
        let s1 := { takeObjs (s0.setCtx n (newCtx s0 c b vids)) n vids with nextCtx := n + 1 }
        .okWith s1 (leBytes 4 n ++ leBytes 4 (field b 32 4))

def cmdCtxLoad : Cmd :=
  { code := 0x060A, fixed := 8,
    bad := fun _ _ c => [(decide (loadSize c < 256) || decide (268435456 < loadSize c), 48), (decide (6 < loadSlot c), 56)],
    run := ctxLoadRun }

/-! ## CTX_LAUNCH (R390, Table 12.0a) -/

/-- One of the elements of a list, a free choice where the spec leaves Mirsis the choice. -/
def pickOne (s : State) (xs : List Nat) : Nat := xs.getD (Config.freeNat s.free % xs.length) 0

def freeSlots (s : State) (c u : Nat) : List Nat := (List.range 16).filter (fun n => (s.group? { cluster := c, unit := u, slot := n }).isNone)

/-- The unit with the most free group slots, the lower on a tie. -/
def bestUnit (s : State) (c : Nat) : Nat :=
  (List.range 4).foldl (fun b u => if (freeSlots s c b).length < (freeSlots s c u).length then u else b) 0

/-- First tiles of runs of `n` contiguous free accumulator tiles. -/
def tileBases (k : Cluster) (n : Nat) : List Nat :=
  (List.range (65 - n)).filter (fun p => k.blocks.all (fun e => decide (e.2.tileBase + e.2.tiles ≤ p) || decide (p + n ≤ e.2.tileBase) || e.2.tiles == 0))

/-- Scratchpad bytes the context maps on cluster `c`. -/
def mappedBytes (x : Ctx) (c : Nat) : Nat :=
  x.maps.foldl (fun a m => a + (Nat.min (m.base + m.len) (spOf (c + 1)) - Nat.max m.base (spOf c))) 0

def heldKib (k : Cluster) (n : Nat) : Nat := k.blocks.foldl (fun a e => if e.2.ctx = n then a + e.2.kib else a) 0

def freeBlocks (k : Cluster) : List Nat := (List.range 64).filter (fun b => (Sparse.find? k.blocks b).isNone)

/-- The group of Table 4.16. -/
def newGroup (n : Nat) (x : Ctx) (b i groups : Nat) (pc : Nat) (arg : Word64) : Group :=
  let g : Group := { st := .active, ctx := n, block := b, idx := i, lastTrap := 0, live := BitVec.allOnes 64, pcs := [], v := [], u := [], p := [], sites := [],
                     bars := [], collMask := 0, collPc := 0, pend := [], poisoned := [], stalled := false, skipBp := false }
  let g1 := (List.range 64).foldl (fun y t => y.vPut 0 t (BitVec.ofNat 32 t)) (g.pcAll (BitVec.allOnes 64) pc)
  ((g1.uPut 0 arg).uPut 1 (match constRange n x with | some (a, _) => BitVec.ofNat 64 a | none => 0)).uPut 2
    (BitVec.ofNat 64 (b + i * 2 ^ 16 + (groups - 1) * 2 ^ 20))

/-- Groups placed in index order, each on the unit with the most free slots. -/
def placeGroups (n : Nat) (x : Ctx) (c b groups pc : Nat) (arg : Word64) : Nat → Nat → State → List GroupId → State × List GroupId
  | 0, _, s, gs => (s, gs)
  | k + 1, i, s, gs =>
    let u := bestUnit s c
    let g : GroupId := { cluster := c, unit := u, slot := pickOne s (freeSlots s c u) }
    placeGroups n x c b groups pc arg k (i + 1) ((s.setGroup g (newGroup n x b i groups pc arg)).tick) (gs ++ [g])

/-- One block placed, or the resource found short. -/
def placeBlock (s : State) (n : Nat) (x : Ctx) (c : Nat) (e : Entry) (arg : Word64) (done : Option Nat) : Except Nat (State × Nat) :=
  let k := s.cluster c
  let free := (List.range 4).foldl (fun a u => a + (freeSlots s c u).length) 0
  let bases := tileBases k x.accTiles
  if free < e.groups then .error 1
  else if bases.isEmpty then .error 2
  else if mappedBytes x c < 1024 * (heldKib k n + x.scratchKib) then .error 3
  else if (freeBlocks k).isEmpty then .error 4
  else
    let b := pickOne s (freeBlocks k)
    let base := pickOne s.tick bases
    let (s1, gs) := placeGroups n x c b e.groups e.offset arg e.groups 0 s.tick.tick []
    let blk : Block := { ctx := n, groups := gs, tileBase := base, tiles := x.accTiles, kib := x.scratchKib, doneVid := done, stat := refFresh, strm := refFresh,
                         drain := refFresh, stale := [], wd := [] }
    .ok (setBlock s1 c b blk, b)

/-- `count` blocks placed, with their numbers in launch order. -/
def placeBlocks (n : Nat) (x : Ctx) (c : Nat) (e : Entry) (arg : Word64) (done : Option Nat) : Nat → State → Except Nat (State × List Nat)
  | 0, s => .ok (s, [])
  | k + 1, s =>
    match placeBlock s n x c e arg done with
    | .error d => .error d
    | .ok (s1, b) =>
      match placeBlocks n x c e arg done k s1 with
      | .error d => .error d
      | .ok (s2, bs) => .ok (s2, b :: bs)

def cmdCtxLaunch : Cmd :=
  { code := 0x060B, fixed := 0,
    bad := fun s _ c =>
      let x := s.ctx? c.context
      [(noCtx s c, 32), (x.any (fun y => decide (y.entries.length ≤ c.arg 2 2)), 42), (decide (c.arg 4 1 < 1) || decide (16 < c.arg 4 1), 44),
       (c.arg 5 1 != 0, 45), (x.any (fun y => c.arg 6 2 != 0xFFFF && decide (y.syncObjects ≤ c.arg 6 2)), 46),
       (c.arg 8 8 % 64 != 0 || decide (2 ^ 48 ≤ c.arg 8 8), 48), (decide (c.arg 4 1 ≤ 16) && decide (c.resultLen < c.arg 4 1), 12)],
    run := fun s r c => withCtx s r c (fun x =>
      if !clusterOfSlot x.slot (c.arg 0 2) then .denied s dNOT_GRANTABLE
      else if x.job.isSome then .notInState s 2
      else
        match x.entries[c.arg 2 2]? with
        | none => .badArg s 42
        | some e =>
          match placeBlocks c.context x (c.arg 0 2) e (BitVec.ofNat 64 (c.arg 8 8)) (if c.arg 6 2 = 0xFFFF then none else some (c.arg 6 2)) (c.arg 4 1) s with
          | .error d => .resource s d
          | .ok (t, bs) => .okWith t (bs.map (fun b => BitVec.ofNat 8 b))) }

/-! ## CTX_CLOSE (R342, R391) -/

/-- Objects compared with their baselines, reported, and returned to free. -/
def scrubObjs (s : State) (n : Nat) (x : Ctx) : State :=
  let us := unbalanced s x
  let rec_ := leBytes 4 n ++ leBytes 4 us.length ++ (us.take 20).flatMap (fun e => balanceLine e.1 e.2)
  let s1 := if us.isEmpty then s else postEvent (s.bump 0x0400000B us.length) (ownerFn x) 0x0480 us.length rec_
  s1.setSync { s1.sync with objs := s1.sync.objs.filter (fun e => e.2.ctx != n) }

/-- A context closed, its number retired. -/
def closeContext (s : State) (n cause : Nat) : State :=
  match s.ctx? n with
  | none => s
  | some x =>
    let s1 := clearPoints (killContext s n cause) n
    (scrubObjs s1 n x).delCtx n

def cmdCtxClose : Cmd :=
  { code := 0x060C, fixed := 0, bad := badCtx,
    run := fun s r c => withCtx s r c (fun x => if x.job.isSome then .notInState s 2 else .ok (closeContext s c.context 2)) }

def liveBlocks (s : State) (n : Nat) : Nat := s.clusters.foldl (fun a e => a + (e.2.blocks.filter (fun b => b.2.ctx == n)).length) 0

def cmdCtxStatus : Cmd :=
  { code := 0x060D, fixed := 32, bad := badCtx,
    run := fun s r c => withCtx s r c (fun x => .okWith s
      ([if x.job.isSome then 2 else 1, BitVec.ofNat 8 x.slot] ++ zeros 2 ++ leBytes 4 (liveBlocks s c.context) ++ leBytes 4 x.fwVersion.toNat ++
       leBytes 4 x.syncObjects ++ padTo 16 x.digest)) }

def execCtxLoad (r : RingId) (tag : BitVec 16) (s : State) : Host.Outcome State Fault Refusal := runCmd cmdCtxLoad r tag s
def execCtxLaunch (r : RingId) (tag : BitVec 16) (s : State) : Host.Outcome State Fault Refusal := runCmd cmdCtxLaunch r tag s
def execCtxClose (r : RingId) (tag : BitVec 16) (s : State) : Host.Outcome State Fault Refusal := runCmd cmdCtxClose r tag s
def execCtxStatus (r : RingId) (tag : BitVec 16) (s : State) : Host.Outcome State Fault Refusal := runCmd cmdCtxStatus r tag s

end Sys2Proof.Machine
end

