-- ==== Sys2Proof/Machine/Keep.lean ====
section
/-! DEFINITION. What the keep does for the commands and resets of chapters 14 and 15: signed objects, firmware images, the partition scrub, erasure,
life-cycle transitions, and the evaluated configuration. -/

namespace Sys2Proof.Machine

open Sys2Proof

/-! ## Signed objects (R460, R461, Tables 14.2 and 14.3) -/

/-- Domains of Table 14.3, zero-padded to 8 bytes. -/
def domFW : List Byte := padTo 8 [0x4B, 0x35, 0x2D, 0x46, 0x57]
def domLCT : List Byte := padTo 8 [0x4B, 0x35, 0x2D, 0x4C, 0x43, 0x54]
def domCERT : List Byte := padTo 8 [0x4B, 0x35, 0x2D, 0x43, 0x45, 0x52, 0x54]
def domATT : List Byte := padTo 8 [0x4B, 0x35, 0x2D, 0x41, 0x54, 0x54]
def domSNAP : List Byte := padTo 8 [0x4B, 0x35, 0x2D, 0x53, 0x4E, 0x41, 0x50]

def sigBytes : Nat := 3384

/-- Both verifications, whatever the outcome of the first, and the fields of the block. -/
def signedOk (keyId : Nat) (dom covered block : List Byte) : Bool :=
  let msg := dom ++ sha3 covered
  let a := Config.verifyEd25519 keyId msg (((block.drop 8).take 64))
  let b := Config.verifyMlDsa65 keyId msg (((block.drop 72).take 3309))
  a && b && field block 0 2 == 3 && zeroAt block 2 2 && field block 4 4 == keyId && zeroAt block 3381 3

/-- A signature block of the device identity keys, KEY_ID 3. -/
def signBlock (dom covered : List Byte) : List Byte := padTo sigBytes (Config.signDevice (dom ++ sha3 covered))

/-! ## Firmware and rescue images (R464, R498, Table 14.6) -/

inductive ImgBad where
  | format
  | signature
  | rollback
  | eval
  deriving DecidableEq, Repr

/-- EVAL_LOCK is blown at shipment on K5M-48-H96-E (R489). -/
def evalLocked (s : State) : Bool := s.part.evalLock || s.part.order == .h96e

def imgVersion (b : List Byte) : BitVec 32 := BitVec.ofNat 32 (field b 8 4)
def imgSvn (b : List Byte) : Nat := field b 6 1
def imgEval (b : List Byte) : Bool := (byteAt b 7).getLsbD 0

/-- The checks of R464 in order, then the check of R498. -/
def imageBad (s : State) (b : List Byte) : Option ImgBad :=
  let n := field b 16 8
  if field b 0 4 ≠ 0x5746_354B ∨ field b 4 2 ≠ 1 then some .format
  else if b.length ≠ n + sigBytes ∨ !signedOk 1 domFW (b.take n) (b.drop n) then some .signature
  else if imgSvn b < s.keep.svn then some .rollback
  else if evalLocked s && !imgEval b then some .eval
  else none

/-- A slot holding an image. -/
def slotOfImage (st : FwState) (b : List Byte) : FwSlot :=
  { st := st, version := imgVersion b, svn := imgSvn b, evalBit := imgEval b, virdyMax := field b 12 2, image := b }

def setSlot (s : State) (second : Bool) (x : FwSlot) : State :=
  if second then s.setLantern { s.lantern with slotB := x } else s.setLantern { s.lantern with slotA := x }

def getSlot (s : State) (second : Bool) : FwSlot := if second then s.lantern.slotB else s.lantern.slotA

/-- The inactive slot: the one the module is not running from. -/
def inactiveSlot (s : State) : Bool := !s.lantern.bootSlot

/-! ## Memory written zero -/

/-- [a, a + n) written zero in whole granules, its poison markers and errors cleared (R304). -/
def zeroRange (s : State) (x : Nat × Nat) : State :=
  s.setMemSys { s.mem with
    bytes := Memory.zero s.mem.bytes x.1 (x.1 + x.2), poison := Sparse.clear s.mem.poison (x.1 / 64) ((x.1 + x.2) / 64),
    errs := Sparse.clear s.mem.errs (errKey x.1) (errEnd x.1 x.2) }

def zeroRanges (s : State) (xs : List (Nat × Nat)) : State := xs.foldl zeroRange s

/-! ## A partition's resources (R292 to R298, R477, Table 14.14) -/

/-- Bytes of a near slot on one partition's four dies. -/
def nearBytes : Nat := 4 * 0x8000_0000

/-- Keys of the scrub marks: pieces of slot blocks by partition dies, remainder pieces, clusters. -/
def markPiece (k i : Nat) : Nat := 1000 + 8 * k + i
def markRem (d : Nat) : Nat := 100 + d
def markCluster (c : Nat) : Nat := 200 + c

/-- Stacked ranges of a slot assignment as partition `i` holds it: marks and ranges. -/
def slotPieces (s : State) (i k : Nat) : List (Nat × Nat × Nat) :=
  match s.mem.slot k with
  | .near m => if m.getLsbD i then [(markPiece k i, slotBytes * k + nearBytes * i, nearBytes)] else []
  | .far w => if w = i then (List.range 6).map (fun j => (markPiece k j, slotBytes * k + nearBytes * j, nearBytes)) else []
  | .free => []

/-- Every range of partition `i`: near, far and remainder memory, and the scratchpads of its clusters, each with its mark. -/
def partRanges (s : State) (i : Nat) : List (Nat × Nat × Nat) :=
  (List.range (slotCount s.part.order)).flatMap (slotPieces s i) ++
  (List.range 4).map (fun d => (markRem (4 * i + d), remBase s.part.order + (4 * i + d) * remPiece s.part.order, remPiece s.part.order)) ++
  (slotClusters i).map (fun c => (markCluster c, spOf c, spBytes))

def setMarks (s : State) (ms : List Nat) : State :=
  s.setMemSys { s.mem with scrubbed := ms.foldl (fun t m => Sparse.put false t m true) s.mem.scrubbed }

/-- Accumulator file of one cluster, in bytes. -/
def accBytes : Nat := 64 * 4096

/-- Engines, accumulator file and flags of one cluster as Table 6.22, 6.23 and 7.14 leave them after a scrub. -/
def scrubCluster (s : State) (c : Nat) : State :=
  (List.range 4).foldl (fun t u => t.setUnit (4 * c + u) UnitSt.fresh) (s.setCluster c Cluster.fresh)

/-- FPNs bound by contexts of slot `i`. -/
def slotFpns (s : State) (i : Nat) : List Nat := s.ctxs.filterMap (fun e => if e.2.slot = i then e.2.job.map (·.fpn) else none)

/-- Both key slots of an FPN zeroised. -/
def eraseKeys (s : State) (fpn : Nat) : State :=
  s.setKeep { s.keep with linkKeys := Sparse.del (Sparse.del s.keep.linkKeys (2 * fpn)) (2 * fpn + 1), sendSlot := Sparse.del s.keep.sendSlot fpn }

/-- The journals of the slot's jobs as lantern data keeps them (Table 15.11). -/
def saveJournals (s : State) (f : Ctx → Bool) : State :=
  { s with journals := s.ctxs.foldl (fun j e => if f e.2 then e.2.job.elim j (fun x => Sparse.set j x.fpn x) else j) s.journals }

/-- Landing sets of a slot's jobs released. -/
def dropLandings (s : State) (i : Nat) : State :=
  { s with journals := s.journals.map (fun e =>
      if shareOf e.1 = i then (e.1, { e.2 with surv := { e.2.surv with saved := none, draft := none, exported := none, landing := 0 } }) else e) }

/-- The bytes a scrub of partition `i` writes zero (Table 14.22a). -/
def scrubBytes (s : State) (i : Nat) : Nat := ((partRanges s i).map (fun x => x.2.2)).sum + (slotClusters i).length * accBytes

/-- The scrub of Table 14.14, with SCRUBBED set and SEC_SCRUB_DONE posted to PF0 and, when `vf`, to the slot's VF. -/
def scrubSlot (s : State) (i : Nat) (vf : Bool) : State :=
  let rs := partRanges s i
  let n := scrubBytes s i
  let s1 := setMarks (zeroRanges s (rs.map (fun x => x.2))) (rs.map (fun x => x.1))
  let s2 := (slotClusters i).foldl scrubCluster s1
  let s3 := dropLandings (s2.setFev (i + 1) { s2.fev (i + 1) with recs := [], held := [] }) i
  let s4 := s3.setPart i { s3.part? i with scrubbed := true }
  let s5 := s4.setKeep { s4.keep with entropyN := s4.keep.entropyN + 1 }
  let rec_ := [BitVec.ofNat 8 i] ++ zeros 7 ++ leBytes 8 n
  let s6 := postEvent s5 0 0x0282 i rec_
  if vf then postEvent s6 (i + 1) 0x0282 i rec_ else s6

/-- A member reports itself lost to the acting root (R446): rank 0, or rank 0's partner when it is rank 0 itself. -/
def reportLost (s : State) (n : Nat) : State :=
  match (s.ctx? n).bind (·.job) with
  | none => s
  | some j =>
    let s1 := s.bump 0x07000007 1
    if isRoot s j then (match j.surv.partner with | some p => tell s1 j p | none => s1) else tell s1 j 0

/-- Every context of slot `i` closed as R391, with CONTEXT_KILL cause 3 (Table 12.0), its keys zeroised and its journal kept. -/
def closeSlot (s : State) (i : Nat) : State :=
  let s0 := saveJournals s (fun c => c.slot == i)
  let s1 := (slotFpns s i).foldl eraseKeys ((slotCtxs s0 i).foldl reportLost s0)
  (slotCtxs s1 i).foldl (fun t n => closeContext t n 3) s1

/-! ## Evaluated configuration (R488, Table 14.20) -/

def evalBit (s : State) : Bool :=
  s.keep.lc == 2 && s.keep.sealed && (List.range 6).all (fun i => !(s.part? i).adminDebug) && !s.keep.k4Import && !s.keep.pf0Keys && (runningSlot s).evalBit

/-- SEC_EVAL_CHANGED after a change of the setting in row `n` of Table 14.20. -/
def evalChange (old s : State) (n : Nat) : State :=
  if evalBit old = evalBit s then s else postEvent s 0 0x0283 (if evalBit s then 1 else 0) (rec8 [n])

/-! ## Life cycle (R465 to R470, Tables 14.7 and 14.8) -/

def transitionOk (a b : Nat) : Bool :=
  (a == 0 && b == 1) || (a == 1 && b == 2) || (a == 2 && b == 3) || (a == 3 && b == 2) || ((a == 2 || a == 3) && b == 4) ||
  (decide (a < 5) && b == 5)

/-- Every stack and scratchpad written zero. -/
def zeroAll (s : State) : State := s.setMemSys { s.mem with bytes := [], poison := [], errs := [] }

/-- Erasure (R470): keys zeroised; stacks, scratchpads and accumulator tiles written zero. Partitions' members are lost with their contexts. -/
def erase (s : State) : State :=
  let s1 := (s.ctxs.map (fun e => e.1)).foldl (fun t n => closeContext t n 3) s
  let s2 := s1.setKeep { s1.keep with keysOk := false, linkKeys := [], sendSlot := [] }
  { zeroAll s2 with clusters := [], journals := [] }

/-- The actions of Table 14.8 before the commit group is written. -/
def lcActions (s : State) (old new : Nat) : State :=
  if new = 1 then s.setKeep { s.keep with keysOk := true, entropyN := s.keep.entropyN + 1 }
  else if new = 2 then zeroAll s
  else if new = 4 ∨ (new = 5 ∧ old ≠ 0 ∧ old ≠ 4) then erase s
  else s

/-- The state that the committed records give (R467). -/
def committedLc (k : Keep) : Nat := ((k.recs.reverse.find? (fun r => r.commitA || r.commitB)).map (·.target)).getD 0

def setLastRec (k : Keep) (f : FuseRec → FuseRec) : Keep :=
  match k.recs.reverse with
  | [] => k
  | r :: rest => { k with recs := (f r :: rest).reverse }

/-- The recorded transition is completed: its actions, then the commit group, whose write fails three times or succeeds, a free choice. -/
def completeLc (s : State) : State :=
  match s.keep.pendingLc with
  | none => s
  | some new =>
    let old := committedLc s.keep
    let s1 := lcActions s old new
    if Config.freeBool s1.free then (s1.setKeep { s1.keep with lc := 7 }).tick
    else
      let s2 := s1.tick.setKeep { setLastRec s1.keep (fun r => { r with commitA := true, commitB := true }) with lc := new, pendingLc := none }
      evalChange s (postEvent s2 0 0x0281 new (rec8 [old, s2.keep.recs.length - 1])) 1

/-- A new transition: the intent group of the next free record in both banks, then its completion. -/
def beginLc (s : State) (new : Nat) (digest : List Byte) : State :=
  let r : FuseRec := { target := new, digest := digest, intentA := true, intentB := true, commitA := false, commitB := false }
  completeLc (s.setKeep { s.keep with recs := s.keep.recs ++ [r], pendingLc := some new, nonce := none })

/-- Whether the records left allow a transition to `new` (R467). -/
def recordsShort (k : Keep) (new : Nat) : Bool :=
  let n := k.recs.length
  decide (32 ≤ n) || (n == 31 && new != 5) || (n == 30 && new != 4 && new != 5)

end Sys2Proof.Machine
end

