-- ==== Sys2Proof/Machine/Num.lean ====
section
/-! DEFINITION. The numerics commands (R269, R272, R279, Tables 8.8, 8.11 and 8.12). -/

namespace Sys2Proof.Machine

open Sys2Proof

/-- A value kept when ARGS give 0. -/
def kept (old x : Nat) : Nat := if x = 0 then old else x

def cmdNumCfg : Cmd :=
  { code := 0x0800, fixed := 0,
    bad := fun s _ c =>
      let k := c.arg 1 1
      let l := signed 8 (c.arg 2 1)
      [(noCtx s c, 32), (k != 0 && k != 0xFF && (decide (k < 6) || decide (20 < k)), 41), (decide (l ≠ 0) && (decide (l < -24) || decide (-1 < l)), 42)],
    run := fun s r c => withCtx s r c (fun x =>
      let l := signed 8 (c.arg 2 1)
      .ok (s.setCtx c.context { x with recSteps := kept x.recSteps (c.arg 0 1), shadowK := kept x.shadowK (c.arg 1 1),
                                       shadowLim := if l = 0 then x.shadowLim else l })) }

/-! ## The census (R269) -/

/-- A record as registration writes it. -/
def freshRecord : List Byte := zeros 18 ++ leBytes 2 64 ++ leBytes 2 1024 ++ [1, 0x80] ++ zeros 8

def censusBytes : Nat := 131072

/-- Whether the context may write the `n` bytes at `a` of cluster `k`'s scratchpad. -/
def outOfScratch (s : State) (c : OutCmd) (k a n : Nat) : Bool := (s.ctx? c.context).any (fun x => !mayScratch c.context x k true a n)

def cmdNumCensusReg : Cmd :=
  { code := 0x0801, fixed := 0,
    bad := fun s _ c => [(noCtx s c, 32), (decide (639 < c.arg 0 2), 40),
      (c.arg 2 6 % 64 != 0 || outOfScratch s c (c.arg 0 2) (c.arg 2 6) censusBytes, 42)],
    run := fun s r c => withCtx s r c (fun x =>
      let s1 := storeMem s (c.arg 2 6) ((List.range 4096).flatMap (fun _ => freshRecord))
      .ok (s1.setCtx c.context { x with census := Sparse.set x.census (c.arg 0 2) (c.arg 2 6) })) }

/-- ENABLE, THRESH and RUN_LIMIT of one record as NUM_CENSUS_TAG gives them. -/
def setTag (c : OutCmd) (s : State) (base : Nat) : State :=
  let a := base + 32 * c.arg 2 2
  let old := loadMem s a 32
  storeMem s (a + 18) (leBytes 2 (kept (field old 18 2) (c.arg 8 2)) ++ leBytes 2 (kept (field old 20 2) (c.arg 6 2)) ++
    [BitVec.ofNat 8 (field old 22 1 / 2 * 2 + c.arg 4 1)])

def cmdNumCensusTag : Cmd :=
  { code := 0x0802, fixed := 0,
    bad := fun s _ c => [(noCtx s c, 32), (decide (639 < c.arg 0 2) && c.arg 0 2 != 0xFFFF, 40), (decide (4095 < c.arg 2 2), 42), (decide (1 < c.arg 4 1), 44),
      (c.arg 5 1 != 0, 45)],
    run := fun s r c => withCtx s r c (fun x =>
      if c.arg 0 2 = 0xFFFF then .ok (x.census.foldl (fun t e => setTag c t e.2) s)
      else
        match Sparse.find? x.census (c.arg 0 2) with
        | some b => .ok (setTag c s b)
        | none => .notInStateFree s) }

/-- The item of one tag of one cluster, when the record is disabled or alerted (R272). -/
def censusItem (s : State) (k base g : Nat) : Option (List Byte) :=
  let fl := field (loadMem s (base + 32 * g) 32) 22 1
  if fl % 2 = 1 ∧ fl / 2 % 2 = 0 then none
  else some (leBytes 2 k ++ leBytes 2 g ++ [BitVec.ofNat 8 (1 - fl % 2 + fl / 2 % 2 * 2), 0] ++ leBytes 2 (field (loadMem s (base + 32 * g) 32) 16 2))

def cmdNumCensusState : Cmd :=
  { code := 0x0803, fixed := 0, bad := badCtx,
    run := fun s r c => withCtx s r c (fun x =>
      listResult s c (fun n => leBytes 2 x.census.length ++ zeros 2 ++ leBytes 4 n ++ leBytes 8 x.unreg)
        (x.census.flatMap (fun e => (List.range 4096).filterMap (censusItem s e.1 e.2)))) }

/-! ## Flags and recovery -/

def cmdNumFlags : Cmd :=
  { code := 0x0804, fixed := 8,
    bad := fun s _ c => [(noCtx s c, 32), (badSite c (if c.arg 4 1 = 0 then 12 else 10), 40), (decide (2 < c.arg 4 1), 44), (decide (15 < c.arg 5 1), 45)],
    run := fun s r c => withCtx s r c (fun x =>
      if r.fn != 0 && !clusterOfSlot x.slot (siteCluster c.site) then .denied s dNOT_GRANTABLE
      else .okWith (clearFlags s c.group (c.arg 4 1) (BitVec.ofNat 4 (c.arg 5 1))) (leBytes 8 (engineFlags s c.group (c.arg 4 1)).toNat)) }

/-- One entry recovered: UNSET, with REC_LEFT, STEP_FLAGS, HIST and LAST_EPOCH cleared. -/
def recoverEntry (s : State) (a : Nat) : State :=
  let st := field (loadMem s (a + 43) 1) 0 1
  storeMem (storeMem s a (zeros 40)) (a + 43) [BitVec.ofNat 8 (st / 4 * 4), 0, 0]

def cmdNumRecover : Cmd :=
  { code := 0x0805, fixed := 0,
    bad := fun s _ c =>
      let n := c.arg 8 4
      [(noCtx s c, 32), (decide (639 < c.arg 0 2), 40), (c.arg 2 6 % 64 != 0 || (decide (n ≤ 524288) && outOfScratch s c (c.arg 0 2) (c.arg 2 6) (64 * n)), 42),
       (decide (n < 1) || decide (524288 < n), 48)],
    run := fun s r c => withCtx s r c (fun _ => .ok ((List.range (c.arg 8 4)).foldl (fun t i => recoverEntry t (c.arg 2 6 + 64 * i)) s)) }

def execNumCfg (r : RingId) (tag : BitVec 16) (s : State) : Host.Outcome State Fault Refusal := runCmd cmdNumCfg r tag s
def execNumCensusReg (r : RingId) (tag : BitVec 16) (s : State) : Host.Outcome State Fault Refusal := runCmd cmdNumCensusReg r tag s
def execNumCensusTag (r : RingId) (tag : BitVec 16) (s : State) : Host.Outcome State Fault Refusal := runCmd cmdNumCensusTag r tag s
def execNumCensusState (r : RingId) (tag : BitVec 16) (s : State) : Host.Outcome State Fault Refusal := runCmd cmdNumCensusState r tag s
def execNumFlags (r : RingId) (tag : BitVec 16) (s : State) : Host.Outcome State Fault Refusal := runCmd cmdNumFlags r tag s
def execNumRecover (r : RingId) (tag : BitVec 16) (s : State) : Host.Outcome State Fault Refusal := runCmd cmdNumRecover r tag s

end Sys2Proof.Machine
end

