-- ==== Sys2Proof/Machine/Reset.lean ====
section
/-! DEFINITION. What resets end and keep, booting, turning the main domain off, and lantern takeover (R59, R67, R497, R498, R508 to R512). -/

namespace Sys2Proof.Machine

open Sys2Proof

/-- The fourteen functions: PF0 and VF1 to VF6 of each port. -/
def ringIds : List RingId := (List.range 7).map (fun n => ⟨.a, n⟩) ++ (List.range 7).map (fun n => ⟨.b, n⟩)

/-! ## Aborting outstanding commands (R57, R67, R509) -/

/-- What an aborted command that had started leaves, as its owning chapter gives for ABORTED: a MEM_UNMAP's range stays granted, a SYNC_SIGNAL's change
is applied without completing it, a DETACH still waiting for its COMMIT is given up, an FW_COMMIT's slot is erased. -/
def abortEffect (s : State) (r : RingId) (c : OutCmd) : State :=
  if !c.started then s
  else
    match c.opcode.toNat with
    | 0x0302 => remap s c
    | 0x0403 => forgetHost s r (some c.tag)
    | 0x010A => s.setLantern { s.lantern with detachBy := none, mstate := if s.lantern.mstate = .detaching then .joined else s.lantern.mstate }
    | 0x0103 => setSlot (s.setLantern { s.lantern with fwWriting := false }) (inactiveSlot s) FwSlot.fresh
    | _ => s

/-- Every outstanding command but those excepted completes with ABORTED and the cause given. -/
def abortOutstanding (s : State) (cause : Nat) (except : OutCmd → Bool) : State :=
  ringIds.foldl (fun t r =>
    ((t.ring r).out.filter (fun c => !except c)).foldl (fun u c => finish (abortEffect u r c) r c.tag sABORTED cause []) t) s

/-! ## Alerts (R507) -/

def insertNat (x : Nat) : List Nat → List Nat
  | [] => [x]
  | y :: r => if x < y then x :: y :: r else if x = y then y :: r else y :: insertNat x r

/-- An alert raised; its condition holds again. -/
def raiseAlert (s : State) (n : Nat) : State :=
  s.setCarrier { s.carrier with alerts := insertNat n s.carrier.alerts, cleared := s.carrier.cleared.filter (fun x => x != n) }

/-- An alert whose condition has cleared stays outstanding until a HEALTH_RSP reports it. -/
def clearAlert (s : State) (n : Nat) : State :=
  if s.carrier.alerts.contains n then s.setCarrier { s.carrier with cleared := insertNat n s.carrier.cleared } else s

def aFEED_A_LOST : Nat := 0x10
def aFEED_B_LOST : Nat := 0x11
def aFEEDID_CHANGED : Nat := 0x12
def aINLET_HOT : Nat := 0x13
def aCOOLANT_FLOW : Nat := 0x14
def aTHERMAL_CRITICAL : Nat := 0x15
def aTHERMAL_TRIP : Nat := 0x16
def aPOWER_FAULT : Nat := 0x17
def aREFCLK_LOST : Nat := 0x18

/-! ## Booting (R59, R498, R499 steps 4 to 6, Table 2.18) -/

/-- The slot that Table 2.18 selects at a reset: a slot in TRIAL becomes VALID and the other one boots; else the ACTIVE slot; a slot whose FW_COMMIT was
still writing is erased. -/
def selectBoot (s : State) : State :=
  let s0 := if s.lantern.fwWriting then setSlot (s.setLantern { s.lantern with fwWriting := false }) (inactiveSlot s) FwSlot.fresh else s
  let l := s0.lantern
  if l.slotA.st = .trial then s0.setLantern { l with slotA := { l.slotA with st := .valid }, bootSlot := true }
  else if l.slotB.st = .trial then s0.setLantern { l with slotB := { l.slotB with st := .valid }, bootSlot := false }
  else if l.slotB.st = .active then s0.setLantern { l with bootSlot := true }
  else if l.slotA.st = .active then s0.setLantern { l with bootSlot := false }
  else s0

/-- The other slot boots; one that was on TRIAL is VALID. -/
def otherBoot (s : State) : State :=
  let b := s.lantern.bootSlot
  let x := getSlot s b
  let s1 := if x.st = .trial then setSlot s b { x with st := .valid } else s
  s1.setLantern { s1.lantern with bootSlot := !b }

/-- The start of boot: the keep completes a pending transition, checks the image of the boot slot and falls back on the other one; failure on both slots
twice, a RECOVERY frame, or SCRAPPED leaves RECOVERY. Mirsis serves BAR0 later in the boot. -/
def startBoot (s : State) : State :=
  let s0 := s.setKeep { s.keep with boots := s.keep.boots + 1, nonce := none }
  let s1 := if s0.keep.pendingLc.isSome then completeLc s0 else s0
  let l := s1.lantern
  let good (b : Bool) : Bool := (imageBad s1 (getSlot s1 b).image).isNone
  if s1.keep.lc = 5 ∨ l.recoveryBoot = true ∨ 4 ≤ l.bootFails then s1.setLantern { l with mstate := .recovery, serving := false }
  else if good l.bootSlot then s1.setLantern { l with mstate := .boot, serving := false }
  else if good (!l.bootSlot) then
    let s2 := otherBoot s1
    s2.setLantern { s2.lantern with mstate := .boot, serving := false, bootFails := l.bootFails + 1 }
  else s1.setLantern { l with mstate := .recovery, serving := false }

/-! ## Module warm reset (R508, Tables 15.9 and 15.11) -/

/-- What the lantern keeps over any reset: firmware slots, chain address and the state of boot. -/
def keptLantern (l : Lantern) : Lantern :=
  { Lantern.fresh with slotA := l.slotA, slotB := l.slotB, bootSlot := l.bootSlot, bootFails := l.bootFails, recoveryBoot := l.recoveryBoot,
                       rescueSlot := l.rescueSlot, chainAddr := l.chainAddr, shelf := l.shelf, chainLast := l.chainLast, restartBy := l.restartBy }

/-- A link controller after a module reset: DISABLED until READY; its key counters, its retrain count and what has left on the line stay. -/
def keptLink (l : Link) : Link :=
  { Link.fresh with keyCtr := l.keyCtr, keyLow := l.keyLow, retrains := l.retrains, wire := l.wire }

/-- Links after a reset, by `f`. -/
def resetLinks (f : Link → Link) (m : Sparse Link) : Sparse Link := (m.map (fun e => (e.1, f e.2))).filter (fun e => decide (e.2 ≠ Link.fresh))

/-- Scratchpads end. -/
def endScratch (m : MemSys) : MemSys :=
  { m with bytes := Memory.zero m.bytes spBase (spBase + 640 * spBytes), poison := Sparse.clear m.poison (spBase / 64) ((spBase + 640 * spBytes) / 64),
           errs := Sparse.clear m.errs (spBase / 8) ((spBase + 640 * spBytes) / 8) }

/-- Rings after a restart: fresh, with LANTERN_CHANGE set. -/
def restartRings : Sparse Ring :=
  (ringIds.map (fun r => (ringKey r, { Ring.fresh with hisStatus := 8 }))).foldl (fun m e => Sparse.set m e.1 e.2) []

/-- The commands MODULE_RESET and FW_ACTIVATE outstanding now complete after the restart. -/
def noteRestart (s : State) : State :=
  let xs := ringIds.flatMap (fun r => ((s.ring r).out.filter (fun c => c.started && (c.opcode == 0x0107 || c.opcode == 0x0104))).map (fun c => (r, c.tag, c.opcode)))
  s.setLantern { s.lantern with restartBy := s.lantern.restartBy ++ xs }

/-- What a module warm reset ends, before the boot slot is chosen. -/
def warmEnd (s : State) : State :=
  let s1 := (s.ctxs.map (fun e => e.1)).foldl reportLost s
  let s2 := abortOutstanding (noteRestart s1) 3 (fun c => c.started && (c.opcode == 0x0107 || c.opcode == 0x0104))
  let s3 := saveJournals s2 (fun _ => true)
  let s4 : State := { s3 with
    rings := restartRings, lantern := keptLantern s3.lantern, ctxs := [], nextCtx := 1, groups := [], units := [],
    clusters := [], sync := SyncSys.fresh, risk := Risk.fresh, mem := endScratch s3.mem,
    keep := { s3.keep with certs := [], nonce := none, shared := s3.keep.shared.map (fun e => (e.1, { e.2 with repairs := [] })) },
    fabric := { Fabric.fresh with links := resetLinks keptLink s3.fabric.links, haltId := s3.fabric.haltId, haltAt := s3.fabric.haltAt, mgmtN := s3.fabric.mgmtN },
    carrier := { s3.carrier with isolated := [] } }
  s4.bump 0x0A000F0B 1

/-- A module warm reset: contexts, bindings, rings, scratchpads, accumulator files, objects and finalised code end; the module boots again. -/
def warmReset (s : State) : State := startBoot (selectBoot (warmEnd s))

/-- The PENDING slot, if one is. -/
def pendingSlot (s : State) : Option Bool :=
  if s.lantern.slotA.st = .pending then some false else if s.lantern.slotB.st = .pending then some true else none

/-- A module warm reset into the PENDING slot, which is then on TRIAL. -/
def activateReset (s : State) (b : Bool) : State :=
  let s1 := warmEnd s
  startBoot ((setSlot s1 b { getSlot s1 b with st := .trial }).setLantern { (setSlot s1 b { getSlot s1 b with st := .trial }).lantern with bootSlot := b })

/-- The boot watchdog: a module warm reset that boots from the other slot. -/
def watchdogReset (s : State) : State :=
  let s1 := warmEnd s
  let s2 := otherBoot s1
  startBoot (s2.setLantern { s2.lantern with bootFails := s2.lantern.bootFails + 1 })

/-! ## Cold reset and power (R497, R499, Table 15.9) -/

/-- Everything in the main domain lost: what a cold reset keeps is the fuses, identity keys, firmware slots and latched feed set, and what stands in the
standby domain. -/
def mainOff (s : State) (p : Power) : State :=
  let k := s.keep
  { State.reset with
    pending := s.pending, part := s.part, free := s.free, time := s.time, hostMem := s.hostMem, hostFail := s.hostFail, tx := s.tx,
    lantern := { keptLantern s.lantern with restartBy := [], fwWriting := s.lantern.fwWriting },
    keep := { Keep.fresh with lc := k.lc, pendingLc := k.pendingLc, recs := k.recs, svn := k.svn, boots := k.boots, entropyN := k.entropyN, keysOk := k.keysOk,
                              sealed := s.part.order == .h96e },
    fabric := { Fabric.fresh with links := resetLinks (fun l => { Link.fresh with wire := l.wire }) s.fabric.links },
    carrier := { s.carrier with power := p, budgets := [], dieTemp := [], dieRise := [], critical := false, isolated := [], sampleN := 0 } }

/-- Alerts whose condition ends with the main domain off. -/
def offAlerts (s : State) : State := clearAlert (clearAlert s aTHERMAL_CRITICAL) aCOOLANT_FLOW

/-- A trip (Table 15.3): a halt originated for every bound FPN, the rails off 1 ms later, the alert raised. -/
def trip (s : State) (alert : Nat) : State :=
  let fpns := s.ctxs.filterMap (fun e => e.2.job.map (·.fpn))
  let s1 := fpns.foldl (fun t f => originateHalt t f 0) s
  let s2 := raiseAlert (offAlerts (mainOff s1 .tripped)) alert
  s2.setCarrier { s2.carrier with tripCause := alert }

/-- A cold power-up starts (Table 15.4): the checks of step 1; the local counter starts at zero at step 3; steps 4 to 6 boot the lantern. A check that
fails ends the sequence with POWER_FAULT in STANDBY. -/
def coldStart (s : State) : State :=
  if !(s.carrier.inA || s.carrier.inB) || decide (45 < s.carrier.inlet) || !s.carrier.refSys then clearAlert (raiseAlert s aPOWER_FAULT) aPOWER_FAULT
  else
    let s1 := { mainOff s .powerUp with time := 0 }
    startBoot (selectBoot s1)

/-! ## Lantern takeover (R67) -/

/-- Halt, step-commit and snapshot orchestration asked for by a command (R61). -/
def protectedCode (op : Nat) : Bool := [0x0503, 0x0603, 0x0703, 0x070B].contains op

/-- The standby lantern takes over: protected work resumes from the journal, every other accepted command that has not completed completes with ABORTED 4, and
LANTERN_CHANGE and STANDBY are set. `running` is the command that asked for the switch, if one did. -/
def takeover (s : State) (running : OutCmd → Bool) : State :=
  let s1 := abortOutstanding s 4 (fun c => running c || protectedCode c.opcode.toNat)
  let s2 := ringIds.foldl (fun t r => raiseCause t r 3) s1
  (s2.setLantern { s2.lantern with standby := true }).bump 0x01000007 1

end Sys2Proof.Machine
end

