-- ==== Sys2Proof/Machine/Links.lean ====
section
/-! DEFINITION. The 48 links: their states (R353, R354), flits received, acknowledged and resent (R355 to R357), failover (R358), dead segments (R367)
and the halt wave on the wire (R381). -/

namespace Sys2Proof.Machine

open Sys2Proof

def linkCode : LinkState → Nat
  | .disabled => 0
  | .detect => 1
  | .equalise => 2
  | .align => 3
  | .exchange => 4
  | .active => 5
  | .retrain => 6
  | .down => 7
  | .miswired => 8

/-- The main domain is up. -/
def State.on (s : State) : Bool := s.carrier.power == .on

def setLinkSt (s : State) (n : Nat) (st : LinkState) : State := s.setLink n { s.link n with st := st }

/-- One event of a decaying count (R434), kept in 1/65,536. -/
def decayUnit : Nat := 65536

def noteLinkEvent (s : State) : State := { s with risk := { s.risk with linkEv := s.risk.linkEv + decayUnit } }

/-- The step epoch a link event carries: that of the first bound context, 0 when none. -/
def anyEpoch (s : State) : Nat :=
  match List.find? (fun (e : Nat × Ctx) => e.2.job.isSome) s.ctxs with
  | some e => e.2.epoch
  | none => 0

/-! ## Dead segments (R367) -/

/-- Position of the segment that a port's hop crosses from this module. -/
def portSegment (s : State) (p : Nat) : Nat × Nat :=
  let a := axisOfPort p
  let l := axisLen s a
  (a, if p % 2 = 0 then ownCoord s a else (ownCoord s a + l - 1) % l)

/-- Whether a queued packet, known by the header in its first flit, still has to cross a dead segment in its recorded direction. -/
def headCrosses (s : State) (h : List Byte) : Bool :=
  let a := (byteAt h 18).toNat % 8
  let minus := (byteAt h 18).toNat / 8 % 2 == 1
  if 6 ≤ a then false
  else
    let l := axisLen s a
    let d := (coordOf (field h 0 4) s.lantern.lengths).getD a 0
    let x := ownCoord s a
    crossesDead s a x (if minus then (x + l - d) % l else (d + l - x) % l) minus

/-- The queue without whole packets that cross a dead segment, and the headers of those removed. -/
def purgeQueue (s : State) : Nat → List TxFlit → List TxFlit × List (List Byte)
  | 0, q => (q, [])
  | _, [] => ([], [])
  | n + 1, f :: r =>
    let k := f.left
    let (rest, gone) := purgeQueue s n (r.drop k)
    if f.left + 1 = f.total ∧ f.vc ≠ 7 ∧ headCrosses s f.payload then (rest, f.payload :: gone) else (f :: r.take k ++ rest, gone)

/-- A packet of this module was discarded at its source: its message is lost (R364, R372). -/
def lostHead (s : State) (h : List Byte) : State :=
  let c := field h 20 4 % 1024
  if field h 4 4 ≠ s.lantern.fabricId then s
  else
    match (s.cluster c).msgs.find? (fun m => m.num == field h 14 2) with
    | some m => msgLost s c m (field h 16 1)
    | none => s

/-- Queued packets of every link that cross a dead segment are discarded. -/
def purgeLinks (s : State) : State :=
  (List.range 48).foldl (fun t n =>
    let l := t.link n
    let (q, gone) := purgeQueue t l.txq.length l.txq
    if gone.isEmpty then t
    else gone.foldl lostHead ((t.setLink n { l with txq := q }).bump 0x05000008 gone.length)) s

/-- A dead segment installed. -/
def addDead (s : State) (x : Nat × Nat) : State :=
  if s.fabric.dead.contains x then s else purgeLinks (s.setFabric { s.fabric with dead := s.fabric.dead ++ [x] })

def dropDead (s : State) (x : Nat × Nat) : State := s.setFabric { s.fabric with dead := s.fabric.dead.filter (fun y => y != x) }

/-! ## Failover (R358) -/

/-- The fabric ID of the module at the far end of a port. -/
def portNeighbour (s : State) (p : Nat) : Nat :=
  let a := axisOfPort p
  let l := axisLen s a
  let x := ownCoord s a
  fabIdOf ((List.range 6).map (fun b => if b = a then (if p % 2 = 0 then (x + 1) % l else (x + l - 1) % l) else ownCoord s b)) s.lantern.lengths

/-- FAILOVER on VC7 over the failover link: the failed slot and the last sequence number accepted on it. -/
def sendFailover (s : State) (n over_ : Nat) : State :=
  let l := s.link n
  let p0 := { newPacket s (portNeighbour s (portOfLink n)) 0xC000 0x12 with ord := true, enc := false, arg0 := BitVec.ofNat 64 (slotOfLink n),
                                                                             arg1 := BitVec.ofNat 64 ((l.expSeq + 4095) % 4096) }
  let p := { p0 with crc := BitVec.ofNat 32 (crc32c (crcCover p0 p0.data)) }
  queueOn s over_ 7 p (packetBytes p)

/-- The port of a link has no ACTIVE link left: held flits are discarded, the segment is installed dead, and the neighbour counts as lost unless this
is a detach (R358, R367, R434). -/
def portDied (s : State) (p : Nat) (detach : Bool) : State :=
  let s1 := (linksOf p).foldl (fun t n => t.setLink n { t.link n with replay := [], txq := [] }) s
  let s2 := if axisLen s (axisOfPort p) ≤ 1 then s1 else addDead s1 (portSegment s1 p)
  if detach then s2 else { s2 with risk := { s2.risk with neigh := s2.risk.neigh + decayUnit } }

/-- A link leaves ACTIVE or RETRAIN for `st`: its port fails over, or dies when this was its last link. -/
def leaveService (s : State) (n : Nat) (st : LinkState) (detach : Bool) : State :=
  let was := (s.link n).st
  let s1 := s.setLink n { s.link n with st := st, displaced := true, rxPart := [], halts := [] }
  if was ≠ .active ∧ was ≠ .retrain then s.setLink n { s.link n with st := st }
  else
    match failoverLink s1 (portOfLink n) with
    | some f => noteLinkEvent ((sendFailover s1 n f).bump 0x05000007 1)
    | none =>
      if (linksOf (portOfLink n)).any (fun m => (s1.link m).st == .active || (s1.link m).st == .retrain) then s1 else portDied s1 (portOfLink n) detach

/-- Where the flits taken over go in the failover link's queue: ahead of every later packet of the same VC, behind a packet that has begun to leave. -/
def spliceVc (held q : List TxFlit) (vc : Nat) : List TxFlit :=
  let mine := q.filter (fun f => f.vc == vc)
  let begun := match mine.head? with
    | some f => if f.left + 1 = f.total then 0 else f.left + 1
    | none => 0
  q.filter (fun f => f.vc != vc) ++ mine.take begun ++ held.filter (fun f => f.vc == vc) ++ mine.drop begun

/-- An arriving FAILOVER: flits up to the SEQ named are dropped, the rest move to the failover link (R358 step 2). -/
def takeFailover (s : State) (link slot lastSeq : Nat) : State :=
  let n := 4 * portOfLink link + slot % 4
  let l := s.link n
  if l.st = .active ∨ n = link then s
  else
    let after := match l.replay.findIdx? (fun f => f.seq == lastSeq % 4096) with
      | some i => l.replay.drop (i + 1)
      | none => l.replay
    let held := after ++ l.txq
    let s1 := s.setLink n { l with replay := [], txq := [] }
    let k := s1.link link
    pump (s1.setLink link { k with txq := (List.range 8).foldl (fun q v => spliceVc held q v) k.txq }) link

/-! ## Sending again (R357) -/

/-- A flit of the replay buffer leaves again; injection meets it as any other (R387). -/
def resendFlit (n : Nat) (s : State) (f : TxFlit) : State :=
  let l := s.link n
  let drop := injectHits s l 1 f.vc
  let corrupt := injectHits s l 2 f.vc
  let l1 := if drop then l else emit l true f.vc f.seq f.payload (if corrupt then some (Config.freeNat (s.free + 1)) else none)
  let l2 := if drop || corrupt then { l1 with inject := l1.inject.bind Inject.spend } else l1
  let s1 := (s.setLink n l2).bump 0x05000001 1
  let s2 := if drop || corrupt then s1.bump 0x0500000E 1 else s1
  if l.inject.isSome then { s2 with free := s2.free + 2 } else s2

/-- One resend series, from the oldest unacknowledged flit. -/
def resend (s : State) (n : Nat) : State :=
  let l := s.link n
  if l.replay.isEmpty then s
  else
    let s1 := (s.setLink n { l with noProgress := l.noProgress + 1 }).bump 0x05000005 1
    l.replay.foldl (resendFlit n) { s1 with risk := { s1.risk with replays := s1.risk.replays + decayUnit } }

/-! ## Receiving a flit (R355 to R357, R361, R381) -/

/-- Flits acknowledged leave the replay buffer. -/
def takeAck (l : Link) (ack : Nat) : Link :=
  match l.replay.findIdx? (fun f => f.seq == ack) with
  | some i => { l with replay := l.replay.drop (i + 1), noProgress := 0 }
  | none => l

def giveCredits (share vc : Nat) : Nat → Link → Link
  | 0, l => l
  | n + 1, l => giveCredits share vc n (giveCredit l share vc)

/-- The key under which a drained flit's credit is owed: by VC, or by share and VC when this module is sealed. -/
def owedKey (s : State) (share vc : Nat) : Nat := if vc = 7 then 7 else if s.keep.sealed then 16 + 8 * share + vc else vc

/-- A whole packet received on `vc`: link messages act here, lantern messages are the lantern's, a packet for this module waits in
`arrived` or is discarded for its unknown TXN, any other is routed on. -/
def packetIn (s : State) (n vc : Nat) (p : Packet) : State :=
  if p.txn = 0x12 then takeFailover s n p.arg0.toNat p.arg1.toNat
  else if p.txn = 0x11 then s
  else
    match routeOf s p vc with
    | .here =>
      if p.txn = 0x10 then s
      else if p.txn = 0 ∨ 0x0A < p.txn then s.bump 0x0500000B 1
      else s.setFabric { s.fabric with arrived := s.fabric.arrived ++ [p], arrivedOn := s.fabric.arrivedOn ++ [n] }
    | _ => forward s p vc

/-- A DATA flit accepted in order: its payload joins its packet, and its place in the receive buffer is owed back. -/
def acceptFlit (s : State) (n vc seq : Nat) (payload : List Byte) : State :=
  let l := s.link n
  let bs := Sparse.get [] l.rxPart vc ++ payload
  let key := owedKey s (shareOf (field bs 8 2)) vc
  let l1 := { l with expSeq := (seq + 1) % 4096, ackSent := seq, nakDone := false, crOwed := Sparse.put 0 l.crOwed key (Sparse.get 0 l.crOwed key + 1) }
  if 240 * flitsOf (headerLen bs) ≤ bs.length then
    packetIn (s.setLink n { l1 with rxPart := Sparse.put [] l1.rxPart vc [] }) n vc (parsePacket bs)
  else s.setLink n { l1 with rxPart := Sparse.put [] l1.rxPart vc bs }

/-- What this end owes leaves in an IDLE flit, and what can leave follows. -/
def answer (s : State) (n : Nat) (ackOwed : Bool) : State :=
  let l := s.link n
  pump (if l.st = .active ∧ (ackOwed = true ∨ l.nakOwed = true ∨ !l.crOwed.isEmpty = true) then s.setLink n (emit l false 0 0 [] none) else s) n

/-- A gap: NAK once, in the next flit this end sends. -/
def nakOnce (s : State) (n : Nat) : State :=
  let l := s.link n
  if l.nakDone then s else s.setLink n { l with nakOwed := true, nakDone := true }

/-- The HALT bit of a good flit (R381). -/
def haltBit (s : State) (n h : Nat) : State :=
  let fpn := h / 2 ^ 45 % 2 ^ 16
  let id := h / 2 ^ 61 % 8
  if h / 2 ^ 30 % 2 = 1 ∧ id ≠ haltIdOf s fpn then actHalt s fpn id 0 n else s

/-- A flit arrives on link `n`. A header is read only when the CRC is good. -/
def receive (s : State) (n : Nat) (bytes : List Byte) : State :=
  let l := s.link n
  if l.st ≠ .active ∨ bytes.length ≠ 256 then s
  else if crc64xz (bytes.take 248) ≠ field bytes 248 8 then
    answer (nakOnce ((s.bump 0x05000004 1).bump (0x05100000 + n) 1) n) n false
  else
    let h := field bytes 0 8
    let s1 := haltBit s n h
    let l1 := giveCredits (h / 2 ^ 34 % 8) (h / 2 ^ 31 % 8) (h / 2 ^ 37 % 256) (takeAck (s1.link n) (h / 2 ^ 17 % 4096))
    let s2 := s1.setLink n l1
    let s3 := if h / 2 ^ 29 % 2 = 1 then resend s2 n else s2
    if h % 4 = 1 then
      if h / 2 ^ 5 % 4096 = (s3.link n).expSeq then answer (acceptFlit s3 n (h / 4 % 8) (h / 2 ^ 5 % 4096) ((bytes.drop 8).take 240)) n true
      else answer (nakOnce s3 n) n false
    else answer s3 n false

/-! ## Link state rows (R353, R354) -/

/-- A link that stands in `st`, with its clock and its belfry die (R348) in service, moves on. -/
def linkStep (s : State) (n : Nat) (st : LinkState) (f : State → State) : Host.Outcome State Fault Refusal :=
  .next (if n < 48 ∧ s.on = true ∧ s.carrier.refLink = true ∧ s.carrier.isolated.contains (24 + n % 8) = false ∧ (s.link n).st = st then f s else s)

def execLinkSignalDetect (link : Nat) (s : State) : Host.Outcome State Fault Refusal := linkStep s link .detect (fun t => setLinkSt t link .equalise)

def execLinkNosignal (link : Nat) (s : State) : Host.Outcome State Fault Refusal := linkStep s link .detect (fun t => t.bump 0x0500000F 1)

def execEqualiseDone (link : Nat) (s : State) : Host.Outcome State Fault Refusal := linkStep s link .equalise (fun t => setLinkSt t link .align)

def execAlignDone (link : Nat) (s : State) : Host.Outcome State Fault Refusal := linkStep s link .align (fun t => setLinkSt t link .exchange)

def execTrainTimeout (link : Nat) (s : State) : Host.Outcome State Fault Refusal :=
  .next (if link < 48 ∧ s.on = true ∧ ((s.link link).st = .equalise ∨ (s.link link).st = .align) then (setLinkSt s link .down).bump 0x0500000F 1 else s)

/-- The identity check of R354. -/
def identityOk (s : State) (n farPort farSlot : Nat) (far : BitVec 64) : Bool :=
  let p := portOfLink n
  let a := axisOfPort p
  let farC (b : Nat) : Nat := far.toNat / 2 ^ (20 + 5 * b) % 32
  let l := axisLen s a
  let want (b : Nat) : Nat := if b = a then (if p % 2 = 0 then (ownCoord s b + 1) % l else (ownCoord s b + l - 1) % l) else ownCoord s b
  farPort == (if p % 2 = 0 then p + 1 else p - 1) && farSlot == slotOfLink n &&
    (!(s.lantern.fabValid && far.getLsbD 50) || (List.range 6).all (fun b => farC b == want b))

/-- The link becomes ACTIVE: sequence numbers and credits reset. -/
def activate (s : State) (n : Nat) (farSealed : Bool) : State :=
  let l := s.link n
  s.setLink n { l with st := .active, nextSeq := 0, expSeq := 0, ackSent := 4095, nakOwed := false, nakDone := false, replay := [], txq := [],
                       credits := startCredits farSealed, crOwed := [], rxPart := [], farSealed := farSealed, halts := [], noProgress := 0 }

def execExchange (link farPort farSlot : Nat) (farFabric : BitVec 64) (farSealed : Bool) (s : State) : Host.Outcome State Fault Refusal :=
  linkStep s link .exchange (fun t =>
    if identityOk t link farPort farSlot farFabric then activate t link farSealed
    else postEvent (setLinkSt t link .miswired) 0 0x0581 link (rec8 [farPort, farSlot, farFabric.toNat]))

/-- An ACTIVE link enters RETRAIN; a mode change resets its credits, less those of the flits it still holds. -/
def enterRetrain (s : State) (n : Nat) (mode : Bool) : State :=
  let l := s.link n
  let l1 := { l with st := .retrain, retrains := l.retrains + 1 }
  let l2 := if mode then l1.replay.foldl (fun x f => takeCredit x f.share f.vc) { l1 with credits := startCredits l1.farSealed, crOwed := [] } else l1
  noteLinkEvent ((s.setLink n l2).bump 0x05000006 1)

def execRetrainEntry (link : Nat) (cause : RetrainCause) (s : State) : Host.Outcome State Fault Refusal :=
  linkStep s link .active (fun t =>
    if cause = .replays ∧ (t.link link).noProgress < 16 then t else enterRetrain t link (cause == .modeChange))

/-- Realigned: the link replays from its oldest unacknowledged flit. -/
def execRealignDone (link : Nat) (s : State) : Host.Outcome State Fault Refusal :=
  linkStep s link .retrain (fun t => pump (resend (t.setLink link { t.link link with st := .active, noProgress := 0 }) link) link)

/-- Realignment failed: DOWN, with failover and FAB_LINK_STATE. The record's cause is a free value: the spec gives no codes. -/
def execRetrainFail (link : Nat) (s : State) : Host.Outcome State Fault Refusal :=
  linkStep s link .retrain (fun t =>
    let s1 := leaveService t link .down false
    postEvent s1.tick 0 0x0580 link (rec8 [6, 7, Config.freeNat s1.free, anyEpoch s1]))

def execDownTimeout (link : Nat) (s : State) : Host.Outcome State Fault Refusal := linkStep s link .down (fun t => setLinkSt t link .detect)

/-! ## Flit rows -/

def execFlitReceive (link : Nat) (bytes : List Byte) (s : State) : Host.Outcome State Fault Refusal :=
  .next (if link < 48 ∧ s.on = true then receive s link bytes else s)

/-- HALT_FLIT: a good flit that carries a halt with a new identifier. -/
def execHaltFlit (link : Nat) (bytes : List Byte) (s : State) : Host.Outcome State Fault Refusal :=
  .next (if link < 48 ∧ s.on = true ∧ crc64xz (bytes.take 248) = field bytes 248 8 ∧ field bytes 0 8 / 2 ^ 30 % 2 = 1 ∧
      field bytes 0 8 / 2 ^ 61 % 8 ≠ haltIdOf s (field bytes 0 8 / 2 ^ 45 % 2 ^ 16) then receive s link bytes else s)

/-- REPLAY_TIMEOUT: 2 µs with flits outstanding and no advance of ACK. -/
def execReplayTimeout (link : Nat) (s : State) : Host.Outcome State Fault Refusal :=
  .next (if link < 48 ∧ s.on = true ∧ isActive s link = true then resend s link else s)

/-- FAILOVER as a link message arrives. -/
def execFailover (link slot lastSeq : Nat) (s : State) : Host.Outcome State Fault Refusal :=
  .next (if link < 48 ∧ s.on = true ∧ isActive s link = true ∧ slot < 4 then takeFailover s link slot lastSeq else s)

/-! ## REFCLK_LINK (R513) -/

/-- REFCLK_LINK is lost: every link that was not disabled enters RETRAIN and then goes DOWN. -/
def execRefclkLinkLoss (s : State) : Host.Outcome State Fault Refusal :=
  let s1 := s.setCarrier { s.carrier with refLink := false }
  if !s.carrier.refLink then .next s
  else if !s.on then .next s1
  else
    let s2 := (List.range 48).foldl (fun t n => if isActive t n then enterRetrain t n false else t) s1
    .next ((List.range 48).foldl (fun t n => if (t.link n).st = .disabled then t else leaveService t n .down false) s2)

/-- REFCLK_LINK returns: every link goes back to DETECT. -/
def execRefclkLinkReturn (s : State) : Host.Outcome State Fault Refusal :=
  let s1 := s.setCarrier { s.carrier with refLink := true }
  .next (if !s.on || s.carrier.refLink then s1 else (List.range 48).foldl (fun t n => if (t.link n).st = .down then setLinkSt t n .detect else t) s1)

end Sys2Proof.Machine
end

