-- ==== Sys2Proof/Machine/Power.lean ====
section
/-! DEFINITION. The carrier: inputs, power states, limits and throttling, cooling, reference clocks, PCIe reset, stack temperatures and die isolation
(chapter 15, R308 to R311). -/

namespace Sys2Proof.Machine

open Sys2Proof

/-! ## Inputs and power states (R493 to R499, Table 15.3) -/

/-- An input is accepted: the standby rail comes up from UNPOWERED, and both straps are latched. -/
def execInputAccepted (input : Port) (feedA feedB : BitVec 8) (s : State) : Host.Outcome State Fault Refusal :=
  let c := s.carrier
  let s1 := s.setCarrier (match input with | .a => { c with inA := true } | .b => { c with inB := true })
  let s2 := clearAlert s1 (match input with | .a => aFEED_A_LOST | .b => aFEED_B_LOST)
  .next (if c.power = .unpowered then
      (s2.setCarrier { s2.carrier with power := .standby, feedA := feedA, feedB := feedB, chainPass := !c.refSys }).setLantern
        { s2.lantern with chainAddr := none, shelf := 0xFFFF, chainLast := [] }
    else s2)

/-- An input is dropped: counted, with its alert, while the standby domain is up. -/
def execInputDropped (input : Port) (s : State) : Host.Outcome State Fault Refusal :=
  let c := s.carrier
  let was := match input with | .a => c.inA | .b => c.inB
  let s1 := s.setCarrier (match input with | .a => { c with inA := false } | .b => { c with inB := false })
  .next (if !was || c.power == .unpowered then s1
    else match input with
      | .a => raiseAlert (s1.bump 0x0A000F03 1) aFEED_A_LOST
      | .b => raiseAlert (s1.bump 0x0A000F04 1) aFEED_B_LOST)

/-- The bus falls below 42 V: everything off. -/
def execBusLoss (s : State) : Host.Outcome State Fault Refusal :=
  let s1 := mainOff s .unpowered
  .next ((s1.setCarrier { s1.carrier with inA := false, inB := false, feedA := 0, feedB := 0, alerts := [], cleared := [], chainPass := false }).setLantern
    { s1.lantern with chainAddr := none, shelf := 0xFFFF, chainLast := [] })

def execPwrEnRise (s : State) : Host.Outcome State Fault Refusal :=
  let s1 := s.setCarrier { s.carrier with pwrEn := true }
  .next (if s.carrier.power = .standby ∧ s.carrier.pwrEn = false then coldStart s1 else s1)

/-- PWR_EN deasserts: while ON the main rails turn off, and nothing is flushed. -/
def execPwrEnFall (s : State) : Host.Outcome State Fault Refusal :=
  let s1 := s.setCarrier { s.carrier with pwrEn := false }
  .next (if s.on then offAlerts (mainOff s1 .standby) else s1)

/-- The sequence ends: ON, with BAR0 served unless the boot stands in RECOVERY; or a step has failed. -/
def execPowerUpComplete (ok : Bool) (s : State) : Host.Outcome State Fault Refusal :=
  .next (if s.carrier.power ≠ .powerUp then s
    else if ok then (s.setCarrier { s.carrier with power := .on }).setLantern { s.lantern with serving := s.lantern.mstate != .recovery }
    else
      let s1 := raiseAlert (mainOff s .standby) aPOWER_FAULT
      clearAlert s1 aPOWER_FAULT)

/-- The cause of a trip has cleared: STANDBY. A lost REFCLK_SYS clears only when it returns. -/
def execTripCleared (s : State) : Host.Outcome State Fault Refusal :=
  .next (if s.carrier.power ≠ .tripped ∨ (s.carrier.tripCause = aREFCLK_LOST ∧ s.carrier.refSys = false) then s
    else clearAlert (s.setCarrier { s.carrier with power := .standby, chainPass := !s.carrier.refSys }) s.carrier.tripCause)

/-! ## Budgets and throttling (R500 to R504) -/

/-- Budgets in force: the module's (7) in SHARED mode; partitions' (0 to 5) and the shared one (6) in SEALED mode. -/
def budgetKeys (s : State) : List Nat := if s.keep.sealed then List.range 7 else [7]

/-- Sustained and peak limits in watts (R500, Table 14.13). -/
def budgetLimits (k : Nat) : Nat × Nat := if k < 6 then (1400, 1600) else if k = 6 then (1200, 1400) else (9600, 11000)

def getBudget (s : State) (k : Nat) : Budget := Sparse.get Budget.fresh s.carrier.budgets k
def setBudget (s : State) (k : Nat) (b : Budget) : State := s.setCarrier { s.carrier with budgets := Sparse.put Budget.fresh s.carrier.budgets k b }

/-- The budget that a die's power falls under. -/
def dieBudget (s : State) (d : Nat) : Nat := if !s.keep.sealed then 7 else if d < 24 then d / 4 else 6

def raiseLevel (b : Budget) (n : Nat) : Budget := { b with level := Nat.min 4 (b.level + n), lowRun := 0 }

/-! ## Thermal protection (R506, Table 15.7) -/

/-- Budgets in THERMAL_CRITICAL: of a stopped stack, of a die at or above 115 °C, and of the module for an outlet at or above 70 °C. -/
def criticalBudgets (s : State) : List Nat :=
  ((List.range 48).filter (fun k => (s.stack k).stopped)).map (fun k => dieBudget s (k / 2)) ++
  (s.carrier.dieTemp.filter (fun e => decide (115 ≤ e.2))).map (fun e => dieBudget s e.1) ++
  (if 70 ≤ s.carrier.outlet ∧ s.on = true then budgetKeys s else [])

/-- THERMAL_CRITICAL entered or left; while it holds, its budgets stand at level 4. -/
def judgeCritical (s : State) : State :=
  let ks := criticalBudgets s
  let s1 := ks.foldl (fun t k => setBudget t k { getBudget t k with level := 4, lowRun := 0 }) s
  if ks.isEmpty then (if s.carrier.critical then clearAlert (s1.setCarrier { s1.carrier with critical := false }) aTHERMAL_CRITICAL else s1)
  else if s.carrier.critical then s1
  else raiseAlert ((s1.setCarrier { s1.carrier with critical := true }).bump 0x0A000F09 1) aTHERMAL_CRITICAL

/-- One 10 µs sample of `w` watts against a budget (R501): the budget after it, and whether it trips the module. -/
def sampleBudget (k n w : Nat) (held : Bool) (b : Budget) : Budget × Bool :=
  let (sus, peak) := budgetLimits k
  let recent := b.overs.filter (fun x => decide (n < x + 100000))
  let b0 : Budget := { b with watts := w, overs := if sus < w then n :: recent else recent }
  let peakRise := decide (peak < w)
  let long := decide (sus < w) && decide (2000 < b0.overs.length)
  let susRise := long && (b0.riseRun == 0 || b0.riseRun == 100)
  let run := if !long then 0 else if susRise then 1 else b0.riseRun + 1
  let b1 : Budget := { b0 with riseRun := run, peakRun := if b0.level = 4 ∧ peak < w then b0.peakRun + 1 else 0 }
  let b2 := if peakRise || susRise then raiseLevel b1 ((if peakRise then 1 else 0) + (if susRise then 1 else 0))
    else if 100 * w < 95 * sus then
      (if 99 ≤ b1.lowRun ∧ held = false then { b1 with lowRun := 0, level := b1.level - 1 } else { b1 with lowRun := b1.lowRun + 1 })
    else { b1 with lowRun := 0 }
  (b2, decide (2000 ≤ b2.peakRun))

/-- Energy drawn in one sample, in microjoules, gathered under the model's own counter 0x0100_0008; PWR_ENERGY counts whole millijoules. -/
def addEnergy (s : State) (w : Nat) : State :=
  let old := s.counter 0x01000008
  (s.bump 0x01000008 (10 * w)).bump 0x0A000F01 ((old + 10 * w) / 1000 - old / 1000)

/-- POWER_SAMPLE: the module's power, and in SEALED mode the power of each budget, over one 10 µs sample. -/
def powerSample (s : State) (total : Nat) (parts : List Nat) : State :=
  let n := s.carrier.sampleN
  let held := criticalBudgets s
  let s0 := addEnergy (s.setCarrier { s.carrier with watts := total, sampleN := n + 1 }) total
  let (s1, bad) := (budgetKeys s).foldl (fun (x : State × Bool) k =>
    let w := if k = 7 then total else parts.getD k 0
    let lv := (getBudget x.1 k).level
    let (b, t) := sampleBudget k n w (held.contains k) (getBudget x.1 k)
    let s2 := setBudget x.1 k b
    (if lv = 0 then s2 else s2.bump (0x0A000F04 + lv) 1, x.2 || t)) (s0, false)
  if bad then trip s1 aPOWER_FAULT else s1

def execPowerSample (total : Nat) (budgets : List Nat) (s : State) : Host.Outcome State Fault Refusal := .next (if s.on then powerSample s total budgets else s)

/-- A droop of the bus, or of a die's logic rail (R503), is counted. -/
def execDroopEvent (_ : Option Nat) (s : State) : Host.Outcome State Fault Refusal :=
  .next (if s.on then { (s.bump 0x0A000F02 1) with risk := { s.risk with droops := s.risk.droops + decayUnit } } else s)

/-- The straps read once a second (R495). -/
def execFeedidRead (feedA feedB : BitVec 8) (s : State) : Host.Outcome State Fault Refusal :=
  .next (if s.carrier.power = .unpowered then s
    else if feedA = s.carrier.feedA ∧ feedB = s.carrier.feedB then clearAlert s aFEEDID_CHANGED
    else raiseAlert (s.bump 0x0A000F0A 1) aFEEDID_CHANGED)

/-- A die junction reading: at 100 °C and above the level rises, and again after each 1 ms above; at 115 °C THERMAL_CRITICAL; at 125 °C a trip. -/
def dieReading (s : State) (d : Nat) (t : Int) : State :=
  let s1 := s.setCarrier { s.carrier with dieTemp := Sparse.set s.carrier.dieTemp d t }
  if 125 ≤ t then trip s1 aTHERMAL_TRIP
  else if t < 100 then judgeCritical (s1.setCarrier { s1.carrier with dieRise := Sparse.del s1.carrier.dieRise d })
  else
    let due := match Sparse.find? s.carrier.dieRise d with
      | none => true
      | some x => decide (x + 1000000 ≤ s.time.toNat)
    judgeCritical (if due then
      setBudget (s1.setCarrier { s1.carrier with dieRise := Sparse.set s1.carrier.dieRise d s.time.toNat }) (dieBudget s d)
        (raiseLevel (getBudget s1 (dieBudget s d)) 1)
    else s1)

def execDieTempReading (die : Nat) (celsius : Int) (s : State) : Host.Outcome State Fault Refusal :=
  .next (if die < 32 ∧ s.on = true then dieReading s die celsius else s)

/-- Coolant sensors read in STANDBY too; flow in units of 0.1 L/min. -/
def coolantReading (s : State) (inlet outlet : Int) (flow : Nat) : State :=
  let s1 := s.setCarrier { s.carrier with inlet := inlet, outlet := outlet, flow := flow }
  let s2 := if 45 < inlet then raiseAlert s1 aINLET_HOT else clearAlert s1 aINLET_HOT
  let s3 := if s.on = true ∧ flow < 160 then raiseAlert s2 aCOOLANT_FLOW else clearAlert s2 aCOOLANT_FLOW
  if s.on then judgeCritical s3 else s3

def execCoolantReading (inlet outlet : Int) (flow : Nat) (s : State) : Host.Outcome State Fault Refusal :=
  .next (if s.carrier.power = .unpowered then s else coolantReading s inlet outlet flow)

/-- THERMAL_CRITICAL held for 1 s, or flow below 8 L/min for 2 s while ON. -/
def execThermalCriticalTimeout (s : State) : Host.Outcome State Fault Refusal :=
  .next (if s.on = true ∧ (s.carrier.critical = true ∨ s.carrier.flow < 80) then trip s aTHERMAL_TRIP else s)

/-! ## Stack temperatures (R308 to R311) -/

def stackThreshold (s : State) (lv : Nat) : Int := if lv = 1 then s.mem.t1 else if lv = 2 then s.mem.t2 else s.mem.t3

/-- The highest level whose threshold a reading reaches. -/
def reachedLevel (s : State) (t : Int) : Nat := if (s.mem.t3 : Int) ≤ t then 3 else if (s.mem.t2 : Int) ≤ t then 2 else if (s.mem.t1 : Int) ≤ t then 1 else 0

/-- Refresh rate of the reserve pseudo-channels, with 3 °C of hysteresis on the way down. -/
def refreshRate (old : Nat) (t : Int) : Nat :=
  if 95 < t then 4 else if old = 4 ∧ 92 ≤ t then 4 else if 85 < t then 2 else if 2 ≤ old ∧ 82 ≤ t then 2 else 1

def stackReading (s : State) (k : Nat) (t : Int) : State :=
  let x := s.stack k
  let up := reachedLevel s t
  let low := x.level != 0 && decide (t < stackThreshold s x.level - 3)
  let run := if low then x.low + 1 else 0
  let lv := if x.level < up then up else if 10 ≤ run then x.level - 1 else x.level
  let stop := decide (105 ≤ t)
  let s1 := s.setStack k { temp := t, level := lv, low := if lv = x.level then run else 0, refresh := refreshRate x.refresh t, stopped := stop }
  let s2 := if x.level = 0 then s1 else s1.bump (0x03000005 + x.level) 100
  let s3 := if stop then s2.bump 0x03000009 1 else s2
  let s4 := if lv ≠ x.level ∨ (stop = true ∧ x.stopped = false) then postEvent s3 0 0x0381 k (rec8 [lv, unsign 64 t]) else s3
  judgeCritical s4

def execStackTempReading (stack : Nat) (celsius : Int) (s : State) : Host.Outcome State Fault Refusal :=
  .next (if stack < 48 ∧ s.on = true then stackReading s stack celsius else s)

/-! ## Clocks and PCIe reset (R510, R513) -/

/-- Every function of both ports reset as by function level reset. -/
def resetPorts (s : State) : State := ringIds.foldl flr s

def execRefclkSysLoss (s : State) : Host.Outcome State Fault Refusal :=
  let s1 := s.setCarrier { s.carrier with refSys := false }
  .next (if s.on then trip s1 aREFCLK_LOST
    else if s.carrier.power = .standby then s1.setCarrier { s1.carrier with chainPass := true } else s1)

def execRefclkSysReturn (s : State) : Host.Outcome State Fault Refusal :=
  let s1 := clearAlert (s.setCarrier { s.carrier with refSys := true }) aREFCLK_LOST
  .next (if s.carrier.power = .standby then s1.setCarrier { s1.carrier with chainPass := false } else s1)

def execRefclkHostLoss (s : State) : Host.Outcome State Fault Refusal := .next (resetPorts (s.setCarrier { s.carrier with refHost := false }))

def execRefclkHostReturn (s : State) : Host.Outcome State Fault Refusal := .next (s.setCarrier { s.carrier with refHost := true })

def execHostPerstAssert (s : State) : Host.Outcome State Fault Refusal :=
  .next (if s.carrier.perstN then resetPorts ((s.setCarrier { s.carrier with perstN := false }).bump 0x0A000F0D 1) else s)

def execHostPerstDeassert (s : State) : Host.Outcome State Fault Refusal := .next (s.setCarrier { s.carrier with perstN := true })

/-! ## Die isolation (R511, Table 15.10) -/

/-- Contexts of the member whose spire die is gone: bound ones report themselves lost, and their groups stop. -/
def loseSlot (s : State) (i : Nat) : State := (slotCtxs s i).foldl (fun t n => stopContext (reportLost t n) n) s

/-- Contexts with a group on a cluster of belfry die `d` stop. -/
def loseBelfry (s : State) (d : Nat) : State :=
  let ns := (s.groups.filter (fun e => dieOf (e.1 / 64) == d)).map (fun e => e.2.ctx)
  ns.dedup.foldl stopContext s

/-- Rings in BAR2 of port A are lost with die 24 (R67). -/
def dropLocalRings (s : State) : State :=
  (List.range 7).foldl (fun t n => if (t.ring ⟨.a, n⟩).loc then t.setRing ⟨.a, n⟩ Ring.fresh else t) s

/-- The lanterns after a die is gone: die 28 takes over from die 24; when neither can serve, Mirsis resets the module. -/
def lanternDie (s : State) (d : Nat) : State :=
  let gone := s.carrier.isolated
  if gone.contains 24 && gone.contains 28 then warmReset s
  else if d = 24 ∧ s.lantern.standby = false then dropLocalRings (takeover s (fun _ => false))
  else if d = 28 ∧ s.lantern.standby = true then
    let s1 := takeover s (fun _ => false)
    s1.setLantern { s1.lantern with standby := false }
  else s

def isolateDie (s : State) (d : Nat) : State :=
  let s1 := (s.setCarrier { s.carrier with isolated := insertNat d s.carrier.isolated }).bump 0x0A000F0C 1
  if d < 24 then loseSlot s1 (d / 4)
  else
    let s2 := loseBelfry s1 d
    let s3 := (List.range 48).foldl (fun t n => if n % 8 = d - 24 then leaveService t n .down false else t) s2
    lanternDie s3 d

def execDieIsolate (die : Nat) (s : State) : Host.Outcome State Fault Refusal :=
  .next (if die < 32 ∧ s.on = true ∧ s.carrier.isolated.contains die = false then isolateDie s die else s)

end Sys2Proof.Machine
end

