-- ==== Sys2Proof/Machine/Mgmt.lean ====
section
/-! DEFINITION. The management commands (R53, R56 to R60, R67 to R72, Tables 2.17 to 2.22a), telemetry (R63 to R66), and the lantern's own events. -/

namespace Sys2Proof.Machine

open Sys2Proof

/-! ## NOP and IDENTIFY -/

def cmdNop : Cmd := { code := 0x0100, fixed := 0, bad := noBad, run := fun s _ _ => .ok s }

def fwCode : FwState → Nat
  | .empty => 0
  | .valid => 1
  | .pending => 2
  | .trial => 3
  | .active => 4

/-- The version of a slot's image; 0 when EMPTY. -/
def slotVersion (x : FwSlot) : Nat := if x.st = .empty then 0 else x.version.toNat

/-- The 64 bytes of Table 2.17a. -/
def identifyBytes (s : State) (r : RingId) : List Byte :=
  leBytes 8 (lidIdent s r).toNat ++ leBytes 8 (lidFwver s).toNat ++ leBytes 8 (lidFabric s).toNat ++ leBytes 4 (slotVersion s.lantern.slotA) ++
  leBytes 4 (slotVersion s.lantern.slotB) ++ [BitVec.ofNat 8 (fwCode s.lantern.slotA.st), BitVec.ofNat 8 (fwCode s.lantern.slotB.st),
    BitVec.ofNat 8 (mstateCode s.lantern.mstate), s.part.slotid.setWidth 8, s.lantern.chainAddr.getD 0xFF, s.carrier.feedA, s.carrier.feedB,
    BitVec.ofNat 8 s.keep.lc] ++ leBytes 2 s.lantern.shelf.toNat ++ zeros 22

def cmdIdentify : Cmd := { code := 0x0101, fixed := 64, bad := noBad, run := fun s r _ => .okWith s (identifyBytes s r) }

/-! ## Firmware slots (R59, R60, R464, R498) -/

/-- Bytes staged at an offset; each byte staged is listed, whatever its value. -/
def stageBytes : Sparse Byte → Nat → List Byte → Sparse Byte
  | m, _, [] => m
  | m, o, b :: bs => stageBytes (Sparse.set m o b) (o + 1) bs

def cmdFwStage : Cmd :=
  { code := 0x0102, fixed := 0,
    bad := fun _ _ c => [(c.payloadLen == 0, 8), (decide (c.arg 4 4 < c.arg 0 4 + c.payloadLen), 40), (c.arg 4 4 == 0, 44)],
    run := fun s r c => pf0Only s r (fun _ =>
      let old : Sparse Byte := match s.lantern.staged with
        | some (n, m) => if n = c.arg 4 4 then m else []
        | none => []
      .ok (s.setLantern { s.lantern with staged := some (c.arg 4 4, stageBytes old (c.arg 0 4) c.payload) })) }

/-- The staged image, when every byte of it has been staged. -/
def stagedImage (s : State) : Option (List Byte) :=
  match s.lantern.staged with
  | some (n, m) => if m.length = n then some (m.map (fun e => e.2)) else none
  | none => none

/-- The offset of the header field that makes an image's format bad, as a payload offset. -/
def formatOffset (b : List Byte) : Nat := if field b 0 4 ≠ 0x5746_354B then 64 else 68

def cmdFwCommit : Cmd :=
  { code := 0x0103, fixed := 4, bad := noBad,
    run := fun s r c => pf0Only s r (fun _ =>
      let t := inactiveSlot s
      match stagedImage s with
      | none => .notInStateFree s
      | some b =>
        if (getSlot s t).st ≠ .empty ∧ (getSlot s t).st ≠ .valid then .notInState s (fwCode (getSlot s t).st)
        else
          match imageBad s b with
          | some .format => .badArg s (formatOffset b)
          | some .signature => .fin (setSlot s t FwSlot.fresh) sINTEGRITY 0 []
          | some .rollback => .denied (setSlot s t FwSlot.fresh) dROLLBACK
          | some .eval => .denied s dEVAL_LOCK
          | none => .keep (s.setLantern { s.lantern with fwWriting := true }) 2),
    again := fun s _ _ =>
      match stagedImage s with
      | none => .later
      | some b =>
        let s1 := setSlot s (inactiveSlot s) (slotOfImage .pending b)
        .okWith (s1.setLantern { s1.lantern with fwWriting := false, staged := none }) (leBytes 4 (imgVersion b).toNat) }

def cmdFwActivate : Cmd :=
  { code := 0x0104, fixed := 0, bad := noBad,
    run := fun s r _ => pf0Only s r (fun _ =>
      match pendingSlot s with
      | none => .notInState s (fwCode (getSlot s (inactiveSlot s)).st)
      | some b => .gone (activateReset s b)) }

/-! ## EVENT_GET, CMD_ABORT, MODULE_RESET, COMMAND_TIMEOUT -/

def cmdEventGet : Cmd :=
  { code := 0x0105, fixed := 0, bad := fun s r c => [(!(s.fev r.fn).recs.any (fun e => e.seq == c.arg 0 8), 40)],
    run := fun s r c =>
      match (s.fev r.fn).recs.find? (fun e => e.seq == c.arg 0 8) with
      | some e => rawResult s c (e.bytes.take 256)
      | none => .badArg s 40 }

/-- Started commands that their chapters mark abortable while they wait: those whose tables give a result on ABORTED. -/
def abortable (c : OutCmd) : Bool := c.opcode.toNat / 256 != 1

/-- The ring a CMD_ABORT names: its own port's ring of the function in ARGS. -/
def abortRing (r : RingId) (c : OutCmd) : RingId := ⟨r.port, c.arg 2 1⟩

def cmdCmdAbort : Cmd :=
  { code := 0x0106, fixed := 0,
    bad := fun s r c => [(!(s.ring (abortRing r c)).out.any (fun x => x.tag.toNat == c.arg 0 2), 40), (decide (6 < c.arg 2 1), 42)],
    run := fun s r c => pf0Only s r (fun _ =>
      let q := abortRing r c
      match (s.ring q).out.find? (fun x => x.tag.toNat == c.arg 0 2) with
      | none => .badArg s 40
      | some x =>
        if !x.started || abortable x then .ok (finish (abortEffect s q x) q x.tag sABORTED 1 [])
        else .notInStateFree s) }

def cmdModuleReset : Cmd := { code := 0x0107, fixed := 0, bad := noBad, run := fun s r _ => pf0Only s r (fun _ => .gone (warmReset s)) }

/-! ## DETACH and ATTACH (R68, R69, Table 2.22) -/

def stateCode (s : State) : Nat := mstateCode s.lantern.mstate

/-- Steps 3 to 7 of Table 2.22: jobs still bound are handed to the survival path, neighbours told, links turned off, partition state scrubbed. -/
def detachEnd (s : State) : State :=
  let s1 := (s.ctxs.map (fun e => e.1)).foldl reportLost s
  let s2 := (List.range 12).foldl (fun t p => if portLive t p then sendMgmt t (portNeighbour t p) 0xC000 else t) s1
  let s3 := (List.range 48).foldl (fun t n => leaveService t n .disabled true) s2
  let s4 := (List.range 6).foldl (fun t i => if (t.part? i).exist then scrubSlot (closeSlot t i) i true else t) s3
  s4.setLantern { s4.lantern with mstate := .detached, detachBy := none }

/-- Whether a graceful detach's jobs have all applied the committed step, taken its snapshot and halted at the boundary. -/
def detachReady (s : State) : Bool :=
  s.ctxs.all (fun e => match e.2.job with
    | some j => j.st == .haltedAt && j.surv.taking == 0
    | none => true)

/-- Step 2 in immediate mode: each partition is halted at once and its uncommitted step discarded. -/
def detachHalt (s : State) : State := (s.ctxs.filterMap (fun e => e.2.job.map (·.fpn))).foldl (fun t f => originateHalt t f 0) s

/-- Step 2 in graceful mode: at the next COMMIT the members apply, take the snapshot ordered for DETACH, and halt at the boundary. -/
def detachOrder (s : State) : State :=
  s.ctxs.foldl (fun t e => match e.2.job with
    | some j => (if isRoot t j then t else tell t j 0) |> fun u =>
        setJob u e.1 { j with haltHeld := if j.st = .haltedAt then j.haltHeld else true, surv := { j.surv with orderDetach := true } }
    | none => t) s

def cmdDetach : Cmd :=
  { code := 0x010A, fixed := 0, bad := fun _ _ c => [(decide (1 < c.arg 0 1), 40)],
    run := fun s r c => pf0Only s r (fun _ =>
      if s.lantern.mstate ≠ .joined then .notInState s (stateCode s)
      else
        let s1 := s.setLantern { s.lantern with mstate := .detaching, detachBy := some (r, c.tag), detachMode := c.arg 0 1 }
        if c.arg 0 1 = 1 then .ok (detachEnd (detachHalt s1))
        else
          let s2 := detachOrder s1
          if detachReady s2 then .ok (detachEnd s2) else .keep s2 2),
    again := fun s _ _ => if detachReady s then .ok (detachEnd s) else .later }

def cmdAttach : Cmd :=
  { code := 0x010B, fixed := 0, bad := noBad,
    run := fun s r _ => pf0Only s r (fun _ =>
      if s.lantern.mstate ≠ .ready ∧ s.lantern.mstate ≠ .detached then .notInState s (stateCode s)
      else if s.lantern.survey.st = 2 then
        let s1 := s.setFabric { s.fabric with dead := [] }
        let s2 := if s.lantern.mstate = .detached then
            (List.range 48).foldl (fun t n => if (t.link n).st = .disabled ∧ 1 < axisLen t (axisOfPort (portOfLink n)) then setLinkSt t n .detect else t) s1
          else s1
        .ok (s2.setLantern { s2.lantern with mstate := .joined, fabValid := true })
      else if s.lantern.survey.st < 2 then .notInState s (stateCode s)
      else .ok (s.setLantern { s.lantern with mstate := .mismatch, fabValid := false })) }

/-- Whether the die 28 lantern stands by. -/
def standbyWaits (s : State) : Bool := !s.lantern.standby && !s.carrier.isolated.contains 28

def cmdLanternSwitch : Cmd :=
  { code := 0x010C, fixed := 0, bad := noBad,
    run := fun s r c => pf0Only s r (fun _ =>
      if standbyWaits s then .ok (takeover s (fun x => x.tag == c.tag && x.opcode == c.opcode && x.started)) else .notInStateFree s) }

/-- COMMAND_TIMEOUT (R53): a graceful DETACH goes on as an immediate one (R69). -/
def commandTimeout (s : State) (r : RingId) (tag : BitVec 16) (ms : Nat) : State :=
  match (s.ring r).out.find? (fun c => c.tag == tag) with
  | none => s
  | some c =>
    if ms < c.timeoutMs then s
    else if c.opcode = 0x010A ∧ c.started = true then finish (detachEnd (detachHalt s)) r tag sOK 1 []
    else finish (abortEffect s r c) r tag sTIMEOUT ms []

/-! ## The survey (R70 to R72, Table 2.22a) -/

/-- Survey probes over every live port: ENC 0, on VC7. -/
def sendProbes (s : State) (except : Option Nat) : State :=
  (List.range 12).foldl (fun t p =>
    if some p = except ∨ axisLen t (axisOfPort p) ≤ 1 then t
    else
      match failoverLink t p with
      | none => t
      | some n =>
        let q0 := { newPacket t (portNeighbour t p) 0xC000 0x11 with ord := true, enc := false, data := padTo 152 (Config.mgmtData t.fabric.mgmtN) }
        let q := { q0 with crc := BitVec.ofNat 32 (crc32c (crcCover q0 q0.data)) }
        let t1 := queueOn t n 7 q (packetBytes q)
        t1.setFabric { t1.fabric with mgmtN := t1.fabric.mgmtN + 1 }) s

def argLengths (c : OutCmd) : List Nat := (List.range 6).map (fun i => c.arg i 1)

def cmdSurveyStart : Cmd :=
  { code := 0x0108, fixed := 0,
    bad := fun _ _ c =>
      (List.range 6).map (fun i => (c.arg i 1 == 0 || decide (32 < c.arg i 1), 40 + i)) ++
        [(decide (131072 < systemSize (argLengths c)), 40), (decide (5 < c.arg 6 1), 46), (decide (1 < c.arg 7 1), 47)],
    run := fun s r c => pf0Only s r (fun _ =>
      let ls := argLengths c
      let l := s.lantern
      if c.arg 7 1 = 1 then
        let v : Survey := { Survey.fresh with st := 2, flags := 1, lengths := ls, shelfAxis := c.arg 6 1, fabricId := some 0, coord := [0, 0, 0, 0, 0, 0] }
        .ok (sendProbes (s.setLantern { l with survey := v, lengths := ls, fabricId := 0, coord := [0, 0, 0, 0, 0, 0], fabValid := true }) none)
      else
        let v : Survey := { Survey.fresh with st := 1, lengths := ls, shelfAxis := c.arg 6 1 }
        .ok (s.setLantern { l with survey := v, lengths := ls })) }

/-- The coordinate that a probe arriving on a port gives. -/
def probeCoord (p : Nat) (x : SurveyProbe) : List Nat :=
  (List.range 6).map (fun a =>
    let l := Nat.max 1 (x.lengths.getD a 1)
    let c := x.coord.getD a 0
    if a = axisOfPort p then (if p % 2 = 0 then (c + l - 1) % l else (c + 1) % l) else c)

/-- Chain addresses rise with SLOTID. -/
def shelfOrdered : List (Nat × Nat) → Bool
  | [] => true
  | [_] => true
  | x :: y :: r => decide (x.1 < y.1 → x.2 < y.2) && shelfOrdered (y :: r)

/-- A SLOTID neighbour stands where the shelf axis puts it: the far end of this port, and the peers listed on the shelf. -/
def shelfNeighbours (s : State) (p : Nat) (x : SurveyProbe) : Bool :=
  let own := s.part.slotid.toNat
  let up := 2 * x.shelfAxis
  let far := x.farSlotId
  (far != some (own + 1) || p == up) && (own == 0 || far != some (own - 1) || p == up + 1) &&
  (p != up || !x.shelf.any (fun e => e.2 == own + 1) || far == some (own + 1)) &&
  (p != up + 1 || own == 0 || !x.shelf.any (fun e => e.2 == own - 1) || far == some (own - 1))

/-- An arriving probe (R70, R71): the first gives a coordinate, which is cross-checked; another that disagrees is a conflict. -/
def surveyProbe (s : State) (p : Nat) (x : SurveyProbe) : State :=
  let l := s.lantern
  let c := probeCoord p x
  let v := l.survey
  if v.st = 0 ∨ v.st = 1 then
    let order := shelfOrdered x.shelf
    let near := shelfNeighbours s p x
    let id := fabIdOf c x.lengths
    let v1 : Survey := { Survey.fresh with st := if order && near then 2 else 4, flags := BitVec.ofNat 8 ((if order then 0 else 2) + (if near then 0 else 4)),
                                           lengths := x.lengths, shelfAxis := x.shelfAxis, fabricId := some id, coord := c, port := some p }
    let l1 : Lantern := { l with survey := v1, lengths := x.lengths, coord := c, fabricId := id, fabValid := order && near,
                                 mstate := if !(order && near) && l.mstate == .ready then .mismatch else l.mstate }
    sendProbes (s.setLantern l1) (some p)
  else if (v.st = 2 ∨ v.st = 4) ∧ c ≠ v.coord then
    s.setLantern { l with survey := { v with st := 3, fabricId := none, confCoord := c, confPort := some p }, fabValid := false, fabricId := 0, coord := [0, 0, 0, 0, 0, 0] }
  else s

def execSurveyProbe (port : Nat) (probe : SurveyProbe) (s : State) : Host.Outcome State Fault Refusal :=
  .next (if port < 12 ∧ s.on = true ∧ portLive s port = true ∧ s.lantern.mstate ≠ .recovery then surveyProbe s port probe else s)

def coordBytes (c : List Nat) : List Byte := if c.isEmpty then List.replicate 6 0xFF else (List.range 6).map (fun a => BitVec.ofNat 8 (c.getD a 0))

def surveyBytes (v : Survey) : List Byte :=
  [BitVec.ofNat 8 v.st, v.flags] ++ (List.range 6).map (fun a => BitVec.ofNat 8 (v.lengths.getD a 0)) ++ [BitVec.ofNat 8 v.shelfAxis] ++ zeros 3 ++
  leBytes 4 (v.fabricId.getD 0xFFFF_FFFF) ++ coordBytes v.coord ++ leBytes 2 (v.port.getD 0xFFFF) ++ coordBytes v.confCoord ++ [BitVec.ofNat 8 (v.confPort.getD 0xFF), 0]

def cmdSurveyStatus : Cmd := { code := 0x0109, fixed := 32, bad := noBad, run := fun s r _ => pf0Only s r (fun _ => .okWith s (surveyBytes s.lantern.survey)) }

def cmdSurveyAccept : Cmd :=
  { code := 0x010D, fixed := 0, bad := fun s _ c => [(s.lantern.mstate == .mismatch && s.lantern.survey.fabricId != some (c.arg 0 4), 40)],
    run := fun s r _ => pf0Only s r (fun _ =>
      if s.lantern.mstate ≠ .mismatch then .notInState s (stateCode s)
      else .ok (s.setLantern { s.lantern with mstate := .joined, fabValid := true })) }

/-! ## Telemetry (R63 to R66, Tables 2.19 and 2.20) -/

/-- Identifiers of the chapters' counter tables: first and number. -/
def tlmRanges : List (Nat × Nat) :=
  [(0x03000001, 13), (0x03100000, 48), (0x04000001, 11), (0x05000001, 16), (0x05100000, 48), (0x06000001, 14), (0x07000001, 12), (0x08000001, 9),
   (0x09000001, 8), (0x0A000601, 13), (0x0A000701, 10), (0x0A000F01, 13)]

def tlmIds : List Nat := tlmRanges.flatMap (fun x => (List.range x.2).map (fun i => x.1 + i))

def tlmKnown (id : Nat) : Bool := tlmRanges.any (fun x => decide (x.1 ≤ id) && decide (id < x.1 + x.2))

def cmdTlmList : Cmd :=
  { code := 0x0A00, fixed := 0, bad := noBad, run := fun s _ c => listResult s c (fun _ => []) ((tlmIds.filter (fun x => decide (c.arg 0 4 ≤ x))).map (leBytes 4)) }

/-- The step epoch a function's telemetry carries: its partition's, or for PF0 that of the first bound context. -/
def tlmEpoch (s : State) (fn : Nat) : Nat := if fn = 0 then anyEpoch s else s.slotEpoch (fn - 1)

def tlmBytes (s : State) (fn : Nat) (ids : List Nat) : List Byte :=
  leBytes 8 s.time.toNat ++ leBytes 8 (tlmEpoch s fn) ++ ids.flatMap (fun i => leBytes 8 (if tlmKnown i then s.counter i else 2 ^ 64 - 1))

def cmdTlmRead : Cmd :=
  { code := 0x0A01, fixed := 0, bad := fun _ _ c => [(c.payloadLen % 4 != 0 || decide (4096 < c.payloadLen), 8)],
    run := fun s r c =>
      let ids := (List.range (c.payload.length / 4)).map (fun i => c.pay (4 * i) 4)
      let bs := tlmBytes s r.fn ids
      if bs.length ≤ c.resultLen ∧ ids.all tlmKnown = true then .fin s sOK 0 bs
      else .fin s sPARTIAL bs.length (if bs.length ≤ c.resultLen then bs else bs.take (16 + (c.resultLen - 16) / 8 * 8)) }

def cmdTlmSampleCfg : Cmd :=
  { code := 0x0A02, fixed := 0, bad := fun _ _ c => [(decide (c.arg 0 4 < 100) || decide (1000000 < c.arg 0 4), 40)],
    run := fun s _ c => .ok (s.setLantern { s.lantern with tlmPeriod := c.arg 0 4, tlmStretch := 1, tlmSkip := 0 }) }

/-- One configured period passes: a sample is taken, or shed while the period is stretched (Table 2.19). The stretch doubles, up to 16, at shed level 1 and
above; the model's counter 0x0100_0040 counts shed samples. -/
def telemetrySample (s : State) : State :=
  let l := s.lantern
  if 0 < l.tlmSkip then (s.setLantern { l with tlmSkip := l.tlmSkip - 1 }).bump 0x01000040 1
  else
    let k := if 1 ≤ l.shed then Nat.min 16 (2 * l.tlmStretch) else 1
    let x : Sample := { time := s.time, epoch := anyEpoch s, values := s.counters }
    s.setLantern { l with samples := l.samples ++ [x], tlmStretch := k, tlmSkip := k - 1 }

def execTelemetrySample (s : State) : Host.Outcome State Fault Refusal := .next (if s.on && s.lantern.serving then telemetrySample s else s)

/-! ## Load and shedding (R63) -/

def shedThreshold (lv : Nat) : Nat := if lv = 0 then 0 else if lv = 1 then 85 else if lv = 2 then 92 else 97

/-- Level and low-window count after a window of load `x` percent. -/
def shedStep (lv low x : Nat) : Nat × Nat :=
  let up := if 97 < x then 3 else if 92 < x then 2 else if 85 < x then 1 else 0
  if lv < up then (up, 0)
  else if lv ≠ 0 ∧ x + 10 < shedThreshold lv then (if low + 1 = 3 then (lv - 1, 0) else (lv, low + 1))
  else (lv, 0)

/-- A class's window in SEALED mode (Table 14.13). -/
def classWindow (s : State) (k x : Nat) : State :=
  let l := s.lantern
  let y := shedStep (Sparse.get 0 l.clsShed k) (Sparse.get 0 l.clsLow k) x
  s.setLantern { l with clsLoad := Sparse.put 0 l.clsLoad k x, clsShed := Sparse.put 0 l.clsShed k y.1, clsLow := Sparse.put 0 l.clsLow k y.2 }

def loadWindow (s : State) (load : Nat) (classes : List Nat) : State :=
  let l := s.lantern
  let y := shedStep l.shed l.shedLow load
  let s1 := s.setLantern { l with load := load, shed := y.1, shedLow := y.2 }
  (List.range 7).foldl (fun t k => match classes[k]? with | some x => classWindow t k x | none => t) s1

/-- LOAD_WINDOW: the busy percentage of the lantern's cores over 10 ms, and that of each class. -/
def execLoadWindow (load : Nat) (classes : List Nat) (s : State) : Host.Outcome State Fault Refusal :=
  .next (if s.on && s.lantern.serving && decide (load ≤ 100) && classes.all (fun x => decide (x ≤ 100)) then loadWindow s load classes else s)

/-! ## The lantern's events (R59, R67, R68) -/

def execLanternHeartbeatMiss (s : State) : Host.Outcome State Fault Refusal :=
  .next (if s.on && s.lantern.serving && standbyWaits s then takeover s (fun _ => false) else s)

/-- A slot that reaches READY on TRIAL is ACTIVE, the other one VALID, and the keep's anti-rollback fuses follow its SVN (R59, R464). -/
def promote (s : State) : State :=
  let b := s.lantern.bootSlot
  let x := getSlot s b
  if x.st ≠ .trial then s
  else
    let y := getSlot s (!b)
    let s1 := setSlot (setSlot s b { x with st := .active }) (!b) { y with st := if y.st = .empty then .empty else .valid }
    s1.setKeep { s1.keep with svn := Nat.max s1.keep.svn x.svn }

/-- A command that waited for the restart completes: its entry waits for the ring to be enabled again. -/
def restartDone (s : State) : State :=
  let s1 := s.lantern.restartBy.foldl (fun t x =>
    let e : CqEntry := { tag := x.2.1, opcode := x.2.2, status := BitVec.ofNat 8 sOK, event := false, dupTag := false, retryHint := 0, resultLen := 0, detail := 0 }
    t.setRing x.1 { t.ring x.1 with waiting := (t.ring x.1).waiting ++ [e] }) s
  s1.setLantern { s1.lantern with restartBy := [] }

/-- Links start training when MSTATE reaches READY: on every axis that a survey has not shown to be of length 1 (Table 11.2). -/
def trainLinks (s : State) : State :=
  (List.range 48).foldl (fun t n =>
    if (t.link n).st = .disabled ∧ (t.lantern.survey.st = 0 ∨ 1 < axisLen t (axisOfPort (portOfLink n))) ∧ t.carrier.isolated.contains (24 + n % 8) = false
    then setLinkSt t n .detect else t) s

/-- BOOT_COMPLETE: READY. -/
def bootDone (s : State) : State :=
  let s1 := promote (s.setLantern { s.lantern with mstate := .ready, serving := true, bootFails := 0 })
  trainLinks (restartDone s1)

def execBootComplete (s : State) : Host.Outcome State Fault Refusal :=
  .next (if s.on = true ∧ s.lantern.mstate = .boot ∧ s.keep.lc ≠ 7 then bootDone s else s)

/-- BOOT_WATCHDOG: 60 s without READY, and the module restarts from the other slot. -/
def execBootWatchdog (s : State) : Host.Outcome State Fault Refusal :=
  .next (if s.on = true ∧ s.lantern.mstate = .boot then watchdogReset s else s)

/-! ## Rows -/

def execCommandTimeout (r : RingId) (tag : BitVec 16) (elapsedMs : Nat) (s : State) : Host.Outcome State Fault Refusal := .next (commandTimeout s r tag elapsedMs)
def execNop (r : RingId) (tag : BitVec 16) (s : State) : Host.Outcome State Fault Refusal := runCmd cmdNop r tag s
def execIdentify (r : RingId) (tag : BitVec 16) (s : State) : Host.Outcome State Fault Refusal := runCmd cmdIdentify r tag s
def execFwStage (r : RingId) (tag : BitVec 16) (s : State) : Host.Outcome State Fault Refusal := runCmd cmdFwStage r tag s
def execFwCommit (r : RingId) (tag : BitVec 16) (s : State) : Host.Outcome State Fault Refusal := runCmd cmdFwCommit r tag s
def execFwActivate (r : RingId) (tag : BitVec 16) (s : State) : Host.Outcome State Fault Refusal := runCmd cmdFwActivate r tag s
def execEventGet (r : RingId) (tag : BitVec 16) (s : State) : Host.Outcome State Fault Refusal := runCmd cmdEventGet r tag s
def execCmdAbort (r : RingId) (tag : BitVec 16) (s : State) : Host.Outcome State Fault Refusal := runCmd cmdCmdAbort r tag s
def execModuleReset (r : RingId) (tag : BitVec 16) (s : State) : Host.Outcome State Fault Refusal := runCmd cmdModuleReset r tag s
def execSurveyStart (r : RingId) (tag : BitVec 16) (s : State) : Host.Outcome State Fault Refusal := runCmd cmdSurveyStart r tag s
def execSurveyStatus (r : RingId) (tag : BitVec 16) (s : State) : Host.Outcome State Fault Refusal := runCmd cmdSurveyStatus r tag s
def execDetach (r : RingId) (tag : BitVec 16) (s : State) : Host.Outcome State Fault Refusal := runCmd cmdDetach r tag s
def execAttach (r : RingId) (tag : BitVec 16) (s : State) : Host.Outcome State Fault Refusal := runCmd cmdAttach r tag s
def execLanternSwitch (r : RingId) (tag : BitVec 16) (s : State) : Host.Outcome State Fault Refusal := runCmd cmdLanternSwitch r tag s
def execSurveyAccept (r : RingId) (tag : BitVec 16) (s : State) : Host.Outcome State Fault Refusal := runCmd cmdSurveyAccept r tag s
def execTlmList (r : RingId) (tag : BitVec 16) (s : State) : Host.Outcome State Fault Refusal := runCmd cmdTlmList r tag s
def execTlmRead (r : RingId) (tag : BitVec 16) (s : State) : Host.Outcome State Fault Refusal := runCmd cmdTlmRead r tag s
def execTlmSampleCfg (r : RingId) (tag : BitVec 16) (s : State) : Host.Outcome State Fault Refusal := runCmd cmdTlmSampleCfg r tag s

end Sys2Proof.Machine
end

