-- ==== Sys2Proof/Machine/Chain.lean ====
section
/-! DEFINITION. The management chain (R73 to R78, Tables 2.23 to 2.23b): frames forwarded, acted on and answered. What leaves on the chain is appended to
`tx.chain`. -/

namespace Sys2Proof.Machine

open Sys2Proof

/-! ## Frames (R73) -/

/-- What the CRC-32 covers. -/
def chainCover (f : ChainFrame) : List Byte := [f.dest, f.src, f.type, f.seq] ++ leBytes 2 f.len ++ f.payload

def chainCrc (f : ChainFrame) : BitVec 32 := BitVec.ofNat 32 (crc32 (chainCover f))

def chainGood (f : ChainFrame) : Bool := f.crc == chainCrc f

/-- A frame with its LEN and CRC. -/
def sealFrame (dest src type seq : Byte) (p : List Byte) : ChainFrame :=
  let f : ChainFrame := { dest := dest, src := src, type := type, seq := seq, len := p.length, payload := p, crc := 0 }
  { f with crc := chainCrc f }

/-- A frame leaves. -/
def sendFrame (s : State) (f : ChainFrame) : State := { s with tx := { s.tx with chain := s.tx.chain ++ [f] } }

/-! ## Replies (R77, Table 2.23b) -/

def nUNKNOWN_TYPE : Byte := 1
def nBAD_FRAME : Byte := 2
def nNOT_IN_STATE : Byte := 3
def nDENIED : Byte := 4
def nBUSY : Byte := 5

/-- The chain address that replies carry, 0 when the module holds none; only an addressed module replies. -/
def ownChain (s : State) : Byte := s.lantern.chainAddr.getD 0

def ackFrame (s : State) (f : ChainFrame) : ChainFrame := sealFrame f.src (ownChain s) 0x0A f.seq [f.seq]

def nakFrame (s : State) (f : ChainFrame) (reason : Byte) : ChainFrame := sealFrame f.src (ownChain s) 0x0B f.seq [f.seq, reason]

/-- The main domain is off: STANDBY, and TRIPPED until its cause clears. -/
def mainIsOff (s : State) : Bool := s.carrier.power == .standby || s.carrier.power == .tripped

/-- The chain passes through: without standby power, or in STANDBY without REFCLK_SYS (R74, R513). -/
def passing (s : State) : Bool := s.carrier.power == .unpowered || (s.carrier.chainPass && s.carrier.power == .standby)

/-- What an action frame comes to: a NAK reason, or the action and whether the reply goes out before it. -/
inductive Judgment where
  | refuse (reason : Byte)
  | act (f : State → State)

/-- An addressed action frame: answered again when it repeats the last one acted on (R78), refused, or acknowledged and acted on. -/
def answerFrame (s : State) (f : ChainFrame) (j : Judgment) : State :=
  let again := match Sparse.find? s.lantern.chainLast f.src.toNat with
    | some (t, q, r) => if t = f.type ∧ q = f.seq then some r else none
    | none => none
  match again with
  | some r => sendFrame s r
  | none =>
    match j with
    | .refuse n => sendFrame s (nakFrame s f n)
    | .act g =>
      let r := ackFrame s f
      g (sendFrame (s.setLantern { s.lantern with chainLast := Sparse.set s.lantern.chainLast f.src.toNat (f.type, f.seq, r) }) r)

/-- Reasons that stand before a frame's own: its LEN or payload, then SCRAPPED and a pending transition (R469, R472). -/
def judged (s : State) (good : Bool) (j : Judgment) : Judgment :=
  if !good then .refuse nBAD_FRAME
  else
    match j with
    | .refuse n => .refuse n
    | .act g => if s.keep.lc = 5 ∨ (s.keep.lc = 7 ∧ mainIsOff s = false) then .refuse nDENIED else .act g

/-- A frame of type `type`: passed through, forwarded, or acted on here. A bad CRC fails downstream as well. A broadcast action frame draws no reply. -/
def chainIn (type : Byte) (judge : ChainFrame → State → Judgment) (f : ChainFrame) (s : State) : State :=
  if f.type ≠ type then s
  else if passing s || !chainGood f then sendFrame s f
  else if f.dest = 0xFF then
    match judge f s with
    | .act g => g (sendFrame s f)
    | .refuse _ => sendFrame s f
  else if s.lantern.chainAddr = some f.dest then answerFrame s f (judge f s)
  else sendFrame s f

/-- LEN agrees with the payload, of `n` bytes. -/
def plain (f : ChainFrame) (n : Nat) : Bool := f.len == n && f.payload.length == n

/-! ## ENUM (R75) -/

/-- The address, the shelf and the frame that goes on. -/
def enumerate (s : State) (f : ChainFrame) : State :=
  let token := byteAt f.payload 2
  let shelf := BitVec.ofNat 16 (field f.payload 0 2)
  if token.toNat ≤ 0x40 then
    let s1 := s.setLantern { s.lantern with chainAddr := some token, shelf := shelf }
    sendFrame s1 (sealFrame f.dest f.src f.type f.seq (f.payload.set 2 (token + 1) ++ [s.part.slotid.setWidth 8]))
  else
    let s1 := s.setLantern { s.lantern with chainAddr := none, shelf := shelf }
    sendFrame s1 (sealFrame f.dest f.src f.type f.seq (f.payload ++ [0xFF]))

def execEnum (f : ChainFrame) (s : State) : Host.Outcome State Fault Refusal :=
  .next (if f.type ≠ 0x01 then s
    else if passing s || !chainGood f then sendFrame s f
    else if f.dest = 0xFF then (if f.len = f.payload.length ∧ 3 ≤ f.len ∧ f.len < 1024 then enumerate s f else sendFrame s f)
    else if s.lantern.chainAddr = some f.dest then sendFrame s (nakFrame s f nBAD_FRAME)
    else sendFrame s f)

/-! ## HEALTH_REQ (R76, R507, Table 2.23a) -/

def maxInt (d : Int) (xs : List Int) : Int := xs.foldl (fun a x => if a < x then x else a) d

/-- The payload. A field that cannot be read with the main domain off has the value of the table; a die not read yet counts as −128. -/
def healthBytes (s : State) : List Byte :=
  let off := mainIsOff s
  let c := s.carrier
  let al := c.alerts
  let dieMax := if off then -128 else maxInt (-128) (c.dieTemp.map (fun e => e.2))
  let stMax := if off then -128 else maxInt (-128) ((List.range 48).map (fun n => (s.stack n).temp))
  [BitVec.ofNat 8 (if off then 7 else if s.keep.lc = 5 then 5 else mstateCode s.lantern.mstate), BitVec.ofNat 8 s.keep.lc] ++
  leBytes 2 (if off then 0 else s.risk.value) ++ [BitVec.ofInt 8 c.inlet, BitVec.ofInt 8 c.outlet, BitVec.ofInt 8 dieMax, BitVec.ofInt 8 stMax] ++
  leBytes 2 c.flow ++ leBytes 2 (c.watts / 10) ++ [BitVec.ofNat 8 (Nat.min 16 al.length), BitVec.ofNat 8 (al.length - 16), 0, 0] ++
  (al.take 16).map (BitVec.ofNat 8)

/-- Alerts listed whose condition has cleared are no longer outstanding. -/
def reportAlerts (s : State) : State :=
  let c := s.carrier
  let told := c.cleared.filter (fun x => (c.alerts.take 16).contains x)
  s.setCarrier { c with alerts := c.alerts.filter (fun x => !told.contains x), cleared := c.cleared.filter (fun x => !told.contains x) }

def execHealthReq (f : ChainFrame) (s : State) : Host.Outcome State Fault Refusal :=
  .next (if f.type ≠ 0x02 then s
    else if passing s || !chainGood f || decide (f.dest = 0xFF) || decide (s.lantern.chainAddr ≠ some f.dest) then sendFrame s f
    else if !plain f 0 then sendFrame s (nakFrame s f nBAD_FRAME)
    else reportAlerts (sendFrame s (sealFrame f.src (ownChain s) 0x03 f.seq (healthBytes s))))

/-! ## Power, halts and resets from the chain (R497, R508) -/

def judgePowerOn (f : ChainFrame) (s : State) : Judgment :=
  judged s (plain f 0) (if s.carrier.power = .standby ∧ s.carrier.pwrEn = true then .act coldStart else .refuse nNOT_IN_STATE)

/-- POWER_OFF: contexts killed, stacks flushed, main rails off. -/
def chainPowerOff (s : State) : State := offAlerts (mainOff ((s.ctxs.map (fun e => e.1)).foldl (fun t n => closeContext t n 3) s) .standby)

def judgePowerOff (f : ChainFrame) (s : State) : Judgment :=
  judged s (plain f 0)
    (if s.on = true ∧ (s.lantern.mstate = .ready ∨ s.lantern.mstate = .detached ∨ s.lantern.mstate = .mismatch ∨ s.lantern.mstate = .recovery)
     then .act chainPowerOff else .refuse nNOT_IN_STATE)

/-- STOP: a halt wave for every FPN that the masked partitions' contexts bind. -/
def chainStop (mask : Byte) (s : State) : State :=
  (List.range 6).foldl (fun t i => if mask.getLsbD i then (slotFpns t i).foldl (fun u f => originateHalt u f 2) t else t) s

def judgeStop (f : ChainFrame) (s : State) : Judgment :=
  judged s (plain f 1) (if mainIsOff s then .refuse nNOT_IN_STATE else .act (chainStop (byteAt f.payload 0)))

def judgeReset (f : ChainFrame) (s : State) : Judgment :=
  judged s (plain f 0) (if mainIsOff s then .refuse nNOT_IN_STATE else .act warmReset)

/-- RECOVERY: a restart, or from STANDBY a cold power-up, whose boot is a recovery boot; the slot named takes the rescue image. -/
def chainRecovery (slot : Byte) (s : State) : State :=
  let s1 := s.setLantern { s.lantern with recoveryBoot := true, rescueSlot := slot == 1 }
  let s2 := if s.carrier.power = .standby then coldStart s1 else warmReset s1
  s2.setLantern { s2.lantern with recoveryBoot := false }

def judgeRecovery (f : ChainFrame) (s : State) : Judgment :=
  judged s (plain f 1 && decide ((byteAt f.payload 0).toNat < 2))
    (if s.carrier.power = .tripped then .refuse nNOT_IN_STATE else .act (chainRecovery (byteAt f.payload 0)))

/-! ## RESCUE_DATA (R464, R498) -/

/-- Bytes of the rescue image after a frame. -/
def rescueWith (s : State) (f : ChainFrame) : Sparse Byte := stageBytes s.lantern.rescue (field f.payload 0 4) (f.payload.drop 4)

/-- The whole image, when every byte that its header announces is staged. -/
def wholeRescue (m : Sparse Byte) : Option (List Byte) :=
  let hdr := (m.takeWhile (fun e => decide (e.1 < 64))).map (fun e => e.2)
  let n := field hdr 16 8 + sigBytes
  let img := m.filter (fun e => decide (e.1 < n))
  if hdr.length = 64 ∧ img.length = n then some (img.map (fun e => e.2)) else none

/-- An image that verifies in RECOVERY: it goes to the slot named and the module restarts from it, on TRIAL. -/
def useRescue (b : List Byte) (s : State) : State :=
  if s.lantern.mstate ≠ .recovery then s
  else
    let s1 := warmEnd s
    let k := s1.lantern.rescueSlot
    let s2 := setSlot s1 k (slotOfImage .trial b)
    startBoot (s2.setLantern { s2.lantern with bootSlot := k, bootFails := 0, rescue := [] })

def stageRescue (f : ChainFrame) (s : State) : State :=
  let m := rescueWith s f
  let s1 := s.setLantern { s.lantern with rescue := m }
  match wholeRescue m with
  | some b => useRescue b s1
  | none => s1

def judgeRescue (f : ChainFrame) (s : State) : Judgment :=
  judged s (f.len == f.payload.length && decide (4 ≤ f.len) && decide (f.len ≤ 1024))
    (if mainIsOff s then .refuse nNOT_IN_STATE
     else
       match wholeRescue (rescueWith s f) with
       | some b => if (imageBad s b).isSome then .refuse nDENIED else .act (stageRescue f)
       | none => .act (stageRescue f))

/-! ## Any other frame (R77) -/

/-- Types of Table 2.23. -/
def listedType (t : Byte) : Bool := decide (1 ≤ t.toNat) && decide (t.toNat ≤ 0x0B)

/-- Reply types are not acted on; an unknown type draws a NAK when addressed and is forwarded when broadcast. -/
def execChainFrameOther (f : ChainFrame) (s : State) : Host.Outcome State Fault Refusal :=
  .next (if listedType f.type && f.type != 0x03 && f.type != 0x0A && f.type != 0x0B then s
    else if passing s || !chainGood f || decide (f.dest = 0xFF) || decide (s.lantern.chainAddr ≠ some f.dest) then sendFrame s f
    else if listedType f.type then s
    else sendFrame s (nakFrame s f nUNKNOWN_TYPE))

def execPowerOn (f : ChainFrame) (s : State) : Host.Outcome State Fault Refusal := .next (chainIn 0x04 judgePowerOn f s)
def execPowerOff (f : ChainFrame) (s : State) : Host.Outcome State Fault Refusal := .next (chainIn 0x05 judgePowerOff f s)
def execStop (f : ChainFrame) (s : State) : Host.Outcome State Fault Refusal := .next (chainIn 0x06 judgeStop f s)
def execReset (f : ChainFrame) (s : State) : Host.Outcome State Fault Refusal := .next (chainIn 0x07 judgeReset f s)
def execRecovery (f : ChainFrame) (s : State) : Host.Outcome State Fault Refusal := .next (chainIn 0x08 judgeRecovery f s)
def execRescueData (f : ChainFrame) (s : State) : Host.Outcome State Fault Refusal := .next (chainIn 0x09 judgeRescue f s)

end Sys2Proof.Machine
end

