-- ==== Sys2Proof/Machine/Transport.lean ====
section
/-! DEFINITION. The transport layer (R368 to R376, Tables 11.10a and 11.11): messages leaving a fabric send queue, the destination's checks, and what each
transaction does on arrival. -/

namespace Sys2Proof.Machine

open Sys2Proof

/-! ## Sending (R369, R371, R372) -/

/-- The FPN that a context sends under. -/
def ctxFpn (s : State) (ctx : Nat) : Option Nat := ((s.ctx? ctx).bind (·.job)).map (·.fpn)

def sendKey (s : State) (fpn : Nat) : Nat := Sparse.get 0 s.keep.sendSlot fpn

/-- Packets of `n` data bytes. -/
def packetsOf (n : Nat) : Nat := (n + 4095) / 4096

/-- Bits of the 64-byte blocks of [a, a + n) that read as poison. -/
def poisonBits (s : State) (a n : Nat) : BitVec 64 := maskOf (fun i => decide (64 * i < n) && poisonedAt s (a + 64 * i))

/-- Packets of a message without ACK; a GET or an ATOMIC has sent one. -/
def unacked (m : Msg) : Nat := if m.txn = 2 ∨ m.txn = 6 then 1 else m.npkt - ((List.range 16).filter (fun i => m.acked.getLsbD i)).length

/-- Packets that a cluster holds without ACK. -/
def clusterUnacked (k : Cluster) : Nat := k.msgs.foldl (fun a m => a + unacked m) 0

/-- Packets leave in order until one is lost at its source, which loses the message. -/
def sendPackets (c : Nat) (m : Msg) : List Packet → State → State
  | [], s => s
  | p :: ps, s =>
    match sendPacket s p with
    | (s1, .sent) => sendPackets c m ps s1
    | (s1, .delivered) => sendPackets c m ps s1
    | (s1, _) => msgLost s1 c m p.pkt

/-- A message starts: it is held until acknowledged, and its packets leave. -/
def startMsg (s : State) (c : Nat) (m : Msg) (ps : List Packet) : State :=
  let k := s.cluster c
  let s1 := s.setCluster c { k with msgs := k.msgs ++ [m], nextMsg := (k.nextMsg + 1) % 65536 }
  sendPackets c m ps s1

/-- Whether a packet to `dest` finds a port that can take it. -/
def canLeave (s : State) (p : Packet) : Bool :=
  match routeOf s p 0 with
  | .out port vc axis dir => (linkFor s { p with axis := axis, dir := dir } port vc (classOfPacket (neighbours s (coordOf p.dest s.lantern.lengths)) p)).isSome
  | _ => true

/-- The header of a cluster's packet. -/
def clusterPacket (s : State) (c dest fpn txn num : Nat) : Packet :=
  { newPacket s dest fpn txn with key := sendKey s fpn, msg := num, site := clusterSite c }

/-- Data packets of [laddr, laddr + len) to `raddr`. -/
def dataPackets (s : State) (p : Packet) (laddr raddr len : Nat) : List Packet :=
  (List.range (packetsOf len)).map (fun i =>
    let n := Nat.min 4096 (len - 4096 * i)
    { p with pkt := i, npkt := packetsOf len, addr := raddr + 4096 * i, data := loadMem s (laddr + 4096 * i) n, pmask := poisonBits s (laddr + 4096 * i) n })

/-- The message of an entry of the send queue, with its packets. -/
def newMsg (s : State) (c ctx fpn txn dest raddr laddr len npkt : Nat) (obj : Option Nat) (site : BitVec 32) (notify : Option Nat)
    (reg : Option (GroupId × Nat)) : Msg :=
  { num := (s.cluster c).nextMsg, ctx := ctx, fpn := fpn, txn := txn, dest := dest, raddr := raddr, laddr := laddr, len := len, npkt := npkt, acked := 0,
    obj := obj, site := site, notify := notify, reg := reg, bad := none }

/-- The poison that a message's source range holds, for its completion (R305). -/
def noteSource (s : State) (m : Msg) : Msg := { m with bad := readPoison s m.laddr m.len }

/-- Flags of the destination word on a packet. -/
def flagged (p : Packet) (w : Word64) : Packet := { p with ord := destOrd w, adapt := destAdapt w, bulk := destBulk w, notify := destNotify w }

/-- A SIGNAL packet (R330, R374): always ordered. -/
def signalPacketOf (s : State) (c dest fpn num vid : Nat) (set : Bool) (v : Word32) : Packet :=
  { clusterPacket s c dest fpn 5 num with ord := true, arg0 := BitVec.ofNat 64 (vid % 65536 + (if set then 65536 else 0)), arg1 := v.setWidth 64 }

/-- A remote signal leaves as a message of one packet. -/
def sendSignal (s : State) (c ctx fpn dest vid : Nat) (set : Bool) (v : Word32) (site : BitVec 32) : State :=
  let m := newMsg s c ctx fpn 5 dest 0 0 0 1 none site none none
  startMsg (s.bump 0x04000005 1) c m [signalPacketOf s c dest fpn m.num vid set v]

/-- The oldest register still waiting for a GET of this group takes the message's number. -/
def claimPend (s : State) (reg : Option (GroupId × Nat)) (num : Nat) : State :=
  match reg with
  | none => s
  | some (g, dst) =>
    match s.group? g with
    | none => s
    | some gr =>
      match gr.pend.findIdx? (fun p => p.dest == dst && !p.ready && p.msg.isNone) with
      | none => s
      | some i => s.setGroup g { gr with pend := gr.pend.zipIdx.map (fun e => if e.2 = i then { e.1 with msg := some num } else e.1) }

/-- The message and packets of the entry at the head of a send queue; none for a wait or a collective. -/
def headMsg (s : State) (c : Nat) (e : SendEntry) : Option (State × Msg × List Packet) :=
  match e with
  | .put ctx laddr len w raddr obj site =>
    (ctxFpn s ctx).map (fun fpn =>
      let s1 := touch s laddr len
      let m := newMsg s1 c ctx fpn 1 (destFabric w) raddr laddr len (packetsOf len) obj site (if destNotify w then some (destNvid w) else none) none
      (s1, noteSource s1 m, dataPackets s1 (flagged (clusterPacket s1 c m.dest fpn 1 m.num) w) laddr raddr len))
  | .acc ctx laddr len w raddr type obj site =>
    (ctxFpn s ctx).map (fun fpn =>
      let s1 := touch s laddr len
      let m := newMsg s1 c ctx fpn 4 (destFabric w) raddr laddr len (packetsOf len) obj site (if destNotify w then some (destNvid w) else none) none
      (s1, noteSource s1 m, dataPackets s1 { flagged (clusterPacket s1 c m.dest fpn 4 m.num) w with arg0 := BitVec.ofNat 64 type } laddr raddr len))
  | .get ctx laddr len w raddr obj site reg =>
    (ctxFpn s ctx).map (fun fpn =>
      let m := newMsg s c ctx fpn 2 (destFabric w) raddr laddr len (packetsOf len) obj site none reg
      (claimPend s reg m.num, m, [{ flagged (clusterPacket s c m.dest fpn 2 m.num) w with
                                      addr := raddr, arg0 := BitVec.ofNat 64 laddr, arg1 := BitVec.ofNat 64 len }]))
  | .signal ctx dest vid set v site =>
    (ctxFpn s ctx).map (fun fpn =>
      let m := newMsg s c ctx fpn 5 dest 0 0 0 1 none site none none
      (s.bump 0x04000005 1, m, [signalPacketOf s c dest fpn m.num vid set v]))
  | _ => none

/-- Local bytes an entry reads. -/
def headReads : SendEntry → Nat × Nat
  | .put _ a n _ _ _ _ => (a, n)
  | .acc _ a n _ _ _ _ _ => (a, n)
  | _ => (0, 0)

/-- The head of a send queue leaves it when its packets can be sent: at most 64 packets of a cluster are without ACK. -/
def sendHead (s : State) (c : Nat) (e : SendEntry) : State :=
  let (a, n) := headReads e
  if unavailable s a n then s
  else
    match headMsg s c e with
    | none => s
    | some (s1, m, ps) =>
      if 64 < clusterUnacked (s.cluster c) + unacked m || !ps.all (canLeave s) then s
      else
        let k := s1.cluster c
        startMsg (s1.setCluster c { k with fq := k.fq.drop 1 }) c m ps

/-! ## A message's end (R143, R372, R374) -/

/-- Every packet acknowledged: the NOTIFY signal leaves, then the completion waits to be signalled. -/
def msgDone (s : State) (c : Nat) (m : Msg) (mark : Option (Nat × Nat × Nat)) : State :=
  let s1 := s.setCluster c (dropMsg (s.cluster c) m.num)
  let s2 := match m.notify with
    | some vid => sendSignal s1 c m.ctx m.fpn m.dest vid false 1 m.site
    | none => s1
  if m.obj.isSome then addDone s2 c { engine := .fabric, ctx := m.ctx, obj := m.obj, site := m.site, mark := mark } else s2

def setMsg (s : State) (c : Nat) (m : Msg) : State :=
  let k := s.cluster c
  s.setCluster c { k with msgs := k.msgs.map (fun x => if x.num = m.num then m else x) }

/-- All packets of a message. -/
def allAcked (m : Msg) : Bool := (List.range m.npkt).all (fun i => m.acked.getLsbD i)

def msgMark (m : Msg) : Option (Nat × Nat × Nat) := poisonMark m.bad

/-! ## Arrival (R373, Table 11.10a) -/

/-- The n-th packet that has arrived, when it is of this transaction and no earlier packet of its ordered channel stands before it (R370). -/
def arrival (s : State) (n txn : Nat) : Option (Packet × Nat) :=
  match s.fabric.arrived[n]? with
  | none => none
  | some p =>
    if p.txn ≠ txn then none
    else if p.ord && (s.fabric.arrived.take n).any (fun q => q.ord && q.src == p.src && q.site == p.site && q.fpn == p.fpn &&
        classOfPacket false q == classOfPacket false p) then none
    else some (p, s.fabric.arrivedOn.getD n 255)

/-- The packet taken from where it waited. -/
def takeIn (s : State) (n : Nat) : State :=
  s.setFabric { s.fabric with arrived := s.fabric.arrived.eraseIdx n, arrivedOn := s.fabric.arrivedOn.eraseIdx n }

/-- A packet of the network, decrypted. -/
def openPacket (s : State) (p : Packet) : Option Packet :=
  if !p.enc then some p
  else
    match Sparse.find? s.keep.linkKeys (keyIndex p.fpn p.key) with
    | none => none
    | some key =>
      (Config.gcmOpen key (leBytes 4 p.src ++ leBytes 8 p.nonce.toNat) (headerBytes p 0 p.data.length ++ leBytes 8 p.nonce.toNat ++ leBytes 8 p.pmask.toNat)
        p.data p.tag).map (fun d => { p with data := padTo p.data.length d })

/-- Checks 1 and 2: the state that counts a failure, or the packet in clear. -/
def authentic (s : State) (p : Packet) (link : Nat) : Except State Packet :=
  if p.crc.toNat ≠ crc32c (crcCover p p.data) then .error (s.bump 0x0500000B 1)
  else
    match openPacket s p with
    | none => .error (postEvent (s.bump 0x0500000C 1) 0 0x0584 link (rec8 [p.src, p.fpn, p.key, p.nonce.toNat]))
    | some q => .ok q

/-- What each destination check needs of a transaction: its bytes, whether it writes, and its alignment. -/
structure Need where
  addr  : Nat
  len   : Nat
  write : Bool
  align : Nat
  deriving DecidableEq, Repr

/-- Checks 3 to 6: STATUS 1 NOT_BOUND, 2 UNMAPPED, 3 RIGHTS, 4 MISALIGNED, or the bound context. -/
def admitted (s : State) (p : Packet) (d : Need) : Except Nat (Nat × Ctx × Job) :=
  match s.boundTo p.fpn with
  | none => .error 1
  | some (n, c, j) =>
    if !mayAccess n c false d.addr d.len then .error 2
    else if d.write && !mayAccess n c true d.addr d.len then .error 3
    else if d.addr % d.align != 0 || d.len % d.align != 0 then .error 4
    else .ok (n, c, j)

/-- The ACK of a packet: it names the packet's message, and goes back to its cluster. -/
def sendAck (s : State) (p : Packet) (status : Nat) : State :=
  sendLoose s { newPacket s p.src p.fpn 0x0A with
    key := sendKey s p.fpn, msg := p.msg, pkt := p.pkt, npkt := p.npkt, status := status, site := p.site, arg0 := BitVec.ofNat 64 (2 ^ (p.pkt % 16)) }

/-- A row of a transaction: the packet is taken, checked, and acted on; it waits while the memory it needs cannot be reached. -/
def onPacket (s : State) (n txn : Nat) (need : Packet → Need) (f : State → Packet → Nat × Ctx × Job → State) : State :=
  match arrival s n txn with
  | none => s
  | some (p, link) =>
    match authentic (takeIn s n) p link with
    | .error t => t
    | .ok q =>
      match admitted s q (need q) with
      | .error st => sendAck (takeIn s n) q st
      | .ok b => if unavailable s (need q).addr (need q).len then s else f (takeIn s n) q b

/-! ## Data arriving (R305, R372, R376) -/

/-- Data written 64 bytes at a time, poisoned where POISON_MASK says so. -/
def putData (s : State) (addr : Nat) (data : List Byte) (pmask : BitVec 64) : State :=
  (List.range ((data.length + 63) / 64)).foldl (fun t i => storeMarked t (addr + 64 * i) ((data.drop (64 * i)).take 64) (pmask.getLsbD i)) s

def putPacketBody (s : State) (p : Packet) (_ : Nat × Ctx × Job) : State := sendAck (putData s p.addr p.data p.pmask) p 0

/-- One element added (R376). -/
def accElement (type : Nat) (old new : Nat) : Nat :=
  if type ≤ 1 then (old + new) % 2 ^ 32
  else
    let f := if type = 4 then fp32 else if type = 5 then fp16 else bf16
    ((exAdd false (f.decode old) (f.decode new)).round f .rne).code

/-- Bytes of an ACC element. -/
def accSize (type : Nat) : Nat := if type = 5 ∨ type = 6 then 2 else 4

/-- Elements added, by the bytes at the destination and those arriving. -/
def accBlock (type : Nat) : Nat → List Byte → List Byte → List Byte
  | 0, _, _ => []
  | k + 1, old, new =>
    let w := accSize type
    leBytes w (accElement type (leNat (old.take w)) (leNat (new.take w))) ++ accBlock type k (old.drop w) (new.drop w)

/-- ACC on one granule: a granule poisoned before stays so. -/
def accGranule (type : Nat) (s : State) (a : Nat) (data : List Byte) (bad : Bool) : State :=
  let s1 := touch s a 64
  let p := bad || poisonedAt s1 a
  storeMarked s1 a (accBlock type (64 / accSize type) (loadMem s1 a 64) data) p

def accPacketBody (s : State) (p : Packet) (_ : Nat × Ctx × Job) : State :=
  let type := p.arg0.toNat % 16
  sendAck ((List.range (p.data.length / 64)).foldl (fun t i => accGranule type t (p.addr + 64 * i) ((p.data.drop (64 * i)).take 64) (p.pmask.getLsbD i)) s) p 0

/-- Responses of a GET: its packets, with the ordering flags of the request. -/
def getPackets (s : State) (p : Packet) : List Packet :=
  let n := p.arg1.toNat
  let q := { newPacket s p.src p.fpn 3 with key := sendKey s p.fpn, ord := p.ord, adapt := p.adapt, msg := p.msg, site := p.site }
  dataPackets s q p.addr p.arg0.toNat n

def getReqBody (s : State) (p : Packet) (_ : Nat × Ctx × Job) : State :=
  let s1 := touch s p.addr p.arg1.toNat
  (getPackets s1 p).foldl sendLoose s1

/-- The message that a response or an ACK is for. -/
def findMsg (s : State) (p : Packet) : Option Msg := (s.cluster (siteCluster p.site)).msgs.find? (fun m => m.num == p.msg)

/-- The lower of the poisoned addresses met so far and the first of this packet. -/
def lowerBad (old : Option (Nat × Nat)) (addr : Nat) (pmask : BitVec 64) : Option (Nat × Nat) :=
  match threads pmask with
  | [] => old
  | i :: _ => some (Nat.min ((old.map (·.1)).getD (addr + 64 * i)) (addr + 64 * i), 3)

/-- A response's data performed at the requester, and the message's end when it was the last. -/
def getDataBody (s : State) (p : Packet) (m : Msg) : State :=
  let c := siteCluster p.site
  let m1 : Msg := { m with acked := m.acked ||| BitVec.ofNat 16 (2 ^ (p.pkt % 16)), bad := lowerBad m.bad (m.raddr + 4096 * p.pkt) p.pmask }
  match m.reg with
  | some (g, _) =>
    let s1 := fillPend s g m.num (BitVec.ofNat 64 (leNat (p.data.take 8))) (if p.pmask.getLsbD 0 then some (m.raddr, 3) else none)
    msgDone s1 c m1 none
  | none =>
    let s1 := putData s (m.laddr + 4096 * p.pkt) p.data p.pmask
    if allAcked m1 then msgDone s1 c m1 (msgMark m1) else setMsg s1 c m1

/-- A response row: GET_DATA for a GET, ATOMIC_RSP for an ATOMIC. A response whose message has ended is discarded. -/
def onResponse (s : State) (n txn req : Nat) (f : State → Packet → Msg → State) : State :=
  match arrival s n txn with
  | none => s
  | some (p, link) =>
    match authentic (takeIn s n) p link with
    | .error t => t
    | .ok q =>
      match findMsg s q with
      | some m =>
        if m.txn ≠ req ∨ m.acked.getLsbD (q.pkt % 16) = true then takeIn s n
        else if req = 2 ∧ m.reg.isNone ∧ unavailable s (m.laddr + 4096 * q.pkt) q.data.length = true then s
        else f (takeIn s n) q m
      | none => (takeIn s n).bump 0x0500000A 1

/-! ## Remote signals (R330, R331) -/

def remoteSrc (p : Packet) : BitVec 32 := BitVec.ofNat 32 (p.src % 2 ^ 20 + 2 ^ 20)

/-- A SIGNAL that finds no object changes nothing; its sender is told nothing. -/
def rejectSignal (s : State) (p : Packet) (vid : Nat) : State :=
  let set := p.arg0.getLsbD 16
  let s1 := s.bump 0x04000007 1
  match s.boundTo p.fpn with
  | some (n, c, j) => postEvent s1 (ownerFn c) 0x0481 vid (rec8 [p.src, vid, if set then 2 else 1, j.epoch, n])
  | none => postEvent s1 0 0x0481 vid (rec8 [p.src, vid, if set then 2 else 1, 0, 0xFFFF_FFFF])

/-- A remote signal on its way to its object. -/
def acceptSignal (s : State) (ctx : Nat) (p : Packet) (vid : Nat) : State :=
  let set := p.arg0.getLsbD 16
  let x : Signal := { ctx := ctx, vid := vid, set := set, value := p.arg1.setWidth 32, src := remoteSrc p, site := p.site, op := if set then 2 else 1,
                      mark := none, host := none }
  (s.setSync { s.sync with inflight := s.sync.inflight ++ [x] }).bump 0x04000006 1

def signalIn (s : State) (n : Nat) : State :=
  match arrival s n 5 with
  | none => s
  | some (p, link) =>
    match authentic (takeIn s n) p link with
    | .error t => t
    | .ok q =>
      let vid := q.arg0.toNat % 65536
      let s1 := match s.boundTo q.fpn with
        | some (ctx, c, _) => if vid < c.syncObjects then acceptSignal (takeIn s n) ctx q vid else rejectSignal (takeIn s n) q vid
        | none => rejectSignal (takeIn s n) q vid
      sendAck s1 q 0

/-! ## Atomics (Table 11.11) -/

/-- The value an ATOM code leaves: ADD, MIN, MAX, AND, OR, XOR, XCHG, CAS. -/
def atomCode (code : Nat) (sg : Bool) (w old x cmp : Nat) : Nat :=
  match code with
  | 0 => (old + x) % 2 ^ w
  | 1 => if (if sg then decide (signed w x < signed w old) else decide (x < old)) then x else old
  | 2 => if (if sg then decide (signed w old < signed w x) else decide (old < x)) then x else old
  | 3 => old &&& x
  | 4 => old ||| x
  | 5 => old ^^^ x
  | 6 => x
  | _ => if old = cmp then x else old

def atomWidth (p : Packet) : Nat := if p.arg0.getLsbD 3 then 8 else 4

/-- An atomic performed here, its old value returned; a poisoned granule stays poisoned. The response's ADDR is a free value: the request does not carry
the requester's local address. -/
def atomicBody (s : State) (p : Packet) (_ : Nat × Ctx × Job) : State :=
  let w := atomWidth p
  let s1 := touch s p.addr w
  let old := leNat (loadMem s1 p.addr w)
  let new := atomCode (p.arg0.toNat % 8) (p.arg0.getLsbD 4) (8 * w) old (p.arg1.toNat % 2 ^ (8 * w)) (leNat (p.data.take 8) % 2 ^ (8 * w))
  let s2 := storeMem s1 p.addr (leBytes w new)
  let bad := poisonedAt s1 p.addr
  let q := { newPacket s2 p.src p.fpn 7 with key := sendKey s2 p.fpn, ord := p.ord, adapt := p.adapt, msg := p.msg, pkt := p.pkt, npkt := p.npkt, site := p.site,
                                              addr := (Config.free64 s2.free).toNat, arg0 := BitVec.ofNat 64 old, pmask := if bad then 1 else 0 }
  sendLoose s2.tick q

def atomicRspBody (s : State) (p : Packet) (m : Msg) : State := msgDone s (siteCluster p.site) m none

/-! ## ACK and ACK_TIMEOUT (R372, R373) -/

/-- An ACK with a STATUS: FAB_REJECT, and the message's completion will carry the mark of its first rejected packet. -/
def noteReject (s : State) (p : Packet) (m : Msg) : State × Msg :=
  if p.status = 0 then (s, m)
  else
    let a := m.raddr + 4096 * p.pkt
    (postBoth s (shareOf m.fpn) 0x0583 p.status (rec8 [m.dest, a, m.txn, m.site.toNat]), { m with bad := if m.bad.isSome then m.bad else some (a, 3) })

/-- A GET refused at its destination ends. -/
def refuseGet (s : State) (c : Nat) (m : Msg) : State :=
  let s1 := match m.reg with
    | some (g, _) => (fillPend s g m.num (Config.free64 s.free) (some (m.bad.getD (0, 3)))).tick
    | none => s
  msgDone s1 c m (msgMark m)

/-- An ACK at its source; `done` is what a message of the collective service does at its end. -/
def ackIn (s : State) (n : Nat) (done : State → Msg → State) : State :=
  match arrival s n 0x0A with
  | none => s
  | some (p, link) =>
    match authentic (takeIn s n) p link with
    | .error t => t
    | .ok q =>
      match findMsg s q with
      | none => (takeIn s n).bump 0x0500000A 1
      | some m =>
        let c := siteCluster q.site
        let (s1, m1) := noteReject (takeIn s n) q m
        if m.txn = 2 then (if q.status = 0 then s1 else refuseGet s1 c m1)
        else
          let m2 : Msg := { m1 with acked := m1.acked ||| BitVec.ofNat 16 (q.arg0.toNat % 65536) }
          if allAcked m2 then done (msgDone s1 c m2 (msgMark m2)) m2 else setMsg s1 c m2

/-- A packet of a message is still without ACK at ACK_TIMEOUT. -/
def ackTimeout (s : State) (c num pkt : Nat) : State :=
  match (s.cluster c).msgs.find? (fun m => m.num == num) with
  | none => s
  | some m => if pkt < m.npkt ∧ m.acked.getLsbD pkt = false then msgLost s c m pkt else s

end Sys2Proof.Machine
end

