-- ==== Sys2Proof/Machine/Collect.lean ====
section
/-! DEFINITION. Collectives (R397 to R410, Tables 12.2 to 12.6): descriptors, matching, the rings of chunks, the moves of PERMUTE, versioned gathers and
NORM_COMBINE. The service's own messages leave from the first belfry cluster of the slot. -/

namespace Sys2Proof.Machine

open Sys2Proof

/-! ## Descriptor fields (Table 12.2) -/

def Collective.src (k : Collective) : Nat := field k.desc 0 8
def Collective.dst (k : Collective) : Nat := field k.desc 8 8
def Collective.count (k : Collective) : Nat := field k.desc 16 8
def Collective.type (k : Collective) : Nat := field k.desc 24 1
def Collective.op (k : Collective) : Nat := field k.desc 25 1
def Collective.flag (k : Collective) (n : Nat) : Bool := (byteAt k.desc 27).getLsbD n
def Collective.parts (k : Collective) : Nat := field k.desc 28 2
def Collective.root (k : Collective) : Nat := field k.desc 30 2
def Collective.aux (k : Collective) (n : Nat) : Nat := field k.desc (32 + 8 * n) 8

def cBARRIER : Nat := 0
def cALLREDUCE : Nat := 1
def cREDUCE_SCATTER : Nat := 2
def cALLGATHER : Nat := 3
def cBROADCAST : Nat := 4
def cREDUCE : Nat := 5
def cALLTOALL : Nat := 6
def cPERMUTE : Nat := 7
def cNORM_COMBINE : Nat := 8

/-- Bytes of an element in memory, and in partial sums. -/
def Collective.elem (k : Collective) : Nat := if k.type = 5 ∨ k.type = 6 then 2 else if k.flag 0 ∨ k.code = cNORM_COMBINE then 8 else 4
def Collective.wide (k : Collective) : Nat := if k.flag 0 ∨ k.code = cNORM_COMBINE then 8 else 4

/-! ## Groups (R398) -/

def collAxesOf (axes : Nat) : List Nat := (List.range 6).filter (fun a => axes / 2 ^ a % 2 == 1)

def collExts (j : Job) (axes : Nat) : List Nat := (collAxesOf axes).map (fun a => j.extent.getD a 1)

def collG (j : Job) (axes : Nat) : Nat := systemSize (collExts j axes)

/-- This member's digits on the selected axes. -/
def ownDigits (s : State) (j : Job) (axes : Nat) : List Nat :=
  let c := rankCoord j ((ownRank s j).getD 0)
  (collAxesOf axes).map (fun a => c.getD a 0)

def groupRank (s : State) (j : Job) (axes : Nat) : Nat := fabIdOf (ownDigits s j axes) (collExts j axes)

/-- The member rank of a group rank. -/
def memberOfGroup (s : State) (j : Job) (axes g : Nat) : Nat :=
  let c := rankCoord j ((ownRank s j).getD 0)
  let d := (collAxesOf axes).zip (coordOf g (collExts j axes))
  rankOf j ((List.range 6).map (fun a => ((d.find? (fun e => e.1 == a)).map (·.2)).getD (c.getD a 0)))

/-- Group rank of the member with a fabric ID. -/
def groupRankOf (s : State) (j : Job) (axes fab : Nat) : Nat :=
  ((List.range (collG j axes)).find? (fun g => memberFab s j (memberOfGroup s j axes g) == fab)).getD 0

/-- First element of piece `p` of `n` elements cut into `g` pieces. -/
def pieceLo (n g p : Nat) : Nat := p * n / g
def pieceLen (n g p : Nat) : Nat := pieceLo n g (p + 1) - pieceLo n g p

/-! ## The service's tables -/

def svcCluster (slot : Nat) : Nat := 576 + slot

def findColl (s : State) (ctx axes number : Nat) : Option Collective :=
  s.fabric.colls.find? (fun k => k.ctx == ctx && k.axes == axes && k.number == number)

def putColl (s : State) (k : Collective) : State :=
  if s.fabric.colls.any (sameColl k) then s.setFabric { s.fabric with colls := s.fabric.colls.map (fun x => if sameColl k x then k else x) }
  else s.setFabric { s.fabric with colls := s.fabric.colls ++ [k] }

def newColl (ctx axes number : Nat) : Collective :=
  { ctx := ctx, axes := axes, number := number, code := 0, issuers := [], desc := [], started := false, acc := [], held := [], got := [], sent := 0,
    wrote := false, poison := false }

def ctxJob (s : State) (ctx : Nat) : Option Job := (s.ctx? ctx).bind (·.job)

/-! ## Elements (R401) -/

def splitPair (x : Word64) : Pair := ⟨x.setWidth 32, (x >>> 32).setWidth 32⟩
def joinPair (p : Pair) : Word64 := p.hi.setWidth 64 ||| (p.lo.setWidth 64 <<< 32)

/-- Two values combined. -/
def Collective.comb (k : Collective) (a b : Word64) : Word64 :=
  if k.code = cNORM_COMBINE ∨ k.flag 0 then joinPair (pairAdd (splitPair a) (splitPair b)).1
  else
    let x : Word32 := a.setWidth 32
    let y : Word32 := b.setWidth 32
    if k.type = 0 then
      (if k.op = 0 then x + y else if (k.op == 1) == x.slt y then y else x).setWidth 64
    else if k.op = 0 then (f32Add .rne x y).w.setWidth 64
    else (f32MinMax (k.op == 1) x y).w.setWidth 64

/-- An element of memory as it is combined, and back. -/
def Collective.widen (k : Collective) (x : Word64) : Word64 :=
  if k.type = 5 then BitVec.ofNat 64 (fp32.round .rne (fp16.decode x.toNat)).code
  else if k.type = 6 then BitVec.ofNat 64 (fp32.round .rne (bf16.decode x.toNat)).code
  else x

def Collective.narrow (k : Collective) (x : Word64) : Word64 :=
  if k.type = 5 then BitVec.ofNat 64 (fp16.round .rne (f32 (x.setWidth 32))).code
  else if k.type = 6 then BitVec.ofNat 64 (bf16.round .rne (f32 (x.setWidth 32))).code
  else x

def elemsOf (w : Nat) : Nat → List Byte → List Word64
  | 0, _ => []
  | n + 1, bs => BitVec.ofNat 64 (leNat (bs.take w)) :: elemsOf w n (bs.drop w)

def elemBytes (w : Nat) (xs : List Word64) : List Byte := xs.flatMap (fun x => leBytes w x.toNat)

/-- Values of `acc` from `off` on, replaced by `f` of the old and the new. -/
def mergeAt (acc : List Word64) (off : Nat) (xs : List Word64) (f : Word64 → Word64 → Word64) : List Word64 :=
  acc.zipIdx.map (fun e => if off ≤ e.2 then (match xs[e.2 - off]? with | some x => f e.1 x | none => e.1) else e.1)

/-! ## Checks of a descriptor (R403, Table 12.2a) -/

def sBAD_DESC : Nat := 1
def sACCESSED : Nat := 2
def sMISMATCH : Nat := 3
def sSTALE : Nat := 5

/-- Elements at SRC that each member reads, and at DST that it writes. -/
def srcElems (s : State) (j : Job) (k : Collective) : Nat :=
  if k.code = cBARRIER ∨ k.code = cPERMUTE then 0
  else if k.code = cNORM_COMBINE then 1
  else if k.code = cALLGATHER then k.count / collG j k.axes
  else if k.code = cBROADCAST ∧ groupRank s j k.axes ≠ k.root then 0
  else k.count

def dstBytes (s : State) (j : Job) (k : Collective) : Nat :=
  if k.code = cBARRIER ∨ k.code = cPERMUTE then 0
  else if k.code = cNORM_COMBINE then 16
  else if k.code = cREDUCE_SCATTER then k.elem * (k.count / collG j k.axes)
  else if k.code = cREDUCE ∧ groupRank s j k.axes ≠ k.root then 0
  else k.elem * k.count

/-- Offsets of bytes that are not zero in a reserved run. -/
def resvBad (d : List Byte) (o n : Nat) : List (Bool × Nat) := (List.range n).map (fun i => (byteAt d (o + i) != 0, o + i))

/-- Conditions of checks 1 to 5, each list with its status. -/
def collDescBad (s : State) (ctx : Nat) (c : Ctx) (j : Job) (k : Collective) : List (Nat × List (Bool × Nat)) :=
  let g := collG j k.axes
  let fl := field k.desc 27 1
  let ver := k.flag 2
  let read (a n : Nat) : Bool := n != 0 && !mayAccess ctx c false a n
  let write (a n : Nat) : Bool := n != 0 && !mayAccess ctx c true a n
  [(sBAD_DESC, [(!([0, 4, 5, 6].contains k.type), 24), (decide (2 < k.op), 25), (decide (63 < field k.desc 26 1) || k.axes == 0, 26), (decide (15 < fl), 27)] ++
      resvBad k.desc 56 68),
   (sBAD_DESC, [(k.count == 0 || decide (2 ^ 32 < k.count) || (k.code == cREDUCE_SCATTER && k.count % (16 * g) != 0) || (k.code == cALLGATHER && k.count % g != 0), 16),
      (k.parts == 0 || decide (96 < k.parts), 28),
      (if k.code = cBROADCAST ∨ k.code = cREDUCE then decide (g ≤ k.root) else k.root != 0, 30)]),
   (sBAD_DESC, [((k.flag 0 && (k.type != 4 || k.op != 0)) || (k.flag 1 && (k.code != cREDUCE_SCATTER || k.type != 4)) ||
      (ver && k.code != cALLGATHER) || (k.flag 3 && !ver), 27)]),
   (sBAD_DESC, [(k.src % 64 != 0, 0), (k.dst % 64 != 0, 8), ((k.flag 1 && k.aux 0 % 8 != 0) || ((ver || k.code == cPERMUTE) && k.aux 0 % 64 != 0), 32),
      (ver && k.aux 2 % 64 != 0, 48)]),
   (sACCESSED, [(read k.src (k.elem * srcElems s j k), 0), (write k.dst (dstBytes s j k), 8),
      ((k.flag 1 && write (k.aux 0) 8) || (ver && read (k.aux 0) 48) || (k.code == cPERMUTE && read (k.aux 0) (32 * k.aux 1)), 32),
      (ver && write (k.aux 2) (8 * g), 48)])]

/-- The first check that fails: its status and the offset of its field. -/
def firstDescBad : List (Nat × List (Bool × Nat)) → Option (Nat × Nat)
  | [] => none
  | x :: xs =>
    match ((x.2.filter (·.1)).map (·.2)).foldl (fun (m : Option Nat) o => some (m.elim o (Nat.min o))) none with
    | some o => some (x.1, o)
    | none => firstDescBad xs

/-- Where two descriptors first differ outside SRC (check 6). -/
def descDiffers (a b : List Byte) : Option Nat := (List.range 48).find? (fun i => byteAt a (8 + i) != byteAt b (8 + i)) |>.map (· + 8)

/-! ## Endings (R402, R403, R407) -/

/-- Every other member of the group is told that a collective has ended. -/
def tellGroup (s : State) (j : Job) (axes : Nat) : State :=
  let me := groupRank s j axes
  ((List.range (collG j axes)).filter (fun g => g != me)).foldl (fun t g => tell t j (memberOfGroup s j axes g)) s

def postMismatch (s : State) (j : Job) (k : Collective) (fab : Nat) : State := postBoth s (shareOf j.fpn) 0x0683 k.number (rec8 [k.axes, k.code, fab])

/-- Chunks of one collective disagree: it ends with MISMATCH. -/
def mismatchColl (s : State) (j : Job) (k : Collective) (fab : Nat) : State :=
  tellGroup (failColl (postMismatch s j k fab) k (fun _ => sMISMATCH)) j k.axes

/-- An issuer's descriptor fails: it gets the status found, every other issuer MISMATCH. -/
def rejectIssuer (s : State) (j : Job) (k : Collective) (status off : Nat) : State :=
  let last := k.issuers.length - 1
  tellGroup (failColl (postMismatch s j k s.lantern.fabricId) k (fun i => if i = last then status + 256 * off else sMISMATCH)) j k.axes

/-- One issuer ends alone. -/
def endAlone (s : State) (ctx c desc : Nat) (obj : Option Nat) (site : BitVec 32) : State :=
  addDone (storeMem s (desc + 124) (leBytes 4 sMISMATCH)) c { engine := .collective, ctx := ctx, obj := obj, site := site, mark := some (1, desc, 3) }

/-! ## Ring stages (R400) -/

/-- One ring step: index of its axis among those selected, whether it gathers, and its number. -/
structure Stage where
  i      : Nat
  gather : Bool
  step   : Nat
  deriving DecidableEq, Repr

def rsStages (es : List Nat) : List Stage := es.zipIdx.flatMap (fun e => (List.range (e.1 - 1)).map (fun t => ⟨e.2, false, t⟩))
def agStages (es : List Nat) : List Stage := es.zipIdx.reverse.flatMap (fun e => (List.range (e.1 - 1)).map (fun t => ⟨e.2, true, t⟩))

def stagesOf (j : Job) (k : Collective) : List Stage :=
  let es := collExts j k.axes
  if k.code = cALLREDUCE then rsStages es ++ agStages es
  else if k.code = cREDUCE_SCATTER ∨ k.code = cREDUCE then rsStages es
  else if k.code = cALLGATHER then agStages es
  else []

/-- The digit of the pieces that a stage sends and receives. -/
def Stage.sends (t : Stage) (e r : Nat) : Nat := if t.gather then (r + e - t.step % e) % e else (r + 2 * e - 1 - t.step) % e
def Stage.gets (t : Stage) (e r : Nat) : Nat := if t.gather then (r + 2 * e - 1 - t.step) % e else (r + 2 * e - 2 - t.step) % e

/-- The ring step number a packet carries. -/
def Stage.number (t : Stage) (e : Nat) : Nat := if t.gather then e - 1 + t.step else t.step

/-- Pieces whose digit on axis `i` is `d`, and whose digits on every lower axis are this member's. -/
def piecesWith (s : State) (j : Job) (axes i d : Nat) : List Nat :=
  let own := ownDigits s j axes
  let es := collExts j axes
  (List.range (collG j axes)).filter (fun p =>
    let c := coordOf p es
    c.getD i 0 == d && (List.range i).all (fun b => c.getD b 0 == own.getD b 0))

def stageKey (j : Job) (axes : Nat) (t : Stage) : Nat := 256 * (collAxesOf axes).getD t.i 0 + t.number ((collExts j axes).getD t.i 1)

/-- Elements that a stage receives. -/
def stageExpects (s : State) (j : Job) (k : Collective) (t : Stage) : Nat :=
  let e := (collExts j k.axes).getD t.i 1
  ((piecesWith s j k.axes t.i (t.gets e ((ownDigits s j k.axes).getD t.i 0))).map (pieceLen k.count (collG j k.axes))).sum

def stageIn (s : State) (j : Job) (k : Collective) (t : Stage) : Bool := Sparse.get 0 k.got (stageKey j k.axes t) == stageExpects s j k t

/-! ## Chunks -/

/-- The axis field of a chunk that goes straight to its member, and its key in `got`. -/
def directAxis : Nat := 15
def directKey (g : Nat) : Nat := 65536 + g

/-- Bytes of an element on the wire: partial sums are wide, moved elements as in memory. -/
def wireBytes (k : Collective) (e axis step : Nat) : Nat :=
  if axis = directAxis then (if k.code = cREDUCE then k.wide else k.elem)
  else if step < e - 1 then k.wide
  else k.elem

def stagingAt (slot axes : Nat) : Nat := Config.stagingBase slot + 0x2_0000 * axes

/-- One chunk sent to a member: a message of one packet, on class C to a neighbour and on class R beyond. -/
def sendChunk (s : State) (slot : Nat) (j : Job) (k : Collective) (dest axis step off : Nat) (data : List Byte) : State :=
  let c := svcCluster slot
  let m0 := newMsg s c k.ctx j.fpn 8 dest (stagingAt slot k.axes) (collKey k.axes k.number) data.length 1 none (clusterSite c) none none
  let p : Packet := { clusterPacket s c dest j.fpn 8 m0.num with
    ord := true, addr := m0.raddr, arg0 := BitVec.ofNat 64 (k.number % 2 ^ 32 + axis * 2 ^ 32 + step * 2 ^ 36 + k.code * 2 ^ 44),
    arg1 := BitVec.ofNat 64 (off % 2 ^ 40 + k.type * 2 ^ 40 + k.op * 2 ^ 44 + b2n (k.flag 0) (2 ^ 46)), data := data,
    pmask := if k.poison then maskOf (fun i => decide (64 * i < data.length)) else 0 }
  startMsg (s.bump 0x06000004 data.length) c m0 [p]

/-- Element ranges cut into chunks of at most 4,096 bytes. -/
def cutChunks (w : Nat) : Nat → Nat → Nat → List (Nat × Nat)
  | 0, _, _ => []
  | f + 1, off, n => if n = 0 then [] else (off, Nat.min n (4096 / w)) :: cutChunks w f (off + Nat.min n (4096 / w)) (n - Nat.min n (4096 / w))

/-- Elements [off, off + n) of `acc` sent in chunks; sending stops when a lost chunk has ended the collective. -/
def sendRange (s : State) (slot : Nat) (j : Job) (k : Collective) (dest axis step w : Nat) (src dst n : Nat) : State :=
  (cutChunks w n 0 n).foldl (fun t x =>
    if (findColl t k.ctx k.axes k.number).isNone then t
    else sendChunk t slot j k dest axis step (dst + x.1) (elemBytes w ((k.acc.drop (src + x.1)).take x.2))) s

/-- A stage's pieces sent to the plus neighbour of its ring. -/
def sendStage (s : State) (slot : Nat) (j : Job) (k : Collective) (t : Stage) : State :=
  let es := collExts j k.axes
  let own := ownDigits s j k.axes
  let e := es.getD t.i 1
  let r := own.getD t.i 0
  let axis := (collAxesOf k.axes).getD t.i 0
  let next := memberFab s j (memberOfGroup s j k.axes (fabIdOf (own.set t.i ((r + 1) % e)) es))
  let g := collG j k.axes
  (piecesWith s j k.axes t.i (t.sends e r)).foldl (fun u p =>
    let lo := pieceLo k.count g p
    sendRange u slot j k next axis (t.number e) (wireBytes k e axis (t.number e)) lo lo (pieceLen k.count g p)) s

/-! ## Direct exchanges -/

/-- Elements that this member receives straight from group rank `g`. -/
def directExpects (s : State) (j : Job) (k : Collective) (g : Nat) : Nat :=
  let me := groupRank s j k.axes
  let n := collG j k.axes
  if g = me then 0
  else if k.code = cBARRIER ∨ k.code = cNORM_COMBINE then 1
  else if k.code = cBROADCAST then (if g = k.root then k.count else 0)
  else if k.code = cREDUCE then (if me = k.root then pieceLen k.count n g else 0)
  else if k.code = cALLTOALL then Nat.min (pieceLen k.count n g) (pieceLen k.count n me)
  else 0

def directIn (s : State) (j : Job) (k : Collective) : Bool :=
  (List.range (collG j k.axes)).all (fun g => Sparse.get 0 k.got (directKey g) == directExpects s j k g)

/-- What this member sends straight to group rank `g`: first element of `acc`, offset it carries, and number. -/
def directSends (s : State) (j : Job) (k : Collective) (g : Nat) : Option (Nat × Nat × Nat) :=
  let me := groupRank s j k.axes
  let n := collG j k.axes
  if g = me then none
  else if k.code = cBARRIER then some (0, 0, 0)
  else if k.code = cNORM_COMBINE then some (0, 0, 1)
  else if k.code = cBROADCAST then (if me = k.root then some (0, 0, k.count) else none)
  else if k.code = cREDUCE then (if g = k.root then some (pieceLo k.count n me, pieceLo k.count n me, pieceLen k.count n me) else none)
  else if k.code = cALLTOALL then some (pieceLo k.count n g, pieceLo k.count n me, Nat.min (pieceLen k.count n g) (pieceLen k.count n me))
  else none

def sendDirect (s : State) (slot : Nat) (j : Job) (k : Collective) : State :=
  (List.range (collG j k.axes)).foldl (fun t g =>
    match directSends s j k g with
    | none => t
    | some (src, dst, n) =>
      if (findColl t k.ctx k.axes k.number).isNone then t
      else
        let dest := memberFab s j (memberOfGroup s j k.axes g)
        if n = 0 then (if k.code = cBARRIER then sendChunk t slot j k dest directAxis 0 0 [] else t)
        else sendRange t slot j k dest directAxis 0 (wireBytes k 1 directAxis 0) src dst n) s

/-! ## PERMUTE (R400, Table 12.13) -/

structure Move where
  src   : Nat
  rank  : Nat
  dst   : Nat
  bytes : Nat
  deriving DecidableEq, Repr

def moveAt (s : State) (a i : Nat) : Move :=
  let b := loadMem s (a + 32 * i) 32
  { src := field b 0 8, rank := field b 8 4, dst := field b 16 8, bytes := field b 24 8 }

/-- Offsets of messages of at most 65,536 bytes. -/
def messageCuts (n : Nat) : List (Nat × Nat) := (List.range ((n + 65535) / 65536)).map (fun i => (65536 * i, Nat.min 65536 (n - 65536 * i)))

/-- One move: copied here when this member is its own destination, else sent in PERMUTE packets. -/
def doMove (s : State) (slot ctx : Nat) (j : Job) (number key idx : Nat) (m : Move) : State :=
  if ownRank s j = some m.rank then copyRange (touch s m.src m.bytes) m.dst m.src m.bytes
  else
    let c := svcCluster slot
    let dest := memberFab s j m.rank
    (messageCuts m.bytes).foldl (fun t x =>
      let m0 := newMsg t c ctx j.fpn 9 dest (m.dst + x.1) key x.2 (packetsOf x.2) none (clusterSite c) none none
      let p := { clusterPacket t c dest j.fpn 9 m0.num with arg0 := BitVec.ofNat 64 (number % 2 ^ 32), arg1 := BitVec.ofNat 64 (idx % 2 ^ 32) }
      startMsg (t.bump 0x06000004 x.2) c m0 (dataPackets t p (m.src + x.1) (m.dst + x.1) x.2)) s

/-- A move that this member may perform: its rank is of the job and its source may be read. -/
def moveOk (s : State) (ctx : Nat) (c : Ctx) (j : Job) (m : Move) : Bool :=
  decide (m.rank < jobSize j) && m.src % 64 == 0 && m.dst % 64 == 0 && m.bytes % 64 == 0 && (m.bytes == 0 || mayAccess ctx c false m.src m.bytes) &&
  (ownRank s j != some m.rank || m.bytes == 0 || mayAccess ctx c true m.dst m.bytes)

/-! ## Versioned gathers (R405 to R407, Tables 12.5 and 12.6) -/

def recNat (s : State) (a o n : Nat) : Nat := leNat (loadMem s (a + o) n)

def shardLive (s : State) (a : Nat) : Nat := recNat s a 20 1 % 2
def shardProposed (s : State) (a : Nat) : Bool := recNat s a 20 1 / 2 % 2 == 1
def shardFrozen (s : State) (a : Nat) : Bool := recNat s a 20 1 / 4 % 2 == 1
def shardVersion (s : State) (a : Nat) : Nat := recNat s a 24 8
def shardNext (s : State) (a : Nat) : Nat := recNat s a 32 8
def shardBuf (s : State) (a n : Nat) : Nat := recNat s a (8 * n) 8

inductive Served where
  | serve
  | hold
  | refuse
  deriving DecidableEq, Repr

/-- Table 12.6 for the holder's record at `a` and expected version `x`. -/
def serveOf (s : State) (a x : Nat) (epochOnly : Bool) : Served :=
  let same (v : Nat) : Bool := if epochOnly then x / 2 ^ 32 == v / 2 ^ 32 else x == v
  if same (shardVersion s a) then .serve
  else if shardProposed s a && !shardFrozen s a && same (shardNext s a) then .hold
  else .refuse

/-- The gather is refused: STATUS STALE, and a SHARD_STALE mark. -/
def refuseGather (s : State) (j : Job) (k : Collective) : State :=
  tellGroup (finishColl (s.bump 0x06000003 1) k (fun _ => sSTALE) (some (2, k.aux 1, shardVersion s (k.aux 0)))) j k.axes

/-- The holder's version written into every gatherer's served-version array. -/
def publishVersion (s : State) (slot : Nat) (j : Job) (k : Collective) : State :=
  let me := groupRank s j k.axes
  let v := shardVersion s (k.aux 0)
  let a := k.aux 2 + 8 * me
  let s1 := storeMem s a (leBytes 8 v)
  let c := svcCluster slot
  ((List.range (collG j k.axes)).filter (fun g => g != me)).foldl (fun t g =>
    let dest := memberFab s j (memberOfGroup s j k.axes g)
    let m0 := newMsg t c k.ctx j.fpn 6 dest a (collKey k.axes k.number) 8 1 none (clusterSite c) none none
    startMsg t c m0 [{ clusterPacket t c dest j.fpn 6 m0.num with addr := a, arg0 := 14, arg1 := BitVec.ofNat 64 v }]) s1

/-! ## Starting (R399) -/

/-- The combination of the issuers' SRC buffers: wide for a reduction, else as in memory. -/
def contribution (s : State) (k : Collective) (n : Nat) : List Word64 :=
  let reduces := k.code = cALLREDUCE ∨ k.code = cREDUCE_SCATTER ∨ k.code = cREDUCE ∨ k.code = cNORM_COMBINE
  let part (d : Nat) : List Word64 := elemsOf k.elem n (loadMem s (leNat (loadMem s d 8)) (k.elem * n))
  let raws := k.issuers.map (fun i => part i.2.1)
  match raws with
  | [] => []
  | x :: xs =>
    if reduces then xs.foldl (fun a b => List.zipWith k.comb a (b.map k.widen)) (x.map k.widen)
    else if xs.isEmpty then x
    else (xs.foldl (fun a b => List.zipWith k.comb a (b.map k.widen)) (x.map k.widen)).map k.narrow

/-- The contribution in its place among all elements: a gather's piece stands at its own rank. -/
def startAcc (s : State) (j : Job) (k : Collective) : List Word64 :=
  let n := srcElems s j k
  if k.code = cALLGATHER then
    let lo := pieceLo k.count (collG j k.axes) (groupRank s j k.axes)
    let xs := if k.flag 2 then elemsOf k.elem n (loadMem s (shardBuf s (k.aux 0) (shardLive s (k.aux 0))) (k.elem * n)) else contribution s k n
    List.replicate lo 0 ++ xs ++ List.replicate (k.count - lo - n) 0
  else if k.code = cBROADCAST ∧ n = 0 then []
  else contribution s k n

/-- Where the issuers' operands hold poison. -/
def collPoison (s : State) (j : Job) (k : Collective) : Option Nat :=
  (k.issuers.filterMap (fun i => firstPoison s (leNat (loadMem s i.2.1 8)) (k.elem * srcElems s j k))).head?

/-! ## DST (R401, R402, R409, R410) -/

/-- Elements written at element offset `off` of DST, poisoned when an operand was. -/
def writeDst (s : State) (k : Collective) (off : Nat) (raw : List Word64) (poison : Bool) : State :=
  if raw.isEmpty then s else storeMarked s (k.dst + k.elem * off) (elemBytes k.elem raw) poison

/-- The F32 pair at `a`. -/
def pairAt (s : State) (a : Nat) : Pair := ⟨w32 (recNat s a 0 4), w32 (recNat s a 4 4)⟩

def pairBytes (p : Pair) : List Byte := leBytes 4 p.hi.toNat ++ leBytes 4 p.lo.toNat

/-- Squares of the values written added to the pair at AUX0. -/
def addSquares (s : State) (k : Collective) (xs : List Word64) : State :=
  let p := xs.foldl (fun a x => (pairAccProduct a (x.setWidth 32) (x.setWidth 32)).1) (pairAt s (k.aux 0))
  storeMarked s (k.aux 0) (pairBytes p) k.poison

/-- The 16 bytes of NORM_COMBINE. -/
def normBytes (k : Collective) : List Byte :=
  let p := splitPair (k.acc.headD 0)
  let n := (f32Sqrt p.hi).w
  let f := (f32Mul .rne (w32 (k.aux 1)) (f32Rcp (f32Add .rne n 0x35800000).w).w).w
  pairBytes p ++ leBytes 4 n.toNat ++ leBytes 4 (f32MinMax false 0x3F800000 f).w.toNat

/-- What this member itself writes at the end: its own piece, or the whole result. -/
def writeOwn (s : State) (j : Job) (k : Collective) : State :=
  let me := groupRank s j k.axes
  let g := collG j k.axes
  let lo := pieceLo k.count g me
  let piece := (k.acc.drop lo).take (pieceLen k.count g me)
  if k.code = cALLREDUCE ∨ k.code = cALLGATHER then writeDst s k lo piece k.poison
  else if k.code = cREDUCE_SCATTER then
    let out := piece.map k.narrow
    let s1 := writeDst s k 0 out k.poison
    if k.flag 1 then addSquares s1 k out else s1
  else if k.code = cREDUCE then (if me = k.root then writeDst s k 0 (k.acc.map k.narrow) k.poison else s)
  else if k.code = cBROADCAST then (if me = k.root then writeDst s k 0 k.acc k.poison else s)
  else if k.code = cALLTOALL then writeDst s k lo piece k.poison
  else if k.code = cNORM_COMBINE then storeMarked s k.dst (normBytes k) k.poison
  else s

/-! ## Progress -/

/-- Messages of this collective still without ACK. -/
def collWaits (s : State) (slot : Nat) (k : Collective) : Bool :=
  (s.cluster (svcCluster slot)).msgs.any (fun m => (m.txn == 8 || m.txn == 9 || m.txn == 6) && m.ctx == k.ctx && m.laddr == collKey k.axes k.number)

/-- Sends a collective makes in all: its ring stages, then its direct exchange when it has one. -/
def sendsOf (j : Job) (k : Collective) : Nat :=
  (stagesOf j k).length + (if k.code = cALLREDUCE ∨ k.code = cREDUCE_SCATTER ∨ k.code = cALLGATHER then 0 else 1)

/-- Whether the next send may go: everything that it needs has been received. -/
def sendReady (s : State) (j : Job) (k : Collective) : Bool :=
  match k.sent with
  | 0 => true
  | n + 1 => match (stagesOf j k)[n]? with
    | some t => stageIn s j k t
    | none => true

/-- The own piece rounded to the element type before it is gathered. -/
def narrowOwn (s : State) (j : Job) (k : Collective) : Collective :=
  let g := collG j k.axes
  let me := groupRank s j k.axes
  let lo := pieceLo k.count g me
  let xs := ((k.acc.drop lo).take (pieceLen k.count g me)).map k.narrow
  { k with acc := mergeAt k.acc lo xs (fun _ x => x) }

/-- The number of reduce-scatter stages of an ALLREDUCE. -/
def rsCount (j : Job) (k : Collective) : Nat := if k.code = cALLREDUCE then (rsStages (collExts j k.axes)).length else 0

/-- The next send of a collective, if it may go. -/
def sendNext (s : State) (slot : Nat) (j : Job) (k : Collective) : State :=
  let k0 := if k.code = cALLREDUCE ∧ k.sent = rsCount j k then narrowOwn s j k else k
  let k1 := { k0 with sent := k0.sent + 1 }
  let s1 := putColl s k1
  match (stagesOf j k)[k.sent]? with
  | some t => sendStage s1 slot j k1 t
  | none =>
    if k.code = cPERMUTE then
      (List.range (k.aux 1)).foldl (fun t i => doMove t slot k.ctx j k.number (collKey k.axes k.number) i (moveAt s (k.aux 0) i)) s1
    else sendDirect s1 slot j k1

/-- Whether a started collective has received and sent all that it will. -/
def collDone (s : State) (slot : Nat) (j : Job) (k : Collective) : Bool :=
  k.sent == sendsOf j k && (stagesOf j k).all (stageIn s j k) && directIn s j k && !collWaits s slot k

/-- A collective that is done ends with STATUS OK; poisoned operands mark its completion. -/
def endColl (s : State) (j : Job) (k : Collective) : State :=
  let k1 := if k.code = cALLREDUCE ∧ (stagesOf j k).isEmpty then narrowOwn s j k else k
  let a := collPoison s j k
  let s1 := writeOwn s j k1
  if !k.poison then finishColl s1 k (fun _ => 0) none
  else
    match a with
    | some x => finishColl s1 k (fun _ => 0) (some (1, x, spaceOf x))
    | none => finishColl s1.tick k (fun _ => 0) (some (1, (Config.free64 s1.free).toNat, 3))

/-- A started collective goes on as far as it can. -/
def collAdvance (slot : Nat) (ctx axes number : Nat) : Nat → State → State
  | 0, s => s
  | n + 1, s =>
    match findColl s ctx axes number, ctxJob s ctx with
    | some k, some j =>
      if !k.started then s
      else if k.sent < sendsOf j k then
        (if sendReady s j k then collAdvance slot ctx axes number n (sendNext s slot j k) else s)
      else if collDone s slot j k then endColl s j k
      else s
    | _, _ => s

/-- Enough fuel for every send of a collective and its end. -/
def advanceAll (s : State) (slot ctx axes number : Nat) : State :=
  match findColl s ctx axes number, ctxJob s ctx with
  | some k, some j => collAdvance slot ctx axes number (sendsOf j k + 2) s
  | _, _ => s

/-! ## Chunks arriving (R400 to R402) -/

def chunkCode (p : Packet) : Nat := p.arg0.toNat / 2 ^ 44 % 256
def chunkAxis (p : Packet) : Nat := p.arg0.toNat / 2 ^ 32 % 16
def chunkStep (p : Packet) : Nat := p.arg0.toNat / 2 ^ 36 % 256
def chunkOff (p : Packet) : Nat := p.arg1.toNat % 2 ^ 40

def chunkAgrees (k : Collective) (p : Packet) : Bool :=
  chunkCode p == k.code && p.arg1.toNat / 2 ^ 40 % 16 == k.type && p.arg1.toNat / 2 ^ 44 % 4 == k.op && p.arg1.getLsbD 46 == k.flag 0

/-- A chunk of a started collective: combined, or stored and written to DST. -/
def takeChunk (s : State) (j : Job) (k : Collective) (p : Packet) : State :=
  let axis := chunkAxis p
  let e := j.extent.getD axis 1
  let w := wireBytes k e axis (chunkStep p)
  let xs := elemsOf w (p.data.length / w) p.data
  let off := chunkOff p
  let bad := p.pmask != 0
  let key := if axis = directAxis then directKey (groupRankOf s j k.axes p.src) else 256 * axis + chunkStep p
  let sums := (axis ≠ directAxis ∧ chunkStep p < e - 1) ∨ k.code = cNORM_COMBINE
  if k.code ≠ cNORM_COMBINE ∧ k.count < off + xs.length then mismatchColl s j k p.src
  else
    let acc := if sums then mergeAt k.acc off xs k.comb else if k.code = cBROADCAST ∨ k.code = cALLTOALL then k.acc else mergeAt k.acc off xs (fun _ x => x)
    let moved := !sums && k.code != cREDUCE && k.code != cBARRIER
    let k1 := { k with acc := acc, got := Sparse.put 0 k.got key (Sparse.get 0 k.got key + Nat.max 1 xs.length), wrote := k.wrote || moved, poison := k.poison || bad }
    putColl (if moved then writeDst s k off xs bad else s) k1

/-- A chunk for a collective of a bound context: held until this member has started, dropped when it has ended here. -/
def chunkIn (s : State) (ctx : Nat) (c : Ctx) (j : Job) (p : Packet) : State :=
  let axes := (p.addr - Config.stagingBase c.slot) / 0x2_0000
  let number := p.arg0.toNat % 2 ^ 32
  match findColl s ctx axes number with
  | none =>
    if c.collCount.any (fun e => e.1 % 256 == axes && decide (number ≤ e.2)) then s
    else putColl s { newColl ctx axes number with held := [p] }
  | some k =>
    if !k.started then putColl s { k with held := k.held ++ [p] }
    else if !chunkAgrees k p then mismatchColl s j k p.src
    else advanceAll (takeChunk s j k p) c.slot ctx axes number

/-- REDUCE_CHUNK: its place is the service's own staging (R404), which no context maps. -/
def reduceChunkIn (s : State) (n : Nat) : State :=
  match arrival s n 8 with
  | none => s
  | some (p, link) =>
    match authentic (takeIn s n) p link with
    | .error t => t
    | .ok q =>
      match s.boundTo q.fpn with
      | none => sendAck (takeIn s n) q 1
      | some (ctx, c, j) =>
        if q.addr < Config.stagingBase c.slot ∨ Config.stagingBase c.slot + 0x80_0000 ≤ q.addr then sendAck (takeIn s n) q 2
        else chunkIn (sendAck (takeIn s n) q 0) ctx c j q

/-! ## An issuer reaches the service (R399, R403) -/

/-- Clusters that have issued collective `number` of these axes. -/
def issuedBy (c : Ctx) (axes number : Nat) : Nat := (c.collCount.filter (fun e => e.1 % 256 == axes && decide (number ≤ e.2))).length

def collArrive (s : State) (ctx : Nat) (c : Ctx) (j : Job) (cl desc code : Nat) (obj : Option Nat) (site : BitVec 32) : State :=
  let s0 := touch s desc 128
  let d := loadMem s0 desc 128
  let axes := field d 26 1
  let key := 256 * cl + axes
  let number := Sparse.get 0 c.collCount key + 1
  let c1 : Ctx := { c with collCount := Sparse.set c.collCount key number }
  let s1 := s0.setCtx ctx c1
  let live := findColl s1 ctx axes number
  let k0 := live.getD (newColl ctx axes number)
  let mine : Nat × Nat × Option Nat × BitVec 32 := (cl, desc, obj, site)
  if k0.issuers.isEmpty ∧ 1 < issuedBy c1 axes number then endAlone s1 ctx cl desc obj site
  else
    let k1 := { k0 with issuers := k0.issuers ++ [mine], code := if k0.issuers.isEmpty then code else k0.code, desc := if k0.issuers.isEmpty then d else k0.desc,
                        poison := k0.poison || (firstPoison s0 desc 128).isSome }
    let probe := { k1 with desc := d, code := code }
    match firstDescBad (collDescBad s1 ctx c1 j probe) with
    | some (st, off) => rejectIssuer s1 j k1 st off
    | none =>
      match descDiffers d k1.desc with
      | some off => rejectIssuer s1 j k1 sMISMATCH off
      | none =>
        if code ≠ k1.code then rejectIssuer s1 j k1 sMISMATCH 0
        else if k1.parts < k1.issuers.length then endAlone s1 ctx cl desc obj site
        else putColl s1 k1

/-- COLLECTIVE_START: all PARTS clusters have issued it. A gather that its holder must hold starts after APPLY. -/
def collStart (s : State) (ctx axes number : Nat) : State :=
  match findColl s ctx axes number, s.ctx? ctx with
  | some k, some c =>
    match c.job with
    | none => s
    | some j =>
      if k.started then advanceAll s c.slot ctx axes number
      else if k.issuers.isEmpty || k.issuers.length != k.parts then s
      else
        let served := if k.flag 2 then serveOf s (k.aux 0) (k.aux 1) (k.flag 3) else .serve
        let moves := if k.code = cPERMUTE then (List.range (k.aux 1)).map (moveAt s (k.aux 0)) else []
        match served with
        | .hold => s
        | .refuse => refuseGather s j k
        | .serve =>
          if !moves.all (moveOk s ctx c j) then rejectIssuer s j k sACCESSED 32
          else
            let s0 := k.issuers.foldl (fun t i => touch t (leNat (loadMem t i.2.1 8)) (k.elem * srcElems t j k)) s
            let k1 := { k with started := true, acc := startAcc s0 j k, held := [], poison := k.poison || (collPoison s0 j k).isSome }
            let s1 := if k.flag 2 then publishVersion (putColl s0 k1) c.slot j k1 else putColl s0 k1
            let s2 := k.held.foldl (fun t p => chunkIn t ctx c j p) s1
            advanceAll s2 c.slot ctx axes number
  | _, _ => s

/-- The axes field of the key that marks the messages of a re-shard: no collective has it. -/
def reshardAxes : Nat := 255

/-- A message of the service has been acknowledged: its collective goes on; a refused one is lost to it. -/
def serviceAcked (s : State) (m : Msg) : State :=
  if m.txn ≠ 8 ∧ m.txn ≠ 9 ∧ m.txn ≠ 6 then s
  else
    match s.ctx? m.ctx with
    | none => s
    | some c =>
      match findColl s m.ctx (m.laddr % 256) (m.laddr / 256) with
      | none =>
        if m.bad.isSome ∧ m.laddr % 256 = reshardAxes then
          match c.job with
          | some j => s.setCtx m.ctx { c with job := some { j with lostFlag := true } }
          | none => s
        else s
      | some k => if m.bad.isSome then failColl s k (fun _ => 4) else advanceAll s c.slot m.ctx k.axes k.number

end Sys2Proof.Machine
end

