-- ==== Sys2Proof/Machine/Recv.lean ====
section
/-! DEFINITION. The rows of fabric traffic (Table 11.10, R368 to R376, R399 to R401): the head of a send queue, each transaction on arrival, ACK_TIMEOUT and
COLLECTIVE_START. -/

namespace Sys2Proof.Machine

open Sys2Proof

/-- SEND_QUEUE_SEND: the entry at the head of a fabric send queue (R371); a collective goes to the service, a wait holds the queue. -/
def execSendQueueSend (cluster : Nat) (s : State) : Host.Outcome State Fault Refusal :=
  let k := s.cluster cluster
  match k.fq with
  | [] => .next s
  | .wait .. :: _ => .next s
  | .coll ctx desc code obj site :: rest =>
    match s.ctx? ctx with
    | none => .next s
    | some c =>
      match c.job with
      | none => .next s
      | some j =>
        if unavailable s desc 128 then .next s
        else .next (collArrive (s.setCluster cluster { k with fq := rest }) ctx c j cluster desc code obj site)
  | e :: _ => .next (sendHead s cluster e)

/-- ACK_TIMEOUT (R372). -/
def execAckTimeout (cluster msg pkt : Nat) (s : State) : Host.Outcome State Fault Refusal := .next (ackTimeout s cluster msg pkt)

/-- The data of a packet written at its ADDR in whole granules. -/
def dataNeed (p : Packet) : Need := { addr := p.addr, len := p.data.length, write := true, align := 64 }

/-- The bytes of a GET; eight for one that fills a register. -/
def getNeed (p : Packet) : Need := { addr := p.addr, len := p.arg1.toNat, write := false, align := if p.arg1.toNat = 8 then 8 else 64 }

def atomicNeed (p : Packet) : Need := { addr := p.addr, len := atomWidth p, write := true, align := atomWidth p }

/-- PUT_PACKET (R373). -/
def execPutPacket (n : Nat) (s : State) : Host.Outcome State Fault Refusal := .next (onPacket s n 1 dataNeed putPacketBody)

/-- GET_REQ (Table 11.10a). -/
def execGetReq (n : Nat) (s : State) : Host.Outcome State Fault Refusal := .next (onPacket s n 2 getNeed getReqBody)

/-- GET_DATA (Table 11.10a). -/
def execGetData (n : Nat) (s : State) : Host.Outcome State Fault Refusal := .next (onResponse s n 3 2 getDataBody)

/-- ACC_PACKET (R376). -/
def execAccPacket (n : Nat) (s : State) : Host.Outcome State Fault Refusal := .next (onPacket s n 4 dataNeed accPacketBody)

/-- SIGNAL_PACKET (R331). -/
def execSignalPacket (n : Nat) (s : State) : Host.Outcome State Fault Refusal := .next (signalIn s n)

/-- ATOMIC_REQ (R375, Table 11.11). -/
def execAtomicReq (n : Nat) (s : State) : Host.Outcome State Fault Refusal := .next (onPacket s n 6 atomicNeed atomicBody)

/-- ATOMIC_RSP (R372). -/
def execAtomicRsp (n : Nat) (s : State) : Host.Outcome State Fault Refusal :=
  .next (onResponse s n 7 6 (fun t p m => serviceAcked (atomicRspBody t p m) m))

/-- REDUCE_CHUNK (R401). -/
def execReduceChunk (n : Nat) (s : State) : Host.Outcome State Fault Refusal := .next (reduceChunkIn s n)

/-- PERMUTE_PACKET (R400). -/
def execPermutePacket (n : Nat) (s : State) : Host.Outcome State Fault Refusal := .next (onPacket s n 9 dataNeed putPacketBody)

/-- FABRIC_ACK (R372). -/
def execFabricAck (n : Nat) (s : State) : Host.Outcome State Fault Refusal := .next (ackIn s n serviceAcked)

/-- COLLECTIVE_START (R399). -/
def execCollectiveStart (ctx axes number : Nat) (s : State) : Host.Outcome State Fault Refusal := .next (collStart s ctx axes number)

end Sys2Proof.Machine
end

