-- ==== Sys2Proof/Machine/Sec.lean ====
section
/-! DEFINITION. The partition and security commands (chapter 14, Table 14.21), and the digest tree of R445. -/

namespace Sys2Proof.Machine

open Sys2Proof

/-! ## The digest tree (R445) -/

/-- One level up: full pairs hashed, an odd last node kept. -/
def treeLevel : List (List Byte) → List (List Byte)
  | a :: b :: r => sha3 (0x01 :: (a ++ b)) :: treeLevel r
  | xs => xs

/-- The root of a list of leaves, on as much fuel as there are leaves. -/
def treeTop : Nat → List (List Byte) → List Byte
  | 0, xs => xs.headD []
  | n + 1, xs => if xs.length ≤ 1 then xs.headD [] else treeTop n (treeLevel xs)

/-- The root over data cut into 1 MiB chunks, read by `f` at an offset. -/
def digestRoot (f : Nat → Nat → List Byte) (n : Nat) : List Byte :=
  let k := (n + 0xF_FFFF) / 0x10_0000
  let leaves := (List.range k).map (fun i => sha3 (0x00 :: f (0x10_0000 * i) (Nat.min 0x10_0000 (n - 0x10_0000 * i))))
  treeTop k leaves

/-! ## Identity, attestation and life cycle -/

def certBytes : Nat := 6608

def cmdSecIdentity : Cmd := { code := 0x0200, fixed := certBytes, bad := noBad, run := fun s _ _ => .okWith s (padTo certBytes s.part.cert) }

/-- Bits of the partition slots for which `f` holds. -/
def partBits (f : Nat → Bool) : Nat := ((List.range 6).filter f).foldl (fun a i => a + 2 ^ i) 0

/-- Roots of shared slots in allocation order, zero where unsealed. -/
def sharedRoots (s : State) : List Byte :=
  let xs := s.keep.shared.map (fun e => e.2)
  let k := (xs.map (fun x => x.seq + 1)).foldl Nat.max 0
  let ordered := (List.range k).filterMap (fun n => xs.find? (fun x => x.seq == n))
  padTo 160 (ordered.flatMap (fun x => if x.st = .sealed then padTo 32 x.root else zeros 32))

/-- Bytes 0 to 319 of the report (Table 14.5). -/
def reportBody (s : State) (r : RingId) (nonce : List Byte) : List Byte :=
  let mine (i : Nat) : Bool := r.fn == 0 || r.fn == i + 1
  let x := runningSlot s
  let fl := b2n (evalBit s) 1 + b2n (evalLocked s) 2 + b2n s.keep.sealed 4 + b2n s.keep.k4Import 8 + b2n s.keep.pf0Keys 16 + b2n s.lantern.standby 32
  leBytes 4 0x5441_354B ++ leBytes 2 1 ++ [BitVec.ofNat 8 s.keep.lc, BitVec.ofNat 8 fl] ++ leBytes 8 (lidIdent s r).toNat ++
  leBytes 8 (lidFwver s).toNat ++ leBytes 8 (lidFabric s).toNat ++ leBytes 4 (slotVersion (getSlot s (!s.lantern.bootSlot))) ++
  [BitVec.ofNat 8 s.keep.svn, BitVec.ofNat 8 (partBits (fun i => mine i && (s.part? i).exist)),
   BitVec.ofNat 8 (partBits (fun i => mine i && (s.part? i).adminDebug)), BitVec.ofNat 8 (partBits (fun i => (s.part? i).scrubbed))] ++
  leBytes 8 s.keep.boots.toNat ++ padTo 16 s.part.serial ++ padTo 32 nonce ++ sha3 x.image ++ sharedRoots s ++ leBytes 8 s.time.toNat ++ zeros 24

def cmdSecAttest : Cmd :=
  { code := 0x0201, fixed := 3704, bad := fun _ _ c => [(c.payloadLen != 32, 8)],
    run := fun s r c =>
      let b := reportBody s r c.payload
      .okWith s (b ++ signBlock domATT b) }

/-- With no transition pending, the pending target reads as a free value: the spec gives none. -/
def cmdSecLcStatus : Cmd :=
  { code := 0x0202, fixed := 16, bad := noBad,
    run := fun s _ _ =>
      let target := match s.keep.pendingLc with
        | some n => BitVec.ofNat 8 n
        | none => Config.freeByte s.free
      .okWith s.tick ([BitVec.ofNat 8 s.keep.lc, target, BitVec.ofNat 8 s.keep.recs.length, if evalLocked s then 1 else 0] ++ zeros 12) }

def cmdSecLcNonce : Cmd :=
  { code := 0x0203, fixed := 32, bad := noBad,
    run := fun s r _ => pf0Only s r (fun _ =>
      let n := padTo 32 (Config.entropy s.keep.entropyN)
      .okWith (s.setKeep { s.keep with nonce := some n, entropyN := s.keep.entropyN + 1 }) n) }

def anyPart (s : State) : Bool := (List.range 6).any (fun i => (s.part? i).exist)

/-- What refuses a token whose signatures verify (R466, R467, R489, Table 14.8). -/
def tokenRefused (s : State) (t : List Byte) : Option (Nat × Nat) :=
  let a := field t 6 1
  let b := field t 7 1
  if (t.drop 8).take 16 ≠ padTo 16 s.part.serial ∨ a ≠ s.keep.lc ∨ !transitionOk a b ∨ s.keep.nonce ≠ some ((t.drop 24).take 32) then some (sDENIED, dTOKEN_BINDING)
  else if evalLocked s && b == 3 then some (sDENIED, dEVAL_LOCK)
  else if recordsShort s.keep b then some (sRESOURCE, 13)
  else if anyPart s && ((a == 2 && b == 3) || (a == 3 && b == 2)) then some (sNOT_IN_STATE, s.keep.lc)
  else none

/-- The state after a transition began or went on: complete, or still pending. -/
def lcResult (s : State) : Ran := if s.keep.lc = 7 then .notInState s 7 else .ok s

def cmdSecLcToken : Cmd :=
  { code := 0x0204, fixed := 0,
    bad := fun _ _ c =>
      [(c.payloadLen != 64 + sigBytes, 8), (!c.payload.isEmpty && c.pay 0 4 != 0x544C_354B, 64), (!c.payload.isEmpty && c.pay 4 2 != 1, 68),
       (!zeroAt c.payload 56 8, 120)],
    run := fun s r c => pf0Only s r (fun _ =>
      if !signedOk 2 domLCT (c.payload.take 64) (c.payload.drop 64) then .fin s sINTEGRITY 0 []
      else
        match tokenRefused s c.payload with
        | some (st, d) => .fin s st d []
        | none => lcResult (beginLc s (c.pay 7 1) (sha3 c.payload))) }

def cmdSecLcRetry : Cmd :=
  { code := 0x0205, fixed := 0, bad := noBad,
    run := fun s r _ => pf0Only s r (fun _ => if s.keep.lc = 7 then lcResult (completeLc s) else .notInState s s.keep.lc) }

/-! ## Mode and partitions (R474 to R479) -/

def cmdSecMode : Cmd :=
  { code := 0x0206, fixed := 0, bad := fun _ _ c => [(decide (1 < c.arg 0 1), 40)],
    run := fun s r c => pf0Only s r (fun _ =>
      if evalLocked s && c.arg 0 1 == 0 then .denied s dEVAL_LOCK
      else if anyPart s then .notInStateFree s
      else
        let s1 := (s.setKeep { s.keep with sealed := c.arg 0 1 == 1 }).setCarrier { s.carrier with budgets := [] }
        let s2 := (List.range 48).foldl (fun t n => if isActive t n then enterRetrain t n true else t) s1
        .ok (evalChange s s2 2)) }

/-- Slots free on all eight stacks of partition `i`. -/
def nearFree (s : State) (i : Nat) : List Nat :=
  (List.range (slotCount s.part.order)).filter (fun k => match s.mem.slot k with | .free => true | .near m => !m.getLsbD i | .far _ => false)

def setSlotMode (s : State) (k : Nat) (m : SlotMode) : State := s.setMemSys { s.mem with slots := Sparse.put .free s.mem.slots k m }

def giveNear (i : Nat) (s : State) (k : Nat) : State :=
  setSlotMode s k (.near ((match s.mem.slot k with | .near m => m | _ => 0) ||| BitVec.ofNat 6 (2 ^ i)))

/-- The memory request met: near slots lowest first, then far slots highest first; none when it cannot be met (R297). -/
def assignSlots (s : State) (i near far : Nat) : Option State :=
  let n := (nearFree s i).take near
  let s1 := n.foldl (giveNear i) s
  let f := (slotsWhere s1 isFree).reverse.take far
  if n.length < near ∨ f.length < far then none else some (f.foldl (fun t k => setSlotMode t k (.far i)) s1)

/-- Ranges of the new partition that have not been scrubbed since cold reset are scrubbed (R479). -/
def scrubNew (s : State) (i : Nat) : State :=
  let rs := (partRanges s i).filter (fun x => !Sparse.get false s.mem.scrubbed x.1)
  setMarks (zeroRanges s (rs.map (fun x => x.2))) (rs.map (fun x => x.1))

def cmdSecPartCreate : Cmd :=
  { code := 0x0207, fixed := 0,
    bad := fun s _ c =>
      let k := slotCount s.part.order
      [(decide (5 < c.arg 0 1), 40), (decide (1 < c.arg 1 1), 41), (decide (k < c.arg 2 1), 42), (decide (k < c.arg 3 1), 43)] ++
      (List.range 6).map (fun j => (byteAt c.args (4 + j) != 0, 44 + j)),
    run := fun s r c => pf0Only s r (fun _ =>
      let i := c.arg 0 1
      if s.keep.lc = 5 then .denied s dLIFE_CYCLE
      else if evalLocked s && c.arg 1 1 == 1 then .denied s dEVAL_LOCK
      else if (s.part? i).exist || (List.range 4).any (fun d => s.carrier.isolated.contains (4 * i + d)) then .notInStateFree s
      else
        match assignSlots s i (c.arg 2 1) (c.arg 3 1) with
        | none => .resource s 7
        | some s1 =>
          let s2 := scrubNew s1 i
          let s3 := s2.setPart i { s2.part? i with exist := true, adminDebug := c.arg 1 1 == 1 }
          .ok (evalChange s s3 3)) }

/-- A partition's slots freed. -/
def freePart (s : State) (i : Nat) : State :=
  (List.range (slotCount s.part.order)).foldl (fun t k =>
    match t.mem.slot k with
    | .near m =>
      let m1 := m &&& ~~~(BitVec.ofNat 6 (2 ^ i))
      setSlotMode t k (if m1 = 0 then .free else .near m1)
    | .far w => if w = i then setSlotMode t k .free else t
    | .free => t) s

/-- The slot's VF is disabled. -/
def dropVf (s : State) (i : Nat) : State := flr (flr s ⟨.a, i + 1⟩) ⟨.b, i + 1⟩

def destroyPart (s : State) (i : Nat) : State :=
  let s1 := scrubSlot (closeSlot s i) i false
  let s2 := dropVf (freePart s1 i) i
  s2.setPart i { s2.part? i with exist := false, adminDebug := false }

def cmdSecPartDestroy : Cmd :=
  { code := 0x0208, fixed := 0, bad := fun _ _ c => [(decide (5 < c.arg 0 1), 40)],
    run := fun s r c => pf0Only s r (fun _ =>
      if (s.part? (c.arg 0 1)).exist then .ok (evalChange s (destroyPart s (c.arg 0 1)) 3) else .notInStateFree s) }

def cmdSecPartReset : Cmd :=
  { code := 0x0209, fixed := 0, bad := fun _ _ c => [(decide (5 < c.arg 0 1), 40)],
    run := fun s r c =>
      let i := c.arg 0 1
      if !fnOwns r.fn i then .denied s dFUNCTION
      else if (s.part? i).exist then .ok (scrubSlot (closeSlot s i) i true) else .notInStateFree s }

/-! ## Link keys (R480, R481) -/

/-- A value that names no FPN. -/
def badFpn (fpn : Nat) : Bool := shareOf fpn == 7

/-- Who may install, switch or erase an FPN's keys. -/
def ownsKeys (s : State) (fn fpn : Nat) : Bool :=
  let i := shareOf fpn
  if i = 6 then fn == 0 else fn == i + 1 || (fn == 0 && s.keep.pf0Keys)

/-- Counters of a key on every link controller start again. -/
def freshCounters (s : State) (k : Nat) : State :=
  (List.range 48).foldl (fun t n =>
    let l := t.link n
    t.setLink n { l with keyCtr := Sparse.del l.keyCtr k, keyLow := l.keyLow.filter (fun x => x != k) }) s

def installKey (s : State) (fpn slot : Nat) (key : List Byte) : State :=
  let k := keyIndex fpn slot
  freshCounters (s.setKeep { s.keep with linkKeys := Sparse.set s.keep.linkKeys k (padTo 32 key) }) k

def cmdSecKeyInstall : Cmd :=
  { code := 0x020A, fixed := 0,
    bad := fun _ _ c => [(c.payloadLen != 1176, 8), (badFpn (c.pay 0 2), 64), (decide (1 < c.pay 2 1), 66)] ++
      (List.range 5).map (fun j => (byteAt c.payload (3 + j) != 0, 67 + j)),
    run := fun s r c =>
      if !ownsKeys s r.fn (c.pay 0 2) then .denied s dFUNCTION
      else
        match (if s.keep.keysOk then Config.unwrapKey (c.pay 0 2) (c.pay 2 1) c.payload else none) with
        | none => .fin s sINTEGRITY 0 []
        | some key => .ok (installKey s (c.pay 0 2) (c.pay 2 1) key) }

def badKeyArgs (_ : State) (_ : RingId) (c : OutCmd) : List (Bool × Nat) := [(badFpn (c.arg 0 2), 40), (decide (1 < c.arg 2 1), 42)]

def cmdSecKeySwitch : Cmd :=
  { code := 0x020B, fixed := 0, bad := badKeyArgs,
    run := fun s r c =>
      if !ownsKeys s r.fn (c.arg 0 2) then .denied s dFUNCTION
      else if (Sparse.find? s.keep.linkKeys (keyIndex (c.arg 0 2) (c.arg 2 1))).isNone then .notInStateFree s
      else .ok (s.setKeep { s.keep with sendSlot := Sparse.put 0 s.keep.sendSlot (c.arg 0 2) (c.arg 2 1) }) }

def cmdSecKeyErase : Cmd :=
  { code := 0x020C, fixed := 0, bad := badKeyArgs,
    run := fun s r c =>
      if !ownsKeys s r.fn (c.arg 0 2) then .denied s dFUNCTION
      else if (s.boundTo (c.arg 0 2)).isSome then .notInStateFree s
      else .ok (s.setKeep { s.keep with linkKeys := Sparse.del s.keep.linkKeys (keyIndex (c.arg 0 2) (c.arg 2 1)) }) }

/-! ## Shared weights (R485) -/

/-- A value that names no shared slot. -/
def badShared (s : State) (_ : RingId) (c : OutCmd) : List (Bool × Nat) := [((Sparse.find? s.keep.shared (c.arg 0 1)).isNone, 40)]

/-- The root of the tree over a slot's 48 GiB. -/
def slotRoot (s : State) (k : Nat) : List Byte := digestRoot (fun o n => loadMem s (slotBytes * k + o) n) slotBytes

def withShared (s : State) (c : OutCmd) (f : Shared → Ran) : Ran :=
  match Sparse.find? s.keep.shared (c.arg 0 1) with
  | some x => f x
  | none => .badArg s 40

def cmdSecSharedSeal : Cmd :=
  { code := 0x020D, fixed := 0, bad := fun s r c => (c.payloadLen != 32, 8) :: badShared s r c,
    run := fun s r c => pf0Only s r (fun _ => withShared s c (fun x =>
      let k := c.arg 0 1
      if x.st ≠ .opened then .notInStateFree s
      else
        let lo := slotBytes * k / 64
        let hi := lo + slotBytes / 64
        let s1 := (Sparse.keysIn s.mem.errs lo hi).foldl meetKey s
        if !(Sparse.keysIn s1.mem.poison lo hi).isEmpty ∨ slotRoot s1 k ≠ c.payload.take 32 then .fin s1 sINTEGRITY 0 []
        else .ok (setShared s1 k { x with st := .sealed, root := c.payload.take 32 }))) }

def cmdSecSharedUnseal : Cmd :=
  { code := 0x020E, fixed := 0, bad := badShared,
    run := fun s r c => pf0Only s r (fun _ => withShared s c (fun x =>
      if x.st = .opened ∨ slotMapped s (c.arg 0 1) = true then .notInStateFree s
      else .ok (setShared s (c.arg 0 1) { x with st := .opened, root := [], stripe := none, repairs := [] }))) }

def cmdSecSharedStripe : Cmd :=
  { code := 0x020F, fixed := 0,
    bad := fun s r c => badShared s r c ++ [(decide (5 < c.arg 1 1), 41), (!([4, 6, 8, 10].contains (c.arg 2 1)), 42), (c.arg 3 1 != 1 && c.arg 3 1 != 2, 43),
      (decide (65535 < c.arg 4 4) || shareOf (c.arg 4 4) != 6, 44)],
    run := fun s r c => pf0Only s r (fun _ => withShared s c (fun x =>
      if x.st ≠ .sealed then .notInStateFree s
      else .ok (setShared s (c.arg 0 1) { x with stripe := some (c.arg 1 1, c.arg 2 1, c.arg 3 1, c.arg 4 4) }))) }

/-! ## SEC_CFG (R488, R489) -/

def cmdSecCfg : Cmd :=
  { code := 0x0210, fixed := 0, bad := fun _ _ c => [(decide (1 < c.arg 0 1), 40), (decide (1 < c.arg 1 1), 41)],
    run := fun s r c => pf0Only s r (fun _ =>
      if evalLocked s && (c.arg 0 1 == 1 || c.arg 1 1 == 1) then .denied s dEVAL_LOCK
      else
        let s1 := s.setKeep { s.keep with k4Import := c.arg 0 1 == 1, pf0Keys := c.arg 1 1 == 1 }
        .ok (evalChange s s1 (if s1.keep.k4Import = s.keep.k4Import then 5 else 4))) }

/-! ## Rows -/

def execSecIdentity (r : RingId) (tag : BitVec 16) (s : State) : Host.Outcome State Fault Refusal := runCmd cmdSecIdentity r tag s
def execSecAttest (r : RingId) (tag : BitVec 16) (s : State) : Host.Outcome State Fault Refusal := runCmd cmdSecAttest r tag s
def execSecLcStatus (r : RingId) (tag : BitVec 16) (s : State) : Host.Outcome State Fault Refusal := runCmd cmdSecLcStatus r tag s
def execSecLcNonce (r : RingId) (tag : BitVec 16) (s : State) : Host.Outcome State Fault Refusal := runCmd cmdSecLcNonce r tag s
def execSecLcToken (r : RingId) (tag : BitVec 16) (s : State) : Host.Outcome State Fault Refusal := runCmd cmdSecLcToken r tag s
def execSecLcRetry (r : RingId) (tag : BitVec 16) (s : State) : Host.Outcome State Fault Refusal := runCmd cmdSecLcRetry r tag s
def execSecMode (r : RingId) (tag : BitVec 16) (s : State) : Host.Outcome State Fault Refusal := runCmd cmdSecMode r tag s
def execSecPartCreate (r : RingId) (tag : BitVec 16) (s : State) : Host.Outcome State Fault Refusal := runCmd cmdSecPartCreate r tag s
def execSecPartDestroy (r : RingId) (tag : BitVec 16) (s : State) : Host.Outcome State Fault Refusal := runCmd cmdSecPartDestroy r tag s
def execSecPartReset (r : RingId) (tag : BitVec 16) (s : State) : Host.Outcome State Fault Refusal := runCmd cmdSecPartReset r tag s
def execSecKeyInstall (r : RingId) (tag : BitVec 16) (s : State) : Host.Outcome State Fault Refusal := runCmd cmdSecKeyInstall r tag s
def execSecKeySwitch (r : RingId) (tag : BitVec 16) (s : State) : Host.Outcome State Fault Refusal := runCmd cmdSecKeySwitch r tag s
def execSecKeyErase (r : RingId) (tag : BitVec 16) (s : State) : Host.Outcome State Fault Refusal := runCmd cmdSecKeyErase r tag s
def execSecSharedSeal (r : RingId) (tag : BitVec 16) (s : State) : Host.Outcome State Fault Refusal := runCmd cmdSecSharedSeal r tag s
def execSecSharedUnseal (r : RingId) (tag : BitVec 16) (s : State) : Host.Outcome State Fault Refusal := runCmd cmdSecSharedUnseal r tag s
def execSecSharedStripe (r : RingId) (tag : BitVec 16) (s : State) : Host.Outcome State Fault Refusal := runCmd cmdSecSharedStripe r tag s
def execSecCfg (r : RingId) (tag : BitVec 16) (s : State) : Host.Outcome State Fault Refusal := runCmd cmdSecCfg r tag s

end Sys2Proof.Machine
end

