-- ==== Sys2Proof/Machine/Commit.lean ====
section
/-! DEFINITION. The step machine of a member (R405, R406, R417 to R426, Tables 12.5 and 12.9 to 12.12): shard records, launching, the commit tree, applying and
discarding a step, key moves, and what a snapshot copies and gives back (R435, R437, R447). -/

namespace Sys2Proof.Machine

open Sys2Proof

/-- A bound context and its job. -/
def jobAt (s : State) (n : Nat) : Option (Ctx × Job) := (s.ctx? n).bind (fun c => c.job.map (fun j => (c, j)))

/-- The codes of R423. -/
def stepCode : StepState → Nat
  | .running => 0
  | .voted => 1
  | .applying => 2
  | .haltedIn => 3
  | .haltedAt => 4
  | .discarding => 5
  | .waitRerun => 6
  | .restoring => 7

/-- A step boundary (R427): RUNNING before launch, or HALTED at the boundary. -/
def atBoundary (j : Job) : Bool := j.st == .haltedAt || (j.st == .running && !j.launched)

/-! ## Shard records (R405, R406, Table 12.5) -/

def recAt (table i : Nat) : Nat := table + 48 * i

def shardBytes (s : State) (a : Nat) : Nat := recNat s a 16 4

/-- The version of `n` bytes at `b` in a step epoch. -/
def versionOf (s : State) (epoch b n : Nat) : Nat := (epoch % 2 ^ 32) * 2 ^ 32 + crc32c (loadMem s b n)

/-- Registration: VERSION computed over the live buffer. -/
def registerRec (epoch : Nat) (s : State) (a : Nat) : State :=
  let b := shardBuf s a (shardLive s a)
  let s1 := touch s b (shardBytes s a)
  storeMem s1 (a + 24) (leBytes 8 (versionOf s1 epoch b (shardBytes s1 a)))

def overRecs (f : State → Nat → State) (s : State) (table recs : Nat) : State := (List.range recs).foldl (fun t i => f t (recAt table i)) s

/-- PROPOSE: NEXT_VERSION of a record that is not FROZEN, over its shadow. -/
def proposeRec (epoch : Nat) (s : State) (a : Nat) : State :=
  if shardFrozen s a then s
  else
    let b := shardBuf s a (1 - shardLive s a)
    let s1 := touch s b (shardBytes s a)
    let v := versionOf s1 epoch b (shardBytes s1 a)
    storeMem (storeMem s1 (a + 32) (leBytes 8 v)) (a + 20) [BitVec.ofNat 8 (recNat s1 a 20 1) ||| 2]

/-- APPLY: LIVE inverted, NEXT_VERSION moved to VERSION, PROPOSED cleared. -/
def applyRec (s : State) (a : Nat) : State :=
  if !shardProposed s a then s
  else
    let v := shardNext s a
    let f := BitVec.ofNat 8 (recNat s a 20 1)
    storeMem (storeMem s (a + 24) (leBytes 8 v ++ zeros 8)) (a + 20) [(f ^^^ 1) &&& ~~~2]

/-- Discard: PROPOSED cleared and NEXT_VERSION zero. -/
def unproposeRec (s : State) (a : Nat) : State :=
  storeMem (storeMem s (a + 32) (zeros 8)) (a + 20) [BitVec.ofNat 8 (recNat s a 20 1) &&& ~~~2]

/-! ## The step object (R418) -/

def stepCount (s : State) (c : Ctx) (j : Job) : Nat :=
  match ctxObj s c j.stepObj with
  | some o => (o.value - o.base).toNat
  | none => 0

/-- An object set back to its baseline, and judged. -/
def resetObj (s : State) (c : Ctx) (vid : Nat) : State :=
  match c.vids[vid]? with
  | none => s
  | some k =>
    match s.obj? k with
    | none => s
    | some o => let o1 := { o with value := o.base }; settle s k (judge o1) o1.mark

/-- Discard action 4: every object at its baseline, without waiters and marks. -/
def clearObjs (s : State) (n : Nat) : State :=
  s.setSync { s.sync with objs := s.sync.objs.map (fun e =>
    if e.2.ctx = n then (e.1, { e.2 with value := e.2.base, mark := none, obs := [], cons := [] }) else e) }

/-! ## Launching (R390, R418, R422) -/

/-- One launch record; one whose blocks cannot all be placed places none. -/
def launchRec (n : Nat) (s : State) (l : Nat × Nat × Nat) : State :=
  match s.ctx? n with
  | none => s
  | some c =>
    match c.entries[l.2.1]? with
    | none => s
    | some e =>
      if !clusterOfSlot c.slot l.1 then s
      else
        match placeBlocks n c l.1 e c.defaultArg none l.2.2 s with
        | .ok (t, _) => t
        | .error _ => s

/-- What a member forgets when a step starts, or starts again. -/
def freshStep (j : Job) : Job :=
  { j with failed := false, votedUp := false, queries := 0, lostFlag := false, anyLost := false, discarded := [], haltHeld := false, retries := false,
           decision := j.decision.filter (fun d => d.epoch != j.epoch), partnerAbort := j.partnerAbort.filter (fun e => e != j.epoch),
           partnerRec := j.partnerRec.filter (fun r => r != (.commit, j.epoch)), awaiting := j.awaiting.filter (fun k => k != .commit) }

/-- The launch records launched with the member's epoch. -/
def launchStep (s : State) (n : Nat) : State :=
  match jobAt s n with
  | none => s
  | some (_, j) => j.launches.foldl (launchRec n) (setJob s n { freshStep j with st := .running, launched := true })

/-! ## Snapshots of this member (R435, R437, R439) -/

/-- The live bytes of a tensor: a shard-backed one is its record's live buffer. -/
def tensorRange (s : State) (j : Job) (t : Tensor) : Nat × Nat :=
  if t.shard < j.shardRecs then
    let a := recAt j.shardTable t.shard
    (shardBuf s a (shardLive s a), shardBytes s a)
  else (t.addr, t.bytes)

def isBoundaryTensor (t : Tensor) : Bool := t.flags / 2 % 2 == 1

/-- The bytes of a range added to a landing set. -/
def landRange (s : State) (m : Sparse Byte) (x : Nat × Nat) : Sparse Byte :=
  (Sparse.keysIn s.mem.bytes x.1 (x.1 + x.2)).foldl (fun t a => Memory.write t a (Memory.read s.mem.bytes a)) (Memory.zero m x.1 (x.1 + x.2))

/-- Values and baselines of a context's objects. -/
def objRecord (s : State) (c : Ctx) : List (Nat × Word32 × Word32) :=
  (List.range c.vids.length).filterMap (fun v => (ctxObj s c v).map (fun o => (v, o.value, o.base)))

/-- Snapshot `snap` begins after step `step`: the job record, the records themselves and the boundary tensors are copied. -/
def beginSnap (s : State) (n snap step : Nat) : State :=
  match jobAt s n with
  | none => s
  | some (c, j) =>
    let table : Nat × Nat := (j.shardTable, 48 * j.shardRecs)
    let xs := (j.surv.tensors.filter isBoundaryTensor).map (tensorRange s j)
    let d : Snap := { epoch := snap, step := step, ranges := table :: xs, bytes := (table :: xs).foldl (landRange s) [], objs := objRecord s c,
                      shardTable := j.shardTable, shardRecs := j.shardRecs, queues := j.queues, tensors := j.surv.tensors, manifest := [] }
    let n1 := (xs.map (fun x => x.2)).sum
    let v : Survival := { j.surv with
      taking := snap, takingStep := step, phase := 0, okFrom := [], draft := some d, nextSnap := Nat.max j.surv.nextSnap (snap + 1) }
    setJob (s.bump 0x07000003 n1) n { j with surv := v }

/-! ## Running again (R425, R482) -/

/-- The key roll of R482. -/
def rollKey (s : State) (fpn : Nat) : State :=
  let old := sendKey s fpn
  let new := 1 - old
  let k (i : Nat) : List Byte := Sparse.get [] s.keep.linkKeys (keyIndex fpn i)
  let s1 := installKey s fpn old (sha3 ([0x4B, 0x35, 0x2D, 0x52, 0x4F, 0x4C, 0x4C] ++ k new ++ k old))
  (s1.setKeep { s1.keep with sendSlot := Sparse.put 0 s1.keep.sendSlot fpn new }).bump 0x0600000E 1

/-- At the root: every member has discarded; the key moves when packets were lost, and RERUN goes down, unless this was the third discard. -/
def tryRerun (s : State) (n : Nat) : State :=
  match jobAt s n with
  | none => s
  | some (_, j) =>
    if !isRoot s j || !(List.range (jobSize j)).all (fun r => j.discarded.contains r) then s
    else
      let s1 := if j.anyLost then rollKey (tellChildren (setJob s n { j with anyLost := false }) j) j.fpn else s
      if j.st ≠ .waitRerun then s1 else launchStep (tellChildren s1 j) n

/-- A member with nothing launched answers an ABORT with DISCARDED (Table 12.18). -/
def answerDiscarded (s : State) (n : Nat) (j : Job) : State :=
  let own := (ownRank s j).getD 0
  let j1 := { j with st := .waitRerun, childOk := [], discarded := j.discarded.filter (fun r => r != own) ++ [own] }
  if isRoot s j then tryRerun (setJob s n j1) n else tellParent (setJob s n j1) j1

/-! ## Deciding (R419, R420, R436) -/

/-- Table 13.2: the trigger that orders a snapshot at this boundary; the step being committed counts as applied. -/
def snapDue (j : Job) : Option Nat :=
  let v := j.surv
  if v.taking ≠ 0 then none
  else if v.orderRisk then some 1
  else if v.maxSteps ≤ v.stepsSince + 1 then some 2
  else if v.orderNow then some 3
  else if v.orderDetach then some 4
  else none

/-- The root decides COMMIT: kept, sent down, and acted on. -/
def decideCommit (s : State) (n : Nat) : State :=
  match jobAt s n with
  | none => s
  | some (_, j) =>
    let due := snapDue j
    let v := match due with
      | some t => { j.surv with trigger := t, orderRisk := false, orderNow := false }
      | none => j.surv
    let d : Decision := { epoch := j.epoch, commit := true, snap := due.map (fun _ => j.surv.nextSnap) }
    setJob (tellChildren s j) n { j with st := .applying, decision := some d, awaiting := j.awaiting.filter (fun k => k != .commit), surv := v }

/-- Every child of this member has sent OK. -/
def childrenOk (s : State) (j : Job) : Bool := ((ownRank s j).map (childrenOf j)).getD [] |>.all (fun r => j.childOk.contains r)

/-- A member in PROPOSE whose children have all sent OK sends its own, and the root decides, its record with the partner first. -/
def tryVote (s : State) (n : Nat) : State :=
  match jobAt s n with
  | none => s
  | some (_, j) =>
    if j.st ≠ .voted ∨ j.votedUp = true ∨ j.failed = true ∨ childrenOk s j = false then s
    else if !isRoot s j then setJob (tellParent s j) n { j with votedUp := true }
    else if decided j then s
    else
      let j1 := { j with votedUp := true }
      match j.surv.partner with
      | some p => setJob (tell s j p) n { j1 with awaiting := j.awaiting ++ [.commit] }
      | none => decideCommit (setJob s n j1) n

/-- What ABORT does to a member in its state (Table 12.10). -/
def actAbort (s : State) (n : Nat) : State :=
  match jobAt s n with
  | none => s
  | some (_, j) =>
    match j.st with
    | .running => if j.launched then enterDiscard s n j else answerDiscarded s n j
    | .voted | .haltedIn => enterDiscard s n j
    | .haltedAt => if j.retries then s else answerDiscarded s n j
    | _ => s

/-- The decision ABORT at the root: sent down and acted on. -/
def decideAbort (s : State) (n : Nat) : State := actAbort (rootAbort s n) n

/-- A failure known on this member: forwarded to the parent, or decided by the root. -/
def passFail (s : State) (n cause fab site trap : Nat) : State :=
  match jobAt s n with
  | none => s
  | some (_, j) =>
    let j1 := noteFail j cause fab site trap
    if isRoot s j then (if decided j then s else decideAbort (setJob s n j1) n)
    else tellParent (setJob s n j1) j1

/-! ## The rows of a step -/

/-- Queues of a context that still hold work on some cluster. -/
def workQueued (s : State) (n : Nat) : Bool :=
  s.clusters.any (fun e =>
    let k := e.2
    k.mq.any (fun m => matCtx m == n) || k.batches.any (fun b => b.ctx == n) || k.drains.any (fun m => matCtx m == n) || k.sq.any (fun x => seqCtx x == n) ||
    k.dq.any (fun x => dmaCtx x == n) || k.fq.any (fun x => sendCtx x == n))

/-- PROPOSE_ENTER (R418): NEXT_VERSION computed, then the vote. -/
def execProposeEnter (ctx : Nat) (s : State) : Host.Outcome State Fault Refusal :=
  match jobAt s ctx with
  | none => .next s
  | some (c, j) =>
    if j.st ≠ .running ∨ j.launched = false ∨ stepCount s c j < j.proposeAt ∨ !(ctxGroups s ctx).isEmpty ∨ workQueued s ctx = true then .next s
    else
      let s1 := overRecs (proposeRec j.epoch) s j.shardTable j.shardRecs
      .next (tryVote (setJob s1 ctx { j with st := .voted }) ctx)

/-- VOTE_OK (R419): an OK for the next epoch, which a member still applying may receive, is kept for it. -/
def execVoteOk (ctx child epoch : Nat) (s : State) : Host.Outcome State Fault Refusal :=
  match jobAt s ctx with
  | none => .next s
  | some (_, j) =>
    if !(((ownRank s j).map (childrenOf j)).getD []).contains child then .next s
    else if epoch = j.epoch then .next (tryVote (setJob s ctx { j with childOk := j.childOk.filter (fun x => x != child) ++ [child] }) ctx)
    else if epoch = j.epoch + 1 ∧ j.st = .applying then .next (setJob s ctx { j with childOk := j.childOk ++ [child + 2 ^ 32] })
    else .next s

/-- VOTE_FAIL (R419). -/
def execVoteFail (ctx child epoch : Nat) (cause : Nat) (fabricId site trap : Nat) (s : State) : Host.Outcome State Fault Refusal :=
  match jobAt s ctx with
  | none => .next s
  | some (_, j) =>
    if epoch ≠ j.epoch ∨ !(((ownRank s j).map (childrenOf j)).getD []).contains child then .next s
    else .next (passFail s ctx cause fabricId site trap)

/-- PROPOSE_TIMEOUT (R419): FAIL with cause TIMEOUT, naming the first child that has not reported. -/
def execProposeTimeout (ctx : Nat) (s : State) : Host.Outcome State Fault Refusal :=
  match jobAt s ctx with
  | none => .next s
  | some (_, j) =>
    match (((ownRank s j).map (childrenOf j)).getD []).find? (fun r => !j.childOk.contains r) with
    | none => .next s
    | some r => if j.st ≠ .voted ∨ j.failed = true then .next s else .next (passFail s ctx 3 (memberFab s j r) 0 0)

/-- COMMIT_DECISION (R420, R421): kept, forwarded, acted on; one that answers a query of the partner is reported. -/
def execCommitDecision (ctx epoch : Nat) (snap : Option Nat) (s : State) : Host.Outcome State Fault Refusal :=
  match jobAt s ctx with
  | none => .next s
  | some (c, j) =>
    if epoch ≠ j.epoch ∨ j.st ≠ .voted ∨ j.votedUp = false ∨ isRoot s j = true then .next s
    else
      let s1 := match j.surv.rootPartner with
        | some p => if 3 < j.queries then postBoth s c.slot 0x0684 (epoch % 2 ^ 32) (rec8 [1, memberFab s j p]) else s
        | none => s
      let d : Decision := { epoch := epoch, commit := true, snap := snap }
      .next (setJob (tellChildren s1 j) ctx { j with st := .applying, decision := some d })

/-- ABORT_DECISION (R420). -/
def execAbortDecision (ctx epoch : Nat) (s : State) : Host.Outcome State Fault Refusal :=
  match jobAt s ctx with
  | none => .next s
  | some (c, j) =>
    if epoch ≠ j.epoch ∨ j.decision.any (fun d => d.epoch == epoch) = true ∨ isRoot s j = true then .next s
    else
      let s1 := match j.surv.rootPartner with
        | some p => if 3 < j.queries then postBoth s c.slot 0x0684 (epoch % 2 ^ 32) (rec8 [0, memberFab s j p]) else s
        | none => s
      let d : Decision := { epoch := epoch, commit := false, snap := none }
      .next (actAbort (setJob (tellChildren s1 j) ctx { j with decision := some d }) ctx)

/-- DECISION_TIMEOUT (R421): the first three queries go to the root, later ones to its partner. -/
def execDecisionTimeout (ctx : Nat) (s : State) : Host.Outcome State Fault Refusal :=
  match jobAt s ctx with
  | none => .next s
  | some (_, j) =>
    if j.st ≠ .voted ∨ j.votedUp = false ∨ isRoot s j = true ∨ decided j = true then .next s
    else
      let dest := if j.queries < 3 then 0 else j.surv.rootPartner.getD 0
      .next (setJob (tell (s.bump 0x0600000C 1) j dest) ctx { j with queries := j.queries + 1 })

/-- DECISION_QUERY (R421): the root answers with the decision it has; its partner with COMMIT when it holds the record, else it records ABORT. -/
def execDecisionQuery (ctx rank epoch : Nat) (s : State) : Host.Outcome State Fault Refusal :=
  match jobAt s ctx with
  | none => .next s
  | some (_, j) =>
    if isRoot s j then (if j.decision.any (fun d => d.epoch == epoch) then .next (tell s j rank) else .next s)
    else if j.surv.rootPartner = ownRank s j ∧ j.surv.rootPartner.isSome = true then
      (if j.partnerRec.contains (.commit, epoch) ∨ j.partnerAbort.contains epoch = true then .next (tell s j rank)
       else .next (setJob (tell s j rank) ctx { j with partnerAbort := j.partnerAbort ++ [epoch] }))
    else .next s

/-- APPLY of a step (R406, R418): records, the step object, the epoch, the snapshot that the decision orders, and the next launch. -/
def applyStep (s : State) (n : Nat) (c : Ctx) (j : Job) : State :=
  let s1 := resetObj (overRecs applyRec s j.shardTable j.shardRecs) c j.stepObj
  let s2 := s1.bump 0x06000001 1
  let snap := ((j.decision.filter (fun d => d.epoch == j.epoch)).bind (·.snap))
  let halt := j.haltHeld || j.surv.orderDetach
  let early := (j.childOk.filter (fun x => decide (2 ^ 32 ≤ x))).map (fun x => x - 2 ^ 32)
  let j1 := { freshStep j with epoch := j.epoch + 1, discards := 0, childOk := early, launched := false, st := if halt then .haltedAt else .running,
                               surv := { j.surv with stepsSince := j.surv.stepsSince + 1 } }
  let s3 := setJob s2 n { j1 with decision := j.decision }
  let s4 := match snap with
    | some x => beginSnap s3 n x j.epoch
    | none => if halt then s3 else launchStep s3 n
  ((s4.fabric.colls.filter (fun k => k.ctx == n && !k.started && k.flag 2)).map (fun k => (k.axes, k.number))).foldl (fun t x => collStart t n x.1 x.2) s4

/-- APPLY_COMPLETE (R422): it waits for the writing of the last snapshot (R437, step 5). -/
def execApplyComplete (ctx : Nat) (s : State) : Host.Outcome State Fault Refusal :=
  match jobAt s ctx with
  | none => .next s
  | some (c, j) => if j.st ≠ .applying ∨ (j.surv.taking ≠ 0 ∧ j.surv.phase < 3) then .next s else .next (applyStep s ctx c j)

/-! ## Discarding and running again (R424, R425, R482, Table 12.11) -/

/-- Messages of a context without their end. -/
def msgsOf (s : State) (n : Nat) : Bool := s.clusters.any (fun e => e.2.msgs.any (fun m => m.ctx == n))

/-- Actions 3 to 5, the event, and DISCARDED sent up; a third discard in a row leaves the member halted at the boundary. The cause is a free value
where this member has not been told it. -/
def discardDone (s : State) (n : Nat) (c : Ctx) (j : Job) : State :=
  let s1 := clearObjs (overRecs unproposeRec s j.shardTable j.shardRecs) n
  let k := j.discards + 1
  let cause := if j.failed then j.failCause else (Config.free32 s1.free).toNat
  let last := decide (3 ≤ k)
  let s2 := postBoth (s1.tick.bump 0x06000002 1) c.slot 0x0680 cause
    (rec8 [j.epoch, j.failFab, j.failSite, j.failTrap, if j.lostFlag then 1 else 0, k, if last then 1 else 0])
  let own := (ownRank s j).getD 0
  let j1 := { j with st := if last then .haltedAt else .waitRerun, retries := last, discards := k, childOk := [], votedUp := false, queries := 0,
                     discarded := j.discarded.filter (fun r => r != own) ++ [own], anyLost := j.anyLost || j.lostFlag }
  if isRoot s j then tryRerun (setJob s2 n j1) n else tellParent (setJob s2 n j1) j1

/-- DISCARD_COMPLETE (R424): every message of the context has ended (action 2). -/
def execDiscardComplete (ctx : Nat) (s : State) : Host.Outcome State Fault Refusal :=
  match jobAt s ctx with
  | none => .next s
  | some (c, j) => if j.st ≠ .discarding ∨ msgsOf s ctx = true then .next s else .next (discardDone s ctx c j)

/-- DISCARDED_REPORT (R425): gathered at the root, passed on by others. -/
def execDiscardedReport (ctx rank epoch : Nat) (lost : Bool) (s : State) : Host.Outcome State Fault Refusal :=
  match jobAt s ctx with
  | none => .next s
  | some (_, j) =>
    if epoch ≠ j.epoch ∨ jobSize j ≤ rank then .next s
    else if !isRoot s j then .next (tellParent s j)
    else .next (tryRerun (setJob s ctx { j with discarded := j.discarded.filter (fun r => r != rank) ++ [rank], anyLost := j.anyLost || lost }) ctx)

/-- RERUN (R422, R425): the key has moved when any member lost packets; a member knows its own, and another's is a free choice. -/
def execRerun (ctx epoch : Nat) (s : State) : Host.Outcome State Fault Refusal :=
  match jobAt s ctx with
  | none => .next s
  | some (_, j) =>
    if j.st ≠ .waitRerun ∨ epoch ≠ j.epoch ∨ isRoot s j = true then .next s
    else
      let s1 := if j.lostFlag || Config.freeBool s.free then rollKey s j.fpn else s
      .next (launchStep (tellChildren s1.tick j) ctx)

/-! ## Restoring (R447 to R449, Table 13.7) -/

/-- A context's messages and their completions given up: the key move leaves nothing that could acknowledge them. -/
def dropMsgs (s : State) (n : Nat) : State :=
  { s with clusters := s.clusters.map (fun (e : Nat × Cluster) => (e.1, { e.2 with msgs := e.2.msgs.filter (fun m => m.ctx != n), done := e.2.done.filter (fun d => d.ctx != n) })) }

/-- A range written from a landing set. -/
def restoreRange (m : Sparse Byte) (s : State) (x : Nat × Nat) : State :=
  if x.2 = 0 then s else storeMem s x.1 (Memory.load m x.1 x.2)

def restoreObj (n : Nat) (s : State) (x : Nat × Word32 × Word32) : State :=
  match (s.ctx? n).bind (fun c => c.vids[x.1]?) with
  | none => s
  | some k =>
    match s.obj? k with
    | none => s
    | some o => s.setObj k { o with value := x.2.1, base := x.2.2, mark := none, obs := [], cons := [] }

/-- Memory, objects and registrations as they stood before step `step + 1` launched. -/
def restoreData (s : State) (n : Nat) (p : Snap) : State :=
  let s1 := p.objs.foldl (restoreObj n) (p.ranges.foldl (restoreRange p.bytes) (clearObjs s n))
  match jobAt s1 n with
  | none => s1
  | some (_, j) => setJob s1 n { j with shardTable := p.shardTable, shardRecs := p.shardRecs, queues := p.queues, epoch := p.step + 1, launched := false,
                                        discards := 0, childOk := [], decision := none, awaiting := [], retries := false,
                                        surv := { j.surv with tensors := p.tensors, taking := 0, phase := 0, draft := none, lastSnap := p.epoch, lastStep := p.step,
                                                              stepsSince := 0, saved := some p } }

/-- LAUNCH (R422): the launch records with the epoch named; an epoch that the last committed snapshot or the exported checkpoint gives restores the member first (R447). At the root of a
job not yet launched it starts the first step. -/
def execLaunch (ctx epoch : Nat) (s : State) : Host.Outcome State Fault Refusal :=
  match jobAt s ctx with
  | none => .next s
  | some (_, j) =>
    if epoch = j.epoch then
      (if atBoundary j = false ∨ (j.surv.taking ≠ 0 ∧ j.surv.phase = 0) ∨ j.surv.useExport = true ∨ j.surv.relaunch.isSome = true then .next s
       else
        let roll := j.retries && !isRoot s j && (j.lostFlag || Config.freeBool s.free)
        let s1 := setJob (tellChildren (if roll then rollKey s.tick j.fpn else s.tick) j) ctx { j with discards := 0 }
        .next (launchStep s1 ctx))
    else if isRoot s j then .next s
    else
      match (j.surv.saved.toList ++ j.surv.exported.toList).find? (fun p => p.step + 1 == epoch) with
      | some p =>
        let s1 := rollKey (dropMsgs (stopContext s ctx) ctx) j.fpn
        .next (launchStep (tellChildren (restoreData s1 ctx p) j) ctx)
      | none => .next s

end Sys2Proof.Machine
end

