-- ==== Sys2Proof/Machine/FabCmd.lean ====
section
/-! DEFINITION. The fabric commands (R383, R384, Tables 11.14 and 11.15). -/

namespace Sys2Proof.Machine

open Sys2Proof

def linkInfo (s : State) (n : Nat) : List Byte :=
  [BitVec.ofNat 8 (linkCode (s.link n).st), if portLive s (portOfLink n) then 1 else 0, 0, 0] ++ leBytes 4 (s.link n).retrains

def cmdFabInfo : Cmd :=
  { code := 0x0500, fixed := 400, bad := noBad,
    run := fun s _ _ => .okWith s
      ((List.range 6).map (fun a => BitVec.ofNat 8 (axisLen s a)) ++ [if s.keep.sealed then 1 else 0] ++ zeros 9 ++ (List.range 48).flatMap (linkInfo s)) }

/-- FAB_LINK acts only where Table 11.2 has a transition for it; elsewhere it completes with the link's state code. -/
def cmdFabLink : Cmd :=
  { code := 0x0501, fixed := 0, bad := fun _ _ c => [(decide (47 < c.arg 0 1), 40), (decide (2 < c.arg 1 1), 41)],
    run := fun s r c => pf0Only s r (fun _ =>
      let n := c.arg 0 1
      let st := (s.link n).st
      let wrong : Ran := .notInState s (linkCode st)
      if c.arg 1 1 = 0 then
        (if st = .disabled ∧ 1 < axisLen s (axisOfPort (portOfLink n)) ∧ s.carrier.isolated.contains (24 + n % 8) = false then .ok (setLinkSt s n .detect) else wrong)
      else if c.arg 1 1 = 1 then .ok (leaveService s n .disabled false)
      else if st = .miswired then .ok (setLinkSt s n .detect)
      else wrong) }

def cmdFabRoute : Cmd :=
  { code := 0x0502, fixed := 0,
    bad := fun s _ c => [(decide (5 < c.arg 0 1), 40), (decide (axisLen s (c.arg 0 1) ≤ c.arg 1 1), 41), (decide (1 < c.arg 2 1), 42)],
    run := fun s r c => pf0Only s r (fun _ => .ok (if c.arg 2 1 = 1 then addDead s (c.arg 0 1, c.arg 1 1) else dropDead s (c.arg 0 1, c.arg 1 1))) }

/-- FAB_HALT from PF0, or from the VF whose slot is bound to the FPN. -/
def cmdFabHalt : Cmd :=
  { code := 0x0503, fixed := 1, bad := fun _ _ c => [(badFpn (c.arg 0 2), 40)],
    run := fun s r c =>
      let fpn := c.arg 0 2
      if r.fn != 0 && !(s.boundTo fpn).any (fun x => x.2.1.slot + 1 == r.fn) then .denied s dFUNCTION
      else
        let s1 := originateHalt s fpn 1
        .okWith s1 [BitVec.ofNat 8 (haltIdOf s1 fpn)] }

/-- The injection that Table 11.14 asks for. -/
def injectOf (c : OutCmd) : Option Inject :=
  if c.pay 1 1 = 0 then none
  else some { kind := c.pay 1 1, vcs := BitVec.ofNat 8 (c.pay 2 1), rate := c.pay 3 1, count := c.pay 4 4, delay := c.pay 8 4 }

/-- Injection is open to PF0 except in FIELD and SCRAPPED (Table 14.11). -/
def cmdFabInject : Cmd :=
  { code := 0x0504, fixed := 0,
    bad := fun _ _ c =>
      let kind := c.pay 1 1
      [(c.payloadLen != 16, 8), (decide (47 < c.pay 0 1), 64), (decide (4 < kind), 65), (decide (127 < c.pay 2 1) || (kind != 0 && c.pay 2 1 == 0), 66),
       (decide (24 < c.pay 3 1), 67), ((kind == 4 && (decide (c.pay 8 4 < 10) || decide (1000000 < c.pay 8 4))) || (kind != 4 && c.pay 8 4 != 0), 72)] ++
      (List.range 4).map (fun j => (byteAt c.payload (12 + j) != 0, 76 + j)),
    run := fun s r c => pf0Only s r (fun _ =>
      if s.keep.lc = 2 ∨ s.keep.lc = 5 ∨ s.keep.lc = 7 then .denied s dLIFE_CYCLE
      else .ok (s.setLink (c.pay 0 1) { s.link (c.pay 0 1) with inject := injectOf c })) }

def cmdFabCfg : Cmd :=
  { code := 0x0505, fixed := 0,
    bad := fun _ _ c => [(c.arg 0 4 != 0 && (decide (c.arg 0 4 < 10) || decide (100000 < c.arg 0 4)), 40), (decide (2 < c.arg 4 1), 44)],
    run := fun s r c => pf0Only s r (fun _ =>
      .ok (s.setFabric { s.fabric with
        ackUs := if c.arg 0 4 = 0 then s.fabric.ackUs else c.arg 0 4,
        adaptive := if c.arg 4 1 = 0 then s.fabric.adaptive else c.arg 4 1 == 1 })) }

def execFabInfo (r : RingId) (tag : BitVec 16) (s : State) : Host.Outcome State Fault Refusal := runCmd cmdFabInfo r tag s
def execFabLink (r : RingId) (tag : BitVec 16) (s : State) : Host.Outcome State Fault Refusal := runCmd cmdFabLink r tag s
def execFabRoute (r : RingId) (tag : BitVec 16) (s : State) : Host.Outcome State Fault Refusal := runCmd cmdFabRoute r tag s
def execFabHalt (r : RingId) (tag : BitVec 16) (s : State) : Host.Outcome State Fault Refusal := runCmd cmdFabHalt r tag s
def execFabInject (r : RingId) (tag : BitVec 16) (s : State) : Host.Outcome State Fault Refusal := runCmd cmdFabInject r tag s
def execFabCfg (r : RingId) (tag : BitVec 16) (s : State) : Host.Outcome State Fault Refusal := runCmd cmdFabCfg r tag s

end Sys2Proof.Machine
end

