-- ==== Sys2Proof/Machine/JobCmd.lean ====
section
/-! DEFINITION. The mapping and step commands (R393, R394, R404, R412 to R416, R423, R427 to R429, Tables 12.1, 12.7 and 12.13 to 12.15) and the re-shard rows. -/

namespace Sys2Proof.Machine

open Sys2Proof

/-- A command on a bound context; an unbound one is LOADED, code 1 (R392). -/
def withJob (s : State) (r : RingId) (c : OutCmd) (f : Ctx → Job → Ran) : Ran :=
  withCtx s r c (fun x => match x.job with
    | some j => f x j
    | none => .notInState s 1)

/-- A command that acts at the commit root only. -/
def withRoot (s : State) (r : RingId) (c : OutCmd) (f : Ctx → Job → Ran) : Ran :=
  withJob s r c (fun x j => if isRoot s j then f x j else .notInState s (stepCode j.st))

/-! ## JOB_BIND and JOB_UNBIND -/

def Survival.fresh : Survival :=
  { threshold := 24576, maxSteps := 10, k := 6, m := 2, axis := 7, k4 := false, mirrorMiB := 1024, nextSnap := 1, taking := 0, takingStep := 0, phase := 0,
    okFrom := [], lastSnap := 0, lastStep := 0, trigger := 0, stepsSince := 0, orderNow := false, orderRisk := false, orderDetach := false, riskSent := false,
    tensors := [], landing := 0, partner := none, rootPartner := none, correlated := false, age := 0, lost := [], spares := [], subst := [], report := [],
    saved := none, draft := none, exported := none, useExport := false, relaunch := none }

def Reshard.fresh : Reshard := { st := .idle, number := 0, moves := 0, nMoves := 0, newTable := 0, newRecs := 0, moved := 0, copiedBy := [], asked := false }

/-- Members that may serve as the partner of rank `r`, in the order of R443. -/
def partnerOrder (j : Job) (r : Nat) : List Nat :=
  let c := rankCoord j r
  [4, 3, 5, 1, 0, 2].flatMap (fun a =>
    let e := j.extent.getD a 1
    (List.range (e - 1)).map (fun k => rankOf j (c.set a ((c.getD a 0 + k + 1) % e))))

/-- Feed identifiers of this module as a set that is known (R443). -/
def feedsKnown (s : State) : Bool := s.carrier.feedA != 0 && s.carrier.feedB != 0

/-- The partner of a rank. The feed sets of other modules are theirs, so which candidate is the first with a disjoint set, if any, is a free choice. -/
def choosePartner (s : State) (xs : List Nat) : Option Nat := xs[Config.freeNat s.free % (xs.length + 1)]?

/-- The maps of R443 settled for a job. -/
def settlePartners (s : State) (j : Job) : State × Job :=
  let r := (ownRank s j).getD 0
  let own := if feedsKnown s then choosePartner s (partnerOrder j r) else none
  let root := if r = 0 then own else choosePartner s.tick (partnerOrder j 0)
  (s.tick.tick, { j with surv := { j.surv with partner := own, rootPartner := root, correlated := own.isNone && decide (1 < jobSize j) } })

/-- The job of a JOB_BIND payload (Table 12.1). -/
def parseJob (p : List Byte) : Job :=
  let ms (o d : Nat) : Nat := if field p o 4 = 0 then d else field p o 4
  { fpn := field p 0 2, pipeV := field p 2 1, pipeW := field p 3 1, origin := (List.range 6).map (fun a => field p (4 + a) 1),
    extent := (List.range 6).map (fun a => field p (10 + a) 1), stepFirst := field p 16 8, stepObj := field p 24 2, reduceAt := field p 26 2,
    proposeAt := field p 28 2, proposeMs := ms 32 60000, decisionMs := ms 36 1000,
    causes := ((List.range 4).map (fun i => (field p (40 + 4 * i) 2, field p (42 + 4 * i) 1))).filter (fun x => x.1 != 0xFFFF),
    launches := (List.range (field p 30 2)).map (fun i => (field p (64 + 8 * i) 2, field p (66 + 8 * i) 2, field p (68 + 8 * i) 1)),
    epoch := field p 16 8, st := .running, launched := false, discards := 0, childOk := [], failed := false, failCause := 0, failFab := 0, failSite := 0,
    failTrap := 0, votedUp := false, decision := none, awaiting := [], partnerRec := [], partnerAbort := [], queries := 0, lostFlag := false, anyLost := false,
    discarded := [], haltHeld := false, retries := false, shardTable := 0, shardRecs := 0, queues := [], reshard := Reshard.fresh, surv := Survival.fresh }

/-- What the journal of an earlier binding of the FPN gives a new one: the decision and the partner's records, a re-shard cut short, and the committed
snapshot of this module's landing sets (R420, R428, R437). -/
def resumeJournal (s : State) (j : Job) : Job :=
  match Sparse.find? s.journals j.fpn with
  | none => j
  | some o =>
    let broken := o.reshard.st = .copying ∨ o.reshard.st = .copied ∨ o.reshard.st = .incomplete
    let rs := { o.reshard with st := if broken then .incomplete else .idle }
    let v : Survival := { j.surv with saved := o.surv.saved, lastSnap := o.surv.lastSnap, lastStep := o.surv.lastStep }
    { j with decision := o.decision, partnerRec := o.partnerRec, partnerAbort := o.partnerAbort, reshard := rs, surv := v,
             shardTable := if o.reshard.st = .committed then o.reshard.newTable else 0, shardRecs := if o.reshard.st = .committed then o.reshard.newRecs else 0 }

def badCause (s : State) (c : OutCmd) (i : Nat) : List (Bool × Nat) :=
  let v := c.pay (40 + 4 * i) 2
  let k := c.pay (42 + 4 * i) 1
  [(v != 0xFFFF && (s.ctx? c.context).any (fun x => decide (x.syncObjects ≤ v)), 104 + 4 * i), (v != 0xFFFF && (decide (k < 3) || decide (5 < k)), 106 + 4 * i),
   (c.pay (43 + 4 * i) 1 != 0, 107 + 4 * i)]

def badLaunch (s : State) (c : OutCmd) (i : Nat) : List (Bool × Nat) :=
  let o := 64 + 8 * i
  [(decide (639 < c.pay o 2), 64 + o), ((s.ctx? c.context).any (fun x => decide (x.entries.length ≤ c.pay (o + 2) 2)), 66 + o),
   (decide (c.pay (o + 4) 1 < 1) || decide (16 < c.pay (o + 4) 1), 68 + o), (c.pay (o + 5) 3 != 0, 69 + o)]

/-- Whether the box holds this module. -/
def inBox (s : State) (p : List Byte) : Bool := (ownRank s (parseJob p)).isSome

def badBind (s : State) (_ : RingId) (c : OutCmd) : List (Bool × Nat) :=
  let n := c.pay 30 2
  [(noCtx s c, 32), (decide (c.payloadLen < 72) || (!c.payload.isEmpty && c.payloadLen != 64 + 8 * n), 8),
   (decide (c.pay 2 1 < 1) || decide (16 < c.pay 2 1), 66), (decide (c.pay 3 1 < 1) || decide (64 < c.pay 3 1), 67)] ++
  (List.range 6).map (fun a => (decide (axisLen s a ≤ c.pay (4 + a) 1), 68 + a)) ++
  (List.range 6).map (fun a => (decide (c.pay (10 + a) 1 < 1) || decide (axisLen s a < c.pay (10 + a) 1), 74 + a)) ++
  [(!inBox s c.payload, 68), ((s.ctx? c.context).any (fun x => decide (x.syncObjects ≤ c.pay 24 2)), 88), (decide (c.pay 28 2 < c.pay 26 2), 90),
   (c.pay 28 2 == 0, 92), (decide (n < 1) || decide (64 < n), 94), (decide (600000 < c.pay 32 4), 96), (decide (60000 < c.pay 36 4), 100)] ++
  (List.range 4).flatMap (badCause s c) ++ (List.range 8).map (fun i => (byteAt c.payload (56 + i) != 0, 120 + i)) ++
  (List.range (Nat.min n 64)).flatMap (badLaunch s c)

/-- Free scratchpad of the slot's belfry clusters (R404). -/
def stagingFree (s : State) (slot : Nat) : Nat :=
  let cs := (slotClusters slot).filter (fun c => decide (576 ≤ c))
  spBytes * cs.length - (cs.map (fun k => (s.ctxs.map (fun e => mappedBytes e.2 k)).sum)).sum

/-- Certificates of every member that verify, each a free choice but this module's own (R462). -/
def learnCerts (s : State) (fabs : List Nat) : State :=
  let ok := fabs.zipIdx.filter (fun e => e.1 == s.lantern.fabricId || Config.freeBool (s.free + e.2))
  let new := (ok.map (fun e => e.1)).filter (fun f => !s.keep.certs.contains f)
  let s1 := s.setKeep { s.keep with certs := s.keep.certs ++ new }
  { s1 with free := s1.free + fabs.length }

def bindJob (s : State) (n : Nat) (p : List Byte) : State :=
  let j0 := resumeJournal s (parseJob p)
  let s1 := s.setFabric { s.fabric with haltId := Sparse.del s.fabric.haltId j0.fpn }
  let s2 := learnCerts s1 ((List.range (jobSize j0)).map (memberFab s1 j0))
  let (s3, j) := settlePartners s2 j0
  let s4 := match s3.ctx? n with
    | some c => s3.setCtx n { c with collCount := [] }
    | none => s3
  overRecs (registerRec j.epoch) (setJob s4 n j) j.shardTable j.shardRecs

def cmdJobBind : Cmd :=
  { code := 0x0600, fixed := 0, bad := badBind,
    run := fun s r c => withCtx s r c (fun x =>
      let fpn := c.pay 0 2
      if x.job.isSome then .notInState s 2
      else if shareOf fpn ≠ x.slot ∨ s.ctxs.any (fun e => e.2.slot == x.slot && e.2.job.isSome) = true then .notInState s 1
      else if [0, 1].any (fun i => (Sparse.find? s.keep.linkKeys (keyIndex fpn i)).isNone) then .notInState s 1
      else if stagingFree s x.slot < 0x80_0000 then .resource s 11
      else .ok (bindJob s c.context c.payload)) }

/-- The binding removed, its landing sets with it. -/
def unbind (s : State) (n : Nat) (c : Ctx) : State :=
  let s1 := s.setCtx n { c with job := none }
  s1.setFabric { s1.fabric with colls := s1.fabric.colls.filter (fun k => k.ctx != n) }

def cmdJobUnbind : Cmd :=
  { code := 0x0601, fixed := 0, bad := badCtx,
    run := fun s r c => withJob s r c (fun x j => if atBoundary j then .ok (unbind s c.context x) else .notInState s (stepCode j.st)) }

/-! ## STEP_STATUS and STEP_RESUME (R422, R423) -/

/-- The phase field has no codes in the spec: a free value. -/
def cmdStepStatus : Cmd :=
  { code := 0x0602, fixed := 32, bad := badCtx,
    run := fun s r c => withJob s r c (fun x j =>
      .okWith s.tick ([BitVec.ofNat 8 (stepCode j.st), Config.freeByte s.free] ++ zeros 2 ++ leBytes 4 j.discards ++ leBytes 8 j.epoch ++
        leBytes 4 (stepCount s x j) ++ zeros 12)) }

/-- CONTINUE: groups that the halt wave holds are resumed, and the other members told. -/
def continueStep (s : State) (n : Nat) (j : Job) : State :=
  let gs := (ctxGroups s n).filter (fun g => (s.group? g).any (fun x => x.st == .held && x.lastTrap == tHALT_WAVE))
  gs.foldl resumeGroup (setJob (tellChildren s j) n { j with st := .running })

/-- LAUNCH from the root; a launch that must wait for the boundary copy follows it. -/
def resumeLaunch (s : State) (n : Nat) (j : Job) : State :=
  let j1 := { j with discards := 0, haltHeld := false, surv := { j.surv with orderDetach := false } }
  if j.surv.taking ≠ 0 ∧ j.surv.phase = 0 then setJob (tellChildren s j) n { j1 with st := .running, launched := false }
  else launchStep (setJob (tellChildren s j) n j1) n

def cmdStepResume : Cmd :=
  { code := 0x0603, fixed := 0, bad := fun s _ c => [(noCtx s c, 32), (decide (2 < c.arg 0 1), 40)],
    run := fun s r c => withRoot s r c (fun _ j =>
      let o := c.arg 0 1
      if j.st = .haltedIn ∧ o = 0 ∧ j.failed = false then .ok (continueStep s c.context j)
      else if j.st = .haltedIn ∧ o = 1 then .ok (decideAbort (setJob s c.context (noteFail j 4 s.lantern.fabricId 0 0)) c.context)
      else if j.st = .haltedAt ∧ o = 2 ∧ j.surv.useExport = false ∧ j.surv.relaunch.isNone = true then .ok (resumeLaunch s c.context j)
      else .notInState s (stepCode j.st)) }

/-! ## SHARD_REG (R405, R406) -/

/-- A table of `n` records that the context may write, whose live buffers it may read. -/
def tableOk (s : State) (ctx : Nat) (x : Ctx) (table n : Nat) : Bool :=
  mayAccess ctx x true table (48 * n) &&
  (List.range n).all (fun i =>
    let a := recAt table i
    shardBytes s a == 0 || (mayAccess ctx x false (shardBuf s a 0) (shardBytes s a) && mayAccess ctx x false (shardBuf s a 1) (shardBytes s a)))

def cmdShardReg : Cmd :=
  { code := 0x0604, fixed := 0,
    bad := fun s _ c =>
      let n := c.arg 8 4
      [(noCtx s c, 32), ((s.ctx? c.context).any (fun x => decide (n ≤ 65536) && !tableOk s c.context x (c.arg 0 8) n), 40), (decide (n < 1) || decide (65536 < n), 48)],
    run := fun s r c => withJob s r c (fun _ j =>
      if !atBoundary j then .notInState s (stepCode j.st)
      else .ok (setJob (overRecs (registerRec j.epoch) s (c.arg 0 8) (c.arg 8 4)) c.context { j with shardTable := c.arg 0 8, shardRecs := c.arg 8 4 })) }

/-! ## PIPE_REG and PIPE_STATUS (R412, R414, R416) -/

def parseQueue (p : List Byte) : StageQueue :=
  { role := field p 0 1, dir := field p 1 1, qid := field p 2 2, depth := field p 4 4, base := field p 8 8, slotBytes := field p 16 4, creditVid := field p 20 2,
    arriveVid := field p 22 2, input := 0, credit := 0, other := 0 }

def jobOf (s : State) (c : OutCmd) : Option Job := (s.ctx? c.context).bind (·.job)

def cmdPipeReg : Cmd :=
  { code := 0x0605, fixed := 0,
    bad := fun s _ c =>
      let q := parseQueue c.payload
      let out (v : Nat) : Bool := (s.ctx? c.context).any (fun x => decide (x.syncObjects ≤ v))
      [(noCtx s c, 32), (c.payloadLen != 32, 8), (decide (1 < q.role), 64), (decide (1 < q.dir), 65),
       (decide (63 < q.qid) || (jobOf s c).any (fun j => j.queues.any (fun o => o.qid == q.qid && o.role == q.role)), 66),
       (decide (q.depth < 1) || decide (1024 < q.depth) || (jobOf s c).any (fun j => decide (q.depth < (if q.dir = 0 then j.pipeV * j.pipeW else j.pipeW))), 68),
       (q.base % 64 != 0, 72), (q.slotBytes % 64 != 0, 80), (q.role == 0 && out q.creditVid, 84), (q.role == 1 && out q.arriveVid, 86)] ++
      (List.range 8).map (fun i => (byteAt c.payload (24 + i) != 0, 88 + i)),
    run := fun s r c => withJob s r c (fun _ j => .ok (setJob s c.context { j with queues := j.queues ++ [parseQueue c.payload] })) }

/-- Free credits: the credit object's value on the producer; a consumer has no such object and reports a free value. -/
def queueCredits (s : State) (x : Ctx) (q : StageQueue) : Nat :=
  if q.role = 0 then ((ctxObj s x q.creditVid).map (fun o => o.value.toNat)).getD 0 else (Config.free32 s.free).toNat

def cmdPipeStatus : Cmd :=
  { code := 0x0606, fixed := 32,
    bad := fun s _ c => [(noCtx s c, 32), ((jobOf s c).any (fun j => !j.queues.any (fun q => q.qid == c.arg 0 2)), 40)],
    run := fun s r c => withJob s r c (fun x j =>
      match j.queues.find? (fun q => q.qid == c.arg 0 2) with
      | none => .badArg s 40
      | some q => .okWith s.tick (leBytes 8 q.input ++ leBytes 8 q.credit ++ leBytes 8 q.other ++ leBytes 4 (queueCredits s x q) ++ zeros 4)) }

/-! ## Re-sharding (R427, R428, Tables 12.13 and 12.14) -/

/-- RESHARD_INCOMPLETE posted once; the codes of the state reached and of the cause are free values. -/
def reportIncomplete (s : State) (n : Nat) (c : Ctx) (j : Job) : State :=
  if j.reshard.st ≠ .incomplete then s
  else
    let s1 := postBoth s c.slot 0x0682 j.reshard.number (rec8 [(Config.free64 s.free).toNat, (Config.free64 (s.free + 1)).toNat])
    setJob s1.tick.tick n { j with reshard := { j.reshard with st := .idle } }

/-- The key that marks the messages of a re-shard. -/
def reshardKey (number : Nat) : Nat := collKey reshardAxes number

/-- Bytes of a table's buffers. -/
def bufRanges (s : State) (table recs : Nat) : List (Nat × Nat) :=
  (List.range recs).flatMap (fun i => let a := recAt table i; [(shardBuf s a 0, shardBytes s a), (shardBuf s a 1, shardBytes s a)])

def movesOf (s : State) (a n : Nat) : List Move := (List.range n).map (moveAt s a)

/-- A bad moves table, or a bad new table: unmapped, or over a buffer of the old one. -/
def badReshard (s : State) (c : OutCmd) : List (Bool × Nat) :=
  let mt := c.arg 0 8
  let nm := c.arg 8 4
  let nt := c.arg 12 8
  let nr := c.arg 20 4
  match s.ctx? c.context with
  | none => []
  | some x =>
    match x.job with
    | none => []
    | some j =>
      let old := bufRanges s j.shardTable j.shardRecs
      [(nm != 0 && (!mayAccess c.context x false mt (32 * nm) || !(movesOf s mt nm).all (moveOk s c.context x j)), 40),
       (!tableOk s c.context x nt nr || (bufRanges s nt nr).any (fun a => old.any (fun b => a.2 != 0 && b.2 != 0 && meets a.1 a.2 b.1 b.2)), 52)]

/-- The journal written, the other members told, and this member's moves under way. -/
def startReshard (s : State) (n : Nat) (c : Ctx) (j : Job) (o : OutCmd) : State :=
  let num := j.reshard.number + 1
  let ms := movesOf s (o.arg 0 8) (o.arg 8 4)
  let rs : Reshard := { st := .copying, number := num, moves := o.arg 0 8, nMoves := o.arg 8 4, newTable := o.arg 12 8, newRecs := o.arg 20 4,
                        moved := (ms.map (·.bytes)).sum, copiedBy := [], asked := false }
  let s1 := (setJob (tellChildren s j) n { j with reshard := rs, lostFlag := false }).bump 0x0600000D rs.moved
  ms.zipIdx.foldl (fun t e => doMove t c.slot n j num (reshardKey num) e.2 e.1) s1

def cmdReshardStart : Cmd :=
  { code := 0x0607, fixed := 4, bad := fun s _ c => (noCtx s c, 32) :: badReshard s c,
    run := fun s r c => withRoot s r c (fun x j =>
      let st := j.reshard.st
      if !atBoundary j ∨ st = .copying ∨ st = .copied ∨ st = .committed then .notInState s (stepCode j.st)
      else
        let s1 := reportIncomplete s c.context x j
        .okWith (startReshard s1 c.context x j c) (leBytes 4 (j.reshard.number + 1))) }

/-- State, number and bytes moved; the state's code is a free value. -/
def cmdReshardStatus : Cmd :=
  { code := 0x0608, fixed := 16, bad := badCtx,
    run := fun s r c => withJob s r c (fun x j =>
      .okWith (reportIncomplete s.tick c.context x j) ([Config.freeByte s.free] ++ zeros 3 ++ leBytes 4 j.reshard.number ++ leBytes 8 j.reshard.moved)) }

def cmdReshardAbort : Cmd :=
  { code := 0x0609, fixed := 0, bad := badCtx,
    run := fun s r c => withJob s r c (fun _ j =>
      if j.reshard.st = .copying then .ok (setJob (if isRoot s j then tellChildren s j else s) c.context (breakReshard j)) else .notInStateFree s) }

/-- At the root: COPIED from every member, so COMMITTED is recorded, with the partner first. -/
def registerNew (s : State) (n : Nat) : State :=
  match jobAt s n with
  | none => s
  | some (_, j) =>
    let x := j.reshard
    let s1 := overRecs (registerRec j.epoch) s x.newTable x.newRecs
    setJob (tellChildren s1 j) n { j with shardTable := x.newTable, shardRecs := x.newRecs, reshard := { x with st := .done },
                                          awaiting := j.awaiting.filter (fun k => k != .reshardCommitted) }

def tryCommitted (s : State) (n : Nat) : State :=
  match jobAt s n with
  | none => s
  | some (_, j) =>
    if !isRoot s j || j.reshard.st != .copied || j.awaiting.contains .reshardCommitted || !(List.range (jobSize j)).all (fun r => j.reshard.copiedBy.contains r) then s
    else
      match j.surv.partner with
      | some p => setJob (tell s j p) n { j with awaiting := j.awaiting ++ [.reshardCommitted] }
      | none => registerNew s n

/-- COPIED of a rank at the root, or passed on. -/
def noteCopied (s : State) (n rank : Nat) : State :=
  match jobAt s n with
  | none => s
  | some (_, j) =>
    if !isRoot s j then tellParent s j
    else
      let x := j.reshard
      tryCommitted (setJob s n { j with reshard := { x with copiedBy := x.copiedBy.filter (fun r => r != rank) ++ [rank] } }) n

/-- RESHARD_COPIED (R427): every outgoing move has ended; one that was lost leaves the re-shard INCOMPLETE. -/
def execReshardCopied (ctx : Nat) (s : State) : Host.Outcome State Fault Refusal :=
  match jobAt s ctx with
  | none => .next s
  | some (c, j) =>
    let key := reshardKey j.reshard.number
    if j.reshard.st ≠ .copying ∨ (s.cluster (svcCluster c.slot)).msgs.any (fun m => m.ctx == ctx && m.txn == 9 && m.laddr == key) = true then .next s
    else if j.lostFlag then .next (setJob s ctx (breakReshard j))
    else .next (noteCopied (setJob s ctx { j with reshard := { j.reshard with st := .copied } }) ctx ((ownRank s j).getD 0))

/-- COPIED (R427). -/
def execCopied (ctx rank : Nat) (s : State) : Host.Outcome State Fault Refusal := .next (noteCopied s ctx rank)

/-- RESHARD_COMMITTED (R427): the new table is registered, and the old buffers belong to software. -/
def execReshardCommitted (ctx : Nat) (s : State) : Host.Outcome State Fault Refusal :=
  match jobAt s ctx with
  | none => .next s
  | some (_, j) => if j.reshard.st ≠ .copied ∨ isRoot s j = true then .next s else .next (registerNew s ctx)

/-! ## Rows -/

def execJobBind (r : RingId) (tag : BitVec 16) (s : State) : Host.Outcome State Fault Refusal := runCmd cmdJobBind r tag s
def execJobUnbind (r : RingId) (tag : BitVec 16) (s : State) : Host.Outcome State Fault Refusal := runCmd cmdJobUnbind r tag s
def execStepStatus (r : RingId) (tag : BitVec 16) (s : State) : Host.Outcome State Fault Refusal := runCmd cmdStepStatus r tag s
def execStepResume (r : RingId) (tag : BitVec 16) (s : State) : Host.Outcome State Fault Refusal := runCmd cmdStepResume r tag s
def execShardReg (r : RingId) (tag : BitVec 16) (s : State) : Host.Outcome State Fault Refusal := runCmd cmdShardReg r tag s
def execPipeReg (r : RingId) (tag : BitVec 16) (s : State) : Host.Outcome State Fault Refusal := runCmd cmdPipeReg r tag s
def execPipeStatus (r : RingId) (tag : BitVec 16) (s : State) : Host.Outcome State Fault Refusal := runCmd cmdPipeStatus r tag s
def execReshardStart (r : RingId) (tag : BitVec 16) (s : State) : Host.Outcome State Fault Refusal := runCmd cmdReshardStart r tag s
def execReshardStatus (r : RingId) (tag : BitVec 16) (s : State) : Host.Outcome State Fault Refusal := runCmd cmdReshardStatus r tag s
def execReshardAbort (r : RingId) (tag : BitVec 16) (s : State) : Host.Outcome State Fault Refusal := runCmd cmdReshardAbort r tag s

end Sys2Proof.Machine
end

