-- ==== Sys2Proof/Machine/Snap.lean ====
section
/-! DEFINITION. Snapshots (R433 to R445, Tables 13.1 to 13.6): the risk estimate, registration, landing sets, the manifest, and the journal rows that record
decisions with a partner (R420, R421). -/

namespace Sys2Proof.Machine

open Sys2Proof

/-! ## The risk estimate (R433, R434) -/

/-- Decaying counts are kept in 1/65,536: the largest factor whose `h`-th power, in that unit, is at most one half. -/
def decayFactor (h : Nat) : Nat :=
  ((List.range 17).reverse.map (fun i => 2 ^ i)).foldl (fun f b => if 2 * (f + b) ^ h ≤ 65536 ^ h then f + b else f) 0

def decayed (h x : Nat) : Nat := x * decayFactor h / 65536

def capped (cap x : Nat) : Nat := Nat.min cap x

/-- Degrees of the hottest stack above 85 °C at its last reading. -/
def stackExcess (s : State) : Nat := (List.range 48).foldl (fun a k => Nat.max a ((s.stack k).temp - 85).toNat) 0

/-- The six inputs of Table 13.1. -/
def riskInputs (s : State) : List Nat :=
  let r := s.risk
  [capped 16384 (16 * r.memErr / 65536), capped 16384 ((1024 * r.linkEv + 4 * r.replays) / 65536), capped 16384 (2048 * r.droops / 65536),
   capped 10240 (512 * stackExcess s), capped 16384 (8192 * r.neigh / 65536), capped 16384 (8 * r.snapAge)]

/-- A RISK report to the root, once until a snapshot commits (Table 13.2). -/
def riskReportOut (s : State) (n : Nat) : State :=
  match jobAt s n with
  | none => s
  | some (_, j) =>
    if j.surv.riskSent ∨ s.risk.value < j.surv.threshold then s
    else
      let s1 := s.bump 0x07000006 1
      if isRoot s j then setJob s1 n { j with surv := { j.surv with riskSent := true, orderRisk := true } }
      else setJob (tell s1 j 0) n { j with surv := { j.surv with riskSent := true } }

def boundCtxs (s : State) : List Nat := s.ctxs.filterMap (fun e => if e.2.job.isSome then some e.1 else none)

def olderJob (s : State) (n : Nat) : State :=
  match jobAt s n with
  | some (_, j) => setJob s n { j with surv := { j.surv with age := j.surv.age + 1 } }
  | none => s

/-- Ages of the bound jobs' last committed snapshots, a job that has none counting from its binding. -/
def oldestSnap (s : State) : Nat := (s.ctxs.filterMap (fun e => e.2.job.map (fun j => j.surv.age))).foldl Nat.max 0

/-- RISK_UPDATE (R433). -/
def execRiskUpdate (s : State) : Host.Outcome State Fault Refusal :=
  let s1 := (boundCtxs s).foldl olderJob s
  let r := s1.risk
  let h := r.halfLife
  let r1 : Risk := { r with memErr := decayed h r.memErr, linkEv := decayed h r.linkEv, replays := decayed h r.replays, droops := decayed h r.droops,
                            neigh := decayed h r.neigh, snapAge := oldestSnap s1 }
  let s2 := { s1 with risk := r1 }
  let s3 := { s2 with risk := { r1 with value := capped 65535 (riskInputs s2).sum } }
  .next ((boundCtxs s3).foldl riskReportOut s3)

/-- RISK_REPORT (R436). -/
def execRiskReport (ctx rank risk : Nat) (s : State) : Host.Outcome State Fault Refusal :=
  match jobAt s ctx with
  | none => .next s
  | some (_, j) =>
    if !isRoot s j || decide (jobSize j ≤ rank) || decide (risk < j.surv.threshold) then .next s
    else .next (setJob s ctx { j with surv := { j.surv with orderRisk := true } })

/-! ## Landing sets (R296, R298, R439) -/

def landUnit : Nat := 0x400_0000

/-- Units of the reserve block that lantern data and shared duplicates leave. -/
def landCapacity (s : State) : Nat :=
  let shared := (List.range (slotCount s.part.order)).filter (fun k => s.mem.slot k == .far 6)
  48 * ((resPiece s.part.order - 0x1000_0000) / landUnit) - 48 * 16 * shared.length

def landUsed (s : State) : Nat := (s.ctxs.map (fun e => (e.2.job.map (fun j => j.surv.landing)).getD 0)).sum

/-- Units of a member's two local landing sets. -/
def landUnits (ts : List Tensor) : Nat := 2 * (((ts.map (fun t => t.bytes)).sum + landUnit - 1) / landUnit)

/-! ## Registration (R440, R442, R443, Table 13.4) -/

/-- The stripe axis: the one set, or the largest extent that holds a stripe group, the lowest on a tie. -/
def stripeAxis (j : Job) : Option Nat :=
  let v := j.surv
  let fits (a : Nat) : Bool := decide (v.k + v.m ≤ j.extent.getD a 1)
  if v.axis < 6 then (if fits v.axis then some v.axis else none)
  else
    (List.range 6).foldl (fun (b : Option Nat) a =>
      if !fits a then b
      else match b with
        | some x => if j.extent.getD x 1 < j.extent.getD a 1 then some a else b
        | none => some a) none

def fFROZEN : Nat := 1
def fBOUNDARY : Nat := 2
def fCORRELATED : Nat := 4
def fUNPROTECTED : Nat := 8

/-- Method and flags of a tensor, and whether a CORRELATED member moved it or left it unprotected. -/
def assignMethod (s : State) (j : Job) (method flags bytes shard : Nat) : Nat × Nat × Bool :=
  let frozen := flags % 2 == 1
  let dual := flags / 2 % 2 == 1
  let mirror := method == 1 || (method == 0 && !frozen && decide (bytes ≤ 0x10_0000 * j.surv.mirrorMiB))
  let base := b2n frozen fFROZEN + b2n (!frozen && decide (j.shardRecs ≤ shard)) fBOUNDARY
  if jobSize j = 1 then (1, base + fUNPROTECTED, false)
  else if mirror && !j.surv.correlated then (1, base, false)
  else if mirror then
    match stripeAxis j with
    | none => (1, base + fCORRELATED + fUNPROTECTED, true)
    | some _ => if Config.freeBool s.free then (2, base + fCORRELATED, true) else (2, base + fCORRELATED + fUNPROTECTED, true)
  else
    match stripeAxis j with
    | none => (1, base + fUNPROTECTED, false)
    | some _ => (if dual then 3 else 2, base, false)

def cmdSnapTensorReg : Cmd :=
  { code := 0x0701, fixed := 2,
    bad := fun s _ c =>
      let p := c.payload
      let j := jobOf s c
      [(noCtx s c, 32), (c.payloadLen != 32, 8), (field p 0 4 == 0xFFFF_FFFF || j.any (fun x => x.surv.tensors.any (fun t => t.id == field p 0 4)), 64),
       (decide (2 < field p 4 1), 68), (decide (3 < field p 5 1), 69), (byteAt p 6 != 0, 70), (byteAt p 7 != 0, 71),
       (field p 8 8 % 64 != 0 || (s.ctx? c.context).any (fun x => field p 16 8 != 0 && !mayAccess c.context x false (field p 8 8) (field p 16 8)), 72),
       (field p 16 8 % 64 != 0 || field p 16 8 == 0, 80), (field p 24 4 != 0xFFFF_FFFF && j.any (fun x => decide (x.shardRecs ≤ field p 24 4)), 88),
       (field p 28 4 != 0, 92)],
    run := fun s r c => withJob s r c (fun x j =>
      let p := c.payload
      let (m, fl, moved) := assignMethod s j (field p 4 1) (field p 5 1) (field p 16 8) (field p 24 4)
      let t : Tensor := { id := field p 0 4, method := m, flags := fl, addr := field p 8 8, bytes := field p 16 8, shard := field p 24 4, encoded := 0 }
      let ts := j.surv.tensors ++ [t]
      let s1 := s.tick.tick
      if !atBoundary j then .notInState s (stepCode j.st)
      else if decide (landCapacity s < landUsed s - j.surv.landing + landUnits ts) || decide (8191 < ts.length) ||
          (decide (1 < jobSize j) && Config.freeBool (s.free + 1)) then .resource s1 12
      else
        let s2 := if moved then postBoth s1 x.slot 0x0785 1 (rec8 [(ownRank s j).getD 0, t.id, m]) else s1
        .okWith (setJob s2 c.context { j with surv := { j.surv with tensors := ts, landing := landUnits ts } }) [BitVec.ofNat 8 m, BitVec.ofNat 8 fl]) }

def cmdSnapTensorUnreg : Cmd :=
  { code := 0x0702, fixed := 0,
    bad := fun s _ c => [(noCtx s c, 32), ((jobOf s c).any (fun j => !j.surv.tensors.any (fun t => t.id == c.arg 0 4)), 40)],
    run := fun s r c => withJob s r c (fun _ j =>
      if !atBoundary j then .notInState s (stepCode j.st)
      else
        let ts := j.surv.tensors.filter (fun t => t.id != c.arg 0 4)
        .ok (setJob s c.context { j with surv := { j.surv with tensors := ts, landing := landUnits ts } })) }

/-! ## The manifest (R444, R445, Tables 13.5 and 13.6) -/

def queueBytes (q : StageQueue) : List Byte :=
  [BitVec.ofNat 8 q.role, BitVec.ofNat 8 q.dir] ++ leBytes 2 q.qid ++ leBytes 4 q.depth ++ leBytes 8 q.base ++ leBytes 4 q.slotBytes ++ leBytes 2 q.creditVid ++
  leBytes 2 q.arriveVid ++ zeros 8

/-- The job record as bytes: the spec gives what it holds, the layout is the model's. -/
def recordBytes (p : Snap) : List Byte :=
  leBytes 8 p.step ++ leBytes 8 p.shardTable ++ leBytes 4 p.shardRecs ++ leBytes 4 p.queues.length ++ leBytes 4 p.objs.length ++ zeros 4 ++
  Memory.load p.bytes p.shardTable (48 * p.shardRecs) ++ p.queues.flatMap queueBytes ++
  p.objs.flatMap (fun o => leBytes 4 o.1 ++ leBytes 4 o.2.1.toNat ++ leBytes 4 o.2.2.toNat)

def listRoot (bs : List Byte) : List Byte := digestRoot (fun o n => (bs.drop o).take n) bs.length

def entryBytes (id method flags addr bytes encoded : Nat) (root : List Byte) : List Byte :=
  leBytes 4 id ++ [BitVec.ofNat 8 method, BitVec.ofNat 8 flags] ++ zeros 2 ++ leBytes 8 addr ++ leBytes 8 bytes ++ leBytes 8 encoded ++ padTo 32 root

/-- Header, entries and signature block; the job record's ADDR is zero. -/
def manifestOf (s : State) (j : Job) (p : Snap) : List Byte :=
  let rb := recordBytes p
  let ts := (p.tensors.zip (p.ranges.drop 1)).map (fun e =>
    entryBytes e.1.id e.1.method e.1.flags e.2.1 e.2.2 e.1.encoded (digestRoot (fun o n => Memory.load p.bytes (e.2.1 + o) n) e.2.2))
  let partner := match j.surv.partner with
    | some r => memberFab s j r
    | none => 0xFFFF_FFFF
  let body := leBytes 4 0x4E53_354B ++ leBytes 2 1 ++ leBytes 2 (ts.length + 1) ++ leBytes 8 p.epoch ++ leBytes 8 p.step ++ leBytes 2 j.fpn ++ zeros 2 ++
    leBytes 4 ((ownRank s j).getD 0) ++ leBytes 4 s.lantern.fabricId ++ leBytes 4 partner ++
    [BitVec.ofNat 8 ((stripeAxis j).getD 0), BitVec.ofNat 8 j.surv.k, BitVec.ofNat 8 j.surv.m] ++ zeros 21 ++
    entryBytes 0xFFFF_FFFF 1 fBOUNDARY 0 rb.length p.epoch (listRoot rb) ++ ts.flatten
  body ++ signBlock domSNAP body

/-- Bytes of one tensor as its landing set holds them: frozen content already stored is not read again. -/
def landTensor (s : State) (v : Survival) (m : Sparse Byte) (e : Tensor × (Nat × Nat)) : Sparse Byte :=
  if isBoundaryTensor e.1 then m
  else
    match (if e.1.encoded ≠ 0 then v.saved else none) with
    | some p => (Sparse.keysIn p.bytes e.2.1 (e.2.1 + e.2.2)).foldl (fun t a => Memory.write t a (Memory.read p.bytes a)) m
    | none => landRange s m e.2

/-- A frozen tensor keeps the snapshot in which it was first written; any other is written in this one. -/
def stampTensor (epoch : Nat) (t : Tensor) : Tensor := if t.flags % 2 = 1 ∧ t.encoded ≠ 0 then t else { t with encoded := epoch }

/-- The rest of the snapshot written and digested, the manifest built and signed. -/
def writeSnap (s : State) (n : Nat) (j : Job) (d : Snap) : State :=
  let rs := d.tensors.map (tensorRange s j)
  let es := d.tensors.zip rs
  let ts := d.tensors.map (stampTensor d.epoch)
  let d1 : Snap := { d with ranges := (d.shardTable, 48 * d.shardRecs) :: rs, bytes := es.foldl (landTensor s j.surv) d.bytes, tensors := ts }
  let d2 : Snap := { d1 with manifest := manifestOf s j d1 }
  let fresh := ((es.filter (fun e => !isBoundaryTensor e.1 && e.1.encoded == 0)).map (fun e => e.2.2)).sum
  let stored := j.surv.tensors.map (fun t => if ts.any (fun x => x.id == t.id) && t.flags % 2 == 1 then stampTensor d.epoch t else t)
  setJob (s.bump 0x07000003 fresh) n { j with surv := { j.surv with phase := 3, draft := some d2, tensors := stored } }

/-! ## Committing a snapshot (R437) -/

/-- SNAP_COMMITTED on a member: the new landing set takes the place of the old. The trigger is known at the root, and a free value elsewhere. -/
def commitSnap (s : State) (n : Nat) : State :=
  match jobAt s n with
  | none => s
  | some (c, j) =>
    let v := j.surv
    let trig := if isRoot s j then v.trigger else (Config.free64 s.free).toNat
    let s1 := postBoth ((tellChildren s j).tick.bump 0x07000001 1) c.slot 0x0781 (v.taking % 2 ^ 32) (rec8 [v.takingStep, trig])
    let v1 : Survival := { v with saved := v.draft, draft := none, lastSnap := v.taking, lastStep := v.takingStep, taking := 0, phase := 0, okFrom := [],
                                  stepsSince := j.epoch - (v.takingStep + 1), riskSent := false, age := 0, orderDetach := v.orderDetach && j.st != .haltedAt }
    setJob s1 n { j with surv := v1, awaiting := j.awaiting.filter (fun k => k != .snapCommitted) }

/-- At the root: SNAP_OK from every member, so SNAP_COMMITTED is recorded, with the partner first. -/
def trySnapCommit (s : State) (n : Nat) : State :=
  match jobAt s n with
  | none => s
  | some (_, j) =>
    if !isRoot s j || j.surv.taking == 0 || j.awaiting.contains .snapCommitted || !(List.range (jobSize j)).all (fun r => j.surv.okFrom.contains r) then s
    else
      match j.surv.partner with
      | some p => setJob (tell s j p) n { j with awaiting := j.awaiting ++ [.snapCommitted] }
      | none => commitSnap s n

def noteSnapOk (s : State) (n rank : Nat) : State :=
  match jobAt s n with
  | none => s
  | some (_, j) =>
    if !isRoot s j then tellParent s j
    else trySnapCommit (setJob s n { j with surv := { j.surv with okFrom := j.surv.okFrom.filter (fun r => r != rank) ++ [rank] } }) n

/-- SNAP_BOUNDARY_COPY_DONE (R437, step 2): the copy ends, and the next step launches unless the job is halted. -/
def execSnapBoundaryCopyDone (ctx micros : Nat) (s : State) : Host.Outcome State Fault Refusal :=
  match jobAt s ctx with
  | none => .next s
  | some (_, j) =>
    if j.surv.taking = 0 ∨ j.surv.phase ≠ 0 then .next s
    else
      let s1 := setJob (s.bump 0x07000004 micros) ctx { j with surv := { j.surv with phase := 1 } }
      if j.st = .running ∧ j.launched = false then .next (launchStep s1 ctx) else .next s1

/-- SNAP_WRITE_DONE (R437, step 4). -/
def execSnapWriteDone (ctx : Nat) (s : State) : Host.Outcome State Fault Refusal :=
  match jobAt s ctx with
  | none => .next s
  | some (_, j) =>
    match j.surv.draft with
    | none => .next s
    | some d => if j.surv.taking = 0 ∨ j.surv.phase ≠ 1 then .next s else .next (noteSnapOk (writeSnap s ctx j d) ctx ((ownRank s j).getD 0))

/-- SNAP_OK (R437, step 6). -/
def execSnapOk (ctx rank snap : Nat) (s : State) : Host.Outcome State Fault Refusal :=
  match jobAt s ctx with
  | none => .next s
  | some (_, j) => if j.surv.taking ≠ snap ∨ snap = 0 ∨ jobSize j ≤ rank then .next s else .next (noteSnapOk s ctx rank)

/-- SNAP_COMMITTED (R437, step 7). -/
def execSnapCommitted (ctx snap : Nat) (s : State) : Host.Outcome State Fault Refusal :=
  match jobAt s ctx with
  | none => .next s
  | some (_, j) => if j.surv.taking ≠ snap ∨ snap = 0 ∨ j.surv.phase ≠ 3 ∨ isRoot s j = true then .next s else .next (commitSnap s ctx)

/-! ## The partner's journal (R420, R421) -/

/-- JOURNAL_RECORD (R421): recorded and acknowledged; COMMIT for an epoch held as ABORT is refused. -/
def execJournalRecord (ctx : Nat) (kind : JournalKind) (epoch : Nat) (s : State) : Host.Outcome State Fault Refusal :=
  match jobAt s ctx with
  | none => .next s
  | some (_, j) =>
    if isRoot s j then .next s
    else
      let s1 := tell s j 0
      if kind = .commit ∧ j.partnerAbort.contains epoch = true then .next s1
      else .next (setJob s1 ctx { j with partnerRec := j.partnerRec.filter (fun r => r != (kind, epoch)) ++ [(kind, epoch)] })

/-- JOURNAL_RECORD_ACK (R420): the decision goes down the tree, or a refusal makes it ABORT. -/
def execJournalRecordAck (ctx : Nat) (kind : JournalKind) (epoch : Nat) (recorded : Bool) (s : State) : Host.Outcome State Fault Refusal :=
  match jobAt s ctx with
  | none => .next s
  | some (_, j) =>
    if !isRoot s j || !j.awaiting.contains kind then .next s
    else
      match kind with
      | .commit =>
        if epoch ≠ j.epoch ∨ j.st ≠ .voted then .next s
        else if recorded then .next (decideCommit s ctx)
        else .next (decideAbort (setJob s ctx { j with awaiting := j.awaiting.filter (fun k => k != .commit) }) ctx)
      | .snapCommitted => if epoch = j.surv.taking ∧ recorded = true then .next (commitSnap s ctx) else .next s
      | .reshardCommitted => if epoch = j.reshard.number ∧ recorded = true then .next (registerNew s ctx) else .next s

end Sys2Proof.Machine
end

