-- ==== Sys2Proof/Machine/Survive.lean ====
section
/-! DEFINITION. Losing a member and restoring the job (R446 to R453, Tables 13.7 to 13.9), spares, and the survival commands (R456, Table 13.13). -/

namespace Sys2Proof.Machine

open Sys2Proof

/-! ## The acting root (R446) -/

def actingRoot (j : Job) (lost : List Nat) : Nat :=
  if !lost.contains 0 then 0
  else
    match j.surv.rootPartner.filter (fun p => !lost.contains p) with
    | some p => p
    | none => ((List.range (jobSize j)).find? (fun r => !lost.contains r)).getD 0

def isActing (s : State) (j : Job) (lost : List Nat) : Bool := ownRank s j == some (actingRoot j lost)

/-! ## Copies (R448, R449, Table 13.7) -/

def chunksOf (n : Nat) : Nat := (n + 0xF_FFFF) / 0x10_0000

/-- Sources of a tensor's copies short of the exported checkpoint, on a module that survived: 0 local, 1 partner, 2 stripe, 3 DUAL. -/
def copyOrder (v : Survival) (t : Tensor) : List Nat :=
  if t.method = 1 then (if v.partner.isSome then [0, 1] else [0]) else if t.method = 3 then [2, 3] else [2]

/-- The first copy whose every chunk verifies. The copies lie in landing zones and on other modules, so whether one verifies is a free choice. -/
def pickCopy (n : Nat) : State → List Nat → State × Option Nat
  | s, [] => (s, none)
  | s, c :: cs =>
    if Config.freeBool s.free then (s.tick.bump 0x07000009 n, some c)
    else pickCopy n ((s.tick.tick).bump 0x0700000A (1 + Config.freeNat (s.free + 1) % Nat.max 1 n)) cs

/-- Sources of every tensor of a snapshot: the report lines found, and the tensors that only the exported checkpoint can give. -/
def pickCopies (j : Job) (rank : Nat) : State → List Tensor → State × List ReportLine × List Tensor
  | s, [] => (s, [], [])
  | s, t :: ts =>
    let (s1, src) := pickCopy (chunksOf t.bytes) s (copyOrder j.surv t)
    let missing := if t.method = 1 then 0 else Config.freeNat s1.free % (j.surv.k + j.surv.m + 1)
    let (s2, ls, bad) := pickCopies j rank s1.tick ts
    match src with
    | some x => (s2, { rank := rank, tensor := t.id, source := x, missing := missing } :: ls, bad)
    | none => (s2, { rank := rank, tensor := t.id, source := 4, missing := missing } :: ls, t :: bad)

/-- SURV_RESTORED: the status, the snapshot used, ranks substituted and their spares. -/
def postRestored (s : State) (c : Ctx) (j : Job) (status snap : Nat) : State :=
  postBoth s c.slot 0x0783 status (rec8 (snap :: j.surv.subst.flatMap (fun e => [e.1, e.2])))

/-! ## Spares (R450 to R452, Table 13.8) -/

/-- Torus distance of a fabric ID from a rank's coordinate. -/
def torusDistance (s : State) (j : Job) (fab r : Nat) : Nat :=
  let a := coordOf fab s.lantern.lengths
  let home := (List.range 6).map (fun i => (j.origin.getD i 0 + (rankCoord j r).getD i 0) % axisLen s i)
  ((List.range 6).map (fun i =>
    let d := (a.getD i 0 + axisLen s i - home.getD i 0) % axisLen s i
    Nat.min d (axisLen s i - d))).sum

/-- The nearest of some spares, the lowest fabric ID on a tie. -/
def nearest (s : State) (j : Job) (r : Nat) (xs : List Spare) : Option Spare :=
  xs.foldl (fun (b : Option Spare) x =>
    match b with
    | none => some x
    | some y =>
      let dx := torusDistance s j x.fabricId r
      let dy := torusDistance s j y.fabricId r
      if dx < dy ∨ (dx = dy ∧ x.fabricId < y.fabricId) then some x else b) none

def setSpare (j : Job) (fab : Nat) (f : Spare → Spare) : Job :=
  { j with surv := { j.surv with spares := j.surv.spares.map (fun x => if x.fabricId = fab then f x else x) } }

/-- Whether a spare is filling for, or has been filled for, a lost rank. -/
def servesLost (x : Spare) : Bool := x.st == .claimed || x.st == .filling || x.st == .ready || x.st == .held

/-- Lost ranks that no spare has been claimed for. -/
def waitingRanks (j : Job) : List Nat := j.surv.lost.filter (fun r => !j.surv.spares.any (fun x => servesLost x && x.rank == r))

/-- A spare claimed for a rank. Eligibility rests on the state of the spare's module, so it is a free choice of each. -/
def claimSpare (s : State) (n rank : Nat) : State :=
  match jobAt s n with
  | none => s
  | some (c, j) =>
    let pool := j.surv.spares.filter (fun x => x.st == .pool)
    let ok := (pool.zipIdx.filter (fun e => Config.freeBool (s.free + e.2))).map (fun e => e.1)
    let s1 := { s with free := s.free + pool.length }
    match nearest s j rank ok with
    | none => setJob (postBoth s1 c.slot 0x0786 rank (rec8 (waitingRanks j))) n { j with st := .haltedAt }
    | some x =>
      let j1 := setSpare j x.fabricId (fun y => { y with st := .claimed, rank := rank })
      let j2 := { j1 with surv := { j1.surv with subst := Sparse.set j1.surv.subst rank x.fabricId } }
      learnCerts (sendMgmt (setJob s1 n j2) x.fabricId j.fpn) [x.fabricId]

def claimAll (s : State) (n : Nat) : State :=
  match jobAt s n with
  | none => s
  | some (_, j) => (waitingRanks j).foldl (fun t r => claimSpare t n r) s

/-- The job relaunches once every lost rank has a READY spare and no exported checkpoint is awaited. -/
def tryRelaunch (s : State) (n : Nat) : State :=
  match jobAt s n with
  | none => s
  | some (c, j) =>
    let ready (r : Nat) : Bool := j.surv.spares.any (fun x => x.st == .ready && x.rank == r)
    if j.surv.relaunch.isNone || j.surv.useExport || !j.surv.lost.all ready then s
    else
      let v : Survival := { j.surv with lost := [], relaunch := none, spares := j.surv.spares.map (fun x => if x.st = .ready then { x with st := .rebuilding } else x) }
      let s1 := postRestored (setJob s n { j with surv := v }) c j 0 j.surv.lastSnap
      launchStep (tellChildren s1 j) n

/-! ## Restoring the job (R438, R447) -/

/-- A snapshot in progress is abandoned; the record's cause has no code in the spec. -/
def abandonSnap (s : State) (n : Nat) : State :=
  match jobAt s n with
  | none => s
  | some (c, j) =>
    if j.surv.taking = 0 then s
    else
      let s1 := postBoth (s.bump 0x07000002 1) c.slot 0x0782 (j.surv.taking % 2 ^ 32) (rec8 [(Config.free64 s.free).toNat])
      setJob s1.tick n { j with awaiting := j.awaiting.filter (fun k => k != .snapCommitted),
                                surv := { j.surv with taking := 0, phase := 0, okFrom := [], draft := none } }

def setReport (s : State) (n : Nat) (ls : List ReportLine) : State :=
  match jobAt s n with
  | some (_, j) => setJob s n { j with surv := { j.surv with report := ls } }
  | none => s

/-- The member restored from a snapshot or checkpoint, and ready to relaunch. -/
def restoreFrom (s : State) (n : Nat) (p : Snap) : State :=
  let s1 := restoreData s n p
  match jobAt s1 n with
  | none => s1
  | some (_, j) => setJob s1 n { j with st := if (waitingRanks j).isEmpty then .restoring else .haltedAt,
                                        surv := { j.surv with useExport := false, relaunch := some (p.step + 1) } }

/-- The exported checkpoint used in place of every copy, or awaited; a tensor that it lacks has no copy at all. -/
def restoreExport (s : State) (n : Nat) : State :=
  match jobAt s n with
  | none => s
  | some (c, j) =>
    let rank := (ownRank s j).getD 0
    let wait (t : State) : State :=
      match jobAt t n with
      | some (_, k) => setJob t n { k with st := .haltedAt, surv := { k.surv with useExport := true } }
      | none => t
    match j.surv.exported with
    | none => wait (postRestored s c j 8 j.surv.lastSnap)
    | some p =>
      let gone := j.surv.tensors.filter (fun t => !p.tensors.any (fun x => x.id == t.id))
      if gone.isEmpty then
        restoreFrom (setReport s n (p.tensors.map (fun t => { rank := rank, tensor := t.id, source := 4, missing := 0 }))) n p
      else wait (postBoth s c.slot 0x0784 gone.length (rec8 ((gone.take 16).flatMap (fun t => [rank, t.id]))))

/-- Steps 3 and 6 on this member: the last committed snapshot from its copies, or the exported checkpoint. -/
def restoreOwn (s : State) (n : Nat) (useExport : Bool) : State :=
  match jobAt s n with
  | none => s
  | some (_, j) =>
    match (if useExport then none else j.surv.saved) with
    | none => restoreExport s n
    | some p =>
      let (s1, ls, bad) := pickCopies j ((ownRank s j).getD 0) s p.tensors
      if bad.isEmpty then restoreFrom (setReport s1 n ls) n p else restoreExport (setReport s1 n ls) n

/-- R447 at the acting root: halt, discard, key move, spares, restore, relaunch. -/
def restoreJob (s : State) (n : Nat) (useExport : Bool) : State :=
  match jobAt s n with
  | none => s
  | some (_, j) =>
    let s1 := originateHalt (abandonSnap s n) j.fpn 0
    let s2 := (dropMsgs (stopContext s1 n) n).bump 0x07000008 1
    let s3 := match jobAt s2 n with
      | some (_, k) => setJob s2 n { breakReshard k with st := .restoring, launched := false }
      | none => s2
    let s4 := restoreOwn (claimAll (rollKey s3 j.fpn) n) n useExport
    tryRelaunch s4 n

/-- A spare lost before READY leaves nothing usable; the next one is claimed and filled from the beginning. -/
def dropSpare (s : State) (n fab : Nat) : State :=
  match jobAt s n with
  | none => s
  | some (_, j) =>
    let v : Survival := { j.surv with spares := j.surv.spares.filter (fun x => x.fabricId != fab), subst := j.surv.subst.filter (fun e => e.2 != fab) }
    claimAll (setJob (s.bump 0x0700000C 1) n { j with surv := v }) n

/-- The risk input of a neighbour that a survival message reports lost (R434). -/
def noteNeighbour (s : State) (fab : Nat) : State :=
  if (List.range 12).any (fun p => portNeighbour s p == fab && decide (1 < axisLen s (axisOfPort p))) then
    { s with risk := { s.risk with neigh := s.risk.neigh + decayUnit } }
  else s

/-- A loss declared at the acting root (R447, R453): of a rank's spare while it fills, or of a member. -/
def loseMember (s : State) (n : Nat) (c : Ctx) (j : Job) (rank cause : Nat) : State :=
  let fab := memberFab s j rank
  let s1 := noteNeighbour ((postBoth s c.slot 0x0780 rank (rec8 [fab, cause, j.epoch])).bump 0x07000007 1) fab
  if j.surv.lost.contains rank then
    (match j.surv.spares.find? (fun x => servesLost x && x.rank == rank) with
     | some x => dropSpare s1 n x.fabricId
     | none => s1)
  else
    let v : Survival := { j.surv with lost := j.surv.lost ++ [rank], spares := j.surv.spares.filter (fun x => x.fabricId != fab),
                                      subst := j.surv.subst.filter (fun e => e.1 != rank) }
    restoreJob (setJob s1 n { j with surv := v }) n j.surv.useExport

/-- A declaration goes to the acting root, which acts on it; other members keep the loss and pass it on. -/
def declareLost (s : State) (n rank cause : Nat) : State :=
  match jobAt s n with
  | none => s
  | some (c, j) =>
    let lost := if j.surv.lost.contains rank then j.surv.lost else j.surv.lost ++ [rank]
    if jobSize j ≤ rank ∨ ownRank s j = some rank then s
    else if isActing s j lost then loseMember s n c j rank cause
    else tell (setJob s n { breakReshard j with surv := { j.surv with lost := lost } }) j (actingRoot j lost)

/-- MEMBER_HEARTBEAT_MISS (R446): three of a member's heartbeats missed. -/
def execMemberHeartbeatMiss (ctx rank : Nat) (s : State) : Host.Outcome State Fault Refusal := .next (declareLost s ctx rank 1)

/-- MEMBER_LOST (R447). -/
def execMemberLost (ctx rank cause : Nat) (s : State) : Host.Outcome State Fault Refusal := .next (declareLost s ctx rank cause)

/-- A change of one spare in a given state. -/
def withSpare (s : State) (n fab : Nat) (st : SpareState) (f : Job → Spare → State) : State :=
  match jobAt s n with
  | none => s
  | some (_, j) =>
    match j.surv.spares.find? (fun x => x.fabricId == fab) with
    | none => s
    | some x => if x.st = st then f j x else s

/-- SPARE_BIND_DONE (R452): bound, its rank's manifest verified; or refused, and the next spare claimed. -/
def execSpareBindDone (ctx fabricId : Nat) (verified : Bool) (s : State) : Host.Outcome State Fault Refusal :=
  .next (withSpare s ctx fabricId .claimed (fun j x =>
    if verified then setJob s ctx (setSpare j fabricId (fun y => { y with st := .filling }))
    else
      let j1 := setSpare j fabricId (fun y => { y with st := .ineligible })
      let j2 := { j1 with surv := { j1.surv with subst := j1.surv.subst.filter (fun e => e.2 != fabricId) } }
      claimSpare (setJob s ctx j2) ctx x.rank))

/-- SPARE_FILL_DONE (R452): READY; the job relaunches once every claimed spare is. -/
def execSpareFillDone (ctx fabricId : Nat) (s : State) : Host.Outcome State Fault Refusal :=
  .next (withSpare s ctx fabricId .filling (fun j _ =>
    tryRelaunch (setJob (s.bump 0x0700000B 1) ctx (setSpare j fabricId (fun y => { y with st := .ready }))) ctx))

/-- SPARE_REBUILD_DONE (R452): PROTECTED. -/
def execSpareRebuildDone (ctx fabricId : Nat) (s : State) : Host.Outcome State Fault Refusal :=
  .next (withSpare s ctx fabricId .rebuilding (fun j _ => setJob s ctx (setSpare j fabricId (fun y => { y with st := .guarded }))))

/-! ## Commands (Table 13.13) -/

def newOr (old x : Nat) : Nat := if x = 0 then old else x

/-- A zero field keeps its value, so a nonzero one is checked against its range. -/
def outOf (x lo hi : Nat) : Bool := x != 0 && (decide (x < lo) || decide (hi < x))

def cmdSurvCfg : Cmd :=
  { code := 0x0700, fixed := 0,
    bad := fun s _ c =>
      [(noCtx s c, 32), (outOf (c.arg 0 2) 1024 65535, 40), (outOf (c.arg 4 2) 60 3600, 44), (!([0, 4, 6, 8, 10].contains (c.arg 6 1)), 46), (decide (2 < c.arg 7 1), 47),
       (c.arg 8 1 == 6 || decide (7 < c.arg 8 1), 48), (decide (1 < c.arg 9 1), 49), (outOf (c.arg 10 4) 64 65536, 50)],
    run := fun s r c => withRoot s r c (fun _ j =>
      let v := j.surv
      let v1 : Survival := { v with threshold := newOr v.threshold (c.arg 0 2), maxSteps := newOr v.maxSteps (c.arg 2 2), k := newOr v.k (c.arg 6 1), m := newOr v.m (c.arg 7 1),
                                    axis := newOr v.axis (c.arg 8 1), k4 := v.k4 || c.arg 9 1 == 1, mirrorMiB := newOr v.mirrorMiB (c.arg 10 4) }
      let s1 := { s with risk := { s.risk with halfLife := newOr s.risk.halfLife (c.arg 4 2) } }
      .ok (setJob s1 c.context { j with surv := v1 })) }

def cmdSnapNow : Cmd :=
  { code := 0x0703, fixed := 8, bad := badCtx,
    run := fun s r c => withRoot s r c (fun _ j => .okWith (setJob s c.context { j with surv := { j.surv with orderNow := true } }) (leBytes 8 j.surv.nextSnap)) }

/-- A member without a stripe axis reports a free value for it. -/
def cmdSnapStatus : Cmd :=
  { code := 0x0704, fixed := 48, bad := badCtx,
    run := fun s r c => withJob s r c (fun _ j =>
      let v := j.surv
      let axis := match stripeAxis j with
        | some a => BitVec.ofNat 8 a
        | none => Config.freeByte s.free
      let partner := match v.partner with
        | some p => memberFab s j p
        | none => 0xFFFF_FFFF
      .okWith s.tick (leBytes 8 v.lastSnap ++ leBytes 8 v.lastStep ++ leBytes 8 v.taking ++ leBytes 8 (v.landing * landUnit) ++
        leBytes 8 ((landCapacity s - landUsed s) * landUnit) ++ leBytes 4 partner ++ [axis, if v.correlated then 1 else 0, 0, 0])) }

/-- The estimate is the module's; THRESHOLD is that of the job CONTEXT names, or the default. -/
def cmdSurvRisk : Cmd :=
  { code := 0x0705, fixed := 16, bad := fun s _ c => [(c.context != 0 && noCtx s c, 32)],
    run := fun s r c =>
      let t := ((jobOf s c).map (fun j => j.surv.threshold)).getD 24576
      let bs := leBytes 2 s.risk.value ++ (riskInputs s).flatMap (leBytes 2) ++ leBytes 2 t
      if c.context = 0 then .okWith s bs else withCtx s r c (fun _ => .okWith s bs) }

def cmdSurvSpareAdd : Cmd :=
  { code := 0x0706, fixed := 0,
    bad := fun s _ c => [(noCtx s c, 32), (decide (systemSize s.lantern.lengths ≤ c.arg 0 4) || (jobOf s c).any (fun j => j.surv.spares.any (fun x => x.fabricId == c.arg 0 4)), 40)],
    run := fun s r c => pf0Only s r (fun _ => withRoot s r c (fun _ j =>
      let x : Spare := { fabricId := c.arg 0 4, st := .pool, rank := 0 }
      .ok (claimAll (setJob s c.context { j with surv := { j.surv with spares := j.surv.spares ++ [x] } }) c.context))) }

def cmdSurvSpareRemove : Cmd :=
  { code := 0x0707, fixed := 0,
    bad := fun s _ c => [(noCtx s c, 32), ((jobOf s c).any (fun j => !j.surv.spares.any (fun x => x.fabricId == c.arg 0 4)), 40)],
    run := fun s r c => pf0Only s r (fun _ => withRoot s r c (fun _ j =>
      match j.surv.spares.find? (fun x => x.fabricId == c.arg 0 4) with
      | some x =>
        if x.st = .pool ∨ x.st = .ineligible then
          .ok (setJob s c.context { j with surv := { j.surv with spares := j.surv.spares.filter (fun y => y.fabricId != c.arg 0 4) } })
        else .notInStateFree s
      | none => .badArg s 40)) }

def cmdSurvReport : Cmd :=
  { code := 0x0708, fixed := 0, bad := badCtx,
    run := fun s r c => withJob s r c (fun _ j => listResult s c (fun _ => [])
      (j.surv.report.map (fun x => leBytes 4 x.rank ++ leBytes 4 x.tensor ++ [BitVec.ofNat 8 x.source, BitVec.ofNat 8 x.missing, 0, 0]))) }

/-- Manifest, job record and tensors' data, in the order of the manifest's entries. -/
def exportBytes (p : Snap) : List Byte := p.manifest ++ recordBytes p ++ (p.ranges.drop 1).flatMap (fun x => Memory.load p.bytes x.1 x.2)

def cmdSnapExport : Cmd :=
  { code := 0x0709, fixed := 0, bad := badCtx,
    run := fun s r c => withJob s r c (fun _ j =>
      match j.surv.saved with
      | none => .notInState s (stepCode j.st)
      | some p =>
        let b := exportBytes p
        let w := b.take (c.arg 8 8)
        if hostFails s (c.arg 0 8) w.length then .fin (ringErr s r .fetch) sABORTED 5 []
        else
          let s1 := s.setHost (Memory.store s.hostMem (c.arg 0 8) w)
          if w.length < b.length then .fin s1 sPARTIAL b.length [] else .ok s1) }

/-- An entry of a manifest read back: tensor, range and root. -/
def parseEntry (e : List Byte) : Tensor × (Nat × Nat) × List Byte :=
  ({ id := field e 0 4, method := field e 4 1, flags := field e 5 1, addr := field e 8 8, bytes := field e 16 8, shard := 0xFFFF_FFFF, encoded := field e 24 8 },
   (field e 8 8, field e 16 8), e.drop 32)

/-- The job record read back. -/
def parseRecord (epoch : Nat) (b : List Byte) : Snap :=
  let nr := field b 16 4
  let nq := field b 20 4
  let q0 := 32 + 48 * nr
  let o0 := q0 + 32 * nq
  { epoch := epoch, step := field b 0 8, ranges := [(field b 8 8, 48 * nr)], bytes := Memory.store [] (field b 8 8) ((b.drop 32).take (48 * nr)),
    objs := (List.range (field b 24 4)).map (fun i => (field b (o0 + 12 * i) 4, w32 (field b (o0 + 12 * i + 4) 4), w32 (field b (o0 + 12 * i + 8) 4))),
    shardTable := field b 8 8, shardRecs := nr, queues := (List.range nq).map (fun i => parseQueue ((b.drop (q0 + 32 * i)).take 32)), tensors := [], manifest := [] }

/-- Data of the entries in order; none where a root differs. -/
def readEntries : List (Tensor × (Nat × Nat) × List Byte) → List Byte → Snap → Option Snap
  | [], _, p => some p
  | e :: es, b, p =>
    let n := e.2.1.2
    let d := b.take n
    if listRoot d ≠ padTo 32 e.2.2 then none
    else readEntries es (b.drop n) { p with bytes := Memory.store p.bytes e.2.1.1 d, ranges := p.ranges ++ [e.2.1], tensors := p.tensors ++ [e.1] }

/-- A checkpoint that this member may use: format, signatures under a verified certificate, its own FPN and rank, and every root. -/
def parseExport (s : State) (j : Job) (b : List Byte) : Option Snap :=
  let ne := field b 6 2
  let body := 64 + 64 * ne
  let es := (List.range ne).map (fun i => parseEntry ((b.drop (64 + 64 * i)).take 64))
  let data := b.drop (body + sigBytes)
  if field b 0 4 ≠ 0x4E53_354B ∨ field b 4 2 ≠ 1 ∨ ne = 0 ∨ field b 24 2 ≠ j.fpn ∨ ownRank s j ≠ some (field b 28 4) ∨
      s.keep.certs.contains (field b 32 4) = false ∨ signedOk 3 domSNAP (b.take body) (b.drop body) = false then none
  else
    match es with
    | [] => none
    | e :: r =>
      let rb := data.take e.2.1.2
      if e.1.id ≠ 0xFFFF_FFFF ∨ listRoot rb ≠ padTo 32 e.2.2 then none
      else (readEntries r (data.drop rb.length) (parseRecord (field b 8 8) rb)).map (fun p => { p with manifest := b.take (body + sigBytes) })

def cmdSnapImport : Cmd :=
  { code := 0x070A, fixed := 0, bad := badCtx,
    run := fun s r c => withJob s r c (fun _ j =>
      if j.st ≠ .haltedAt ∧ j.st ≠ .haltedIn ∧ j.st ≠ .restoring then .notInState s (stepCode j.st)
      else if hostFails s (c.arg 0 8) (c.arg 8 8) then .fin (ringErr s r .fetch) sABORTED 5 []
      else
        match parseExport s j (Memory.load s.hostMem (c.arg 0 8) (c.arg 8 8)) with
        | none => .fin s sINTEGRITY 0 []
        | some p =>
          let s1 := setJob s c.context { j with surv := { j.surv with exported := some p } }
          .ok (if j.surv.useExport then tryRelaunch (restoreExport s1 c.context) c.context else s1)) }

def cmdSurvRestore : Cmd :=
  { code := 0x070B, fixed := 8, bad := fun s _ c => [(noCtx s c, 32), (decide (1 < c.arg 0 1), 40)],
    run := fun s r c => withRoot s r c (fun _ j =>
      match (if c.arg 0 1 = 1 then j.surv.exported else j.surv.saved) with
      | none => .notInState s (stepCode j.st)
      | some p => .okWith (restoreJob s c.context (c.arg 0 1 == 1)) (leBytes 8 p.epoch)) }

def execSurvCfg (r : RingId) (tag : BitVec 16) (s : State) : Host.Outcome State Fault Refusal := runCmd cmdSurvCfg r tag s
def execSnapTensorReg (r : RingId) (tag : BitVec 16) (s : State) : Host.Outcome State Fault Refusal := runCmd cmdSnapTensorReg r tag s
def execSnapTensorUnreg (r : RingId) (tag : BitVec 16) (s : State) : Host.Outcome State Fault Refusal := runCmd cmdSnapTensorUnreg r tag s
def execSnapNow (r : RingId) (tag : BitVec 16) (s : State) : Host.Outcome State Fault Refusal := runCmd cmdSnapNow r tag s
def execSnapStatus (r : RingId) (tag : BitVec 16) (s : State) : Host.Outcome State Fault Refusal := runCmd cmdSnapStatus r tag s
def execSurvRisk (r : RingId) (tag : BitVec 16) (s : State) : Host.Outcome State Fault Refusal := runCmd cmdSurvRisk r tag s
def execSurvSpareAdd (r : RingId) (tag : BitVec 16) (s : State) : Host.Outcome State Fault Refusal := runCmd cmdSurvSpareAdd r tag s
def execSurvSpareRemove (r : RingId) (tag : BitVec 16) (s : State) : Host.Outcome State Fault Refusal := runCmd cmdSurvSpareRemove r tag s
def execSurvReport (r : RingId) (tag : BitVec 16) (s : State) : Host.Outcome State Fault Refusal := runCmd cmdSurvReport r tag s
def execSnapExport (r : RingId) (tag : BitVec 16) (s : State) : Host.Outcome State Fault Refusal := runCmd cmdSnapExport r tag s
def execSnapImport (r : RingId) (tag : BitVec 16) (s : State) : Host.Outcome State Fault Refusal := runCmd cmdSnapImport r tag s
def execSurvRestore (r : RingId) (tag : BitVec 16) (s : State) : Host.Outcome State Fault Refusal := runCmd cmdSurvRestore r tag s

end Sys2Proof.Machine
end

