-- ==== Sys2Proof/Machine/VirdyRows.lean ====
section
/-! DEFINITION. The rows of the Virdy instructions and of the events of groups, engines, queues and synchronisation objects: one definition for each. -/

namespace Sys2Proof.Machine

open Sys2Proof

/-! ## Instructions (R127 to R138) -/

def execMov (g : GroupId) (s : State) : Host.Outcome State Fault Refusal := .next (issue .mov g s)
def execAdd (g : GroupId) (s : State) : Host.Outcome State Fault Refusal := .next (issue .add g s)
def execSub (g : GroupId) (s : State) : Host.Outcome State Fault Refusal := .next (issue .sub g s)
def execMul (g : GroupId) (s : State) : Host.Outcome State Fault Refusal := .next (issue .mul g s)
def execMulhi (g : GroupId) (s : State) : Host.Outcome State Fault Refusal := .next (issue .mulhi g s)
def execMad (g : GroupId) (s : State) : Host.Outcome State Fault Refusal := .next (issue .mad g s)
def execMin (g : GroupId) (s : State) : Host.Outcome State Fault Refusal := .next (issue .min g s)
def execMax (g : GroupId) (s : State) : Host.Outcome State Fault Refusal := .next (issue .max g s)
def execAnd (g : GroupId) (s : State) : Host.Outcome State Fault Refusal := .next (issue .and g s)
def execOr (g : GroupId) (s : State) : Host.Outcome State Fault Refusal := .next (issue .or g s)
def execXor (g : GroupId) (s : State) : Host.Outcome State Fault Refusal := .next (issue .xor g s)
def execShl (g : GroupId) (s : State) : Host.Outcome State Fault Refusal := .next (issue .shl g s)
def execShr (g : GroupId) (s : State) : Host.Outcome State Fault Refusal := .next (issue .shr g s)
def execSar (g : GroupId) (s : State) : Host.Outcome State Fault Refusal := .next (issue .sar g s)
def execPopc (g : GroupId) (s : State) : Host.Outcome State Fault Refusal := .next (issue .popc g s)
def execClz (g : GroupId) (s : State) : Host.Outcome State Fault Refusal := .next (issue .clz g s)
def execSel (g : GroupId) (s : State) : Host.Outcome State Fault Refusal := .next (issue .sel g s)
def execRdlane (g : GroupId) (s : State) : Host.Outcome State Fault Refusal := .next (issue .rdlane g s)
def execSreg (g : GroupId) (s : State) : Host.Outcome State Fault Refusal := .next (issue .sreg g s)
def execFadd (g : GroupId) (s : State) : Host.Outcome State Fault Refusal := .next (issue .fadd g s)
def execFsub (g : GroupId) (s : State) : Host.Outcome State Fault Refusal := .next (issue .fsub g s)
def execFmul (g : GroupId) (s : State) : Host.Outcome State Fault Refusal := .next (issue .fmul g s)
def execFfma (g : GroupId) (s : State) : Host.Outcome State Fault Refusal := .next (issue .ffma g s)
def execFmin (g : GroupId) (s : State) : Host.Outcome State Fault Refusal := .next (issue .fmin g s)
def execFmax (g : GroupId) (s : State) : Host.Outcome State Fault Refusal := .next (issue .fmax g s)
def execFabs (g : GroupId) (s : State) : Host.Outcome State Fault Refusal := .next (issue .fabs g s)
def execFneg (g : GroupId) (s : State) : Host.Outcome State Fault Refusal := .next (issue .fneg g s)
def execRcp (g : GroupId) (s : State) : Host.Outcome State Fault Refusal := .next (issue .rcp g s)
def execRsq (g : GroupId) (s : State) : Host.Outcome State Fault Refusal := .next (issue .rsq g s)
def execSqrt (g : GroupId) (s : State) : Host.Outcome State Fault Refusal := .next (issue .sqrt g s)
def execExp2 (g : GroupId) (s : State) : Host.Outcome State Fault Refusal := .next (issue .exp2 g s)
def execLog2 (g : GroupId) (s : State) : Host.Outcome State Fault Refusal := .next (issue .log2 g s)
def execCvtRne (g : GroupId) (s : State) : Host.Outcome State Fault Refusal := .next (issue .cvtRne g s)
def execCvtRtz (g : GroupId) (s : State) : Host.Outcome State Fault Refusal := .next (issue .cvtRtz g s)
def execCvtSr (g : GroupId) (s : State) : Host.Outcome State Fault Refusal := .next (issue .cvtSr g s)
def execIsetp (g : GroupId) (s : State) : Host.Outcome State Fault Refusal := .next (issue .isetp g s)
def execFsetp (g : GroupId) (s : State) : Host.Outcome State Fault Refusal := .next (issue .fsetp g s)
def execPand (g : GroupId) (s : State) : Host.Outcome State Fault Refusal := .next (issue .pand g s)
def execPor (g : GroupId) (s : State) : Host.Outcome State Fault Refusal := .next (issue .por g s)
def execPxor (g : GroupId) (s : State) : Host.Outcome State Fault Refusal := .next (issue .pxor g s)
def execPnot (g : GroupId) (s : State) : Host.Outcome State Fault Refusal := .next (issue .pnot g s)
def execBallot (g : GroupId) (s : State) : Host.Outcome State Fault Refusal := .next (issue .ballot g s)
def execBra (g : GroupId) (s : State) : Host.Outcome State Fault Refusal := .next (issue .bra g s)
def execBrx (g : GroupId) (s : State) : Host.Outcome State Fault Refusal := .next (issue .brx g s)
def execCall (g : GroupId) (s : State) : Host.Outcome State Fault Refusal := .next (issue .call g s)
def execRet (g : GroupId) (s : State) : Host.Outcome State Fault Refusal := .next (issue .ret g s)
def execExit (g : GroupId) (s : State) : Host.Outcome State Fault Refusal := .next (issue .exit g s)
def execConv (g : GroupId) (s : State) : Host.Outcome State Fault Refusal := .next (issue .conv g s)
def execBar (g : GroupId) (s : State) : Host.Outcome State Fault Refusal := .next (issue .bar g s)
def execActmask (g : GroupId) (s : State) : Host.Outcome State Fault Refusal := .next (issue .actmask g s)
def execVirdyNop (g : GroupId) (s : State) : Host.Outcome State Fault Refusal := .next (issue .virdyNop g s)
def execLd (g : GroupId) (s : State) : Host.Outcome State Fault Refusal := .next (issue .ld g s)
def execSt (g : GroupId) (s : State) : Host.Outcome State Fault Refusal := .next (issue .st g s)
def execFence (g : GroupId) (s : State) : Host.Outcome State Fault Refusal := .next (issue .fence g s)
def execDma (g : GroupId) (s : State) : Host.Outcome State Fault Refusal := .next (issue .dma g s)
def execAtomAdd (g : GroupId) (s : State) : Host.Outcome State Fault Refusal := .next (issue .atomAdd g s)
def execAtomMin (g : GroupId) (s : State) : Host.Outcome State Fault Refusal := .next (issue .atomMin g s)
def execAtomMax (g : GroupId) (s : State) : Host.Outcome State Fault Refusal := .next (issue .atomMax g s)
def execAtomAnd (g : GroupId) (s : State) : Host.Outcome State Fault Refusal := .next (issue .atomAnd g s)
def execAtomOr (g : GroupId) (s : State) : Host.Outcome State Fault Refusal := .next (issue .atomOr g s)
def execAtomXor (g : GroupId) (s : State) : Host.Outcome State Fault Refusal := .next (issue .atomXor g s)
def execAtomXchg (g : GroupId) (s : State) : Host.Outcome State Fault Refusal := .next (issue .atomXchg g s)
def execAtomCas (g : GroupId) (s : State) : Host.Outcome State Fault Refusal := .next (issue .atomCas g s)
def execMcfg (g : GroupId) (s : State) : Host.Outcome State Fault Refusal := .next (issue .mcfg g s)
def execMload (g : GroupId) (s : State) : Host.Outcome State Fault Refusal := .next (issue .mload g s)
def execMmul (g : GroupId) (s : State) : Host.Outcome State Fault Refusal := .next (issue .mmul g s)
def execMfill (g : GroupId) (s : State) : Host.Outcome State Fault Refusal := .next (issue .mfill g s)
def execMadapt (g : GroupId) (s : State) : Host.Outcome State Fault Refusal := .next (issue .madapt g s)
def execMdrain (g : GroupId) (s : State) : Host.Outcome State Fault Refusal := .next (issue .mdrain g s)
def execStreamIssue (g : GroupId) (s : State) : Host.Outcome State Fault Refusal := .next (issue .streamIssue g s)
def execSigAdd (g : GroupId) (s : State) : Host.Outcome State Fault Refusal := .next (issue .sigAdd g s)
def execSigSet (g : GroupId) (s : State) : Host.Outcome State Fault Refusal := .next (issue .sigSet g s)
def execWaitGe (g : GroupId) (s : State) : Host.Outcome State Fault Refusal := .next (issue .waitGe g s)
def execWaitTake (g : GroupId) (s : State) : Host.Outcome State Fault Refusal := .next (issue .waitTake g s)
def execPut (g : GroupId) (s : State) : Host.Outcome State Fault Refusal := .next (issue .put g s)
def execGet (g : GroupId) (s : State) : Host.Outcome State Fault Refusal := .next (issue .get g s)
def execAcc (g : GroupId) (s : State) : Host.Outcome State Fault Refusal := .next (issue .acc g s)
def execColl (g : GroupId) (s : State) : Host.Outcome State Fault Refusal := .next (issue .coll g s)
def execFlagrd (g : GroupId) (s : State) : Host.Outcome State Fault Refusal := .next (issue .flagrd g s)
def execFlagclr (g : GroupId) (s : State) : Host.Outcome State Fault Refusal := .next (issue .flagclr g s)
def execScrd (g : GroupId) (s : State) : Host.Outcome State Fault Refusal := .next (issue .scrd g s)
def execScwr (g : GroupId) (s : State) : Host.Outcome State Fault Refusal := .next (issue .scwr g s)
def execBrk (g : GroupId) (s : State) : Host.Outcome State Fault Refusal := .next (issue .brk g s)
/-- A reserved encoding (R126): ILLEGAL_OP. -/
def execReservedInstruction (g : GroupId) (s : State) : Host.Outcome State Fault Refusal := .next (issue .reserved g s)

/-! ## Events of groups and engines -/

/-- FORCED_RELEASE (R92). -/
def execForcedRelease (g : GroupId) (s : State) : Host.Outcome State Fault Refusal := .next (forcedRelease s g)
/-- BARRIER_STARVED (R96). -/
def execBarrierStarved (cluster block barrier : Nat) (s : State) : Host.Outcome State Fault Refusal := .next (barrierStarved s cluster block barrier)
/-- LOAD_RETURN (R85). -/
def execLoadReturn (g : GroupId) (n : Nat) (s : State) : Host.Outcome State Fault Refusal := .next (loadReturn s g n)
/-- DMA_START (R313). -/
def execDmaStart (cluster : Nat) (s : State) : Host.Outcome State Fault Refusal := .next (dmaStart s cluster)
/-- MATRIX_DEQUEUE (R199). -/
def execMatrixDequeue (cluster : Nat) (s : State) : Host.Outcome State Fault Refusal := .next (matrixDequeue s cluster)
/-- FILL_TIMEOUT (R205). -/
def execFillTimeout (cluster n : Nat) (s : State) : Host.Outcome State Fault Refusal := .next (fillTimeout s cluster n)
/-- MDRAIN_READ_START (R215). -/
def execMdrainReadStart (cluster n : Nat) (s : State) : Host.Outcome State Fault Refusal := .next (drainStart s cluster n)
/-- SHADOW_RECOMPUTE (R275). -/
def execShadowRecompute (cluster : Nat) (s : State) : Host.Outcome State Fault Refusal := .next (shadowRecompute s cluster)
/-- STREAM_DESCRIPTOR_READ (R236). -/
def execStreamDescriptorRead (cluster : Nat) (s : State) : Host.Outcome State Fault Refusal := .next (streamDescriptorRead s cluster)
/-- STREAM_COMMAND_START (R229). -/
def execStreamCommandStart (cluster : Nat) (s : State) : Host.Outcome State Fault Refusal := .next (streamCommandStart s cluster)
/-- ENGINE_COMPLETION (R143). -/
def execEngineCompletion (cluster : Nat) (e : Engine) (s : State) : Host.Outcome State Fault Refusal := .next (engineCompletion s cluster e)

/-! ## Synchronisation objects -/

/-- WAIT_ARRIVE (R334): the n-th wait on its way reaches its home store, behind earlier ones of its own queue or group. -/
def execWaitArrive (n : Nat) (s : State) : Host.Outcome State Fault Refusal :=
  .next (match s.sync.arriving[n]? with
    | some w => presentWait (s.setSync { s.sync with arriving := s.sync.arriving.eraseIdx n }) w
    | none => s)

/-- WAIT_REPRESENT (R335): a refused wait is presented again. -/
def execWaitRepresent (n : Nat) (s : State) : Host.Outcome State Fault Refusal :=
  .next (match s.sync.refused[n]? with
    | some w => presentWait (s.setSync { s.sync with refused := s.sync.refused.eraseIdx n }) w
    | none => s)

/-- QUEUED_WAIT_HEAD (R337). -/
def execQueuedWaitHead (cluster : Nat) (q : WaitQueue) (s : State) : Host.Outcome State Fault Refusal := .next (queuedWaitHead s cluster q)

end Sys2Proof.Machine
end

