-- ==== Sys2Proof/Machine/Dispatch.lean ====
section
/-! DEFINITION. The meaning of every command: one arm per constructor, each one call of its meaning. -/

namespace Sys2Proof.Machine

open Sys2Proof

/-- The effect of a command on everything but the queue. -/
def exec (i : Instr) (s : State) : Host.Outcome State Fault Refusal :=
  match i with
  | .ringEnable r value => Sys2Proof.Machine.execRingEnable r value s
  | .ringDisable r value => Sys2Proof.Machine.execRingDisable r value s
  | .ringConfigWrite r value => Sys2Proof.Machine.execRingConfigWrite r value s
  | .ringBaseWrite r off wide value => Sys2Proof.Machine.execRingBaseWrite r off wide value s
  | .lmbDoorbell r value => Sys2Proof.Machine.execLmbDoorbell r value s
  | .bar0LowRead r off => Sys2Proof.Machine.execBar0LowRead r off s
  | .registerWrite r off value => Sys2Proof.Machine.execRegisterWrite r off value s
  | .ringStopComplete r => Sys2Proof.Machine.execRingStopComplete r s
  | .completionDeferred r => Sys2Proof.Machine.execCompletionDeferred r s
  | .commandTimeout r tag elapsedMs => Sys2Proof.Machine.execCommandTimeout r tag elapsedMs s
  | .functionLevelReset r => Sys2Proof.Machine.execFunctionLevelReset r s
  | .nop r tag => Sys2Proof.Machine.execNop r tag s
  | .identify r tag => Sys2Proof.Machine.execIdentify r tag s
  | .fwStage r tag => Sys2Proof.Machine.execFwStage r tag s
  | .fwCommit r tag => Sys2Proof.Machine.execFwCommit r tag s
  | .fwActivate r tag => Sys2Proof.Machine.execFwActivate r tag s
  | .eventGet r tag => Sys2Proof.Machine.execEventGet r tag s
  | .cmdAbort r tag => Sys2Proof.Machine.execCmdAbort r tag s
  | .moduleReset r tag => Sys2Proof.Machine.execModuleReset r tag s
  | .surveyStart r tag => Sys2Proof.Machine.execSurveyStart r tag s
  | .surveyStatus r tag => Sys2Proof.Machine.execSurveyStatus r tag s
  | .detach r tag => Sys2Proof.Machine.execDetach r tag s
  | .attach r tag => Sys2Proof.Machine.execAttach r tag s
  | .lanternSwitch r tag => Sys2Proof.Machine.execLanternSwitch r tag s
  | .surveyAccept r tag => Sys2Proof.Machine.execSurveyAccept r tag s
  | .tlmList r tag => Sys2Proof.Machine.execTlmList r tag s
  | .tlmRead r tag => Sys2Proof.Machine.execTlmRead r tag s
  | .tlmSampleCfg r tag => Sys2Proof.Machine.execTlmSampleCfg r tag s
  | .telemetrySample => Sys2Proof.Machine.execTelemetrySample s
  | .loadWindow load classes => Sys2Proof.Machine.execLoadWindow load classes s
  | .lanternHeartbeatMiss => Sys2Proof.Machine.execLanternHeartbeatMiss s
  | .bootComplete => Sys2Proof.Machine.execBootComplete s
  | .bootWatchdog => Sys2Proof.Machine.execBootWatchdog s
  | .enum f => Sys2Proof.Machine.execEnum f s
  | .healthReq f => Sys2Proof.Machine.execHealthReq f s
  | .powerOn f => Sys2Proof.Machine.execPowerOn f s
  | .powerOff f => Sys2Proof.Machine.execPowerOff f s
  | .stop f => Sys2Proof.Machine.execStop f s
  | .reset f => Sys2Proof.Machine.execReset f s
  | .recovery f => Sys2Proof.Machine.execRecovery f s
  | .rescueData f => Sys2Proof.Machine.execRescueData f s
  | .chainFrameOther f => Sys2Proof.Machine.execChainFrameOther f s
  | .mov g => Sys2Proof.Machine.execMov g s
  | .add g => Sys2Proof.Machine.execAdd g s
  | .sub g => Sys2Proof.Machine.execSub g s
  | .mul g => Sys2Proof.Machine.execMul g s
  | .mulhi g => Sys2Proof.Machine.execMulhi g s
  | .mad g => Sys2Proof.Machine.execMad g s
  | .min g => Sys2Proof.Machine.execMin g s
  | .max g => Sys2Proof.Machine.execMax g s
  | .and g => Sys2Proof.Machine.execAnd g s
  | .or g => Sys2Proof.Machine.execOr g s
  | .xor g => Sys2Proof.Machine.execXor g s
  | .shl g => Sys2Proof.Machine.execShl g s
  | .shr g => Sys2Proof.Machine.execShr g s
  | .sar g => Sys2Proof.Machine.execSar g s
  | .popc g => Sys2Proof.Machine.execPopc g s
  | .clz g => Sys2Proof.Machine.execClz g s
  | .sel g => Sys2Proof.Machine.execSel g s
  | .rdlane g => Sys2Proof.Machine.execRdlane g s
  | .sreg g => Sys2Proof.Machine.execSreg g s
  | .fadd g => Sys2Proof.Machine.execFadd g s
  | .fsub g => Sys2Proof.Machine.execFsub g s
  | .fmul g => Sys2Proof.Machine.execFmul g s
  | .ffma g => Sys2Proof.Machine.execFfma g s
  | .fmin g => Sys2Proof.Machine.execFmin g s
  | .fmax g => Sys2Proof.Machine.execFmax g s
  | .fabs g => Sys2Proof.Machine.execFabs g s
  | .fneg g => Sys2Proof.Machine.execFneg g s
  | .rcp g => Sys2Proof.Machine.execRcp g s
  | .rsq g => Sys2Proof.Machine.execRsq g s
  | .sqrt g => Sys2Proof.Machine.execSqrt g s
  | .exp2 g => Sys2Proof.Machine.execExp2 g s
  | .log2 g => Sys2Proof.Machine.execLog2 g s
  | .cvtRne g => Sys2Proof.Machine.execCvtRne g s
  | .cvtRtz g => Sys2Proof.Machine.execCvtRtz g s
  | .cvtSr g => Sys2Proof.Machine.execCvtSr g s
  | .isetp g => Sys2Proof.Machine.execIsetp g s
  | .fsetp g => Sys2Proof.Machine.execFsetp g s
  | .pand g => Sys2Proof.Machine.execPand g s
  | .por g => Sys2Proof.Machine.execPor g s
  | .pxor g => Sys2Proof.Machine.execPxor g s
  | .pnot g => Sys2Proof.Machine.execPnot g s
  | .ballot g => Sys2Proof.Machine.execBallot g s
  | .bra g => Sys2Proof.Machine.execBra g s
  | .brx g => Sys2Proof.Machine.execBrx g s
  | .call g => Sys2Proof.Machine.execCall g s
  | .ret g => Sys2Proof.Machine.execRet g s
  | .exit g => Sys2Proof.Machine.execExit g s
  | .conv g => Sys2Proof.Machine.execConv g s
  | .forcedRelease g => Sys2Proof.Machine.execForcedRelease g s
  | .bar g => Sys2Proof.Machine.execBar g s
  | .barrierStarved cluster block barrier => Sys2Proof.Machine.execBarrierStarved cluster block barrier s
  | .actmask g => Sys2Proof.Machine.execActmask g s
  | .virdyNop g => Sys2Proof.Machine.execVirdyNop g s
  | .ld g => Sys2Proof.Machine.execLd g s
  | .loadReturn g n => Sys2Proof.Machine.execLoadReturn g n s
  | .st g => Sys2Proof.Machine.execSt g s
  | .fence g => Sys2Proof.Machine.execFence g s
  | .dma g => Sys2Proof.Machine.execDma g s
  | .dmaStart cluster => Sys2Proof.Machine.execDmaStart cluster s
  | .atomAdd g => Sys2Proof.Machine.execAtomAdd g s
  | .atomMin g => Sys2Proof.Machine.execAtomMin g s
  | .atomMax g => Sys2Proof.Machine.execAtomMax g s
  | .atomAnd g => Sys2Proof.Machine.execAtomAnd g s
  | .atomOr g => Sys2Proof.Machine.execAtomOr g s
  | .atomXor g => Sys2Proof.Machine.execAtomXor g s
  | .atomXchg g => Sys2Proof.Machine.execAtomXchg g s
  | .atomCas g => Sys2Proof.Machine.execAtomCas g s
  | .mcfg g => Sys2Proof.Machine.execMcfg g s
  | .mload g => Sys2Proof.Machine.execMload g s
  | .mmul g => Sys2Proof.Machine.execMmul g s
  | .mfill g => Sys2Proof.Machine.execMfill g s
  | .madapt g => Sys2Proof.Machine.execMadapt g s
  | .mdrain g => Sys2Proof.Machine.execMdrain g s
  | .matrixDequeue cluster => Sys2Proof.Machine.execMatrixDequeue cluster s
  | .fillTimeout cluster n => Sys2Proof.Machine.execFillTimeout cluster n s
  | .mdrainReadStart cluster n => Sys2Proof.Machine.execMdrainReadStart cluster n s
  | .shadowRecompute cluster => Sys2Proof.Machine.execShadowRecompute cluster s
  | .streamIssue g => Sys2Proof.Machine.execStreamIssue g s
  | .streamDescriptorRead cluster => Sys2Proof.Machine.execStreamDescriptorRead cluster s
  | .streamCommandStart cluster => Sys2Proof.Machine.execStreamCommandStart cluster s
  | .engineCompletion cluster e => Sys2Proof.Machine.execEngineCompletion cluster e s
  | .sigAdd g => Sys2Proof.Machine.execSigAdd g s
  | .sigSet g => Sys2Proof.Machine.execSigSet g s
  | .waitGe g => Sys2Proof.Machine.execWaitGe g s
  | .waitTake g => Sys2Proof.Machine.execWaitTake g s
  | .signalApply n => Sys2Proof.Machine.execSignalApply n s
  | .waitArrive n => Sys2Proof.Machine.execWaitArrive n s
  | .waitRepresent n => Sys2Proof.Machine.execWaitRepresent n s
  | .queuedWaitHead cluster q => Sys2Proof.Machine.execQueuedWaitHead cluster q s
  | .put g => Sys2Proof.Machine.execPut g s
  | .get g => Sys2Proof.Machine.execGet g s
  | .acc g => Sys2Proof.Machine.execAcc g s
  | .coll g => Sys2Proof.Machine.execColl g s
  | .collectiveStart ctx axes number => Sys2Proof.Machine.execCollectiveStart ctx axes number s
  | .flagrd g => Sys2Proof.Machine.execFlagrd g s
  | .flagclr g => Sys2Proof.Machine.execFlagclr g s
  | .scrd g => Sys2Proof.Machine.execScrd g s
  | .scwr g => Sys2Proof.Machine.execScwr g s
  | .brk g => Sys2Proof.Machine.execBrk g s
  | .sendQueueSend cluster => Sys2Proof.Machine.execSendQueueSend cluster s
  | .ackTimeout cluster msg pkt => Sys2Proof.Machine.execAckTimeout cluster msg pkt s
  | .flitReceive link bytes => Sys2Proof.Machine.execFlitReceive link bytes s
  | .replayTimeout link => Sys2Proof.Machine.execReplayTimeout link s
  | .haltFlit link bytes => Sys2Proof.Machine.execHaltFlit link bytes s
  | .linkSignalDetect link => Sys2Proof.Machine.execLinkSignalDetect link s
  | .linkNosignal link => Sys2Proof.Machine.execLinkNosignal link s
  | .equaliseDone link => Sys2Proof.Machine.execEqualiseDone link s
  | .alignDone link => Sys2Proof.Machine.execAlignDone link s
  | .trainTimeout link => Sys2Proof.Machine.execTrainTimeout link s
  | .exchange link farPort farSlot farFabric farSealed => Sys2Proof.Machine.execExchange link farPort farSlot farFabric farSealed s
  | .retrainEntry link cause => Sys2Proof.Machine.execRetrainEntry link cause s
  | .realignDone link => Sys2Proof.Machine.execRealignDone link s
  | .retrainFail link => Sys2Proof.Machine.execRetrainFail link s
  | .downTimeout link => Sys2Proof.Machine.execDownTimeout link s
  | .putPacket n => Sys2Proof.Machine.execPutPacket n s
  | .getReq n => Sys2Proof.Machine.execGetReq n s
  | .getData n => Sys2Proof.Machine.execGetData n s
  | .accPacket n => Sys2Proof.Machine.execAccPacket n s
  | .signalPacket n => Sys2Proof.Machine.execSignalPacket n s
  | .atomicReq n => Sys2Proof.Machine.execAtomicReq n s
  | .atomicRsp n => Sys2Proof.Machine.execAtomicRsp n s
  | .reduceChunk n => Sys2Proof.Machine.execReduceChunk n s
  | .permutePacket n => Sys2Proof.Machine.execPermutePacket n s
  | .fabricAck n => Sys2Proof.Machine.execFabricAck n s
  | .surveyProbe port probe => Sys2Proof.Machine.execSurveyProbe port probe s
  | .failover link slot lastSeq => Sys2Proof.Machine.execFailover link slot lastSeq s
  | .fabInfo r tag => Sys2Proof.Machine.execFabInfo r tag s
  | .fabLink r tag => Sys2Proof.Machine.execFabLink r tag s
  | .fabRoute r tag => Sys2Proof.Machine.execFabRoute r tag s
  | .fabHalt r tag => Sys2Proof.Machine.execFabHalt r tag s
  | .fabInject r tag => Sys2Proof.Machine.execFabInject r tag s
  | .fabCfg r tag => Sys2Proof.Machine.execFabCfg r tag s
  | .dbgAttach r tag => Sys2Proof.Machine.execDbgAttach r tag s
  | .dbgDetach r tag => Sys2Proof.Machine.execDbgDetach r tag s
  | .dbgHalt r tag => Sys2Proof.Machine.execDbgHalt r tag s
  | .dbgResume r tag => Sys2Proof.Machine.execDbgResume r tag s
  | .dbgStep r tag => Sys2Proof.Machine.execDbgStep r tag s
  | .dbgRead r tag => Sys2Proof.Machine.execDbgRead r tag s
  | .dbgWrite r tag => Sys2Proof.Machine.execDbgWrite r tag s
  | .dbgBpSet r tag => Sys2Proof.Machine.execDbgBpSet r tag s
  | .dbgWpSet r tag => Sys2Proof.Machine.execDbgWpSet r tag s
  | .dbgKill r tag => Sys2Proof.Machine.execDbgKill r tag s
  | .dbgStatus r tag => Sys2Proof.Machine.execDbgStatus r tag s
  | .memInfo r tag => Sys2Proof.Machine.execMemInfo r tag s
  | .memMap r tag => Sys2Proof.Machine.execMemMap r tag s
  | .memUnmap r tag => Sys2Proof.Machine.execMemUnmap r tag s
  | .memHostCopy r tag => Sys2Proof.Machine.execMemHostCopy r tag s
  | .memPoisonList r tag => Sys2Proof.Machine.execMemPoisonList r tag s
  | .memThermalCfg r tag => Sys2Proof.Machine.execMemThermalCfg r tag s
  | .memScrubCfg r tag => Sys2Proof.Machine.execMemScrubCfg r tag s
  | .memSharedAlloc r tag => Sys2Proof.Machine.execMemSharedAlloc r tag s
  | .memInject r tag => Sys2Proof.Machine.execMemInject r tag s
  | .spPatrolScrub cluster row => Sys2Proof.Machine.execSpPatrolScrub cluster row s
  | .stackPatrolScrub addr => Sys2Proof.Machine.execStackPatrolScrub addr s
  | .stackTempReading stack celsius => Sys2Proof.Machine.execStackTempReading stack celsius s
  | .sharedUncorrectableRead addr => Sys2Proof.Machine.execSharedUncorrectableRead addr s
  | .sharedRepairDone slot => Sys2Proof.Machine.execSharedRepairDone slot s
  | .sharedRepairTimeout slot => Sys2Proof.Machine.execSharedRepairTimeout slot s
  | .syncInfo r tag => Sys2Proof.Machine.execSyncInfo r tag s
  | .syncHome r tag => Sys2Proof.Machine.execSyncHome r tag s
  | .syncSet r tag => Sys2Proof.Machine.execSyncSet r tag s
  | .syncSignal r tag => Sys2Proof.Machine.execSyncSignal r tag s
  | .syncDump r tag => Sys2Proof.Machine.execSyncDump r tag s
  | .syncBalance r tag => Sys2Proof.Machine.execSyncBalance r tag s
  | .numCfg r tag => Sys2Proof.Machine.execNumCfg r tag s
  | .numCensusReg r tag => Sys2Proof.Machine.execNumCensusReg r tag s
  | .numCensusTag r tag => Sys2Proof.Machine.execNumCensusTag r tag s
  | .numCensusState r tag => Sys2Proof.Machine.execNumCensusState r tag s
  | .numFlags r tag => Sys2Proof.Machine.execNumFlags r tag s
  | .numRecover r tag => Sys2Proof.Machine.execNumRecover r tag s
  | .ctxLoad r tag => Sys2Proof.Machine.execCtxLoad r tag s
  | .ctxLaunch r tag => Sys2Proof.Machine.execCtxLaunch r tag s
  | .ctxClose r tag => Sys2Proof.Machine.execCtxClose r tag s
  | .ctxStatus r tag => Sys2Proof.Machine.execCtxStatus r tag s
  | .jobBind r tag => Sys2Proof.Machine.execJobBind r tag s
  | .jobUnbind r tag => Sys2Proof.Machine.execJobUnbind r tag s
  | .stepStatus r tag => Sys2Proof.Machine.execStepStatus r tag s
  | .stepResume r tag => Sys2Proof.Machine.execStepResume r tag s
  | .shardReg r tag => Sys2Proof.Machine.execShardReg r tag s
  | .pipeReg r tag => Sys2Proof.Machine.execPipeReg r tag s
  | .pipeStatus r tag => Sys2Proof.Machine.execPipeStatus r tag s
  | .reshardStart r tag => Sys2Proof.Machine.execReshardStart r tag s
  | .reshardStatus r tag => Sys2Proof.Machine.execReshardStatus r tag s
  | .reshardAbort r tag => Sys2Proof.Machine.execReshardAbort r tag s
  | .reshardCopied ctx => Sys2Proof.Machine.execReshardCopied ctx s
  | .copied ctx rank => Sys2Proof.Machine.execCopied ctx rank s
  | .reshardCommitted ctx => Sys2Proof.Machine.execReshardCommitted ctx s
  | .proposeEnter ctx => Sys2Proof.Machine.execProposeEnter ctx s
  | .voteOk ctx child epoch => Sys2Proof.Machine.execVoteOk ctx child epoch s
  | .voteFail ctx child epoch cause fabricId site trap => Sys2Proof.Machine.execVoteFail ctx child epoch cause fabricId site trap s
  | .proposeTimeout ctx => Sys2Proof.Machine.execProposeTimeout ctx s
  | .commitDecision ctx epoch snap => Sys2Proof.Machine.execCommitDecision ctx epoch snap s
  | .abortDecision ctx epoch => Sys2Proof.Machine.execAbortDecision ctx epoch s
  | .decisionTimeout ctx => Sys2Proof.Machine.execDecisionTimeout ctx s
  | .decisionQuery ctx rank epoch => Sys2Proof.Machine.execDecisionQuery ctx rank epoch s
  | .applyComplete ctx => Sys2Proof.Machine.execApplyComplete ctx s
  | .discardComplete ctx => Sys2Proof.Machine.execDiscardComplete ctx s
  | .discardedReport ctx rank epoch lost => Sys2Proof.Machine.execDiscardedReport ctx rank epoch lost s
  | .rerun ctx epoch => Sys2Proof.Machine.execRerun ctx epoch s
  | .launch ctx epoch => Sys2Proof.Machine.execLaunch ctx epoch s
  | .snapBoundaryCopyDone ctx micros => Sys2Proof.Machine.execSnapBoundaryCopyDone ctx micros s
  | .snapWriteDone ctx => Sys2Proof.Machine.execSnapWriteDone ctx s
  | .snapOk ctx rank snap => Sys2Proof.Machine.execSnapOk ctx rank snap s
  | .snapCommitted ctx snap => Sys2Proof.Machine.execSnapCommitted ctx snap s
  | .riskUpdate => Sys2Proof.Machine.execRiskUpdate s
  | .riskReport ctx rank risk => Sys2Proof.Machine.execRiskReport ctx rank risk s
  | .memberHeartbeatMiss ctx rank => Sys2Proof.Machine.execMemberHeartbeatMiss ctx rank s
  | .memberLost ctx rank cause => Sys2Proof.Machine.execMemberLost ctx rank cause s
  | .spareBindDone ctx fabricId verified => Sys2Proof.Machine.execSpareBindDone ctx fabricId verified s
  | .spareFillDone ctx fabricId => Sys2Proof.Machine.execSpareFillDone ctx fabricId s
  | .spareRebuildDone ctx fabricId => Sys2Proof.Machine.execSpareRebuildDone ctx fabricId s
  | .survCfg r tag => Sys2Proof.Machine.execSurvCfg r tag s
  | .snapTensorReg r tag => Sys2Proof.Machine.execSnapTensorReg r tag s
  | .snapTensorUnreg r tag => Sys2Proof.Machine.execSnapTensorUnreg r tag s
  | .snapNow r tag => Sys2Proof.Machine.execSnapNow r tag s
  | .snapStatus r tag => Sys2Proof.Machine.execSnapStatus r tag s
  | .survRisk r tag => Sys2Proof.Machine.execSurvRisk r tag s
  | .survSpareAdd r tag => Sys2Proof.Machine.execSurvSpareAdd r tag s
  | .survSpareRemove r tag => Sys2Proof.Machine.execSurvSpareRemove r tag s
  | .survReport r tag => Sys2Proof.Machine.execSurvReport r tag s
  | .snapExport r tag => Sys2Proof.Machine.execSnapExport r tag s
  | .snapImport r tag => Sys2Proof.Machine.execSnapImport r tag s
  | .survRestore r tag => Sys2Proof.Machine.execSurvRestore r tag s
  | .secIdentity r tag => Sys2Proof.Machine.execSecIdentity r tag s
  | .secAttest r tag => Sys2Proof.Machine.execSecAttest r tag s
  | .secLcStatus r tag => Sys2Proof.Machine.execSecLcStatus r tag s
  | .secLcNonce r tag => Sys2Proof.Machine.execSecLcNonce r tag s
  | .secLcToken r tag => Sys2Proof.Machine.execSecLcToken r tag s
  | .secLcRetry r tag => Sys2Proof.Machine.execSecLcRetry r tag s
  | .secMode r tag => Sys2Proof.Machine.execSecMode r tag s
  | .secPartCreate r tag => Sys2Proof.Machine.execSecPartCreate r tag s
  | .secPartDestroy r tag => Sys2Proof.Machine.execSecPartDestroy r tag s
  | .secPartReset r tag => Sys2Proof.Machine.execSecPartReset r tag s
  | .secKeyInstall r tag => Sys2Proof.Machine.execSecKeyInstall r tag s
  | .secKeySwitch r tag => Sys2Proof.Machine.execSecKeySwitch r tag s
  | .secKeyErase r tag => Sys2Proof.Machine.execSecKeyErase r tag s
  | .secSharedSeal r tag => Sys2Proof.Machine.execSecSharedSeal r tag s
  | .secSharedUnseal r tag => Sys2Proof.Machine.execSecSharedUnseal r tag s
  | .secSharedStripe r tag => Sys2Proof.Machine.execSecSharedStripe r tag s
  | .secCfg r tag => Sys2Proof.Machine.execSecCfg r tag s
  | .inputAccepted input feedA feedB => Sys2Proof.Machine.execInputAccepted input feedA feedB s
  | .inputDropped input => Sys2Proof.Machine.execInputDropped input s
  | .busLoss => Sys2Proof.Machine.execBusLoss s
  | .pwrEnRise => Sys2Proof.Machine.execPwrEnRise s
  | .powerUpComplete ok => Sys2Proof.Machine.execPowerUpComplete ok s
  | .pwrEnFall => Sys2Proof.Machine.execPwrEnFall s
  | .powerSample total budgets => Sys2Proof.Machine.execPowerSample total budgets s
  | .tripCleared => Sys2Proof.Machine.execTripCleared s
  | .droopEvent die => Sys2Proof.Machine.execDroopEvent die s
  | .feedidRead feedA feedB => Sys2Proof.Machine.execFeedidRead feedA feedB s
  | .dieTempReading die celsius => Sys2Proof.Machine.execDieTempReading die celsius s
  | .coolantReading inlet outlet flow => Sys2Proof.Machine.execCoolantReading inlet outlet flow s
  | .thermalCriticalTimeout => Sys2Proof.Machine.execThermalCriticalTimeout s
  | .refclkSysLoss => Sys2Proof.Machine.execRefclkSysLoss s
  | .refclkLinkLoss => Sys2Proof.Machine.execRefclkLinkLoss s
  | .refclkHostLoss => Sys2Proof.Machine.execRefclkHostLoss s
  | .hostPerstAssert => Sys2Proof.Machine.execHostPerstAssert s
  | .hostPerstDeassert => Sys2Proof.Machine.execHostPerstDeassert s
  | .dieIsolate die => Sys2Proof.Machine.execDieIsolate die s
  | .unassignedCommand r tag => Sys2Proof.Machine.execUnassignedCommand r tag s
  | .reservedInstruction g => Sys2Proof.Machine.execReservedInstruction g s
  | .refclkLinkReturn => Sys2Proof.Machine.execRefclkLinkReturn s
  | .refclkHostReturn => Sys2Proof.Machine.execRefclkHostReturn s
  | .refclkSysReturn => Sys2Proof.Machine.execRefclkSysReturn s
  | .journalRecord ctx kind epoch => Sys2Proof.Machine.execJournalRecord ctx kind epoch s
  | .journalRecordAck ctx kind epoch recorded => Sys2Proof.Machine.execJournalRecordAck ctx kind epoch recorded s
  | .memoryError addr kind => Sys2Proof.Machine.execMemoryError addr kind s

end Sys2Proof.Machine
end

