-- ==== Sys2Proof/Safety.lean ====
section
/-! DEFINITION. What counts as a safe run, and the terms the claims are stated in: when a mailbox command may start with good fields, when a group
issues an instruction, and what a row's next state is said to be. -/

namespace Sys2Proof

open Machine

/-- `n` steps from `s` all answer a next state, with no fault and no refusal. -/
def SafeFor : Nat → State → Prop
  | 0, _ => True
  | n + 1, s => ∃ t, step s = .next t ∧ SafeFor n t

/-- Row `i` answers a next state, and `P` holds of it. -/
def Gives (i : Instr) (s : State) (P : State → Prop) : Prop := ∃ t, Machine.exec i s = .next t ∧ P t

/-! ## Mailbox commands -/

/-- `c`, outstanding in ring `r` under its tag, is the command `k` and may start with payload `p`: its code and VERSION are right (R47), its turn has
come (R50), its service is not put off (R64) nor refused during a life-cycle transition (R469), its payload can be fetched (R54), and every header and
payload field is in range (R49, R55). -/
structure Ready (k : Cmd) (s : State) (r : RingId) (c : OutCmd) (p : List Byte) : Prop where
  outstanding : (s.ring r).out.find? (fun x => x.tag == c.tag) = some c
  code : c.opcode.toNat = k.code
  version : c.version = 1
  turn : startable s r c = true
  served : deferDebug s r c = false
  allowed : lcBlocked s k.code = false
  header : leastBad ((headerBad (s.ring r) k c ++ k.bad s r c).filter (fun b => decide (b.2 < 64))) = none
  fetched : fetchPayload s r c = some p
  fields : leastBad (k.bad s r { c with payload := p }) = none

/-- The state in which a command runs: it has started, its payload fetched. -/
def begun (s : State) (r : RingId) (c : OutCmd) (p : List Byte) : State :=
  setOut s r c.tag (fun _ => { c with payload := p, started := true })

/-- `c` has started in ring `r` and waits there at a stage of its own. -/
structure Waiting (k : Cmd) (s : State) (r : RingId) (c : OutCmd) : Prop where
  outstanding : (s.ring r).out.find? (fun x => x.tag == c.tag) = some c
  code : c.opcode.toNat = k.code
  version : c.version = 1
  begun : c.started = true

/-- The row of a command answers the state in which the command has completed with OK: `t` is the state after its effect, `bytes` its result. -/
def CompletesWith (i : Instr) (s : State) (r : RingId) (c : OutCmd) (t : State) (bytes : List Byte) : Prop :=
  Machine.exec i s = .next (finish t r c.tag sOK 0 bytes)

/-- The row of a command completes it with a status other than OK, its DETAIL given, and no effect beside the completion. -/
def RefusesWith (i : Instr) (s : State) (r : RingId) (c : OutCmd) (p : List Byte) (status detail : Nat) : Prop :=
  Machine.exec i s = .next (finish (begun s r c p) r c.tag status detail [])

/-! ## Instructions of a group -/

/-- The group issues instruction `m`, as `e` gives it: it is ACTIVE, not stalled, stands at `m` with threads that act, none of the registers it names is
pending (R84), an entry is free if it takes one (R85), no breakpoint stops it (R112) and no register it reads is poisoned (R106). -/
structure Issues (m : Mn) (s : State) (g : GroupId) (e : Env) : Prop where
  stands : nextEnv s g = some e
  active : e.gr.st = .active
  flows : e.gr.stalled = false
  named : e.mn = m
  unmarked : marked e.gr e.f e.i = false
  entry : takesEntry m e.i = true → entryFree e.gr e.c = true
  noBreak : e.gr.skipBp = true ∨ Env.bpHit s e = none
  acts : e.act ≠ 0
  clean : e.poisonTrap = none

/-- Instruction `i` of group `g` is committed: `t` is the state after its effect, and its threads continue at the next instruction. -/
def Commits (i : Instr) (s : State) (g : GroupId) (e : Env) (t : State) : Prop :=
  Machine.exec i s = .next (advance e (afterIssue t g))

/-- Instruction `i` of group `g` is committed and leaves its threads where `t` has them: a branch, an exit, or threads that park. -/
def Redirects (i : Instr) (s : State) (g : GroupId) (t : State) : Prop := Machine.exec i s = .next (afterIssue t g)

/-- The group issues the group-collective instruction `m` with every live thread parked at it, and its queue has room (R81, R100). -/
structure IssuesAll (m : Mn) (s : State) (g : GroupId) (e : Env) : Prop where
  stands : nextEnv s g = some e
  active : e.gr.st = .active
  flows : e.gr.stalled = false
  named : e.mn = m
  unmarked : marked e.gr e.f e.i = false
  noBreak : e.gr.skipBp = true ∨ Env.bpHit s e = none
  room : e.collRoom s = true
  allHere : e.gr.collMask = e.gr.live
  acts : e.act ≠ 0
  clean : e.poisonTrap = none

/-- The sources of an arithmetic instruction in thread `t`, cut to its width (R119, R124): the one source, or the first, second and third. -/
def srcOne (e : Env) (t : Nat) : BitVec (intWidth e.i) := (src0 e.gr e.i true t).setWidth _
def srcA (e : Env) (t : Nat) : BitVec (intWidth e.i) := (src0 e.gr e.i false t).setWidth _
def srcB (e : Env) (t : Nat) : BitVec (intWidth e.i) := (src1 e.gr e.i t).setWidth _
def srcC (e : Env) (t : Nat) : BitVec (intWidth e.i) := (src2 e.gr e.i t).setWidth _

/-- The integer instruction `i` commits and writes `v`, extended as R119 says, in each thread that acts. -/
def PutsInt (m : Mn) (i : Instr) (s : State) (g : GroupId) (e : Env) (v : Nat → BitVec (intWidth e.i)) : Prop :=
  Issues m s g e → Commits i s g e (e.write s (fun t => extendInt e.i (v t).toNat))

/-- The FP32 instruction `i` commits, writes `v` and raises its flags. -/
def PutsFp (m : Mn) (i : Instr) (s : State) (g : GroupId) (e : Env) (v : Nat → R32) : Prop :=
  Issues m s g e → Commits i s g e (e.writeFl s (fun t => ((v t).w.setWidth 64, (v t).flags)))

/-- A NaN by its bits: the exponent all ones, the fraction not zero. -/
def isNan32 (x : BitVec 32) : Prop := x.toNat / 2 ^ 23 % 256 = 255 ∧ x.toNat % 2 ^ 23 ≠ 0

/-- Where a thread that does not act stands after the instruction: the rest of the subset at the next instruction, other threads where they were. -/
def restPc (e : Env) (t : Nat) : BitVec 64 :=
  if e.mask.getLsbD t && !e.act.getLsbD t then BitVec.ofNat 64 e.i.next else e.gr.pcGet t

/-- In `gr` the threads of `e` that act stand where `f` sends them, the others as `restPc` says. -/
def Moves (e : Env) (gr : Group) (f : Nat → BitVec 64) : Prop :=
  ∀ t, t < 64 → gr.pcGet t = if e.act.getLsbD t then f t else restPc e t

/-- Thread `t` may make the access its operands ask for, of kind 1 read, 2 write or 3 atomic: its address is a multiple of the width (R133), lies in the
context's mapping with the right it needs (R134), no watchpoint covers it (R115), and its stack answers (R311, R486). -/
structure MayAccess (kind : Nat) (s : State) (e : Env) (t : Nat) : Prop where
  aligned : e.addr t % accWidth e.i = 0
  mapped : mayAccess e.ctx e.c (kind != 1) (e.addr t) (accWidth e.i) = true
  unwatched : watchHit s e kind (e.addr t) (accWidth e.i) = none
  answers : unavailable s (e.addr t) (accWidth e.i) = false

/-- What an atomic leaves at its address, by the value there, its operand and the value it compares with (R133, Table 4.12). -/
def atomNew (m : Mn) (sg : Bool) {w : Nat} (old x cmp : BitVec w) : BitVec w :=
  match m with
  | .atomAdd => old + x
  | .atomMin => if (if sg then x.slt old else x.ult old) then x else old
  | .atomMax => if (if sg then old.slt x else old.ult x) then x else old
  | .atomAnd => old &&& x
  | .atomOr => old ||| x
  | .atomXor => old ^^^ x
  | .atomXchg => x
  | _ => if old = cmp then x else old

/-- The rows of the eight atomics. -/
def atomRows (g : GroupId) : List (Mn × Instr) :=
  [(.atomAdd, .atomAdd g), (.atomMin, .atomMin g), (.atomMax, .atomMax g), (.atomAnd, .atomAnd g), (.atomOr, .atomOr g), (.atomXor, .atomXor g),
    (.atomXchg, .atomXchg g), (.atomCas, .atomCas g)]

/-- The rows of the group-collective instructions (R99). -/
def engineRows (g : GroupId) : List (Mn × Instr) :=
  [(.mcfg, .mcfg g), (.mload, .mload g), (.mmul, .mmul g), (.mfill, .mfill g), (.madapt, .madapt g), (.mdrain, .mdrain g), (.streamIssue, .streamIssue g)]

/-- A group-collective instruction of `e` has executed from `s` to `t`: every live thread of the group continues at the next instruction, and its
registers, the other groups, memory, the synchronisation objects and the accumulator elements stand as they were. -/
structure PassesOn (s t : State) (g : GroupId) (e : Env) : Prop where
  group : ∃ gr, t.group? g = some gr ∧ gr.collMask = 0 ∧ gr.live = e.gr.live ∧ gr.v = e.gr.v ∧ gr.u = e.gr.u ∧ gr.p = e.gr.p ∧
    ∀ th, th < 64 → gr.pcGet th = if e.gr.live.getLsbD th then BitVec.ofNat 64 e.i.next else e.gr.pcGet th
  others : ∀ h, groupKey h ≠ groupKey g → t.group? h = s.group? h
  mem : t.mem = s.mem
  sync : t.sync = s.sync
  acc : ∀ c, (t.cluster c).acc = (s.cluster c).acc

/-- The number of threads of a block's groups that `f` counts. -/
def blockThreads (s : State) (gs : List GroupId) (f : GroupId → Group → BitVec 64) : Nat :=
  (gs.map (fun h => (s.group? h).elim 0 (fun x => popMask (f h x)))).sum

/-! ## Chain frames -/

/-- The row that a chain frame's TYPE selects (Table 2.23). -/
def chainRow (f : ChainFrame) : Instr :=
  if f.type = 0x01 then .enum f else if f.type = 0x02 then .healthReq f else if f.type = 0x04 then .powerOn f else if f.type = 0x05 then .powerOff f
  else if f.type = 0x06 then .stop f else if f.type = 0x07 then .reset f else if f.type = 0x08 then .recovery f else if f.type = 0x09 then .rescueData f
  else .chainFrameOther f

/-- A frame with a good CRC, addressed to the module's own chain address, in a module that does not pass the chain through. -/
def Addressed (s : State) (f : ChainFrame) : Prop :=
  passing s = false ∧ chainGood f = true ∧ f.dest ≠ 0xFF ∧ s.lantern.chainAddr = some f.dest

/-- The state in which an action frame is acted on: it is remembered for its source, and its ACK has gone out. -/
def acked (s : State) (f : ChainFrame) : State :=
  sendFrame (s.setLantern { s.lantern with chainLast := Sparse.set s.lantern.chainLast f.src.toNat (f.type, f.seq, ackFrame s f) }) (ackFrame s f)

/-! ## Packets -/

/-- The `n`-th packet that has arrived is of transaction `txn`, its turn has come, its CRC is good, and `q` is it in clear (R373, Table 11.10a). -/
def Arrives (txn : Nat) (s : State) (n : Nat) (q : Packet) : Prop :=
  ∃ p link, arrival s n txn = some (p, link) ∧ p.crc.toNat = crc32c (crcCover p p.data) ∧ openPacket s p = some q

/-- The transactions that are checked against the bound context's memory, with their rows and what each needs. -/
def packetRows (n : Nat) : List (Nat × Instr × (Packet → Need)) :=
  [(1, .putPacket n, dataNeed), (2, .getReq n, getNeed), (4, .accPacket n, dataNeed), (6, .atomicReq n, atomicNeed), (9, .permutePacket n, dataNeed)]

/-! ## Links -/

/-- Link `n` can move: the main domain is up, its clock runs and its belfry die is in service (R348, R353, R513). -/
structure Served (s : State) (n : Nat) : Prop where
  exist : n < 48
  up : s.on = true
  clock : s.carrier.refLink = true
  die : s.carrier.isolated.contains (24 + n % 8) = false

/-- Rows that move a link from one state to the next (Table 11.2): the row, the state it leaves and the state it enters. -/
def trainRows (n : Nat) : List (Instr × LinkState × LinkState) :=
  [(.linkSignalDetect n, .detect, .equalise), (.equaliseDone n, .equalise, .align), (.alignDone n, .align, .exchange), (.downTimeout n, .down, .detect)]

/-- A flit with a good CRC whose header word is `h` (R355, R356). -/
def GoodFlit (bytes : List Byte) (h : Nat) : Prop := bytes.length = 256 ∧ crc64xz (bytes.take 248) = field bytes 248 8 ∧ field bytes 0 8 = h

/-! ## Jobs -/

/-- Row `i` answers a next state in which context `n` has a job, and `P` holds of that state and that job. -/
def JobGives (i : Instr) (s : State) (n : Nat) (P : State → Job → Prop) : Prop :=
  ∃ t x j, Machine.exec i s = .next t ∧ jobAt t n = some (x, j) ∧ P t j

/-- The children of this member in the commit tree (R419). -/
def below (s : State) (j : Job) : List Nat := ((ownRank s j).map (childrenOf j)).getD []

end Sys2Proof
end

