-- ==== Sys2Proof/Certificates/Slice0/Obligations.lean ====
section
/-! DEFINITION. The statements for the provers: what the rules of the spec say the module's rows do. -/

open Sys2Proof Sys2Proof.Machine

/-! ## BAR0 and the rings -/

/-- R39, Tables 2.6 and 2.7: the write that moves EN from 0 to 1 starts the rings with READY 1 and the head and tails 0 when both sizes lie in 4 to 12;
otherwise EN stays 0, ERR_CFG and the cause RING_ERR are set, and the ring is else as it was. That every base is in range is the model's reading. -/
def Obligations.RingEnableStartsOrRefuses : Prop :=
  ∀ (s : State) (r : RingId) (v : BitVec 32), served s r = true → v.getLsbD 0 = true → (s.ring r).en = false → (s.ring r).ready = false →
    let sq := v.toNat / 2 ^ 8 % 16
    let cq := v.toNat / 2 ^ 12 % 16
    ((4 ≤ sq ∧ sq ≤ 12 ∧ 4 ≤ cq ∧ cq ≤ 12) →
      exec (.ringEnable r v) s = .next (s.setRing r
        { s.ring r with
          en := true, ready := true, loc := v.getLsbD 1, sqLog2 := BitVec.ofNat 4 sq, cqLog2 := BitVec.ofNat 4 cq, errCfg := false,
          errFetch := false, errDb := false, sqHead := 0, sqTail := 0, cqHead := 0, cqTail := 0, phase := true })) ∧
    (¬(4 ≤ sq ∧ sq ≤ 12 ∧ 4 ≤ cq ∧ cq ≤ 12) →
      Gives (.ringEnable r v) s (fun t => (t.ring r).hisStatus.getLsbD 2 = true ∧
        t.ring r = { s.ring r with errCfg := true, hisStatus := (t.ring r).hisStatus } ∧ t.fnEvents = s.fnEvents ∧ t.mem = s.mem))

/-- R40, R43, Table 2.10a: a write of EN = 0 stops fetching and keeps READY and the configuration; with EN 0 and READY 0 a write of LMB_CTRL or of a base
stores the fields; while EN is 1 or READY is 1 every other such write changes nothing but ERR_CFG and RING_ERR. -/
def Obligations.RingConfigurationFollowsTable : Prop :=
  ∀ (s : State) (r : RingId), served s r = true →
    (∀ v : BitVec 32, v.getLsbD 0 = false → (s.ring r).en = true →
      Gives (.ringDisable r v) s (fun t => (t.ring r).en = false ∧ (t.ring r).ready = (s.ring r).ready ∧ (t.ring r).sqLog2 = (s.ring r).sqLog2 ∧
        (t.ring r).cqLog2 = (s.ring r).cqLog2 ∧ (t.ring r).loc = (s.ring r).loc ∧ (t.ring r).sqBase = (s.ring r).sqBase ∧
        (t.ring r).cqBase = (s.ring r).cqBase)) ∧
    (∀ v : BitVec 32, v.getLsbD 0 = false → (s.ring r).en = false → (s.ring r).ready = false →
      exec (.ringConfigWrite r v) s = .next (s.setRing r
        { s.ring r with loc := v.getLsbD 1, sqLog2 := BitVec.ofNat 4 (v.toNat / 2 ^ 8), cqLog2 := BitVec.ofNat 4 (v.toNat / 2 ^ 12) })) ∧
    (∀ v : BitVec 32, ((s.ring r).en = true ∧ v.getLsbD 0 = true) ∨ ((s.ring r).en = false ∧ (s.ring r).ready = true) →
      exec (.ringConfigWrite r v) s = .next (ringErr s r .cfg)) ∧
    (∀ v : BitVec 64, (s.ring r).en = false → (s.ring r).ready = false →
      exec (.ringBaseWrite r 0x050 true v) s = .next (s.setRing r { s.ring r with sqBase := BitVec.ofNat 64 (v.toNat / 4096 * 4096) }) ∧
      exec (.ringBaseWrite r 0x058 true v) s = .next (s.setRing r { s.ring r with cqBase := BitVec.ofNat 64 (v.toNat / 4096 * 4096) })) ∧
    (∀ (off : Nat) (v : BitVec 64), off = 0x050 ∨ off = 0x058 → (s.ring r).en = true ∨ (s.ring r).ready = true →
      exec (.ringBaseWrite r off true v) s = .next (ringErr s r .cfg)) ∧
    (ringErr s r .cfg).ring r = { s.ring r with errCfg := true, hisStatus := (s.ring r).hisStatus ||| 4 }

/-- R42, R51: a doorbell value of the ring's size or more sets ERR_DOORBELL and fetches nothing; while READY = 0 the write is ignored; a good value
that moves the tail by one entry fetches that entry: its command is then outstanding, unless its TAG names an outstanding command, and SQ_HEAD has moved on. -/
def Obligations.DoorbellFetchesOrRefuses : Prop :=
  ∀ (s : State) (r : RingId) (v : BitVec 32), served s r = true →
    ((s.ring r).ready = false → exec (.lmbDoorbell r v) s = .next s) ∧
    ((s.ring r).ready = true → (s.ring r).sqSize ≤ v.toNat % 2 ^ 16 → exec (.lmbDoorbell r v) s = .next (ringErr s r .db)) ∧
    ((s.ring r).ready = true → (s.ring r).en = true → (s.ring r).sqHead = (s.ring r).sqTail → (s.ring r).sqHead < (s.ring r).sqSize →
      1 < (s.ring r).sqSize → v.toNat % 2 ^ 16 = ((s.ring r).sqHead + 1) % (s.ring r).sqSize →
      (s.ring r).loc = true ∨ hostFails s ((s.ring r).sqAddr + 64 * (s.ring r).sqHead) 64 = false →
      let c := parseCmd (ringRead s r ((s.ring r).sqAddr + 64 * (s.ring r).sqHead) 64)
      tagTaken (s.ring r) c.tag = false → shedOf s r.fn ≠ 3 →
      Gives (.lmbDoorbell r v) s (fun t => (t.ring r).out = (s.ring r).out ++ [c] ∧ (t.ring r).sqHead = ((s.ring r).sqHead + 1) % (s.ring r).sqSize ∧
        (t.ring r).cqTail = (s.ring r).cqTail))

/-- R38: a low-word read of a 64-bit register returns its low word and latches its high word; a read of the high word alone returns the latched value. R8,
Table 2.11: a write to HIS_STATUS clears the causes written 1, a write to HIS_MASK stores it, a write to CQ_HEAD stores it. R43: the rings have stopped
once every fetched command has completed with its entry written. -/
def Obligations.Bar0RegistersReadAndWrite : Prop :=
  ∀ (s : State) (r : RingId),
    (served s r = true → ∀ off, off = 0x000 ∨ off = 0x008 ∨ off = 0x010 ∨ off = 0x050 ∨ off = 0x058 →
      Gives (.bar0LowRead r off) s (fun t => (t.ring r).rdata = BitVec.ofNat 32 ((reg64 s r off).toNat) ∧
        (∀ u, u.ring r = t.ring r → served u r = true → Gives (.bar0LowRead r (off + 4)) u (fun w =>
          (w.ring r).rdata = BitVec.ofNat 32 ((reg64 s r off).toNat / 2 ^ 32))))) ∧
    (served s r = true → ∀ v : BitVec 32,
      exec (.registerWrite r 0x080 v) s = .next (s.setRing r { s.ring r with hisStatus := (s.ring r).hisStatus &&& ~~~(v.setWidth 6) }) ∧
      exec (.registerWrite r 0x084 v) s = .next (s.setRing r { s.ring r with hisMask := v.setWidth 6 }) ∧
      exec (.registerWrite r 0x04C v) s = .next (s.setRing r { s.ring r with cqHead := v.setWidth 16 }) ∧
      exec (.registerWrite r 0x044 v) s = .next s) ∧
    ((s.ring r).en = false → (s.ring r).ready = true → (s.ring r).out = [] → (s.ring r).waiting = [] →
      exec (.ringStopComplete r) s = .next (s.setRing r { s.ring r with ready := false }))

/-- R44, R45, Table 2.14: with room in the completion ring an entry is written at its next slot in the 16-byte form, with the PHASE of the pass, and the
tail moves on, PHASE inverting as it wraps; in a full ring a completion waits in order and nothing is written; a waiting completion is written
once there is room. -/
def Obligations.CompletionsAreWrittenOrWait : Prop :=
  ∀ (s : State) (r : RingId) (e : CqEntry),
    ((s.ring r).cqFull = false → (s.ring r).waiting = [] → (s.ring r).cqTail < (s.ring r).cqSize → (s.ring r).loc = false →
      let t := postCompletion s r e
      (t.ring r).cqTail = ((s.ring r).cqTail + 1) % (s.ring r).cqSize ∧
      (t.ring r).phase = (if (s.ring r).cqTail + 1 = (s.ring r).cqSize then !(s.ring r).phase else (s.ring r).phase) ∧
      Memory.load t.hostMem ((s.ring r).cqBase.toNat / 4096 * 4096 + 16 * (s.ring r).cqTail) 16 = cqBytes e (s.ring r).phase ∧
      (t.ring r).out = (s.ring r).out) ∧
    ((s.ring r).cqFull = true → postCompletion s r e = s.setRing r { s.ring r with waiting := (s.ring r).waiting ++ [e] }) ∧
    (∀ rest, (s.ring r).ready = true → (s.ring r).cqFull = false → (s.ring r).waiting = e :: rest →
      exec (.completionDeferred r) s = .next (writeCq (s.setRing r { s.ring r with waiting := rest }) r e))

/-- R46, R54, R55: completing a command removes it from the outstanding commands of its ring, writes at most RESULT_LEN bytes of its result at RESULT_ADDR,
and posts one entry with its TAG, code, status, DETAIL and the bytes written. With LOC = 0 a result that cannot be written ends it with ABORTED, DETAIL 5. -/
def Obligations.FinishPostsOneCompletion : Prop :=
  ∀ (s : State) (r : RingId) (c : OutCmd) (status detail : Nat) (bytes : List Byte),
    (s.ring r).out.find? (fun x => x.tag == c.tag) = some c → (s.ring r).loc = false →
    let u := s.setRing r { s.ring r with out := (s.ring r).out.filter (fun x => x.tag != c.tag) }
    let bs := bytes.take c.resultLen
    (bs = [] → finish s r c.tag status detail bytes = postCompletion u r (cqEntry c status detail 0 false)) ∧
    (bs ≠ [] → hostFails s c.resultAddr bs.length = false → finish s r c.tag status detail bytes =
      postCompletion (u.setHost (Memory.store s.hostMem c.resultAddr bs)) r (cqEntry c status detail bs.length false)) ∧
    (bs ≠ [] → hostFails s c.resultAddr bs.length = true → finish s r c.tag status detail bytes =
      postCompletion (ringErr u r .fetch) r (cqEntry c 7 5 0 false))

/-- R10, R47, R48, R49: the first failing check decides. An unassigned code, or a VERSION other than 1, completes with BAD_COMMAND; a header or argument
field out of range completes with BAD_ARGUMENT and DETAIL the least offset at fault; neither has another effect. R53: at its TIMEOUT_MS a command that has
not started completes with TIMEOUT. A function level reset leaves the function's ring registers at their reset values and its BAR2 memory as it was. -/
def Obligations.BadCommandsHaveNoEffect : Prop :=
  (∀ (s : State) (r : RingId) (c : OutCmd), (s.ring r).out.find? (fun x => x.tag == c.tag) = some c → startable s r c = true →
    (assignedCode c.opcode.toNat = false ∨ c.version ≠ 1) → exec (.unassignedCommand r c.tag) s = .next (finish s r c.tag 2 0 [])) ∧
  (∀ (k : Cmd) (s : State) (r : RingId) (c : OutCmd) (o : Nat), (s.ring r).out.find? (fun x => x.tag == c.tag) = some c → c.opcode.toNat = k.code →
    c.version = 1 → startable s r c = true → deferDebug s r c = false →
    leastBad ((headerBad (s.ring r) k c ++ k.bad s r c).filter (fun b => decide (b.2 < 64))) = some o →
    runCmd k r c.tag s = .next (finish s r c.tag 3 o [])) ∧
  (∀ (bs : List (Bool × Nat)) (o : Nat), leastBad bs = some o ↔ (true, o) ∈ bs ∧ ∀ b ∈ bs, b.1 = true → o ≤ b.2) ∧
  (∀ (s : State) (r : RingId) (c : OutCmd) (ms : Nat), (s.ring r).out.find? (fun x => x.tag == c.tag) = some c → c.started = false → c.timeoutMs ≤ ms →
    exec (.commandTimeout r c.tag ms) s = .next (finish s r c.tag 10 ms [])) ∧
  (∀ (s : State) (r : RingId), served s r = true →
    Gives (.functionLevelReset r) s (fun t => t.ring r = { Ring.fresh with bar2 := (s.ring r).bar2 } ∧ t.fnEvents = s.fnEvents ∧ t.keep = s.keep ∧
      t.ctxs = s.ctxs ∧ t.mem = s.mem))

/-! ## Management commands, the lantern and telemetry -/

/-- R56, Table 2.17: the management range is 0x0100 to 0x010D, and from a VF every command of it but NOP, IDENTIFY and EVENT_GET completes with DENIED,
reason 1, and no other effect. -/
def Obligations.ManagementIsForPf0 : Prop :=
  ∀ (s : State) (r : RingId) (c : OutCmd) (p : List Byte), r.fn ≠ 0 →
    (Ready cmdFwStage s r c p → RefusesWith (.fwStage r c.tag) s r c p 4 1) ∧
    (Ready cmdFwCommit s r c p → RefusesWith (.fwCommit r c.tag) s r c p 4 1) ∧
    (Ready cmdFwActivate s r c p → RefusesWith (.fwActivate r c.tag) s r c p 4 1) ∧
    (Ready cmdCmdAbort s r c p → RefusesWith (.cmdAbort r c.tag) s r c p 4 1) ∧
    (Ready cmdModuleReset s r c p → RefusesWith (.moduleReset r c.tag) s r c p 4 1) ∧
    (Ready cmdSurveyStart s r c p → RefusesWith (.surveyStart r c.tag) s r c p 4 1) ∧
    (Ready cmdSurveyStatus s r c p → RefusesWith (.surveyStatus r c.tag) s r c p 4 1) ∧
    (Ready cmdDetach s r c p → RefusesWith (.detach r c.tag) s r c p 4 1) ∧
    (Ready cmdAttach s r c p → RefusesWith (.attach r c.tag) s r c p 4 1) ∧
    (Ready cmdLanternSwitch s r c p → RefusesWith (.lanternSwitch r c.tag) s r c p 4 1) ∧
    (Ready cmdSurveyAccept s r c p → RefusesWith (.surveyAccept r c.tag) s r c p 4 1) ∧
    [cmdNop, cmdIdentify, cmdFwStage, cmdFwCommit, cmdFwActivate, cmdEventGet, cmdCmdAbort, cmdModuleReset, cmdSurveyStart, cmdSurveyStatus, cmdDetach,
      cmdAttach, cmdLanternSwitch, cmdSurveyAccept].map (fun k => k.code) = (List.range 14).map (fun i => 0x0100 + i)

/-- Tables 2.17, 2.17a and 2.22a: NOP completes with OK and no effect; IDENTIFY returns 64 bytes with IDENT, FWVER, FABRIC and MSTATE at their offsets;
EVENT_GET returns the kept record of the sequence number asked for, up to 256 bytes; SURVEY_STATUS returns the 32-byte survey record. -/
def Obligations.NopIdentifyEventAndSurveyResults : Prop :=
  ∀ (s : State) (r : RingId) (c : OutCmd) (p : List Byte),
    (Ready cmdNop s r c p → CompletesWith (.nop r c.tag) s r c (begun s r c p) []) ∧
    (Ready cmdIdentify s r c p → ∃ b, b.length = 64 ∧ CompletesWith (.identify r c.tag) s r c (begun s r c p) b ∧
      field b 0 8 = (lidIdent s r).toNat ∧ field b 8 8 = (lidFwver s).toNat ∧ field b 16 8 = (lidFabric s).toNat ∧
      byteAt b 34 = BitVec.ofNat 8 (mstateCode s.lantern.mstate)) ∧
    (∀ e, Ready cmdEventGet s r c p → (s.fev r.fn).recs.find? (fun x => x.seq == c.arg 0 8) = some e → (e.bytes.take 256).length ≤ c.resultLen →
      CompletesWith (.eventGet r c.tag) s r c (begun s r c p) (e.bytes.take 256)) ∧
    (r.fn = 0 → Ready cmdSurveyStatus s r c p → (surveyBytes s.lantern.survey).length = 32 ∧
      CompletesWith (.surveyStatus r c.tag) s r c (begun s r c p) (surveyBytes s.lantern.survey) ∧
      byteAt (surveyBytes s.lantern.survey) 0 = BitVec.ofNat 8 s.lantern.survey.st)

/-- R59, R60, R464, Table 2.18: FW_STAGE stages its payload at its offset; FW_COMMIT of an image that passes the checks starts to write, and its end leaves
the image PENDING in the inactive slot and nothing staged; FW_ACTIVATE of a PENDING slot is a module warm reset that boots it on TRIAL. -/
def Obligations.FirmwareIsStagedCommittedAndActivated : Prop :=
  ∀ (s : State) (r : RingId) (c : OutCmd) (p : List Byte), r.fn = 0 →
    (Ready cmdFwStage s r c p → s.lantern.staged = none →
      CompletesWith (.fwStage r c.tag) s r c
        ((begun s r c p).setLantern { s.lantern with staged := some (c.arg 4 4, stageBytes [] (c.arg 0 4) p) }) []) ∧
    (∀ b, Ready cmdFwCommit s r c p → stagedImage s = some b → imageBad s b = none → (getSlot s (inactiveSlot s)).st = .valid →
      exec (.fwCommit r c.tag) s =
        .next (setOut ((begun s r c p).setLantern { s.lantern with fwWriting := true }) r c.tag (fun y => { y with stage := 2 }))) ∧
    (∀ b, Waiting cmdFwCommit s r c → stagedImage s = some b →
      ∃ t, CompletesWith (.fwCommit r c.tag) s r c t (leBytes 4 (imgVersion b).toNat) ∧ (getSlot t (inactiveSlot s)).st = .pending ∧
        (getSlot t (inactiveSlot s)).image = b ∧ t.lantern.staged = none ∧ t.lantern.fwWriting = false ∧ t.keep = s.keep ∧ t.mem = s.mem) ∧
    (∀ b, Ready cmdFwActivate s r c p → pendingSlot s = some b →
      let w := warmEnd (begun s r c p)
      let t := setSlot w b { getSlot w b with st := .trial }
      exec (.fwActivate r c.tag) s = .next (startBoot (t.setLantern { t.lantern with bootSlot := b })))

/-- R59, R464, R499, Table 2.18: BOOT_COMPLETE makes MSTATE READY with the lantern serving; a boot slot on TRIAL is then ACTIVE and the anti-rollback fuses
are at least its SVN; the boot watchdog restarts the module from the other slot. -/
def Obligations.BootReachesReadyOrRestarts : Prop :=
  ∀ s : State, s.on = true → s.lantern.mstate = .boot →
    (s.keep.lc ≠ 7 → Gives .bootComplete s (fun t => t.lantern.mstate = .ready ∧ t.lantern.serving = true ∧ t.lantern.bootFails = 0 ∧
      t.lantern.restartBy = [] ∧ t.mem = s.mem ∧ t.ctxs = s.ctxs ∧
      ((getSlot s s.lantern.bootSlot).st = .trial → (getSlot t s.lantern.bootSlot).st = .active ∧ t.keep.svn = Nat.max s.keep.svn (getSlot s s.lantern.bootSlot).svn) ∧
      ((getSlot s s.lantern.bootSlot).st ≠ .trial → t.keep = s.keep))) ∧
    (let w := otherBoot (warmEnd s)
     exec .bootWatchdog s = .next (startBoot (w.setLantern { w.lantern with bootFails := w.lantern.bootFails + 1 })) ∧
       w.lantern.bootSlot = !(warmEnd s).lantern.bootSlot)

/-- R57, Table 2.17: CMD_ABORT completes the named command that has not started with ABORTED, cause 1, and itself with OK. MODULE_RESET is a module warm
reset. R67: LANTERN_SWITCH with a standby completes with OK after the takeover, and a missed heartbeat is the same takeover: STANDBY is set and LANTERN_CHANGE
raised in every ring. -/
def Obligations.AbortResetAndTakeover : Prop :=
  (∀ (s : State) (r : RingId) (c x : OutCmd) (p : List Byte), r.fn = 0 → Ready cmdCmdAbort s r c p →
    let q : RingId := ⟨r.port, c.arg 2 1⟩
    (s.ring q).out.find? (fun y => y.tag.toNat == c.arg 0 2) = some x → x.tag ≠ c.tag → x.started = false →
    CompletesWith (.cmdAbort r c.tag) s r c (finish (begun s r c p) q x.tag 7 1 []) []) ∧
  (∀ (s : State) (r : RingId) (c : OutCmd) (p : List Byte), r.fn = 0 → Ready cmdModuleReset s r c p →
    exec (.moduleReset r c.tag) s = .next (startBoot (selectBoot (warmEnd (begun s r c p))))) ∧
  (∀ (s : State) (r : RingId) (c : OutCmd) (p : List Byte), r.fn = 0 → Ready cmdLanternSwitch s r c p → standbyWaits s = true →
    CompletesWith (.lanternSwitch r c.tag) s r c (takeover (begun s r c p) (fun x => x.tag == c.tag && x.opcode == c.opcode && x.started)) []) ∧
  (∀ s : State, s.on = true → s.lantern.serving = true → standbyWaits s = true →
    Gives .lanternHeartbeatMiss s (fun t => t.lantern.standby = true ∧ (∀ q ∈ ringIds, (t.ring q).hisStatus.getLsbD 3 = true) ∧
      t.groups = s.groups ∧ t.keep = s.keep ∧ t.mem = s.mem))

/-- R508, Tables 15.9 and 15.11: a module warm reset ends every context, group, engine queue, synchronisation object and ring configuration, and clears the
scratchpads; it keeps the local counter (R31), the life-cycle state, the link keys and stacked memory. -/
def Obligations.WarmResetEndsWhatItMust : Prop :=
  ∀ s : State, let t := warmEnd s
    t.ctxs = [] ∧ t.groups = [] ∧ t.clusters = [] ∧ t.units = [] ∧ t.sync = SyncSys.fresh ∧ t.time = s.time ∧ t.keep.lc = s.keep.lc ∧
    t.keep.svn = s.keep.svn ∧ t.keep.linkKeys = s.keep.linkKeys ∧ t.keep.parts = s.keep.parts ∧
    (∀ r ∈ ringIds, t.ring r = { Ring.fresh with hisStatus := 8 }) ∧
    (∀ a, spBase ≤ a → a < spBase + 640 * spBytes → Memory.read t.mem.bytes a = 0)

/-- R68 to R72, Tables 2.21 and 2.22: SURVEY_START with the seed flag places the module at the origin with fabric ID 0; without it the survey is under way; a
first probe that checks out gives the module its coordinate, and a later one that disagrees leaves SURVEY_CONFLICT; SURVEY_ACCEPT leaves MISMATCH for JOINED;
ATTACH in READY with a surveyed place gives JOINED; an immediate DETACH gives DETACHED; each other state answers NOT_IN_STATE with its code. -/
def Obligations.SurveyAttachAndDetach : Prop :=
  (∀ (s : State) (r : RingId) (c : OutCmd) (p : List Byte), r.fn = 0 →
    (Ready cmdSurveyStart s r c p → c.arg 7 1 = 0 → ∃ t, CompletesWith (.surveyStart r c.tag) s r c t [] ∧ t.lantern.survey.st = 1 ∧
      t.lantern.lengths = (List.range 6).map (fun i => c.arg i 1) ∧ t.fabric = s.fabric ∧ t.mem = s.mem) ∧
    (Ready cmdSurveyStart s r c p → c.arg 7 1 = 1 → ∃ t, CompletesWith (.surveyStart r c.tag) s r c t [] ∧ t.lantern.survey.st = 2 ∧
      t.lantern.fabricId = 0 ∧ t.lantern.coord = [0, 0, 0, 0, 0, 0] ∧ t.lantern.fabValid = true ∧ t.mem = s.mem) ∧
    (Ready cmdSurveyAccept s r c p → s.lantern.mstate = .mismatch →
      CompletesWith (.surveyAccept r c.tag) s r c ((begun s r c p).setLantern { s.lantern with mstate := .joined, fabValid := true }) []) ∧
    (Ready cmdSurveyAccept s r c p → s.lantern.mstate ≠ .mismatch →
      RefusesWith (.surveyAccept r c.tag) s r c p 5 (mstateCode s.lantern.mstate)) ∧
    (Ready cmdAttach s r c p → s.lantern.mstate = .ready → s.lantern.survey.st = 2 → ∃ t, CompletesWith (.attach r c.tag) s r c t [] ∧
      t.lantern.mstate = .joined ∧ t.fabric.dead = [] ∧ t.keep = s.keep ∧ t.mem = s.mem) ∧
    (Ready cmdAttach s r c p → s.lantern.mstate ≠ .ready → s.lantern.mstate ≠ .detached →
      RefusesWith (.attach r c.tag) s r c p 5 (mstateCode s.lantern.mstate)) ∧
    (Ready cmdDetach s r c p → s.lantern.mstate = .joined → c.arg 0 1 = 1 → ∃ t, CompletesWith (.detach r c.tag) s r c t [] ∧
      t.lantern.mstate = .detached) ∧
    (Ready cmdDetach s r c p → s.lantern.mstate ≠ .joined → RefusesWith (.detach r c.tag) s r c p 5 (mstateCode s.lantern.mstate))) ∧
  (∀ (s : State) (port : Nat) (x : SurveyProbe), port < 12 → s.on = true → portLive s port = true → s.lantern.mstate ≠ .recovery →
    (s.lantern.survey.st = 1 → shelfOrdered x.shelf = true → shelfNeighbours s port x = true →
      Gives (.surveyProbe port x) s (fun t => t.lantern.survey.st = 2 ∧ t.lantern.coord = probeCoord port x ∧ t.lantern.fabValid = true ∧
        t.lantern.survey.port = some port)) ∧
    (s.lantern.survey.st = 2 → probeCoord port x ≠ s.lantern.survey.coord →
      Gives (.surveyProbe port x) s (fun t => t.lantern.survey.st = 3 ∧ t.lantern.survey.fabricId = none ∧ t.lantern.fabValid = false ∧
        t.lantern.survey.confCoord = probeCoord port x ∧ t.lantern.survey.confPort = some port)))

/-- R69: a graceful DETACH whose TIMEOUT_MS is reached goes on as an immediate one (halt every partition, then the rest of Table 2.22) and completes with OK
and DETAIL 1. -/
def Obligations.GracefulDetachTurnsImmediate : Prop :=
  ∀ (s : State) (r : RingId) (c : OutCmd) (ms : Nat), Waiting cmdDetach s r c → c.timeoutMs ≤ ms →
    exec (.commandTimeout r c.tag ms) s = .next (finish (detachEnd (detachHalt s)) r c.tag 0 1 [])

/-- R63 to R66, Tables 2.19 and 2.20: TLM_LIST returns the identifiers from the one asked for, four bytes each; TLM_READ returns the local counter, a step
epoch and the counters asked for; TLM_SAMPLE_CFG sets the period; a sample carries the time, an epoch and the counters; a window of load of at most 85 percent
leaves shed level 0 alone, one above 97 percent makes it 3. -/
def Obligations.TelemetryAndShedding : Prop :=
  (∀ (s : State) (r : RingId) (c : OutCmd) (p : List Byte),
    (Ready cmdTlmList s r c p → ((tlmIds.filter (fun x => decide (c.arg 0 4 ≤ x))).map (leBytes 4)).flatten.length ≤ c.resultLen →
      CompletesWith (.tlmList r c.tag) s r c (begun s r c p) ((tlmIds.filter (fun x => decide (c.arg 0 4 ≤ x))).map (leBytes 4)).flatten) ∧
    (∀ ids, Ready cmdTlmRead s r c p → ids = (List.range (p.length / 4)).map (fun i => field p (4 * i) 4) → ids.all tlmKnown = true →
      16 + 8 * ids.length ≤ c.resultLen →
      CompletesWith (.tlmRead r c.tag) s r c (begun s r c p)
        (leBytes 8 s.time.toNat ++ leBytes 8 (tlmEpoch s r.fn) ++ ids.flatMap (fun i => leBytes 8 (s.counter i)))) ∧
    (Ready cmdTlmSampleCfg s r c p →
      CompletesWith (.tlmSampleCfg r c.tag) s r c ((begun s r c p).setLantern { s.lantern with tlmPeriod := c.arg 0 4, tlmStretch := 1, tlmSkip := 0 }) [])) ∧
  (∀ s : State, s.on = true → s.lantern.serving = true →
    (s.lantern.tlmSkip = 0 → Gives .telemetrySample s (fun t =>
      t.lantern.samples = s.lantern.samples ++ [{ time := s.time, epoch := anyEpoch s, values := s.counters }] ∧ t.mem = s.mem ∧ t.keep = s.keep)) ∧
    (∀ load, load ≤ 85 → s.lantern.shed = 0 → Gives (.loadWindow load []) s (fun t => t.lantern.shed = 0 ∧ t.lantern.load = load ∧ t.mem = s.mem)) ∧
    (∀ load, 97 < load → load ≤ 100 → s.lantern.shed ≤ 3 → Gives (.loadWindow load []) s (fun t => t.lantern.shed = 3 ∧ t.lantern.load = load)))

/-! ## The chain -/

/-- R74, R75: a frame whose CRC fails, one addressed to another module, and every frame of a module that passes the chain through, goes on as it came and
changes nothing else; a broadcast HEALTH_REQ draws no reply. -/
def Obligations.ChainFramesGoOnUntouched : Prop :=
  ∀ (s : State) (f : ChainFrame),
    (passing s = true ∨ chainGood f = false ∨ (f.dest ≠ 0xFF ∧ s.lantern.chainAddr ≠ some f.dest) → exec (chainRow f) s = .next (sendFrame s f)) ∧
    (f.dest = 0xFF → f.type = 0x02 → exec (chainRow f) s = .next (sendFrame s f)) ∧
    (sendFrame s f).tx.chain = s.tx.chain ++ [f] ∧ (sendFrame s f).lantern = s.lantern ∧ (sendFrame s f).keep = s.keep

/-- R75 to R78, Table 2.23: a broadcast ENUM gives the module the token as its address and goes on with the next token and the SLOTID appended; with
a token above 0x40 it gives none and 0xFF is appended; an addressed HEALTH_REQ is answered with the health payload; an addressed frame of an
unknown type draws NAK, reason 1; an action frame that repeats the last one acted on draws the same reply and no other effect. -/
def Obligations.ChainEnumeratesAndReplies : Prop :=
  (∀ (s : State) (f : ChainFrame), passing s = false → chainGood f = true → f.dest = 0xFF → f.len = f.payload.length → 3 ≤ f.len → f.len < 1024 →
    f.type = 0x01 → ∀ token, token = byteAt f.payload 2 →
    (token.toNat ≤ 0x40 → Gives (.enum f) s (fun t => t.lantern.chainAddr = some token ∧ t.lantern.shelf.toNat = field f.payload 0 2 ∧
      t.tx.chain = s.tx.chain ++ [sealFrame f.dest f.src f.type f.seq (f.payload.set 2 (token + 1) ++ [s.part.slotid.setWidth 8])] ∧ t.carrier = s.carrier)) ∧
    (0x40 < token.toNat → Gives (.enum f) s (fun t => t.lantern.chainAddr = none ∧
      t.tx.chain = s.tx.chain ++ [sealFrame f.dest f.src f.type f.seq (f.payload ++ [0xFF])] ∧ t.carrier = s.carrier))) ∧
  (∀ (s : State) (f : ChainFrame), Addressed s f →
    (f.type = 0x02 → f.len = 0 → f.payload = [] → Gives (.healthReq f) s (fun t =>
      t.tx.chain = s.tx.chain ++ [sealFrame f.src f.dest 0x03 f.seq (healthBytes s)] ∧ t.lantern = s.lantern ∧ t.keep = s.keep ∧ t.mem = s.mem)) ∧
    (listedType f.type = false → Gives (.chainFrameOther f) s (fun t =>
      t.tx.chain = s.tx.chain ++ [sealFrame f.src f.dest 0x0B f.seq [f.seq, 1]] ∧ t.lantern = s.lantern ∧ t.carrier = s.carrier)) ∧
    (∀ q, 0x04 ≤ f.type.toNat → f.type.toNat ≤ 0x09 → Sparse.find? s.lantern.chainLast f.src.toNat = some (f.type, f.seq, q) →
      exec (chainRow f) s = .next (sendFrame s q)))

/-- R76 to R78, R497, R508, Table 2.23b: an addressed action frame, fresh and in order in the module's state, is acknowledged and remembered, and acted on:
POWER_ON starts the cold power-up, POWER_OFF ends every context and leaves the main domain off, STOP originates halts for the masked partitions, RESET is
a module warm reset, RECOVERY restarts into a recovery boot, and RESCUE_DATA stages its bytes. -/
def Obligations.ChainActionsAreAcknowledgedAndDone : Prop :=
  ∀ (s : State) (f : ChainFrame), Addressed s f → (∀ q, Sparse.find? s.lantern.chainLast f.src.toNat ≠ some (f.type, f.seq, q)) →
    s.keep.lc ≠ 5 → s.keep.lc ≠ 7 →
    (f.type = 0x04 → f.len = 0 → f.payload = [] → s.carrier.power = .standby → s.carrier.pwrEn = true →
      exec (.powerOn f) s = .next (coldStart (acked s f))) ∧
    (f.type = 0x05 → f.len = 0 → f.payload = [] → s.on = true → s.lantern.mstate = .ready ∨ s.lantern.mstate = .recovery →
      Gives (.powerOff f) s (fun t => t.carrier.power = .standby ∧ t.ctxs = [] ∧ t.groups = [] ∧ t.lantern.chainAddr = s.lantern.chainAddr)) ∧
    (∀ m, f.type = 0x06 → f.len = 1 → f.payload = [m] → mainIsOff s = false → exec (.stop f) s = .next (chainStop m (acked s f))) ∧
    (f.type = 0x07 → f.len = 0 → f.payload = [] → mainIsOff s = false → exec (.reset f) s = .next (warmReset (acked s f))) ∧
    (∀ k, f.type = 0x08 → f.len = 1 → f.payload = [k] → k.toNat < 2 → s.carrier.power ≠ .tripped →
      Gives (.recovery f) s (fun t => t = chainRecovery k (acked s f) ∧ t.lantern.recoveryBoot = false)) ∧
    (f.type = 0x09 → f.len = f.payload.length → 4 ≤ f.len → f.len ≤ 1024 → mainIsOff s = false → wholeRescue (rescueWith s f) = none →
      Gives (.rescueData f) s (fun t => t.lantern.rescue = stageBytes s.lantern.rescue (field f.payload 0 4) (f.payload.drop 4) ∧
        t.tx.chain = s.tx.chain ++ [ackFrame s f] ∧ t.keep = s.keep ∧ t.mem = s.mem)) ∧
    (acked s f).tx.chain = s.tx.chain ++ [sealFrame f.src f.dest 0x0A f.seq [f.seq]]

/-! ## Virdy: results -/

/-- R119, R125, R181: a result reaches the destination register of each thread that acts and no other register of the group; a v register takes its low 32
bits, a u register all 64, a predicate bit 0; flags are ORed into the sticky flags of the issuing unit; nothing else changes. After that the
threads of the subset continue at the next instruction and the other threads stay where they are. -/
def Obligations.ResultsReachTheirDestinationOnly : Prop :=
  ∀ (s : State) (e : Env) (f : Nat → Word64 × Flags), s.group? e.g = some e.gr → e.act ≠ 0 →
    (actsOf e.i = .perThread → ∀ r, desig e.i.dst ≠ .u r) →
    let ts := if actsOf e.i = .perThread then threads e.act else [e.lead]
    let t := e.writeFl s f
    (∃ gr, t.group? e.g = some gr ∧
      (∀ r th, r < 64 → th < 64 → gr.vGet r th = if desig e.i.dst = .v r ∧ th ∈ ts then (f th).1.setWidth 32 else e.gr.vGet r th) ∧
      (∀ r, gr.uGet r = if desig e.i.dst = .u r then (f e.lead).1 else e.gr.uGet r) ∧
      (∀ k th, k < 8 → th < 64 → gr.pGet k th = if desig e.i.dst = .p k ∧ th ∈ ts then (f th).1.getLsbD 0 else e.gr.pGet k th) ∧
      gr.pcs = e.gr.pcs ∧ gr.live = e.gr.live ∧ gr.pend = e.gr.pend ∧ gr.sites = e.gr.sites ∧ gr.bars = e.gr.bars) ∧
    (t.unitSt (unitKey e.g)).flags = (s.unitSt (unitKey e.g)).flags ||| ts.foldl (fun a th => a ||| (f th).2) 0 ∧
    (∀ h, groupKey h ≠ groupKey e.g → t.group? h = s.group? h) ∧
    t.mem = s.mem ∧ t.ctxs = s.ctxs ∧ t.clusters = s.clusters ∧ t.sync = s.sync ∧ t.rings = s.rings ∧ t.keep = s.keep ∧ t.fabric = s.fabric ∧
    (∀ gr, t.group? e.g = some gr → actsOf e.i ≠ .collective → ∃ gr', (advance e t).group? e.g = some gr' ∧
      (∀ th, th < 64 → gr'.pcGet th = if e.mask.getLsbD th then BitVec.ofNat 64 e.i.next else gr.pcGet th) ∧ gr'.v = gr.v ∧ gr'.u = gr.u ∧ gr'.p = gr.p)

/-- Table 4.6: the integer instructions. Sums, differences and products wrap at the width; MULHI is the high half of the exact product, by the type's sign;
shifts count modulo the width; CLZ is the width at 0. -/
def Obligations.IntegerInstructionsCompute : Prop :=
  ∀ (s : State) (g : GroupId) (e : Env),
    let w := intWidth e.i
    let sg := intSigned e.i
    let less (x y : BitVec (intWidth e.i)) : Bool := if sg then x.slt y else x.ult y
    PutsInt .mov (.mov g) s g e (srcOne e) ∧
    PutsInt .add (.add g) s g e (fun t => srcA e t + srcB e t) ∧
    PutsInt .sub (.sub g) s g e (fun t => srcA e t - srcB e t) ∧
    PutsInt .mul (.mul g) s g e (fun t => srcA e t * srcB e t) ∧
    PutsInt .mulhi (.mulhi g) s g e (fun t => if sg then BitVec.ofInt _ ((srcA e t).toInt * (srcB e t).toInt / (2 ^ w : Nat))
      else BitVec.ofNat _ ((srcA e t).toNat * (srcB e t).toNat / 2 ^ w)) ∧
    PutsInt .mad (.mad g) s g e (fun t => srcA e t * srcB e t + srcC e t) ∧
    PutsInt .min (.min g) s g e (fun t => if less (srcB e t) (srcA e t) then srcB e t else srcA e t) ∧
    PutsInt .max (.max g) s g e (fun t => if less (srcA e t) (srcB e t) then srcB e t else srcA e t) ∧
    PutsInt .and (.and g) s g e (fun t => srcA e t &&& srcB e t) ∧
    PutsInt .or (.or g) s g e (fun t => srcA e t ||| srcB e t) ∧
    PutsInt .xor (.xor g) s g e (fun t => srcA e t ^^^ srcB e t) ∧
    PutsInt .shl (.shl g) s g e (fun t => srcA e t <<< ((srcB e t).toNat % w)) ∧
    PutsInt .shr (.shr g) s g e (fun t => srcA e t >>> ((srcB e t).toNat % w)) ∧
    PutsInt .sar (.sar g) s g e (fun t => (srcA e t).sshiftRight ((srcB e t).toNat % w)) ∧
    PutsInt .popc (.popc g) s g e (fun t => BitVec.ofNat _ ((List.range w).countP (fun k => (srcOne e t).getLsbD k))) ∧
    PutsInt .clz (.clz g) s g e (fun t => BitVec.ofNat _ (if srcOne e t = 0 then w else w - 1 - Nat.log2 (srcOne e t).toNat))

/-- Tables 4.6, 4.7 and 4.10: SEL takes its first source where the predicate holds and else its second; RDLANE reads the value of thread b mod 64; SREG and
ACTMASK read what their tables name; BALLOT has bit t for each acting thread t whose predicate holds. -/
def Obligations.SelectAndReadInstructionsCompute : Prop :=
  ∀ (s : State) (g : GroupId) (e : Env),
    (Issues .sel s g e → ∀ k, desig e.i.s2 = .p k →
      Commits (.sel g) s g e (e.write s (fun t => if e.gr.pGet k t then srcVal e.gr e.i e.i.s0 t else srcVal e.gr e.i e.i.s1 t))) ∧
    (Issues .rdlane s g e → ∀ r u, desig e.i.s0 = .v r → desig e.i.dst = .u u →
      Commits (.rdlane g) s g e (e.update s (fun gr => gr.uPut u ((e.gr.vGet r ((src1 e.gr e.i e.lead).toNat % 64)).setWidth 64)))) ∧
    (Issues .sreg s g e → ∀ v : Nat → Nat, (∀ t, v t = (match e.i.imm with
        | 0 => t
        | 1 => t % 16
        | 2 => (groupSite g).toNat
        | 3 => e.gr.idx
        | 4 => e.gr.block
        | 5 => g.cluster
        | 6 => e.c.slot
        | _ => (lidFabric s).toNat)) →
      Commits (.sreg g) s g e (e.write s (fun t => extendInt e.i (v t % 2 ^ intWidth e.i)))) ∧
    (Issues .actmask s g e → Commits (.actmask g) s g e (e.write s (fun _ => e.mask))) ∧
    (Issues .ballot s g e → ∃ m : BitVec 64, Commits (.ballot g) s g e (e.update s (fun gr => putDst gr e.i.dst e.lead m)) ∧
      ∀ t, t < 64 → m.getLsbD t = (e.act.getLsbD t && (srcVal e.gr e.i e.i.s0 t).getLsbD 0))

/-- Table 4.9, R130: ISETP and FSETP write the truth of their condition; with a NaN every ordered condition of FSETP is false and NE true; the predicate
instructions are the logic of their names, thread by thread. -/
def Obligations.PredicateInstructionsCompute : Prop :=
  ∀ (s : State) (g : GroupId) (e : Env),
    let p (t : Nat) : Bool := (srcVal e.gr e.i e.i.s0 t).getLsbD 0
    let q (t : Nat) : Bool := (srcVal e.gr e.i e.i.s1 t).getLsbD 0
    (Issues .isetp s g e → ∀ a b : Nat → BitVec 32, (∀ t, a t = (srcVal e.gr e.i e.i.s0 t).setWidth 32) → (∀ t, b t = (src1 e.gr e.i t).setWidth 32) →
      ∃ v : Nat → Bool, Commits (.isetp g) s g e (e.write s (fun t => bit64 (v t))) ∧ ∀ t,
        (e.i.mod / 16 = 0 → v t = decide (a t = b t)) ∧ (e.i.mod / 16 = 1 → v t = decide (a t ≠ b t)) ∧
        (e.i.mod / 16 = 2 → v t = if intSigned e.i then (a t).slt (b t) else (a t).ult (b t)) ∧
        (e.i.mod / 16 = 3 → v t = if intSigned e.i then (a t).sle (b t) else (a t).ule (b t)) ∧
        (e.i.mod / 16 = 4 → v t = if intSigned e.i then (b t).slt (a t) else (b t).ult (a t)) ∧
        (e.i.mod / 16 = 5 → v t = if intSigned e.i then (b t).sle (a t) else (b t).ule (a t))) ∧
    (Issues .fsetp s g e → ∃ v : Nat → Bool × Flags, Commits (.fsetp g) s g e (e.writeFl s (fun t => (bit64 (v t).1, (v t).2))) ∧
      ∀ t, v t = f32Cmp (e.i.mod / 16) ((srcVal e.gr e.i e.i.s0 t).setWidth 32) ((src1 e.gr e.i t).setWidth 32)) ∧
    (∀ (a b : BitVec 32), isNan32 a ∨ isNan32 b → (∀ cc, cc = 0 ∨ cc = 2 ∨ cc = 3 ∨ cc = 4 ∨ cc = 5 → (f32Cmp cc a b).1 = false) ∧
      (f32Cmp 1 a b).1 = true ∧ (f32Cmp 6 a b).1 = false ∧ (f32Cmp 7 a b).1 = true) ∧
    (Issues .pand s g e → Commits (.pand g) s g e (e.write s (fun t => bit64 (p t && q t)))) ∧
    (Issues .por s g e → Commits (.por g) s g e (e.write s (fun t => bit64 (p t || q t)))) ∧
    (Issues .pxor s g e → Commits (.pxor g) s g e (e.write s (fun t => bit64 (xor (p t) (q t))))) ∧
    (Issues .pnot s g e → Commits (.pnot g) s g e (e.write s (fun t => bit64 (!p t))))

/-- Table 4.8, R128, R154: the FP32 instructions write their rounded result and raise its flags; FABS and FNEG change the sign bit alone and raise
nothing. -/
def Obligations.FloatInstructionsCompute : Prop :=
  ∀ (s : State) (g : GroupId) (e : Env),
    let m : Rmode := match e.i.mod / 16 % 4 with
      | 1 => .rtz
      | 2 => .rdn
      | 3 => .rup
      | _ => .rne
    let x (t : Nat) : BitVec 32 := (src0 e.gr e.i true t).setWidth 32
    let a (t : Nat) : BitVec 32 := (src0 e.gr e.i false t).setWidth 32
    let b (t : Nat) : BitVec 32 := (src1 e.gr e.i t).setWidth 32
    let c (t : Nat) : BitVec 32 := (src2 e.gr e.i t).setWidth 32
    PutsFp .fadd (.fadd g) s g e (fun t => f32Add m (a t) (b t)) ∧
    PutsFp .fsub (.fsub g) s g e (fun t => f32Sub m (a t) (b t)) ∧
    PutsFp .fmul (.fmul g) s g e (fun t => f32Mul m (a t) (b t)) ∧
    PutsFp .ffma (.ffma g) s g e (fun t => f32Fma m (a t) (b t) (c t)) ∧
    PutsFp .fmin (.fmin g) s g e (fun t => f32MinMax false (a t) (b t)) ∧
    PutsFp .fmax (.fmax g) s g e (fun t => f32MinMax true (a t) (b t)) ∧
    PutsFp .fabs (.fabs g) s g e (fun t => ⟨BitVec.cons false ((x t).setWidth 31), 0⟩) ∧
    PutsFp .fneg (.fneg g) s g e (fun t => ⟨BitVec.cons (!(x t).msb) ((x t).setWidth 31), 0⟩) ∧
    PutsFp .rcp (.rcp g) s g e (fun t => f32Rcp (x t)) ∧
    PutsFp .rsq (.rsq g) s g e (fun t => f32Rsq (x t)) ∧
    PutsFp .sqrt (.sqrt g) s g e (fun t => f32Sqrt (x t)) ∧
    PutsFp .exp2 (.exp2 g) s g e (fun t => f32Exp2 (x t)) ∧
    PutsFp .log2 (.log2 g) s g e (fun t => f32Log2 (x t))

/-- R129, R167: CVT converts its source under the scale of the operand where a format is scaled, with rounding to nearest even, towards zero, or by a
draw of the cluster's random source for each element. -/
def Obligations.ConversionsCompute : Prop :=
  ∀ (s : State) (g : GroupId) (e : Env) (dst src : Ty), tyOf (e.i.mod % 16) = some dst → tyOf (e.i.mod / 16) = some src →
    let sc (t : Nat) : Int := if dst.scaled || src.scaled then ((src1 e.gr e.i t).setWidth 8).toInt else 0
    let put (r : Nat → Rounded) (t : Nat) : Word64 × Flags :=
      (if e.i.cls = 1 ∧ dst = .i32 then ((BitVec.ofNat 32 (r t).code).signExtend 64) else BitVec.ofNat 64 (r t).code, (r t).flags)
    (Issues .cvtRne s g e → Commits (.cvtRne g) s g e (e.writeFl s (put (fun t => convert .rne dst src (sc t) (srcVal e.gr e.i e.i.s0 t).toNat)))) ∧
    (Issues .cvtRtz s g e → Commits (.cvtRtz g) s g e (e.writeFl s (put (fun t => convert .rtz dst src (sc t) (srcVal e.gr e.i e.i.s0 t).toNat)))) ∧
    (Issues .cvtSr s g e → ∃ draw : Nat → Nat, (∀ t, draw t < 2 ^ 16) ∧ ∃ n, Commits (.cvtSr g) s g e
      { e.writeFl s (put (fun t => convert (.sr (draw t)) dst src (sc t) (srcVal e.gr e.i e.i.s0 t).toNat)) with free := n })

/-! ## Virdy: control -/

/-- R131, R89: BRA and CALL send each thread that acts to their own address plus 8 × the offset, the rest of the subset to the next instruction, and move
nothing else; CALL writes the address of the next instruction to its destination. -/
def Obligations.BranchesGoToOwnAddressPlusOffset : Prop :=
  ∀ (s : State) (g : GroupId) (e : Env) (off : Int), (e.i.i = true → off = e.i.imm) →
    (e.i.i = false → ∃ x, e.i.ext = some x ∧ off = x.toInt) →
    let target : BitVec 64 := BitVec.ofInt 64 ((e.i.addr : Int) + 8 * off)
    (Issues .bra s g e → ∃ gr, Redirects (.bra g) s g (s.setGroup g gr) ∧ Moves e gr (fun _ => target) ∧ { gr with pcs := e.gr.pcs } = e.gr) ∧
    (Issues .call s g e → ∃ gr0 gr, e.write s (fun _ => BitVec.ofNat 64 e.i.next) = s.setGroup g gr0 ∧ Redirects (.call g) s g (s.setGroup g gr) ∧
      Moves e gr (fun _ => target) ∧ { gr with pcs := gr0.pcs } = gr0)

/-- R132: BRX and RET send each acting thread to the target in its register. A target that is not a multiple of 8 is MISALIGNED, with the first such target
and 8 in the trap; one outside the code or at an extension word is ILLEGAL_OP, met first. A group that takes a trap changes no program counter. -/
def Obligations.IndirectBranchesGoToTheirRegister : Prop :=
  ∀ (s : State) (g : GroupId) (e : Env) (m : Mn) (i : Instr), (m = .brx ∧ i = .brx g) ∨ (m = .ret ∧ i = .ret g) → Issues m s g e →
    let target (t : Nat) : BitVec 64 := srcVal e.gr e.i e.i.s0 t
    let outside (t : Nat) : Prop := 8 * e.c.code.length ≤ (target t).toNat ∨ ((target t).toNat % 8 = 0 ∧ isBoundary e.c.code (target t).toNat = false)
    ((∀ t, t < 64 → e.act.getLsbD t = true → (target t).toNat % 8 = 0 ∧ ¬ outside t) →
      ∃ gr, Redirects i s g (s.setGroup g gr) ∧ Moves e gr target ∧ { gr with pcs := e.gr.pcs } = e.gr) ∧
    ((∃ t, t < 64 ∧ e.act.getLsbD t = true ∧ outside t) → ∃ x, Machine.exec i s = .next (takeTrap s g x) ∧ x.code = tILLEGAL_OP ∧ x.pcA = e.pc) ∧
    (∀ t, t < 64 → e.act.getLsbD t = true → (target t).toNat % 8 ≠ 0 → (∀ k, k < 64 → e.act.getLsbD k = true → ¬ outside k) →
      (∀ k, k < t → e.act.getLsbD k = true → (target k).toNat % 8 = 0) →
      ∃ x, Machine.exec i s = .next (takeTrap s g x) ∧ x.code = tMISALIGNED ∧ x.d0 = (target t).toNat ∧ x.d1 = 8 ∧ x.pcA = e.pc)

/-- R90, R91: the threads that reach a CONV park there until every live thread of its mask has come, and then all continue at the next instruction; at a
ninth site the site of the earliest first arrival is released first, and that forced release is counted. -/
def Obligations.ConvergenceParksUntilAllHaveCome : Prop :=
  ∀ (s : State) (g : GroupId) (e : Env), Issues .conv s g e → e.i.addr < 2 ^ 64 →
    let here : Site := { addr := BitVec.ofNat 64 e.pc, expect := uVal e.gr e.i.s0, parked := e.act }
    let other (x : Site) : Prop := siteDone e.gr x = false ∧ x.addr.toNat ≠ e.pc
    (e.gr.sites.length < 8 → (∀ x ∈ e.gr.sites, other x) →
      ∃ gr, Redirects (.conv g) s g (s.setGroup g gr) ∧ gr.live = e.gr.live ∧ gr.v = e.gr.v ∧ gr.u = e.gr.u ∧ gr.p = e.gr.p ∧
        (siteDone e.gr here = false → gr.sites = e.gr.sites ++ [here] ∧ ∀ t, t < 64 → gr.pcGet t = restPc e t) ∧
        (siteDone e.gr here = true → gr.sites = e.gr.sites ∧ Moves e gr (fun _ => BitVec.ofNat 64 (e.i.addr + 8)))) ∧
    (∀ l x r, e.gr.sites = l ++ x :: r → x.addr.toNat = e.pc → (∀ y ∈ l ++ r, other y) →
      let x' : Site := { x with parked := x.parked ||| e.act }
      ∃ gr, Redirects (.conv g) s g (s.setGroup g gr) ∧ gr.live = e.gr.live ∧
        (siteDone e.gr x' = false → gr.sites = l ++ x' :: r ∧ ∀ t, t < 64 → gr.pcGet t = restPc e t) ∧
        (siteDone e.gr x' = true → gr.sites = l ++ r ∧
          ∀ t, t < 64 → gr.pcGet t = if x'.parked.getLsbD t then BitVec.ofNat 64 (e.i.addr + 8) else restPc e t)) ∧
    (∀ x r, e.gr.sites = x :: r → r.length = 7 → (∀ y ∈ x :: r, other y) → (∀ y ∈ r, y.addr ≠ x.addr) → siteDone e.gr here = false →
      ∃ gr, Redirects (.conv g) s g ((s.setGroup g gr).bump 0x09000005 1) ∧ gr.sites = r ++ [here] ∧
        ∀ t, t < 64 → e.mask.getLsbD t = false → gr.pcGet t = if x.parked.getLsbD t then BitVec.ofNat 64 (x.addr.toNat + 8) else e.gr.pcGet t)

/-- R93, R96: BAR adds the threads that act to the barrier's arrivals and restarts its watchdog. When the arrivals of the block's groups come to its live
threads, every thread parked there continues at the next instruction and the barrier is empty; else they stay parked. -/
def Obligations.BarriersReleaseWhenAllLiveThreadsHaveCome : Prop :=
  ∀ (s : State) (g : GroupId) (e : Env) (k : Block), Issues .bar s g e → e.gr.collMask = 0 → blockOf s g.cluster e.gr.block = some k →
    let n := e.i.imm.toNat
    let gs := blockGroups s e.gr.block k
    let came (h : GroupId) (x : Group) : BitVec 64 := if groupKey h = groupKey g then barAt x n ||| e.act else barAt x n
    let stands (h : GroupId) (x : Group) (t : Nat) : BitVec 64 := if groupKey h = groupKey g then restPc e t else x.pcGet t
    let live := blockThreads s gs (fun _ x => x.live)
    g ∈ gs →
    ∃ t, Redirects (.bar g) s g t ∧ (∃ k', blockOf t g.cluster e.gr.block = some k' ∧ Sparse.get 0 k'.wd n = 0) ∧ t.mem = s.mem ∧
      (∀ h x, s.group? h = some x → ∃ y, t.group? h = some y ∧ y.live = x.live ∧ y.v = x.v ∧ y.u = x.u ∧ y.p = x.p) ∧
      (blockThreads s gs came ≠ live → ∀ h x, s.group? h = some x → ∃ y, t.group? h = some y ∧ barAt y n = came h x ∧
        ∀ th, th < 64 → y.pcGet th = stands h x th) ∧
      (blockThreads s gs came = live → live ≠ 0 → ∀ h ∈ gs, ∀ x, s.group? h = some x → ∃ y, t.group? h = some y ∧ barAt y n = 0 ∧
        ∀ th, th < 64 → y.pcGet th = if (came h x).getLsbD th then stands h x th + 8 else stands h x th)

/-- R87, R94: EXIT ends the threads that act. The group's other threads stay live; a group that keeps none, with nothing left to be written, gives up its
slot. No memory changes. -/
def Obligations.ExitEndsThreads : Prop :=
  ∀ (s : State) (g : GroupId) (e : Env), Issues .exit s g e →
    ∃ t, Redirects (.exit g) s g t ∧ t.mem = s.mem ∧ t.hostMem = s.hostMem ∧ t.keep = s.keep ∧
      (∀ gr, t.group? g = some gr → gr.live = e.gr.live &&& ~~~e.act ∧ gr.v = e.gr.v ∧ gr.u = e.gr.u ∧ gr.p = e.gr.p) ∧
      (e.gr.live &&& ~~~e.act ≠ 0 ∨ e.gr.pend ≠ [] → (t.group? g).isSome = true) ∧
      (e.gr.live &&& ~~~e.act = 0 → e.gr.pend = [] → t.group? g = none)

/-- R92: a group with no runnable thread, none of whose sites may release, has one site force-released: the one with the most parked threads, the lowest
address on a tie; the release is counted. A group that can move is left alone. -/
def Obligations.ForcedReleaseTakesTheFullestSite : Prop :=
  ∀ (s : State) (g : GroupId) (gr : Group), s.group? g = some gr →
    (∀ x ∈ gr.sites, gr.st = .active → gr.live ≠ 0 → gr.runnable = 0 → (∀ y ∈ gr.sites, siteDone gr y = false) →
      (∀ y ∈ gr.sites, y = x ∨ popMask y.parked < popMask x.parked ∨ (popMask y.parked = popMask x.parked ∧ x.addr.toNat < y.addr.toNat)) →
      ∃ gr', Machine.exec (.forcedRelease g) s = .next ((s.setGroup g gr').bump 0x09000005 1) ∧ gr'.sites = gr.sites.filter (fun y => y.addr != x.addr) ∧
        gr'.v = gr.v ∧ gr'.u = gr.u ∧ gr'.p = gr.p ∧ gr'.live = gr.live ∧
        ∀ t, t < 64 → gr'.pcGet t = if x.parked.getLsbD t then BitVec.ofNat 64 (x.addr.toNat + 8) else gr.pcGet t) ∧
    (gr.runnable ≠ 0 ∨ (∃ y ∈ gr.sites, siteDone gr y = true) ∨ gr.sites = [] → Machine.exec (.forcedRelease g) s = .next s)

/-- R10, R104, R105, R108, R138: a reserved encoding raises ILLEGAL_OP; BRK raises BREAKPOINT, its IMM16 in DETAIL0, while a debugger is attached and it is
not the resumed instruction, and otherwise does nothing, as VIRDY_NOP and FENCE. A trap that holds leaves its group HELD with its code; the group's threads stay at their
instructions, no other group changes, and the function that owns the context gets event 0x0980 with the group's site word and a record of the trap. -/
def Obligations.TrapsHoldTheirGroup : Prop :=
  ∀ (s : State) (g : GroupId) (gr : Group) (c : Ctx), s.group? g = some gr → s.ctx? gr.ctx = some c →
    (∀ e, Issues .brk s g e → e.c.hold = true → e.gr.skipBp = false → ∃ x, Machine.exec (.brk g) s = .next (takeTrap s g x) ∧
      x.code = tBREAKPOINT ∧ x.d0 = 0x10000 + (BitVec.ofInt 16 e.i.imm).toNat ∧ x.pcA = e.pc) ∧
    (∀ e, Issues .brk s g e → e.c.hold = false ∨ e.gr.skipBp = true → Commits (.brk g) s g e s) ∧
    (∀ e, Issues .virdyNop s g e → Commits (.virdyNop g) s g e s) ∧ (∀ e, Issues .fence s g e → Commits (.fence g) s g e s) ∧
    (∀ e, nextEnv s g = some e → e.mn = .reserved → gr.st = .active → gr.stalled = false → gr.skipBp = true ∨ Env.bpHit s e = none →
      ∃ x, Machine.exec (.reservedInstruction g) s = .next (takeTrap s g x) ∧ x.code = tILLEGAL_OP ∧ x.pcA = e.pc ∧ x.maskA = e.mask) ∧
    (∀ x, holds c x.code = true → let t := takeTrap s g x
      (∃ gr', t.group? g = some gr' ∧ gr'.st = .held ∧ gr'.lastTrap = x.code ∧ gr'.pcs = gr.pcs ∧ gr'.live = gr.live) ∧
      (∀ h, groupKey h ≠ groupKey g → t.group? h = s.group? h) ∧ t.mem = s.mem ∧ t.ctxs = s.ctxs ∧ t.sync = s.sync ∧
      ((s.fev c.owner).held.length < 256 → ∃ r, (t.fev c.owner).recs = (s.fev c.owner).recs ++ [r] ∧ r.code = 0x0980 ∧
        r.detail = (groupSite g).toNat ∧ r.bytes.length = 256 ∧ r.bytes.head? = some (BitVec.ofNat 8 x.code)))

/-- R96, R97: when a barrier's watchdog reaches its limit, and no group of the block is HALTED or HELD, every group with a thread parked at that barrier
takes BARRIER_STARVED; under a debugger such a group is HELD. With a group of the block stopped, nothing happens. -/
def Obligations.StarvedBarrierTrapsItsGroups : Prop :=
  ∀ (s : State) (c b n : Nat) (k : Block), blockOf s c b = some k →
    ((∃ g ∈ blockGroups s b k, ∃ x, s.group? g = some x ∧ x.st ≠ .active) → Machine.exec (.barrierStarved c b n) s = .next s) ∧
    (∀ cx, s.ctx? k.ctx = some cx → cx.hold = true → (∀ g ∈ blockGroups s b k, ∃ x, s.group? g = some x ∧ x.st = .active ∧ x.ctx = k.ctx) →
      ∃ t, Machine.exec (.barrierStarved c b n) s = .next t ∧ t.mem = s.mem ∧
        ∀ g ∈ blockGroups s b k, ∀ x, s.group? g = some x → ∃ y, t.group? g = some y ∧ y.pcs = x.pcs ∧ y.live = x.live ∧
          (if barAt x n = 0 then y = x else y.st = .held ∧ y.lastTrap = tBARRIER_STARVED))

/-! ## Virdy: memory -/

/-- R85, R133, R304: LD reads each lane's bytes, low byte first, and puts the value, zero- or sign-extended as MOD[2] says, on its way to the destination with
one scoreboard entry; a lane that read poison is marked; no byte of memory changes. The row that returns a result writes it to its register for its
threads and frees the entry. -/
def Obligations.LoadsReturnWhatMemoryHolds : Prop :=
  (∀ (s : State) (g : GroupId) (e : Env), Issues .ld s g e → s.mem.errs = [] → (∀ t ∈ e.lanes, MayAccess 1 s e t) →
    let n := accWidth e.i
    let value (t : Nat) : BitVec (8 * n) := BitVec.ofNat (8 * n) (leNat (ctxLoad s e.ctx e.c (e.addr t) n))
    ∃ (t : State) (p : Pend), Commits (.ld g) s g e t ∧ t.mem = s.mem ∧ t.group? g = some { e.gr with pend := e.gr.pend ++ [p] } ∧
      (∀ h, groupKey h ≠ groupKey g → t.group? h = s.group? h) ∧ t.ctxs = s.ctxs ∧ t.sync = s.sync ∧
      p.dest = e.i.dst ∧ p.ready = true ∧
      p.vals = e.lanes.map (fun t => if e.i.mod / 4 % 2 = 1 then (value t).signExtend 64 else (value t).setWidth 64) ∧
      (∀ t, t < 64 → p.mask.getLsbD t = if isV e.i.dst then decide (t ∈ e.lanes) else e.act.getLsbD t) ∧
      (∀ t, t < 64 → (p.poison.getLsbD t = true ↔ t ∈ e.lanes ∧ (firstPoison s (e.addr t) n).isSome = true))) ∧
  (∀ (s : State) (g : GroupId) (gr : Group) (n : Nat) (p : Pend), s.group? g = some gr → gr.pend[n]? = some p → p.ready = true → gr.live ≠ 0 →
    ∃ gr', Machine.exec (.loadReturn g n) s = .next (s.setGroup g gr') ∧ gr'.pend = gr.pend.eraseIdx n ∧ gr'.pcs = gr.pcs ∧ gr'.p = gr.p ∧
      (∀ r, desig p.dest = .v r → r < 64 → gr'.u = gr.u ∧
        (∀ (k t : Nat) (x : Word64), (threads p.mask)[k]? = some t → p.vals[k]? = some x → gr'.vGet r t = x.setWidth 32) ∧
        ∀ q t, t < 64 → q ≠ r ∨ p.mask.getLsbD t = false → gr'.vGet q t = gr.vGet q t) ∧
      (∀ r, desig p.dest = .u r → gr'.v = gr.v ∧ gr'.uGet r = p.vals.headD 0 ∧ ∀ q, q ≠ r → gr'.uGet q = gr.uGet q))

/-- R133: ST stores the low bytes of each lane's data at its address, low byte first; where lanes meet at one address the data of one of them is there; every
other byte of memory keeps its value, and every register does. -/
def Obligations.StoresWriteTheirLanesOnly : Prop :=
  ∀ (s : State) (g : GroupId) (e : Env), Issues .st s g e → s.mem.errs = [] → (∀ t ∈ e.lanes, MayAccess 2 s e t) →
    let n := accWidth e.i
    ∃ t, Commits (.st g) s g e t ∧ t.groups = s.groups ∧ t.ctxs = s.ctxs ∧ t.sync = s.sync ∧ t.clusters = s.clusters ∧
      (∀ k ∈ e.lanes, ∃ j ∈ e.lanes, e.addr j = e.addr k ∧
        ∀ i, i < n → Memory.read t.mem.bytes (e.addr k + i) = ((srcVal e.gr e.i e.i.s2 j) >>> (8 * i)).setWidth 8) ∧
      (∀ a, (∀ k ∈ e.lanes, a < e.addr k ∨ e.addr k + n ≤ a) → Memory.read t.mem.bytes a = Memory.read s.mem.bytes a)

/-- R144, R133, Table 4.12: the atomics of an instruction are performed one after another in some order of its lanes; each leaves the value that its name
says, at the width of the access, and returns the value that immediately precedes it. -/
def Obligations.AtomicsAreATotalOrder : Prop :=
  ∀ (s : State) (g : GroupId) (e : Env) (m : Mn) (i : Instr), (m, i) ∈ atomRows g → Issues m s g e → s.mem.errs = [] →
    (∀ t ∈ e.lanes, MayAccess 3 s e t ∧ inConst e.ctx e.c (e.addr t) (accWidth e.i) = false) →
    let n := accWidth e.i
    let at_ (b : Sparse Byte) (t : Nat) : BitVec (8 * n) := BitVec.ofNat (8 * n) (leNat (Memory.load b (e.addr t) n))
    let cmp (t : Nat) : BitVec 64 := match desig e.i.dst with
      | .v _ | .u _ => srcVal e.gr e.i e.i.dst t
      | _ => 0
    let act (b : Sparse Byte) (t : Nat) : Sparse Byte :=
      Memory.store b (e.addr t) (leBytes n (atomNew m (e.i.mod / 4 % 2 == 1) (at_ b t) ((srcVal e.gr e.i e.i.s2 t).setWidth _) ((cmp t).setWidth _)).toNat)
    ∃ (t : State) (order : List Nat), Commits i s g e t ∧ List.Perm order e.lanes ∧ t.mem.bytes = order.foldl act s.mem.bytes ∧ t.ctxs = s.ctxs ∧ t.sync = s.sync ∧
      (desig e.i.dst = .zero → t.groups = s.groups) ∧
      (desig e.i.dst ≠ .zero → ∃ p : Pend, t.group? g = some { e.gr with pend := e.gr.pend ++ [p] } ∧ p.dest = e.i.dst ∧ p.ready = true ∧
        ∀ k x : Nat, e.lanes[k]? = some x → ∃ l r, order = l ++ x :: r ∧ p.vals[k]? = some ((at_ (l.foldl act s.mem.bytes) x).setWidth 64))

/-- R143, R305, R313: DMA queues its copy on the cluster's engine. The copy makes every destination byte the source's, poison with it, and changes no other
byte; the command then waits to signal, and the completion sends +1 to its completion object. -/
def Obligations.DmaCopiesAndSignals : Prop :=
  (∀ (s : State) (g : GroupId) (e : Env) (u : Nat), Issues .dma s g e → (s.cluster g.cluster).dq.length < 16 → desig e.i.dst = .u u →
    refIllegal (e.gr.uGet u) .completion = false → refOut e.c (e.gr.uGet u) = false →
    let dst := (uVal e.gr e.i.s0).toNat
    let src := (uVal e.gr e.i.s1).toNat
    let n := (uVal e.gr e.i.s2).toNat
    dst % 64 = 0 → src % 64 = 0 → n % 64 = 0 → 0 < n → n ≤ 2 ^ 32 → mayAccess e.ctx e.c true dst n = true → mayAccess e.ctx e.c false src n = true →
    let k := s.cluster g.cluster
    Commits (.dma g) s g e (s.setCluster g.cluster
      { k with dq := k.dq ++ [.copy e.ctx dst src n (some (refVid (e.gr.uGet u))) (clusterSite g.cluster)] })) ∧
  (∀ (s : State) (c ctx dst src n : Nat) (obj : Option Nat) (site : BitVec 32) (r : List DmaEntry), (s.cluster c).dq = .copy ctx dst src n obj site :: r →
    s.mem.errs = [] → unavailable s src n = false → unavailable s dst n = false → dst % 64 = 0 → src % 64 = 0 → n % 64 = 0 →
    dst + n ≤ src ∨ src + n ≤ dst →
    ∃ t mark, Machine.exec (.dmaStart c) s = .next t ∧
      (∀ i, i < n → Memory.read t.mem.bytes (dst + i) = Memory.read s.mem.bytes (src + i) ∧
        Sparse.get false t.mem.poison ((dst + i) / 64) = poisonedAt s (src + i)) ∧
      (∀ a, a < dst ∨ dst + n ≤ a → Memory.read t.mem.bytes a = Memory.read s.mem.bytes a ∧
        Sparse.get false t.mem.poison (a / 64) = Sparse.get false s.mem.poison (a / 64)) ∧
      t.cluster c = { s.cluster c with
        dq := r, done := (s.cluster c).done ++ [{ engine := .dma, ctx := ctx, obj := obj, site := site, mark := mark }] } ∧ t.groups = s.groups) ∧
  (∀ (s : State) (c : Nat) (d : Done) (l r : List Done) (vid : Nat), (s.cluster c).done = l ++ d :: r → (∀ x ∈ l, x.engine ≠ d.engine) → d.obj = some vid →
    ∃ t x, Machine.exec (.engineCompletion c d.engine) s = .next t ∧ (t.cluster c).done = l ++ r ∧ t.sync = { s.sync with inflight := s.sync.inflight ++ [x] } ∧
      x.ctx = d.ctx ∧ x.vid = vid ∧ x.set = false ∧ x.value = 1 ∧ x.site = d.site ∧ x.mark = d.mark ∧ t.mem = s.mem ∧ t.groups = s.groups)

/-! ## Virdy: the engines -/

/-- R81, R99, R199, R224: a group-collective instruction that meets no trap condition, with every live thread parked at it and room in its queue, enters one
command in the queue of its engine and lets the whole group go on. What the command carries is what the instruction's operands say. -/
def Obligations.EngineInstructionsEnterTheirQueue : Prop :=
  ∀ (s : State) (g : GroupId) (e : Env),
    let k := s.cluster g.cluster
    let w0 := uVal e.gr e.i.s0
    let w1 := src1 e.gr e.i e.lead
    let w2 := uVal e.gr e.i.s2
    let does (i : Instr) (cmd : MatCmd → Prop) : Prop :=
      ∃ t m, Machine.exec i s = .next t ∧ PassesOn s t g e ∧ (t.cluster g.cluster).mq = k.mq ++ [m] ∧ (t.cluster g.cluster).sq = k.sq ∧ cmd m
    (IssuesAll .mcfg s g e → checkMcfg e s = none → does (.mcfg g) (fun m => m = .mcfg e.ctx w0)) ∧
    (IssuesAll .mload s g e → checkMload e s = none → (Sparse.get [] e.c.handles g.cluster).length < 16 →
      does (.mload g) (fun m => ∃ h, m = .mload e.ctx h (e.i.mod / 16 % 2 == 1) ∧ h.id = w1.setWidth 32 ∧ h.quad = bitsOf w1 32 2 ∧
        h.addr = w0.toNat ∧ h.type = e.i.mod % 16 ∧ h.cplx = (e.i.mod / 32 % 2 == 1))) ∧
    (∀ n, IssuesAll .mmul s g e → checkMmul e s = none → desig e.i.dst = .a n →
      does (.mmul g) (fun m => ∃ stride h strm, m = .mmul e.ctx (e.blk.tileBase + n) w0.toNat stride h w1.toNat (e.i.mod % 16) (e.i.mod / 16 % 2 == 1)
        (e.i.mod / 32) (bitsOf w2 0 9) (w2.getLsbD 16) (w2.getLsbD 17) strm e.gr.live)) ∧
    (∀ n, IssuesAll .mfill s g e → checkMfill e s = none → desig e.i.dst = .a n →
      does (.mfill g) (fun m => ∃ h strm, h ∈ Sparse.get [] e.c.handles g.cluster ∧ h.id = w1.setWidth 32 ∧
        m = .mfill e.ctx (e.blk.tileBase + n) w0.toNat h (e.i.mod % 16) (e.i.mod / 16 % 2 == 1) (bitsOf w2 0 6) (bitsOf w2 6 5) (BitVec.ofNat 12 (bitsOf w2 16 12))
          strm e.gr.live)) ∧
    (∀ n, IssuesAll .madapt s g e → checkMadapt e s = none → desig e.i.dst = .a n →
      does (.madapt g) (fun m => ∃ t, m = .madapt e.ctx (e.blk.tileBase + n) w0.toNat w1 (e.i.mod % 64 + 1) t e.gr.live)) ∧
    (∀ n, IssuesAll .mdrain s g e → checkMdrain e s = none → desig e.i.s0 = .a n →
      does (.mdrain g) (fun m => ∃ stride d, m = .mdrain e.ctx n (e.blk.tileBase + n) w1.toNat stride (e.i.mod % 16) (e.i.mod / 16 % 4) (e.i.mod / 64 % 2 == 1)
        (e.i.mod / 128 % 2 == 1) d e.c.epoch e.obj (clusterSite g.cluster))) ∧
    (IssuesAll .streamIssue s g e → checkStream e s = none →
      ∃ t q, Machine.exec (.streamIssue g) s = .next t ∧ PassesOn s t g e ∧ (t.cluster g.cluster).mq = k.mq ∧ (t.cluster g.cluster).sq = k.sq ++ [q] ∧
        ∃ addr s1 s2 s3 s4, q = .cmd e.i.op e.ctx e.blk.tileBase e.blk.tiles e.obj (clusterSite g.cluster) addr (if e.i.x then e.i.ext else none) s1 s2 s3 s4
          e.c.epoch)

/-- R100, R102, Table 3.5: a subset that reaches a group-collective instruction while other live threads are elsewhere parks there; one that finds another
subset parked at a different collective instruction takes COLLECTIVE_SPLIT, with both subsets in the trap. -/
def Obligations.CollectiveArrivalsParkOrSplit : Prop :=
  ∀ (s : State) (g : GroupId) (e : Env) (m : Mn) (i : Instr), (m, i) ∈ engineRows g → nextEnv s g = some e → e.gr.st = .active → e.gr.stalled = false →
    e.mn = m → marked e.gr e.f e.i = false → e.gr.skipBp = true ∨ Env.bpHit s e = none → e.collRoom s = true → e.gr.collMask ≠ e.gr.live →
    (e.gr.collMask = 0 ∨ e.gr.collPc.toNat = e.pc → e.gr.barMask = 0 → e.gr.collMask ||| e.mask ≠ e.gr.live →
      Redirects i s g (s.setGroup g { e.gr with collMask := e.gr.collMask ||| e.mask, collPc := BitVec.ofNat 64 e.pc })) ∧
    (e.gr.collMask ≠ 0 → e.gr.collPc.toNat ≠ e.pc → ∃ x, Machine.exec i s = .next (takeTrap s g x) ∧ x.code = tCOLLECTIVE_SPLIT ∧ x.pcA = e.pc ∧
      x.maskA = e.mask ∧ x.second = some (e.gr.collPc.toNat, e.gr.collMask))

/-- R195, R198, R101: a NORMAL pass of 16-bit floating operands in FULL is the matrix product. Element (r, c) of the result is the sum, in order of depth and
rounded at each step, of the streamed row r times the stationary column c, from the prior value or +0; rows of absent threads and every other accumulator
element keep their values, and no memory changes. -/
def Obligations.MatrixPassIsTheMatrixProduct : Prop :=
  ∀ (s : State) (c ctx tile addr stride y t rows : Nat) (h : Handle) (acc : Bool) (strm live : Word64) (rest : List MatCmd),
    let k := s.cluster c
    k.mq = .mmul ctx tile addr stride (some h) y t acc 0 rows false false strm live :: rest → k.shape = 0 → k.drains = [] → k.sample = none →
    Sparse.find? k.active 0 = none → Sparse.find? k.shadow 0 = none → s.mem.errs = [] → t = 5 ∨ t = 6 → h.type = 5 ∨ h.type = 6 → h.cplx = false →
    let streamed (r d : Nat) : FVal := opVal t (leNat (loadMem s (rowAddr addr stride r + 2 * d) 2)) 0
    let stationary (d col : Nat) : FVal := opVal h.type (leNat (loadMem s (rowAddr h.addr h.stride d + 2 * col) 2)) 0
    ∃ u, Machine.exec (.matrixDequeue c) s = .next u ∧ u.mem = s.mem ∧ u.groups = s.groups ∧ (u.cluster c).mq = rest ∧
      (∀ r col, r < rows → live.getLsbD (r % 64) = true → col < 32 → (u.cluster c).accGet (tile + r / 32) (r % 32) col =
        (sumFp (if acc then k.accGet (tile + r / 32) (r % 32) col else 0) ((List.range 32).map (fun d => (streamed r d, stationary d col)))).w) ∧
      (∀ n i j, i < 32 → j < 32 → (∀ r, r < rows → live.getLsbD (r % 64) = true → n = tile + r / 32 → i ≠ r % 32) →
        (u.cluster c).accGet n i j = k.accGet n i j)

/-- R203, R213, R215, R236, R239, R275: what the engines do when their turn comes. A batch of one request whose timeout expires makes its rows, each the
product of its thread's streamed row and the stationary columns. A plain FP32 drain writes its tile's rows and no other byte, and clears the tile if it
says so. A shadow sample is used up, and its count is of a comparison only when every pair is finite. A descriptor is checked field by field before its
operands. An inline COPY, ZERO or AXPY gives its tiles element by element; a descriptor that failed its checks writes its STATUS and nothing else. -/
def Obligations.EnginesRunTheirCommands : Prop :=
  (∀ (s : State) (c n : Nat) (b : Batch) (q : FillReq),
    let k := s.cluster c
    let h := b.h
    k.batches[n]? = some b → b.reqs = [q] → q.first + q.rows ≤ 32 → k.shape = 0 → Sparse.find? k.active 0 = none → Sparse.find? k.shadow 0 = none →
    s.mem.errs = [] → q.type = 5 ∨ q.type = 6 → h.type = 5 ∨ h.type = 6 → h.cplx = false →
    let streamed (r d : Nat) : FVal := opVal q.type (leNat (loadMem s (rowAddr q.addr 64 r + 2 * d) 2)) 0
    let stationary (d col : Nat) : FVal := opVal h.type (leNat (loadMem s (rowAddr h.addr h.stride d + 2 * col) 2)) 0
    ∃ u, Machine.exec (.fillTimeout c n) s = .next u ∧ u.mem = s.mem ∧ u.groups = s.groups ∧ (u.cluster c).batches = k.batches.eraseIdx n ∧
      (u.cluster c).mq = k.mq ∧
      (∀ r col, r < q.rows → q.live.getLsbD (q.first + r) = true → col < 32 → (u.cluster c).accGet q.tile (q.first + r) col =
        (sumFp (if q.acc then k.accGet q.tile (q.first + r) col else 0) ((List.range 32).map (fun d => (streamed r d, stationary d col)))).w) ∧
      (∀ t i j, i < 32 → j < 32 → (∀ r, r < q.rows → q.live.getLsbD (q.first + r) = true → t = q.tile → i ≠ q.first + r) →
        (u.cluster c).accGet t i j = k.accGet t i j)) ∧
  (∀ (s : State) (c n ctx rel tile addr stride : Nat) (clear : Bool) (w : Word64) (ep : Nat) (obj : Option Nat) (site : BitVec 32),
    let k := s.cluster c
    k.drains[n]? = some (.mdrain ctx rel tile addr stride 4 0 clear false w ep obj site) → (∀ d ∈ k.drains.take n, tile ∉ drainTiles d) → s.mem.errs = [] →
    (k.tile tile).int = false → (k.tile tile).invalid = false → 128 ≤ stride → addr + 32 * stride ≤ 2 ^ 64 →
    (∀ r, r < 32 → unavailable s (addr + r * stride) 128 = false) →
    ∃ u mark, Machine.exec (.mdrainReadStart c n) s = .next u ∧
      (∀ i j, i < 32 → j < 32 → loadMem u (addr + i * stride + 4 * j) 4 = leBytes 4 (k.accGet tile i j).toNat) ∧
      (∀ a, (∀ i, i < 32 → a < addr + i * stride ∨ addr + i * stride + 128 ≤ a) → Memory.read u.mem.bytes a = Memory.read s.mem.bytes a) ∧
      (u.cluster c).drains = k.drains.eraseIdx n ∧
      (u.cluster c).done = k.done ++ [{ engine := .matrix, ctx := ctx, obj := obj, site := site, mark := mark }] ∧
      (∀ t i j, i < 32 → j < 32 → (u.cluster c).accGet t i j = if clear = true ∧ t = tile then 0 else k.accGet t i j) ∧ u.groups = s.groups) ∧
  (∀ (s : State) (c : Nat) (x : ShadowSample),
    let k := s.cluster c
    k.sample = some x → k.mq = [] → k.batches = [] →
    let pairs := x.rows.flatMap (fun r => (r.2.1.zip (r.2.2.zip x.cols)).map (fun e => (sumPair ⟨e.1, 0⟩ (r.1.zip e.2.2)).1))
    let finite := pairs.all (fun p => (f32 p.hi).isFin && (f32 p.lo).isFin)
    ∃ u, Machine.exec (.shadowRecompute c) s = .next u ∧ u.clusters = (s.setCluster c { k with sample := none }).clusters ∧ u.groups = s.groups ∧
      (finite = false → u = (s.setCluster c { k with sample := none }).bump 0x08000008 1) ∧
      (∀ cx base, s.ctx? x.ctx = some cx → Sparse.find? cx.census c = some base → finite = true →
        field (loadMem u (base + 32 * x.tag) 32) 24 4 = (field (loadMem s (base + 32 * x.tag) 32) 24 4 + 1) % 2 ^ 32 ∧
        ∀ a, a < base + 32 * x.tag ∨ base + 32 * x.tag + 32 ≤ a → Memory.read u.mem.bytes a = Memory.read s.mem.bytes a)) ∧
  (∀ (s : State) (c op ctx base tiles : Nat) (obj : Option Nat) (site : BitVec 32) (desc : Nat) (s0 s1 s2 s3 : Word32) (ep : Nat) (r : List SeqEntry) (cx : Ctx),
    let k := s.cluster c
    k.sq = .cmd op ctx base tiles obj site desc none s0 s1 s2 s3 ep :: r → k.head = none → op ≠ 0 → s.ctx? ctx = some cx → s.mem.errs = [] →
    firstPoison s desc 128 = none →
    let bs := loadMem s desc 128
    ∃ u, Machine.exec (.streamDescriptorRead c) s = .next u ∧ u.mem = s.mem ∧ u.groups = s.groups ∧
      (∀ o, descBad op (Desc.ofBytes bs) = some o →
        u.cluster c = { k with head := some { code := 1, offset := o, bytes := bs, waiting := false } } ∧ u.sync = s.sync) ∧
      (∀ code o, descBad op (Desc.ofBytes bs) = none → operandBad s c ctx cx base tiles op (Desc.ofBytes bs) = some (code, o) →
        u.cluster c = { k with head := some { code := code, offset := o, bytes := bs, waiting := false } } ∧ u.sync = s.sync) ∧
      (descBad op (Desc.ofBytes bs) = none → operandBad s c ctx cx base tiles op (Desc.ofBytes bs) = none → field bs 72 8 = 0 →
        u.cluster c = { k with head := some { code := 0, offset := 0, bytes := bs, waiting := false } } ∧ u.sync = s.sync)) ∧
  (∀ (s : State) (c op ctx base tiles : Nat) (obj : Option Nat) (site : BitVec 32) (desc : Nat) (w : Word64) (s0 s1 s2 s3 : Word32) (ep : Nat)
    (r : List SeqEntry) (cx : Ctx),
    let k := s.cluster c
    k.sq = .cmd op ctx base tiles obj site desc (some w) s0 s1 s2 s3 ep :: r → op = 2 ∨ op = 3 ∨ op = 4 → s.ctx? ctx = some cx → inPair w = false →
    (∀ i, i < inCount w → (k.tile (base + inA w + i)).invalid = false ∧ (k.tile (base + inA w + i)).int = false ∧
      (k.tile (base + inB w + i)).invalid = false ∧ (k.tile (base + inB w + i)).int = false) →
    let value (i row col : Nat) : Word32 :=
      let a := k.accGet (base + inA w + i) row col
      if op = 3 then 0 else if op = 2 then (if (f32 a).isNan then canonNan else a) else (f32Fma .rne s0 (k.accGet (base + inB w + i) row col) a).w
    ∃ u mark, Machine.exec (.streamCommandStart c) s = .next u ∧ u.mem = s.mem ∧ u.groups = s.groups ∧ (u.cluster c).sq = r ∧
      (u.cluster c).done = k.done ++ [{ engine := .stream, ctx := ctx, obj := obj, site := site, mark := mark }] ∧
      (∀ i row col, i < inCount w → row < 32 → col < 32 → (u.cluster c).accGet (base + inOut w + i) row col = value i row col) ∧
      (∀ t row col, t < base + inOut w ∨ base + inOut w + inCount w ≤ t → row < 32 → col < 32 → (u.cluster c).accGet t row col = k.accGet t row col)) ∧
  (∀ (s : State) (c op ctx base tiles : Nat) (obj : Option Nat) (site : BitVec 32) (desc : Nat) (s0 s1 s2 s3 : Word32) (ep : Nat) (r : List SeqEntry)
    (h : HeadDesc),
    let k := s.cluster c
    k.sq = .cmd op ctx base tiles obj site desc none s0 s1 s2 s3 ep :: r → op ≠ 0 → k.head = some h → h.waiting = false → h.code ≠ 0 → s.mem.errs = [] →
    ∃ u mark, Machine.exec (.streamCommandStart c) s = .next u ∧ loadMem u (desc + 124) 4 = leBytes 4 (h.code + 256 * h.offset) ∧
      (∀ a, a < desc + 124 ∨ desc + 128 ≤ a → Memory.read u.mem.bytes a = Memory.read s.mem.bytes a) ∧ u.groups = s.groups ∧
      u.cluster c = { k with
        sq := r, head := none, seFlags := k.seFlags ||| fINV,
        done := k.done ++ [{ engine := .stream, ctx := ctx, obj := obj, site := site, mark := mark }] })

/-! ## Synchronisation objects -/

/-- R328, R330: SIG.ADD and SIG.SET of a local object send their change to its home store; of a remote one, an entry into the fabric send queue. R336, R337:
WAIT.GE and WAIT.TAKE with QUEUE 0 stall the group and send the wait to its object; with QUEUE 1 to 3 the wait takes one entry of its queue unless the
range test fails, which is SYNC_RANGE. A queued wait that reaches the head of its queue goes to its object. -/
def Obligations.SignalsAndWaitsAreSent : Prop :=
  (∀ (s : State) (g : GroupId) (e : Env) (set : Bool), Issues (if set then .sigSet else .sigAdd) s g e → refIllegal e.ref .sig = false →
    refOut e.c e.ref = false →
    let i : Instr := if set then .sigSet g else .sigAdd g
    let k := s.cluster g.cluster
    (refRemote e.ref = false → ∃ x : Signal, Commits i s g e (s.setSync { s.sync with inflight := s.sync.inflight ++ [x] }) ∧ x.ctx = e.ctx ∧
      x.vid = refVid e.ref ∧ x.set = set ∧ x.value = (src1 e.gr e.i e.lead).setWidth 32 ∧ x.mark = none) ∧
    (refRemote e.ref = true → e.c.job.isSome = true → k.fq.length < 32 →
      Commits i s g e (s.setCluster g.cluster
        { k with fq := k.fq ++ [.signal e.ctx (refFabric e.ref) (refVid e.ref) set ((src1 e.gr e.i e.lead).setWidth 32) e.site] }))) ∧
  (∀ (s : State) (g : GroupId) (e : Env) (take : Bool), Issues (if take then .waitTake else .waitGe) s g e → refIllegal e.ref .wait = false →
    refOut e.c e.ref = false →
    let i : Instr := if take then .waitTake g else .waitGe g
    let k := s.cluster g.cluster
    let t : Word32 := (src1 e.gr e.i e.lead).setWidth 32
    let v := valueNow s e.ctx (refVid e.ref)
    (refQueue e.ref = 0 → ∃ w : WaitMsg, Redirects i s g ((s.setSync { s.sync with arriving := s.sync.arriving ++ [w] }).setGroup g
        { e.gr with stalled := true }) ∧ w.ctx = e.ctx ∧ w.vid = refVid e.ref ∧ w.take = take ∧ w.operand = t ∧ w.queue = 0 ∧ w.group = some g) ∧
    (refQueue e.ref ≠ 0 → k.sq.length < 16 → k.dq.length < 16 → k.fq.length < 32 →
      (rangeBad take t v = true → ∃ x, Machine.exec i s = .next (takeTrap s g x) ∧ x.code = tSYNC_RANGE ∧ x.pcA = e.pc) ∧
      (rangeBad take t v = false → ∃ k', Commits i s g e (s.setCluster g.cluster k') ∧
        (refQueue e.ref = 1 → k' = { k with sq := k.sq ++ [.wait e.ctx (refVid e.ref) take t (clusterSite g.cluster)] }) ∧
        (refQueue e.ref = 2 → k' = { k with dq := k.dq ++ [.wait e.ctx (refVid e.ref) take t (clusterSite g.cluster)] }) ∧
        (refQueue e.ref = 3 → k' = { k with fq := k.fq ++ [.wait e.ctx (refVid e.ref) take t (clusterSite g.cluster)] })))) ∧
  (∀ (s : State) (c ctx vid : Nat) (take : Bool) (x : Word32) (site : BitVec 32) (r : List SeqEntry),
    let k := s.cluster c
    k.sq = .wait ctx vid take x site :: r → Sparse.get false k.atWait 0 = false →
    ∃ w : WaitMsg, Machine.exec (.queuedWaitHead c .stream) s = .next ((s.setCluster c { k with atWait := Sparse.set k.atWait 0 true }).setSync
      { s.sync with arriving := s.sync.arriving ++ [w] }) ∧ w.ctx = ctx ∧ w.vid = vid ∧ w.take = take ∧ w.operand = x ∧ w.queue = 1 ∧ w.cluster = c)

/-- R325, R329, R332: applying a change sets the object's value, or adds to it modulo 2^32, and releases every observing waiter whose condition then holds.
R334, R335: a wait that arrives at an object of a store with a free entry is released when its condition holds, taking its operand from the value if it consumes,
and its group goes on at the next instruction; otherwise it joins the object's observers or the end of the consuming queue; at a full store it is
refused and presented again. -/
def Obligations.ObjectsReleaseTheirWaiters : Prop :=
  (∀ (s : State) (n p : Nat) (x : Signal) (o : Obj), s.sync.inflight[n]? = some x → (∀ y ∈ s.sync.inflight.take n, y.site ≠ x.site) → x.host = none →
    physOf s x.ctx x.vid = some p → s.obj? p = some o → o.cons = [] → x.mark = none → o.mark = none →
    let v := if x.set then x.value else o.value + x.value
    ∃ t o', Machine.exec (.signalApply n) s = .next t ∧ t.obj? p = some o' ∧ o'.value = v ∧ o'.cons = [] ∧
      (∀ w, w ∈ o'.obs ↔ w ∈ o.obs ∧ condHolds w.operand v = false) ∧ t.sync.inflight = s.sync.inflight.eraseIdx n ∧ t.mem = s.mem ∧
      (o.obs = [] → t.groups = s.groups)) ∧
  (∀ (s : State) (n p : Nat) (w : WaitMsg) (o : Obj) (again : Bool),
    let i : Instr := if again then .waitRepresent n else .waitArrive n
    (if again then s.sync.refused[n]? else s.sync.arriving[n]?) = some w → physOf s w.ctx w.vid = some p → s.obj? p = some o →
    let y := if again then { s.sync with refused := s.sync.refused.eraseIdx n } else { s.sync with arriving := s.sync.arriving.eraseIdx n }
    (waiterRoom (storeOf p) ≤ waitersIn s (storeOf p) → ∃ t, Machine.exec i s = .next t ∧ t.sync = { y with refused := y.refused ++ [w] } ∧
      t.groups = s.groups ∧ t.clusters = s.clusters) ∧
    (waitersIn s (storeOf p) < waiterRoom (storeOf p) → w.queue ≠ 0 ∨ rangeBad w.take w.operand o.value = false →
      (condHolds w.operand o.value = false → (w.take = true → w.operand ≠ 0) →
        ∃ t wt o', Machine.exec i s = .next t ∧ t.obj? p = some o' ∧ wt.operand = w.operand ∧ wt.group = w.group ∧ wt.queue = w.queue ∧ o'.value = o.value ∧
          o'.obs = (if w.take then o.obs else o.obs ++ [wt]) ∧ o'.cons = (if w.take then o.cons ++ [wt] else o.cons) ∧ t.groups = s.groups ∧
          t.clusters = s.clusters) ∧
      (∀ g gr, condHolds w.operand o.value = true → o.cons = [] → o.mark = none → w.queue = 0 → w.group = some g → s.group? g = some gr →
        ∃ t o' gr', Machine.exec i s = .next t ∧ t.obj? p = some o' ∧ o'.value = (if w.take then o.value - w.operand else o.value) ∧ o'.obs = o.obs ∧
          o'.cons = [] ∧ t.group? g = some gr' ∧ gr'.stalled = false ∧ gr'.v = gr.v ∧ gr'.u = gr.u ∧ gr'.p = gr.p ∧ t.clusters = s.clusters)))

/-! ## The fabric -/

/-- R371, R374, R375, R397, R85: PUT, ACC, GET and COLL that meet none of their trap conditions enter one entry in the cluster's fabric send queue, with
the addresses, the length and the destination word of their operands; a GET to a register also takes a scoreboard entry that the response fills. R137: FLAGRD
returns the flags of the unit, the array or the stream engine, and FLAGCLR clears those the mask names. Table 8.7: SCRD returns a field of the entry at its
address, or a scale reference of its block, and SCWR of a scale reference stores it. -/
def Obligations.FabricAndFlagInstructionsAct : Prop :=
  ∀ (s : State) (g : GroupId) (e : Env),
    let k := s.cluster g.cluster
    let u (c : Nat) : Nat := (uVal e.gr c).toNat
    let far := (e.i.ext.getD 0).toNat
    let site := clusterSite g.cluster
    let enters (i : Instr) (x : SendEntry) : Prop := Commits i s g e (s.setCluster g.cluster { k with fq := k.fq ++ [x] })
    let posts (i : Instr) (v : Word64) : Prop := ∃ (t : State) (p : Pend), Commits i s g e t ∧ t.group? g = some { e.gr with pend := e.gr.pend ++ [p] } ∧
      p.dest = e.i.dst ∧ p.ready = true ∧ p.vals = [v] ∧ t.mem = s.mem ∧ t.clusters = s.clusters ∧ t.sync = s.sync
    (Issues .put s g e → checkPut e s = none → k.fq.length < 32 → enters (.put g) (.put e.ctx (u e.i.s0) (u e.i.s2) (uVal e.gr e.i.s1) far e.obj site)) ∧
    (Issues .acc s g e → checkAcc e s = none → k.fq.length < 32 →
      enters (.acc g) (.acc e.ctx (u e.i.s0) (u e.i.s2) (uVal e.gr e.i.s1) far e.i.mod e.obj site)) ∧
    (Issues .get s g e → checkGet e s = none → k.fq.length < 32 → e.i.mod ≠ 1 →
      enters (.get g) (.get e.ctx (u e.i.s0) (u e.i.s2) (uVal e.gr e.i.s1) far e.obj site none)) ∧
    (Issues .get s g e → checkGet e s = none → k.fq.length < 32 → e.i.mod = 1 →
      ∃ t p, Commits (.get g) s g e t ∧ (t.cluster g.cluster).fq = k.fq ++ [.get e.ctx 0 8 (uVal e.gr e.i.s1) far none site (some (g, e.i.dst))] ∧
        t.group? g = some { e.gr with pend := e.gr.pend ++ [p] } ∧ p.dest = e.i.dst ∧ p.ready = false ∧ t.mem = s.mem) ∧
    (Issues .coll s g e → checkColl e s = none → k.fq.length < 32 → enters (.coll g) (.coll e.ctx (u e.i.s0) e.i.mod e.obj site)) ∧
    (Issues .flagrd s g e → posts (.flagrd g) ((engineFlags s g (e.i.mod % 4)).setWidth 64)) ∧
    (Issues .flagclr s g e →
      let mask : Flags := (src0 e.gr e.i true e.lead).setWidth 4
      ∃ t, Commits (.flagclr g) s g e t ∧ t.groups = s.groups ∧ t.mem = s.mem ∧ engineFlags t g (e.i.mod % 4) = engineFlags s g (e.i.mod % 4) &&& ~~~mask ∧
        ∀ m, m < 3 → e.i.mod % 4 < 3 → m ≠ e.i.mod % 4 → engineFlags t g m = engineFlags s g m) ∧
    (Issues .scrd s g e → checkScrd e s = none → s.mem.errs = [] → scField e < 9 → poisonedAt s e.entryAddr = false →
      ∃ (t : State) (p : Pend), Commits (.scrd g) s g e t ∧ t.group? g = some { e.gr with pend := e.gr.pend ++ [p] } ∧ p.dest = e.i.dst ∧ p.ready = true ∧
        p.poison = 0 ∧ p.vals = [scValue e (SEntry.ofBytes (loadMem s e.entryAddr 64)) e.blk] ∧ t.mem = s.mem) ∧
    (Issues .scrd s g e → checkScrd e s = none → 9 ≤ scField e → posts (.scrd g) (e.blk.ref (scField e - 9))) ∧
    (∀ b, Issues .scwr s g e → checkScwr e s = none → 9 ≤ scField e → blockOf s g.cluster e.gr.block = some b →
      ∃ t b', Commits (.scwr g) s g e t ∧ blockOf t g.cluster e.gr.block = some b' ∧ b'.ref (scField e - 9) = src1 e.gr e.i e.lead ∧ t.groups = s.groups ∧
        t.mem = s.mem)

/-- R373, R305, R376, R330, R331, Tables 11.10a and 11.11: a packet whose checks fail is answered with the STATUS of the first that fails and does nothing
else. PUT and PERMUTE store their data and its poison; ACC adds element by element; a GET is answered with the bytes at its address; an atomic leaves the
value of its code and is answered with the value before it; a SIGNAL of a bound context's object goes on to the object, any other changes none. -/
def Obligations.PacketsActAndAreAnswered : Prop :=
  ∀ (s : State) (n : Nat) (q : Packet),
    let len := q.data.length
    (∀ txn i need st, (txn, i, need) ∈ packetRows n → Arrives txn s n q → admitted s q (need q) = .error st →
      Machine.exec i s = .next (sendAck (takeIn s n) q st)) ∧
    (∀ txn i b, (txn, i) ∈ [(1, Instr.putPacket n), (9, Instr.permutePacket n)] → Arrives txn s n q → admitted s q (dataNeed q) = .ok b →
      unavailable s q.addr len = false → s.mem.errs = [] →
      ∃ u, Machine.exec i s = .next (sendAck u q 0) ∧ (∀ k x, q.data[k]? = some x → Memory.read u.mem.bytes (q.addr + k) = x) ∧
        (∀ a, a < q.addr ∨ q.addr + len ≤ a → Memory.read u.mem.bytes a = Memory.read s.mem.bytes a) ∧
        (∀ k, k < len → Sparse.get false u.mem.poison ((q.addr + k) / 64) = q.pmask.getLsbD (k / 64)) ∧ u.groups = s.groups ∧ u.sync = s.sync) ∧
    (∀ b, Arrives 4 s n q → admitted s q (dataNeed q) = .ok b → unavailable s q.addr len = false → s.mem.errs = [] →
      ∃ u, Machine.exec (.accPacket n) s = .next (sendAck u q 0) ∧
        (∀ k, k < len / 64 → loadMem u (q.addr + 64 * k) 64 =
          accBlock (q.arg0.toNat % 16) (64 / accSize (q.arg0.toNat % 16)) (loadMem s (q.addr + 64 * k) 64) ((q.data.drop (64 * k)).take 64)) ∧
        (∀ a, a < q.addr ∨ q.addr + len ≤ a → Memory.read u.mem.bytes a = Memory.read s.mem.bytes a) ∧ u.groups = s.groups ∧ u.sync = s.sync) ∧
    (∀ b, Arrives 2 s n q → admitted s q (getNeed q) = .ok b → unavailable s q.addr q.arg1.toNat = false → s.mem.errs = [] →
      ∃ (u : State) (ps : List Packet), Machine.exec (.getReq n) s = .next (ps.foldl sendLoose u) ∧ u.mem = s.mem ∧ u.groups = s.groups ∧ u.sync = s.sync ∧
        ps.length = packetsOf q.arg1.toNat ∧
        ∀ (k : Nat) (p : Packet), ps[k]? = some p → p.txn = 3 ∧ p.dest = q.src ∧ p.msg = q.msg ∧ p.site = q.site ∧ p.pkt = k ∧
          p.addr = q.arg0.toNat + 4096 * k ∧ p.data = loadMem s (q.addr + 4096 * k) (Nat.min 4096 (q.arg1.toNat - 4096 * k))) ∧
    (∀ b, Arrives 6 s n q → admitted s q (atomicNeed q) = .ok b → unavailable s q.addr (atomWidth q) = false → s.mem.errs = [] →
      let w := atomWidth q
      let old := leNat (loadMem s q.addr w)
      ∃ (u : State) (a : Packet), Machine.exec (.atomicReq n) s = .next (sendLoose u a) ∧
        loadMem u q.addr w = leBytes w (atomCode (q.arg0.toNat % 8) (q.arg0.getLsbD 4) (8 * w) old (q.arg1.toNat % 2 ^ (8 * w))
          (leNat (q.data.take 8) % 2 ^ (8 * w))) ∧
        (∀ x, x < q.addr ∨ q.addr + w ≤ x → Memory.read u.mem.bytes x = Memory.read s.mem.bytes x) ∧ u.groups = s.groups ∧ u.sync = s.sync ∧
        a.txn = 7 ∧ a.dest = q.src ∧ a.msg = q.msg ∧ a.site = q.site ∧ a.arg0 = BitVec.ofNat 64 old) ∧
    (Arrives 5 s n q →
      let vid := q.arg0.toNat % 65536
      (∀ ctx c j, s.boundTo q.fpn = some (ctx, c, j) → vid < c.syncObjects → ∃ (u : State) (x : Signal),
        Machine.exec (.signalPacket n) s = .next (sendAck u q 0) ∧ u.sync = { s.sync with inflight := s.sync.inflight ++ [x] } ∧ x.ctx = ctx ∧ x.vid = vid ∧
          x.set = q.arg0.getLsbD 16 ∧ x.value = q.arg1.setWidth 32 ∧ u.mem = s.mem ∧ u.groups = s.groups) ∧
      ((∀ ctx c j, s.boundTo q.fpn = some (ctx, c, j) → c.syncObjects ≤ vid) → ∃ u, Machine.exec (.signalPacket n) s = .next (sendAck u q 0) ∧
        u.sync = s.sync ∧ u.mem = s.mem ∧ u.groups = s.groups))

/-- R143, R371, R372: an entry at the head of a send queue leaves it when its packets can be sent, and a wait there holds the queue. The ACK of the last
packet, or the last data of a GET, ends the message, and its completion then waits to be signalled; before that the message is kept with what has come. A
GET to a register gives it its value. A message with a packet still without ACK at ACK_TIMEOUT is lost. R399, R401, R404: a collective starts when every
part has issued it; a chunk for no bound context, or outside the staging of its slot, is refused. -/
def Obligations.MessagesEndWhenAcknowledged : Prop :=
  (∀ (s : State) (c ctx vid : Nat) (take : Bool) (x : Word32) (site : BitVec 32) (r : List SendEntry), (s.cluster c).fq = .wait ctx vid take x site :: r →
    Machine.exec (.sendQueueSend c) s = .next s) ∧
  (∀ (s : State) (c ctx dest vid fpn : Nat) (set : Bool) (v : Word32) (site : BitVec 32) (r : List SendEntry),
    (s.cluster c).fq = .signal ctx dest vid set v site :: r → ctxFpn s ctx = some fpn → unavailable s 0 0 = false → clusterUnacked (s.cluster c) < 64 →
    ∃ (m : Msg) (p : Packet), m.txn = 5 ∧ m.npkt = 1 ∧ m.acked = 0 ∧ m.num = (s.cluster c).nextMsg ∧ p.txn = 5 ∧ p.dest = dest ∧ p.fpn = fpn ∧ p.ord = true ∧
      p.msg = m.num ∧ p.arg0 = BitVec.ofNat 64 (vid % 65536 + (if set then 65536 else 0)) ∧ p.arg1 = v.setWidth 64 ∧
      (canLeave s p = true → ∃ u, Machine.exec (.sendQueueSend c) s = .next (sendPackets c m [p] u) ∧ (u.cluster c).fq = r ∧
        (u.cluster c).msgs = (s.cluster c).msgs ++ [m] ∧ u.mem = s.mem ∧ u.groups = s.groups)) ∧
  (∀ (s : State) (n : Nat) (q : Packet) (m : Msg),
    let c := siteCluster q.site
    let k := s.cluster c
    findMsg s q = some m → m.notify = none →
    let ended (t : State) (mark : Option (Nat × Nat × Nat)) : Prop := (t.cluster c).msgs = k.msgs.filter (fun x => x.num != m.num) ∧
      (t.cluster c).done = (if m.obj.isSome then k.done ++ [{ engine := .fabric, ctx := m.ctx, obj := m.obj, site := m.site, mark := mark }] else k.done)
    let got := m.acked ||| BitVec.ofNat 16 (2 ^ (q.pkt % 16))
    (∀ g d gr, Arrives 3 s n q → m.txn = 2 → m.acked.getLsbD (q.pkt % 16) = false → m.reg = some (g, d) → s.group? g = some gr →
      ∃ t gr', Machine.exec (.getData n) s = .next t ∧ ended t none ∧ t.group? g = some gr' ∧ t.mem = s.mem ∧
        ∀ (i : Nat) (p : Pend), gr.pend[i]? = some p → p.msg = some m.num →
          ∃ p', gr'.pend[i]? = some p' ∧ p'.ready = true ∧ p'.dest = p.dest ∧ p'.vals = [BitVec.ofNat 64 (leNat (q.data.take 8))]) ∧
    (Arrives 3 s n q → m.txn = 2 → m.acked.getLsbD (q.pkt % 16) = false → m.reg = none → unavailable s (m.laddr + 4096 * q.pkt) q.data.length = false →
      s.mem.errs = [] → m.laddr % 64 = 0 → q.data.length % 64 = 0 →
      let at_ := m.laddr + 4096 * q.pkt
      ∃ t mark, Machine.exec (.getData n) s = .next t ∧ (∀ i x, q.data[i]? = some x → Memory.read t.mem.bytes (at_ + i) = x) ∧
        (∀ a, a < at_ ∨ at_ + q.data.length ≤ a → Memory.read t.mem.bytes a = Memory.read s.mem.bytes a) ∧ t.groups = s.groups ∧
        ((∀ i, i < m.npkt → got.getLsbD i = true) → ended t mark) ∧
        ((∃ i, i < m.npkt ∧ got.getLsbD i = false) → ∃ m', (t.cluster c).msgs = k.msgs.map (fun x => if x.num = m.num then m' else x) ∧ m'.acked = got)) ∧
    (Arrives 7 s n q → m.txn = 6 → m.laddr % 256 ≠ reshardAxes → findColl s m.ctx (m.laddr % 256) (m.laddr / 256) = none → m.acked.getLsbD (q.pkt % 16) = false →
      ∃ t, Machine.exec (.atomicRsp n) s = .next t ∧ ended t none ∧ t.mem = s.mem ∧ t.groups = s.groups) ∧
    (Arrives 10 s n q → q.status = 0 → m.txn = 1 ∨ m.txn = 4 →
      let all := m.acked ||| BitVec.ofNat 16 (q.arg0.toNat % 65536)
      ∃ t mark, Machine.exec (.fabricAck n) s = .next t ∧ t.mem = s.mem ∧ t.groups = s.groups ∧ ((∀ i, i < m.npkt → all.getLsbD i = true) → ended t mark) ∧
        ((∃ i, i < m.npkt ∧ all.getLsbD i = false) →
          (t.cluster c).msgs = k.msgs.map (fun x => if x.num = m.num then { m with acked := all } else x)))) ∧
  (∀ (s : State) (c num pkt : Nat) (m : Msg), (s.cluster c).msgs.find? (fun x => x.num == num) = some m → pkt < m.npkt → m.acked.getLsbD pkt = false →
    Machine.exec (.ackTimeout c num pkt) s = .next (msgLost s c m pkt) ∧
    (m.txn = 1 ∨ m.txn = 4 → m.reg = none → ((msgLost s c m pkt).cluster c).msgs = (s.cluster c).msgs.filter (fun x => x.num != m.num) ∧
      (m.obj ≠ none → ∃ a, ((msgLost s c m pkt).cluster c).done =
        (s.cluster c).done ++ [{ engine := .fabric, ctx := m.ctx, obj := m.obj, site := m.site, mark := some (1, a, 3) }] ∧ a = m.raddr + 4096 * pkt))) ∧
  (∀ (s : State) (n : Nat) (q : Packet), Arrives 8 s n q →
    (s.boundTo q.fpn = none → Machine.exec (.reduceChunk n) s = .next (sendAck (takeIn s n) q 1)) ∧
    (∀ ctx c j, s.boundTo q.fpn = some (ctx, c, j) → q.addr < Config.stagingBase c.slot ∨ Config.stagingBase c.slot + 0x800000 ≤ q.addr →
      Machine.exec (.reduceChunk n) s = .next (sendAck (takeIn s n) q 2)) ∧
    (∀ ctx c j, s.boundTo q.fpn = some (ctx, c, j) → Config.stagingBase c.slot ≤ q.addr → q.addr < Config.stagingBase c.slot + 0x800000 →
      Machine.exec (.reduceChunk n) s = .next (chunkIn (sendAck (takeIn s n) q 0) ctx c j q))) ∧
  (∀ (s : State) (ctx axes number : Nat) (k : Collective) (c : Ctx) (j : Job), findColl s ctx axes number = some k → s.ctx? ctx = some c → c.job = some j →
    k.started = false → k.issuers.length = k.parts → k.issuers ≠ [] → k.flag 2 = false → k.code ≠ cPERMUTE → k.held = [] → s.mem.errs = [] →
    ∃ u k', Machine.exec (.collectiveStart ctx axes number) s = .next (advanceAll u c.slot ctx axes number) ∧ findColl u ctx axes number = some k' ∧
      k'.started = true ∧ k'.issuers = k.issuers ∧ u.mem = s.mem ∧ u.groups = s.groups)

/-- R353, R354, R356, R357, R358, R381: a link in service moves through its states as its rows say; EXCHANGE makes it ACTIVE with fresh sequence numbers and
credits when the far end's identity checks out, and MISWIRED otherwise; RETRAIN keeps what it holds for resending. A flit with a bad CRC is not read and asks for
a resend once; a good flit acknowledges and returns credits, and a data flit is accepted only in order. A resend sends every flit still held and keeps
it. A FAILOVER moves the flits of the failed link to the failover link. A flit that carries a new halt identifier makes it this module's. -/
def Obligations.LinksTrainServeAndFailOver : Prop :=
  ∀ (s : State) (n : Nat), Served s n →
    let l := s.link n
    let others (t : State) : Prop := ∀ m, m ≠ n → t.link m = s.link m
    (∀ i a b, (i, a, b) ∈ trainRows n → l.st = a → Machine.exec i s = .next (s.setLink n { l with st := b })) ∧
    (l.st = .detect → ∃ t, Machine.exec (.linkNosignal n) s = .next t ∧ t.fabric = s.fabric) ∧
    (l.st = .equalise ∨ l.st = .align → ∃ t, Machine.exec (.trainTimeout n) s = .next t ∧ t.fabric = (s.setLink n { l with st := .down }).fabric) ∧
    (∀ farPort farSlot far farSealed, l.st = .exchange → ∃ t, Machine.exec (.exchange n farPort farSlot far farSealed) s = .next t ∧ others t ∧
      (identityOk s n farPort farSlot far = true → (t.link n).st = .active ∧ (t.link n).nextSeq = 0 ∧ (t.link n).expSeq = 0 ∧ (t.link n).replay = [] ∧
        (t.link n).txq = [] ∧ (t.link n).crOwed = [] ∧ (t.link n).credits = startCredits farSealed) ∧
      (identityOk s n farPort farSlot far = false → t.link n = { l with st := .miswired })) ∧
    (∀ cause, l.st = .active → cause ≠ .replays ∨ 16 ≤ l.noProgress → ∃ t, Machine.exec (.retrainEntry n cause) s = .next t ∧ others t ∧
      (t.link n).st = .retrain ∧ (t.link n).replay = l.replay ∧ (t.link n).txq = l.txq ∧ (t.link n).expSeq = l.expSeq ∧ (t.link n).nextSeq = l.nextSeq) ∧
    (l.st = .retrain → l.replay = [] → l.txq = [] → Machine.exec (.realignDone n) s = .next (s.setLink n { l with st := .active, noProgress := 0 })) ∧
    (l.st = .retrain → (∀ m ∈ linksOf (portOfLink n), m ≠ n → (s.link m).st ≠ .active) → (∃ m ∈ linksOf (portOfLink n), m ≠ n ∧ (s.link m).st = .retrain) →
      ∃ t, Machine.exec (.retrainFail n) s = .next t ∧ others t ∧ (t.link n).st = .down ∧ (t.link n).replay = l.replay) ∧
    (l.st = .active → ∀ bytes, bytes.length = 256 → crc64xz (bytes.take 248) ≠ field bytes 248 8 →
      ∃ u, Machine.exec (.flitReceive n bytes) s = .next (answer u n false) ∧ others u ∧
        u.link n = (if l.nakDone then l else { l with nakOwed := true, nakDone := true }) ∧ u.fabric.arrived = s.fabric.arrived) ∧
    (l.st = .active → ∀ bytes h, GoodFlit bytes h → h / 2 ^ 30 % 2 = 0 → h / 2 ^ 29 % 2 = 0 →
      let u := s.setLink n (giveCredits (h / 2 ^ 34 % 8) (h / 2 ^ 31 % 8) (h / 2 ^ 37 % 256) (takeAck l (h / 2 ^ 17 % 4096)))
      (h % 4 ≠ 1 → Machine.exec (.flitReceive n bytes) s = .next (answer u n false)) ∧
      (h % 4 = 1 → h / 2 ^ 5 % 4096 = l.expSeq →
        Machine.exec (.flitReceive n bytes) s = .next (answer (acceptFlit u n (h / 4 % 8) l.expSeq ((bytes.drop 8).take 240)) n true)) ∧
      (h % 4 = 1 → h / 2 ^ 5 % 4096 ≠ l.expSeq → Machine.exec (.flitReceive n bytes) s = .next (answer (nakOnce u n) n false))) ∧
    (l.st = .active → l.inject = none → ∃ t, Machine.exec (.replayTimeout n) s = .next t ∧ others t ∧ (t.link n).replay = l.replay ∧
      (t.link n).wire.length = l.wire.length + l.replay.length ∧ (t.link n).nextSeq = l.nextSeq ∧ (t.link n).expSeq = l.expSeq) ∧
    (l.st = .active → ∀ bytes h, GoodFlit bytes h → h / 2 ^ 30 % 2 = 1 → h / 2 ^ 61 % 8 ≠ haltIdOf s (h / 2 ^ 45 % 2 ^ 16) → h % 4 ≠ 1 → h / 2 ^ 29 % 2 = 0 →
      ∃ u, Machine.exec (.haltFlit n bytes) s = .next (answer u n false) ∧ haltIdOf u (h / 2 ^ 45 % 2 ^ 16) = h / 2 ^ 61 % 8 ∧
        u.mem = s.mem) ∧
    (∀ slot lastSeq, l.st = .active → slot < 4 →
      let f := 4 * portOfLink n + slot
      f ≠ n → (s.link f).st ≠ .active → ∃ u, Machine.exec (.failover n slot lastSeq) s = .next (pump u n) ∧ (u.link f).replay = [] ∧ (u.link f).txq = [] ∧
        (∀ m, m ≠ n → m ≠ f → u.link m = s.link m) ∧
        ∀ (i : Nat) (x : TxFlit), (∃ y, (s.link f).replay[i]? = some y ∧ y.seq = lastSeq % 4096 ∧ ∀ z ∈ (s.link f).replay.take i, z.seq ≠ lastSeq % 4096) →
          x ∈ (s.link f).replay.drop (i + 1) → x.vc < 8 → x ∈ (u.link n).txq)

/-- R384, R366, R372, R380, R383, Tables 11.14 and 11.15: FAB_INFO reports the axis lengths, the SEALED bit and the state of each link; FAB_LINK enables a DISABLED
link of an axis longer than 1 whose die is in service, disables a link that carries nothing, retrains a MISWIRED one, and elsewhere completes with
NOT_IN_STATE and the link's state code; FAB_ROUTE adds a dead segment or takes it out; FAB_HALT starts a wave under the next identifier modulo 8, unless
one of this FPN began less than a millisecond ago, and answers the identifier; FAB_INJECT sets the injection its payload asks for except in FIELD, SCRAPPED and
a pending transition; FAB_CFG sets ACK_TIMEOUT and adaptive routing where its fields ask it. From a VF the commands marked PF0 answer DENIED. -/
def Obligations.FabricCommandsAct : Prop :=
  ∀ (s : State) (r : RingId) (c : OutCmd) (p : List Byte),
    (Ready cmdFabInfo s r c p → ∃ b, CompletesWith (.fabInfo r c.tag) s r c (begun s r c p) b ∧ b.length = 400 ∧
      (∀ a < 6, b[a]? = some (BitVec.ofNat 8 (axisLen s a))) ∧ b[6]? = some (if s.keep.sealed then 1 else 0) ∧
      ∀ n < 48, b[16 + 8 * n]? = some (BitVec.ofNat 8 (linkCode (s.link n).st))) ∧
    (Ready cmdFabLink s r c p → r.fn = 0 →
      let n := c.arg 0 1
      (c.arg 1 1 = 0 → (s.link n).st = .disabled → 1 < axisLen s (axisOfPort (portOfLink n)) → s.carrier.isolated.contains (24 + n % 8) = false →
        ∃ t, CompletesWith (.fabLink r c.tag) s r c t [] ∧ t.link n = { s.link n with st := .detect } ∧ ∀ m, m ≠ n → t.link m = s.link m) ∧
      (c.arg 1 1 = 1 → (s.link n).st ≠ .active → (s.link n).st ≠ .retrain →
        ∃ t, CompletesWith (.fabLink r c.tag) s r c t [] ∧ t.link n = { s.link n with st := .disabled } ∧ ∀ m, m ≠ n → t.link m = s.link m) ∧
      (c.arg 1 1 = 2 → (s.link n).st = .miswired →
        ∃ t, CompletesWith (.fabLink r c.tag) s r c t [] ∧ t.link n = { s.link n with st := .detect } ∧ ∀ m, m ≠ n → t.link m = s.link m) ∧
      (c.arg 1 1 = 2 → (s.link n).st ≠ .miswired → RefusesWith (.fabLink r c.tag) s r c p 5 (linkCode (s.link n).st))) ∧
    (Ready cmdFabRoute s r c p → r.fn = 0 → let x := (c.arg 0 1, c.arg 1 1)
      (c.arg 2 1 = 1 → x ∈ s.fabric.dead → CompletesWith (.fabRoute r c.tag) s r c (begun s r c p) []) ∧
      (c.arg 2 1 = 1 → x ∉ s.fabric.dead → CompletesWith (.fabRoute r c.tag) s r c
        (purgeLinks ((begun s r c p).setFabric { s.fabric with dead := s.fabric.dead ++ [x] })) []) ∧
      (c.arg 2 1 = 0 → ∃ t, CompletesWith (.fabRoute r c.tag) s r c t [] ∧ t.mem = s.mem ∧ t.fabric.links = s.fabric.links ∧
        ∀ y, y ∈ t.fabric.dead ↔ y ∈ s.fabric.dead ∧ y ≠ x)) ∧
    (Ready cmdFabHalt s r c p → r.fn = 0 ∨ (∃ n x j, s.boundTo (c.arg 0 2) = some (n, x, j) ∧ x.slot + 1 = r.fn) →
      (∀ t₀, Sparse.find? s.fabric.haltAt (c.arg 0 2) = some t₀ → s.time.toNat < t₀ + 1000000 →
        CompletesWith (.fabHalt r c.tag) s r c (begun s r c p) [BitVec.ofNat 8 (haltIdOf s (c.arg 0 2))]) ∧
      ((∀ t₀, Sparse.find? s.fabric.haltAt (c.arg 0 2) = some t₀ → t₀ + 1000000 ≤ s.time.toNat) →
        ∃ t, CompletesWith (.fabHalt r c.tag) s r c t [BitVec.ofNat 8 ((haltIdOf s (c.arg 0 2) + 1) % 8)] ∧ t.mem = s.mem ∧
          haltIdOf t (c.arg 0 2) = (haltIdOf s (c.arg 0 2) + 1) % 8)) ∧
    (Ready cmdFabHalt s r c p → r.fn ≠ 0 → (∀ n x j, s.boundTo (c.arg 0 2) = some (n, x, j) → x.slot + 1 ≠ r.fn) →
      RefusesWith (.fabHalt r c.tag) s r c p 4 1) ∧
    (Ready cmdFabInject s r c p → r.fn = 0 → let k : OutCmd := { c with payload := p }
      (s.keep.lc = 2 ∨ s.keep.lc = 5 ∨ s.keep.lc = 7 → RefusesWith (.fabInject r c.tag) s r c p 4 2) ∧
      (s.keep.lc ≠ 2 → s.keep.lc ≠ 5 → s.keep.lc ≠ 7 → CompletesWith (.fabInject r c.tag) s r c
        ((begun s r c p).setLink (k.pay 0 1) { s.link (k.pay 0 1) with inject := (if k.pay 1 1 = 0 then none else
          some (Inject.mk (k.pay 1 1) (BitVec.ofNat 8 (k.pay 2 1)) (k.pay 3 1) (k.pay 4 4) (k.pay 8 4))) }) [])) ∧
    (Ready cmdFabCfg s r c p → r.fn = 0 → ∃ t, CompletesWith (.fabCfg r c.tag) s r c t [] ∧ t.fabric.links = s.fabric.links ∧
      (c.arg 0 4 = 0 → t.fabric.ackUs = s.fabric.ackUs) ∧ (c.arg 0 4 ≠ 0 → t.fabric.ackUs = c.arg 0 4) ∧
      (c.arg 4 1 = 0 → t.fabric.adaptive = s.fabric.adaptive) ∧ (c.arg 4 1 = 1 → t.fabric.adaptive = true) ∧ (c.arg 4 1 = 2 → t.fabric.adaptive = false)) ∧
    (r.fn ≠ 0 → (Ready cmdFabLink s r c p → RefusesWith (.fabLink r c.tag) s r c p 4 1) ∧ (Ready cmdFabRoute s r c p → RefusesWith (.fabRoute r c.tag) s r c p 4 1) ∧
      (Ready cmdFabInject s r c p → RefusesWith (.fabInject r c.tag) s r c p 4 1) ∧ (Ready cmdFabCfg s r c p → RefusesWith (.fabCfg r c.tag) s r c p 4 1))

/-- R109 to R115, R472, Tables 3.6, 3.9 and 3.11: from a function that may debug the context, DBG_ATTACH holds its groups at a trap; DBG_DETACH gives that up, takes
the context's breakpoints and watchpoints away and runs a context on in which no group is stopped; DBG_HALT stops an ACTIVE group whose results have come, at
its boundary, and waits while they have not; DBG_RESUME makes a stopped group ACTIVE and exempt from breakpoints once; DBG_STEP of an instruction that commits answers
its STEP_DONE record of 256 bytes and leaves the group HALTED; DBG_READ answers the image; DBG_WRITE changes only what its select bits name; DBG_BP_SET and DBG_WP_SET set and clear their
index, or answer RESOURCE where another context holds it; DBG_KILL ends the group; DBG_STATUS lists 16 bytes for each group of the context. Another function's
command is DENIED, and a group in the wrong state answers NOT_IN_STATE with its state code. -/
def Obligations.DebugCommandsAct : Prop :=
  ∀ (s : State) (r : RingId) (c : OutCmd) (p : List Byte) (x : Ctx), s.ctx? c.context = some x →
    (fnOwns r.fn x.slot = false →
      (Ready cmdDbgAttach s r c p → RefusesWith (.dbgAttach r c.tag) s r c p 4 1) ∧ (Ready cmdDbgHalt s r c p → RefusesWith (.dbgHalt r c.tag) s r c p 4 1) ∧
      (Ready cmdDbgWrite s r c p → RefusesWith (.dbgWrite r c.tag) s r c p 4 1) ∧ (Ready cmdDbgKill s r c p → RefusesWith (.dbgKill r c.tag) s r c p 4 1)) ∧
    (debugDenied s r.fn x = none →
      let k : OutCmd := { c with payload := p }
      (Ready cmdDbgAttach s r c p → CompletesWith (.dbgAttach r c.tag) s r c ((begun s r c p).setCtx c.context { x with hold := true }) []) ∧
      (Ready cmdDbgDetach s r c p → (∀ h gr, h ∈ ctxGroups s c.context → s.group? h = some gr → gr.st = .active) →
        ∃ t, CompletesWith (.dbgDetach r c.tag) s r c t [] ∧ t.ctx? c.context = some { x with hold := false } ∧ t.groups = s.groups ∧
          (∀ u i b, Sparse.find? (t.unitSt u).bps i = some b → b.ctx ≠ c.context) ∧ (∀ n i w, Sparse.find? (t.cluster n).wps i = some w → w.ctx ≠ c.context)) ∧
      (∀ gr, s.group? c.group = some gr → gr.ctx = c.context →
        (Ready cmdDbgHalt s r c p → gr.st = .active → gr.pend.all (·.ready) = true →
          ∃ t b, CompletesWith (.dbgHalt r c.tag) s r c t b ∧ b.length = 16 ∧ t.group? c.group = some { retire gr with st := .halted } ∧
            (∀ h, groupKey h ≠ groupKey c.group → t.group? h = s.group? h) ∧ t.mem = s.mem) ∧
        (Ready cmdDbgHalt s r c p → gr.st ≠ .active → RefusesWith (.dbgHalt r c.tag) s r c p 5 (gstateCode gr.st)) ∧
        (Ready cmdDbgResume s r c p → isOurs gr = true → gr.live ≠ 0 → gr.lastTrap ≠ tBARRIER_STARVED → ∃ t, CompletesWith (.dbgResume r c.tag) s r c t [] ∧
          t.group? c.group = some { gr with st := .active, lastTrap := 0, skipBp := true } ∧ ∀ h, groupKey h ≠ groupKey c.group → t.group? h = s.group? h) ∧
        (Ready cmdDbgStep s r c p → isOurs gr = true → gr.stalled = true → RefusesWith (.dbgStep r c.tag) s r c p 5 0x10) ∧
        (Ready cmdDbgStep s r c p → isOurs gr = true → gr.stalled = false →
          let s0 := (begun s r c p).setGroup c.group { gr with st := .active, skipBp := true, lastTrap := 0 }
          ∀ e u y, nextEnv s0 c.group = some e → attempt e s0 = .done u ∨ attempt e s0 = .jumped u →
            (settleRes e s0 (attempt e s0)).group? c.group = some y → y.stalled = false → y.pend.all (·.ready) = true → y.st ≠ .held → y.live ≠ 0 →
            ∃ t b, CompletesWith (.dbgStep r c.tag) s r c t b ∧ b.length = 256 ∧ byteAt b 0 = 0x0A ∧
              t.group? c.group = some { retire y with st := .halted, lastTrap := 0 } ∧ t.mem = (settleRes e s0 (attempt e s0)).mem) ∧
        (Ready cmdDbgRead s r c p → isStopped gr = true → CompletesWith (.dbgRead r c.tag) s r c (begun s r c p) (image c.group gr)) ∧
        (Ready cmdDbgWrite s r c p → isStopped gr = true → ∃ t y, CompletesWith (.dbgWrite r c.tag) s r c t [] ∧ t.group? c.group = some y ∧
          (∀ h, groupKey h ≠ groupKey c.group → t.group? h = s.group? h) ∧ y.live = gr.live ∧ y.st = gr.st ∧
          (c.arg 4 1 % 2 = 0 → y.pcs = gr.pcs ∧ y.sites = gr.sites ∧ y.bars = gr.bars) ∧ (c.arg 4 1 / 2 % 2 = 0 → y.u = gr.u) ∧
          (c.arg 4 1 / 4 % 2 = 0 → y.p = gr.p) ∧ (c.arg 4 1 / 8 % 2 = 0 → y.v = gr.v) ∧
          (c.arg 4 1 % 2 = 1 → y.sites = [] ∧ y.bars = [] ∧ ∀ th < 64, gr.live.getLsbD th = true → y.pcGet th = BitVec.ofNat 64 (k.pay (64 + 8 * th) 8)) ∧
          (c.arg 4 1 / 2 % 2 = 1 → ∀ n < 32, y.uGet n = BitVec.ofNat 64 (k.pay (576 + 8 * n) 8)) ∧
          (c.arg 4 1 / 8 % 2 = 1 → ∀ th < 64, gr.live.getLsbD th = true → ∀ n < 64, y.vGet n th = BitVec.ofNat 32 (k.pay (896 + 256 * th + 4 * n) 4))) ∧
        (Ready cmdDbgKill s r c p → isStopped gr = true → CompletesWith (.dbgKill r c.tag) s r c (killGroup (begun s r c p) c.group) []) ∧
        (Ready cmdDbgKill s r c p → isStopped gr = false → RefusesWith (.dbgKill r c.tag) s r c p 5 1)) ∧
      (Ready cmdDbgBpSet s r c p →
        let own := Sparse.find? (s.unitSt (unitKey c.group)).bps (c.arg 4 1)
        (∀ b, own = some b → b.ctx ≠ c.context → RefusesWith (.dbgBpSet r c.tag) s r c p 6 9) ∧
        ((∀ b, own = some b → b.ctx = c.context) → ∃ t, CompletesWith (.dbgBpSet r c.tag) s r c t [] ∧
          (∀ u, u ≠ unitKey c.group → t.unitSt u = s.unitSt u) ∧ (∀ i, i ≠ c.arg 4 1 →
            Sparse.find? (t.unitSt (unitKey c.group)).bps i = Sparse.find? (s.unitSt (unitKey c.group)).bps i) ∧
          Sparse.find? (t.unitSt (unitKey c.group)).bps (c.arg 4 1) = if c.arg 5 1 = 0 then none else
            some { ctx := c.context, slots := BitVec.ofNat 16 (c.arg 6 2), addr := BitVec.ofNat 64 (c.arg 8 8) })) ∧
      (Ready cmdDbgWpSet s r c p →
        let n := siteCluster c.site
        let own := Sparse.find? (s.cluster n).wps (c.arg 4 1)
        (∀ w, own = some w → w.ctx ≠ c.context → RefusesWith (.dbgWpSet r c.tag) s r c p 6 0) ∧
        ((∀ w, own = some w → w.ctx = c.context) → ∃ t, CompletesWith (.dbgWpSet r c.tag) s r c t [] ∧
          (∀ i, i ≠ c.arg 4 1 → Sparse.find? (t.cluster n).wps i = Sparse.find? (s.cluster n).wps i) ∧
          Sparse.find? (t.cluster n).wps (c.arg 4 1) = if c.arg 5 1 = 0 then none else
            some { ctx := c.context, kind := c.arg 5 1, l := c.arg 6 1, base := c.arg 8 8 })) ∧
      (Ready cmdDbgStatus s r c p →
        let lines := (ctxGroups s c.context).map (statusLine s)
        lines.flatten.length ≤ c.resultLen → CompletesWith (.dbgStatus r c.tag) s r c (begun s r c p) lines.flatten))

/-- R288, R289, R298, R299, R302, R305 to R308, R316, R486, R487, Tables 9.4, 9.7 and 9.10: what the memory commands and the events of memory do. MEM_INFO reports
each slot's mode. MEM_MAP grants a range that may be granted and is DENIED one that may not; MEM_UNMAP takes it back, at once where nothing that passed its
check is still to be performed, and waits otherwise. MEM_HOST_COPY moves 64-byte blocks one way or the other. MEM_POISON_LIST lists what is
marked; the configuration commands keep or set their values; MEM_SHARED_ALLOC assigns the highest free slots and takes every shared slot back; MEM_INJECT
and MEMORY_ERROR leave an error in stored bits, which patrol scrub corrects where the code can; a stack's reading sets its throttle level; a repair
of a shared chunk heals it, or marks it poisoned and the slot FAILED. -/
def Obligations.MemoryCommandsAndEventsAct : Prop :=
  ∀ (s : State) (r : RingId) (c : OutCmd) (p : List Byte),
    (Ready cmdMemInfo s r c p → ∃ b, CompletesWith (.memInfo r c.tag) s r c (begun s r c p) b ∧ b.length = 16 + 8 * slotCount s.part.order ∧
      byteAt b 1 = BitVec.ofNat 8 (slotCount s.part.order) ∧
      ∀ k < slotCount s.part.order, byteAt b (16 + 8 * k) = (match s.mem.slot k with | .free => 0 | .near _ => 1 | .far _ => 2)) ∧
    (∀ x, s.ctx? c.context = some x → fnOwns r.fn x.slot = true →
      let b := c.arg 0 8
      let n := c.arg 8 8
      (Ready cmdMemMap s r c p →
        (grantable 4096 s x.slot b (b + n) < c.arg 16 1 → RefusesWith (.memMap r c.tag) s r c p 4 5) ∧
        (c.arg 16 1 ≤ grantable 4096 s x.slot b (b + n) → (∀ k ∈ sharedIn s b n, sharedState s k ≠ .opened) →
          (256 ≤ x.maps.length → RefusesWith (.memMap r c.tag) s r c p 6 8) ∧
          (x.maps.length < 256 → CompletesWith (.memMap r c.tag) s r c
            ((begun s r c p).setCtx c.context { x with maps := x.maps ++ [{ base := b, len := n, write := c.arg 16 1 == 3 }] }) []))) ∧
      (Ready cmdMemUnmap s r c p → ∀ m, x.maps.find? (fun y => y.base == b) = some m →
        let u := (begun s r c p).setCtx c.context { x with maps := x.maps.filter (fun y => y.base != b) }
        (rangeBusy u c.context b m.len = false → CompletesWith (.memUnmap r c.tag) s r c u []) ∧
        (rangeBusy u c.context b m.len = true → ∃ t, Machine.exec (.memUnmap r c.tag) s = .next t ∧ t.ctx? c.context = u.ctx? c.context ∧
          t.mem = s.mem ∧ ∃ d ∈ (t.ring r).out, d.tag = c.tag))) ∧
    (Ready cmdMemHostCopy s r c p → copyRefused s r c = none → unavailable s (c.arg 8 8) (c.arg 16 7) = false → hostFails s (c.arg 0 8) (c.arg 16 7) = false →
      s.mem.errs = [] →
      let h := c.arg 0 8
      let a := c.arg 8 8
      let n := c.arg 16 7
      (c.arg 23 1 = 0 → ∃ t, CompletesWith (.memHostCopy r c.tag) s r c t [] ∧ t.hostMem = s.hostMem ∧
        ∀ x, Memory.read t.mem.bytes x = if a ≤ x ∧ x < a + n then Memory.read s.hostMem (h + (x - a)) else Memory.read s.mem.bytes x) ∧
      (c.arg 23 1 = 1 → c.context = 0 → s.ctx? 0 = none → s.mem.poison = [] → ∃ t, CompletesWith (.memHostCopy r c.tag) s r c t [] ∧ t.mem = s.mem ∧
        ∀ x, Memory.read t.hostMem x = if h ≤ x ∧ x < h + n then Memory.read s.mem.bytes (a + (x - h)) else Memory.read s.hostMem x)) ∧
    (Ready cmdMemHostCopy s r c p → ∀ d, copyRefused s r c = some d → RefusesWith (.memHostCopy r c.tag) s r c p 4 d) ∧
    (Ready cmdMemPoisonList s r c p → r.fn = 0 → 16 * s.mem.poison.length ≤ c.resultLen →
      CompletesWith (.memPoisonList r c.tag) s r c (begun s r c p) ((s.mem.poison.map (fun e => 64 * e.1)).flatMap (poisonLine s))) ∧
    (r.fn = 0 →
      (Ready cmdMemThermalCfg s r c p → ∃ t b, CompletesWith (.memThermalCfg r c.tag) s r c t b ∧ b.length = 96 ∧ t.mem.bytes = s.mem.bytes ∧
        t.mem.t1 = (if c.arg 0 1 = 0 then s.mem.t1 else c.arg 0 1) ∧ t.mem.t2 = (if c.arg 1 1 = 0 then s.mem.t2 else c.arg 1 1) ∧
        t.mem.t3 = (if c.arg 2 1 = 0 then s.mem.t3 else c.arg 2 1) ∧
        ∀ k < 48, byteAt b (2 * k) = BitVec.ofInt 8 (s.stack k).temp ∧ byteAt b (2 * k + 1) = BitVec.ofNat 8 (s.stack k).level) ∧
      (Ready cmdMemScrubCfg s r c p → CompletesWith (.memScrubCfg r c.tag) s r c ((begun s r c p).setMemSys { s.mem with patrolH := c.arg 0 2 }) []) ∧
      (Ready cmdMemSharedAlloc s r c p → c.arg 0 1 ≠ 0 →
        let pick := (slotsWhere s isFree).reverse.take (c.arg 0 1)
        pick.length = c.arg 0 1 → (slotsWhere s isShared).length + c.arg 0 1 ≤ sharedMax s →
        ∃ t, CompletesWith (.memSharedAlloc r c.tag) s r c t [BitVec.ofNat 8 (pick.headD 0)] ∧ (∀ k ∈ pick, t.mem.slot k = .far 6 ∧ sharedState t k = .opened) ∧
          (∀ k, k ∉ pick → t.mem.slot k = s.mem.slot k) ∧ t.mem.bytes = s.mem.bytes) ∧
      (Ready cmdMemSharedAlloc s r c p → c.arg 0 1 = 0 → (∀ k ∈ slotsWhere s isShared, slotMapped s k = false) →
        ∃ t b, CompletesWith (.memSharedAlloc r c.tag) s r c t [b] ∧ (∀ k ∈ slotsWhere s isShared, t.mem.slot k = .free) ∧
          (∀ k, k ∉ slotsWhere s isShared → t.mem.slot k = s.mem.slot k) ∧ t.mem.bytes = s.mem.bytes) ∧
      (Ready cmdMemInject s r c p →
        (s.keep.lc = 2 ∨ s.keep.lc = 5 ∨ s.keep.lc = 7 → RefusesWith (.memInject r c.tag) s r c p 4 2) ∧
        (s.keep.lc ≠ 2 → s.keep.lc ≠ 5 → s.keep.lc ≠ 7 → ∃ t, CompletesWith (.memInject r c.tag) s r c t [] ∧ t.mem.bytes = s.mem.bytes ∧
          Sparse.find? t.mem.errs (errKey (c.arg 0 8)) = some (if c.arg 8 1 = 1 ∨ c.arg 8 1 = 3 then .one else .two)))) ∧
    (∀ (a : Nat) (k : ErrKind), isStacked s a = true ∨ (isScratch s a = true ∧ k ≠ .onDie) → ∃ t, Machine.exec (.memoryError a k) s = .next t ∧
      Sparse.find? t.mem.errs (errKey a) = some k ∧ (∀ q, q ≠ errKey a → Sparse.find? t.mem.errs q = Sparse.find? s.mem.errs q) ∧ t.mem.bytes = s.mem.bytes) ∧
    (∀ (i : Instr) (g : Nat), (∃ cl row, i = .spPatrolScrub cl row ∧ cl < 640 ∧ row < 524288 ∧ g = spOf cl / 64 + row) ∨
        (∃ a, i = .stackPatrolScrub a ∧ isStacked s a = true ∧ stackStopped s a 1 = false ∧ g = a / 64) →
      (∀ k ∈ errKeys (64 * g) 64, Sparse.find? s.mem.errs k ≠ some .two ∧ Sparse.find? s.mem.errs k ≠ some .many) →
      ∃ t, Machine.exec i s = .next t ∧ t.mem.bytes = s.mem.bytes ∧ t.mem.poison = s.mem.poison ∧ ∀ k, Sparse.find? t.mem.errs k =
        if k ∈ errKeys (64 * g) 64 then none else Sparse.find? s.mem.errs k) ∧
    (∀ (k : Nat) (celsius : Int), k < 48 → s.on = true →
      let x := s.stack k
      let up : Nat := if (s.mem.t3 : Int) ≤ celsius then 3 else if (s.mem.t2 : Int) ≤ celsius then 2 else if (s.mem.t1 : Int) ≤ celsius then 1 else 0
      ∃ t, Machine.exec (.stackTempReading k celsius) s = .next t ∧ (t.stack k).temp = celsius ∧ (t.stack k).stopped = decide (105 ≤ celsius) ∧
        (x.level < up → (t.stack k).level = up) ∧ (x.level = up → (t.stack k).level = up) ∧ (up < x.level → x.low + 1 < 10 → (t.stack k).level = x.level) ∧
        (∀ m, m ≠ k → t.stack m = s.stack m) ∧ t.mem.bytes = s.mem.bytes) ∧
    (∀ (a k off : Nat) (x : Shared), placeOf s.part.order a = .slot k off → Sparse.find? s.keep.shared k = some x → x.st = .sealed →
      Sparse.find? s.mem.errs (a / 64) = some .two → (∀ y ∈ x.repairs, y.chunk ≠ off / 0x10_0000) →
      Machine.exec (.sharedUncorrectableRead a) s = .next (s.setKeep { s.keep with
        shared := Sparse.set s.keep.shared k { x with repairs := x.repairs ++ [{ chunk := off / 0x10_0000, addr := a / 64 * 64, held := 1 }] } })) ∧
    (∀ (slot : Nat) (x : Shared) (y : Repair) (rest : List Repair), Sparse.find? s.keep.shared slot = some x → x.repairs = y :: rest →
      let lo := (slotBytes * slot + 0x10_0000 * y.chunk) / 64
      (∃ t, Machine.exec (.sharedRepairDone slot) s = .next t ∧ Sparse.find? t.keep.shared slot = some { x with repairs := rest } ∧ t.mem.bytes = s.mem.bytes ∧
        ∀ k, lo ≤ k → k < lo + 16384 → Sparse.find? t.mem.errs k = none ∧ Sparse.find? t.mem.poison k = none) ∧
      ((∀ e ∈ s.ctxs, e.2.job = none) →
        ∃ t, Machine.exec (.sharedRepairTimeout slot) s = .next t ∧ Sparse.find? t.keep.shared slot = some { x with st := .failed, repairs := [] } ∧
          t.mem.bytes = s.mem.bytes ∧ ∀ k, lo ≤ k → k < lo + 16384 → Sparse.find? t.mem.errs k = none ∧ Sparse.get false t.mem.poison k = true))

/-- R494 to R507, R510, R511, R513, Tables 15.3, 15.5, 15.7, 15.8 and 15.9: the carrier. An accepted input brings STANDBY up and latches both straps; a dropped one
is counted and alerts; the loss of the bus turns everything off. PWR_EN starts a cold power-up whose end is ON, or STANDBY with POWER_FAULT, and its
fall turns the main domain off with nothing kept of memory. A tripped module stands in STANDBY once its cause has cleared. A power sample moves the
throttle level by its limits, a droop is counted, changed straps alert. A die at 125 degrees, a critical condition held, and the loss of REFCLK_SYS while ON
trip the module with their cause; a die at 115 degrees makes THERMAL_CRITICAL; coolant readings are kept and alert by their limits. The link clock's
loss takes links that are not disabled out of service and its return sets them detecting; the host clock's and HOST_PERST_N reset every function and
leave memory; a die that is isolated stays so. -/
def Obligations.CarrierEventsAct : Prop :=
  (∀ (s : State) (a b : BitVec 8) (i : Port), ∃ t, Machine.exec (.inputAccepted i a b) s = .next t ∧ t.mem = s.mem ∧ t.ctxs = s.ctxs ∧
    (match i with | .a => t.carrier.inA = true ∧ t.carrier.inB = s.carrier.inB | .b => t.carrier.inB = true ∧ t.carrier.inA = s.carrier.inA) ∧
    (s.carrier.power = .unpowered → t.carrier.power = .standby ∧ t.carrier.feedA = a ∧ t.carrier.feedB = b) ∧
    (s.carrier.power ≠ .unpowered → t.carrier.power = s.carrier.power ∧ t.carrier.feedA = s.carrier.feedA ∧ t.carrier.feedB = s.carrier.feedB)) ∧
  (∀ s : State, s.carrier.power ≠ .unpowered →
    (s.carrier.inA = true → ∃ t, Machine.exec (.inputDropped .a) s = .next t ∧ t.carrier.inA = false ∧ 0x10 ∈ t.carrier.alerts ∧ t.mem = s.mem ∧
      t.carrier.power = s.carrier.power ∧ t.counter 0x0A000F03 = s.counter 0x0A000F03 + 1) ∧
    (s.carrier.inB = true → ∃ t, Machine.exec (.inputDropped .b) s = .next t ∧ t.carrier.inB = false ∧ 0x11 ∈ t.carrier.alerts ∧ t.mem = s.mem ∧
      t.carrier.power = s.carrier.power ∧ t.counter 0x0A000F04 = s.counter 0x0A000F04 + 1)) ∧
  (∀ s : State, ∃ t, Machine.exec .busLoss s = .next t ∧ t.carrier.power = .unpowered ∧ t.carrier.inA = false ∧ t.carrier.inB = false ∧ t.carrier.alerts = [] ∧
    t.mem.bytes = [] ∧ t.ctxs = [] ∧ t.groups = [] ∧ t.keep.svn = s.keep.svn) ∧
  (∀ s : State, s.carrier.power = .standby → s.carrier.pwrEn = false → s.carrier.inA = true ∨ s.carrier.inB = true → s.carrier.inlet ≤ 45 → s.carrier.refSys = true →
    ∃ t, Machine.exec .pwrEnRise s = .next t ∧ t.carrier.power = .powerUp ∧ t.carrier.pwrEn = true ∧ t.time = 0 ∧ t.groups = []) ∧
  (∀ s : State, s.on = true → ∃ t, Machine.exec .pwrEnFall s = .next t ∧ t.carrier.power = .standby ∧ t.carrier.pwrEn = false ∧ t.mem.bytes = [] ∧
    t.ctxs = [] ∧ t.groups = []) ∧
  (∀ s : State, s.carrier.power = .powerUp →
    (∃ t, Machine.exec (.powerUpComplete true) s = .next t ∧ t.carrier.power = .on ∧ (t.lantern.serving = true ↔ s.lantern.mstate ≠ .recovery) ∧ t.mem = s.mem) ∧
    (∃ t, Machine.exec (.powerUpComplete false) s = .next t ∧ t.carrier.power = .standby ∧ 0x17 ∈ t.carrier.alerts)) ∧
  (∀ s : State, s.carrier.power = .tripped → s.carrier.tripCause ≠ 0x18 ∨ s.carrier.refSys = true → ∃ t, Machine.exec .tripCleared s = .next t ∧
    t.carrier.power = .standby ∧ t.mem = s.mem) ∧
  (∀ (s : State) (total : Nat) (parts : List Nat), s.on = true → s.keep.sealed = false → (getBudget s 7).overs.length < 2000 → (getBudget s 7).peakRun + 1 < 2000 →
    ∃ t, Machine.exec (.powerSample total parts) s = .next t ∧ t.carrier.power = .on ∧ t.carrier.watts = total ∧ t.carrier.sampleN = s.carrier.sampleN + 1 ∧
      t.mem = s.mem ∧ (11000 < total → (getBudget t 7).level = Nat.min 4 ((getBudget s 7).level + 1)) ∧
      (total ≤ 11000 → 9120 ≤ total → (getBudget t 7).level = (getBudget s 7).level) ∧
      (total < 9120 → (getBudget s 7).lowRun < 99 → (getBudget t 7).level = (getBudget s 7).level) ∧
      (total < 9120 → 99 ≤ (getBudget s 7).lowRun → 7 ∉ criticalBudgets s → (getBudget t 7).level = (getBudget s 7).level - 1)) ∧
  (∀ (s : State) (d : Option Nat), s.on = true → ∃ t, Machine.exec (.droopEvent d) s = .next t ∧ t.counter 0x0A000F02 = s.counter 0x0A000F02 + 1 ∧
    t.risk.droops = s.risk.droops + 65536 ∧ t.carrier = s.carrier ∧ t.mem = s.mem) ∧
  (∀ (s : State) (a b : BitVec 8), s.carrier.power ≠ .unpowered → (a ≠ s.carrier.feedA ∨ b ≠ s.carrier.feedB) → ∃ t, Machine.exec (.feedidRead a b) s = .next t ∧
    0x12 ∈ t.carrier.alerts ∧ t.carrier.feedA = s.carrier.feedA ∧ t.carrier.feedB = s.carrier.feedB ∧ t.mem = s.mem) ∧
  (∀ (s : State) (d : Nat) (celsius : Int), d < 32 → s.on = true →
    (celsius < 125 → ∃ t, Machine.exec (.dieTempReading d celsius) s = .next t ∧ Sparse.find? t.carrier.dieTemp d = some celsius ∧ t.carrier.power = .on ∧
      t.mem = s.mem ∧ (115 ≤ celsius → t.carrier.critical = true)) ∧
    (125 ≤ celsius → ∃ t, Machine.exec (.dieTempReading d celsius) s = .next t ∧ t.carrier.power = .tripped ∧ t.carrier.tripCause = 0x16 ∧
      0x16 ∈ t.carrier.alerts ∧ t.mem.bytes = [] ∧ t.groups = [])) ∧
  (∀ (s : State) (i o : Int) (f : Nat), s.carrier.power ≠ .unpowered → ∃ t, Machine.exec (.coolantReading i o f) s = .next t ∧ t.carrier.inlet = i ∧
    t.carrier.outlet = o ∧ t.carrier.flow = f ∧ t.carrier.power = s.carrier.power ∧ t.mem = s.mem ∧ (45 < i → 0x13 ∈ t.carrier.alerts) ∧
    (s.on = true → f < 160 → 0x14 ∈ t.carrier.alerts) ∧ (s.on = true → 70 ≤ o → t.carrier.critical = true)) ∧
  (∀ s : State, s.on = true → s.carrier.critical = true ∨ s.carrier.flow < 80 → ∃ t, Machine.exec .thermalCriticalTimeout s = .next t ∧
    t.carrier.power = .tripped ∧ t.carrier.tripCause = 0x16 ∧ 0x16 ∈ t.carrier.alerts ∧ t.mem.bytes = []) ∧
  (∀ s : State, (s.on = true → ∃ t, Machine.exec .refclkSysLoss s = .next t ∧ t.carrier.power = .tripped ∧ t.carrier.tripCause = 0x18 ∧ t.carrier.refSys = false ∧
      t.mem.bytes = []) ∧
    (s.carrier.power = .standby → Machine.exec .refclkSysLoss s = .next (s.setCarrier { s.carrier with refSys := false, chainPass := true })) ∧
    (∃ t, Machine.exec .refclkSysReturn s = .next t ∧ t.carrier.refSys = true ∧ t.carrier.power = s.carrier.power ∧ t.mem = s.mem ∧
      (s.carrier.power = .standby → t.carrier.chainPass = false))) ∧
  (∀ s : State, s.on = true →
    (s.carrier.refLink = true → (∀ n < 48, (s.link n).st ≠ .active ∧ (s.link n).st ≠ .retrain) → ∃ t, Machine.exec .refclkLinkLoss s = .next t ∧
      t.carrier.refLink = false ∧ t.mem = s.mem ∧ ∀ n < 48, t.link n = if (s.link n).st = .disabled then s.link n else { s.link n with st := .down }) ∧
    (s.carrier.refLink = false → ∃ t, Machine.exec .refclkLinkReturn s = .next t ∧ t.carrier.refLink = true ∧ t.mem = s.mem ∧
      ∀ n < 48, t.link n = if (s.link n).st = .down then { s.link n with st := .detect } else s.link n)) ∧
  (∀ s : State, (∃ t, Machine.exec .refclkHostLoss s = .next t ∧ t.carrier = { s.carrier with refHost := false } ∧ t.mem = s.mem ∧ t.ctxs = s.ctxs ∧
      ∀ q ∈ ringIds, t.ring q = { Ring.fresh with bar2 := (s.ring q).bar2 }) ∧
    Machine.exec .refclkHostReturn s = .next (s.setCarrier { s.carrier with refHost := true }) ∧
    (s.carrier.perstN = true → ∃ t, Machine.exec .hostPerstAssert s = .next t ∧ t.carrier = { s.carrier with perstN := false } ∧ t.mem = s.mem ∧ t.ctxs = s.ctxs ∧
      t.counter 0x0A000F0D = s.counter 0x0A000F0D + 1 ∧ ∀ q ∈ ringIds, t.ring q = { Ring.fresh with bar2 := (s.ring q).bar2 }) ∧
    Machine.exec .hostPerstDeassert s = .next (s.setCarrier { s.carrier with perstN := true })) ∧
  (∀ (s : State) (d : Nat), d < 24 → s.on = true → d ∉ s.carrier.isolated → ∃ t, Machine.exec (.dieIsolate d) s = .next t ∧ d ∈ t.carrier.isolated ∧
    t.carrier.power = .on ∧ t.mem = s.mem ∧ (∀ x ∈ s.carrier.isolated, x ∈ t.carrier.isolated))

/-- R269, R272, R279, R320, R321, R341 to R344, Tables 8.8, 8.11, 8.12 and 10.9 to 10.12: from PF0 or the VF of the context's slot, SYNC_INFO reports SYNC_OBJECTS; SYNC_HOME
moves an object with its value to the first free object of the store it names; SYNC_SET gives an object without waiters a value that becomes its baseline;
SYNC_SIGNAL sends a change on its way; SYNC_DUMP and SYNC_BALANCE list the objects. NUM_CFG keeps or sets the context's limits; NUM_CENSUS_REG writes
4096 fresh records and registers them; NUM_CENSUS_TAG writes the five bytes of one record; NUM_CENSUS_STATE lists records disabled or alerted;
NUM_FLAGS reports an engine's flags and clears those it names; NUM_RECOVER clears the entries of its range and leaves every byte outside it. From another
function each is DENIED. -/
def Obligations.SyncAndNumericsCommandsAct : Prop :=
  ∀ (s : State) (r : RingId) (c : OutCmd) (p : List Byte) (x : Ctx), s.ctx? c.context = some x →
    (fnOwns r.fn x.slot = false → (Ready cmdSyncSet s r c p → RefusesWith (.syncSet r c.tag) s r c p 4 1) ∧
      (Ready cmdSyncSignal s r c p → RefusesWith (.syncSignal r c.tag) s r c p 4 1) ∧ (Ready cmdNumCfg s r c p → RefusesWith (.numCfg r c.tag) s r c p 4 1) ∧
      (Ready cmdNumRecover s r c p → RefusesWith (.numRecover r c.tag) s r c p 4 1)) ∧
    (fnOwns r.fn x.slot = true →
      (Ready cmdSyncInfo s r c p → ∃ b, CompletesWith (.syncInfo r c.tag) s r c (begun s r c p) b ∧ b.length = 16 ∧ field b 8 4 = x.syncObjects % 2 ^ 32) ∧
      (Ready cmdSyncHome s r c p → c.arg 2 2 = 0 → ∀ old o, x.vids[c.arg 0 2]? = some old → s.obj? old = some o → o.obs = [] → o.cons = [] →
        let store := homeStore c
        store ∈ ownStores x.slot ++ belfryStores s x.slot →
        (storeOf old = store → CompletesWith (.syncHome r c.tag) s r c (begun s r c p) []) ∧
        (∀ new, storeOf old ≠ store → (freeIn s store).head? = some new → ∃ t, CompletesWith (.syncHome r c.tag) s r c t [] ∧
          t.ctx? c.context = some { x with vids := x.vids.set (c.arg 0 2) new } ∧ t.obj? new = some o ∧ t.mem = s.mem)) ∧
      (Ready cmdSyncSet s r c p → c.arg 2 2 = 0 → ∀ k o, x.vids[c.arg 0 2]? = some k → s.obj? k = some o → o.obs = [] → o.cons = [] →
        ∃ t o', CompletesWith (.syncSet r c.tag) s r c t [] ∧ t.obj? k = some o' ∧ o'.value = BitVec.ofNat 32 (c.arg 4 4) ∧ o'.base = BitVec.ofNat 32 (c.arg 4 4) ∧
          o'.obs = [] ∧ o'.cons = [] ∧ (∀ j, j ≠ k → t.obj? j = s.obj? j) ∧ t.mem = s.mem) ∧
      (Ready cmdSyncSignal s r c p → ∃ t y, Machine.exec (.syncSignal r c.tag) s = .next t ∧ t.sync.inflight = s.sync.inflight ++ [y] ∧ y.ctx = c.context ∧
        y.vid = c.arg 0 2 ∧ y.value = BitVec.ofNat 32 (c.arg 4 4) ∧ y.set = false ∧ t.sync.objs = s.sync.objs ∧ t.mem = s.mem) ∧
      (Ready cmdSyncDump s r c p → c.context ≠ 0xFFFF_FFFF →
        let cs : Sparse Ctx := s.ctxs.filter (fun e => e.1 == c.context)
        let rs := cs.flatMap (fun e => (List.range e.2.vids.length).filterMap (fun v =>
          if v < c.arg 0 2 then none else (ctxObj s e.2 v).map (fun o => objBytes ((e.2.vids[v]?).getD 0) o)))
        let full := dumpBytes s (((List.find? (fun (e : Nat × Ctx) => e.2.job.isSome) cs).map (fun e => e.2.epoch)).getD 0) rs
        full.length ≤ c.resultLen → CompletesWith (.syncDump r c.tag) s r c (begun s r c p) full) ∧
      (Ready cmdSyncBalance s r c p →
        let lines := (unbalanced s x).map (fun e => balanceLine e.1 e.2)
        lines.flatten.length ≤ c.resultLen → CompletesWith (.syncBalance r c.tag) s r c (begun s r c p) lines.flatten) ∧
      (Ready cmdNumCfg s r c p → ∃ y, CompletesWith (.numCfg r c.tag) s r c ((begun s r c p).setCtx c.context y) [] ∧
        y.recSteps = (if c.arg 0 1 = 0 then x.recSteps else c.arg 0 1) ∧ y.shadowK = (if c.arg 1 1 = 0 then x.shadowK else c.arg 1 1) ∧
        y.shadowLim = (if signed 8 (c.arg 2 1) = 0 then x.shadowLim else signed 8 (c.arg 2 1)) ∧ y.maps = x.maps ∧ y.vids = x.vids) ∧
      (s.mem.errs = [] →
        (Ready cmdNumCensusReg s r c p → let a := c.arg 2 6
          ∃ t, CompletesWith (.numCensusReg r c.tag) s r c t [] ∧ t.ctx? c.context = some { x with census := Sparse.set x.census (c.arg 0 2) a } ∧
            (∀ g < 4096, Memory.load t.mem.bytes (a + 32 * g) 32 = freshRecord) ∧ ∀ q, q < a ∨ a + 131072 ≤ q → Memory.read t.mem.bytes q = Memory.read s.mem.bytes q) ∧
        (Ready cmdNumCensusTag s r c p → ∀ base, c.arg 0 2 ≠ 0xFFFF → Sparse.find? x.census (c.arg 0 2) = some base →
          let a := base + 32 * c.arg 2 2
          ∃ t, CompletesWith (.numCensusTag r c.tag) s r c t [] ∧ (∀ q, q < a + 18 ∨ a + 23 ≤ q → Memory.read t.mem.bytes q = Memory.read s.mem.bytes q) ∧
            field (Memory.load t.mem.bytes a 32) 18 2 = (if c.arg 8 2 = 0 then field (Memory.load s.mem.bytes a 32) 18 2 else c.arg 8 2) ∧
            field (Memory.load t.mem.bytes a 32) 20 2 = (if c.arg 6 2 = 0 then field (Memory.load s.mem.bytes a 32) 20 2 else c.arg 6 2) ∧
            field (Memory.load t.mem.bytes a 32) 22 1 % 2 = c.arg 4 1) ∧
        (Ready cmdNumRecover s r c p → let a := c.arg 2 6
          let n := c.arg 8 4
          ∃ t, CompletesWith (.numRecover r c.tag) s r c t [] ∧ (∀ i < n, Memory.load t.mem.bytes (a + 64 * i) 40 = List.replicate 40 0) ∧
            ∀ q, q < a ∨ a + 64 * n ≤ q → Memory.read t.mem.bytes q = Memory.read s.mem.bytes q)) ∧
      (Ready cmdNumCensusState s r c p →
        let items := x.census.flatMap (fun e => (List.range 4096).filterMap (censusItem s e.1 e.2))
        let full := leBytes 2 x.census.length ++ zeros 2 ++ leBytes 4 items.length ++ leBytes 8 x.unreg ++ items.flatten
        full.length ≤ c.resultLen → CompletesWith (.numCensusState r c.tag) s r c (begun s r c p) full) ∧
      (Ready cmdNumFlags s r c p → r.fn = 0 ∨ clusterOfSlot x.slot (siteCluster c.site) = true → CompletesWith (.numFlags r c.tag) s r c
        (clearFlags (begun s r c p) c.group (c.arg 4 1) (BitVec.ofNat 4 (c.arg 5 1))) (leBytes 8 (engineFlags s c.group (c.arg 4 1)).toNat)))

/-- R388 to R394, R405, R406, R412 to R416, R422, R423, R427, R428, Tables 4.16, 4.21, 12.13 and 12.14: CTX_LOAD of a VMOD that passes the checks of Table 4.21, within every
limit, makes the next context, unbound, with its objects; CTX_LAUNCH on an unbound context places its blocks, or answers RESOURCE with what is short; CTX_CLOSE
ends an unbound context and is refused on a bound one; CTX_STATUS and STEP_STATUS report. JOB_BIND binds the parsed job; JOB_UNBIND takes it away at a step
boundary; STEP_RESUME at the root continues, aborts or launches a halted step and is refused otherwise; SHARD_REG registers its table; PIPE_REG adds a queue and
PIPE_STATUS reports one; a re-shard starts at the root's boundary under the next number, reports, aborts while it copies, and moves to COPIED and DONE as its
messages say. -/
def Obligations.ContextAndJobCommandsAct : Prop :=
  (∀ (s : State) (r : RingId) (c : OutCmd) (p : List Byte), Ready cmdCtxLoad s r c p →
    let i := c.arg 16 1
    let n := c.arg 8 8
    let b := Memory.load s.hostMem (c.arg 0 8) n
    let vids := (freeObjs s i).take (field b 32 4)
    (r.fn = 0 ∨ (i ≠ 6 ∧ r.fn = i + 1)) → (i < 6 → (s.part? i).exist = true) → hostFails s (c.arg 0 8) n = false →
    (∀ o, firstBad (vmodBad b n) = some o → RefusesWith (.ctxLoad r c.tag) s r c p 3 (64 + o)) ∧
    (firstBad (vmodBad b n) = none → field b 6 2 ≤ (runningSlot s).virdyMax → sha3 (b.drop 256) = (b.drop 64).take 32 → (slotCtxs s i).length < slotLimit i →
      vids.length = field b 32 4 → findSection b 3 = none → ∃ t x, CompletesWith (.ctxLoad r c.tag) s r c t (leBytes 4 s.nextCtx ++ leBytes 4 (field b 32 4)) ∧
        t.nextCtx = s.nextCtx + 1 ∧ t.ctx? s.nextCtx = some x ∧ x.slot = i ∧ x.job = none ∧ x.maps = [] ∧ x.vids = vids ∧ x.code = codeOf b ∧
        x.syncObjects = field b 32 4 ∧ (∀ m, m ≠ s.nextCtx → t.ctx? m = s.ctx? m) ∧ t.mem = s.mem)) ∧
  (∀ (s : State) (r : RingId) (c : OutCmd) (p : List Byte) (x : Ctx), s.ctx? c.context = some x → fnOwns r.fn x.slot = true →
    (Ready cmdCtxStatus s r c p → ∃ b, CompletesWith (.ctxStatus r c.tag) s r c (begun s r c p) b ∧ byteAt b 0 = (if x.job.isSome then 2 else 1) ∧
      byteAt b 1 = BitVec.ofNat 8 x.slot) ∧
    (x.job = none →
      (Ready cmdCtxLaunch s r c p → clusterOfSlot x.slot (c.arg 0 2) = true → ∀ e, x.entries[c.arg 2 2]? = some e →
        let placed := placeBlocks c.context x (c.arg 0 2) e (BitVec.ofNat 64 (c.arg 8 8)) (if c.arg 6 2 = 0xFFFF then none else some (c.arg 6 2)) (c.arg 4 1)
          (begun s r c p)
        (∀ t bs, placed = .ok (t, bs) → CompletesWith (.ctxLaunch r c.tag) s r c t (bs.map (fun b => BitVec.ofNat 8 b)) ∧ (∀ b, bs = [b] → ∃ k,
          Sparse.find? (t.cluster (c.arg 0 2)).blocks b = some k ∧ k.ctx = c.context ∧ k.groups.length = e.groups ∧ k.tiles = x.accTiles)) ∧
        (∀ d, placed = .error d → RefusesWith (.ctxLaunch r c.tag) s r c p 6 d)) ∧
      (Ready cmdCtxClose s r c p → ∃ t, CompletesWith (.ctxClose r c.tag) s r c t [] ∧ t.ctx? c.context = none ∧ t.mem = s.mem ∧
        ∀ m, m ≠ c.context → t.ctx? m = s.ctx? m) ∧
      (Ready cmdJobBind s r c p →
        let k : OutCmd := { c with payload := p }
        let fpn := k.pay 0 2
        shareOf fpn = x.slot → (∀ e ∈ s.ctxs, e.2.slot = x.slot → e.2.job = none) → (∀ i ∈ [0, 1], (Sparse.find? s.keep.linkKeys (keyIndex fpn i)).isSome) →
        0x80_0000 ≤ stagingFree s x.slot → CompletesWith (.jobBind r c.tag) s r c (bindJob (begun s r c p) c.context p) []) ∧
      (Ready cmdJobUnbind s r c p → RefusesWith (.jobUnbind r c.tag) s r c p 5 1)) ∧
    (∀ j, x.job = some j →
      (Ready cmdCtxLaunch s r c p → clusterOfSlot x.slot (c.arg 0 2) = true → RefusesWith (.ctxLaunch r c.tag) s r c p 5 2) ∧
      (Ready cmdCtxClose s r c p → RefusesWith (.ctxClose r c.tag) s r c p 5 2) ∧
      (Ready cmdJobUnbind s r c p → atBoundary j = true → ∃ t, CompletesWith (.jobUnbind r c.tag) s r c t [] ∧ t.ctx? c.context = some { x with job := none } ∧
        t.mem = s.mem ∧ (∀ k ∈ t.fabric.colls, k.ctx ≠ c.context)) ∧
      (Ready cmdJobUnbind s r c p → atBoundary j = false → RefusesWith (.jobUnbind r c.tag) s r c p 5 (stepCode j.st)) ∧
      (Ready cmdStepStatus s r c p → ∃ t b, CompletesWith (.stepStatus r c.tag) s r c t b ∧ t.ctxs = s.ctxs ∧ t.mem = s.mem ∧
        byteAt b 0 = BitVec.ofNat 8 (stepCode j.st) ∧ field b 4 4 = j.discards % 2 ^ 32 ∧ field b 8 8 = j.epoch % 2 ^ 64) ∧
      (Ready cmdStepResume s r c p → isRoot s j = true →
        (j.st = .haltedIn → c.arg 0 1 = 0 → j.failed = false → CompletesWith (.stepResume r c.tag) s r c (continueStep (begun s r c p) c.context j) []) ∧
        (j.st = .haltedIn → c.arg 0 1 = 1 → CompletesWith (.stepResume r c.tag) s r c
          (decideAbort (setJob (begun s r c p) c.context (noteFail j 4 s.lantern.fabricId 0 0)) c.context) []) ∧
        (j.st = .haltedAt → c.arg 0 1 = 2 → j.surv.useExport = false → j.surv.relaunch = none →
          CompletesWith (.stepResume r c.tag) s r c (resumeLaunch (begun s r c p) c.context j) []) ∧
        (j.st ≠ .haltedIn → j.st ≠ .haltedAt → RefusesWith (.stepResume r c.tag) s r c p 5 (stepCode j.st))) ∧
      (Ready cmdShardReg s r c p → atBoundary j = true → CompletesWith (.shardReg r c.tag) s r c
        (setJob (overRecs (registerRec j.epoch) (begun s r c p) (c.arg 0 8) (c.arg 8 4)) c.context { j with shardTable := c.arg 0 8, shardRecs := c.arg 8 4 }) []) ∧
      (Ready cmdPipeReg s r c p → ∃ t, CompletesWith (.pipeReg r c.tag) s r c t [] ∧
        t.ctx? c.context = some { x with job := some { j with queues := j.queues ++ [parseQueue p] } } ∧ t.mem = s.mem) ∧
      (Ready cmdPipeStatus s r c p → ∀ q, j.queues.find? (fun q => q.qid == c.arg 0 2) = some q → q.role = 0 → ∃ t b, CompletesWith (.pipeStatus r c.tag) s r c t b ∧
        t.ctxs = s.ctxs ∧ t.mem = s.mem ∧ b = leBytes 8 q.input ++ leBytes 8 q.credit ++ leBytes 8 q.other ++ leBytes 4 (queueCredits s x q) ++ zeros 4) ∧
      (Ready cmdReshardStart s r c p → isRoot s j = true → atBoundary j = true → j.reshard.st = .idle ∨ j.reshard.st = .done →
        CompletesWith (.reshardStart r c.tag) s r c (startReshard (begun s r c p) c.context x j { c with payload := p }) (leBytes 4 (j.reshard.number + 1))) ∧
      (Ready cmdReshardStatus s r c p → j.reshard.st ≠ .incomplete → ∃ t b, CompletesWith (.reshardStatus r c.tag) s r c t b ∧ t.ctxs = s.ctxs ∧ b.length = 16 ∧
        field b 4 4 = j.reshard.number % 2 ^ 32 ∧ field b 8 8 = j.reshard.moved % 2 ^ 64) ∧
      (Ready cmdReshardAbort s r c p → j.reshard.st = .copying → isRoot s j = false → ∃ t, CompletesWith (.reshardAbort r c.tag) s r c t [] ∧
        t.ctx? c.context = some { x with job := some { j with reshard := { j.reshard with st := .incomplete } } } ∧ t.mem = s.mem))) ∧
  (∀ (s : State) (n : Nat) (x : Ctx) (j : Job), jobAt s n = some (x, j) →
    (j.reshard.st = .copying → (∀ m ∈ (s.cluster (svcCluster x.slot)).msgs, m.ctx ≠ n ∨ m.txn ≠ 9 ∨ m.laddr ≠ reshardKey j.reshard.number) →
      (j.lostFlag = true → Machine.exec (.reshardCopied n) s = .next (setJob s n { j with reshard := { j.reshard with st := .incomplete } })) ∧
      (j.lostFlag = false → Machine.exec (.reshardCopied n) s =
        .next (noteCopied (setJob s n { j with reshard := { j.reshard with st := .copied } }) n ((ownRank s j).getD 0)))) ∧
    (isRoot s j = true → j.reshard.st ≠ .copied → ∀ rank, ∃ t y, Machine.exec (.copied n rank) s = .next t ∧ jobAt t n = some y ∧ rank ∈ y.2.reshard.copiedBy ∧
      t.mem = s.mem) ∧
    (isRoot s j = false → ∀ rank, ∃ t, Machine.exec (.copied n rank) s = .next t ∧ t.ctxs = s.ctxs ∧ t.mem = s.mem) ∧
    (j.reshard.st = .copied → isRoot s j = false → ∃ t y, Machine.exec (.reshardCommitted n) s = .next t ∧ jobAt t n = some y ∧ y.2.reshard.st = .done ∧
      y.2.shardTable = j.reshard.newTable ∧ y.2.shardRecs = j.reshard.newRecs))

/-- R418 to R425, R482, Tables 12.9 to 12.11: a step on one member. It enters PROPOSE when its step object has counted and nothing of it is left; an OK of a child is
kept, a FAIL names its cause and goes up, a child that stays silent is named with cause TIMEOUT; COMMIT is kept and applied, ABORT stops a launched step; a
member without the decision asks again, and who knows it answers; the partner records what it is asked to and refuses a COMMIT for an epoch it has
answered with ABORT; applying raises the epoch by one; a discard ends by setting shards and objects back, waiting for RERUN or, the third time in a row, halting;
RERUN and LAUNCH start the step again. -/
def Obligations.StepsCommitOrDiscard : Prop :=
  ∀ (s : State) (n : Nat) (x : Ctx) (j : Job), jobAt s n = some (x, j) →
    (j.st = .running → j.launched = true → j.proposeAt ≤ stepCount s x j → ctxGroups s n = [] → workQueued s n = false → childrenOk s j = false →
      JobGives (.proposeEnter n) s n (fun t y => y.st = .voted ∧ y.votedUp = j.votedUp ∧ y.epoch = j.epoch ∧ t.sync = s.sync)) ∧
    (∀ child, child ∈ below s j → isRoot s j = false → JobGives (.voteOk n child j.epoch) s n (fun t y => child ∈ y.childOk ∧ y.st = j.st ∧ t.mem = s.mem)) ∧
    (∀ child cause fab site trap, child ∈ below s j → isRoot s j = false → j.failed = false → JobGives (.voteFail n child j.epoch cause fab site trap) s n
      (fun t y => y.failed = true ∧ y.failCause = cause ∧ y.failFab = fab ∧ y.failSite = site ∧ y.failTrap = trap ∧ y.st = j.st ∧ t.mem = s.mem)) ∧
    (∀ child, (below s j).find? (fun r => !j.childOk.contains r) = some child → j.st = .voted → isRoot s j = false → j.failed = false →
      JobGives (.proposeTimeout n) s n (fun t y => y.failed = true ∧ y.failCause = 3 ∧ y.failFab = memberFab s j child ∧ y.st = .voted ∧ t.mem = s.mem)) ∧
    (∀ snap, j.st = .voted → j.votedUp = true → isRoot s j = false → JobGives (.commitDecision n j.epoch snap) s n
      (fun t y => y.st = .applying ∧ y.decision = some { epoch := j.epoch, commit := true, snap := snap } ∧ y.epoch = j.epoch ∧ t.mem = s.mem)) ∧
    (j.decision = none → isRoot s j = false → j.st = .voted ∨ (j.st = .running ∧ j.launched = true) → JobGives (.abortDecision n j.epoch) s n
      (fun t y => y.st = .discarding ∧ y.launched = false ∧ y.decision = some { epoch := j.epoch, commit := false, snap := none } ∧ t.mem = s.mem)) ∧
    (j.st = .voted → j.votedUp = true → isRoot s j = false → decided j = false → JobGives (.decisionTimeout n) s n
      (fun t y => y.queries = j.queries + 1 ∧ y.st = .voted ∧ t.mem = s.mem)) ∧
    (∀ rank epoch, (isRoot s j = true → (∃ d, j.decision = some d ∧ d.epoch = epoch) → Machine.exec (.decisionQuery n rank epoch) s = .next (tell s j rank)) ∧
      (isRoot s j = false → j.surv.rootPartner = ownRank s j → j.surv.rootPartner.isSome = true →
        ((.commit, epoch) ∈ j.partnerRec ∨ epoch ∈ j.partnerAbort → Machine.exec (.decisionQuery n rank epoch) s = .next (tell s j rank)) ∧
        ((.commit, epoch) ∉ j.partnerRec → epoch ∉ j.partnerAbort → JobGives (.decisionQuery n rank epoch) s n
          (fun t y => y.partnerAbort = j.partnerAbort ++ [epoch] ∧ t.mem = s.mem)))) ∧
    (∀ kind epoch, isRoot s j = false →
      (kind ≠ .commit ∨ epoch ∉ j.partnerAbort → JobGives (.journalRecord n kind epoch) s n (fun t y => (kind, epoch) ∈ y.partnerRec ∧ t.mem = s.mem)) ∧
      (kind = .commit → epoch ∈ j.partnerAbort → Machine.exec (.journalRecord n kind epoch) s = .next (tell s j 0))) ∧
    (isRoot s j = true → .commit ∈ j.awaiting → j.st = .voted → JobGives (.journalRecordAck n .commit j.epoch true) s n
      (fun t y => y.st = .applying ∧ .commit ∉ y.awaiting ∧ (∃ snap, y.decision = some { epoch := j.epoch, commit := true, snap := snap }) ∧ t.mem = s.mem)) ∧
    (j.st = .applying → j.surv.taking = 0 → j.haltHeld = true → (∀ d, j.decision = some d → d.snap = none) → s.fabric.colls = [] →
      JobGives (.applyComplete n) s n (fun _ y => y.epoch = j.epoch + 1 ∧ y.st = .haltedAt ∧ y.launched = false ∧ y.votedUp = false ∧ y.discards = 0)) ∧
    (j.st = .discarding → msgsOf s n = false → isRoot s j = false → JobGives (.discardComplete n) s n (fun t y => y.discards = j.discards + 1 ∧ y.votedUp = false ∧
      y.st = (if 3 ≤ j.discards + 1 then .haltedAt else .waitRerun) ∧
      ∀ k o, s.obj? k = some o → o.ctx = n → ∃ o', t.obj? k = some o' ∧ o'.value = o.base ∧ o'.mark = none ∧ o'.obs = [] ∧ o'.cons = [])) ∧
    (∀ rank lost, rank < jobSize j →
      (isRoot s j = false → ∃ t, Machine.exec (.discardedReport n rank j.epoch lost) s = .next t ∧ t.ctxs = s.ctxs ∧ t.mem = s.mem) ∧
      (isRoot s j = true → (∃ q < jobSize j, q ≠ rank ∧ q ∉ j.discarded) → JobGives (.discardedReport n rank j.epoch lost) s n
        (fun t y => rank ∈ y.discarded ∧ y.anyLost = (j.anyLost || lost) ∧ y.st = j.st ∧ t.mem = s.mem))) ∧
    (j.st = .waitRerun → isRoot s j = false → JobGives (.rerun n j.epoch) s n (fun t y => y.st = .running ∧ y.launched = true ∧ y.failed = false ∧ y.epoch = j.epoch ∧
      t.mem = s.mem)) ∧
    (atBoundary j = true → j.surv.taking = 0 → j.surv.useExport = false → j.surv.relaunch = none → JobGives (.launch n j.epoch) s n
      (fun t y => y.st = .running ∧ y.launched = true ∧ y.discards = 0 ∧ y.epoch = j.epoch ∧ t.mem = s.mem))

/-- R433 to R453, R456, Tables 13.1 to 13.4, 13.7, 13.8 and 13.13: snapshots and survival. The boundary copy's end opens the writing, its end is reported to the root,
and SNAP_COMMITTED makes the new landing set the saved one. The risk estimate is the sum of its six inputs, at most 65535, and a report that reaches the
threshold orders a snapshot at the root. A lost member is kept and passed on to the acting root; a spare moves from CLAIMED over FILLING and REBUILDING to
guarded. Of the commands: SURV_CFG keeps or sets each limit at the root; a tensor is registered or taken out at a step boundary; SNAP_NOW orders the next snapshot
and answers its number; the status, risk and report commands report; a spare joins the pool and an unused one leaves it; SNAP_EXPORT writes the saved snapshot
to the host, SNAP_IMPORT keeps a checkpoint that verifies, and SURV_RESTORE restores from what the root holds. -/
def Obligations.SnapshotsAndSurvivalAct : Prop :=
  (∀ (s : State) (n : Nat) (x : Ctx) (j : Job), jobAt s n = some (x, j) →
    (∀ micros, j.surv.taking ≠ 0 → j.surv.phase = 0 → j.st ≠ .running → JobGives (.snapBoundaryCopyDone n micros) s n (fun t y => y = { j with surv := { j.surv with phase := 1 } } ∧
      t.mem = s.mem ∧ t.counter 0x07000004 = s.counter 0x07000004 + micros)) ∧
    (∀ d, j.surv.draft = some d → j.surv.taking ≠ 0 → j.surv.phase = 1 → isRoot s j = false → JobGives (.snapWriteDone n) s n (fun t y => y.surv.phase = 3 ∧
      y.surv.taking = j.surv.taking ∧ (∃ p, y.surv.draft = some p ∧ p.epoch = d.epoch ∧ p.step = d.step ∧ p.manifest.length ≠ 0) ∧ t.mem = s.mem)) ∧
    (∀ rank, j.surv.taking ≠ 0 → rank < jobSize j →
      (isRoot s j = false → ∃ t, Machine.exec (.snapOk n rank j.surv.taking) s = .next t ∧ t.ctxs = s.ctxs ∧ t.mem = s.mem) ∧
      (isRoot s j = true → (∃ q < jobSize j, q ≠ rank ∧ q ∉ j.surv.okFrom) → JobGives (.snapOk n rank j.surv.taking) s n (fun t y => rank ∈ y.surv.okFrom ∧
        y.surv.taking = j.surv.taking ∧ t.mem = s.mem))) ∧
    (j.surv.taking ≠ 0 → j.surv.phase = 3 → isRoot s j = false → JobGives (.snapCommitted n j.surv.taking) s n (fun t y => y.surv.saved = j.surv.draft ∧
      y.surv.draft = none ∧ y.surv.lastSnap = j.surv.taking ∧ y.surv.lastStep = j.surv.takingStep ∧ y.surv.taking = 0 ∧ t.mem = s.mem)) ∧
    (∀ rank risk, isRoot s j = true → rank < jobSize j → j.surv.threshold ≤ risk → JobGives (.riskReport n rank risk) s n (fun t y => y.surv.orderRisk = true ∧
      y.st = j.st ∧ t.mem = s.mem)) ∧
    (∀ (rank cause : Nat) (i : Instr), i = .memberLost n rank cause ∨ i = .memberHeartbeatMiss n rank → rank < jobSize j → ownRank s j ≠ some rank →
      rank ∉ j.surv.lost → isActing s j (j.surv.lost ++ [rank]) = false → JobGives i s n (fun t y => y.surv.lost = j.surv.lost ++ [rank] ∧ y.st = j.st ∧ t.mem = s.mem)) ∧
    (∀ fab sp, j.surv.spares.find? (fun z => z.fabricId == fab) = some sp →
      (sp.st = .claimed → JobGives (.spareBindDone n fab true) s n (fun t y => (∀ z ∈ y.surv.spares, z.fabricId = fab → z.st = .filling) ∧ y.st = j.st ∧ t.mem = s.mem)) ∧
      (sp.st = .filling → j.surv.relaunch = none → JobGives (.spareFillDone n fab) s n (fun t y => (∀ z ∈ y.surv.spares, z.fabricId = fab → z.st = .ready) ∧ y.st = j.st ∧
        t.mem = s.mem)) ∧
      (sp.st = .rebuilding → JobGives (.spareRebuildDone n fab) s n (fun t y => (∀ z ∈ y.surv.spares, z.fabricId = fab → z.st = .guarded) ∧ y.st = j.st ∧ t.mem = s.mem)))) ∧
  (∀ s : State, ∃ t, Machine.exec .riskUpdate s = .next t ∧ t.risk.value ≤ 65535 ∧ t.risk.value = Nat.min 65535 (riskInputs t).sum ∧ t.mem = s.mem ∧
    t.risk.memErr ≤ s.risk.memErr ∧ t.risk.halfLife = s.risk.halfLife) ∧
  (∀ (s : State) (r : RingId) (c : OutCmd) (p : List Byte) (x : Ctx) (j : Job), s.ctx? c.context = some x → fnOwns r.fn x.slot = true → x.job = some j →
    let keptOr (old new : Nat) : Nat := if new = 0 then old else new
    let withSurv (v : Survival) : State := (begun s r c p).setCtx c.context { x with job := some { j with surv := v } }
    (isRoot s j = true →
      (Ready cmdSurvCfg s r c p → ∃ t v, CompletesWith (.survCfg r c.tag) s r c t [] ∧ t.ctx? c.context = some { x with job := some { j with surv := v } } ∧
        v.threshold = keptOr j.surv.threshold (c.arg 0 2) ∧ v.maxSteps = keptOr j.surv.maxSteps (c.arg 2 2) ∧ v.k = keptOr j.surv.k (c.arg 6 1) ∧
        v.m = keptOr j.surv.m (c.arg 7 1) ∧ v.mirrorMiB = keptOr j.surv.mirrorMiB (c.arg 10 4) ∧ t.risk.halfLife = keptOr s.risk.halfLife (c.arg 4 2) ∧ t.mem = s.mem) ∧
      (Ready cmdSnapNow s r c p → CompletesWith (.snapNow r c.tag) s r c (withSurv { j.surv with orderNow := true }) (leBytes 8 j.surv.nextSnap)) ∧
      (Ready cmdSurvSpareAdd s r c p → r.fn = 0 → j.surv.lost = [] → CompletesWith (.survSpareAdd r c.tag) s r c
        (withSurv { j.surv with spares := j.surv.spares ++ [{ fabricId := c.arg 0 4, st := .pool, rank := 0 }] }) []) ∧
      (Ready cmdSurvSpareRemove s r c p → r.fn = 0 → ∀ sp, j.surv.spares.find? (fun z => z.fabricId == c.arg 0 4) = some sp → sp.st = .pool ∨ sp.st = .ineligible →
        CompletesWith (.survSpareRemove r c.tag) s r c (withSurv { j.surv with spares := j.surv.spares.filter (fun z => z.fabricId != c.arg 0 4) }) []) ∧
      (Ready cmdSurvRestore s r c p → ∀ q, (if c.arg 0 1 = 1 then j.surv.exported else j.surv.saved) = some q → CompletesWith (.survRestore r c.tag) s r c
        (restoreJob (begun s r c p) c.context (c.arg 0 1 == 1)) (leBytes 8 q.epoch)) ∧
      (Ready cmdSurvRestore s r c p → (if c.arg 0 1 = 1 then j.surv.exported else j.surv.saved) = none →
        RefusesWith (.survRestore r c.tag) s r c p 5 (stepCode j.st))) ∧
    (isRoot s j = false → (Ready cmdSnapNow s r c p → RefusesWith (.snapNow r c.tag) s r c p 5 (stepCode j.st)) ∧
      (Ready cmdSurvCfg s r c p → RefusesWith (.survCfg r c.tag) s r c p 5 (stepCode j.st))) ∧
    (Ready cmdSnapTensorReg s r c p → atBoundary j = true → jobSize j = 1 → j.surv.tensors.length < 8191 →
      let d : OutCmd := { c with payload := p }
      let flags := (if d.pay 5 1 % 2 = 1 then 1 else 0) + (if d.pay 5 1 % 2 = 0 ∧ j.shardRecs ≤ d.pay 24 4 then 2 else 0) + 8
      let ten : Tensor := { id := d.pay 0 4, method := 1, flags := flags, addr := d.pay 8 8, bytes := d.pay 16 8, shard := d.pay 24 4, encoded := 0 }
      landUsed s - j.surv.landing + landUnits (j.surv.tensors ++ [ten]) ≤ landCapacity s → ∃ t v, CompletesWith (.snapTensorReg r c.tag) s r c t [1, BitVec.ofNat 8 flags] ∧
        t.ctx? c.context = some { x with job := some { j with surv := v } } ∧ v.tensors = j.surv.tensors ++ [ten] ∧ t.mem = s.mem) ∧
    (Ready cmdSnapTensorUnreg s r c p → atBoundary j = true → ∃ t v, CompletesWith (.snapTensorUnreg r c.tag) s r c t [] ∧
      t.ctx? c.context = some { x with job := some { j with surv := v } } ∧ v.tensors = j.surv.tensors.filter (fun z => z.id != c.arg 0 4) ∧ t.mem = s.mem) ∧
    (Ready cmdSnapStatus s r c p → ∃ t b, CompletesWith (.snapStatus r c.tag) s r c t b ∧ t.ctxs = s.ctxs ∧ t.mem = s.mem ∧ b.length = 48 ∧
      field b 0 8 = j.surv.lastSnap % 2 ^ 64 ∧ field b 8 8 = j.surv.lastStep % 2 ^ 64 ∧ field b 16 8 = j.surv.taking % 2 ^ 64) ∧
    (Ready cmdSurvRisk s r c p → CompletesWith (.survRisk r c.tag) s r c (begun s r c p)
      (leBytes 2 s.risk.value ++ (riskInputs s).flatMap (leBytes 2) ++ leBytes 2 j.surv.threshold)) ∧
    (Ready cmdSurvReport s r c p → 12 * j.surv.report.length ≤ c.resultLen → CompletesWith (.survReport r c.tag) s r c (begun s r c p)
      (j.surv.report.flatMap (fun l => leBytes 4 l.rank ++ leBytes 4 l.tensor ++ [BitVec.ofNat 8 l.source, BitVec.ofNat 8 l.missing, 0, 0]))) ∧
    (∀ q, j.surv.saved = some q → Ready cmdSnapExport s r c p → (exportBytes q).length ≤ c.arg 8 8 → hostFails s (c.arg 0 8) (exportBytes q).length = false →
      CompletesWith (.snapExport r c.tag) s r c ((begun s r c p).setHost (Memory.store s.hostMem (c.arg 0 8) (exportBytes q))) []) ∧
    (Ready cmdSnapImport s r c p → j.st = .haltedAt ∨ j.st = .haltedIn ∨ j.st = .restoring → hostFails s (c.arg 0 8) (c.arg 8 8) = false → j.surv.useExport = false →
      ∀ q, parseExport s j (Memory.load s.hostMem (c.arg 0 8) (c.arg 8 8)) = some q →
        CompletesWith (.snapImport r c.tag) s r c (withSurv { j.surv with exported := some q }) []))

/-- R461 to R489, Tables 14.5, 14.7, 14.8, 14.20 and 14.21: the security commands. Identity, attestation and the life cycle's status report; a nonce is kept and answered; a
token whose signatures verify and whose binding holds starts its transition, which ends in the new life cycle or stays pending; a retry goes on with it. The
mode is set where no partition exists; a partition is made with the memory asked for, or answers RESOURCE; one destroyed or reset has no context left. A
link key is installed when it unwraps, switched to when it is there, and erased when no job is bound under it. A shared slot is sealed when its root
agrees, given up when nothing maps it, and given a stripe while sealed. SEC_CFG sets both its switches. From a VF the commands marked PF0 answer DENIED. -/
def Obligations.SecurityCommandsAct : Prop :=
  ∀ (s : State) (r : RingId) (c : OutCmd) (p : List Byte),
    let d : OutCmd := { c with payload := p }
    let noneLeft (t : State) (i : Nat) : Prop := ∀ m x, t.ctx? m = some x → x.slot ≠ i
    (Ready cmdSecIdentity s r c p → CompletesWith (.secIdentity r c.tag) s r c (begun s r c p) (padTo 6608 s.part.cert)) ∧
    (Ready cmdSecAttest s r c p → ∃ b, CompletesWith (.secAttest r c.tag) s r c (begun s r c p) b ∧ field b 0 4 = 0x5441354B ∧
      byteAt b 6 = BitVec.ofNat 8 s.keep.lc ∧ byteAt b 36 = BitVec.ofNat 8 s.keep.svn ∧ (b.drop 64).take 32 = padTo 32 p) ∧
    (Ready cmdSecLcStatus s r c p → ∃ t b, CompletesWith (.secLcStatus r c.tag) s r c t b ∧ t.keep = s.keep ∧ b.length = 16 ∧ byteAt b 0 = BitVec.ofNat 8 s.keep.lc ∧
      (∀ n, s.keep.pendingLc = some n → byteAt b 1 = BitVec.ofNat 8 n) ∧ byteAt b 2 = BitVec.ofNat 8 s.keep.recs.length) ∧
    (r.fn = 0 →
      (Ready cmdSecLcNonce s r c p → ∃ t n, CompletesWith (.secLcNonce r c.tag) s r c t n ∧ n.length = 32 ∧ t.keep.nonce = some n ∧ t.keep.lc = s.keep.lc) ∧
      (Ready cmdSecLcToken s r c p → signedOk 2 domLCT (p.take 64) (p.drop 64) = true → tokenRefused s p = none →
        let new := d.pay 7 1
        ∃ t, t.keep.recs.length = s.keep.recs.length + 1 ∧ t.keep.nonce = none ∧
          ((t.keep.lc = new ∧ t.keep.pendingLc = none ∧ CompletesWith (.secLcToken r c.tag) s r c t []) ∨
            (t.keep.lc = 7 ∧ t.keep.pendingLc = some new ∧ Machine.exec (.secLcToken r c.tag) s = .next (finish t r c.tag 5 7 [])))) ∧
      (Ready cmdSecLcToken s r c p → signedOk 2 domLCT (p.take 64) (p.drop 64) = false → RefusesWith (.secLcToken r c.tag) s r c p sINTEGRITY 0) ∧
      (Ready cmdSecLcRetry s r c p →
        (s.keep.lc ≠ 7 → RefusesWith (.secLcRetry r c.tag) s r c p 5 s.keep.lc) ∧
        (∀ new, s.keep.lc = 7 → s.keep.pendingLc = some new → new ≠ 7 → ∃ t, (t.keep.lc = new ∧ t.keep.pendingLc = none ∧ CompletesWith (.secLcRetry r c.tag) s r c t []) ∨
          (t.keep.lc = 7 ∧ t.keep.pendingLc = some new ∧ Machine.exec (.secLcRetry r c.tag) s = .next (finish t r c.tag 5 7 [])))) ∧
      (Ready cmdSecMode s r c p →
        (evalLocked s = true → c.arg 0 1 = 0 → RefusesWith (.secMode r c.tag) s r c p 4 3) ∧
        (evalLocked s = false ∨ c.arg 0 1 ≠ 0 → anyPart s = false → ∃ t, CompletesWith (.secMode r c.tag) s r c t [] ∧ (t.keep.sealed = true ↔ c.arg 0 1 = 1) ∧
          t.mem = s.mem ∧ t.carrier.budgets = [] ∧ t.keep.lc = s.keep.lc)) ∧
      (Ready cmdSecPartCreate s r c p → s.keep.lc ≠ 5 → evalLocked s = false ∨ c.arg 1 1 ≠ 1 →
        let i := c.arg 0 1
        (s.part? i).exist = false → (∀ q < 4, s.carrier.isolated.contains (4 * i + q) = false) →
        (assignSlots (begun s r c p) i (c.arg 2 1) (c.arg 3 1) = none → RefusesWith (.secPartCreate r c.tag) s r c p 6 7) ∧
        (∀ u, assignSlots (begun s r c p) i (c.arg 2 1) (c.arg 3 1) = some u → ∃ t, CompletesWith (.secPartCreate r c.tag) s r c t [] ∧ (t.part? i).exist = true ∧
          ((t.part? i).adminDebug = true ↔ c.arg 1 1 = 1) ∧ t.mem.slots = u.mem.slots ∧ ∀ m, m ≠ i → t.part? m = s.part? m)) ∧
      (Ready cmdSecPartDestroy s r c p → (s.part? (c.arg 0 1)).exist = true → ∃ t, CompletesWith (.secPartDestroy r c.tag) s r c t [] ∧
        (t.part? (c.arg 0 1)).exist = false ∧ noneLeft t (c.arg 0 1)) ∧
      (∀ x, Sparse.find? s.keep.shared (c.arg 0 1) = some x →
        (Ready cmdSecSharedSeal s r c p → x.st = .opened →
          let lo := slotBytes * c.arg 0 1 / 64
          Sparse.keysIn s.mem.errs lo (lo + slotBytes / 64) = [] → Sparse.keysIn s.mem.poison lo (lo + slotBytes / 64) = [] → slotRoot s (c.arg 0 1) = p.take 32 →
          CompletesWith (.secSharedSeal r c.tag) s r c (setShared (begun s r c p) (c.arg 0 1) { x with st := .sealed, root := p.take 32 }) []) ∧
        (Ready cmdSecSharedUnseal s r c p → x.st ≠ .opened → slotMapped s (c.arg 0 1) = false → CompletesWith (.secSharedUnseal r c.tag) s r c
          (setShared (begun s r c p) (c.arg 0 1) { x with st := .opened, root := [], stripe := none, repairs := [] }) []) ∧
        (Ready cmdSecSharedStripe s r c p → x.st = .sealed → CompletesWith (.secSharedStripe r c.tag) s r c
          (setShared (begun s r c p) (c.arg 0 1) { x with stripe := some (c.arg 1 1, c.arg 2 1, c.arg 3 1, c.arg 4 4) }) [])) ∧
      (Ready cmdSecCfg s r c p →
        (evalLocked s = true → c.arg 0 1 = 1 ∨ c.arg 1 1 = 1 → RefusesWith (.secCfg r c.tag) s r c p 4 3) ∧
        (evalLocked s = false ∨ (c.arg 0 1 ≠ 1 ∧ c.arg 1 1 ≠ 1) → ∃ t, CompletesWith (.secCfg r c.tag) s r c t [] ∧ (t.keep.k4Import = true ↔ c.arg 0 1 = 1) ∧
          (t.keep.pf0Keys = true ↔ c.arg 1 1 = 1) ∧ t.mem = s.mem ∧ t.keep.lc = s.keep.lc))) ∧
    (r.fn ≠ 0 → (Ready cmdSecMode s r c p → RefusesWith (.secMode r c.tag) s r c p 4 1) ∧ (Ready cmdSecPartCreate s r c p → RefusesWith (.secPartCreate r c.tag) s r c p 4 1) ∧
      (Ready cmdSecLcToken s r c p → RefusesWith (.secLcToken r c.tag) s r c p 4 1) ∧ (Ready cmdSecCfg s r c p → RefusesWith (.secCfg r c.tag) s r c p 4 1)) ∧
    (Ready cmdSecPartReset s r c p → fnOwns r.fn (c.arg 0 1) = true → (s.part? (c.arg 0 1)).exist = true → ∃ t, CompletesWith (.secPartReset r c.tag) s r c t [] ∧
      (t.part? (c.arg 0 1)).exist = true ∧ (t.part? (c.arg 0 1)).scrubbed = true ∧ noneLeft t (c.arg 0 1)) ∧
    (Ready cmdSecKeyInstall s r c p → ownsKeys s r.fn (d.pay 0 2) = true →
      (∀ key, s.keep.keysOk = true → Config.unwrapKey (d.pay 0 2) (d.pay 2 1) p = some key → ∃ t, CompletesWith (.secKeyInstall r c.tag) s r c t [] ∧
        Sparse.find? t.keep.linkKeys (keyIndex (d.pay 0 2) (d.pay 2 1)) = some (padTo 32 key) ∧ t.mem = s.mem) ∧
      (s.keep.keysOk = false → RefusesWith (.secKeyInstall r c.tag) s r c p sINTEGRITY 0)) ∧
    (Ready cmdSecKeySwitch s r c p → ownsKeys s r.fn (c.arg 0 2) = true → (Sparse.find? s.keep.linkKeys (keyIndex (c.arg 0 2) (c.arg 2 1))).isSome → ∃ t,
      CompletesWith (.secKeySwitch r c.tag) s r c t [] ∧ sendKey t (c.arg 0 2) = c.arg 2 1 ∧ t.keep.linkKeys = s.keep.linkKeys ∧ t.mem = s.mem) ∧
    (Ready cmdSecKeyErase s r c p → ownsKeys s r.fn (c.arg 0 2) = true → s.boundTo (c.arg 0 2) = none → ∃ t, CompletesWith (.secKeyErase r c.tag) s r c t [] ∧
      Sparse.find? t.keep.linkKeys (keyIndex (c.arg 0 2) (c.arg 2 1)) = none ∧ t.mem = s.mem) ∧
    (ownsKeys s r.fn (c.arg 0 2) = false → (Ready cmdSecKeySwitch s r c p → RefusesWith (.secKeySwitch r c.tag) s r c p 4 1) ∧
      (Ready cmdSecKeyErase s r c p → RefusesWith (.secKeyErase r c.tag) s r c p 4 1))

/-- A step takes the command at the front of the queue and runs its row with the queue's rest; the queue itself is the model's choice (assumption log 2). On an
empty queue the block idles: only the local counter of R31 goes on, by one (the model's choice, assumption log 2). -/
def Obligations.StepRunsTheFrontCommand : Prop :=
  (∀ (c : Instr) (s : State) (rest : List Instr), step { s with pending := c :: rest } = Machine.exec c { s with pending := rest }) ∧
  (∀ s : State, s.pending = [] → step s = .next { s with time := s.time + 1 })

/-- What reset leaves: the carrier is UNPOWERED (Table 15.3), no context, group or ring record stands, every ring has its causes masked (Table 2.8), every cluster
is FULL with FILL_TIMEOUT 256 (Table 6.2) and nothing in its queues (R222), ACK_TIMEOUT is 200 microseconds and adaptive routing is on (R372, R366), and
memory and host memory have their canonical form (the model's form, assumption log 6). -/
def Obligations.ResetStands : Prop :=
  let s := State.reset
  s.carrier.power = .unpowered ∧ s.on = false ∧ s.pending = [] ∧ s.ctxs = [] ∧ s.groups = [] ∧ (∀ r, (s.ring r).en = false ∧ (s.ring r).hisMask = 0x3F) ∧
  (∀ c, (s.cluster c).shape = 0 ∧ (s.cluster c).timeout = 256 ∧ (s.cluster c).mq = [] ∧ (s.cluster c).sq = [] ∧ (s.cluster c).dq = [] ∧ (s.cluster c).fq = []) ∧
  s.fabric.ackUs = 200 ∧ s.fabric.adaptive = true ∧ Memory.wf s.mem.bytes = true ∧ Memory.wf s.hostMem = true

/-- From every state whose memory and host memory have their canonical form, a step leaves them in it, whatever command stands in front: equal memories stay
equal data (the model's form, assumption log 6). -/
def Obligations.EveryStepKeepsMemoryCanonical : Prop :=
  ∀ s t : State, Memory.wf s.mem.bytes = true → Memory.wf s.hostMem = true → step s = .next t → Memory.wf t.mem.bytes = true ∧ Memory.wf t.hostMem = true

/-- Over any number of steps the anti-rollback count never falls (the keep only blows fuses, R464), and no row touches the part's fuses, the queue behind it or the host's failures. -/
def Obligations.AntiRollbackNeverFalls : Prop :=
  (∀ (c : Instr) (s t : State), Machine.exec c s = .next t →
    s.keep.svn ≤ t.keep.svn ∧ t.part = s.part ∧ t.pending = s.pending ∧ t.hostFail = s.hostFail) ∧
  (∀ (n : Nat) (f : Nat → State), (∀ i < n, step (f i) = .next (f (i + 1))) → (f 0).keep.svn ≤ (f n).keep.svn ∧ (f n).part = (f 0).part)
end

