-- ==== Sys2Proof/Laws/Bits.lean ====
section
/-! SUPPORT. Thread masks: their members and their bits. -/

namespace Sys2Proof.Machine

open Sys2Proof

theorem mem_threads {m : BitVec 64} {t : Nat} : t ∈ threads m ↔ t < 64 ∧ m.getLsbD t = true := by
  simp [threads]

theorem threads_nodup (m : BitVec 64) : (threads m).Nodup := List.Nodup.filter _ List.nodup_range

/-- Setting a clear bit by addition. -/
theorem add_two_pow_of_clear {a x : Nat} (h : a.testBit x = false) : a + 2 ^ x = a ||| 2 ^ x := by
  have hr : a % 2 ^ (x + 1) < 2 ^ x := by
    rw [Nat.testBit_eq_decide_div_mod_eq] at h
    simp only [decide_eq_false_iff_not] at h
    have h1 := Nat.div_add_mod (a % 2 ^ (x + 1)) (2 ^ x)
    have h2 : a % 2 ^ (x + 1) / 2 ^ x = a / 2 ^ x % 2 := by
      rw [Nat.pow_succ, Nat.mod_mul_right_div_self]
    have h3 : a / 2 ^ x % 2 = 0 := by omega
    rw [h2, h3, Nat.mul_zero, Nat.zero_add] at h1
    rw [← h1]
    exact Nat.mod_lt _ (Nat.two_pow_pos x)
  have e := Nat.div_add_mod a (2 ^ (x + 1))
  generalize a / 2 ^ (x + 1) = q at e
  generalize a % 2 ^ (x + 1) = r at hr e
  have hs : 2 ^ (x + 1) = 2 * 2 ^ x := Nat.pow_succ'
  have e1 : 2 ^ (x + 1) * q + r = 2 ^ (x + 1) * q ||| r := Nat.two_pow_add_eq_or_of_lt (by omega) q
  have e2 : 2 ^ (x + 1) * q + (2 ^ x * 1 + r) = 2 ^ (x + 1) * q ||| (2 ^ x * 1 + r) := Nat.two_pow_add_eq_or_of_lt (by omega) q
  have e3 : 2 ^ x * 1 + r = 2 ^ x * 1 ||| r := Nat.two_pow_add_eq_or_of_lt hr 1
  rw [Nat.mul_one] at e2 e3
  rw [← e, show 2 ^ (x + 1) * q + r + 2 ^ x = 2 ^ (x + 1) * q + (2 ^ x + r) by omega, e2, e3, e1, Nat.lor_assoc, Nat.lor_comm r]

theorem mask_fold (l : List Nat) (hl : l.Nodup) (a t : Nat) (ha : ∀ x ∈ l, a.testBit x = false) :
    (l.foldl (fun a t => a + 2 ^ t) a).testBit t = (a.testBit t || decide (t ∈ l)) := by
  induction l generalizing a with
  | nil => simp
  | cons x l ih =>
    have e : a + 2 ^ x = a ||| 2 ^ x := add_two_pow_of_clear (ha x (by simp))
    have hn := List.nodup_cons.mp hl
    rw [List.foldl_cons, e, ih hn.2]
    · rw [Nat.testBit_or, Nat.testBit_two_pow]
      by_cases k : t = x <;> simp [k, eq_comm]
    · intro y hy
      rw [Nat.testBit_or, Nat.testBit_two_pow, ha y (by simp [hy])]
      have : x ≠ y := fun q => hn.1 (q ▸ hy)
      simp [this]

/-- Bit `t` of a mask is what its predicate says of thread `t`. -/
theorem maskOf_bit (f : Nat → Bool) {t : Nat} (h : t < 64) : (maskOf f).getLsbD t = f t := by
  unfold maskOf
  rw [BitVec.getLsbD_ofNat, mask_fold _ (List.Nodup.filter _ List.nodup_range) 0 t (by simp)]
  simp [h]

theorem threads_maskOf (f : Nat → Bool) : threads (maskOf f) = (List.range 64).filter f := by
  unfold threads
  apply List.filter_congr
  intro t ht
  exact maskOf_bit f (List.mem_range.mp ht)

end Sys2Proof.Machine
end

