-- ==== Sys2Proof/Laws/Bytes.lean ====
section
/-! SUPPORT. Byte records: the length of what is written, and what a field of it reads as. -/

namespace Sys2Proof.Machine

open Sys2Proof

@[simp] theorem leBytes_length (n x : Nat) : (leBytes n x).length = n := by
  induction n generalizing x with
  | zero => rfl
  | succ n ih => simp [leBytes, ih]

@[simp] theorem zeros_length (n : Nat) : (zeros n).length = n := by simp [zeros]

theorem leNat_leBytes (n x : Nat) : leNat (leBytes n x) = x % 256 ^ n := by
  induction n generalizing x with
  | zero => simp [leNat, leBytes, Nat.mod_one]
  | succ n ih =>
    simp only [leBytes, leNat, ih, BitVec.toNat_ofNat]
    rw [show 2 ^ 8 = 256 from rfl, Nat.pow_succ', Nat.mod_mul]

/-- A field that starts a record. -/
theorem field_leBytes (n x : Nat) (bs : List Byte) : field (leBytes n x ++ bs) 0 n = x % 256 ^ n := by
  unfold field
  rw [List.drop_zero, List.take_append_of_le_length (by simp), List.take_of_length_le (by simp), leNat_leBytes]

/-- A field past the first part of a record. -/
theorem field_append {as bs : List Byte} {o n : Nat} (h : as.length ≤ o) : field (as ++ bs) o n = field bs (o - as.length) n := by
  unfold field
  rw [List.drop_append, List.drop_eq_nil_of_le h, List.nil_append]

end Sys2Proof.Machine
end

