-- ==== Sys2Proof/Laws/Tables.lean ====
section
/-! SUPPORT. What the operations on sparse tables and on memory do: reading after writing, and the canonical form each of them keeps. -/

namespace Sys2Proof.Machine

/-! ## Reading after writing -/

section Read

variable {α : Type}

@[simp] theorem Sparse.find?_nil (k : Nat) : Sparse.find? ([] : Sparse α) k = none := rfl

@[simp] theorem Sparse.find?_set_self (m : Sparse α) (k : Nat) (v : α) : Sparse.find? (Sparse.set m k v) k = some v := by
  induction m with
  | nil => simp [Sparse.set, Sparse.find?]
  | cons e r ih =>
    obtain ⟨a, w⟩ := e
    simp only [Sparse.set]
    split
    · simp [Sparse.find?]
    · split
      · simp [Sparse.find?]
      · simp [Sparse.find?, *]

/-- The later of two values of one key stands. -/
@[simp] theorem Sparse.set_set (m : Sparse α) (k : Nat) (v w : α) : Sparse.set (Sparse.set m k v) k w = Sparse.set m k w := by
  induction m with
  | nil => simp [Sparse.set]
  | cons e r ih =>
    obtain ⟨a, x⟩ := e
    by_cases h : a = k
    · simp [Sparse.set, h]
    · by_cases h2 : k < a
      · simp [Sparse.set, h, h2]
      · simp [Sparse.set, h, h2, ih]

theorem Sparse.find?_set_ne (m : Sparse α) {k j : Nat} (v : α) (h : j ≠ k) : Sparse.find? (Sparse.set m k v) j = Sparse.find? m j := by
  induction m with
  | nil => simp [Sparse.set, Sparse.find?, Ne.symm h]
  | cons e r ih =>
    obtain ⟨a, w⟩ := e
    simp only [Sparse.set]
    split
    · subst_vars; simp [Sparse.find?, Ne.symm h]
    · split
      · simp [Sparse.find?, Ne.symm h]
      · simp [Sparse.find?, ih]

@[simp] theorem Sparse.find?_del_self (m : Sparse α) (k : Nat) : Sparse.find? (Sparse.del m k) k = none := by
  induction m with
  | nil => rfl
  | cons e r ih =>
    obtain ⟨a, w⟩ := e
    by_cases h : a = k
    · simpa [Sparse.del, h] using ih
    · simpa [Sparse.del, Sparse.find?, h] using ih

theorem Sparse.find?_del_ne (m : Sparse α) {k j : Nat} (h : j ≠ k) : Sparse.find? (Sparse.del m k) j = Sparse.find? m j := by
  induction m with
  | nil => rfl
  | cons e r ih =>
    obtain ⟨a, w⟩ := e
    by_cases ha : a = k
    · have hb : ¬ k = j := fun e => h e.symm
      simpa [Sparse.del, Sparse.find?, ha, hb] using ih
    · by_cases hj : a = j
      · simp [Sparse.del, Sparse.find?, hj, h]
      · simpa [Sparse.del, Sparse.find?, ha, hj] using ih

@[simp] theorem Sparse.get_put_self [DecidableEq α] (d : α) (m : Sparse α) (k : Nat) (v : α) : Sparse.get d (Sparse.put d m k v) k = v := by
  unfold Sparse.get Sparse.put; split <;> simp [*]

theorem Sparse.get_put_ne [DecidableEq α] (d : α) (m : Sparse α) {k j : Nat} (v : α) (h : j ≠ k) :
    Sparse.get d (Sparse.put d m k v) j = Sparse.get d m j := by
  unfold Sparse.get Sparse.put; split
  · rw [Sparse.find?_del_ne m h]
  · rw [Sparse.find?_set_ne m v h]

end Read

/-! ## The canonical form -/

section Form

variable {α : Type}

/-- Every key of `m` is above `k`. -/
def Sparse.above (k : Nat) (m : Sparse α) : Prop := ∀ e ∈ m, k < e.1

theorem Sparse.rising_cons (e : Nat × α) (m : Sparse α) : Sparse.rising (e :: m) = true ↔ Sparse.above e.1 m ∧ Sparse.rising m = true := by
  induction m generalizing e with
  | nil => simp [Sparse.rising, Sparse.above]
  | cons f r ih =>
    obtain ⟨a, v⟩ := e; obtain ⟨b, w⟩ := f
    simp only [Sparse.rising, Bool.and_eq_true, decide_eq_true_eq]
    constructor
    · rintro ⟨h, hr⟩
      refine ⟨?_, hr⟩
      have h2 := ((ih (b, w)).1 hr).1
      intro x hx
      rcases List.mem_cons.1 hx with rfl | hx
      · exact h
      · exact Nat.lt_trans h (h2 x hx)
    · rintro ⟨h, hr⟩
      exact ⟨h (b, w) (List.mem_cons_self ..), hr⟩

theorem Sparse.above_filter {k : Nat} {m : Sparse α} (p : Nat × α → Bool) (h : Sparse.above k m) : Sparse.above k (m.filter p) :=
  fun e he => h e (List.mem_filter.1 he).1

theorem Sparse.rising_filter {m : Sparse α} (p : Nat × α → Bool) (h : Sparse.rising m = true) : Sparse.rising (m.filter p) = true := by
  induction m with
  | nil => rfl
  | cons e r ih =>
    have h2 := (Sparse.rising_cons e r).1 h
    simp only [List.filter_cons]
    split
    · exact (Sparse.rising_cons e _).2 ⟨Sparse.above_filter p h2.1, ih h2.2⟩
    · exact ih h2.2

theorem Sparse.above_set {k j : Nat} {m : Sparse α} (v : α) (h : Sparse.above k m) (hj : k < j) : Sparse.above k (Sparse.set m j v) := by
  induction m with
  | nil => simpa [Sparse.set, Sparse.above] using hj
  | cons e r ih =>
    obtain ⟨a, w⟩ := e
    have ha : k < a := h (a, w) (List.mem_cons_self ..)
    have hr : Sparse.above k r := fun x hx => h x (List.mem_cons_of_mem _ hx)
    simp only [Sparse.set]
    intro x hx
    split at hx
    · rcases List.mem_cons.1 hx with rfl | hx
      · exact hj
      · exact hr x hx
    · split at hx
      · rcases List.mem_cons.1 hx with rfl | hx
        · exact hj
        · exact h x hx
      · rcases List.mem_cons.1 hx with rfl | hx
        · exact ha
        · exact ih hr x hx

theorem Sparse.rising_set {m : Sparse α} (k : Nat) (v : α) (h : Sparse.rising m = true) : Sparse.rising (Sparse.set m k v) = true := by
  induction m with
  | nil => rfl
  | cons e r ih =>
    obtain ⟨a, w⟩ := e
    have h2 := (Sparse.rising_cons (a, w) r).1 h
    simp only [Sparse.set]
    split
    · subst_vars; exact (Sparse.rising_cons _ _).2 h2
    · split
      · rename_i hlt
        refine (Sparse.rising_cons _ _).2 ⟨?_, h⟩
        intro x hx
        rcases List.mem_cons.1 hx with rfl | hx
        · exact hlt
        · exact Nat.lt_trans hlt (h2.1 x hx)
      · rename_i hne hnl
        exact (Sparse.rising_cons _ _).2 ⟨Sparse.above_set v h2.1 (by simp only []; omega), ih h2.2⟩

theorem Sparse.wf_filter [DecidableEq α] {d : α} {m : Sparse α} (p : Nat × α → Bool) (h : Sparse.wf d m = true) : Sparse.wf d (m.filter p) = true := by
  simp only [Sparse.wf, Bool.and_eq_true, List.all_eq_true] at h ⊢
  exact ⟨Sparse.rising_filter p h.1, fun x hx => h.2 x (List.mem_filter.1 hx).1⟩

theorem Sparse.mem_set {m : Sparse α} {k : Nat} {v : α} {x : Nat × α} (h : x ∈ Sparse.set m k v) : x = (k, v) ∨ x ∈ m := by
  induction m with
  | nil => simpa [Sparse.set] using h
  | cons e r ih =>
    obtain ⟨a, w⟩ := e
    simp only [Sparse.set] at h
    split at h
    · rcases List.mem_cons.1 h with h | h
      · exact .inl h
      · exact .inr (List.mem_cons_of_mem _ h)
    · split at h
      · rcases List.mem_cons.1 h with h | h
        · exact .inl h
        · exact .inr h
      · rcases List.mem_cons.1 h with h | h
        · exact .inr (h ▸ List.mem_cons_self ..)
        · exact (ih h).imp id (List.mem_cons_of_mem _)

theorem Sparse.wf_put [DecidableEq α] {d : α} {m : Sparse α} (k : Nat) (v : α) (h : Sparse.wf d m = true) : Sparse.wf d (Sparse.put d m k v) = true := by
  unfold Sparse.put
  split
  · exact Sparse.wf_filter _ h
  · rename_i hv
    simp only [Sparse.wf, Bool.and_eq_true, List.all_eq_true] at h ⊢
    refine ⟨Sparse.rising_set k v h.1, fun x hx => ?_⟩
    rcases Sparse.mem_set hx with rfl | hx
    · simpa using hv
    · exact h.2 x hx

end Form

/-! ## Memory -/

theorem Memory.wf_nil : Memory.wf [] = true := rfl

theorem Memory.wf_write {m : Sparse Byte} (a : Nat) (b : Byte) (h : Memory.wf m = true) : Memory.wf (Memory.write m a b) = true := Sparse.wf_put a b h

theorem Memory.wf_store {m : Sparse Byte} (a : Nat) (bs : List Byte) (h : Memory.wf m = true) : Memory.wf (Memory.store m a bs) = true := by
  induction bs generalizing m a with
  | nil => exact h
  | cons b r ih => exact ih (a + 1) (Memory.wf_write a b h)

/-- A filter that keeps every entry of a key keeps what the key finds; one that drops them all leaves nothing. -/
theorem Sparse.find?_filter_keep {p : Nat × α → Bool} (m : Sparse α) {k : Nat} (h : ∀ v, p (k, v) = true) : Sparse.find? (m.filter p) k = Sparse.find? m k := by
  induction m with
  | nil => rfl
  | cons e r ih =>
    obtain ⟨a, v⟩ := e
    by_cases hk : a = k
    · subst hk; rw [List.filter_cons_of_pos (h v)]; simp [Sparse.find?]
    · by_cases hp : p (a, v) = true
      · rw [List.filter_cons_of_pos hp]; simp [Sparse.find?, hk, ih]
      · rw [List.filter_cons_of_neg hp]; simp [Sparse.find?, hk, ih]

theorem Sparse.find?_filter_drop {p : Nat × α → Bool} (m : Sparse α) {k : Nat} (h : ∀ v, p (k, v) = false) : Sparse.find? (m.filter p) k = none := by
  induction m with
  | nil => rfl
  | cons e r ih =>
    obtain ⟨a, v⟩ := e
    by_cases hp : p (a, v) = true
    · rw [List.filter_cons_of_pos hp]
      have hk : a ≠ k := fun e => by rw [e, h v] at hp; cases hp
      simp [Sparse.find?, hk, ih]
    · rw [List.filter_cons_of_neg hp]; exact ih

theorem Memory.wf_zero {m : Sparse Byte} (lo hi : Nat) (h : Memory.wf m = true) : Memory.wf (Memory.zero m lo hi) = true := Sparse.wf_filter _ h

/-- Memory written zero reads zero, and memory beside it as before. -/
theorem Memory.read_zero_inside (m : Sparse Byte) {lo hi a : Nat} (h : lo ≤ a) (k : a < hi) : Memory.read (Memory.zero m lo hi) a = 0 := by
  unfold Memory.read Memory.zero Sparse.get Sparse.clear
  rw [Sparse.find?_filter_drop m (k := a) (fun v => by simp; omega)]
  rfl

theorem Memory.read_zero_outside (m : Sparse Byte) {lo hi a : Nat} (h : a < lo ∨ hi ≤ a) : Memory.read (Memory.zero m lo hi) a = Memory.read m a := by
  unfold Memory.read Memory.zero Sparse.get Sparse.clear
  rw [Sparse.find?_filter_keep m (k := a) (fun v => by simp; omega)]

@[simp] theorem Memory.read_write_self (m : Sparse Byte) (a : Nat) (b : Byte) : Memory.read (Memory.write m a b) a = b := Sparse.get_put_self ..

theorem Memory.read_write_ne (m : Sparse Byte) {a x : Nat} (b : Byte) (h : x ≠ a) : Memory.read (Memory.write m a b) x = Memory.read m x :=
  Sparse.get_put_ne _ _ _ h

/-- A store leaves every byte outside its range alone. -/
theorem Memory.read_store_outside (m : Sparse Byte) (a x : Nat) (bs : List Byte) (h : x < a ∨ a + bs.length ≤ x) :
    Memory.read (Memory.store m a bs) x = Memory.read m x := by
  induction bs generalizing m a with
  | nil => rfl
  | cons b r ih =>
    simp only [List.length_cons] at h
    rw [Memory.store, ih _ _ (by omega), Memory.read_write_ne _ _ (by omega)]

/-- A store puts its bytes in order from its address. -/
theorem Memory.read_store_inside (m : Sparse Byte) (a i : Nat) (bs : List Byte) (h : i < bs.length) :
    Memory.read (Memory.store m a bs) (a + i) = bs.getD i 0 := by
  induction bs generalizing m a i with
  | nil => simp at h
  | cons b r ih =>
    cases i with
    | zero => rw [Memory.store, Memory.read_store_outside _ _ _ _ (by omega)]; simp
    | succ j =>
      have := ih (Memory.write m a b) (a + 1) j (by simpa using h)
      rw [Memory.store, show a + (j + 1) = a + 1 + j by omega, this]; simp

theorem Memory.load_store (m : Sparse Byte) (a : Nat) (bs : List Byte) : Memory.load (Memory.store m a bs) a bs.length = bs := by
  apply List.ext_getElem
  · simp [Memory.load]
  · intro i h1 h2
    simp only [Memory.load, List.getElem_map, List.getElem_range]
    rw [Memory.read_store_inside _ _ _ _ h2]
    simp [h2]

end Sys2Proof.Machine
end

