-- ==== Sys2Proof/Laws/State.lean ====
section
/-! SUPPORT. What each named update leaves of each field of the state, so that no proof unfolds a record update. -/

namespace Sys2Proof.Machine

open Sys2Proof

@[simp] theorem State.setRing_pending (s : State) (r : RingId) (x : Ring) : (s.setRing r x).pending = s.pending := rfl
@[simp] theorem State.setRing_part (s : State) (r : RingId) (x : Ring) : (s.setRing r x).part = s.part := rfl
@[simp] theorem State.setRing_time (s : State) (r : RingId) (x : Ring) : (s.setRing r x).time = s.time := rfl
@[simp] theorem State.setRing_free (s : State) (r : RingId) (x : Ring) : (s.setRing r x).free = s.free := rfl
@[simp] theorem State.setRing_fnEvents (s : State) (r : RingId) (x : Ring) : (s.setRing r x).fnEvents = s.fnEvents := rfl
@[simp] theorem State.setRing_hostMem (s : State) (r : RingId) (x : Ring) : (s.setRing r x).hostMem = s.hostMem := rfl
@[simp] theorem State.setRing_hostFail (s : State) (r : RingId) (x : Ring) : (s.setRing r x).hostFail = s.hostFail := rfl
@[simp] theorem State.setRing_lantern (s : State) (r : RingId) (x : Ring) : (s.setRing r x).lantern = s.lantern := rfl
@[simp] theorem State.setRing_keep (s : State) (r : RingId) (x : Ring) : (s.setRing r x).keep = s.keep := rfl
@[simp] theorem State.setRing_mem (s : State) (r : RingId) (x : Ring) : (s.setRing r x).mem = s.mem := rfl
@[simp] theorem State.setRing_ctxs (s : State) (r : RingId) (x : Ring) : (s.setRing r x).ctxs = s.ctxs := rfl
@[simp] theorem State.setRing_nextCtx (s : State) (r : RingId) (x : Ring) : (s.setRing r x).nextCtx = s.nextCtx := rfl
@[simp] theorem State.setRing_groups (s : State) (r : RingId) (x : Ring) : (s.setRing r x).groups = s.groups := rfl
@[simp] theorem State.setRing_units (s : State) (r : RingId) (x : Ring) : (s.setRing r x).units = s.units := rfl
@[simp] theorem State.setRing_clusters (s : State) (r : RingId) (x : Ring) : (s.setRing r x).clusters = s.clusters := rfl
@[simp] theorem State.setRing_sync (s : State) (r : RingId) (x : Ring) : (s.setRing r x).sync = s.sync := rfl
@[simp] theorem State.setRing_fabric (s : State) (r : RingId) (x : Ring) : (s.setRing r x).fabric = s.fabric := rfl
@[simp] theorem State.setRing_carrier (s : State) (r : RingId) (x : Ring) : (s.setRing r x).carrier = s.carrier := rfl
@[simp] theorem State.setRing_risk (s : State) (r : RingId) (x : Ring) : (s.setRing r x).risk = s.risk := rfl
@[simp] theorem State.setRing_journals (s : State) (r : RingId) (x : Ring) : (s.setRing r x).journals = s.journals := rfl
@[simp] theorem State.setRing_counters (s : State) (r : RingId) (x : Ring) : (s.setRing r x).counters = s.counters := rfl
@[simp] theorem State.setRing_tx (s : State) (r : RingId) (x : Ring) : (s.setRing r x).tx = s.tx := rfl

@[simp] theorem State.setFev_pending (s : State) (n : Nat) (x : FnEvents) : (s.setFev n x).pending = s.pending := rfl
@[simp] theorem State.setFev_part (s : State) (n : Nat) (x : FnEvents) : (s.setFev n x).part = s.part := rfl
@[simp] theorem State.setFev_time (s : State) (n : Nat) (x : FnEvents) : (s.setFev n x).time = s.time := rfl
@[simp] theorem State.setFev_free (s : State) (n : Nat) (x : FnEvents) : (s.setFev n x).free = s.free := rfl
@[simp] theorem State.setFev_rings (s : State) (n : Nat) (x : FnEvents) : (s.setFev n x).rings = s.rings := rfl
@[simp] theorem State.setFev_hostMem (s : State) (n : Nat) (x : FnEvents) : (s.setFev n x).hostMem = s.hostMem := rfl
@[simp] theorem State.setFev_hostFail (s : State) (n : Nat) (x : FnEvents) : (s.setFev n x).hostFail = s.hostFail := rfl
@[simp] theorem State.setFev_lantern (s : State) (n : Nat) (x : FnEvents) : (s.setFev n x).lantern = s.lantern := rfl
@[simp] theorem State.setFev_keep (s : State) (n : Nat) (x : FnEvents) : (s.setFev n x).keep = s.keep := rfl
@[simp] theorem State.setFev_mem (s : State) (n : Nat) (x : FnEvents) : (s.setFev n x).mem = s.mem := rfl
@[simp] theorem State.setFev_ctxs (s : State) (n : Nat) (x : FnEvents) : (s.setFev n x).ctxs = s.ctxs := rfl
@[simp] theorem State.setFev_nextCtx (s : State) (n : Nat) (x : FnEvents) : (s.setFev n x).nextCtx = s.nextCtx := rfl
@[simp] theorem State.setFev_groups (s : State) (n : Nat) (x : FnEvents) : (s.setFev n x).groups = s.groups := rfl
@[simp] theorem State.setFev_units (s : State) (n : Nat) (x : FnEvents) : (s.setFev n x).units = s.units := rfl
@[simp] theorem State.setFev_clusters (s : State) (n : Nat) (x : FnEvents) : (s.setFev n x).clusters = s.clusters := rfl
@[simp] theorem State.setFev_sync (s : State) (n : Nat) (x : FnEvents) : (s.setFev n x).sync = s.sync := rfl
@[simp] theorem State.setFev_fabric (s : State) (n : Nat) (x : FnEvents) : (s.setFev n x).fabric = s.fabric := rfl
@[simp] theorem State.setFev_carrier (s : State) (n : Nat) (x : FnEvents) : (s.setFev n x).carrier = s.carrier := rfl
@[simp] theorem State.setFev_risk (s : State) (n : Nat) (x : FnEvents) : (s.setFev n x).risk = s.risk := rfl
@[simp] theorem State.setFev_journals (s : State) (n : Nat) (x : FnEvents) : (s.setFev n x).journals = s.journals := rfl
@[simp] theorem State.setFev_counters (s : State) (n : Nat) (x : FnEvents) : (s.setFev n x).counters = s.counters := rfl
@[simp] theorem State.setFev_tx (s : State) (n : Nat) (x : FnEvents) : (s.setFev n x).tx = s.tx := rfl

@[simp] theorem State.setGroup_pending (s : State) (g : GroupId) (x : Group) : (s.setGroup g x).pending = s.pending := rfl
@[simp] theorem State.setGroup_part (s : State) (g : GroupId) (x : Group) : (s.setGroup g x).part = s.part := rfl
@[simp] theorem State.setGroup_time (s : State) (g : GroupId) (x : Group) : (s.setGroup g x).time = s.time := rfl
@[simp] theorem State.setGroup_free (s : State) (g : GroupId) (x : Group) : (s.setGroup g x).free = s.free := rfl
@[simp] theorem State.setGroup_rings (s : State) (g : GroupId) (x : Group) : (s.setGroup g x).rings = s.rings := rfl
@[simp] theorem State.setGroup_fnEvents (s : State) (g : GroupId) (x : Group) : (s.setGroup g x).fnEvents = s.fnEvents := rfl
@[simp] theorem State.setGroup_hostMem (s : State) (g : GroupId) (x : Group) : (s.setGroup g x).hostMem = s.hostMem := rfl
@[simp] theorem State.setGroup_hostFail (s : State) (g : GroupId) (x : Group) : (s.setGroup g x).hostFail = s.hostFail := rfl
@[simp] theorem State.setGroup_lantern (s : State) (g : GroupId) (x : Group) : (s.setGroup g x).lantern = s.lantern := rfl
@[simp] theorem State.setGroup_keep (s : State) (g : GroupId) (x : Group) : (s.setGroup g x).keep = s.keep := rfl
@[simp] theorem State.setGroup_mem (s : State) (g : GroupId) (x : Group) : (s.setGroup g x).mem = s.mem := rfl
@[simp] theorem State.setGroup_ctxs (s : State) (g : GroupId) (x : Group) : (s.setGroup g x).ctxs = s.ctxs := rfl
@[simp] theorem State.setGroup_nextCtx (s : State) (g : GroupId) (x : Group) : (s.setGroup g x).nextCtx = s.nextCtx := rfl
@[simp] theorem State.setGroup_units (s : State) (g : GroupId) (x : Group) : (s.setGroup g x).units = s.units := rfl
@[simp] theorem State.setGroup_clusters (s : State) (g : GroupId) (x : Group) : (s.setGroup g x).clusters = s.clusters := rfl
@[simp] theorem State.setGroup_sync (s : State) (g : GroupId) (x : Group) : (s.setGroup g x).sync = s.sync := rfl
@[simp] theorem State.setGroup_fabric (s : State) (g : GroupId) (x : Group) : (s.setGroup g x).fabric = s.fabric := rfl
@[simp] theorem State.setGroup_carrier (s : State) (g : GroupId) (x : Group) : (s.setGroup g x).carrier = s.carrier := rfl
@[simp] theorem State.setGroup_risk (s : State) (g : GroupId) (x : Group) : (s.setGroup g x).risk = s.risk := rfl
@[simp] theorem State.setGroup_journals (s : State) (g : GroupId) (x : Group) : (s.setGroup g x).journals = s.journals := rfl
@[simp] theorem State.setGroup_counters (s : State) (g : GroupId) (x : Group) : (s.setGroup g x).counters = s.counters := rfl
@[simp] theorem State.setGroup_tx (s : State) (g : GroupId) (x : Group) : (s.setGroup g x).tx = s.tx := rfl

@[simp] theorem State.freeGroup_pending (s : State) (g : GroupId) : (s.freeGroup g).pending = s.pending := rfl
@[simp] theorem State.freeGroup_part (s : State) (g : GroupId) : (s.freeGroup g).part = s.part := rfl
@[simp] theorem State.freeGroup_time (s : State) (g : GroupId) : (s.freeGroup g).time = s.time := rfl
@[simp] theorem State.freeGroup_free (s : State) (g : GroupId) : (s.freeGroup g).free = s.free := rfl
@[simp] theorem State.freeGroup_rings (s : State) (g : GroupId) : (s.freeGroup g).rings = s.rings := rfl
@[simp] theorem State.freeGroup_fnEvents (s : State) (g : GroupId) : (s.freeGroup g).fnEvents = s.fnEvents := rfl
@[simp] theorem State.freeGroup_hostMem (s : State) (g : GroupId) : (s.freeGroup g).hostMem = s.hostMem := rfl
@[simp] theorem State.freeGroup_hostFail (s : State) (g : GroupId) : (s.freeGroup g).hostFail = s.hostFail := rfl
@[simp] theorem State.freeGroup_lantern (s : State) (g : GroupId) : (s.freeGroup g).lantern = s.lantern := rfl
@[simp] theorem State.freeGroup_keep (s : State) (g : GroupId) : (s.freeGroup g).keep = s.keep := rfl
@[simp] theorem State.freeGroup_mem (s : State) (g : GroupId) : (s.freeGroup g).mem = s.mem := rfl
@[simp] theorem State.freeGroup_ctxs (s : State) (g : GroupId) : (s.freeGroup g).ctxs = s.ctxs := rfl
@[simp] theorem State.freeGroup_nextCtx (s : State) (g : GroupId) : (s.freeGroup g).nextCtx = s.nextCtx := rfl
@[simp] theorem State.freeGroup_units (s : State) (g : GroupId) : (s.freeGroup g).units = s.units := rfl
@[simp] theorem State.freeGroup_clusters (s : State) (g : GroupId) : (s.freeGroup g).clusters = s.clusters := rfl
@[simp] theorem State.freeGroup_sync (s : State) (g : GroupId) : (s.freeGroup g).sync = s.sync := rfl
@[simp] theorem State.freeGroup_fabric (s : State) (g : GroupId) : (s.freeGroup g).fabric = s.fabric := rfl
@[simp] theorem State.freeGroup_carrier (s : State) (g : GroupId) : (s.freeGroup g).carrier = s.carrier := rfl
@[simp] theorem State.freeGroup_risk (s : State) (g : GroupId) : (s.freeGroup g).risk = s.risk := rfl
@[simp] theorem State.freeGroup_journals (s : State) (g : GroupId) : (s.freeGroup g).journals = s.journals := rfl
@[simp] theorem State.freeGroup_counters (s : State) (g : GroupId) : (s.freeGroup g).counters = s.counters := rfl
@[simp] theorem State.freeGroup_tx (s : State) (g : GroupId) : (s.freeGroup g).tx = s.tx := rfl

@[simp] theorem State.setCtx_pending (s : State) (n : Nat) (x : Ctx) : (s.setCtx n x).pending = s.pending := rfl
@[simp] theorem State.setCtx_part (s : State) (n : Nat) (x : Ctx) : (s.setCtx n x).part = s.part := rfl
@[simp] theorem State.setCtx_time (s : State) (n : Nat) (x : Ctx) : (s.setCtx n x).time = s.time := rfl
@[simp] theorem State.setCtx_free (s : State) (n : Nat) (x : Ctx) : (s.setCtx n x).free = s.free := rfl
@[simp] theorem State.setCtx_rings (s : State) (n : Nat) (x : Ctx) : (s.setCtx n x).rings = s.rings := rfl
@[simp] theorem State.setCtx_fnEvents (s : State) (n : Nat) (x : Ctx) : (s.setCtx n x).fnEvents = s.fnEvents := rfl
@[simp] theorem State.setCtx_hostMem (s : State) (n : Nat) (x : Ctx) : (s.setCtx n x).hostMem = s.hostMem := rfl
@[simp] theorem State.setCtx_hostFail (s : State) (n : Nat) (x : Ctx) : (s.setCtx n x).hostFail = s.hostFail := rfl
@[simp] theorem State.setCtx_lantern (s : State) (n : Nat) (x : Ctx) : (s.setCtx n x).lantern = s.lantern := rfl
@[simp] theorem State.setCtx_keep (s : State) (n : Nat) (x : Ctx) : (s.setCtx n x).keep = s.keep := rfl
@[simp] theorem State.setCtx_mem (s : State) (n : Nat) (x : Ctx) : (s.setCtx n x).mem = s.mem := rfl
@[simp] theorem State.setCtx_nextCtx (s : State) (n : Nat) (x : Ctx) : (s.setCtx n x).nextCtx = s.nextCtx := rfl
@[simp] theorem State.setCtx_groups (s : State) (n : Nat) (x : Ctx) : (s.setCtx n x).groups = s.groups := rfl
@[simp] theorem State.setCtx_units (s : State) (n : Nat) (x : Ctx) : (s.setCtx n x).units = s.units := rfl
@[simp] theorem State.setCtx_clusters (s : State) (n : Nat) (x : Ctx) : (s.setCtx n x).clusters = s.clusters := rfl
@[simp] theorem State.setCtx_sync (s : State) (n : Nat) (x : Ctx) : (s.setCtx n x).sync = s.sync := rfl
@[simp] theorem State.setCtx_fabric (s : State) (n : Nat) (x : Ctx) : (s.setCtx n x).fabric = s.fabric := rfl
@[simp] theorem State.setCtx_carrier (s : State) (n : Nat) (x : Ctx) : (s.setCtx n x).carrier = s.carrier := rfl
@[simp] theorem State.setCtx_risk (s : State) (n : Nat) (x : Ctx) : (s.setCtx n x).risk = s.risk := rfl
@[simp] theorem State.setCtx_journals (s : State) (n : Nat) (x : Ctx) : (s.setCtx n x).journals = s.journals := rfl
@[simp] theorem State.setCtx_counters (s : State) (n : Nat) (x : Ctx) : (s.setCtx n x).counters = s.counters := rfl
@[simp] theorem State.setCtx_tx (s : State) (n : Nat) (x : Ctx) : (s.setCtx n x).tx = s.tx := rfl

@[simp] theorem State.delCtx_pending (s : State) (n : Nat) : (s.delCtx n).pending = s.pending := rfl
@[simp] theorem State.delCtx_part (s : State) (n : Nat) : (s.delCtx n).part = s.part := rfl
@[simp] theorem State.delCtx_time (s : State) (n : Nat) : (s.delCtx n).time = s.time := rfl
@[simp] theorem State.delCtx_free (s : State) (n : Nat) : (s.delCtx n).free = s.free := rfl
@[simp] theorem State.delCtx_rings (s : State) (n : Nat) : (s.delCtx n).rings = s.rings := rfl
@[simp] theorem State.delCtx_fnEvents (s : State) (n : Nat) : (s.delCtx n).fnEvents = s.fnEvents := rfl
@[simp] theorem State.delCtx_hostMem (s : State) (n : Nat) : (s.delCtx n).hostMem = s.hostMem := rfl
@[simp] theorem State.delCtx_hostFail (s : State) (n : Nat) : (s.delCtx n).hostFail = s.hostFail := rfl
@[simp] theorem State.delCtx_lantern (s : State) (n : Nat) : (s.delCtx n).lantern = s.lantern := rfl
@[simp] theorem State.delCtx_keep (s : State) (n : Nat) : (s.delCtx n).keep = s.keep := rfl
@[simp] theorem State.delCtx_mem (s : State) (n : Nat) : (s.delCtx n).mem = s.mem := rfl
@[simp] theorem State.delCtx_nextCtx (s : State) (n : Nat) : (s.delCtx n).nextCtx = s.nextCtx := rfl
@[simp] theorem State.delCtx_groups (s : State) (n : Nat) : (s.delCtx n).groups = s.groups := rfl
@[simp] theorem State.delCtx_units (s : State) (n : Nat) : (s.delCtx n).units = s.units := rfl
@[simp] theorem State.delCtx_clusters (s : State) (n : Nat) : (s.delCtx n).clusters = s.clusters := rfl
@[simp] theorem State.delCtx_sync (s : State) (n : Nat) : (s.delCtx n).sync = s.sync := rfl
@[simp] theorem State.delCtx_fabric (s : State) (n : Nat) : (s.delCtx n).fabric = s.fabric := rfl
@[simp] theorem State.delCtx_carrier (s : State) (n : Nat) : (s.delCtx n).carrier = s.carrier := rfl
@[simp] theorem State.delCtx_risk (s : State) (n : Nat) : (s.delCtx n).risk = s.risk := rfl
@[simp] theorem State.delCtx_journals (s : State) (n : Nat) : (s.delCtx n).journals = s.journals := rfl
@[simp] theorem State.delCtx_counters (s : State) (n : Nat) : (s.delCtx n).counters = s.counters := rfl
@[simp] theorem State.delCtx_tx (s : State) (n : Nat) : (s.delCtx n).tx = s.tx := rfl

@[simp] theorem State.setCluster_pending (s : State) (n : Nat) (x : Cluster) : (s.setCluster n x).pending = s.pending := rfl
@[simp] theorem State.setCluster_part (s : State) (n : Nat) (x : Cluster) : (s.setCluster n x).part = s.part := rfl
@[simp] theorem State.setCluster_time (s : State) (n : Nat) (x : Cluster) : (s.setCluster n x).time = s.time := rfl
@[simp] theorem State.setCluster_free (s : State) (n : Nat) (x : Cluster) : (s.setCluster n x).free = s.free := rfl
@[simp] theorem State.setCluster_rings (s : State) (n : Nat) (x : Cluster) : (s.setCluster n x).rings = s.rings := rfl
@[simp] theorem State.setCluster_fnEvents (s : State) (n : Nat) (x : Cluster) : (s.setCluster n x).fnEvents = s.fnEvents := rfl
@[simp] theorem State.setCluster_hostMem (s : State) (n : Nat) (x : Cluster) : (s.setCluster n x).hostMem = s.hostMem := rfl
@[simp] theorem State.setCluster_hostFail (s : State) (n : Nat) (x : Cluster) : (s.setCluster n x).hostFail = s.hostFail := rfl
@[simp] theorem State.setCluster_lantern (s : State) (n : Nat) (x : Cluster) : (s.setCluster n x).lantern = s.lantern := rfl
@[simp] theorem State.setCluster_keep (s : State) (n : Nat) (x : Cluster) : (s.setCluster n x).keep = s.keep := rfl
@[simp] theorem State.setCluster_mem (s : State) (n : Nat) (x : Cluster) : (s.setCluster n x).mem = s.mem := rfl
@[simp] theorem State.setCluster_ctxs (s : State) (n : Nat) (x : Cluster) : (s.setCluster n x).ctxs = s.ctxs := rfl
@[simp] theorem State.setCluster_nextCtx (s : State) (n : Nat) (x : Cluster) : (s.setCluster n x).nextCtx = s.nextCtx := rfl
@[simp] theorem State.setCluster_groups (s : State) (n : Nat) (x : Cluster) : (s.setCluster n x).groups = s.groups := rfl
@[simp] theorem State.setCluster_units (s : State) (n : Nat) (x : Cluster) : (s.setCluster n x).units = s.units := rfl
@[simp] theorem State.setCluster_sync (s : State) (n : Nat) (x : Cluster) : (s.setCluster n x).sync = s.sync := rfl
@[simp] theorem State.setCluster_fabric (s : State) (n : Nat) (x : Cluster) : (s.setCluster n x).fabric = s.fabric := rfl
@[simp] theorem State.setCluster_carrier (s : State) (n : Nat) (x : Cluster) : (s.setCluster n x).carrier = s.carrier := rfl
@[simp] theorem State.setCluster_risk (s : State) (n : Nat) (x : Cluster) : (s.setCluster n x).risk = s.risk := rfl
@[simp] theorem State.setCluster_journals (s : State) (n : Nat) (x : Cluster) : (s.setCluster n x).journals = s.journals := rfl
@[simp] theorem State.setCluster_counters (s : State) (n : Nat) (x : Cluster) : (s.setCluster n x).counters = s.counters := rfl
@[simp] theorem State.setCluster_tx (s : State) (n : Nat) (x : Cluster) : (s.setCluster n x).tx = s.tx := rfl

@[simp] theorem State.setUnit_pending (s : State) (n : Nat) (x : UnitSt) : (s.setUnit n x).pending = s.pending := rfl
@[simp] theorem State.setUnit_part (s : State) (n : Nat) (x : UnitSt) : (s.setUnit n x).part = s.part := rfl
@[simp] theorem State.setUnit_time (s : State) (n : Nat) (x : UnitSt) : (s.setUnit n x).time = s.time := rfl
@[simp] theorem State.setUnit_free (s : State) (n : Nat) (x : UnitSt) : (s.setUnit n x).free = s.free := rfl
@[simp] theorem State.setUnit_rings (s : State) (n : Nat) (x : UnitSt) : (s.setUnit n x).rings = s.rings := rfl
@[simp] theorem State.setUnit_fnEvents (s : State) (n : Nat) (x : UnitSt) : (s.setUnit n x).fnEvents = s.fnEvents := rfl
@[simp] theorem State.setUnit_hostMem (s : State) (n : Nat) (x : UnitSt) : (s.setUnit n x).hostMem = s.hostMem := rfl
@[simp] theorem State.setUnit_hostFail (s : State) (n : Nat) (x : UnitSt) : (s.setUnit n x).hostFail = s.hostFail := rfl
@[simp] theorem State.setUnit_lantern (s : State) (n : Nat) (x : UnitSt) : (s.setUnit n x).lantern = s.lantern := rfl
@[simp] theorem State.setUnit_keep (s : State) (n : Nat) (x : UnitSt) : (s.setUnit n x).keep = s.keep := rfl
@[simp] theorem State.setUnit_mem (s : State) (n : Nat) (x : UnitSt) : (s.setUnit n x).mem = s.mem := rfl
@[simp] theorem State.setUnit_ctxs (s : State) (n : Nat) (x : UnitSt) : (s.setUnit n x).ctxs = s.ctxs := rfl
@[simp] theorem State.setUnit_nextCtx (s : State) (n : Nat) (x : UnitSt) : (s.setUnit n x).nextCtx = s.nextCtx := rfl
@[simp] theorem State.setUnit_groups (s : State) (n : Nat) (x : UnitSt) : (s.setUnit n x).groups = s.groups := rfl
@[simp] theorem State.setUnit_clusters (s : State) (n : Nat) (x : UnitSt) : (s.setUnit n x).clusters = s.clusters := rfl
@[simp] theorem State.setUnit_sync (s : State) (n : Nat) (x : UnitSt) : (s.setUnit n x).sync = s.sync := rfl
@[simp] theorem State.setUnit_fabric (s : State) (n : Nat) (x : UnitSt) : (s.setUnit n x).fabric = s.fabric := rfl
@[simp] theorem State.setUnit_carrier (s : State) (n : Nat) (x : UnitSt) : (s.setUnit n x).carrier = s.carrier := rfl
@[simp] theorem State.setUnit_risk (s : State) (n : Nat) (x : UnitSt) : (s.setUnit n x).risk = s.risk := rfl
@[simp] theorem State.setUnit_journals (s : State) (n : Nat) (x : UnitSt) : (s.setUnit n x).journals = s.journals := rfl
@[simp] theorem State.setUnit_counters (s : State) (n : Nat) (x : UnitSt) : (s.setUnit n x).counters = s.counters := rfl
@[simp] theorem State.setUnit_tx (s : State) (n : Nat) (x : UnitSt) : (s.setUnit n x).tx = s.tx := rfl

@[simp] theorem State.setLink_pending (s : State) (n : Nat) (x : Link) : (s.setLink n x).pending = s.pending := rfl
@[simp] theorem State.setLink_part (s : State) (n : Nat) (x : Link) : (s.setLink n x).part = s.part := rfl
@[simp] theorem State.setLink_time (s : State) (n : Nat) (x : Link) : (s.setLink n x).time = s.time := rfl
@[simp] theorem State.setLink_free (s : State) (n : Nat) (x : Link) : (s.setLink n x).free = s.free := rfl
@[simp] theorem State.setLink_rings (s : State) (n : Nat) (x : Link) : (s.setLink n x).rings = s.rings := rfl
@[simp] theorem State.setLink_fnEvents (s : State) (n : Nat) (x : Link) : (s.setLink n x).fnEvents = s.fnEvents := rfl
@[simp] theorem State.setLink_hostMem (s : State) (n : Nat) (x : Link) : (s.setLink n x).hostMem = s.hostMem := rfl
@[simp] theorem State.setLink_hostFail (s : State) (n : Nat) (x : Link) : (s.setLink n x).hostFail = s.hostFail := rfl
@[simp] theorem State.setLink_lantern (s : State) (n : Nat) (x : Link) : (s.setLink n x).lantern = s.lantern := rfl
@[simp] theorem State.setLink_keep (s : State) (n : Nat) (x : Link) : (s.setLink n x).keep = s.keep := rfl
@[simp] theorem State.setLink_mem (s : State) (n : Nat) (x : Link) : (s.setLink n x).mem = s.mem := rfl
@[simp] theorem State.setLink_ctxs (s : State) (n : Nat) (x : Link) : (s.setLink n x).ctxs = s.ctxs := rfl
@[simp] theorem State.setLink_nextCtx (s : State) (n : Nat) (x : Link) : (s.setLink n x).nextCtx = s.nextCtx := rfl
@[simp] theorem State.setLink_groups (s : State) (n : Nat) (x : Link) : (s.setLink n x).groups = s.groups := rfl
@[simp] theorem State.setLink_units (s : State) (n : Nat) (x : Link) : (s.setLink n x).units = s.units := rfl
@[simp] theorem State.setLink_clusters (s : State) (n : Nat) (x : Link) : (s.setLink n x).clusters = s.clusters := rfl
@[simp] theorem State.setLink_sync (s : State) (n : Nat) (x : Link) : (s.setLink n x).sync = s.sync := rfl
@[simp] theorem State.setLink_carrier (s : State) (n : Nat) (x : Link) : (s.setLink n x).carrier = s.carrier := rfl
@[simp] theorem State.setLink_risk (s : State) (n : Nat) (x : Link) : (s.setLink n x).risk = s.risk := rfl
@[simp] theorem State.setLink_journals (s : State) (n : Nat) (x : Link) : (s.setLink n x).journals = s.journals := rfl
@[simp] theorem State.setLink_counters (s : State) (n : Nat) (x : Link) : (s.setLink n x).counters = s.counters := rfl
@[simp] theorem State.setLink_tx (s : State) (n : Nat) (x : Link) : (s.setLink n x).tx = s.tx := rfl

@[simp] theorem State.setPart_pending (s : State) (n : Nat) (x : Partition) : (s.setPart n x).pending = s.pending := rfl
@[simp] theorem State.setPart_part (s : State) (n : Nat) (x : Partition) : (s.setPart n x).part = s.part := rfl
@[simp] theorem State.setPart_time (s : State) (n : Nat) (x : Partition) : (s.setPart n x).time = s.time := rfl
@[simp] theorem State.setPart_free (s : State) (n : Nat) (x : Partition) : (s.setPart n x).free = s.free := rfl
@[simp] theorem State.setPart_rings (s : State) (n : Nat) (x : Partition) : (s.setPart n x).rings = s.rings := rfl
@[simp] theorem State.setPart_fnEvents (s : State) (n : Nat) (x : Partition) : (s.setPart n x).fnEvents = s.fnEvents := rfl
@[simp] theorem State.setPart_hostMem (s : State) (n : Nat) (x : Partition) : (s.setPart n x).hostMem = s.hostMem := rfl
@[simp] theorem State.setPart_hostFail (s : State) (n : Nat) (x : Partition) : (s.setPart n x).hostFail = s.hostFail := rfl
@[simp] theorem State.setPart_lantern (s : State) (n : Nat) (x : Partition) : (s.setPart n x).lantern = s.lantern := rfl
@[simp] theorem State.setPart_mem (s : State) (n : Nat) (x : Partition) : (s.setPart n x).mem = s.mem := rfl
@[simp] theorem State.setPart_ctxs (s : State) (n : Nat) (x : Partition) : (s.setPart n x).ctxs = s.ctxs := rfl
@[simp] theorem State.setPart_nextCtx (s : State) (n : Nat) (x : Partition) : (s.setPart n x).nextCtx = s.nextCtx := rfl
@[simp] theorem State.setPart_groups (s : State) (n : Nat) (x : Partition) : (s.setPart n x).groups = s.groups := rfl
@[simp] theorem State.setPart_units (s : State) (n : Nat) (x : Partition) : (s.setPart n x).units = s.units := rfl
@[simp] theorem State.setPart_clusters (s : State) (n : Nat) (x : Partition) : (s.setPart n x).clusters = s.clusters := rfl
@[simp] theorem State.setPart_sync (s : State) (n : Nat) (x : Partition) : (s.setPart n x).sync = s.sync := rfl
@[simp] theorem State.setPart_fabric (s : State) (n : Nat) (x : Partition) : (s.setPart n x).fabric = s.fabric := rfl
@[simp] theorem State.setPart_carrier (s : State) (n : Nat) (x : Partition) : (s.setPart n x).carrier = s.carrier := rfl
@[simp] theorem State.setPart_risk (s : State) (n : Nat) (x : Partition) : (s.setPart n x).risk = s.risk := rfl
@[simp] theorem State.setPart_journals (s : State) (n : Nat) (x : Partition) : (s.setPart n x).journals = s.journals := rfl
@[simp] theorem State.setPart_counters (s : State) (n : Nat) (x : Partition) : (s.setPart n x).counters = s.counters := rfl
@[simp] theorem State.setPart_tx (s : State) (n : Nat) (x : Partition) : (s.setPart n x).tx = s.tx := rfl

@[simp] theorem State.setStack_pending (s : State) (n : Nat) (x : Stack) : (s.setStack n x).pending = s.pending := rfl
@[simp] theorem State.setStack_part (s : State) (n : Nat) (x : Stack) : (s.setStack n x).part = s.part := rfl
@[simp] theorem State.setStack_time (s : State) (n : Nat) (x : Stack) : (s.setStack n x).time = s.time := rfl
@[simp] theorem State.setStack_free (s : State) (n : Nat) (x : Stack) : (s.setStack n x).free = s.free := rfl
@[simp] theorem State.setStack_rings (s : State) (n : Nat) (x : Stack) : (s.setStack n x).rings = s.rings := rfl
@[simp] theorem State.setStack_fnEvents (s : State) (n : Nat) (x : Stack) : (s.setStack n x).fnEvents = s.fnEvents := rfl
@[simp] theorem State.setStack_hostMem (s : State) (n : Nat) (x : Stack) : (s.setStack n x).hostMem = s.hostMem := rfl
@[simp] theorem State.setStack_hostFail (s : State) (n : Nat) (x : Stack) : (s.setStack n x).hostFail = s.hostFail := rfl
@[simp] theorem State.setStack_lantern (s : State) (n : Nat) (x : Stack) : (s.setStack n x).lantern = s.lantern := rfl
@[simp] theorem State.setStack_keep (s : State) (n : Nat) (x : Stack) : (s.setStack n x).keep = s.keep := rfl
@[simp] theorem State.setStack_ctxs (s : State) (n : Nat) (x : Stack) : (s.setStack n x).ctxs = s.ctxs := rfl
@[simp] theorem State.setStack_nextCtx (s : State) (n : Nat) (x : Stack) : (s.setStack n x).nextCtx = s.nextCtx := rfl
@[simp] theorem State.setStack_groups (s : State) (n : Nat) (x : Stack) : (s.setStack n x).groups = s.groups := rfl
@[simp] theorem State.setStack_units (s : State) (n : Nat) (x : Stack) : (s.setStack n x).units = s.units := rfl
@[simp] theorem State.setStack_clusters (s : State) (n : Nat) (x : Stack) : (s.setStack n x).clusters = s.clusters := rfl
@[simp] theorem State.setStack_sync (s : State) (n : Nat) (x : Stack) : (s.setStack n x).sync = s.sync := rfl
@[simp] theorem State.setStack_fabric (s : State) (n : Nat) (x : Stack) : (s.setStack n x).fabric = s.fabric := rfl
@[simp] theorem State.setStack_carrier (s : State) (n : Nat) (x : Stack) : (s.setStack n x).carrier = s.carrier := rfl
@[simp] theorem State.setStack_risk (s : State) (n : Nat) (x : Stack) : (s.setStack n x).risk = s.risk := rfl
@[simp] theorem State.setStack_journals (s : State) (n : Nat) (x : Stack) : (s.setStack n x).journals = s.journals := rfl
@[simp] theorem State.setStack_counters (s : State) (n : Nat) (x : Stack) : (s.setStack n x).counters = s.counters := rfl
@[simp] theorem State.setStack_tx (s : State) (n : Nat) (x : Stack) : (s.setStack n x).tx = s.tx := rfl

@[simp] theorem State.setObj_pending (s : State) (n : Nat) (x : Obj) : (s.setObj n x).pending = s.pending := rfl
@[simp] theorem State.setObj_part (s : State) (n : Nat) (x : Obj) : (s.setObj n x).part = s.part := rfl
@[simp] theorem State.setObj_time (s : State) (n : Nat) (x : Obj) : (s.setObj n x).time = s.time := rfl
@[simp] theorem State.setObj_free (s : State) (n : Nat) (x : Obj) : (s.setObj n x).free = s.free := rfl
@[simp] theorem State.setObj_rings (s : State) (n : Nat) (x : Obj) : (s.setObj n x).rings = s.rings := rfl
@[simp] theorem State.setObj_fnEvents (s : State) (n : Nat) (x : Obj) : (s.setObj n x).fnEvents = s.fnEvents := rfl
@[simp] theorem State.setObj_hostMem (s : State) (n : Nat) (x : Obj) : (s.setObj n x).hostMem = s.hostMem := rfl
@[simp] theorem State.setObj_hostFail (s : State) (n : Nat) (x : Obj) : (s.setObj n x).hostFail = s.hostFail := rfl
@[simp] theorem State.setObj_lantern (s : State) (n : Nat) (x : Obj) : (s.setObj n x).lantern = s.lantern := rfl
@[simp] theorem State.setObj_keep (s : State) (n : Nat) (x : Obj) : (s.setObj n x).keep = s.keep := rfl
@[simp] theorem State.setObj_mem (s : State) (n : Nat) (x : Obj) : (s.setObj n x).mem = s.mem := rfl
@[simp] theorem State.setObj_ctxs (s : State) (n : Nat) (x : Obj) : (s.setObj n x).ctxs = s.ctxs := rfl
@[simp] theorem State.setObj_nextCtx (s : State) (n : Nat) (x : Obj) : (s.setObj n x).nextCtx = s.nextCtx := rfl
@[simp] theorem State.setObj_groups (s : State) (n : Nat) (x : Obj) : (s.setObj n x).groups = s.groups := rfl
@[simp] theorem State.setObj_units (s : State) (n : Nat) (x : Obj) : (s.setObj n x).units = s.units := rfl
@[simp] theorem State.setObj_clusters (s : State) (n : Nat) (x : Obj) : (s.setObj n x).clusters = s.clusters := rfl
@[simp] theorem State.setObj_fabric (s : State) (n : Nat) (x : Obj) : (s.setObj n x).fabric = s.fabric := rfl
@[simp] theorem State.setObj_carrier (s : State) (n : Nat) (x : Obj) : (s.setObj n x).carrier = s.carrier := rfl
@[simp] theorem State.setObj_risk (s : State) (n : Nat) (x : Obj) : (s.setObj n x).risk = s.risk := rfl
@[simp] theorem State.setObj_journals (s : State) (n : Nat) (x : Obj) : (s.setObj n x).journals = s.journals := rfl
@[simp] theorem State.setObj_counters (s : State) (n : Nat) (x : Obj) : (s.setObj n x).counters = s.counters := rfl
@[simp] theorem State.setObj_tx (s : State) (n : Nat) (x : Obj) : (s.setObj n x).tx = s.tx := rfl

@[simp] theorem State.setMem_pending (s : State) (b : Sparse Byte) : (s.setMem b).pending = s.pending := rfl
@[simp] theorem State.setMem_part (s : State) (b : Sparse Byte) : (s.setMem b).part = s.part := rfl
@[simp] theorem State.setMem_time (s : State) (b : Sparse Byte) : (s.setMem b).time = s.time := rfl
@[simp] theorem State.setMem_free (s : State) (b : Sparse Byte) : (s.setMem b).free = s.free := rfl
@[simp] theorem State.setMem_rings (s : State) (b : Sparse Byte) : (s.setMem b).rings = s.rings := rfl
@[simp] theorem State.setMem_fnEvents (s : State) (b : Sparse Byte) : (s.setMem b).fnEvents = s.fnEvents := rfl
@[simp] theorem State.setMem_hostMem (s : State) (b : Sparse Byte) : (s.setMem b).hostMem = s.hostMem := rfl
@[simp] theorem State.setMem_hostFail (s : State) (b : Sparse Byte) : (s.setMem b).hostFail = s.hostFail := rfl
@[simp] theorem State.setMem_lantern (s : State) (b : Sparse Byte) : (s.setMem b).lantern = s.lantern := rfl
@[simp] theorem State.setMem_keep (s : State) (b : Sparse Byte) : (s.setMem b).keep = s.keep := rfl
@[simp] theorem State.setMem_ctxs (s : State) (b : Sparse Byte) : (s.setMem b).ctxs = s.ctxs := rfl
@[simp] theorem State.setMem_nextCtx (s : State) (b : Sparse Byte) : (s.setMem b).nextCtx = s.nextCtx := rfl
@[simp] theorem State.setMem_groups (s : State) (b : Sparse Byte) : (s.setMem b).groups = s.groups := rfl
@[simp] theorem State.setMem_units (s : State) (b : Sparse Byte) : (s.setMem b).units = s.units := rfl
@[simp] theorem State.setMem_clusters (s : State) (b : Sparse Byte) : (s.setMem b).clusters = s.clusters := rfl
@[simp] theorem State.setMem_sync (s : State) (b : Sparse Byte) : (s.setMem b).sync = s.sync := rfl
@[simp] theorem State.setMem_fabric (s : State) (b : Sparse Byte) : (s.setMem b).fabric = s.fabric := rfl
@[simp] theorem State.setMem_carrier (s : State) (b : Sparse Byte) : (s.setMem b).carrier = s.carrier := rfl
@[simp] theorem State.setMem_risk (s : State) (b : Sparse Byte) : (s.setMem b).risk = s.risk := rfl
@[simp] theorem State.setMem_journals (s : State) (b : Sparse Byte) : (s.setMem b).journals = s.journals := rfl
@[simp] theorem State.setMem_counters (s : State) (b : Sparse Byte) : (s.setMem b).counters = s.counters := rfl
@[simp] theorem State.setMem_tx (s : State) (b : Sparse Byte) : (s.setMem b).tx = s.tx := rfl

@[simp] theorem State.setHost_pending (s : State) (b : Sparse Byte) : (s.setHost b).pending = s.pending := rfl
@[simp] theorem State.setHost_part (s : State) (b : Sparse Byte) : (s.setHost b).part = s.part := rfl
@[simp] theorem State.setHost_time (s : State) (b : Sparse Byte) : (s.setHost b).time = s.time := rfl
@[simp] theorem State.setHost_free (s : State) (b : Sparse Byte) : (s.setHost b).free = s.free := rfl
@[simp] theorem State.setHost_rings (s : State) (b : Sparse Byte) : (s.setHost b).rings = s.rings := rfl
@[simp] theorem State.setHost_fnEvents (s : State) (b : Sparse Byte) : (s.setHost b).fnEvents = s.fnEvents := rfl
@[simp] theorem State.setHost_hostFail (s : State) (b : Sparse Byte) : (s.setHost b).hostFail = s.hostFail := rfl
@[simp] theorem State.setHost_lantern (s : State) (b : Sparse Byte) : (s.setHost b).lantern = s.lantern := rfl
@[simp] theorem State.setHost_keep (s : State) (b : Sparse Byte) : (s.setHost b).keep = s.keep := rfl
@[simp] theorem State.setHost_mem (s : State) (b : Sparse Byte) : (s.setHost b).mem = s.mem := rfl
@[simp] theorem State.setHost_ctxs (s : State) (b : Sparse Byte) : (s.setHost b).ctxs = s.ctxs := rfl
@[simp] theorem State.setHost_nextCtx (s : State) (b : Sparse Byte) : (s.setHost b).nextCtx = s.nextCtx := rfl
@[simp] theorem State.setHost_groups (s : State) (b : Sparse Byte) : (s.setHost b).groups = s.groups := rfl
@[simp] theorem State.setHost_units (s : State) (b : Sparse Byte) : (s.setHost b).units = s.units := rfl
@[simp] theorem State.setHost_clusters (s : State) (b : Sparse Byte) : (s.setHost b).clusters = s.clusters := rfl
@[simp] theorem State.setHost_sync (s : State) (b : Sparse Byte) : (s.setHost b).sync = s.sync := rfl
@[simp] theorem State.setHost_fabric (s : State) (b : Sparse Byte) : (s.setHost b).fabric = s.fabric := rfl
@[simp] theorem State.setHost_carrier (s : State) (b : Sparse Byte) : (s.setHost b).carrier = s.carrier := rfl
@[simp] theorem State.setHost_risk (s : State) (b : Sparse Byte) : (s.setHost b).risk = s.risk := rfl
@[simp] theorem State.setHost_journals (s : State) (b : Sparse Byte) : (s.setHost b).journals = s.journals := rfl
@[simp] theorem State.setHost_counters (s : State) (b : Sparse Byte) : (s.setHost b).counters = s.counters := rfl
@[simp] theorem State.setHost_tx (s : State) (b : Sparse Byte) : (s.setHost b).tx = s.tx := rfl

@[simp] theorem State.setLantern_pending (s : State) (x : Lantern) : (s.setLantern x).pending = s.pending := rfl
@[simp] theorem State.setLantern_part (s : State) (x : Lantern) : (s.setLantern x).part = s.part := rfl
@[simp] theorem State.setLantern_time (s : State) (x : Lantern) : (s.setLantern x).time = s.time := rfl
@[simp] theorem State.setLantern_free (s : State) (x : Lantern) : (s.setLantern x).free = s.free := rfl
@[simp] theorem State.setLantern_rings (s : State) (x : Lantern) : (s.setLantern x).rings = s.rings := rfl
@[simp] theorem State.setLantern_fnEvents (s : State) (x : Lantern) : (s.setLantern x).fnEvents = s.fnEvents := rfl
@[simp] theorem State.setLantern_hostMem (s : State) (x : Lantern) : (s.setLantern x).hostMem = s.hostMem := rfl
@[simp] theorem State.setLantern_hostFail (s : State) (x : Lantern) : (s.setLantern x).hostFail = s.hostFail := rfl
@[simp] theorem State.setLantern_keep (s : State) (x : Lantern) : (s.setLantern x).keep = s.keep := rfl
@[simp] theorem State.setLantern_mem (s : State) (x : Lantern) : (s.setLantern x).mem = s.mem := rfl
@[simp] theorem State.setLantern_ctxs (s : State) (x : Lantern) : (s.setLantern x).ctxs = s.ctxs := rfl
@[simp] theorem State.setLantern_nextCtx (s : State) (x : Lantern) : (s.setLantern x).nextCtx = s.nextCtx := rfl
@[simp] theorem State.setLantern_groups (s : State) (x : Lantern) : (s.setLantern x).groups = s.groups := rfl
@[simp] theorem State.setLantern_units (s : State) (x : Lantern) : (s.setLantern x).units = s.units := rfl
@[simp] theorem State.setLantern_clusters (s : State) (x : Lantern) : (s.setLantern x).clusters = s.clusters := rfl
@[simp] theorem State.setLantern_sync (s : State) (x : Lantern) : (s.setLantern x).sync = s.sync := rfl
@[simp] theorem State.setLantern_fabric (s : State) (x : Lantern) : (s.setLantern x).fabric = s.fabric := rfl
@[simp] theorem State.setLantern_carrier (s : State) (x : Lantern) : (s.setLantern x).carrier = s.carrier := rfl
@[simp] theorem State.setLantern_risk (s : State) (x : Lantern) : (s.setLantern x).risk = s.risk := rfl
@[simp] theorem State.setLantern_journals (s : State) (x : Lantern) : (s.setLantern x).journals = s.journals := rfl
@[simp] theorem State.setLantern_counters (s : State) (x : Lantern) : (s.setLantern x).counters = s.counters := rfl
@[simp] theorem State.setLantern_tx (s : State) (x : Lantern) : (s.setLantern x).tx = s.tx := rfl

@[simp] theorem State.setKeep_pending (s : State) (x : Keep) : (s.setKeep x).pending = s.pending := rfl
@[simp] theorem State.setKeep_part (s : State) (x : Keep) : (s.setKeep x).part = s.part := rfl
@[simp] theorem State.setKeep_time (s : State) (x : Keep) : (s.setKeep x).time = s.time := rfl
@[simp] theorem State.setKeep_free (s : State) (x : Keep) : (s.setKeep x).free = s.free := rfl
@[simp] theorem State.setKeep_rings (s : State) (x : Keep) : (s.setKeep x).rings = s.rings := rfl
@[simp] theorem State.setKeep_fnEvents (s : State) (x : Keep) : (s.setKeep x).fnEvents = s.fnEvents := rfl
@[simp] theorem State.setKeep_hostMem (s : State) (x : Keep) : (s.setKeep x).hostMem = s.hostMem := rfl
@[simp] theorem State.setKeep_hostFail (s : State) (x : Keep) : (s.setKeep x).hostFail = s.hostFail := rfl
@[simp] theorem State.setKeep_lantern (s : State) (x : Keep) : (s.setKeep x).lantern = s.lantern := rfl
@[simp] theorem State.setKeep_mem (s : State) (x : Keep) : (s.setKeep x).mem = s.mem := rfl
@[simp] theorem State.setKeep_ctxs (s : State) (x : Keep) : (s.setKeep x).ctxs = s.ctxs := rfl
@[simp] theorem State.setKeep_nextCtx (s : State) (x : Keep) : (s.setKeep x).nextCtx = s.nextCtx := rfl
@[simp] theorem State.setKeep_groups (s : State) (x : Keep) : (s.setKeep x).groups = s.groups := rfl
@[simp] theorem State.setKeep_units (s : State) (x : Keep) : (s.setKeep x).units = s.units := rfl
@[simp] theorem State.setKeep_clusters (s : State) (x : Keep) : (s.setKeep x).clusters = s.clusters := rfl
@[simp] theorem State.setKeep_sync (s : State) (x : Keep) : (s.setKeep x).sync = s.sync := rfl
@[simp] theorem State.setKeep_fabric (s : State) (x : Keep) : (s.setKeep x).fabric = s.fabric := rfl
@[simp] theorem State.setKeep_carrier (s : State) (x : Keep) : (s.setKeep x).carrier = s.carrier := rfl
@[simp] theorem State.setKeep_risk (s : State) (x : Keep) : (s.setKeep x).risk = s.risk := rfl
@[simp] theorem State.setKeep_journals (s : State) (x : Keep) : (s.setKeep x).journals = s.journals := rfl
@[simp] theorem State.setKeep_counters (s : State) (x : Keep) : (s.setKeep x).counters = s.counters := rfl
@[simp] theorem State.setKeep_tx (s : State) (x : Keep) : (s.setKeep x).tx = s.tx := rfl

@[simp] theorem State.setCarrier_pending (s : State) (x : Carrier) : (s.setCarrier x).pending = s.pending := rfl
@[simp] theorem State.setCarrier_part (s : State) (x : Carrier) : (s.setCarrier x).part = s.part := rfl
@[simp] theorem State.setCarrier_time (s : State) (x : Carrier) : (s.setCarrier x).time = s.time := rfl
@[simp] theorem State.setCarrier_free (s : State) (x : Carrier) : (s.setCarrier x).free = s.free := rfl
@[simp] theorem State.setCarrier_rings (s : State) (x : Carrier) : (s.setCarrier x).rings = s.rings := rfl
@[simp] theorem State.setCarrier_fnEvents (s : State) (x : Carrier) : (s.setCarrier x).fnEvents = s.fnEvents := rfl
@[simp] theorem State.setCarrier_hostMem (s : State) (x : Carrier) : (s.setCarrier x).hostMem = s.hostMem := rfl
@[simp] theorem State.setCarrier_hostFail (s : State) (x : Carrier) : (s.setCarrier x).hostFail = s.hostFail := rfl
@[simp] theorem State.setCarrier_lantern (s : State) (x : Carrier) : (s.setCarrier x).lantern = s.lantern := rfl
@[simp] theorem State.setCarrier_keep (s : State) (x : Carrier) : (s.setCarrier x).keep = s.keep := rfl
@[simp] theorem State.setCarrier_mem (s : State) (x : Carrier) : (s.setCarrier x).mem = s.mem := rfl
@[simp] theorem State.setCarrier_ctxs (s : State) (x : Carrier) : (s.setCarrier x).ctxs = s.ctxs := rfl
@[simp] theorem State.setCarrier_nextCtx (s : State) (x : Carrier) : (s.setCarrier x).nextCtx = s.nextCtx := rfl
@[simp] theorem State.setCarrier_groups (s : State) (x : Carrier) : (s.setCarrier x).groups = s.groups := rfl
@[simp] theorem State.setCarrier_units (s : State) (x : Carrier) : (s.setCarrier x).units = s.units := rfl
@[simp] theorem State.setCarrier_clusters (s : State) (x : Carrier) : (s.setCarrier x).clusters = s.clusters := rfl
@[simp] theorem State.setCarrier_sync (s : State) (x : Carrier) : (s.setCarrier x).sync = s.sync := rfl
@[simp] theorem State.setCarrier_fabric (s : State) (x : Carrier) : (s.setCarrier x).fabric = s.fabric := rfl
@[simp] theorem State.setCarrier_risk (s : State) (x : Carrier) : (s.setCarrier x).risk = s.risk := rfl
@[simp] theorem State.setCarrier_journals (s : State) (x : Carrier) : (s.setCarrier x).journals = s.journals := rfl
@[simp] theorem State.setCarrier_counters (s : State) (x : Carrier) : (s.setCarrier x).counters = s.counters := rfl
@[simp] theorem State.setCarrier_tx (s : State) (x : Carrier) : (s.setCarrier x).tx = s.tx := rfl

@[simp] theorem State.setSync_pending (s : State) (x : SyncSys) : (s.setSync x).pending = s.pending := rfl
@[simp] theorem State.setSync_part (s : State) (x : SyncSys) : (s.setSync x).part = s.part := rfl
@[simp] theorem State.setSync_time (s : State) (x : SyncSys) : (s.setSync x).time = s.time := rfl
@[simp] theorem State.setSync_free (s : State) (x : SyncSys) : (s.setSync x).free = s.free := rfl
@[simp] theorem State.setSync_rings (s : State) (x : SyncSys) : (s.setSync x).rings = s.rings := rfl
@[simp] theorem State.setSync_fnEvents (s : State) (x : SyncSys) : (s.setSync x).fnEvents = s.fnEvents := rfl
@[simp] theorem State.setSync_hostMem (s : State) (x : SyncSys) : (s.setSync x).hostMem = s.hostMem := rfl
@[simp] theorem State.setSync_hostFail (s : State) (x : SyncSys) : (s.setSync x).hostFail = s.hostFail := rfl
@[simp] theorem State.setSync_lantern (s : State) (x : SyncSys) : (s.setSync x).lantern = s.lantern := rfl
@[simp] theorem State.setSync_keep (s : State) (x : SyncSys) : (s.setSync x).keep = s.keep := rfl
@[simp] theorem State.setSync_mem (s : State) (x : SyncSys) : (s.setSync x).mem = s.mem := rfl
@[simp] theorem State.setSync_ctxs (s : State) (x : SyncSys) : (s.setSync x).ctxs = s.ctxs := rfl
@[simp] theorem State.setSync_nextCtx (s : State) (x : SyncSys) : (s.setSync x).nextCtx = s.nextCtx := rfl
@[simp] theorem State.setSync_groups (s : State) (x : SyncSys) : (s.setSync x).groups = s.groups := rfl
@[simp] theorem State.setSync_units (s : State) (x : SyncSys) : (s.setSync x).units = s.units := rfl
@[simp] theorem State.setSync_clusters (s : State) (x : SyncSys) : (s.setSync x).clusters = s.clusters := rfl
@[simp] theorem State.setSync_fabric (s : State) (x : SyncSys) : (s.setSync x).fabric = s.fabric := rfl
@[simp] theorem State.setSync_carrier (s : State) (x : SyncSys) : (s.setSync x).carrier = s.carrier := rfl
@[simp] theorem State.setSync_risk (s : State) (x : SyncSys) : (s.setSync x).risk = s.risk := rfl
@[simp] theorem State.setSync_journals (s : State) (x : SyncSys) : (s.setSync x).journals = s.journals := rfl
@[simp] theorem State.setSync_counters (s : State) (x : SyncSys) : (s.setSync x).counters = s.counters := rfl
@[simp] theorem State.setSync_tx (s : State) (x : SyncSys) : (s.setSync x).tx = s.tx := rfl

@[simp] theorem State.setFabric_pending (s : State) (x : Fabric) : (s.setFabric x).pending = s.pending := rfl
@[simp] theorem State.setFabric_part (s : State) (x : Fabric) : (s.setFabric x).part = s.part := rfl
@[simp] theorem State.setFabric_time (s : State) (x : Fabric) : (s.setFabric x).time = s.time := rfl
@[simp] theorem State.setFabric_free (s : State) (x : Fabric) : (s.setFabric x).free = s.free := rfl
@[simp] theorem State.setFabric_rings (s : State) (x : Fabric) : (s.setFabric x).rings = s.rings := rfl
@[simp] theorem State.setFabric_fnEvents (s : State) (x : Fabric) : (s.setFabric x).fnEvents = s.fnEvents := rfl
@[simp] theorem State.setFabric_hostMem (s : State) (x : Fabric) : (s.setFabric x).hostMem = s.hostMem := rfl
@[simp] theorem State.setFabric_hostFail (s : State) (x : Fabric) : (s.setFabric x).hostFail = s.hostFail := rfl
@[simp] theorem State.setFabric_lantern (s : State) (x : Fabric) : (s.setFabric x).lantern = s.lantern := rfl
@[simp] theorem State.setFabric_keep (s : State) (x : Fabric) : (s.setFabric x).keep = s.keep := rfl
@[simp] theorem State.setFabric_mem (s : State) (x : Fabric) : (s.setFabric x).mem = s.mem := rfl
@[simp] theorem State.setFabric_ctxs (s : State) (x : Fabric) : (s.setFabric x).ctxs = s.ctxs := rfl
@[simp] theorem State.setFabric_nextCtx (s : State) (x : Fabric) : (s.setFabric x).nextCtx = s.nextCtx := rfl
@[simp] theorem State.setFabric_groups (s : State) (x : Fabric) : (s.setFabric x).groups = s.groups := rfl
@[simp] theorem State.setFabric_units (s : State) (x : Fabric) : (s.setFabric x).units = s.units := rfl
@[simp] theorem State.setFabric_clusters (s : State) (x : Fabric) : (s.setFabric x).clusters = s.clusters := rfl
@[simp] theorem State.setFabric_sync (s : State) (x : Fabric) : (s.setFabric x).sync = s.sync := rfl
@[simp] theorem State.setFabric_carrier (s : State) (x : Fabric) : (s.setFabric x).carrier = s.carrier := rfl
@[simp] theorem State.setFabric_risk (s : State) (x : Fabric) : (s.setFabric x).risk = s.risk := rfl
@[simp] theorem State.setFabric_journals (s : State) (x : Fabric) : (s.setFabric x).journals = s.journals := rfl
@[simp] theorem State.setFabric_counters (s : State) (x : Fabric) : (s.setFabric x).counters = s.counters := rfl
@[simp] theorem State.setFabric_tx (s : State) (x : Fabric) : (s.setFabric x).tx = s.tx := rfl

@[simp] theorem State.setMemSys_pending (s : State) (x : MemSys) : (s.setMemSys x).pending = s.pending := rfl
@[simp] theorem State.setMemSys_part (s : State) (x : MemSys) : (s.setMemSys x).part = s.part := rfl
@[simp] theorem State.setMemSys_time (s : State) (x : MemSys) : (s.setMemSys x).time = s.time := rfl
@[simp] theorem State.setMemSys_free (s : State) (x : MemSys) : (s.setMemSys x).free = s.free := rfl
@[simp] theorem State.setMemSys_rings (s : State) (x : MemSys) : (s.setMemSys x).rings = s.rings := rfl
@[simp] theorem State.setMemSys_fnEvents (s : State) (x : MemSys) : (s.setMemSys x).fnEvents = s.fnEvents := rfl
@[simp] theorem State.setMemSys_hostMem (s : State) (x : MemSys) : (s.setMemSys x).hostMem = s.hostMem := rfl
@[simp] theorem State.setMemSys_hostFail (s : State) (x : MemSys) : (s.setMemSys x).hostFail = s.hostFail := rfl
@[simp] theorem State.setMemSys_lantern (s : State) (x : MemSys) : (s.setMemSys x).lantern = s.lantern := rfl
@[simp] theorem State.setMemSys_keep (s : State) (x : MemSys) : (s.setMemSys x).keep = s.keep := rfl
@[simp] theorem State.setMemSys_ctxs (s : State) (x : MemSys) : (s.setMemSys x).ctxs = s.ctxs := rfl
@[simp] theorem State.setMemSys_nextCtx (s : State) (x : MemSys) : (s.setMemSys x).nextCtx = s.nextCtx := rfl
@[simp] theorem State.setMemSys_groups (s : State) (x : MemSys) : (s.setMemSys x).groups = s.groups := rfl
@[simp] theorem State.setMemSys_units (s : State) (x : MemSys) : (s.setMemSys x).units = s.units := rfl
@[simp] theorem State.setMemSys_clusters (s : State) (x : MemSys) : (s.setMemSys x).clusters = s.clusters := rfl
@[simp] theorem State.setMemSys_sync (s : State) (x : MemSys) : (s.setMemSys x).sync = s.sync := rfl
@[simp] theorem State.setMemSys_fabric (s : State) (x : MemSys) : (s.setMemSys x).fabric = s.fabric := rfl
@[simp] theorem State.setMemSys_carrier (s : State) (x : MemSys) : (s.setMemSys x).carrier = s.carrier := rfl
@[simp] theorem State.setMemSys_risk (s : State) (x : MemSys) : (s.setMemSys x).risk = s.risk := rfl
@[simp] theorem State.setMemSys_journals (s : State) (x : MemSys) : (s.setMemSys x).journals = s.journals := rfl
@[simp] theorem State.setMemSys_counters (s : State) (x : MemSys) : (s.setMemSys x).counters = s.counters := rfl
@[simp] theorem State.setMemSys_tx (s : State) (x : MemSys) : (s.setMemSys x).tx = s.tx := rfl

@[simp] theorem State.bump_pending (s : State) (i n : Nat) : (s.bump i n).pending = s.pending := rfl
@[simp] theorem State.bump_part (s : State) (i n : Nat) : (s.bump i n).part = s.part := rfl
@[simp] theorem State.bump_time (s : State) (i n : Nat) : (s.bump i n).time = s.time := rfl
@[simp] theorem State.bump_free (s : State) (i n : Nat) : (s.bump i n).free = s.free := rfl
@[simp] theorem State.bump_rings (s : State) (i n : Nat) : (s.bump i n).rings = s.rings := rfl
@[simp] theorem State.bump_fnEvents (s : State) (i n : Nat) : (s.bump i n).fnEvents = s.fnEvents := rfl
@[simp] theorem State.bump_hostMem (s : State) (i n : Nat) : (s.bump i n).hostMem = s.hostMem := rfl
@[simp] theorem State.bump_hostFail (s : State) (i n : Nat) : (s.bump i n).hostFail = s.hostFail := rfl
@[simp] theorem State.bump_lantern (s : State) (i n : Nat) : (s.bump i n).lantern = s.lantern := rfl
@[simp] theorem State.bump_keep (s : State) (i n : Nat) : (s.bump i n).keep = s.keep := rfl
@[simp] theorem State.bump_mem (s : State) (i n : Nat) : (s.bump i n).mem = s.mem := rfl
@[simp] theorem State.bump_ctxs (s : State) (i n : Nat) : (s.bump i n).ctxs = s.ctxs := rfl
@[simp] theorem State.bump_nextCtx (s : State) (i n : Nat) : (s.bump i n).nextCtx = s.nextCtx := rfl
@[simp] theorem State.bump_groups (s : State) (i n : Nat) : (s.bump i n).groups = s.groups := rfl
@[simp] theorem State.bump_units (s : State) (i n : Nat) : (s.bump i n).units = s.units := rfl
@[simp] theorem State.bump_clusters (s : State) (i n : Nat) : (s.bump i n).clusters = s.clusters := rfl
@[simp] theorem State.bump_sync (s : State) (i n : Nat) : (s.bump i n).sync = s.sync := rfl
@[simp] theorem State.bump_fabric (s : State) (i n : Nat) : (s.bump i n).fabric = s.fabric := rfl
@[simp] theorem State.bump_carrier (s : State) (i n : Nat) : (s.bump i n).carrier = s.carrier := rfl
@[simp] theorem State.bump_risk (s : State) (i n : Nat) : (s.bump i n).risk = s.risk := rfl
@[simp] theorem State.bump_journals (s : State) (i n : Nat) : (s.bump i n).journals = s.journals := rfl
@[simp] theorem State.bump_tx (s : State) (i n : Nat) : (s.bump i n).tx = s.tx := rfl

@[simp] theorem State.tick_pending (s : State) : s.tick.pending = s.pending := rfl
@[simp] theorem State.tick_part (s : State) : s.tick.part = s.part := rfl
@[simp] theorem State.tick_time (s : State) : s.tick.time = s.time := rfl
@[simp] theorem State.tick_rings (s : State) : s.tick.rings = s.rings := rfl
@[simp] theorem State.tick_fnEvents (s : State) : s.tick.fnEvents = s.fnEvents := rfl
@[simp] theorem State.tick_hostMem (s : State) : s.tick.hostMem = s.hostMem := rfl
@[simp] theorem State.tick_hostFail (s : State) : s.tick.hostFail = s.hostFail := rfl
@[simp] theorem State.tick_lantern (s : State) : s.tick.lantern = s.lantern := rfl
@[simp] theorem State.tick_keep (s : State) : s.tick.keep = s.keep := rfl
@[simp] theorem State.tick_mem (s : State) : s.tick.mem = s.mem := rfl
@[simp] theorem State.tick_ctxs (s : State) : s.tick.ctxs = s.ctxs := rfl
@[simp] theorem State.tick_nextCtx (s : State) : s.tick.nextCtx = s.nextCtx := rfl
@[simp] theorem State.tick_groups (s : State) : s.tick.groups = s.groups := rfl
@[simp] theorem State.tick_units (s : State) : s.tick.units = s.units := rfl
@[simp] theorem State.tick_clusters (s : State) : s.tick.clusters = s.clusters := rfl
@[simp] theorem State.tick_sync (s : State) : s.tick.sync = s.sync := rfl
@[simp] theorem State.tick_fabric (s : State) : s.tick.fabric = s.fabric := rfl
@[simp] theorem State.tick_carrier (s : State) : s.tick.carrier = s.carrier := rfl
@[simp] theorem State.tick_risk (s : State) : s.tick.risk = s.risk := rfl
@[simp] theorem State.tick_journals (s : State) : s.tick.journals = s.journals := rfl
@[simp] theorem State.tick_counters (s : State) : s.tick.counters = s.counters := rfl
@[simp] theorem State.tick_tx (s : State) : s.tick.tx = s.tx := rfl

@[simp] theorem State.setMem_bytes (s : State) (b : Sparse Byte) : (s.setMem b).mem.bytes = b := rfl
@[simp] theorem State.setMemSys_mem (s : State) (x : MemSys) : (s.setMemSys x).mem = x := rfl
@[simp] theorem State.setHost_hostMem (s : State) (b : Sparse Byte) : (s.setHost b).hostMem = b := rfl
@[simp] theorem State.setLantern_lantern (s : State) (x : Lantern) : (s.setLantern x).lantern = x := rfl
@[simp] theorem State.setKeep_keep (s : State) (x : Keep) : (s.setKeep x).keep = x := rfl
@[simp] theorem State.setCarrier_carrier (s : State) (x : Carrier) : (s.setCarrier x).carrier = x := rfl
@[simp] theorem State.setSync_sync (s : State) (x : SyncSys) : (s.setSync x).sync = x := rfl
@[simp] theorem State.setFabric_fabric (s : State) (x : Fabric) : (s.setFabric x).fabric = x := rfl
@[simp] theorem State.setStack_bytes (s : State) (n : Nat) (x : Stack) : (s.setStack n x).mem.bytes = s.mem.bytes := rfl
@[simp] theorem State.setPart_svn (s : State) (n : Nat) (x : Partition) : (s.setPart n x).keep.svn = s.keep.svn := rfl

/-! ## A table read after it is written -/

@[simp] theorem State.ring_setRing (s : State) (r : RingId) (x : Ring) : (s.setRing r x).ring r = x := Sparse.get_put_self ..
@[simp] theorem State.fev_setFev (s : State) (n : Nat) (x : FnEvents) : (s.setFev n x).fev n = x := Sparse.get_put_self ..
theorem State.fev_setFev_ne (s : State) {n m : Nat} (x : FnEvents) (h : m ≠ n) : (s.setFev n x).fev m = s.fev m := Sparse.get_put_ne _ _ _ h
@[simp] theorem State.cluster_setCluster (s : State) (n : Nat) (x : Cluster) : (s.setCluster n x).cluster n = x := Sparse.get_put_self ..
theorem State.cluster_setCluster_ne (s : State) {n m : Nat} (x : Cluster) (h : m ≠ n) : (s.setCluster n x).cluster m = s.cluster m := Sparse.get_put_ne _ _ _ h
@[simp] theorem State.unitSt_setUnit (s : State) (n : Nat) (x : UnitSt) : (s.setUnit n x).unitSt n = x := Sparse.get_put_self ..
theorem State.unitSt_setUnit_ne (s : State) {n m : Nat} (x : UnitSt) (h : m ≠ n) : (s.setUnit n x).unitSt m = s.unitSt m := Sparse.get_put_ne _ _ _ h
@[simp] theorem State.link_setLink (s : State) (n : Nat) (x : Link) : (s.setLink n x).link n = x := Sparse.get_put_self ..
theorem State.link_setLink_ne (s : State) {n m : Nat} (x : Link) (h : m ≠ n) : (s.setLink n x).link m = s.link m := Sparse.get_put_ne _ _ _ h
@[simp] theorem State.part_setPart (s : State) (n : Nat) (x : Partition) : (s.setPart n x).part? n = x := Sparse.get_put_self ..
theorem State.part_setPart_ne (s : State) {n m : Nat} (x : Partition) (h : m ≠ n) : (s.setPart n x).part? m = s.part? m := Sparse.get_put_ne _ _ _ h
@[simp] theorem State.stack_setStack (s : State) (n : Nat) (x : Stack) : (s.setStack n x).stack n = x := Sparse.get_put_self ..
theorem State.stack_setStack_ne (s : State) {n m : Nat} (x : Stack) (h : m ≠ n) : (s.setStack n x).stack m = s.stack m := Sparse.get_put_ne _ _ _ h
@[simp] theorem State.ctx_setCtx (s : State) (n : Nat) (x : Ctx) : (s.setCtx n x).ctx? n = some x := Sparse.find?_set_self ..
theorem State.ctx_setCtx_ne (s : State) {n m : Nat} (x : Ctx) (h : m ≠ n) : (s.setCtx n x).ctx? m = s.ctx? m := Sparse.find?_set_ne _ _ h
@[simp] theorem State.ctx_delCtx (s : State) (n : Nat) : (s.delCtx n).ctx? n = none := Sparse.find?_del_self ..
@[simp] theorem State.obj_setObj (s : State) (n : Nat) (x : Obj) : (s.setObj n x).obj? n = some x := Sparse.find?_set_self ..
theorem State.obj_setObj_ne (s : State) {n m : Nat} (x : Obj) (h : m ≠ n) : (s.setObj n x).obj? m = s.obj? m := Sparse.find?_set_ne _ _ h
@[simp] theorem State.group_setGroup (s : State) (g : GroupId) (x : Group) : (s.setGroup g x).group? g = some x := Sparse.find?_set_self ..
theorem State.group_setGroup_ne (s : State) {g h : GroupId} (x : Group) (hk : groupKey h ≠ groupKey g) : (s.setGroup g x).group? h = s.group? h := Sparse.find?_set_ne _ _ hk
@[simp] theorem State.group_freeGroup (s : State) (g : GroupId) : (s.freeGroup g).group? g = none := Sparse.find?_del_self ..
@[simp] theorem State.counter_bump (s : State) (i n : Nat) : (s.bump i n).counter i = s.counter i + n := Sparse.get_put_self ..
theorem State.counter_bump_ne (s : State) {i j : Nat} (n : Nat) (h : j ≠ i) : (s.bump i n).counter j = s.counter j := Sparse.get_put_ne _ _ _ h

/-! ## Tables other than the one written -/

@[simp] theorem State.setRing_fevAt (s : State) (r : RingId) (x : Ring) (q : Nat) : (s.setRing r x).fev q = s.fev q := rfl
@[simp] theorem State.setRing_groupAt (s : State) (r : RingId) (x : Ring) (q : GroupId) : (s.setRing r x).group? q = s.group? q := rfl
@[simp] theorem State.setRing_ctxAt (s : State) (r : RingId) (x : Ring) (q : Nat) : (s.setRing r x).ctx? q = s.ctx? q := rfl
@[simp] theorem State.setRing_clusterAt (s : State) (r : RingId) (x : Ring) (q : Nat) : (s.setRing r x).cluster q = s.cluster q := rfl
@[simp] theorem State.setRing_unitStAt (s : State) (r : RingId) (x : Ring) (q : Nat) : (s.setRing r x).unitSt q = s.unitSt q := rfl
@[simp] theorem State.setRing_linkAt (s : State) (r : RingId) (x : Ring) (q : Nat) : (s.setRing r x).link q = s.link q := rfl
@[simp] theorem State.setRing_partAt (s : State) (r : RingId) (x : Ring) (q : Nat) : (s.setRing r x).part? q = s.part? q := rfl
@[simp] theorem State.setRing_stackAt (s : State) (r : RingId) (x : Ring) (q : Nat) : (s.setRing r x).stack q = s.stack q := rfl
@[simp] theorem State.setRing_objAt (s : State) (r : RingId) (x : Ring) (q : Nat) : (s.setRing r x).obj? q = s.obj? q := rfl
@[simp] theorem State.setRing_counterAt (s : State) (r : RingId) (x : Ring) (q : Nat) : (s.setRing r x).counter q = s.counter q := rfl
@[simp] theorem State.setFev_ringAt (s : State) (n : Nat) (x : FnEvents) (q : RingId) : (s.setFev n x).ring q = s.ring q := rfl
@[simp] theorem State.setFev_groupAt (s : State) (n : Nat) (x : FnEvents) (q : GroupId) : (s.setFev n x).group? q = s.group? q := rfl
@[simp] theorem State.setFev_ctxAt (s : State) (n : Nat) (x : FnEvents) (q : Nat) : (s.setFev n x).ctx? q = s.ctx? q := rfl
@[simp] theorem State.setFev_clusterAt (s : State) (n : Nat) (x : FnEvents) (q : Nat) : (s.setFev n x).cluster q = s.cluster q := rfl
@[simp] theorem State.setFev_unitStAt (s : State) (n : Nat) (x : FnEvents) (q : Nat) : (s.setFev n x).unitSt q = s.unitSt q := rfl
@[simp] theorem State.setFev_linkAt (s : State) (n : Nat) (x : FnEvents) (q : Nat) : (s.setFev n x).link q = s.link q := rfl
@[simp] theorem State.setFev_partAt (s : State) (n : Nat) (x : FnEvents) (q : Nat) : (s.setFev n x).part? q = s.part? q := rfl
@[simp] theorem State.setFev_stackAt (s : State) (n : Nat) (x : FnEvents) (q : Nat) : (s.setFev n x).stack q = s.stack q := rfl
@[simp] theorem State.setFev_objAt (s : State) (n : Nat) (x : FnEvents) (q : Nat) : (s.setFev n x).obj? q = s.obj? q := rfl
@[simp] theorem State.setFev_counterAt (s : State) (n : Nat) (x : FnEvents) (q : Nat) : (s.setFev n x).counter q = s.counter q := rfl
@[simp] theorem State.setGroup_ringAt (s : State) (g : GroupId) (x : Group) (q : RingId) : (s.setGroup g x).ring q = s.ring q := rfl
@[simp] theorem State.setGroup_fevAt (s : State) (g : GroupId) (x : Group) (q : Nat) : (s.setGroup g x).fev q = s.fev q := rfl
@[simp] theorem State.setGroup_ctxAt (s : State) (g : GroupId) (x : Group) (q : Nat) : (s.setGroup g x).ctx? q = s.ctx? q := rfl
@[simp] theorem State.setGroup_clusterAt (s : State) (g : GroupId) (x : Group) (q : Nat) : (s.setGroup g x).cluster q = s.cluster q := rfl
@[simp] theorem State.setGroup_unitStAt (s : State) (g : GroupId) (x : Group) (q : Nat) : (s.setGroup g x).unitSt q = s.unitSt q := rfl
@[simp] theorem State.setGroup_linkAt (s : State) (g : GroupId) (x : Group) (q : Nat) : (s.setGroup g x).link q = s.link q := rfl
@[simp] theorem State.setGroup_partAt (s : State) (g : GroupId) (x : Group) (q : Nat) : (s.setGroup g x).part? q = s.part? q := rfl
@[simp] theorem State.setGroup_stackAt (s : State) (g : GroupId) (x : Group) (q : Nat) : (s.setGroup g x).stack q = s.stack q := rfl
@[simp] theorem State.setGroup_objAt (s : State) (g : GroupId) (x : Group) (q : Nat) : (s.setGroup g x).obj? q = s.obj? q := rfl
@[simp] theorem State.setGroup_counterAt (s : State) (g : GroupId) (x : Group) (q : Nat) : (s.setGroup g x).counter q = s.counter q := rfl
@[simp] theorem State.freeGroup_ringAt (s : State) (g : GroupId) (q : RingId) : (s.freeGroup g).ring q = s.ring q := rfl
@[simp] theorem State.freeGroup_fevAt (s : State) (g : GroupId) (q : Nat) : (s.freeGroup g).fev q = s.fev q := rfl
@[simp] theorem State.freeGroup_ctxAt (s : State) (g : GroupId) (q : Nat) : (s.freeGroup g).ctx? q = s.ctx? q := rfl
@[simp] theorem State.freeGroup_clusterAt (s : State) (g : GroupId) (q : Nat) : (s.freeGroup g).cluster q = s.cluster q := rfl
@[simp] theorem State.freeGroup_unitStAt (s : State) (g : GroupId) (q : Nat) : (s.freeGroup g).unitSt q = s.unitSt q := rfl
@[simp] theorem State.freeGroup_linkAt (s : State) (g : GroupId) (q : Nat) : (s.freeGroup g).link q = s.link q := rfl
@[simp] theorem State.freeGroup_partAt (s : State) (g : GroupId) (q : Nat) : (s.freeGroup g).part? q = s.part? q := rfl
@[simp] theorem State.freeGroup_stackAt (s : State) (g : GroupId) (q : Nat) : (s.freeGroup g).stack q = s.stack q := rfl
@[simp] theorem State.freeGroup_objAt (s : State) (g : GroupId) (q : Nat) : (s.freeGroup g).obj? q = s.obj? q := rfl
@[simp] theorem State.freeGroup_counterAt (s : State) (g : GroupId) (q : Nat) : (s.freeGroup g).counter q = s.counter q := rfl
@[simp] theorem State.setCtx_ringAt (s : State) (n : Nat) (x : Ctx) (q : RingId) : (s.setCtx n x).ring q = s.ring q := rfl
@[simp] theorem State.setCtx_fevAt (s : State) (n : Nat) (x : Ctx) (q : Nat) : (s.setCtx n x).fev q = s.fev q := rfl
@[simp] theorem State.setCtx_groupAt (s : State) (n : Nat) (x : Ctx) (q : GroupId) : (s.setCtx n x).group? q = s.group? q := rfl
@[simp] theorem State.setCtx_clusterAt (s : State) (n : Nat) (x : Ctx) (q : Nat) : (s.setCtx n x).cluster q = s.cluster q := rfl
@[simp] theorem State.setCtx_unitStAt (s : State) (n : Nat) (x : Ctx) (q : Nat) : (s.setCtx n x).unitSt q = s.unitSt q := rfl
@[simp] theorem State.setCtx_linkAt (s : State) (n : Nat) (x : Ctx) (q : Nat) : (s.setCtx n x).link q = s.link q := rfl
@[simp] theorem State.setCtx_partAt (s : State) (n : Nat) (x : Ctx) (q : Nat) : (s.setCtx n x).part? q = s.part? q := rfl
@[simp] theorem State.setCtx_stackAt (s : State) (n : Nat) (x : Ctx) (q : Nat) : (s.setCtx n x).stack q = s.stack q := rfl
@[simp] theorem State.setCtx_objAt (s : State) (n : Nat) (x : Ctx) (q : Nat) : (s.setCtx n x).obj? q = s.obj? q := rfl
@[simp] theorem State.setCtx_counterAt (s : State) (n : Nat) (x : Ctx) (q : Nat) : (s.setCtx n x).counter q = s.counter q := rfl
@[simp] theorem State.delCtx_ringAt (s : State) (n : Nat) (q : RingId) : (s.delCtx n).ring q = s.ring q := rfl
@[simp] theorem State.delCtx_fevAt (s : State) (n : Nat) (q : Nat) : (s.delCtx n).fev q = s.fev q := rfl
@[simp] theorem State.delCtx_groupAt (s : State) (n : Nat) (q : GroupId) : (s.delCtx n).group? q = s.group? q := rfl
@[simp] theorem State.delCtx_clusterAt (s : State) (n : Nat) (q : Nat) : (s.delCtx n).cluster q = s.cluster q := rfl
@[simp] theorem State.delCtx_unitStAt (s : State) (n : Nat) (q : Nat) : (s.delCtx n).unitSt q = s.unitSt q := rfl
@[simp] theorem State.delCtx_linkAt (s : State) (n : Nat) (q : Nat) : (s.delCtx n).link q = s.link q := rfl
@[simp] theorem State.delCtx_partAt (s : State) (n : Nat) (q : Nat) : (s.delCtx n).part? q = s.part? q := rfl
@[simp] theorem State.delCtx_stackAt (s : State) (n : Nat) (q : Nat) : (s.delCtx n).stack q = s.stack q := rfl
@[simp] theorem State.delCtx_objAt (s : State) (n : Nat) (q : Nat) : (s.delCtx n).obj? q = s.obj? q := rfl
@[simp] theorem State.delCtx_counterAt (s : State) (n : Nat) (q : Nat) : (s.delCtx n).counter q = s.counter q := rfl
@[simp] theorem State.setCluster_ringAt (s : State) (n : Nat) (x : Cluster) (q : RingId) : (s.setCluster n x).ring q = s.ring q := rfl
@[simp] theorem State.setCluster_fevAt (s : State) (n : Nat) (x : Cluster) (q : Nat) : (s.setCluster n x).fev q = s.fev q := rfl
@[simp] theorem State.setCluster_groupAt (s : State) (n : Nat) (x : Cluster) (q : GroupId) : (s.setCluster n x).group? q = s.group? q := rfl
@[simp] theorem State.setCluster_ctxAt (s : State) (n : Nat) (x : Cluster) (q : Nat) : (s.setCluster n x).ctx? q = s.ctx? q := rfl
@[simp] theorem State.setCluster_unitStAt (s : State) (n : Nat) (x : Cluster) (q : Nat) : (s.setCluster n x).unitSt q = s.unitSt q := rfl
@[simp] theorem State.setCluster_linkAt (s : State) (n : Nat) (x : Cluster) (q : Nat) : (s.setCluster n x).link q = s.link q := rfl
@[simp] theorem State.setCluster_partAt (s : State) (n : Nat) (x : Cluster) (q : Nat) : (s.setCluster n x).part? q = s.part? q := rfl
@[simp] theorem State.setCluster_stackAt (s : State) (n : Nat) (x : Cluster) (q : Nat) : (s.setCluster n x).stack q = s.stack q := rfl
@[simp] theorem State.setCluster_objAt (s : State) (n : Nat) (x : Cluster) (q : Nat) : (s.setCluster n x).obj? q = s.obj? q := rfl
@[simp] theorem State.setCluster_counterAt (s : State) (n : Nat) (x : Cluster) (q : Nat) : (s.setCluster n x).counter q = s.counter q := rfl
@[simp] theorem State.setUnit_ringAt (s : State) (n : Nat) (x : UnitSt) (q : RingId) : (s.setUnit n x).ring q = s.ring q := rfl
@[simp] theorem State.setUnit_fevAt (s : State) (n : Nat) (x : UnitSt) (q : Nat) : (s.setUnit n x).fev q = s.fev q := rfl
@[simp] theorem State.setUnit_groupAt (s : State) (n : Nat) (x : UnitSt) (q : GroupId) : (s.setUnit n x).group? q = s.group? q := rfl
@[simp] theorem State.setUnit_ctxAt (s : State) (n : Nat) (x : UnitSt) (q : Nat) : (s.setUnit n x).ctx? q = s.ctx? q := rfl
@[simp] theorem State.setUnit_clusterAt (s : State) (n : Nat) (x : UnitSt) (q : Nat) : (s.setUnit n x).cluster q = s.cluster q := rfl
@[simp] theorem State.setUnit_linkAt (s : State) (n : Nat) (x : UnitSt) (q : Nat) : (s.setUnit n x).link q = s.link q := rfl
@[simp] theorem State.setUnit_partAt (s : State) (n : Nat) (x : UnitSt) (q : Nat) : (s.setUnit n x).part? q = s.part? q := rfl
@[simp] theorem State.setUnit_stackAt (s : State) (n : Nat) (x : UnitSt) (q : Nat) : (s.setUnit n x).stack q = s.stack q := rfl
@[simp] theorem State.setUnit_objAt (s : State) (n : Nat) (x : UnitSt) (q : Nat) : (s.setUnit n x).obj? q = s.obj? q := rfl
@[simp] theorem State.setUnit_counterAt (s : State) (n : Nat) (x : UnitSt) (q : Nat) : (s.setUnit n x).counter q = s.counter q := rfl
@[simp] theorem State.setLink_ringAt (s : State) (n : Nat) (x : Link) (q : RingId) : (s.setLink n x).ring q = s.ring q := rfl
@[simp] theorem State.setLink_fevAt (s : State) (n : Nat) (x : Link) (q : Nat) : (s.setLink n x).fev q = s.fev q := rfl
@[simp] theorem State.setLink_groupAt (s : State) (n : Nat) (x : Link) (q : GroupId) : (s.setLink n x).group? q = s.group? q := rfl
@[simp] theorem State.setLink_ctxAt (s : State) (n : Nat) (x : Link) (q : Nat) : (s.setLink n x).ctx? q = s.ctx? q := rfl
@[simp] theorem State.setLink_clusterAt (s : State) (n : Nat) (x : Link) (q : Nat) : (s.setLink n x).cluster q = s.cluster q := rfl
@[simp] theorem State.setLink_unitStAt (s : State) (n : Nat) (x : Link) (q : Nat) : (s.setLink n x).unitSt q = s.unitSt q := rfl
@[simp] theorem State.setLink_partAt (s : State) (n : Nat) (x : Link) (q : Nat) : (s.setLink n x).part? q = s.part? q := rfl
@[simp] theorem State.setLink_stackAt (s : State) (n : Nat) (x : Link) (q : Nat) : (s.setLink n x).stack q = s.stack q := rfl
@[simp] theorem State.setLink_objAt (s : State) (n : Nat) (x : Link) (q : Nat) : (s.setLink n x).obj? q = s.obj? q := rfl
@[simp] theorem State.setLink_counterAt (s : State) (n : Nat) (x : Link) (q : Nat) : (s.setLink n x).counter q = s.counter q := rfl
@[simp] theorem State.setPart_ringAt (s : State) (n : Nat) (x : Partition) (q : RingId) : (s.setPart n x).ring q = s.ring q := rfl
@[simp] theorem State.setPart_fevAt (s : State) (n : Nat) (x : Partition) (q : Nat) : (s.setPart n x).fev q = s.fev q := rfl
@[simp] theorem State.setPart_groupAt (s : State) (n : Nat) (x : Partition) (q : GroupId) : (s.setPart n x).group? q = s.group? q := rfl
@[simp] theorem State.setPart_ctxAt (s : State) (n : Nat) (x : Partition) (q : Nat) : (s.setPart n x).ctx? q = s.ctx? q := rfl
@[simp] theorem State.setPart_clusterAt (s : State) (n : Nat) (x : Partition) (q : Nat) : (s.setPart n x).cluster q = s.cluster q := rfl
@[simp] theorem State.setPart_unitStAt (s : State) (n : Nat) (x : Partition) (q : Nat) : (s.setPart n x).unitSt q = s.unitSt q := rfl
@[simp] theorem State.setPart_linkAt (s : State) (n : Nat) (x : Partition) (q : Nat) : (s.setPart n x).link q = s.link q := rfl
@[simp] theorem State.setPart_stackAt (s : State) (n : Nat) (x : Partition) (q : Nat) : (s.setPart n x).stack q = s.stack q := rfl
@[simp] theorem State.setPart_objAt (s : State) (n : Nat) (x : Partition) (q : Nat) : (s.setPart n x).obj? q = s.obj? q := rfl
@[simp] theorem State.setPart_counterAt (s : State) (n : Nat) (x : Partition) (q : Nat) : (s.setPart n x).counter q = s.counter q := rfl
@[simp] theorem State.setStack_ringAt (s : State) (n : Nat) (x : Stack) (q : RingId) : (s.setStack n x).ring q = s.ring q := rfl
@[simp] theorem State.setStack_fevAt (s : State) (n : Nat) (x : Stack) (q : Nat) : (s.setStack n x).fev q = s.fev q := rfl
@[simp] theorem State.setStack_groupAt (s : State) (n : Nat) (x : Stack) (q : GroupId) : (s.setStack n x).group? q = s.group? q := rfl
@[simp] theorem State.setStack_ctxAt (s : State) (n : Nat) (x : Stack) (q : Nat) : (s.setStack n x).ctx? q = s.ctx? q := rfl
@[simp] theorem State.setStack_clusterAt (s : State) (n : Nat) (x : Stack) (q : Nat) : (s.setStack n x).cluster q = s.cluster q := rfl
@[simp] theorem State.setStack_unitStAt (s : State) (n : Nat) (x : Stack) (q : Nat) : (s.setStack n x).unitSt q = s.unitSt q := rfl
@[simp] theorem State.setStack_linkAt (s : State) (n : Nat) (x : Stack) (q : Nat) : (s.setStack n x).link q = s.link q := rfl
@[simp] theorem State.setStack_partAt (s : State) (n : Nat) (x : Stack) (q : Nat) : (s.setStack n x).part? q = s.part? q := rfl
@[simp] theorem State.setStack_objAt (s : State) (n : Nat) (x : Stack) (q : Nat) : (s.setStack n x).obj? q = s.obj? q := rfl
@[simp] theorem State.setStack_counterAt (s : State) (n : Nat) (x : Stack) (q : Nat) : (s.setStack n x).counter q = s.counter q := rfl
@[simp] theorem State.setObj_ringAt (s : State) (n : Nat) (x : Obj) (q : RingId) : (s.setObj n x).ring q = s.ring q := rfl
@[simp] theorem State.setObj_fevAt (s : State) (n : Nat) (x : Obj) (q : Nat) : (s.setObj n x).fev q = s.fev q := rfl
@[simp] theorem State.setObj_groupAt (s : State) (n : Nat) (x : Obj) (q : GroupId) : (s.setObj n x).group? q = s.group? q := rfl
@[simp] theorem State.setObj_ctxAt (s : State) (n : Nat) (x : Obj) (q : Nat) : (s.setObj n x).ctx? q = s.ctx? q := rfl
@[simp] theorem State.setObj_clusterAt (s : State) (n : Nat) (x : Obj) (q : Nat) : (s.setObj n x).cluster q = s.cluster q := rfl
@[simp] theorem State.setObj_unitStAt (s : State) (n : Nat) (x : Obj) (q : Nat) : (s.setObj n x).unitSt q = s.unitSt q := rfl
@[simp] theorem State.setObj_linkAt (s : State) (n : Nat) (x : Obj) (q : Nat) : (s.setObj n x).link q = s.link q := rfl
@[simp] theorem State.setObj_partAt (s : State) (n : Nat) (x : Obj) (q : Nat) : (s.setObj n x).part? q = s.part? q := rfl
@[simp] theorem State.setObj_stackAt (s : State) (n : Nat) (x : Obj) (q : Nat) : (s.setObj n x).stack q = s.stack q := rfl
@[simp] theorem State.setObj_counterAt (s : State) (n : Nat) (x : Obj) (q : Nat) : (s.setObj n x).counter q = s.counter q := rfl
@[simp] theorem State.setMem_ringAt (s : State) (b : Sparse Byte) (q : RingId) : (s.setMem b).ring q = s.ring q := rfl
@[simp] theorem State.setMem_fevAt (s : State) (b : Sparse Byte) (q : Nat) : (s.setMem b).fev q = s.fev q := rfl
@[simp] theorem State.setMem_groupAt (s : State) (b : Sparse Byte) (q : GroupId) : (s.setMem b).group? q = s.group? q := rfl
@[simp] theorem State.setMem_ctxAt (s : State) (b : Sparse Byte) (q : Nat) : (s.setMem b).ctx? q = s.ctx? q := rfl
@[simp] theorem State.setMem_clusterAt (s : State) (b : Sparse Byte) (q : Nat) : (s.setMem b).cluster q = s.cluster q := rfl
@[simp] theorem State.setMem_unitStAt (s : State) (b : Sparse Byte) (q : Nat) : (s.setMem b).unitSt q = s.unitSt q := rfl
@[simp] theorem State.setMem_linkAt (s : State) (b : Sparse Byte) (q : Nat) : (s.setMem b).link q = s.link q := rfl
@[simp] theorem State.setMem_partAt (s : State) (b : Sparse Byte) (q : Nat) : (s.setMem b).part? q = s.part? q := rfl
@[simp] theorem State.setMem_objAt (s : State) (b : Sparse Byte) (q : Nat) : (s.setMem b).obj? q = s.obj? q := rfl
@[simp] theorem State.setMem_counterAt (s : State) (b : Sparse Byte) (q : Nat) : (s.setMem b).counter q = s.counter q := rfl
@[simp] theorem State.setHost_ringAt (s : State) (b : Sparse Byte) (q : RingId) : (s.setHost b).ring q = s.ring q := rfl
@[simp] theorem State.setHost_fevAt (s : State) (b : Sparse Byte) (q : Nat) : (s.setHost b).fev q = s.fev q := rfl
@[simp] theorem State.setHost_groupAt (s : State) (b : Sparse Byte) (q : GroupId) : (s.setHost b).group? q = s.group? q := rfl
@[simp] theorem State.setHost_ctxAt (s : State) (b : Sparse Byte) (q : Nat) : (s.setHost b).ctx? q = s.ctx? q := rfl
@[simp] theorem State.setHost_clusterAt (s : State) (b : Sparse Byte) (q : Nat) : (s.setHost b).cluster q = s.cluster q := rfl
@[simp] theorem State.setHost_unitStAt (s : State) (b : Sparse Byte) (q : Nat) : (s.setHost b).unitSt q = s.unitSt q := rfl
@[simp] theorem State.setHost_linkAt (s : State) (b : Sparse Byte) (q : Nat) : (s.setHost b).link q = s.link q := rfl
@[simp] theorem State.setHost_partAt (s : State) (b : Sparse Byte) (q : Nat) : (s.setHost b).part? q = s.part? q := rfl
@[simp] theorem State.setHost_stackAt (s : State) (b : Sparse Byte) (q : Nat) : (s.setHost b).stack q = s.stack q := rfl
@[simp] theorem State.setHost_objAt (s : State) (b : Sparse Byte) (q : Nat) : (s.setHost b).obj? q = s.obj? q := rfl
@[simp] theorem State.setHost_counterAt (s : State) (b : Sparse Byte) (q : Nat) : (s.setHost b).counter q = s.counter q := rfl
@[simp] theorem State.setLantern_ringAt (s : State) (x : Lantern) (q : RingId) : (s.setLantern x).ring q = s.ring q := rfl
@[simp] theorem State.setLantern_fevAt (s : State) (x : Lantern) (q : Nat) : (s.setLantern x).fev q = s.fev q := rfl
@[simp] theorem State.setLantern_groupAt (s : State) (x : Lantern) (q : GroupId) : (s.setLantern x).group? q = s.group? q := rfl
@[simp] theorem State.setLantern_ctxAt (s : State) (x : Lantern) (q : Nat) : (s.setLantern x).ctx? q = s.ctx? q := rfl
@[simp] theorem State.setLantern_clusterAt (s : State) (x : Lantern) (q : Nat) : (s.setLantern x).cluster q = s.cluster q := rfl
@[simp] theorem State.setLantern_unitStAt (s : State) (x : Lantern) (q : Nat) : (s.setLantern x).unitSt q = s.unitSt q := rfl
@[simp] theorem State.setLantern_linkAt (s : State) (x : Lantern) (q : Nat) : (s.setLantern x).link q = s.link q := rfl
@[simp] theorem State.setLantern_partAt (s : State) (x : Lantern) (q : Nat) : (s.setLantern x).part? q = s.part? q := rfl
@[simp] theorem State.setLantern_stackAt (s : State) (x : Lantern) (q : Nat) : (s.setLantern x).stack q = s.stack q := rfl
@[simp] theorem State.setLantern_objAt (s : State) (x : Lantern) (q : Nat) : (s.setLantern x).obj? q = s.obj? q := rfl
@[simp] theorem State.setLantern_counterAt (s : State) (x : Lantern) (q : Nat) : (s.setLantern x).counter q = s.counter q := rfl
@[simp] theorem State.setKeep_ringAt (s : State) (x : Keep) (q : RingId) : (s.setKeep x).ring q = s.ring q := rfl
@[simp] theorem State.setKeep_fevAt (s : State) (x : Keep) (q : Nat) : (s.setKeep x).fev q = s.fev q := rfl
@[simp] theorem State.setKeep_groupAt (s : State) (x : Keep) (q : GroupId) : (s.setKeep x).group? q = s.group? q := rfl
@[simp] theorem State.setKeep_ctxAt (s : State) (x : Keep) (q : Nat) : (s.setKeep x).ctx? q = s.ctx? q := rfl
@[simp] theorem State.setKeep_clusterAt (s : State) (x : Keep) (q : Nat) : (s.setKeep x).cluster q = s.cluster q := rfl
@[simp] theorem State.setKeep_unitStAt (s : State) (x : Keep) (q : Nat) : (s.setKeep x).unitSt q = s.unitSt q := rfl
@[simp] theorem State.setKeep_linkAt (s : State) (x : Keep) (q : Nat) : (s.setKeep x).link q = s.link q := rfl
@[simp] theorem State.setKeep_stackAt (s : State) (x : Keep) (q : Nat) : (s.setKeep x).stack q = s.stack q := rfl
@[simp] theorem State.setKeep_objAt (s : State) (x : Keep) (q : Nat) : (s.setKeep x).obj? q = s.obj? q := rfl
@[simp] theorem State.setKeep_counterAt (s : State) (x : Keep) (q : Nat) : (s.setKeep x).counter q = s.counter q := rfl
@[simp] theorem State.setCarrier_ringAt (s : State) (x : Carrier) (q : RingId) : (s.setCarrier x).ring q = s.ring q := rfl
@[simp] theorem State.setCarrier_fevAt (s : State) (x : Carrier) (q : Nat) : (s.setCarrier x).fev q = s.fev q := rfl
@[simp] theorem State.setCarrier_groupAt (s : State) (x : Carrier) (q : GroupId) : (s.setCarrier x).group? q = s.group? q := rfl
@[simp] theorem State.setCarrier_ctxAt (s : State) (x : Carrier) (q : Nat) : (s.setCarrier x).ctx? q = s.ctx? q := rfl
@[simp] theorem State.setCarrier_clusterAt (s : State) (x : Carrier) (q : Nat) : (s.setCarrier x).cluster q = s.cluster q := rfl
@[simp] theorem State.setCarrier_unitStAt (s : State) (x : Carrier) (q : Nat) : (s.setCarrier x).unitSt q = s.unitSt q := rfl
@[simp] theorem State.setCarrier_linkAt (s : State) (x : Carrier) (q : Nat) : (s.setCarrier x).link q = s.link q := rfl
@[simp] theorem State.setCarrier_partAt (s : State) (x : Carrier) (q : Nat) : (s.setCarrier x).part? q = s.part? q := rfl
@[simp] theorem State.setCarrier_stackAt (s : State) (x : Carrier) (q : Nat) : (s.setCarrier x).stack q = s.stack q := rfl
@[simp] theorem State.setCarrier_objAt (s : State) (x : Carrier) (q : Nat) : (s.setCarrier x).obj? q = s.obj? q := rfl
@[simp] theorem State.setCarrier_counterAt (s : State) (x : Carrier) (q : Nat) : (s.setCarrier x).counter q = s.counter q := rfl
@[simp] theorem State.setSync_ringAt (s : State) (x : SyncSys) (q : RingId) : (s.setSync x).ring q = s.ring q := rfl
@[simp] theorem State.setSync_fevAt (s : State) (x : SyncSys) (q : Nat) : (s.setSync x).fev q = s.fev q := rfl
@[simp] theorem State.setSync_groupAt (s : State) (x : SyncSys) (q : GroupId) : (s.setSync x).group? q = s.group? q := rfl
@[simp] theorem State.setSync_ctxAt (s : State) (x : SyncSys) (q : Nat) : (s.setSync x).ctx? q = s.ctx? q := rfl
@[simp] theorem State.setSync_clusterAt (s : State) (x : SyncSys) (q : Nat) : (s.setSync x).cluster q = s.cluster q := rfl
@[simp] theorem State.setSync_unitStAt (s : State) (x : SyncSys) (q : Nat) : (s.setSync x).unitSt q = s.unitSt q := rfl
@[simp] theorem State.setSync_linkAt (s : State) (x : SyncSys) (q : Nat) : (s.setSync x).link q = s.link q := rfl
@[simp] theorem State.setSync_partAt (s : State) (x : SyncSys) (q : Nat) : (s.setSync x).part? q = s.part? q := rfl
@[simp] theorem State.setSync_stackAt (s : State) (x : SyncSys) (q : Nat) : (s.setSync x).stack q = s.stack q := rfl
@[simp] theorem State.setSync_counterAt (s : State) (x : SyncSys) (q : Nat) : (s.setSync x).counter q = s.counter q := rfl
@[simp] theorem State.setFabric_ringAt (s : State) (x : Fabric) (q : RingId) : (s.setFabric x).ring q = s.ring q := rfl
@[simp] theorem State.setFabric_fevAt (s : State) (x : Fabric) (q : Nat) : (s.setFabric x).fev q = s.fev q := rfl
@[simp] theorem State.setFabric_groupAt (s : State) (x : Fabric) (q : GroupId) : (s.setFabric x).group? q = s.group? q := rfl
@[simp] theorem State.setFabric_ctxAt (s : State) (x : Fabric) (q : Nat) : (s.setFabric x).ctx? q = s.ctx? q := rfl
@[simp] theorem State.setFabric_clusterAt (s : State) (x : Fabric) (q : Nat) : (s.setFabric x).cluster q = s.cluster q := rfl
@[simp] theorem State.setFabric_unitStAt (s : State) (x : Fabric) (q : Nat) : (s.setFabric x).unitSt q = s.unitSt q := rfl
@[simp] theorem State.setFabric_partAt (s : State) (x : Fabric) (q : Nat) : (s.setFabric x).part? q = s.part? q := rfl
@[simp] theorem State.setFabric_stackAt (s : State) (x : Fabric) (q : Nat) : (s.setFabric x).stack q = s.stack q := rfl
@[simp] theorem State.setFabric_objAt (s : State) (x : Fabric) (q : Nat) : (s.setFabric x).obj? q = s.obj? q := rfl
@[simp] theorem State.setFabric_counterAt (s : State) (x : Fabric) (q : Nat) : (s.setFabric x).counter q = s.counter q := rfl
@[simp] theorem State.setMemSys_ringAt (s : State) (x : MemSys) (q : RingId) : (s.setMemSys x).ring q = s.ring q := rfl
@[simp] theorem State.setMemSys_fevAt (s : State) (x : MemSys) (q : Nat) : (s.setMemSys x).fev q = s.fev q := rfl
@[simp] theorem State.setMemSys_groupAt (s : State) (x : MemSys) (q : GroupId) : (s.setMemSys x).group? q = s.group? q := rfl
@[simp] theorem State.setMemSys_ctxAt (s : State) (x : MemSys) (q : Nat) : (s.setMemSys x).ctx? q = s.ctx? q := rfl
@[simp] theorem State.setMemSys_clusterAt (s : State) (x : MemSys) (q : Nat) : (s.setMemSys x).cluster q = s.cluster q := rfl
@[simp] theorem State.setMemSys_unitStAt (s : State) (x : MemSys) (q : Nat) : (s.setMemSys x).unitSt q = s.unitSt q := rfl
@[simp] theorem State.setMemSys_linkAt (s : State) (x : MemSys) (q : Nat) : (s.setMemSys x).link q = s.link q := rfl
@[simp] theorem State.setMemSys_partAt (s : State) (x : MemSys) (q : Nat) : (s.setMemSys x).part? q = s.part? q := rfl
@[simp] theorem State.setMemSys_objAt (s : State) (x : MemSys) (q : Nat) : (s.setMemSys x).obj? q = s.obj? q := rfl
@[simp] theorem State.setMemSys_counterAt (s : State) (x : MemSys) (q : Nat) : (s.setMemSys x).counter q = s.counter q := rfl
@[simp] theorem State.bump_ringAt (s : State) (i n : Nat) (q : RingId) : (s.bump i n).ring q = s.ring q := rfl
@[simp] theorem State.bump_fevAt (s : State) (i n : Nat) (q : Nat) : (s.bump i n).fev q = s.fev q := rfl
@[simp] theorem State.bump_groupAt (s : State) (i n : Nat) (q : GroupId) : (s.bump i n).group? q = s.group? q := rfl
@[simp] theorem State.bump_ctxAt (s : State) (i n : Nat) (q : Nat) : (s.bump i n).ctx? q = s.ctx? q := rfl
@[simp] theorem State.bump_clusterAt (s : State) (i n : Nat) (q : Nat) : (s.bump i n).cluster q = s.cluster q := rfl
@[simp] theorem State.bump_unitStAt (s : State) (i n : Nat) (q : Nat) : (s.bump i n).unitSt q = s.unitSt q := rfl
@[simp] theorem State.bump_linkAt (s : State) (i n : Nat) (q : Nat) : (s.bump i n).link q = s.link q := rfl
@[simp] theorem State.bump_partAt (s : State) (i n : Nat) (q : Nat) : (s.bump i n).part? q = s.part? q := rfl
@[simp] theorem State.bump_stackAt (s : State) (i n : Nat) (q : Nat) : (s.bump i n).stack q = s.stack q := rfl
@[simp] theorem State.bump_objAt (s : State) (i n : Nat) (q : Nat) : (s.bump i n).obj? q = s.obj? q := rfl
@[simp] theorem State.tick_ringAt (s : State) (q : RingId) : s.tick.ring q = s.ring q := rfl
@[simp] theorem State.tick_fevAt (s : State) (q : Nat) : s.tick.fev q = s.fev q := rfl
@[simp] theorem State.tick_groupAt (s : State) (q : GroupId) : s.tick.group? q = s.group? q := rfl
@[simp] theorem State.tick_ctxAt (s : State) (q : Nat) : s.tick.ctx? q = s.ctx? q := rfl
@[simp] theorem State.tick_clusterAt (s : State) (q : Nat) : s.tick.cluster q = s.cluster q := rfl
@[simp] theorem State.tick_unitStAt (s : State) (q : Nat) : s.tick.unitSt q = s.unitSt q := rfl
@[simp] theorem State.tick_linkAt (s : State) (q : Nat) : s.tick.link q = s.link q := rfl
@[simp] theorem State.tick_partAt (s : State) (q : Nat) : s.tick.part? q = s.part? q := rfl
@[simp] theorem State.tick_stackAt (s : State) (q : Nat) : s.tick.stack q = s.stack q := rfl
@[simp] theorem State.tick_objAt (s : State) (q : Nat) : s.tick.obj? q = s.obj? q := rfl
@[simp] theorem State.tick_counterAt (s : State) (q : Nat) : s.tick.counter q = s.counter q := rfl

end Sys2Proof.Machine
end

