-- ==== Sys2Proof/Laws/Issue.lean ====
section
/-! SUPPORT. What the row of a Virdy instruction comes to when the group issues it and it meets no trap. -/

namespace Sys2Proof.Machine

open Sys2Proof

variable {m : Mn} {s : State} {g : GroupId} {e : Env}

theorem issues_here (h : Issues m s g e) : e.g = g := by
  have h := h.stands
  unfold nextEnv at h
  split at h
  · simp at h
  · split at h
    · simp only [Option.some.injEq] at h; rw [← h]
    · simp at h

/-- An instruction that is not of the engines is performed. -/
theorem attempt_issues (h : Issues m s g e) (hm : m ≠ .reserved) (ha : actsOf e.i ≠ .collective) : attempt e s = perform e s := by
  obtain ⟨_, _, _, hn, hu, he, hb, _, _⟩ := h
  unfold attempt
  rw [hn]
  have hmr : (m != Mn.reserved) = true := by simpa using hm
  have hent : (takesEntry m e.i && !entryFree e.gr e.c) = false := by
    cases ht : takesEntry m e.i
    · rfl
    · simp [he ht]
  simp only [hmr, hu, hent, Bool.or_self, Bool.and_false, Bool.false_eq_true, if_false]
  have hbp : (if e.gr.skipBp = true then none else Env.bpHit s e) = none := by
    rcases hb with hb | hb
    · simp [hb]
    · simp [hb]
  rw [hbp]
  simp [hm, ha]

theorem perform_issues (h : Issues m s g e) (hk : checkOf m e s = none) : perform e s = runOf m e s := by
  obtain ⟨_, _, _, hn, _, _, _, hact, hp⟩ := h
  unfold perform
  rw [if_neg hact, hn, hk, hp]

/-- The row of an instruction that meets no trap settles what the instruction does. -/
theorem issue_runs (h : Issues m s g e) (hm : m ≠ .reserved) (ha : actsOf e.i ≠ .collective) (hk : checkOf m e s = none) :
    issue m g s = settleRes e s (runOf m e s) := by
  have h1 := attempt_issues h hm ha
  have h2 := perform_issues h hk
  obtain ⟨hst, hact, hfl, hn, _, _, _, _, _⟩ := h
  unfold issue
  rw [hst]
  simp only [hact, hfl, hn, and_self, if_true, h1, h2]

/-- An instruction that finishes commits: its threads continue at the next one. -/
theorem issue_done {t : State} (h : Issues m s g e) (hm : m ≠ .reserved) (ha : actsOf e.i ≠ .collective) (hk : checkOf m e s = none)
    (hr : runOf m e s = .done t) : issue m g s = advance e (afterIssue t g) := by
  rw [issue_runs h hm ha hk, hr, settleRes, issues_here h]

/-- An instruction that sets the program counters itself. -/
theorem issue_jumped {t : State} (h : Issues m s g e) (hm : m ≠ .reserved) (ha : actsOf e.i ≠ .collective) (hk : checkOf m e s = none)
    (hr : runOf m e s = .jumped t) : issue m g s = afterIssue t g := by
  rw [issue_runs h hm ha hk, hr, settleRes, issues_here h]

/-- An instruction that parks or stalls its threads. -/
theorem issue_parked {t : State} (h : Issues m s g e) (hm : m ≠ .reserved) (ha : actsOf e.i ≠ .collective) (hk : checkOf m e s = none)
    (hr : runOf m e s = .parked t) : issue m g s = afterIssue t g := by
  rw [issue_runs h hm ha hk, hr, settleRes, issues_here h]

/-- An instruction that meets one of its own trap conditions traps, with none of its effect. -/
theorem issue_traps {x : Trap} (h : Issues m s g e) (hm : m ≠ .reserved) (ha : actsOf e.i ≠ .collective) (hk : checkOf m e s = some x) :
    issue m g s = takeTrap s g x := by
  have h1 := attempt_issues h hm ha
  have hh := issues_here h
  obtain ⟨hst, hact, hfl, hn, _, _, _, hac, _⟩ := h
  unfold issue
  rw [hst]
  simp only [hact, hfl, hn, and_self, if_true, h1]
  unfold perform
  rw [if_neg hac, hn, hk]
  simp only [settleRes, hh]

/-! ## Instructions of one subset -/

theorem cls_collective {i : Insn} (h : actsOf i = .collective) : i.cls = 7 ∨ i.cls = 8 := by
  unfold actsOf at h
  repeat' split at h
  all_goals first
    | contradiction
    | (left; assumption)
    | (right; assumption)

theorem form_collective {i : Insn} {f : Form} (h : actsOf i = .collective) (hf : formOf i = some f) :
    f.mn ∈ [Mn.mcfg, .mload, .mmul, .mfill, .madapt, .mdrain, .streamIssue] := by
  unfold formOf at hf
  rcases cls_collective h with hc | hc
  · simp only [hc] at hf
    split at hf <;> first | (cases hf; done) | (simp only [Option.some.injEq] at hf; rw [← hf]; simp [form])
  · simp only [hc, Option.map_eq_some_iff] at hf
    obtain ⟨b, -, hf⟩ := hf
    rw [← hf]; simp [form]

theorem mn_collective {i : Insn} (h : actsOf i = .collective) :
    mnOf i ∈ [Mn.mcfg, .mload, .mmul, .mfill, .madapt, .mdrain, .streamIssue, .reserved] := by
  unfold mnOf
  split
  · simp
  · rename_i f hf
    split
    · simp
    · have := form_collective h hf
      simp only [List.mem_cons, List.not_mem_nil, or_false] at this ⊢
      rcases this with h | h | h | h | h | h | h <;> simp [h]

/-- An instruction that is not of the engines does not wait for the whole group. -/
theorem acts_alone {e : Env} {m : Mn} (h : e.mn = m) (hm : m ∉ [Mn.mcfg, .mload, .mmul, .mfill, .madapt, .mdrain, .streamIssue, .reserved]) :
    actsOf e.i ≠ .collective := by
  intro k
  have := mn_collective k
  rw [← h] at hm
  exact hm this


/-- The row of an instruction that finishes. -/
theorem commits_of_run {i : Instr} {t : State} (h : Issues m s g e) (hi : Machine.exec i s = .next (issue m g s))
    (hm : m ∉ [Mn.mcfg, .mload, .mmul, .mfill, .madapt, .mdrain, .streamIssue, .reserved]) (hk : checkOf m e s = none) (hr : runOf m e s = .done t) :
    Commits i s g e t := by
  unfold Commits
  rw [hi, issue_done h (fun k => hm (by simp [k])) (acts_alone h.named hm) hk hr]

/-- The row of an instruction that sets the program counters itself. -/
theorem redirects_of_jump {i : Instr} {t : State} (h : Issues m s g e) (hi : Machine.exec i s = .next (issue m g s))
    (hm : m ∉ [Mn.mcfg, .mload, .mmul, .mfill, .madapt, .mdrain, .streamIssue, .reserved]) (hk : checkOf m e s = none) (hr : runOf m e s = .jumped t) :
    Redirects i s g t := by
  unfold Redirects
  rw [hi, issue_jumped h (fun k => hm (by simp [k])) (acts_alone h.named hm) hk hr]

/-- The row of an instruction that parks or stalls its threads. -/
theorem redirects_of_park {i : Instr} {t : State} (h : Issues m s g e) (hi : Machine.exec i s = .next (issue m g s))
    (hm : m ∉ [Mn.mcfg, .mload, .mmul, .mfill, .madapt, .mdrain, .streamIssue, .reserved]) (hk : checkOf m e s = none) (hr : runOf m e s = .parked t) :
    Redirects i s g t := by
  unfold Redirects
  rw [hi, issue_parked h (fun k => hm (by simp [k])) (acts_alone h.named hm) hk hr]

/-- An environment is the group's own. -/
theorem env_group {e : Env} (h : nextEnv s g = some e) : e.g = g ∧ s.group? g = some e.gr ∧ s.ctx? e.gr.ctx = some e.c := by
  unfold nextEnv at h
  split at h
  · cases h
  · rename_i gr hg
    split at h
    · rename_i c b pc m hc hb hn
      simp only [Option.some.injEq] at h
      rw [← h]
      exact ⟨rfl, hg, hc⟩
    · cases h

/-! ## Instructions of the whole group -/

theorem intForm_plain {n : Nat} {f : Mn × Nat} (h : intForm n = some f) : f.1 ∉ [Mn.mcfg, .mload, .mmul, .mfill, .madapt, .mdrain, .streamIssue] := by
  unfold intForm at h
  split at h <;> first | (cases h; done) | (simp only [Option.some.injEq] at h; subst h; decide)

theorem fpForm_plain {n : Nat} {f : Mn × Nat × Bool} (h : fpForm n = some f) : f.1 ∉ [Mn.mcfg, .mload, .mmul, .mfill, .madapt, .mdrain, .streamIssue] := by
  unfold fpForm at h
  split at h <;> first | (cases h; done) | (simp only [Option.some.injEq] at h; subst h; decide)

theorem cvtForm_mn (mn : Mn) (w : Bool) (d s : List Kind) (m : Nat) : (cvtForm mn w d s m).mn = mn := by
  unfold cvtForm; split <;> rfl

/-- An instruction of the engines waits for the whole group. -/
theorem form_engine {i : Insn} {f : Form} (hf : formOf i = some f) (hm : f.mn ∈ [Mn.mcfg, .mload, .mmul, .mfill, .madapt, .mdrain, .streamIssue]) :
    actsOf i = .collective := by
  by_cases h7 : i.cls = 7
  · unfold actsOf; rw [h7]; rfl
  by_cases h8 : i.cls = 8
  · unfold actsOf; rw [h8]; rfl
  exfalso
  unfold formOf at hf
  split at hf
  case h_8 => exact h7 (by assumption)
  case h_9 => exact h8 (by assumption)
  all_goals first
    | (cases hf; done)
    | (repeat' split at hf
       all_goals first
         | (cases hf; done)
         | (simp only [Option.some.injEq] at hf; subst hf; revert hm; first | decide | (simp [form, cvtForm_mn]; done))
         | (simp only [Option.map_eq_some_iff] at hf
            obtain ⟨q, hq, hf⟩ := hf
            subst hf
            first | exact intForm_plain hq hm | exact fpForm_plain hq hm))

theorem acts_engine {e : Env} {m : Mn} (h : e.mn = m) (hm : m ∈ [Mn.mcfg, .mload, .mmul, .mfill, .madapt, .mdrain, .streamIssue]) : actsOf e.i = .collective := by
  unfold Env.mn mnOf at h
  split at h
  · subst h; simp at hm
  · rename_i f hf
    split at h
    · subst h; simp at hm
    · subst h; exact form_engine hf hm


/-- The row of an instruction of the engines, with every live thread parked at it, settles what the instruction does. -/
theorem issue_all_runs (h : IssuesAll m s g e) (hm : m ∈ [Mn.mcfg, .mload, .mmul, .mfill, .madapt, .mdrain, .streamIssue])
    (ha : actsOf e.i = .collective) (hk : checkOf m e s = none) : issue m g s = settleRes e s (runOf m e s) := by
  obtain ⟨hst, hac, hfl, hn, hu, hb, hr, hh, hact, hp⟩ := h
  have hres : m ≠ .reserved := fun k => by rw [k] at hm; simp at hm
  have hte : takesEntry m e.i = false := by
    simp only [List.mem_cons, List.not_mem_nil, or_false] at hm
    rcases hm with h | h | h | h | h | h | h <;> subst h <;> rfl
  have hbp : (if e.gr.skipBp = true then none else Env.bpHit s e) = none := by
    rcases hb with hb | hb
    · simp [hb]
    · simp [hb]
  have h1 : attempt e s = runOf m e s := by
    unfold attempt
    rw [hn, hbp, hu, hte]
    simp only [Bool.false_and, Bool.or_self, Bool.and_false, Bool.false_eq_true, if_false, hres, ha, if_true]
    unfold arriveColl
    rw [hr, hh]
    simp only [Bool.not_true, Bool.false_eq_true, if_false, beq_self_eq_true, if_true]
    unfold perform
    rw [if_neg hact, hn, hk, hp]
  unfold issue
  rw [hst]
  simp only [hac, hfl, hn, and_self, if_true, h1]

end Sys2Proof.Machine
end

