-- ==== Sys2Proof/Laws/Group.lean ====
section
/-! SUPPORT. What writing a group's registers and program counters does, said once: a result reaches the destination register of its threads and no other
register (R119, R125); an instruction's sources and results as numbers of its width. -/

namespace Sys2Proof.Machine

open Sys2Proof

/-! ## Registers -/

theorem vGet_vPut (g : Group) (r t r' t' : Nat) (x : Word32) (ht : t < 64) (ht' : t' < 64) :
    (g.vPut r t x).vGet r' t' = if r = r' ∧ t' = t then x else g.vGet r' t' := by
  unfold Group.vPut Group.vGet
  dsimp only
  by_cases h : 64 * r' + t' = 64 * r + t
  · rw [h, Sparse.get_put_self, if_pos (by omega)]
  · rw [Sparse.get_put_ne _ _ _ h, if_neg (by omega)]
theorem uGet_uPut (g : Group) (r r' : Nat) (x : Word64) : (g.uPut r x).uGet r' = if r = r' then x else g.uGet r' := by
  unfold Group.uPut Group.uGet
  dsimp only
  by_cases h : r' = r
  · rw [h, Sparse.get_put_self, if_pos rfl]
  · rw [Sparse.get_put_ne _ _ _ h, if_neg (by omega)]
theorem pGet_pPut (g : Group) (r t r' t' : Nat) (x : Bool) (ht : t < 64) (ht' : t' < 64) :
    (g.pPut r t x).pGet r' t' = if r = r' ∧ t' = t then x else g.pGet r' t' := by
  unfold Group.pPut Group.pGet
  dsimp only
  by_cases h : 64 * r' + t' = 64 * r + t
  · rw [h, Sparse.get_put_self, if_pos (by omega)]
  · rw [Sparse.get_put_ne _ _ _ h, if_neg (by omega)]

structure Same (a b : Group) : Prop where
  pcs : a.pcs = b.pcs
  live : a.live = b.live
  pend : a.pend = b.pend
  sites : a.sites = b.sites
  bars : a.bars = b.bars

theorem putDst_same (g : Group) (c t : Nat) (x : Word64) : Same (putDst g c t x) g := by
  unfold putDst; split <;> constructor <;> rfl

theorem putDst_v (g : Group) (c t r th : Nat) (x : Word64) (ht : t < 64) (h : th < 64) :
    (putDst g c t x).vGet r th = if desig c = .v r ∧ th = t then x.setWidth 32 else g.vGet r th := by
  unfold putDst
  split <;> simp_all
  · rw [vGet_vPut _ _ _ _ _ _ ht h]
  · rfl
  · rfl
theorem putDst_u (g : Group) (c t r : Nat) (x : Word64) :
    (putDst g c t x).uGet r = if desig c = .u r then x else g.uGet r := by
  unfold putDst
  split <;> simp_all
  · rfl
  · rw [uGet_uPut]
  · rfl
theorem putDst_p (g : Group) (c t r th : Nat) (x : Word64) (ht : t < 64) (h : th < 64) :
    (putDst g c t x).pGet r th = if desig c = .p r ∧ th = t then x.getLsbD 0 else g.pGet r th := by
  unfold putDst
  split <;> simp_all
  · rfl
  · rfl
  · rw [pGet_pPut _ _ _ _ _ _ ht h]

theorem fold_put (c : Nat) (f : Nat → Word64) (ts : List Nat) (hts : ∀ t ∈ ts, t < 64) (g : Group) :
    let g' := ts.foldl (fun x t => putDst x c t (f t)) g
    Same g' g ∧ (∀ r th, th < 64 → g'.vGet r th = if desig c = .v r ∧ th ∈ ts then (f th).setWidth 32 else g.vGet r th) ∧
    (∀ r th, th < 64 → g'.pGet r th = if desig c = .p r ∧ th ∈ ts then (f th).getLsbD 0 else g.pGet r th) ∧
    (∀ r, desig c ≠ .u r → g'.uGet r = g.uGet r) := by
  induction ts generalizing g with
  | nil => simp; constructor <;> rfl
  | cons t ts ih =>
    have ht := hts t (by simp)
    obtain ⟨a, b, cc, d⟩ := ih (fun x hx => hts x (by simp [hx])) (putDst g c t (f t))
    have p := putDst_same g c t (f t)
    refine ⟨⟨a.1.trans p.1, a.2.trans p.2, a.3.trans p.3, a.4.trans p.4, a.5.trans p.5⟩, fun r th h => ?_, fun r th h => ?_, fun r h => ?_⟩
    · rw [List.foldl_cons, b r th h, putDst_v _ _ _ _ _ _ ht h]
      by_cases q : desig c = .v r <;> by_cases q1 : th ∈ ts <;> by_cases q2 : th = t <;> simp [q, q1, q2]
    · rw [List.foldl_cons, cc r th h, putDst_p _ _ _ _ _ _ ht h]
      by_cases q : desig c = .p r <;> by_cases q1 : th ∈ ts <;> by_cases q2 : th = t <;> simp [q, q1, q2]
    · rw [List.foldl_cons, d r h, putDst_u, if_neg h]

theorem write_eq (e : Env) (s : State) (f : Nat → Word64) : e.write s f =
    e.update s (fun gr => (if actsOf e.i = .perThread then threads e.act else [e.lead]).foldl (fun x t => putDst x e.i.dst t (f t)) gr) := by
  unfold Env.write
  cases h : actsOf e.i <;> simp

theorem lead_lt (e : Env) (h : e.act ≠ 0) : e.lead < 64 := by
  unfold Env.lead
  cases h' : threads e.act with
  | nil => simp
  | cons a l =>
    have : a ∈ threads e.act := by rw [h']; simp
    exact (mem_threads.1 this).1

/-! ## Program counters -/

theorem pcGet_pcPut (g : Group) (t th : Nat) (a : Word64) : (g.pcPut t a).pcGet th = if th = t then a else g.pcGet th := by
  unfold Group.pcPut Group.pcGet
  by_cases q : th = t <;> simp [q, Sparse.get_put_ne]

/-- The program counters of a list of threads set: every other thread keeps its own. -/
theorem pcGet_fold (f : Nat → BitVec 64) (ts : List Nat) (g : Group) (th : Nat) :
    (ts.foldl (fun x t => x.pcPut t (f t)) g).pcGet th = if th ∈ ts then f th else g.pcGet th := by
  induction ts generalizing g with
  | nil => simp
  | cons t ts ih =>
    rw [List.foldl_cons, ih, pcGet_pcPut]
    by_cases q : th ∈ ts <;> by_cases q2 : th = t <;> simp [q, q2]

/-- Nothing but program counters. -/
theorem pcs_fold (f : Nat → BitVec 64) (ts : List Nat) (g : Group) : ∃ p, ts.foldl (fun x t => x.pcPut t (f t)) g = { g with pcs := p } := by
  induction ts generalizing g with
  | nil => exact ⟨g.pcs, rfl⟩
  | cons t ts ih => obtain ⟨p, hp⟩ := ih (g.pcPut t (f t)); exact ⟨p, hp⟩

theorem pcAll_pcs (g : Group) (m : BitVec 64) (a : Nat) : ∃ p, g.pcAll m a = { g with pcs := p } := pcs_fold (fun _ => BitVec.ofNat 64 a) (threads m) g

theorem pcGet_pcAll (g : Group) (m : BitVec 64) (a : Nat) {t : Nat} (h : t < 64) :
    (g.pcAll m a).pcGet t = if m.getLsbD t then BitVec.ofNat 64 a else g.pcGet t := by
  unfold Group.pcAll
  rw [pcGet_fold]
  simp [mem_threads, h]

/-! ## Branches, sites -/

theorem jump_eq (e : Env) (s : State) (f : Nat → Nat) (gr0 : Group) (h : s.group? e.g = some gr0) :
   ∃ gr, e.jump s f = s.setGroup e.g gr ∧ { gr with pcs := gr0.pcs } = gr0 ∧
     ∀ t, t < 64 → gr.pcGet t = if e.act.getLsbD t then BitVec.ofNat 64 (f t) else if e.mask.getLsbD t && !e.act.getLsbD t then BitVec.ofNat 64 e.i.next else gr0.pcGet t := by
  unfold Env.jump Env.update Env.group
  rw [h]
  refine ⟨_, rfl, ?_, ?_⟩
  · obtain ⟨p, hp⟩ := pcs_fold (fun t => BitVec.ofNat 64 (f t)) (threads e.act) (e.skip gr0)
    obtain ⟨q, hq⟩ := pcAll_pcs gr0 (e.mask &&& ~~~e.act) e.i.next
    simp only [Option.getD_some]
    rw [hp]; unfold Env.skip; rw [hq]
  · intro t ht
    simp only [Option.getD_some]
    rw [pcGet_fold]
    unfold Env.skip
    rw [pcGet_pcAll _ _ _ ht]
    simp [mem_threads, ht]

theorem skip_eq (e : Env) (gr : Group) : ∃ p, e.skip gr = { gr with pcs := p } := pcAll_pcs _ _ _
theorem skip_pc (e : Env) (gr : Group) {t : Nat} (h : t < 64) : (e.skip gr).pcGet t = if e.mask.getLsbD t && !e.act.getLsbD t then BitVec.ofNat 64 e.i.next else gr.pcGet t := by
  unfold Env.skip; rw [pcGet_pcAll _ _ _ h]; simp [h]

theorem checkSites_none (gr : Group) (h : ∀ x ∈ gr.sites, siteDone gr x = false) : checkSites gr = gr := by
  unfold checkSites
  rw [List.filter_eq_nil_iff.2 (fun x hx => by simp [h x hx])]; rfl

theorem checkSites_one (gr : Group) (l r : List Site) (x : Site) (hs : gr.sites = l ++ x :: r) (hx : siteDone gr x = true) (h : ∀ y ∈ l ++ r, siteDone gr y = false) :
    checkSites gr = releaseSite gr x := by
  unfold checkSites
  have h1 : l.filter (siteDone gr) = [] := List.filter_eq_nil_iff.2 (fun y hy => by simp [h y (by simp [hy])])
  have h2 : r.filter (siteDone gr) = [] := List.filter_eq_nil_iff.2 (fun y hy => by simp [h y (by simp [hy])])
  rw [hs, List.filter_append, List.filter_cons, if_pos hx, h1, h2]; rfl

theorem release_sites (gr : Group) (x : Site) : (releaseSite gr x).sites = gr.sites.filter (fun y => y.addr != x.addr) := rfl
theorem release_pc (gr : Group) (x : Site) {t : Nat} (h : t < 64) : (releaseSite gr x).pcGet t = if x.parked.getLsbD t then BitVec.ofNat 64 (x.addr.toNat + 8) else gr.pcGet t := by
  have : (releaseSite gr x).pcGet t = (gr.pcAll x.parked (x.addr.toNat + 8)).pcGet t := rfl
  rw [this, pcGet_pcAll _ _ _ h]
theorem release_regs (gr : Group) (x : Site) : (releaseSite gr x).live = gr.live ∧ (releaseSite gr x).v = gr.v ∧ (releaseSite gr x).u = gr.u ∧ (releaseSite gr x).p = gr.p := by
  obtain ⟨p, hp⟩ := pcAll_pcs gr x.parked (x.addr.toNat + 8)
  unfold releaseSite; rw [hp]; exact ⟨rfl, rfl, rfl, rfl⟩

theorem addr_ne (a : Nat) (ha : a < 2^64) (y : Site) (h : y.addr.toNat ≠ a) : (y.addr != BitVec.ofNat 64 a) = true := by
  rw [bne_iff_ne]; intro k; apply h; rw [k, BitVec.toNat_ofNat, Nat.mod_eq_of_lt ha]

theorem restPc_skip (e : Env) {t : Nat} (h : t < 64) : (e.skip e.gr).pcGet t = restPc e t := skip_pc e e.gr h

/-! ## Sticky flags -/

theorem raise_parts (e : Env) (s : State) (fl : Flags) : (e.raise s fl).groups = s.groups ∧ (e.raise s fl).mem = s.mem ∧ (e.raise s fl).ctxs = s.ctxs ∧
   (e.raise s fl).clusters = s.clusters ∧ (e.raise s fl).sync = s.sync ∧ (e.raise s fl).rings = s.rings ∧ (e.raise s fl).keep = s.keep ∧ (e.raise s fl).fabric = s.fabric ∧
   ((e.raise s fl).unitSt (unitKey e.g)).flags = (s.unitSt (unitKey e.g)).flags ||| fl := by
  unfold Env.raise
  split
  · simp [*]
  · simp [State.setUnit]
    exact congrArg UnitSt.flags (Sparse.get_put_self ..)


/-! ## Traps -/

@[simp] theorem firstTrap_nil : firstTrap [] = none := rfl
@[simp] theorem firstTrap_some (t : Trap) (l : List (Option Trap)) : firstTrap (some t :: l) = some t := rfl
@[simp] theorem firstTrap_skip (l : List (Option Trap)) : firstTrap (none :: l) = firstTrap l := rfl
@[simp] theorem trapIf_true (t : Trap) : trapIf true t = some t := rfl
@[simp] theorem trapIf_false (t : Trap) : trapIf false t = none := rfl

theorem maskOf_eq_zero (f : Nat → Bool) : maskOf f = 0 ↔ ∀ t, t < 64 → f t = false := by
  constructor
  · intro h t ht
    rw [← maskOf_bit f ht, h]; simp
  · intro h
    apply BitVec.eq_of_getLsbD_eq
    intro i hi
    rw [maskOf_bit f hi, h i hi]; simp

/-- The first thread of a mask. -/
theorem threads_head (f : Nat → Bool) {t : Nat} (h : t < 64) (ht : f t = true) (hj : ∀ j, j < t → f j = false) : (threads (maskOf f)).headD 0 = t := by
  rw [threads_maskOf, List.headD_eq_head?_getD, List.head?_filter]
  have : List.find? f (List.range 64) = some t := by
    rw [List.find?_range_eq_some]
    exact ⟨ht, by simpa using h, fun j k => by simp [hj j k]⟩
  rw [this]; rfl

/-! ## Numbers -/

theorem intRes_eq (e : Env) (s : State) (op : Nat → Bool → Nat → Nat → Nat → Nat) (v : BitVec (intWidth e.i) → BitVec (intWidth e.i) → BitVec (intWidth e.i) → BitVec (intWidth e.i))
   (h : ∀ a b c : BitVec (intWidth e.i), op (intWidth e.i) (intSigned e.i) a.toNat b.toNat c.toNat % 2 ^ intWidth e.i = (v a b c).toNat) :
   intRes false op e s = .done (e.write s (fun t => extendInt e.i (v (srcA e t) (srcB e t) (srcC e t)).toNat)) := by
  unfold intRes
  dsimp only
  congr 2
  funext t
  congr 1
  rw [← h]
  simp [srcA, srcB, srcC, BitVec.toNat_setWidth]

theorem intRes1_eq (e : Env) (s : State) (op : Nat → Bool → Nat → Nat → Nat → Nat) (v : BitVec (intWidth e.i) → BitVec (intWidth e.i))
   (h : ∀ (a : BitVec (intWidth e.i)) b c, op (intWidth e.i) (intSigned e.i) a.toNat b c % 2 ^ intWidth e.i = (v a).toNat) :
   intRes true op e s = .done (e.write s (fun t => extendInt e.i (v (srcOne e t)).toNat)) := by
  unfold intRes
  dsimp only
  congr 2
  funext t
  congr 1
  rw [← h (srcOne e t) _ _]
  simp [srcOne, BitVec.toNat_setWidth]
  rfl

theorem signed_toInt {w : Nat} (hw : 0 < w) (a : BitVec w) : signed w a.toNat = a.toInt := by
  unfold signed
  rw [Nat.mod_eq_of_lt a.isLt, BitVec.toInt_eq_toNat_cond]
  have : 2 ^ w = 2 * 2 ^ (w - 1) := by rw [← Nat.pow_succ']; congr 1; omega
  by_cases h : a.toNat < 2 ^ (w - 1)
  · rw [if_pos h, if_pos (by omega)]
  · rw [if_neg h, if_neg (by omega)]

theorem readAs_eq {w : Nat} (hw : 0 < w) (sg : Bool) (a : BitVec w) : readAs w sg a.toNat = if sg then a.toInt else (a.toNat : Int) := by
  unfold readAs; cases sg <;> simp [signed_toInt hw]

theorem unsign_ofInt {w : Nat} (x : Int) : unsign w x = (BitVec.ofInt w x).toNat := by
  unfold unsign; rw [BitVec.toNat_ofInt]

theorem read32 (sg : Bool) (x : Word64) : readAs 32 sg (x.toNat % 2 ^ 32) = if sg then (x.setWidth 32).toInt else ((x.setWidth 32).toNat : Int) := by
  have := readAs_eq (w := 32) (by decide) sg (x.setWidth 32)
  rw [← this, BitVec.toNat_setWidth]

theorem isNan_of (a : BitVec 32) (h : isNan32 a) : (f32 a).isNan = true := by
  unfold f32 Fp.decode
  have h1 : a.toNat / 2 ^ fp32.mb % 2 ^ fp32.eb = 2 ^ fp32.eb - 1 := by simp only [fp32]; have := h.1; simpa using this
  have h2 : ¬ a.toNat % 2 ^ fp32.mb = 0 := h.2
  rw [if_pos h1, if_neg h2]
  rfl

theorem ofInt_signed (n : Nat) : BitVec.ofInt 64 (signed 32 n) = (BitVec.ofNat 32 n).signExtend 64 := by
  have h : signed 32 n = (BitVec.ofNat 32 n).toInt := by
    have := signed_toInt (w := 32) (by decide) (BitVec.ofNat 32 n)
    rw [← this, BitVec.toNat_ofNat]
    unfold signed; simp
  rw [h]; simp [BitVec.signExtend]


end Sys2Proof.Machine
end

