-- ==== Sys2Proof/Laws/Mailbox.lean ====
section
/-! SUPPORT. What the row of a mailbox command comes to: one lemma for a command that starts with good fields, one for a command that waits, and what
completing a command does. -/

namespace Sys2Proof.Machine

open Sys2Proof

variable {k : Cmd} {s : State} {r : RingId} {c : OutCmd} {p : List Byte}

theorem startable_notStarted (h : startable s r c = true) : c.started = false := by
  unfold startable at h; simp only [Bool.and_eq_true, Bool.not_eq_true'] at h; exact h.1.1.2

/-- A command that may start with good fields runs its effect on the state in which it has started. -/
theorem runCmd_ready (h : Ready k s r c p) :
    runCmd k r c.tag s = .next (ranState s r c.tag (k.run (begun s r c p) r { c with payload := p })) := by
  have hn := startable_notStarted h.turn
  have h1 : start k s r c = ranState s r c.tag (k.run (begun s r c p) r { c with payload := p }) := by
    unfold start
    rw [h.header, h.fetched]
    dsimp only
    rw [h.fields]
    dsimp only
    unfold runGood
    rw [if_neg (by rw [h.allowed]; simp)]
    rfl
  unfold runCmd
  rw [h.outstanding]
  have hc := h.code
  have hv := h.version
  have ht := h.turn
  have hs := h.served
  dsimp only
  rw [if_neg (by simp [hc, hv]), if_neg (by simp [hn]), if_neg (by simp [ht]), if_neg (by simp [hs]), h1]

/-- A command that waits goes on. -/
theorem runCmd_waiting (h : Waiting k s r c) : runCmd k r c.tag s = .next (ranState s r c.tag (k.again s r c)) := by
  obtain ⟨ho, hc, hv, hs⟩ := h
  unfold runCmd
  rw [ho]
  simp [hc, hv, hs]

/-- A command whose bad fields are seen in its header or arguments completes with BAD_ARGUMENT. -/
theorem start_bad {o : Nat} (h : leastBad ((headerBad (s.ring r) k c ++ k.bad s r c).filter (fun b => decide (b.2 < 64))) = some o) :
    start k s r c = finish s r c.tag sBAD_ARGUMENT o [] := by
  unfold start; rw [h]

/-! Starting a command changes its ring only. -/

@[simp] theorem begun_pending (s : State) (r : RingId) (c : OutCmd) (p : List Byte) : (begun s r c p).pending = s.pending := rfl
@[simp] theorem begun_part (s : State) (r : RingId) (c : OutCmd) (p : List Byte) : (begun s r c p).part = s.part := rfl
@[simp] theorem begun_time (s : State) (r : RingId) (c : OutCmd) (p : List Byte) : (begun s r c p).time = s.time := rfl
@[simp] theorem begun_free (s : State) (r : RingId) (c : OutCmd) (p : List Byte) : (begun s r c p).free = s.free := rfl
@[simp] theorem begun_fnEvents (s : State) (r : RingId) (c : OutCmd) (p : List Byte) : (begun s r c p).fnEvents = s.fnEvents := rfl
@[simp] theorem begun_hostMem (s : State) (r : RingId) (c : OutCmd) (p : List Byte) : (begun s r c p).hostMem = s.hostMem := rfl
@[simp] theorem begun_hostFail (s : State) (r : RingId) (c : OutCmd) (p : List Byte) : (begun s r c p).hostFail = s.hostFail := rfl
@[simp] theorem begun_lantern (s : State) (r : RingId) (c : OutCmd) (p : List Byte) : (begun s r c p).lantern = s.lantern := rfl
@[simp] theorem begun_keep (s : State) (r : RingId) (c : OutCmd) (p : List Byte) : (begun s r c p).keep = s.keep := rfl
@[simp] theorem begun_mem (s : State) (r : RingId) (c : OutCmd) (p : List Byte) : (begun s r c p).mem = s.mem := rfl
@[simp] theorem begun_ctxs (s : State) (r : RingId) (c : OutCmd) (p : List Byte) : (begun s r c p).ctxs = s.ctxs := rfl
@[simp] theorem begun_nextCtx (s : State) (r : RingId) (c : OutCmd) (p : List Byte) : (begun s r c p).nextCtx = s.nextCtx := rfl
@[simp] theorem begun_groups (s : State) (r : RingId) (c : OutCmd) (p : List Byte) : (begun s r c p).groups = s.groups := rfl
@[simp] theorem begun_units (s : State) (r : RingId) (c : OutCmd) (p : List Byte) : (begun s r c p).units = s.units := rfl
@[simp] theorem begun_clusters (s : State) (r : RingId) (c : OutCmd) (p : List Byte) : (begun s r c p).clusters = s.clusters := rfl
@[simp] theorem begun_sync (s : State) (r : RingId) (c : OutCmd) (p : List Byte) : (begun s r c p).sync = s.sync := rfl
@[simp] theorem begun_fabric (s : State) (r : RingId) (c : OutCmd) (p : List Byte) : (begun s r c p).fabric = s.fabric := rfl
@[simp] theorem begun_carrier (s : State) (r : RingId) (c : OutCmd) (p : List Byte) : (begun s r c p).carrier = s.carrier := rfl
@[simp] theorem begun_risk (s : State) (r : RingId) (c : OutCmd) (p : List Byte) : (begun s r c p).risk = s.risk := rfl
@[simp] theorem begun_journals (s : State) (r : RingId) (c : OutCmd) (p : List Byte) : (begun s r c p).journals = s.journals := rfl
@[simp] theorem begun_counters (s : State) (r : RingId) (c : OutCmd) (p : List Byte) : (begun s r c p).counters = s.counters := rfl
@[simp] theorem begun_tx (s : State) (r : RingId) (c : OutCmd) (p : List Byte) : (begun s r c p).tx = s.tx := rfl
@[simp] theorem begun_on (s : State) (r : RingId) (c : OutCmd) (p : List Byte) : (begun s r c p).on = s.on := rfl
@[simp] theorem begun_ctx (s : State) (r : RingId) (c : OutCmd) (p : List Byte) (n : Nat) : (begun s r c p).ctx? n = s.ctx? n := rfl
@[simp] theorem begun_group (s : State) (r : RingId) (c : OutCmd) (p : List Byte) (g : GroupId) : (begun s r c p).group? g = s.group? g := rfl
@[simp] theorem begun_cluster (s : State) (r : RingId) (c : OutCmd) (p : List Byte) (n : Nat) : (begun s r c p).cluster n = s.cluster n := rfl
@[simp] theorem begun_link (s : State) (r : RingId) (c : OutCmd) (p : List Byte) (n : Nat) : (begun s r c p).link n = s.link n := rfl
@[simp] theorem begun_fev (s : State) (r : RingId) (c : OutCmd) (p : List Byte) (n : Nat) : (begun s r c p).fev n = s.fev n := rfl
@[simp] theorem begun_partAt (s : State) (r : RingId) (c : OutCmd) (p : List Byte) (n : Nat) : (begun s r c p).part? n = s.part? n := rfl
@[simp] theorem begun_stack (s : State) (r : RingId) (c : OutCmd) (p : List Byte) (n : Nat) : (begun s r c p).stack n = s.stack n := rfl
@[simp] theorem begun_counter (s : State) (r : RingId) (c : OutCmd) (p : List Byte) (n : Nat) : (begun s r c p).counter n = s.counter n := rfl

@[simp] theorem OutCmd.arg_payload (c : OutCmd) (p : List Byte) (o n : Nat) : OutCmd.arg { c with payload := p } o n = c.arg o n := rfl

/-! What the end of a command's effect comes to. -/

@[simp] theorem ranState_fin (s t : State) (r : RingId) (tag : BitVec 16) (a b : Nat) (bs : List Byte) : ranState s r tag (.fin t a b bs) = finish t r tag a b bs := rfl
@[simp] theorem ranState_keep (s t : State) (r : RingId) (tag : BitVec 16) (n : Nat) :
    ranState s r tag (.keep t n) = setOut t r tag (fun c => { c with stage := n }) := rfl
@[simp] theorem ranState_gone (s t : State) (r : RingId) (tag : BitVec 16) : ranState s r tag (.gone t) = t := rfl
@[simp] theorem ranState_later (s : State) (r : RingId) (tag : BitVec 16) : ranState s r tag .later = s := rfl

/-! What a row answers, from what the command's effect comes to. -/

theorem completes_of_run {i : Instr} {t : State} {bs : List Byte} (h : Ready k s r c p) (hi : Machine.exec i s = runCmd k r c.tag s)
    (hk : k.run (begun s r c p) r { c with payload := p } = .fin t sOK 0 bs) : CompletesWith i s r c t bs := by
  unfold CompletesWith
  rw [hi, runCmd_ready h, hk]; rfl

theorem completes_with_of_run {i : Instr} {t : State} {bs : List Byte} {P : State → Prop} (h : Ready k s r c p) (hi : Machine.exec i s = runCmd k r c.tag s)
    (hk : k.run (begun s r c p) r { c with payload := p } = .fin t sOK 0 bs) (hp : P t) : ∃ t, CompletesWith i s r c t bs ∧ P t :=
  ⟨t, completes_of_run h hi hk, hp⟩

theorem refuses_of_run {i : Instr} {st d : Nat} (h : Ready k s r c p) (hi : Machine.exec i s = runCmd k r c.tag s)
    (hk : k.run (begun s r c p) r { c with payload := p } = .fin (begun s r c p) st d []) : RefusesWith i s r c p st d := by
  unfold RefusesWith
  rw [hi, runCmd_ready h, hk]; rfl

theorem completes_of_again {i : Instr} {t : State} {bs : List Byte} (h : Waiting k s r c) (hi : Machine.exec i s = runCmd k r c.tag s)
    (hk : k.again s r c = .fin t sOK 0 bs) : CompletesWith i s r c t bs := by
  unfold CompletesWith
  rw [hi, runCmd_waiting h, hk]; rfl

end Sys2Proof.Machine
end

