-- ==== Sys2Proof/Laws/Within.lean ====
section
/-! SUPPORT. What an operation may touch. `Within m s t` says that `t` differs from `s` only in the parts of the state whose bits `m` has, that memory and
host memory keep their canonical form, and that the anti-rollback count does not fall. Every operation has one lemma of this form. -/

namespace Sys2Proof.Machine

open Sys2Proof

/-- Part number `i` of the state stands as it did. The bytes of memory (12) and the anti-rollback count (10) are parts of their own. -/
def eqPart (i : Nat) (s t : State) : Prop :=
  match i with
  | 0 => t.pending = s.pending
  | 1 => t.part = s.part
  | 2 => t.time = s.time
  | 3 => t.free = s.free
  | 4 => t.rings = s.rings
  | 5 => t.fnEvents = s.fnEvents
  | 6 => t.hostMem = s.hostMem
  | 7 => t.hostFail = s.hostFail
  | 8 => t.lantern = s.lantern
  | 9 => t.keep = { s.keep with svn := t.keep.svn }
  | 10 => t.keep.svn = s.keep.svn
  | 11 => t.mem = { s.mem with bytes := t.mem.bytes }
  | 12 => t.mem.bytes = s.mem.bytes
  | 13 => t.ctxs = s.ctxs
  | 14 => t.nextCtx = s.nextCtx
  | 15 => t.groups = s.groups
  | 16 => t.units = s.units
  | 17 => t.clusters = s.clusters
  | 18 => t.sync = s.sync
  | 19 => t.fabric = s.fabric
  | 20 => t.carrier = s.carrier
  | 21 => t.risk = s.risk
  | 22 => t.journals = s.journals
  | 23 => t.counters = s.counters
  | 24 => t.tx = s.tx
  | _ => True

/-- What holds of every operation, whatever it touches. -/
structure Sound (s t : State) : Prop where
  mem : Memory.wf s.mem.bytes = true → Memory.wf t.mem.bytes = true
  host : Memory.wf s.hostMem = true → Memory.wf t.hostMem = true
  svn : s.keep.svn ≤ t.keep.svn

theorem Sound.refl (s : State) : Sound s s := ⟨id, id, Nat.le_refl _⟩

theorem Sound.trans {s t u : State} (h : Sound s t) (k : Sound t u) : Sound s u :=
  ⟨fun x => k.mem (h.mem x), fun x => k.host (h.host x), Nat.le_trans h.svn k.svn⟩

structure Within (m : Nat) (s t : State) : Prop where
  same : ∀ i, m.testBit i = false → eqPart i s t
  sound : Sound s t

theorem eqPart_refl (i : Nat) (s : State) : eqPart i s s := by
  unfold eqPart; split <;> first | rfl | trivial

theorem eqPart_trans {i : Nat} {s t u : State} (h : eqPart i s t) (k : eqPart i t u) : eqPart i s u := by
  revert h k
  unfold eqPart
  split <;> intro h k <;> first | exact k.trans h | trivial | (rw [h] at k; rw [k])

namespace Within

variable {m n : Nat} {s t u : State}

theorem refl (m : Nat) (s : State) : Within m s s := ⟨fun i _ => eqPart_refl i s, Sound.refl s⟩

theorem trans (h : Within m s t) (k : Within m t u) : Within m s u :=
  ⟨fun i hi => eqPart_trans (h.same i hi) (k.same i hi), h.sound.trans k.sound⟩

theorem mono (h : Within n s t) (hm : n ||| m = m) : Within m s t := by
  refine ⟨fun i hi => h.same i ?_, h.sound⟩
  rw [← hm, Nat.testBit_or, Bool.or_eq_false_iff] at hi
  exact hi.1

/-- One operation after others. -/
theorem step (h : Within m s t) (k : Within n t u) (hm : n ||| m = m) : Within m s u := h.trans (k.mono hm)

theorem foldl {α : Type} {f : State → α → State} {l : List α} (h : Within m s t) (hf : ∀ x a, Within m x (f x a)) : Within m s (l.foldl f t) := by
  induction l generalizing t with
  | nil => exact h
  | cons a l ih => exact ih (h.trans (hf t a))

/-! ## The updates -/

end Within

/-- The parts a change is shown to leave alone. -/
theorem within_of {m : Nat} {s t : State} (h : ∀ i, m.testBit i = false → eqPart i s t) (hm : t.mem.bytes = s.mem.bytes) (hh : t.hostMem = s.hostMem)
    (hs : t.keep.svn = s.keep.svn) : Within m s t :=
  ⟨h, fun x => by rw [hm]; exact x, fun x => by rw [hh]; exact x, by rw [hs]⟩

theorem State.setRing_within (s : State) (r : RingId) (x : Ring) : Within 16 s (s.setRing r x) := by
  refine within_of (fun i hi => ?_) rfl rfl rfl
  revert hi; unfold eqPart; split <;> intro hi <;> trivial

theorem State.setRing_in {s : State} {r : RingId} {x : Ring} {m : Nat} {s₀ : State} (h : Within m s₀ s) (hm : 16 ||| m = m) : Within m s₀ (s.setRing r x) := h.step (State.setRing_within ..) hm

theorem State.setFev_within (s : State) (n : Nat) (x : FnEvents) : Within 32 s (s.setFev n x) := by
  refine within_of (fun i hi => ?_) rfl rfl rfl
  revert hi; unfold eqPart; split <;> intro hi <;> trivial

theorem State.setFev_in {s : State} {n : Nat} {x : FnEvents} {m : Nat} {s₀ : State} (h : Within m s₀ s) (hm : 32 ||| m = m) : Within m s₀ (s.setFev n x) := h.step (State.setFev_within ..) hm

theorem State.setGroup_within (s : State) (g : GroupId) (x : Group) : Within 32768 s (s.setGroup g x) := by
  refine within_of (fun i hi => ?_) rfl rfl rfl
  revert hi; unfold eqPart; split <;> intro hi <;> trivial

theorem State.setGroup_in {s : State} {g : GroupId} {x : Group} {m : Nat} {s₀ : State} (h : Within m s₀ s) (hm : 32768 ||| m = m) : Within m s₀ (s.setGroup g x) := h.step (State.setGroup_within ..) hm

theorem State.freeGroup_within (s : State) (g : GroupId) : Within 32768 s (s.freeGroup g) := by
  refine within_of (fun i hi => ?_) rfl rfl rfl
  revert hi; unfold eqPart; split <;> intro hi <;> trivial

theorem State.freeGroup_in {s : State} {g : GroupId} {m : Nat} {s₀ : State} (h : Within m s₀ s) (hm : 32768 ||| m = m) : Within m s₀ (s.freeGroup g) := h.step (State.freeGroup_within ..) hm

theorem State.setCtx_within (s : State) (n : Nat) (x : Ctx) : Within 8192 s (s.setCtx n x) := by
  refine within_of (fun i hi => ?_) rfl rfl rfl
  revert hi; unfold eqPart; split <;> intro hi <;> trivial

theorem State.setCtx_in {s : State} {n : Nat} {x : Ctx} {m : Nat} {s₀ : State} (h : Within m s₀ s) (hm : 8192 ||| m = m) : Within m s₀ (s.setCtx n x) := h.step (State.setCtx_within ..) hm

theorem State.delCtx_within (s : State) (n : Nat) : Within 8192 s (s.delCtx n) := by
  refine within_of (fun i hi => ?_) rfl rfl rfl
  revert hi; unfold eqPart; split <;> intro hi <;> trivial

theorem State.delCtx_in {s : State} {n : Nat} {m : Nat} {s₀ : State} (h : Within m s₀ s) (hm : 8192 ||| m = m) : Within m s₀ (s.delCtx n) := h.step (State.delCtx_within ..) hm

theorem State.setCluster_within (s : State) (n : Nat) (x : Cluster) : Within 131072 s (s.setCluster n x) := by
  refine within_of (fun i hi => ?_) rfl rfl rfl
  revert hi; unfold eqPart; split <;> intro hi <;> trivial

theorem State.setCluster_in {s : State} {n : Nat} {x : Cluster} {m : Nat} {s₀ : State} (h : Within m s₀ s) (hm : 131072 ||| m = m) : Within m s₀ (s.setCluster n x) := h.step (State.setCluster_within ..) hm

theorem State.setUnit_within (s : State) (n : Nat) (x : UnitSt) : Within 65536 s (s.setUnit n x) := by
  refine within_of (fun i hi => ?_) rfl rfl rfl
  revert hi; unfold eqPart; split <;> intro hi <;> trivial

theorem State.setUnit_in {s : State} {n : Nat} {x : UnitSt} {m : Nat} {s₀ : State} (h : Within m s₀ s) (hm : 65536 ||| m = m) : Within m s₀ (s.setUnit n x) := h.step (State.setUnit_within ..) hm

theorem State.setLink_within (s : State) (n : Nat) (x : Link) : Within 524288 s (s.setLink n x) := by
  refine within_of (fun i hi => ?_) rfl rfl rfl
  revert hi; unfold eqPart; split <;> intro hi <;> trivial

theorem State.setLink_in {s : State} {n : Nat} {x : Link} {m : Nat} {s₀ : State} (h : Within m s₀ s) (hm : 524288 ||| m = m) : Within m s₀ (s.setLink n x) := h.step (State.setLink_within ..) hm

theorem State.setPart_within (s : State) (n : Nat) (x : Partition) : Within 512 s (s.setPart n x) := by
  refine within_of (fun i hi => ?_) rfl rfl rfl
  revert hi; unfold eqPart; split <;> intro hi <;> trivial

theorem State.setPart_in {s : State} {n : Nat} {x : Partition} {m : Nat} {s₀ : State} (h : Within m s₀ s) (hm : 512 ||| m = m) : Within m s₀ (s.setPart n x) := h.step (State.setPart_within ..) hm

theorem State.setStack_within (s : State) (n : Nat) (x : Stack) : Within 2048 s (s.setStack n x) := by
  refine within_of (fun i hi => ?_) rfl rfl rfl
  revert hi; unfold eqPart; split <;> intro hi <;> trivial

theorem State.setStack_in {s : State} {n : Nat} {x : Stack} {m : Nat} {s₀ : State} (h : Within m s₀ s) (hm : 2048 ||| m = m) : Within m s₀ (s.setStack n x) := h.step (State.setStack_within ..) hm

theorem State.setObj_within (s : State) (n : Nat) (x : Obj) : Within 262144 s (s.setObj n x) := by
  refine within_of (fun i hi => ?_) rfl rfl rfl
  revert hi; unfold eqPart; split <;> intro hi <;> trivial

theorem State.setObj_in {s : State} {n : Nat} {x : Obj} {m : Nat} {s₀ : State} (h : Within m s₀ s) (hm : 262144 ||| m = m) : Within m s₀ (s.setObj n x) := h.step (State.setObj_within ..) hm

theorem State.setLantern_within (s : State) (x : Lantern) : Within 256 s (s.setLantern x) := by
  refine within_of (fun i hi => ?_) rfl rfl rfl
  revert hi; unfold eqPart; split <;> intro hi <;> trivial

theorem State.setLantern_in {s : State} {x : Lantern} {m : Nat} {s₀ : State} (h : Within m s₀ s) (hm : 256 ||| m = m) : Within m s₀ (s.setLantern x) := h.step (State.setLantern_within ..) hm

theorem State.setCarrier_within (s : State) (x : Carrier) : Within 1048576 s (s.setCarrier x) := by
  refine within_of (fun i hi => ?_) rfl rfl rfl
  revert hi; unfold eqPart; split <;> intro hi <;> trivial

theorem State.setCarrier_in {s : State} {x : Carrier} {m : Nat} {s₀ : State} (h : Within m s₀ s) (hm : 1048576 ||| m = m) : Within m s₀ (s.setCarrier x) := h.step (State.setCarrier_within ..) hm

theorem State.setSync_within (s : State) (x : SyncSys) : Within 262144 s (s.setSync x) := by
  refine within_of (fun i hi => ?_) rfl rfl rfl
  revert hi; unfold eqPart; split <;> intro hi <;> trivial

theorem State.setSync_in {s : State} {x : SyncSys} {m : Nat} {s₀ : State} (h : Within m s₀ s) (hm : 262144 ||| m = m) : Within m s₀ (s.setSync x) := h.step (State.setSync_within ..) hm

theorem State.setFabric_within (s : State) (x : Fabric) : Within 524288 s (s.setFabric x) := by
  refine within_of (fun i hi => ?_) rfl rfl rfl
  revert hi; unfold eqPart; split <;> intro hi <;> trivial

theorem State.setFabric_in {s : State} {x : Fabric} {m : Nat} {s₀ : State} (h : Within m s₀ s) (hm : 524288 ||| m = m) : Within m s₀ (s.setFabric x) := h.step (State.setFabric_within ..) hm

theorem State.bump_within (s : State) (i n : Nat) : Within 8388608 s (s.bump i n) := by
  refine within_of (fun i hi => ?_) rfl rfl rfl
  revert hi; unfold eqPart; split <;> intro hi <;> trivial

theorem State.bump_in {s : State} {i n : Nat} {m : Nat} {s₀ : State} (h : Within m s₀ s) (hm : 8388608 ||| m = m) : Within m s₀ (s.bump i n) := h.step (State.bump_within ..) hm

theorem State.tick_within (s : State) : Within 8 s s.tick := by
  refine within_of (fun i hi => ?_) rfl rfl rfl
  revert hi; unfold eqPart; split <;> intro hi <;> trivial

theorem State.tick_in {s : State} {m : Nat} {s₀ : State} (h : Within m s₀ s) (hm : 8 ||| m = m) : Within m s₀ s.tick := h.step (State.tick_within ..) hm

theorem time_within (s : State) (x : BitVec 64) : Within 4 s { s with time := x } := by
  refine within_of (fun i hi => ?_) rfl rfl rfl
  revert hi; unfold eqPart; split <;> intro hi <;> trivial

theorem time_in {s : State} {x : BitVec 64} {m : Nat} {s₀ : State} (h : Within m s₀ s) (hm : 4 ||| m = m) : Within m s₀ { s with time := x } := h.step (time_within ..) hm

theorem free_within (s : State) (x : Nat) : Within 8 s { s with free := x } := by
  refine within_of (fun i hi => ?_) rfl rfl rfl
  revert hi; unfold eqPart; split <;> intro hi <;> trivial

theorem free_in {s : State} {x : Nat} {m : Nat} {s₀ : State} (h : Within m s₀ s) (hm : 8 ||| m = m) : Within m s₀ { s with free := x } := h.step (free_within ..) hm

theorem rings_within (s : State) (x : Sparse Ring) : Within 16 s { s with rings := x } := by
  refine within_of (fun i hi => ?_) rfl rfl rfl
  revert hi; unfold eqPart; split <;> intro hi <;> trivial

theorem rings_in {s : State} {x : Sparse Ring} {m : Nat} {s₀ : State} (h : Within m s₀ s) (hm : 16 ||| m = m) : Within m s₀ { s with rings := x } := h.step (rings_within ..) hm

theorem fnEvents_within (s : State) (x : Sparse FnEvents) : Within 32 s { s with fnEvents := x } := by
  refine within_of (fun i hi => ?_) rfl rfl rfl
  revert hi; unfold eqPart; split <;> intro hi <;> trivial

theorem fnEvents_in {s : State} {x : Sparse FnEvents} {m : Nat} {s₀ : State} (h : Within m s₀ s) (hm : 32 ||| m = m) : Within m s₀ { s with fnEvents := x } := h.step (fnEvents_within ..) hm

theorem lantern_within (s : State) (x : Lantern) : Within 256 s { s with lantern := x } := by
  refine within_of (fun i hi => ?_) rfl rfl rfl
  revert hi; unfold eqPart; split <;> intro hi <;> trivial

theorem lantern_in {s : State} {x : Lantern} {m : Nat} {s₀ : State} (h : Within m s₀ s) (hm : 256 ||| m = m) : Within m s₀ { s with lantern := x } := h.step (lantern_within ..) hm

theorem ctxs_within (s : State) (x : Sparse Ctx) : Within 8192 s { s with ctxs := x } := by
  refine within_of (fun i hi => ?_) rfl rfl rfl
  revert hi; unfold eqPart; split <;> intro hi <;> trivial

theorem ctxs_in {s : State} {x : Sparse Ctx} {m : Nat} {s₀ : State} (h : Within m s₀ s) (hm : 8192 ||| m = m) : Within m s₀ { s with ctxs := x } := h.step (ctxs_within ..) hm

theorem nextCtx_within (s : State) (x : Nat) : Within 16384 s { s with nextCtx := x } := by
  refine within_of (fun i hi => ?_) rfl rfl rfl
  revert hi; unfold eqPart; split <;> intro hi <;> trivial

theorem nextCtx_in {s : State} {x : Nat} {m : Nat} {s₀ : State} (h : Within m s₀ s) (hm : 16384 ||| m = m) : Within m s₀ { s with nextCtx := x } := h.step (nextCtx_within ..) hm

theorem groups_within (s : State) (x : Sparse Group) : Within 32768 s { s with groups := x } := by
  refine within_of (fun i hi => ?_) rfl rfl rfl
  revert hi; unfold eqPart; split <;> intro hi <;> trivial

theorem groups_in {s : State} {x : Sparse Group} {m : Nat} {s₀ : State} (h : Within m s₀ s) (hm : 32768 ||| m = m) : Within m s₀ { s with groups := x } := h.step (groups_within ..) hm

theorem units_within (s : State) (x : Sparse UnitSt) : Within 65536 s { s with units := x } := by
  refine within_of (fun i hi => ?_) rfl rfl rfl
  revert hi; unfold eqPart; split <;> intro hi <;> trivial

theorem units_in {s : State} {x : Sparse UnitSt} {m : Nat} {s₀ : State} (h : Within m s₀ s) (hm : 65536 ||| m = m) : Within m s₀ { s with units := x } := h.step (units_within ..) hm

theorem clusters_within (s : State) (x : Sparse Cluster) : Within 131072 s { s with clusters := x } := by
  refine within_of (fun i hi => ?_) rfl rfl rfl
  revert hi; unfold eqPart; split <;> intro hi <;> trivial

theorem clusters_in {s : State} {x : Sparse Cluster} {m : Nat} {s₀ : State} (h : Within m s₀ s) (hm : 131072 ||| m = m) : Within m s₀ { s with clusters := x } := h.step (clusters_within ..) hm

theorem sync_within (s : State) (x : SyncSys) : Within 262144 s { s with sync := x } := by
  refine within_of (fun i hi => ?_) rfl rfl rfl
  revert hi; unfold eqPart; split <;> intro hi <;> trivial

theorem sync_in {s : State} {x : SyncSys} {m : Nat} {s₀ : State} (h : Within m s₀ s) (hm : 262144 ||| m = m) : Within m s₀ { s with sync := x } := h.step (sync_within ..) hm

theorem fabric_within (s : State) (x : Fabric) : Within 524288 s { s with fabric := x } := by
  refine within_of (fun i hi => ?_) rfl rfl rfl
  revert hi; unfold eqPart; split <;> intro hi <;> trivial

theorem fabric_in {s : State} {x : Fabric} {m : Nat} {s₀ : State} (h : Within m s₀ s) (hm : 524288 ||| m = m) : Within m s₀ { s with fabric := x } := h.step (fabric_within ..) hm

theorem carrier_within (s : State) (x : Carrier) : Within 1048576 s { s with carrier := x } := by
  refine within_of (fun i hi => ?_) rfl rfl rfl
  revert hi; unfold eqPart; split <;> intro hi <;> trivial

theorem carrier_in {s : State} {x : Carrier} {m : Nat} {s₀ : State} (h : Within m s₀ s) (hm : 1048576 ||| m = m) : Within m s₀ { s with carrier := x } := h.step (carrier_within ..) hm

theorem risk_within (s : State) (x : Risk) : Within 2097152 s { s with risk := x } := by
  refine within_of (fun i hi => ?_) rfl rfl rfl
  revert hi; unfold eqPart; split <;> intro hi <;> trivial

theorem risk_in {s : State} {x : Risk} {m : Nat} {s₀ : State} (h : Within m s₀ s) (hm : 2097152 ||| m = m) : Within m s₀ { s with risk := x } := h.step (risk_within ..) hm

theorem journals_within (s : State) (x : Sparse Job) : Within 4194304 s { s with journals := x } := by
  refine within_of (fun i hi => ?_) rfl rfl rfl
  revert hi; unfold eqPart; split <;> intro hi <;> trivial

theorem journals_in {s : State} {x : Sparse Job} {m : Nat} {s₀ : State} (h : Within m s₀ s) (hm : 4194304 ||| m = m) : Within m s₀ { s with journals := x } := h.step (journals_within ..) hm

theorem counters_within (s : State) (x : Sparse Nat) : Within 8388608 s { s with counters := x } := by
  refine within_of (fun i hi => ?_) rfl rfl rfl
  revert hi; unfold eqPart; split <;> intro hi <;> trivial

theorem counters_in {s : State} {x : Sparse Nat} {m : Nat} {s₀ : State} (h : Within m s₀ s) (hm : 8388608 ||| m = m) : Within m s₀ { s with counters := x } := h.step (counters_within ..) hm

theorem tx_within (s : State) (x : Tx) : Within 16777216 s { s with tx := x } := by
  refine within_of (fun i hi => ?_) rfl rfl rfl
  revert hi; unfold eqPart; split <;> intro hi <;> trivial

theorem tx_in {s : State} {x : Tx} {m : Nat} {s₀ : State} (h : Within m s₀ s) (hm : 16777216 ||| m = m) : Within m s₀ { s with tx := x } := h.step (tx_within ..) hm

theorem State.setKeep_within (s : State) (x : Keep) (h : x.svn = s.keep.svn) : Within 512 s (s.setKeep x) := by
  refine within_of (fun i hi => ?_) rfl rfl h
  revert hi; unfold eqPart; split <;> intro hi <;> trivial

theorem State.setKeep_raises (s : State) (x : Keep) (h : s.keep.svn ≤ x.svn) : Within 1536 s (s.setKeep x) := by
  refine ⟨fun i hi => ?_, ⟨id, id, h⟩⟩
  revert hi; unfold eqPart; split <;> intro hi <;> trivial

theorem State.setMem_within (s : State) (b : Sparse Byte) (h : Memory.wf s.mem.bytes = true → Memory.wf b = true) : Within 4096 s (s.setMem b) := by
  refine ⟨fun i hi => ?_, ⟨h, id, Nat.le_refl _⟩⟩
  revert hi; unfold eqPart; split <;> intro hi <;> trivial

theorem State.setHost_within (s : State) (b : Sparse Byte) (h : Memory.wf s.hostMem = true → Memory.wf b = true) : Within 64 s (s.setHost b) := by
  refine ⟨fun i hi => ?_, ⟨id, h, Nat.le_refl _⟩⟩
  revert hi; unfold eqPart; split <;> intro hi <;> trivial

/-- The memory system changed, its bytes as they were. -/
theorem State.setMemSys_within (s : State) (x : MemSys) (h : x.bytes = s.mem.bytes) : Within 2048 s (s.setMemSys x) := by
  refine within_of (fun i hi => ?_) h rfl rfl
  revert hi; unfold eqPart; split <;> intro hi <;> trivial

theorem State.setMemSys_stores (s : State) (x : MemSys) (h : Memory.wf s.mem.bytes = true → Memory.wf x.bytes = true) : Within 6144 s (s.setMemSys x) := by
  refine ⟨fun i hi => ?_, ⟨h, id, Nat.le_refl _⟩⟩
  revert hi; unfold eqPart; split <;> intro hi <;> trivial

theorem memSys_within (s : State) (x : MemSys) (h : x.bytes = s.mem.bytes) : Within 2048 s { s with mem := x } := State.setMemSys_within s x h

theorem keep_within (s : State) (x : Keep) (h : x.svn = s.keep.svn) : Within 512 s { s with keep := x } := State.setKeep_within s x h

theorem State.setKeep_in {s : State} {x : Keep} {m : Nat} {s₀ : State} (k : x.svn = s.keep.svn) (h : Within m s₀ s) (hm : 512 ||| m = m) :
    Within m s₀ (s.setKeep x) := h.step (State.setKeep_within s x k) hm

theorem State.setMem_in {s : State} {b : Sparse Byte} {m : Nat} {s₀ : State} (k : Memory.wf s.mem.bytes = true → Memory.wf b = true) (h : Within m s₀ s)
    (hm : 4096 ||| m = m) : Within m s₀ (s.setMem b) := h.step (State.setMem_within s b k) hm

theorem State.setHost_in {s : State} {b : Sparse Byte} {m : Nat} {s₀ : State} (k : Memory.wf s.hostMem = true → Memory.wf b = true) (h : Within m s₀ s)
    (hm : 64 ||| m = m) : Within m s₀ (s.setHost b) := h.step (State.setHost_within s b k) hm

theorem State.setMemSys_in {s : State} {x : MemSys} {m : Nat} {s₀ : State} (k : x.bytes = s.mem.bytes) (h : Within m s₀ s) (hm : 2048 ||| m = m) :
    Within m s₀ (s.setMemSys x) := h.step (State.setMemSys_within s x k) hm

theorem mem_in {s : State} {x : MemSys} {m : Nat} {s₀ : State} (k : x.bytes = s.mem.bytes) (h : Within m s₀ s) (hm : 2048 ||| m = m) :
    Within m s₀ { s with mem := x } := h.step (State.setMemSys_within s x k) hm

theorem keep_in {s : State} {x : Keep} {m : Nat} {s₀ : State} (k : x.svn = s.keep.svn) (h : Within m s₀ s) (hm : 512 ||| m = m) :
    Within m s₀ { s with keep := x } := h.step (State.setKeep_within s x k) hm

/-! ## Commands and instructions -/

/-- What running a command did lies within `m`. -/
def RanWithin (m : Nat) (s : State) : Ran → Prop
  | .fin t _ _ _ => Within m s t
  | .keep t _ => Within m s t
  | .gone t => Within m s t
  | .later => True

/-- What issuing an instruction did lies within `m`. -/
def ResWithin (m : Nat) (s : State) : Res → Prop
  | .done t => Within m s t
  | .jumped t => Within m s t
  | .parked t => Within m s t
  | .trap _ => True
  | .notReady => True

theorem ResWithin.done {m : Nat} {s t : State} (h : Within m s t) : ResWithin m s (.done t) := h

theorem ResWithin.jumped {m : Nat} {s t : State} (h : Within m s t) : ResWithin m s (.jumped t) := h

theorem ResWithin.parked {m : Nat} {s t : State} (h : Within m s t) : ResWithin m s (.parked t) := h

theorem ResWithin.trap (m : Nat) (s : State) (x : Trap) : ResWithin m s (.trap x) := trivial

theorem ResWithin.notReady (m : Nat) (s : State) : ResWithin m s .notReady := trivial

theorem ResWithin.of_done {m : Nat} {s t : State} {x : Res} (e : x = .done t) (h : ResWithin m s x) : Within m s t := by subst e; exact h

theorem ResWithin.of_parked {m : Nat} {s t : State} {x : Res} (e : x = .parked t) (h : ResWithin m s x) : Within m s t := by subst e; exact h

theorem Within.ite_fst {α : Type} {m : Nat} {s : State} {p : Prop} [Decidable p] {a b : State × α} (h : p → Within m s a.1) (k : ¬p → Within m s b.1) :
    Within m s (if p then a else b).1 := by
  split
  · exact h ‹_›
  · exact k ‹_›

theorem Within.foldl_fst {α β : Type} {m : Nat} {s : State} {f : State × β → α → State × β} {l : List α} {x : State × β} (h : Within m s x.1)
    (hf : ∀ y a, Within m y.1 (f y a).1) : Within m s (l.foldl f x).1 := by
  induction l generalizing x with
  | nil => exact h
  | cons a l ih => exact ih (h.trans (hf x a))

theorem Within.foldl_proj {α β : Type} {m : Nat} {s : State} {g : β → State} {f : β → α → β} {l : List α} {x : β} (h : Within m s (g x))
    (hf : ∀ y a, Within m (g y) (g (f y a))) : Within m s (g (l.foldl f x)) := by
  induction l generalizing x with
  | nil => exact h
  | cons a l ih => exact ih (h.trans (hf x a))

theorem Within.ite_proj {α : Type} {m : Nat} {s : State} {p : Prop} [Decidable p] {g : α → State} {a b : α} (h : p → Within m s (g a))
    (k : ¬p → Within m s (g b)) : Within m s (g (if p then a else b)) := by
  split
  · exact h ‹_›
  · exact k ‹_›

theorem RanWithin.mono {m n : Nat} {s : State} {x : Ran} (h : RanWithin n s x) (hm : n ||| m = m) : RanWithin m s x := by
  cases x <;> first | exact Within.mono h hm | trivial

theorem RanWithin.step {m n : Nat} {s t : State} {x : Ran} (h : Within m s t) (k : RanWithin n t x) (hm : n ||| m = m) : RanWithin m s x := by
  cases x <;> first | exact Within.step h k hm | trivial

theorem ResWithin.mono {m n : Nat} {s : State} {x : Res} (h : ResWithin n s x) (hm : n ||| m = m) : ResWithin m s x := by
  cases x <;> first | exact Within.mono h hm | trivial

theorem ResWithin.step {m n : Nat} {s t : State} {x : Res} (h : Within m s t) (k : ResWithin n t x) (hm : n ||| m = m) : ResWithin m s x := by
  cases x <;> first | exact Within.step h k hm | trivial

end Sys2Proof.Machine
end

