-- ==== Sys2Proof/Laws/Within/Ops.lean ====
section
/-! SUPPORT. What the operations of Machine/Ops.lean may touch: one lemma for each. -/

namespace Sys2Proof.Machine

open Sys2Proof

set_option linter.unusedTactic false
set_option linter.unreachableTactic false

theorem idle_within (s : State) : Within 4 s (idle s) := by
  unfold idle
  repeat' (first
    | assumption
    | with_reducible (exact Within.refl _ _)
    | split
    | dsimp only
    | with_reducible refine time_in ?_ (by decide))

theorem idle_in {s : State} {which : Nat} {s₀ : State} (h₀ : Within which s₀ s) (hm₀ : 4 ||| which = which) : Within which s₀ (idle s) :=
  Within.step h₀ (idle_within ..) hm₀

theorem raiseCause_within (s : State) (r : RingId) (bit : Nat) : Within 16777232 s (raiseCause s r bit) := by
  unfold raiseCause
  repeat' (first
    | assumption
    | with_reducible (exact Within.refl _ _)
    | with_reducible refine State.setRing_in ?_ (by decide)
    | split
    | dsimp only
    | with_reducible refine tx_in ?_ (by decide))

theorem raiseCause_in {s : State} {r : RingId} {bit : Nat} {which : Nat} {s₀ : State} (h₀ : Within which s₀ s) (hm₀ : 16777232 ||| which = which) : Within which s₀ (raiseCause s r bit) :=
  Within.step h₀ (raiseCause_within ..) hm₀

theorem ringWrite_within (s : State) (r : RingId) (a : Nat) (bs : List Byte) : Within 80 s (ringWrite s r a bs) := by
  unfold ringWrite
  repeat' (first
    | assumption
    | with_reducible (exact Within.refl _ _)
    | with_reducible refine State.setHost_in (fun h => Memory.wf_store _ _ h) ?_ (by decide)
    | with_reducible refine State.setRing_in ?_ (by decide)
    | split
    | dsimp only)

theorem ringWrite_in {s : State} {r : RingId} {a : Nat} {bs : List Byte} {which : Nat} {s₀ : State} (h₀ : Within which s₀ s) (hm₀ : 80 ||| which = which) : Within which s₀ (ringWrite s r a bs) :=
  Within.step h₀ (ringWrite_within ..) hm₀

theorem writeCq_within (s : State) (r : RingId) (e : CqEntry) : Within 16777296 s (writeCq s r e) := by
  unfold writeCq
  repeat' (first
    | assumption
    | with_reducible (exact Within.refl _ _)
    | with_reducible refine State.setRing_in ?_ (by decide)
    | with_reducible refine raiseCause_in ?_ (by decide)
    | with_reducible refine ringWrite_in ?_ (by decide)
    | split
    | dsimp only)

theorem writeCq_in {s : State} {r : RingId} {e : CqEntry} {which : Nat} {s₀ : State} (h₀ : Within which s₀ s) (hm₀ : 16777296 ||| which = which) : Within which s₀ (writeCq s r e) :=
  Within.step h₀ (writeCq_within ..) hm₀

theorem postCompletion_within (s : State) (r : RingId) (e : CqEntry) : Within 16777296 s (postCompletion s r e) := by
  unfold postCompletion
  repeat' (first
    | assumption
    | with_reducible (exact Within.refl _ _)
    | with_reducible refine State.setRing_in ?_ (by decide)
    | with_reducible refine writeCq_in ?_ (by decide)
    | split
    | dsimp only)

theorem postCompletion_in {s : State} {r : RingId} {e : CqEntry} {which : Nat} {s₀ : State} (h₀ : Within which s₀ s) (hm₀ : 16777296 ||| which = which) : Within which s₀ (postCompletion s r e) :=
  Within.step h₀ (postCompletion_within ..) hm₀

theorem postEvent_within (s : State) (fn code detail : Nat) (rec : List Byte) : Within 25165936 s (postEvent s fn code detail rec) := by
  unfold postEvent
  repeat' (first
    | assumption
    | with_reducible (exact Within.refl _ _)
    | with_reducible refine State.bump_in ?_ (by decide)
    | with_reducible refine State.setFev_in ?_ (by decide)
    | with_reducible refine raiseCause_in ?_ (by decide)
    | with_reducible refine writeCq_in ?_ (by decide)
    | split
    | dsimp only)

theorem postEvent_in {s : State} {fn code detail : Nat} {rec : List Byte} {which : Nat} {s₀ : State} (h₀ : Within which s₀ s) (hm₀ : 25165936 ||| which = which) : Within which s₀ (postEvent s fn code detail rec) :=
  Within.step h₀ (postEvent_within ..) hm₀

theorem postBoth_within (s : State) (i code detail : Nat) (rec : List Byte) : Within 25165936 s (postBoth s i code detail rec) := by
  unfold postBoth
  repeat' (first
    | assumption
    | with_reducible (exact Within.refl _ _)
    | with_reducible refine postEvent_in ?_ (by decide)
    | split
    | dsimp only)

theorem postBoth_in {s : State} {i code detail : Nat} {rec : List Byte} {which : Nat} {s₀ : State} (h₀ : Within which s₀ s) (hm₀ : 25165936 ||| which = which) : Within which s₀ (postBoth s i code detail rec) :=
  Within.step h₀ (postBoth_within ..) hm₀

theorem setPoison_within (s : State) (a : Nat) (p : Bool) : Within 2048 s (setPoison s a p) := by
  unfold setPoison
  repeat' (first
    | assumption
    | with_reducible (exact Within.refl _ _)
    | split
    | dsimp only
    | with_reducible refine mem_in rfl ?_ (by decide))

theorem setPoison_in {s : State} {a : Nat} {p : Bool} {which : Nat} {s₀ : State} (h₀ : Within which s₀ s) (hm₀ : 2048 ||| which = which) : Within which s₀ (setPoison s a p) :=
  Within.step h₀ (setPoison_within ..) hm₀

theorem postPoison_within (s : State) (a : Nat) : Within 25165936 s (postPoison s a) := by
  unfold postPoison
  repeat' (first
    | assumption
    | with_reducible (exact Within.refl _ _)
    | with_reducible refine postEvent_in ?_ (by decide)
    | with_reducible refine postBoth_in ?_ (by decide)
    | split
    | dsimp only)

theorem postPoison_in {s : State} {a : Nat} {which : Nat} {s₀ : State} (h₀ : Within which s₀ s) (hm₀ : 25165936 ||| which = which) : Within which s₀ (postPoison s a) :=
  Within.step h₀ (postPoison_within ..) hm₀

theorem newlyPoison_within (s : State) (a : Nat) : Within 25167984 s (newlyPoison s a) := by
  unfold newlyPoison
  repeat' (first
    | assumption
    | with_reducible (exact Within.refl _ _)
    | with_reducible refine State.bump_in ?_ (by decide)
    | with_reducible refine setPoison_in ?_ (by decide)
    | with_reducible refine postPoison_in ?_ (by decide)
    | split
    | dsimp only)

theorem newlyPoison_in {s : State} {a : Nat} {which : Nat} {s₀ : State} (h₀ : Within which s₀ s) (hm₀ : 25167984 ||| which = which) : Within which s₀ (newlyPoison s a) :=
  Within.step h₀ (newlyPoison_within ..) hm₀

theorem miscorrect_within (s : State) (g : Nat) : Within 27269240 s (miscorrect s g) := by
  unfold miscorrect
  repeat' (first
    | assumption
    | with_reducible (exact Within.refl _ _)
    | with_reducible refine State.setMem_in (fun h => Memory.wf_store _ _ h) ?_ (by decide)
    | with_reducible refine State.tick_in ?_ (by decide)
    | with_reducible refine Run.bytes_in ?_ (by decide)
    | split
    | dsimp only)

theorem miscorrect_in {s : State} {g : Nat} {which : Nat} {s₀ : State} (h₀ : Within which s₀ s) (hm₀ : 27269240 ||| which = which) : Within which s₀ (miscorrect s g) :=
  Within.step h₀ (miscorrect_within ..) hm₀

theorem noteCorrectable_within (s : State) : Within 2097152 s (noteCorrectable s) := by
  unfold noteCorrectable
  repeat' (first
    | assumption
    | with_reducible (exact Within.refl _ _)
    | split
    | dsimp only
    | with_reducible refine risk_in ?_ (by decide))

theorem noteCorrectable_in {s : State} {which : Nat} {s₀ : State} (h₀ : Within which s₀ s) (hm₀ : 2097152 ||| which = which) : Within which s₀ (noteCorrectable s) :=
  Within.step h₀ (noteCorrectable_within ..) hm₀

theorem meetKey_within (s : State) (k : Nat) : Within 27269240 s (meetKey s k) := by
  unfold meetKey
  repeat' (first
    | assumption
    | with_reducible (exact Within.refl _ _)
    | with_reducible refine State.bump_in ?_ (by decide)
    | with_reducible refine State.tick_in ?_ (by decide)
    | with_reducible refine newlyPoison_in ?_ (by decide)
    | with_reducible refine miscorrect_in ?_ (by decide)
    | with_reducible refine noteCorrectable_in ?_ (by decide)
    | split
    | dsimp only
    | with_reducible refine mem_in rfl ?_ (by decide))

theorem meetKey_in {s : State} {k : Nat} {which : Nat} {s₀ : State} (h₀ : Within which s₀ s) (hm₀ : 27269240 ||| which = which) : Within which s₀ (meetKey s k) :=
  Within.step h₀ (meetKey_within ..) hm₀

theorem meetError_within (s : State) (g : Nat) : Within 27269240 s (meetError s g) := by
  unfold meetError
  repeat' (first
    | assumption
    | with_reducible (exact Within.refl _ _)
    | with_reducible (refine Within.foldl ?_ (fun _ _ => ?_))
    | with_reducible (refine Within.foldl_fst ?_ (fun _ _ => ?_))
    | with_reducible refine meetKey_in ?_ (by decide)
    | split
    | dsimp only)

theorem meetError_in {s : State} {g : Nat} {which : Nat} {s₀ : State} (h₀ : Within which s₀ s) (hm₀ : 27269240 ||| which = which) : Within which s₀ (meetError s g) :=
  Within.step h₀ (meetError_within ..) hm₀

theorem touch_within (s : State) (a n : Nat) : Within 27269240 s (touch s a n) := by
  unfold touch
  repeat' (first
    | assumption
    | with_reducible (exact Within.refl _ _)
    | with_reducible (refine Within.foldl ?_ (fun _ _ => ?_))
    | with_reducible (refine Within.foldl_fst ?_ (fun _ _ => ?_))
    | with_reducible refine State.bump_in ?_ (by decide)
    | with_reducible refine meetKey_in ?_ (by decide)
    | split
    | dsimp only)

theorem touch_in {s : State} {a n : Nat} {which : Nat} {s₀ : State} (h₀ : Within which s₀ s) (hm₀ : 27269240 ||| which = which) : Within which s₀ (touch s a n) :=
  Within.step h₀ (touch_within ..) hm₀

theorem writeCell_within (whole : Bool) (covers reaches : Nat → Nat → Bool) (s : State) (g : Nat) : Within 27269240 s (writeCell whole covers reaches s g) := by
  unfold writeCell
  repeat' (first
    | assumption
    | with_reducible (exact Within.refl _ _)
    | with_reducible (refine Within.foldl ?_ (fun _ _ => ?_))
    | with_reducible (refine Within.foldl_fst ?_ (fun _ _ => ?_))
    | with_reducible refine State.bump_in ?_ (by decide)
    | with_reducible refine meetKey_in ?_ (by decide)
    | with_reducible refine meetError_in ?_ (by decide)
    | split
    | dsimp only
    | with_reducible refine mem_in rfl ?_ (by decide))

theorem writeCell_in {whole : Bool} {covers reaches : Nat → Nat → Bool} {s : State} {g : Nat} {which : Nat} {s₀ : State} (h₀ : Within which s₀ s) (hm₀ : 27269240 ||| which = which) : Within which s₀ (writeCell whole covers reaches s g) :=
  Within.step h₀ (writeCell_within ..) hm₀

theorem storeGranule_within (s : State) (a : Nat) (bs : List Byte) (g : Nat) : Within 27269240 s (storeGranule s a bs g) := by
  unfold storeGranule
  repeat' (first
    | assumption
    | with_reducible (exact Within.refl _ _)
    | with_reducible refine writeCell_in ?_ (by decide)
    | split
    | dsimp only)

theorem storeGranule_in {s : State} {a : Nat} {bs : List Byte} {g : Nat} {which : Nat} {s₀ : State} (h₀ : Within which s₀ s) (hm₀ : 27269240 ||| which = which) : Within which s₀ (storeGranule s a bs g) :=
  Within.step h₀ (storeGranule_within ..) hm₀

theorem storeMem_within (s : State) (a : Nat) (bs : List Byte) : Within 27269240 s (storeMem s a bs) := by
  unfold storeMem
  repeat' (first
    | assumption
    | with_reducible (exact Within.refl _ _)
    | with_reducible (refine Within.foldl ?_ (fun _ _ => ?_))
    | with_reducible (refine Within.foldl_fst ?_ (fun _ _ => ?_))
    | with_reducible refine State.setMem_in (fun h => Memory.wf_store _ _ h) ?_ (by decide)
    | with_reducible refine storeGranule_in ?_ (by decide)
    | with_reducible refine Run.bytes_in ?_ (by decide)
    | split
    | dsimp only)

theorem storeMem_in {s : State} {a : Nat} {bs : List Byte} {which : Nat} {s₀ : State} (h₀ : Within which s₀ s) (hm₀ : 27269240 ||| which = which) : Within which s₀ (storeMem s a bs) :=
  Within.step h₀ (storeMem_within ..) hm₀

theorem storeMarked_within (s : State) (a : Nat) (bs : List Byte) (p : Bool) : Within 27269240 s (storeMarked s a bs p) := by
  unfold storeMarked
  repeat' (first
    | assumption
    | with_reducible (exact Within.refl _ _)
    | with_reducible (refine Within.foldl ?_ (fun _ _ => ?_))
    | with_reducible (refine Within.foldl_fst ?_ (fun _ _ => ?_))
    | with_reducible refine setPoison_in ?_ (by decide)
    | with_reducible refine storeMem_in ?_ (by decide)
    | split
    | dsimp only)

theorem storeMarked_in {s : State} {a : Nat} {bs : List Byte} {p : Bool} {which : Nat} {s₀ : State} (h₀ : Within which s₀ s) (hm₀ : 27269240 ||| which = which) : Within which s₀ (storeMarked s a bs p) :=
  Within.step h₀ (storeMarked_within ..) hm₀

end Sys2Proof.Machine
end

