-- ==== Sys2Proof/Laws/Within/Ring.lean ====
section
/-! SUPPORT. What the operations of Machine/Ring.lean may touch: one lemma for each. -/

namespace Sys2Proof.Machine

open Sys2Proof

set_option linter.unusedTactic false
set_option linter.unreachableTactic false

theorem readBar0_within (s : State) (r : RingId) (off : Nat) : Within 16 s (readBar0 s r off) := by
  unfold readBar0
  repeat' (first
    | assumption
    | with_reducible (exact Within.refl _ _)
    | with_reducible refine State.setRing_in ?_ (by decide)
    | split
    | dsimp only)

theorem readBar0_in {s : State} {r : RingId} {off : Nat} {which : Nat} {s₀ : State} (h₀ : Within which s₀ s) (hm₀ : 16 ||| which = which) : Within which s₀ (readBar0 s r off) :=
  Within.step h₀ (readBar0_within ..) hm₀

theorem ringErr_within (s : State) (r : RingId) (e : RingErr) : Within 16777232 s (ringErr s r e) := by
  unfold ringErr
  repeat' (first
    | assumption
    | with_reducible (exact Within.refl _ _)
    | with_reducible refine State.setRing_in ?_ (by decide)
    | with_reducible refine raiseCause_in ?_ (by decide)
    | split
    | dsimp only)

theorem ringErr_in {s : State} {r : RingId} {e : RingErr} {which : Nat} {s₀ : State} (h₀ : Within which s₀ s) (hm₀ : 16777232 ||| which = which) : Within which s₀ (ringErr s r e) :=
  Within.step h₀ (ringErr_within ..) hm₀

theorem abortFetched_within (s : State) (r : RingId) : Within 16777304 s (abortFetched s r) := by
  unfold abortFetched
  repeat' (first
    | assumption
    | with_reducible (exact Within.refl _ _)
    | with_reducible (refine Within.foldl ?_ (fun _ _ => ?_))
    | with_reducible (refine Within.foldl_fst ?_ (fun _ _ => ?_))
    | with_reducible refine State.setRing_in ?_ (by decide)
    | with_reducible refine State.tick_in ?_ (by decide)
    | with_reducible refine postCompletion_in ?_ (by decide)
    | split
    | dsimp only)

theorem abortFetched_in {s : State} {r : RingId} {which : Nat} {s₀ : State} (h₀ : Within which s₀ s) (hm₀ : 16777304 ||| which = which) : Within which s₀ (abortFetched s r) :=
  Within.step h₀ (abortFetched_within ..) hm₀

theorem ringEnable_within (s : State) (r : RingId) (v : BitVec 32) : Within 16777232 s (ringEnable s r v) := by
  unfold ringEnable
  repeat' (first
    | assumption
    | with_reducible (exact Within.refl _ _)
    | with_reducible refine State.setRing_in ?_ (by decide)
    | with_reducible refine ringErr_in ?_ (by decide)
    | split
    | dsimp only)

theorem ringEnable_in {s : State} {r : RingId} {v : BitVec 32} {which : Nat} {s₀ : State} (h₀ : Within which s₀ s) (hm₀ : 16777232 ||| which = which) : Within which s₀ (ringEnable s r v) :=
  Within.step h₀ (ringEnable_within ..) hm₀

theorem writeCtrl_within (s : State) (r : RingId) (v : BitVec 32) : Within 16777304 s (writeCtrl s r v) := by
  unfold writeCtrl
  repeat' (first
    | assumption
    | with_reducible (exact Within.refl _ _)
    | with_reducible refine State.setRing_in ?_ (by decide)
    | with_reducible refine ringErr_in ?_ (by decide)
    | with_reducible refine abortFetched_in ?_ (by decide)
    | with_reducible refine ringEnable_in ?_ (by decide)
    | split
    | dsimp only)

theorem writeCtrl_in {s : State} {r : RingId} {v : BitVec 32} {which : Nat} {s₀ : State} (h₀ : Within which s₀ s) (hm₀ : 16777304 ||| which = which) : Within which s₀ (writeCtrl s r v) :=
  Within.step h₀ (writeCtrl_within ..) hm₀

theorem writeBase_within (s : State) (r : RingId) (off : Nat) (wide : Bool) (v : BitVec 64) : Within 16777232 s (writeBase s r off wide v) := by
  unfold writeBase
  repeat' (first
    | assumption
    | with_reducible (exact Within.refl _ _)
    | with_reducible refine State.setRing_in ?_ (by decide)
    | with_reducible refine ringErr_in ?_ (by decide)
    | split
    | dsimp only)

theorem writeBase_in {s : State} {r : RingId} {off : Nat} {wide : Bool} {v : BitVec 64} {which : Nat} {s₀ : State} (h₀ : Within which s₀ s) (hm₀ : 16777232 ||| which = which) : Within which s₀ (writeBase s r off wide v) :=
  Within.step h₀ (writeBase_within ..) hm₀

theorem acceptCmd_within (s : State) (r : RingId) (c : OutCmd) : Within 25165912 s (acceptCmd s r c) := by
  unfold acceptCmd
  repeat' (first
    | assumption
    | with_reducible (exact Within.refl _ _)
    | with_reducible refine State.bump_in ?_ (by decide)
    | with_reducible refine State.setRing_in ?_ (by decide)
    | with_reducible refine State.tick_in ?_ (by decide)
    | with_reducible refine postCompletion_in ?_ (by decide)
    | split
    | dsimp only)

theorem acceptCmd_in {s : State} {r : RingId} {c : OutCmd} {which : Nat} {s₀ : State} (h₀ : Within which s₀ s) (hm₀ : 25165912 ||| which = which) : Within which s₀ (acceptCmd s r c) :=
  Within.step h₀ (acceptCmd_within ..) hm₀

theorem fetchLoop_within (r : RingId) (n : Nat) (s : State) : Within 25165912 s (fetchLoop r n s) := by
  induction n generalizing s with
  | zero => exact Within.refl _ _
  | succ n ih =>
    unfold fetchLoop
    dsimp only
    split
    · exact Within.refl _ _
    · split
      · refine State.setRing_in ?_ (by decide)
        refine ringErr_in ?_ (by decide)
        exact Within.refl _ _
      · refine Within.trans ?_ (ih _)
        refine acceptCmd_in ?_ (by decide)
        exact (State.setRing_within ..).mono (by decide)

theorem fetchLoop_in {r : RingId} {n : Nat} {s : State} {m : Nat} {s₀ : State} (h : Within m s₀ s) (hm : 25165912 ||| m = m) : Within m s₀ (fetchLoop r n s) :=
  Within.step h (fetchLoop_within ..) hm

theorem doorbell_within (s : State) (r : RingId) (v : BitVec 32) : Within 25165912 s (doorbell s r v) := by
  unfold doorbell
  repeat' (first
    | assumption
    | with_reducible (exact Within.refl _ _)
    | with_reducible refine State.setRing_in ?_ (by decide)
    | with_reducible refine ringErr_in ?_ (by decide)
    | with_reducible refine fetchLoop_in ?_ (by decide)
    | split
    | dsimp only)

theorem doorbell_in {s : State} {r : RingId} {v : BitVec 32} {which : Nat} {s₀ : State} (h₀ : Within which s₀ s) (hm₀ : 25165912 ||| which = which) : Within which s₀ (doorbell s r v) :=
  Within.step h₀ (doorbell_within ..) hm₀

theorem writeReg_within (s : State) (r : RingId) (off : Nat) (v : BitVec 32) : Within 25165912 s (writeReg s r off v) := by
  unfold writeReg
  repeat' (first
    | assumption
    | with_reducible (exact Within.refl _ _)
    | with_reducible refine State.setRing_in ?_ (by decide)
    | with_reducible refine writeCtrl_in ?_ (by decide)
    | with_reducible refine writeBase_in ?_ (by decide)
    | with_reducible refine doorbell_in ?_ (by decide)
    | split
    | dsimp only)

theorem writeReg_in {s : State} {r : RingId} {off : Nat} {v : BitVec 32} {which : Nat} {s₀ : State} (h₀ : Within which s₀ s) (hm₀ : 25165912 ||| which = which) : Within which s₀ (writeReg s r off v) :=
  Within.step h₀ (writeReg_within ..) hm₀

theorem ringStopped_within (s : State) (r : RingId) : Within 16 s (ringStopped s r) := by
  unfold ringStopped
  repeat' (first
    | assumption
    | with_reducible (exact Within.refl _ _)
    | with_reducible refine State.setRing_in ?_ (by decide)
    | split
    | dsimp only)

theorem ringStopped_in {s : State} {r : RingId} {which : Nat} {s₀ : State} (h₀ : Within which s₀ s) (hm₀ : 16 ||| which = which) : Within which s₀ (ringStopped s r) :=
  Within.step h₀ (ringStopped_within ..) hm₀

theorem deferred_within (s : State) (r : RingId) : Within 16777328 s (deferred s r) := by
  unfold deferred
  repeat' (first
    | assumption
    | with_reducible (exact Within.refl _ _)
    | with_reducible refine State.setFev_in ?_ (by decide)
    | with_reducible refine State.setRing_in ?_ (by decide)
    | with_reducible refine writeCq_in ?_ (by decide)
    | split
    | dsimp only)

theorem deferred_in {s : State} {r : RingId} {which : Nat} {s₀ : State} (h₀ : Within which s₀ s) (hm₀ : 16777328 ||| which = which) : Within which s₀ (deferred s r) :=
  Within.step h₀ (deferred_within ..) hm₀

theorem forgetHost_within (s : State) (r : RingId) (tag : Option (BitVec 16)) : Within 262144 s (forgetHost s r tag) := by
  unfold forgetHost
  repeat' (first
    | assumption
    | with_reducible (exact Within.refl _ _)
    | with_reducible refine State.setSync_in ?_ (by decide)
    | split
    | dsimp only)

theorem forgetHost_in {s : State} {r : RingId} {tag : Option (BitVec 16)} {which : Nat} {s₀ : State} (h₀ : Within which s₀ s) (hm₀ : 262144 ||| which = which) : Within which s₀ (forgetHost s r tag) :=
  Within.step h₀ (forgetHost_within ..) hm₀

theorem flr_within (s : State) (r : RingId) : Within 262160 s (flr s r) := by
  unfold flr
  repeat' (first
    | assumption
    | with_reducible (exact Within.refl _ _)
    | with_reducible refine State.setRing_in ?_ (by decide)
    | with_reducible refine forgetHost_in ?_ (by decide)
    | split
    | dsimp only)

theorem flr_in {s : State} {r : RingId} {which : Nat} {s₀ : State} (h₀ : Within which s₀ s) (hm₀ : 262160 ||| which = which) : Within which s₀ (flr s r) :=
  Within.step h₀ (flr_within ..) hm₀

end Sys2Proof.Machine
end

