-- ==== Sys2Proof/Laws/Within/Mailbox.lean ====
section
/-! SUPPORT. What the operations of Machine/Mailbox.lean may touch: one lemma for each. -/

namespace Sys2Proof.Machine

open Sys2Proof

set_option linter.unusedTactic false
set_option linter.unreachableTactic false

theorem RanWithin.fin {m : Nat} {s t : State} {a b : Nat} {bs : List Byte} (h : Within m s t) : RanWithin m s (.fin t a b bs) := h

theorem RanWithin.keep {m : Nat} {s t : State} {n : Nat} (h : Within m s t) : RanWithin m s (.keep t n) := h

theorem RanWithin.gone {m : Nat} {s t : State} (h : Within m s t) : RanWithin m s (.gone t) := h

theorem RanWithin.later (m : Nat) (s : State) : RanWithin m s .later := trivial

theorem Ran.ok_within (s : State) : RanWithin 0 s (Ran.ok s) := Within.refl _ _

theorem Ran.ok_in {s : State} {m : Nat} {s₀ : State} (h : Within m s₀ s) (hm : 0 ||| m = m) : RanWithin m s₀ (Ran.ok s) :=
  RanWithin.step h (Ran.ok_within ..) hm

theorem Ran.okWith_within (s : State) (bytes : List Byte) : RanWithin 0 s (Ran.okWith s bytes) := Within.refl _ _

theorem Ran.okWith_in {s : State} {bytes : List Byte} {m : Nat} {s₀ : State} (h : Within m s₀ s) (hm : 0 ||| m = m) : RanWithin m s₀ (Ran.okWith s bytes) :=
  RanWithin.step h (Ran.okWith_within ..) hm

theorem Ran.badArg_within (s : State) (off : Nat) : RanWithin 0 s (Ran.badArg s off) := Within.refl _ _

theorem Ran.badArg_in {s : State} {off : Nat} {m : Nat} {s₀ : State} (h : Within m s₀ s) (hm : 0 ||| m = m) : RanWithin m s₀ (Ran.badArg s off) :=
  RanWithin.step h (Ran.badArg_within ..) hm

theorem Ran.denied_within (s : State) (reason : Nat) : RanWithin 0 s (Ran.denied s reason) := Within.refl _ _

theorem Ran.denied_in {s : State} {reason : Nat} {m : Nat} {s₀ : State} (h : Within m s₀ s) (hm : 0 ||| m = m) : RanWithin m s₀ (Ran.denied s reason) :=
  RanWithin.step h (Ran.denied_within ..) hm

theorem Ran.unsupported_within (s : State) : RanWithin 0 s (Ran.unsupported s) := Within.refl _ _

theorem Ran.unsupported_in {s : State} {m : Nat} {s₀ : State} (h : Within m s₀ s) (hm : 0 ||| m = m) : RanWithin m s₀ (Ran.unsupported s) :=
  RanWithin.step h (Ran.unsupported_within ..) hm

theorem Ran.notInState_within (s : State) (now : Nat) : RanWithin 0 s (Ran.notInState s now) := Within.refl _ _

theorem Ran.notInState_in {s : State} {now : Nat} {m : Nat} {s₀ : State} (h : Within m s₀ s) (hm : 0 ||| m = m) : RanWithin m s₀ (Ran.notInState s now) :=
  RanWithin.step h (Ran.notInState_within ..) hm

theorem Ran.notInStateFree_within (s : State) : RanWithin 8 s (Ran.notInStateFree s) := State.tick_within s

theorem Ran.notInStateFree_in {s : State} {m : Nat} {s₀ : State} (h : Within m s₀ s) (hm : 8 ||| m = m) : RanWithin m s₀ (Ran.notInStateFree s) :=
  RanWithin.step h (Ran.notInStateFree_within ..) hm

theorem Ran.resource_within (s : State) (id : Nat) : RanWithin 0 s (Ran.resource s id) := Within.refl _ _

theorem Ran.resource_in {s : State} {id : Nat} {m : Nat} {s₀ : State} (h : Within m s₀ s) (hm : 0 ||| m = m) : RanWithin m s₀ (Ran.resource s id) :=
  RanWithin.step h (Ran.resource_within ..) hm

theorem finish_within (s : State) (r : RingId) (tag : BitVec 16) (status detail : Nat) (bytes : List Byte) : Within 16777296 s (finish s r tag status detail bytes) := by
  unfold finish
  repeat' (first
    | assumption
    | with_reducible (exact Within.refl _ _)
    | with_reducible refine State.setRing_in ?_ (by decide)
    | with_reducible refine ringWrite_in ?_ (by decide)
    | with_reducible refine postCompletion_in ?_ (by decide)
    | with_reducible refine ringErr_in ?_ (by decide)
    | split
    | dsimp only)

theorem finish_in {s : State} {r : RingId} {tag : BitVec 16} {status detail : Nat} {bytes : List Byte} {which : Nat} {s₀ : State} (h₀ : Within which s₀ s) (hm₀ : 16777296 ||| which = which) : Within which s₀ (finish s r tag status detail bytes) :=
  Within.step h₀ (finish_within ..) hm₀

theorem setOut_within (s : State) (r : RingId) (tag : BitVec 16) (f : OutCmd → OutCmd) : Within 16 s (setOut s r tag f) := by
  unfold setOut
  repeat' (first
    | assumption
    | with_reducible (exact Within.refl _ _)
    | with_reducible refine State.setRing_in ?_ (by decide)
    | split
    | dsimp only)

theorem setOut_in {s : State} {r : RingId} {tag : BitVec 16} {f : OutCmd → OutCmd} {which : Nat} {s₀ : State} (h₀ : Within which s₀ s) (hm₀ : 16 ||| which = which) : Within which s₀ (setOut s r tag f) :=
  Within.step h₀ (setOut_within ..) hm₀

theorem noteDeferred_within (s : State) (r : RingId) (c : OutCmd) : Within 8388624 s (noteDeferred s r c) := by
  unfold noteDeferred
  repeat' (first
    | assumption
    | with_reducible (exact Within.refl _ _)
    | with_reducible refine State.bump_in ?_ (by decide)
    | with_reducible refine setOut_in ?_ (by decide)
    | split
    | dsimp only)

theorem noteDeferred_in {s : State} {r : RingId} {c : OutCmd} {which : Nat} {s₀ : State} (h₀ : Within which s₀ s) (hm₀ : 8388624 ||| which = which) : Within which s₀ (noteDeferred s r c) :=
  Within.step h₀ (noteDeferred_within ..) hm₀

theorem ranState_within {m : Nat} {s : State} {r : RingId} {tag : BitVec 16} {x : Ran} (h : RanWithin m s x) (hm : 16777296 ||| m = m) :
    Within m s (ranState s r tag x) := by
  cases x with
  | fin t st d bs => exact Within.step h (finish_within ..) hm
  | keep t n => exact Within.step h (setOut_within ..) (by rw [← hm, ← Nat.or_assoc]; rfl)
  | gone t => exact h
  | later => exact Within.refl _ _

theorem runGood_within {m : Nat} {k : Cmd} {s : State} {r : RingId} {c : OutCmd} (h : ∀ t x, RanWithin m t (k.run t r x)) (hm : 16777296 ||| m = m) :
    Within m s (runGood k s r c) := by
  unfold runGood; split
  · exact (finish_within ..).mono hm
  · have h1 : Within m s (setOut s r c.tag (fun _ => { c with started := true })) := (setOut_within ..).mono (by rw [← hm, ← Nat.or_assoc]; rfl)
    have h2 := h (setOut s r c.tag (fun _ => { c with started := true })) c
    revert h2
    cases k.run (setOut s r c.tag (fun _ => { c with started := true })) r c with
    | fin t st d bs => exact fun h2 => (h1.trans h2).step (finish_within ..) hm
    | keep t n => exact fun h2 => (h1.trans h2).step (setOut_within ..) (by rw [← hm, ← Nat.or_assoc]; rfl)
    | gone t => exact fun h2 => h1.trans h2
    | later => exact fun _ => Within.refl _ _

theorem start_within {m : Nat} {k : Cmd} {s : State} {r : RingId} {c : OutCmd} (h : ∀ t x, RanWithin m t (k.run t r x)) (hm : 16777296 ||| m = m) :
    Within m s (start k s r c) := by
  have hr : 16777232 ||| m = m := by rw [← hm, ← Nat.or_assoc]; rfl
  unfold start
  split
  · exact (finish_within ..).mono hm
  · split
    · exact (Within.step (Within.refl m s) (ringErr_within ..) (by rw [← hm, ← Nat.or_assoc]; rfl)).step (finish_within ..) hm
    · split
      · exact (finish_within ..).mono hm
      · exact runGood_within h hm

/-- The row of a command stays within what its effect and its completion touch. -/
theorem runCmd_within {m : Nat} {k : Cmd} {s t : State} {r : RingId} {tag : BitVec 16} (h : ∀ t x, RanWithin m t (k.run t r x))
    (ha : ∀ t x, RanWithin m t (k.again t r x)) (hm : 25165904 ||| m = m) (he : runCmd k r tag s = .next t) : Within m s t := by
  have hf : 16777296 ||| m = m := by rw [← hm, ← Nat.or_assoc]; rfl
  unfold runCmd at he
  split at he
  · cases he; exact Within.refl _ _
  · split at he
    · cases he; exact Within.refl _ _
    · split at he
      · cases he; exact ranState_within (ha _ _) hf
      · split at he
        · cases he; exact Within.refl _ _
        · split at he
          · cases he; exact (noteDeferred_within ..).mono (by rw [← hm, ← Nat.or_assoc]; rfl)
          · cases he; exact start_within h hf

theorem again_default (k : Cmd) (h : k.again = fun _ _ _ => .later) {m : Nat} (s : State) (r : RingId) (c : OutCmd) : RanWithin m s (k.again s r c) := by
  rw [h]; trivial

theorem listResult_within (s : State) (c : OutCmd) (hdr : Nat → List Byte) (recs : List (List Byte)) : RanWithin 0 s (listResult s c hdr recs) := by
  unfold listResult
  repeat' (first
    | assumption
    | with_reducible (exact Within.refl _ _)
    | with_reducible (refine RanWithin.fin ?_)
    | with_reducible (refine RanWithin.keep ?_)
    | with_reducible (refine RanWithin.gone ?_)
    | (exact RanWithin.later _ _)
    | split
    | dsimp only)

theorem listResult_in {s : State} {c : OutCmd} {hdr : Nat → List Byte} {recs : List (List Byte)} {which : Nat} {s₀ : State} (h₀ : Within which s₀ s) (hm₀ : 0 ||| which = which) : RanWithin which s₀ (listResult s c hdr recs) :=
  RanWithin.step h₀ (listResult_within ..) hm₀

theorem rawResult_within (s : State) (c : OutCmd) (bs : List Byte) : RanWithin 0 s (rawResult s c bs) := by
  unfold rawResult
  repeat' (first
    | assumption
    | with_reducible (exact Within.refl _ _)
    | with_reducible (refine RanWithin.fin ?_)
    | with_reducible (refine RanWithin.keep ?_)
    | with_reducible (refine RanWithin.gone ?_)
    | (exact RanWithin.later _ _)
    | split
    | dsimp only)

theorem rawResult_in {s : State} {c : OutCmd} {bs : List Byte} {which : Nat} {s₀ : State} (h₀ : Within which s₀ s) (hm₀ : 0 ||| which = which) : RanWithin which s₀ (rawResult s c bs) :=
  RanWithin.step h₀ (rawResult_within ..) hm₀

theorem pf0Only_in {m : Nat} {s₀ s : State} {r : RingId} {k : Unit → Ran} (h : Within m s₀ s) (hk : ∀ u, RanWithin m s₀ (k u)) :
    RanWithin m s₀ (pf0Only s r k) := by
  unfold pf0Only; split
  · exact hk ()
  · exact h

theorem withCtx_in {m : Nat} {s₀ s : State} {r : RingId} {c : OutCmd} {f : Ctx → Ran} (h : Within m s₀ s) (hf : ∀ x, RanWithin m s₀ (f x)) :
    RanWithin m s₀ (withCtx s r c f) := by
  unfold withCtx; split
  · exact h
  · split
    · exact hf _
    · exact h

end Sys2Proof.Machine
end

