-- ==== Sys2Proof/Laws/Within/Fabric.lean ====
section
/-! SUPPORT. What the operations of Machine/Fabric.lean may touch: one lemma for each. -/

namespace Sys2Proof.Machine

open Sys2Proof

set_option linter.unusedTactic false
set_option linter.unreachableTactic false

theorem pumpLink_within (n fuel : Nat) (s : State) : Within 8912904 s (pumpLink n fuel s) := by
  induction fuel generalizing s with
  | zero => exact Within.refl _ _
  | succ k ih =>
    unfold pumpLink
    extract_lets
    split
    · exact Within.refl _ _
    · split
      · exact Within.refl _ _
      · extract_lets f1 l1 drop corrupt l2 l3 s1 s2 s3
        clear_value l3
        have h1 : Within 8912904 s s1 := State.bump_in (State.setLink_in (Within.refl _ _) (by decide)) (by decide)
        clear_value s1
        have h2 : Within 8912904 s s2 := by
          simp only [s2]; split
          · exact State.bump_in h1 (by decide)
          · exact h1
        clear_value s2
        have h3 : Within 8912904 s s3 := by
          simp only [s3]; split
          · exact free_in h2 (by decide)
          · exact h2
        exact h3.trans (ih s3)

theorem pumpLink_in {n fuel : Nat} {s : State} {mask : Nat} {s₀ : State} (h : Within mask s₀ s) (hm : 8912904 ||| mask = mask) :
    Within mask s₀ (pumpLink n fuel s) := h.step (pumpLink_within ..) hm

theorem pump_within (s : State) (n : Nat) : Within 8912904 s (pump s n) := by
  unfold pump
  repeat' (first
    | assumption
    | with_reducible (exact Within.refl _ _)
    | with_reducible refine pumpLink_in ?_ (by decide)
    | split
    | dsimp only)

theorem pump_in {s : State} {n : Nat} {which : Nat} {s₀ : State} (h₀ : Within which s₀ s) (hm₀ : 8912904 ||| which = which) : Within which s₀ (pump s n) :=
  Within.step h₀ (pump_within ..) hm₀

theorem queueOn_within (s : State) (n vc : Nat) (p : Packet) (bs : List Byte) : Within 8912904 s (queueOn s n vc p bs) := by
  unfold queueOn
  repeat' (first
    | assumption
    | with_reducible (exact Within.refl _ _)
    | with_reducible refine State.bump_in ?_ (by decide)
    | with_reducible refine State.setLink_in ?_ (by decide)
    | with_reducible refine State.tick_in ?_ (by decide)
    | with_reducible refine pump_in ?_ (by decide)
    | split
    | dsimp only)

theorem queueOn_in {s : State} {n vc : Nat} {p : Packet} {bs : List Byte} {which : Nat} {s₀ : State} (h₀ : Within which s₀ s) (hm₀ : 8912904 ||| which = which) : Within which s₀ (queueOn s n vc p bs) :=
  Within.step h₀ (queueOn_within ..) hm₀

theorem sealOn_within {s : State} {n : Nat} {p : Packet} {q : Packet} {t : State} (e : sealOn s n p = some (q, t)) : Within 25690224 s t := by
  unfold sealOn at e
  split at e
  · simp only [Option.some.injEq, Prod.mk.injEq] at e
    rw [← e.2]; exact Within.refl _ _
  · dsimp only at e
    split at e
    · cases e
    · split at e
      · cases e
      · simp only [Option.some.injEq, Prod.mk.injEq] at e
        rw [← e.2]
        split
        · exact postBoth_in (State.setLink_in (Within.refl _ _) (by decide)) (by decide)
        · exact State.setLink_in (Within.refl _ _) (by decide)

theorem sealOn_in {s : State} {n : Nat} {p : Packet} {q : Packet} {t : State} {mask : Nat} {s₀ : State} (e : sealOn s n p = some (q, t))
    (h : Within mask s₀ s) (hm : 25690224 ||| mask = mask) : Within mask s₀ t := h.step (sealOn_within e) hm

theorem sendPacket_within (s : State) (p : Packet) : Within 25690232 s (sendPacket s p).1 := by
  unfold sendPacket
  repeat' (first
    | assumption
    | with_reducible (exact Within.refl _ _)
    | with_reducible refine State.bump_in ?_ (by decide)
    | with_reducible refine State.setFabric_in ?_ (by decide)
    | with_reducible refine queueOn_in ?_ (by decide)
    | refine sealOn_in (by assumption) ?_ (by decide)
    | with_reducible refine Within.ite_fst (fun _ => ?_) (fun _ => ?_)
    | split
    | dsimp only)

theorem sendPacket_in {s : State} {p : Packet} {which : Nat} {s₀ : State} (h₀ : Within which s₀ s) (hm₀ : 25690232 ||| which = which) : Within which s₀ (sendPacket s p).1 :=
  Within.step h₀ (sendPacket_within ..) hm₀

theorem sendPacket_fst {s : State} {p : Packet} {which : Nat} {s₀ t₀ : State} {y} (he₀ : sendPacket s p = (t₀, y)) (h₀ : Within which s₀ s) (hm₀ : 25690232 ||| which = which) : Within which s₀ t₀ := by
  have k := sendPacket_in (s := s) (p := p) h₀ hm₀; rw [he₀] at k; exact k

theorem sendLoose_within (s : State) (p : Packet) : Within 25690232 s (sendLoose s p) := by
  unfold sendLoose
  repeat' (first
    | assumption
    | with_reducible (exact Within.refl _ _)
    | with_reducible refine sendPacket_in ?_ (by decide)
    | refine sendPacket_fst (by assumption) ?_ (by decide)
    | with_reducible refine Within.ite_fst (fun _ => ?_) (fun _ => ?_)
    | split
    | dsimp only)

theorem sendLoose_in {s : State} {p : Packet} {which : Nat} {s₀ : State} (h₀ : Within which s₀ s) (hm₀ : 25690232 ||| which = which) : Within which s₀ (sendLoose s p) :=
  Within.step h₀ (sendLoose_within ..) hm₀

theorem forward_within (s : State) (p : Packet) (vc : Nat) : Within 8912904 s (forward s p vc) := by
  unfold forward
  repeat' (first
    | assumption
    | with_reducible (exact Within.refl _ _)
    | with_reducible refine State.bump_in ?_ (by decide)
    | with_reducible refine queueOn_in ?_ (by decide)
    | split
    | dsimp only)

theorem forward_in {s : State} {p : Packet} {vc : Nat} {which : Nat} {s₀ : State} (h₀ : Within which s₀ s) (hm₀ : 8912904 ||| which = which) : Within which s₀ (forward s p vc) :=
  Within.step h₀ (forward_within ..) hm₀

theorem sendMgmt_within (s : State) (dest fpn : Nat) : Within 25690232 s (sendMgmt s dest fpn) := by
  unfold sendMgmt
  repeat' (first
    | assumption
    | with_reducible (exact Within.refl _ _)
    | with_reducible refine State.setFabric_in ?_ (by decide)
    | with_reducible refine sendLoose_in ?_ (by decide)
    | split
    | dsimp only)

theorem sendMgmt_in {s : State} {dest fpn : Nat} {which : Nat} {s₀ : State} (h₀ : Within which s₀ s) (hm₀ : 25690232 ||| which = which) : Within which s₀ (sendMgmt s dest fpn) :=
  Within.step h₀ (sendMgmt_within ..) hm₀

theorem complete_within (s : State) (ctx : Nat) (obj : Option Nat) (site : BitVec 32) (mark : Option (Nat × Nat × Nat)) : Within 262144 s (complete s ctx obj site mark) := by
  unfold complete
  repeat' (first
    | assumption
    | with_reducible (exact Within.refl _ _)
    | with_reducible refine State.setSync_in ?_ (by decide)
    | split
    | dsimp only)

theorem complete_in {s : State} {ctx : Nat} {obj : Option Nat} {site : BitVec 32} {mark : Option (Nat × Nat × Nat)} {which : Nat} {s₀ : State} (h₀ : Within which s₀ s) (hm₀ : 262144 ||| which = which) : Within which s₀ (complete s ctx obj site mark) :=
  Within.step h₀ (complete_within ..) hm₀

theorem addDone_within (s : State) (c : Nat) (d : Done) : Within 131072 s (addDone s c d) := by
  unfold addDone
  repeat' (first
    | assumption
    | with_reducible (exact Within.refl _ _)
    | with_reducible refine State.setCluster_in ?_ (by decide)
    | split
    | dsimp only)

theorem addDone_in {s : State} {c : Nat} {d : Done} {which : Nat} {s₀ : State} (h₀ : Within which s₀ s) (hm₀ : 131072 ||| which = which) : Within which s₀ (addDone s c d) :=
  Within.step h₀ (addDone_within ..) hm₀

theorem poisonRange_within (s : State) (a n : Nat) : Within 2048 s (poisonRange s a n) := by
  unfold poisonRange
  repeat' (first
    | assumption
    | with_reducible (exact Within.refl _ _)
    | with_reducible (refine Within.foldl ?_ (fun _ _ => ?_))
    | with_reducible (refine Within.foldl_fst ?_ (fun _ _ => ?_))
    | with_reducible refine setPoison_in ?_ (by decide)
    | split
    | dsimp only)

theorem poisonRange_in {s : State} {a n : Nat} {which : Nat} {s₀ : State} (h₀ : Within which s₀ s) (hm₀ : 2048 ||| which = which) : Within which s₀ (poisonRange s a n) :=
  Within.step h₀ (poisonRange_within ..) hm₀

theorem finishColl_within (s : State) (k : Collective) (status : Nat → Nat) (mark : Option (Nat × Nat × Nat)) : Within 27924600 s (finishColl s k status mark) := by
  unfold finishColl
  repeat' (first
    | assumption
    | with_reducible (exact Within.refl _ _)
    | with_reducible (refine Within.foldl ?_ (fun _ _ => ?_))
    | with_reducible (refine Within.foldl_fst ?_ (fun _ _ => ?_))
    | with_reducible refine State.setFabric_in ?_ (by decide)
    | with_reducible refine storeMem_in ?_ (by decide)
    | with_reducible refine addDone_in ?_ (by decide)
    | split
    | dsimp only)

theorem finishColl_in {s : State} {k : Collective} {status : Nat → Nat} {mark : Option (Nat × Nat × Nat)} {which : Nat} {s₀ : State} (h₀ : Within which s₀ s) (hm₀ : 27924600 ||| which = which) : Within which s₀ (finishColl s k status mark) :=
  Within.step h₀ (finishColl_within ..) hm₀

theorem failColl_within (s : State) (k : Collective) (status : Nat → Nat) : Within 27924600 s (failColl s k status) := by
  unfold failColl
  repeat' (first
    | assumption
    | with_reducible (exact Within.refl _ _)
    | with_reducible refine poisonRange_in ?_ (by decide)
    | with_reducible refine finishColl_in ?_ (by decide)
    | split
    | dsimp only)

theorem failColl_in {s : State} {k : Collective} {status : Nat → Nat} {which : Nat} {s₀ : State} (h₀ : Within which s₀ s) (hm₀ : 27924600 ||| which = which) : Within which s₀ (failColl s k status) :=
  Within.step h₀ (failColl_within ..) hm₀

theorem fillPend_within (s : State) (g : GroupId) (msg : Nat) (v : Word64) (poison : Option (Nat × Nat)) : Within 32768 s (fillPend s g msg v poison) := by
  unfold fillPend
  repeat' (first
    | assumption
    | with_reducible (exact Within.refl _ _)
    | with_reducible refine State.setGroup_in ?_ (by decide)
    | split
    | dsimp only)

theorem fillPend_in {s : State} {g : GroupId} {msg : Nat} {v : Word64} {poison : Option (Nat × Nat)} {which : Nat} {s₀ : State} (h₀ : Within which s₀ s) (hm₀ : 32768 ||| which = which) : Within which s₀ (fillPend s g msg v poison) :=
  Within.step h₀ (fillPend_within ..) hm₀

theorem msgLost_within (s : State) (c : Nat) (m : Msg) (pkt : Nat) : Within 27965560 s (msgLost s c m pkt) := by
  unfold msgLost
  repeat' (first
    | assumption
    | with_reducible (exact Within.refl _ _)
    | with_reducible (refine Within.foldl ?_ (fun _ _ => ?_))
    | with_reducible (refine Within.foldl_fst ?_ (fun _ _ => ?_))
    | with_reducible refine State.bump_in ?_ (by decide)
    | with_reducible refine State.setCluster_in ?_ (by decide)
    | with_reducible refine State.setCtx_in ?_ (by decide)
    | with_reducible refine State.tick_in ?_ (by decide)
    | with_reducible refine postBoth_in ?_ (by decide)
    | with_reducible refine setPoison_in ?_ (by decide)
    | with_reducible refine addDone_in ?_ (by decide)
    | with_reducible refine failColl_in ?_ (by decide)
    | with_reducible refine fillPend_in ?_ (by decide)
    | split
    | dsimp only)

theorem msgLost_in {s : State} {c : Nat} {m : Msg} {pkt : Nat} {which : Nat} {s₀ : State} (h₀ : Within which s₀ s) (hm₀ : 27965560 ||| which = which) : Within which s₀ (msgLost s c m pkt) :=
  Within.step h₀ (msgLost_within ..) hm₀

theorem flood_within (s : State) (fpn id : Nat) : Within 524288 s (flood s fpn id) := by
  unfold flood
  repeat' (first
    | assumption
    | with_reducible (exact Within.refl _ _)
    | with_reducible (refine Within.foldl ?_ (fun _ _ => ?_))
    | with_reducible (refine Within.foldl_fst ?_ (fun _ _ => ?_))
    | with_reducible refine State.setLink_in ?_ (by decide)
    | split
    | dsimp only)

theorem flood_in {s : State} {fpn id : Nat} {which : Nat} {s₀ : State} (h₀ : Within which s₀ s) (hm₀ : 524288 ||| which = which) : Within which s₀ (flood s fpn id) :=
  Within.step h₀ (flood_within ..) hm₀

end Sys2Proof.Machine
end

