-- ==== Sys2Proof/Laws/Within/Groups.lean ====
section
/-! SUPPORT. What the operations of Machine/Groups.lean may touch: one lemma for each. -/

namespace Sys2Proof.Machine

open Sys2Proof

set_option linter.unusedTactic false
set_option linter.unreachableTactic false

theorem setBlock_within (s : State) (c b : Nat) (k : Block) : Within 131072 s (setBlock s c b k) := by
  unfold setBlock
  repeat' (first
    | assumption
    | with_reducible (exact Within.refl _ _)
    | with_reducible refine State.setCluster_in ?_ (by decide)
    | split
    | dsimp only)

theorem setBlock_in {s : State} {c b : Nat} {k : Block} {which : Nat} {s₀ : State} (h₀ : Within which s₀ s) (hm₀ : 131072 ||| which = which) : Within which s₀ (setBlock s c b k) :=
  Within.step h₀ (setBlock_within ..) hm₀

theorem setWd_within (s : State) (c b n v : Nat) : Within 131072 s (setWd s c b n v) := by
  unfold setWd
  repeat' (first
    | assumption
    | with_reducible (exact Within.refl _ _)
    | with_reducible refine setBlock_in ?_ (by decide)
    | split
    | dsimp only)

theorem setWd_in {s : State} {c b n v : Nat} {which : Nat} {s₀ : State} (h₀ : Within which s₀ s) (hm₀ : 131072 ||| which = which) : Within which s₀ (setWd s c b n v) :=
  Within.step h₀ (setWd_within ..) hm₀

theorem clearStale_within (s : State) (c b : Nat) : Within 131072 s (clearStale s c b) := by
  unfold clearStale
  repeat' (first
    | assumption
    | with_reducible (exact Within.refl _ _)
    | with_reducible refine setBlock_in ?_ (by decide)
    | split
    | dsimp only)

theorem clearStale_in {s : State} {c b : Nat} {which : Nat} {s₀ : State} (h₀ : Within which s₀ s) (hm₀ : 131072 ||| which = which) : Within which s₀ (clearStale s c b) :=
  Within.step h₀ (clearStale_within ..) hm₀

theorem checkBarrier_within (s : State) (c b n : Nat) : Within 163840 s (checkBarrier s c b n) := by
  unfold checkBarrier
  repeat' (first
    | assumption
    | with_reducible (exact Within.refl _ _)
    | with_reducible (refine Within.foldl ?_ (fun _ _ => ?_))
    | with_reducible (refine Within.foldl_fst ?_ (fun _ _ => ?_))
    | with_reducible refine State.setGroup_in ?_ (by decide)
    | with_reducible refine setWd_in ?_ (by decide)
    | with_reducible refine clearStale_in ?_ (by decide)
    | split
    | dsimp only)

theorem checkBarrier_in {s : State} {c b n : Nat} {which : Nat} {s₀ : State} (h₀ : Within which s₀ s) (hm₀ : 163840 ||| which = which) : Within which s₀ (checkBarrier s c b n) :=
  Within.step h₀ (checkBarrier_within ..) hm₀

theorem checkBarriers_within (s : State) (c b : Nat) : Within 163840 s (checkBarriers s c b) := by
  unfold checkBarriers
  repeat' (first
    | assumption
    | with_reducible (exact Within.refl _ _)
    | with_reducible (refine Within.foldl ?_ (fun _ _ => ?_))
    | with_reducible (refine Within.foldl_fst ?_ (fun _ _ => ?_))
    | with_reducible refine setWd_in ?_ (by decide)
    | with_reducible refine checkBarrier_in ?_ (by decide)
    | split
    | dsimp only)

theorem checkBarriers_in {s : State} {c b : Nat} {which : Nat} {s₀ : State} (h₀ : Within which s₀ s) (hm₀ : 163840 ||| which = which) : Within which s₀ (checkBarriers s c b) :=
  Within.step h₀ (checkBarriers_within ..) hm₀

theorem settleBlock_within (s : State) (c b : Nat) : Within 393216 s (settleBlock s c b) := by
  unfold settleBlock
  repeat' (first
    | assumption
    | with_reducible (exact Within.refl _ _)
    | with_reducible refine State.setCluster_in ?_ (by decide)
    | with_reducible refine complete_in ?_ (by decide)
    | split
    | dsimp only)

theorem settleBlock_in {s : State} {c b : Nat} {which : Nat} {s₀ : State} (h₀ : Within which s₀ s) (hm₀ : 393216 ||| which = which) : Within which s₀ (settleBlock s c b) :=
  Within.step h₀ (settleBlock_within ..) hm₀

theorem settleGroup_within (s : State) (g : GroupId) : Within 425984 s (settleGroup s g) := by
  unfold settleGroup
  repeat' (first
    | assumption
    | with_reducible (exact Within.refl _ _)
    | with_reducible refine State.freeGroup_in ?_ (by decide)
    | with_reducible refine settleBlock_in ?_ (by decide)
    | split
    | dsimp only)

theorem settleGroup_in {s : State} {g : GroupId} {which : Nat} {s₀ : State} (h₀ : Within which s₀ s) (hm₀ : 425984 ||| which = which) : Within which s₀ (settleGroup s g) :=
  Within.step h₀ (settleGroup_within ..) hm₀

theorem exitThreads_within (s : State) (g : GroupId) (m : BitVec 64) : Within 425984 s (exitThreads s g m) := by
  unfold exitThreads
  repeat' (first
    | assumption
    | with_reducible (exact Within.refl _ _)
    | with_reducible refine State.setGroup_in ?_ (by decide)
    | with_reducible refine checkBarriers_in ?_ (by decide)
    | with_reducible refine settleGroup_in ?_ (by decide)
    | split
    | dsimp only)

theorem exitThreads_in {s : State} {g : GroupId} {m : BitVec 64} {which : Nat} {s₀ : State} (h₀ : Within which s₀ s) (hm₀ : 425984 ||| which = which) : Within which s₀ (exitThreads s g m) :=
  Within.step h₀ (exitThreads_within ..) hm₀

theorem discardWork_within (s : State) (n : Nat) : Within 917504 s (discardWork s n) := by
  unfold discardWork
  repeat' (first
    | assumption
    | with_reducible (exact Within.refl _ _)
    | with_reducible refine State.setFabric_in ?_ (by decide)
    | with_reducible refine State.setSync_in ?_ (by decide)
    | split
    | dsimp only
    | with_reducible refine clusters_in ?_ (by decide))

theorem discardWork_in {s : State} {n : Nat} {which : Nat} {s₀ : State} (h₀ : Within which s₀ s) (hm₀ : 917504 ||| which = which) : Within which s₀ (discardWork s n) :=
  Within.step h₀ (discardWork_within ..) hm₀

theorem stopContext_within (s : State) (n : Nat) : Within 9338880 s (stopContext s n) := by
  unfold stopContext
  repeat' (first
    | assumption
    | with_reducible (exact Within.refl _ _)
    | with_reducible (refine Within.foldl ?_ (fun _ _ => ?_))
    | with_reducible (refine Within.foldl_fst ?_ (fun _ _ => ?_))
    | with_reducible refine State.bump_in ?_ (by decide)
    | with_reducible refine State.freeGroup_in ?_ (by decide)
    | with_reducible refine settleBlock_in ?_ (by decide)
    | with_reducible refine discardWork_in ?_ (by decide)
    | split
    | dsimp only)

theorem stopContext_in {s : State} {n : Nat} {which : Nat} {s₀ : State} (h₀ : Within which s₀ s) (hm₀ : 9338880 ||| which = which) : Within which s₀ (stopContext s n) :=
  Within.step h₀ (stopContext_within ..) hm₀

theorem killContext_within (s : State) (n cause : Nat) : Within 26116216 s (killContext s n cause) := by
  unfold killContext
  repeat' (first
    | assumption
    | with_reducible (exact Within.refl _ _)
    | with_reducible refine postEvent_in ?_ (by decide)
    | with_reducible refine stopContext_in ?_ (by decide)
    | split
    | dsimp only
    | with_reducible refine free_in ?_ (by decide))

theorem killContext_in {s : State} {n cause : Nat} {which : Nat} {s₀ : State} (h₀ : Within which s₀ s) (hm₀ : 26116216 ||| which = which) : Within which s₀ (killContext s n cause) :=
  Within.step h₀ (killContext_within ..) hm₀

theorem tell_within (s : State) (j : Job) (r : Nat) : Within 25690232 s (tell s j r) := by
  unfold tell
  repeat' (first
    | assumption
    | with_reducible (exact Within.refl _ _)
    | with_reducible refine sendMgmt_in ?_ (by decide)
    | split
    | dsimp only)

theorem tell_in {s : State} {j : Job} {r : Nat} {which : Nat} {s₀ : State} (h₀ : Within which s₀ s) (hm₀ : 25690232 ||| which = which) : Within which s₀ (tell s j r) :=
  Within.step h₀ (tell_within ..) hm₀

theorem tellParent_within (s : State) (j : Job) : Within 25690232 s (tellParent s j) := by
  unfold tellParent
  repeat' (first
    | assumption
    | with_reducible (exact Within.refl _ _)
    | with_reducible refine tell_in ?_ (by decide)
    | split
    | dsimp only)

theorem tellParent_in {s : State} {j : Job} {which : Nat} {s₀ : State} (h₀ : Within which s₀ s) (hm₀ : 25690232 ||| which = which) : Within which s₀ (tellParent s j) :=
  Within.step h₀ (tellParent_within ..) hm₀

theorem tellChildren_within (s : State) (j : Job) : Within 25690232 s (tellChildren s j) := by
  unfold tellChildren
  repeat' (first
    | assumption
    | with_reducible (exact Within.refl _ _)
    | with_reducible (refine Within.foldl ?_ (fun _ _ => ?_))
    | with_reducible (refine Within.foldl_fst ?_ (fun _ _ => ?_))
    | with_reducible refine tell_in ?_ (by decide)
    | split
    | dsimp only)

theorem tellChildren_in {s : State} {j : Job} {which : Nat} {s₀ : State} (h₀ : Within which s₀ s) (hm₀ : 25690232 ||| which = which) : Within which s₀ (tellChildren s j) :=
  Within.step h₀ (tellChildren_within ..) hm₀

theorem setJob_within (s : State) (n : Nat) (j : Job) : Within 8192 s (setJob s n j) := by
  unfold setJob
  repeat' (first
    | assumption
    | with_reducible (exact Within.refl _ _)
    | with_reducible refine State.setCtx_in ?_ (by decide)
    | split
    | dsimp only)

theorem setJob_in {s : State} {n : Nat} {j : Job} {which : Nat} {s₀ : State} (h₀ : Within which s₀ s) (hm₀ : 8192 ||| which = which) : Within which s₀ (setJob s n j) :=
  Within.step h₀ (setJob_within ..) hm₀

theorem enterDiscard_within (s : State) (n : Nat) (j : Job) : Within 9347072 s (enterDiscard s n j) := by
  unfold enterDiscard
  repeat' (first
    | assumption
    | with_reducible (exact Within.refl _ _)
    | with_reducible refine stopContext_in ?_ (by decide)
    | with_reducible refine setJob_in ?_ (by decide)
    | split
    | dsimp only)

theorem enterDiscard_in {s : State} {n : Nat} {j : Job} {which : Nat} {s₀ : State} (h₀ : Within which s₀ s) (hm₀ : 9347072 ||| which = which) : Within which s₀ (enterDiscard s n j) :=
  Within.step h₀ (enterDiscard_within ..) hm₀

theorem haltGroup_within (s : State) (g : GroupId) : Within 8421376 s (haltGroup s g) := by
  unfold haltGroup
  repeat' (first
    | assumption
    | with_reducible (exact Within.refl _ _)
    | with_reducible refine State.bump_in ?_ (by decide)
    | with_reducible refine State.setGroup_in ?_ (by decide)
    | split
    | dsimp only)

theorem haltGroup_in {s : State} {g : GroupId} {which : Nat} {s₀ : State} (h₀ : Within which s₀ s) (hm₀ : 8421376 ||| which = which) : Within which s₀ (haltGroup s g) :=
  Within.step h₀ (haltGroup_within ..) hm₀

theorem actHalt_within (s : State) (fpn id origin via : Nat) : Within 26124400 s (actHalt s fpn id origin via) := by
  unfold actHalt
  repeat' (first
    | assumption
    | with_reducible (exact Within.refl _ _)
    | with_reducible (refine Within.foldl ?_ (fun _ _ => ?_))
    | with_reducible (refine Within.foldl_fst ?_ (fun _ _ => ?_))
    | with_reducible refine State.bump_in ?_ (by decide)
    | with_reducible refine State.setFabric_in ?_ (by decide)
    | with_reducible refine postBoth_in ?_ (by decide)
    | with_reducible refine flood_in ?_ (by decide)
    | with_reducible refine setJob_in ?_ (by decide)
    | with_reducible refine enterDiscard_in ?_ (by decide)
    | with_reducible refine haltGroup_in ?_ (by decide)
    | split
    | dsimp only)

theorem actHalt_in {s : State} {fpn id origin via : Nat} {which : Nat} {s₀ : State} (h₀ : Within which s₀ s) (hm₀ : 26124400 ||| which = which) : Within which s₀ (actHalt s fpn id origin via) :=
  Within.step h₀ (actHalt_within ..) hm₀

theorem originateHalt_within (s : State) (fpn origin : Nat) : Within 26124400 s (originateHalt s fpn origin) := by
  unfold originateHalt
  repeat' (first
    | assumption
    | with_reducible (exact Within.refl _ _)
    | with_reducible refine State.setFabric_in ?_ (by decide)
    | with_reducible refine actHalt_in ?_ (by decide)
    | split
    | dsimp only)

theorem originateHalt_in {s : State} {fpn origin : Nat} {which : Nat} {s₀ : State} (h₀ : Within which s₀ s) (hm₀ : 26124400 ||| which = which) : Within which s₀ (originateHalt s fpn origin) :=
  Within.step h₀ (originateHalt_within ..) hm₀

theorem rootAbort_within (s : State) (n : Nat) : Within 25698424 s (rootAbort s n) := by
  unfold rootAbort
  repeat' (first
    | assumption
    | with_reducible (exact Within.refl _ _)
    | with_reducible refine tellChildren_in ?_ (by decide)
    | with_reducible refine setJob_in ?_ (by decide)
    | split
    | dsimp only)

theorem rootAbort_in {s : State} {n : Nat} {which : Nat} {s₀ : State} (h₀ : Within which s₀ s) (hm₀ : 25698424 ||| which = which) : Within which s₀ (rootAbort s n) :=
  Within.step h₀ (rootAbort_within ..) hm₀

theorem failStep_within (s : State) (n : Nat) (cause site trap : Nat) : Within 26124408 s (failStep s n cause site trap) := by
  unfold failStep
  repeat' (first
    | assumption
    | with_reducible (exact Within.refl _ _)
    | with_reducible refine tellParent_in ?_ (by decide)
    | with_reducible refine enterDiscard_in ?_ (by decide)
    | with_reducible refine originateHalt_in ?_ (by decide)
    | with_reducible refine rootAbort_in ?_ (by decide)
    | split
    | dsimp only)

theorem failStep_in {s : State} {n : Nat} {cause site trap : Nat} {which : Nat} {s₀ : State} (h₀ : Within which s₀ s) (hm₀ : 26124408 ||| which = which) : Within which s₀ (failStep s n cause site trap) :=
  Within.step h₀ (failStep_within ..) hm₀

theorem killByTrap_within (s : State) (n : Nat) (site trap : Nat) : Within 26124408 s (killByTrap s n site trap) := by
  unfold killByTrap
  repeat' (first
    | assumption
    | with_reducible (exact Within.refl _ _)
    | with_reducible refine killContext_in ?_ (by decide)
    | with_reducible refine failStep_in ?_ (by decide)
    | split
    | dsimp only)

theorem killByTrap_in {s : State} {n : Nat} {site trap : Nat} {which : Nat} {s₀ : State} (h₀ : Within which s₀ s) (hm₀ : 26124408 ||| which = which) : Within which s₀ (killByTrap s n site trap) :=
  Within.step h₀ (killByTrap_within ..) hm₀

theorem postTrap_within (s : State) (g : GroupId) (t : Trap) : Within 25198704 s (postTrap s g t) := by
  unfold postTrap
  repeat' (first
    | assumption
    | with_reducible (exact Within.refl _ _)
    | with_reducible refine State.bump_in ?_ (by decide)
    | with_reducible refine State.setGroup_in ?_ (by decide)
    | with_reducible refine postEvent_in ?_ (by decide)
    | split
    | dsimp only)

theorem postTrap_in {s : State} {g : GroupId} {t : Trap} {which : Nat} {s₀ : State} (h₀ : Within which s₀ s) (hm₀ : 25198704 ||| which = which) : Within which s₀ (postTrap s g t) :=
  Within.step h₀ (postTrap_within ..) hm₀

theorem takeTraps_within (s : State) (ts : List (GroupId × Trap)) : Within 26124408 s (takeTraps s ts) := by
  unfold takeTraps
  repeat' (first
    | assumption
    | with_reducible (exact Within.refl _ _)
    | with_reducible (refine Within.foldl ?_ (fun _ _ => ?_))
    | with_reducible (refine Within.foldl_fst ?_ (fun _ _ => ?_))
    | with_reducible refine killByTrap_in ?_ (by decide)
    | with_reducible refine postTrap_in ?_ (by decide)
    | split
    | dsimp only)

theorem takeTraps_in {s : State} {ts : List (GroupId × Trap)} {which : Nat} {s₀ : State} (h₀ : Within which s₀ s) (hm₀ : 26124408 ||| which = which) : Within which s₀ (takeTraps s ts) :=
  Within.step h₀ (takeTraps_within ..) hm₀

theorem takeTrap_within (s : State) (g : GroupId) (t : Trap) : Within 26124408 s (takeTrap s g t) := by
  unfold takeTrap
  repeat' (first
    | assumption
    | with_reducible (exact Within.refl _ _)
    | with_reducible refine takeTraps_in ?_ (by decide)
    | split
    | dsimp only)

theorem takeTrap_in {s : State} {g : GroupId} {t : Trap} {which : Nat} {s₀ : State} (h₀ : Within which s₀ s) (hm₀ : 26124408 ||| which = which) : Within which s₀ (takeTrap s g t) :=
  Within.step h₀ (takeTrap_within ..) hm₀

end Sys2Proof.Machine
end

