-- ==== Sys2Proof/Laws/Within/Sync.lean ====
section
/-! SUPPORT. What the operations of Machine/Sync.lean may touch: one lemma for each. -/

namespace Sys2Proof.Machine

open Sys2Proof

set_option linter.unusedTactic false
set_option linter.unreachableTactic false

theorem freeGroupWait_within (s : State) (g : GroupId) (pc : Word64) : Within 32768 s (freeGroupWait s g pc) := by
  unfold freeGroupWait
  repeat' (first
    | assumption
    | with_reducible (exact Within.refl _ _)
    | with_reducible refine State.setGroup_in ?_ (by decide)
    | split
    | dsimp only)

theorem freeGroupWait_in {s : State} {g : GroupId} {pc : Word64} {which : Nat} {s₀ : State} (h₀ : Within which s₀ s) (hm₀ : 32768 ||| which = which) : Within which s₀ (freeGroupWait s g pc) :=
  Within.step h₀ (freeGroupWait_within ..) hm₀

theorem freeWaiter_within (s : State) (w : Waiter) : Within 163840 s (freeWaiter s w) := by
  unfold freeWaiter
  repeat' (first
    | assumption
    | with_reducible (exact Within.refl _ _)
    | with_reducible refine State.setCluster_in ?_ (by decide)
    | with_reducible refine freeGroupWait_in ?_ (by decide)
    | split
    | dsimp only)

theorem freeWaiter_in {s : State} {w : Waiter} {which : Nat} {s₀ : State} (h₀ : Within which s₀ s) (hm₀ : 163840 ||| which = which) : Within which s₀ (freeWaiter s w) :=
  Within.step h₀ (freeWaiter_within ..) hm₀

theorem settle_within (s : State) (n : Nat) (j : Judged) (mark : Option (Nat × Nat × Nat)) : Within 26124408 s (settle s n j mark) := by
  unfold settle
  repeat' (first
    | assumption
    | with_reducible (exact Within.refl _ _)
    | with_reducible (refine Within.foldl ?_ (fun _ _ => ?_))
    | with_reducible (refine Within.foldl_fst ?_ (fun _ _ => ?_))
    | with_reducible refine State.bump_in ?_ (by decide)
    | with_reducible refine State.setObj_in ?_ (by decide)
    | with_reducible refine takeTraps_in ?_ (by decide)
    | with_reducible refine freeWaiter_in ?_ (by decide)
    | split
    | dsimp only)

theorem settle_in {s : State} {n : Nat} {j : Judged} {mark : Option (Nat × Nat × Nat)} {which : Nat} {s₀ : State} (h₀ : Within which s₀ s) (hm₀ : 26124408 ||| which = which) : Within which s₀ (settle s n j mark) :=
  Within.step h₀ (settle_within ..) hm₀

theorem applyChange_within (s : State) (n : Nat) (x : Signal) : Within 26124408 s (applyChange s n x) := by
  unfold applyChange
  repeat' (first
    | assumption
    | with_reducible (exact Within.refl _ _)
    | with_reducible refine State.bump_in ?_ (by decide)
    | with_reducible refine settle_in ?_ (by decide)
    | split
    | dsimp only)

theorem applyChange_in {s : State} {n : Nat} {x : Signal} {which : Nat} {s₀ : State} (h₀ : Within which s₀ s) (hm₀ : 26124408 ||| which = which) : Within which s₀ (applyChange s n x) :=
  Within.step h₀ (applyChange_within ..) hm₀

theorem presentWait_within (s : State) (w : WaitMsg) : Within 26124408 s (presentWait s w) := by
  unfold presentWait
  repeat' (first
    | assumption
    | with_reducible (exact Within.refl _ _)
    | with_reducible refine State.bump_in ?_ (by decide)
    | with_reducible refine State.setObj_in ?_ (by decide)
    | with_reducible refine State.setSync_in ?_ (by decide)
    | with_reducible refine takeTrap_in ?_ (by decide)
    | with_reducible refine settle_in ?_ (by decide)
    | split
    | dsimp only)

theorem presentWait_in {s : State} {w : WaitMsg} {which : Nat} {s₀ : State} (h₀ : Within which s₀ s) (hm₀ : 26124408 ||| which = which) : Within which s₀ (presentWait s w) :=
  Within.step h₀ (presentWait_within ..) hm₀

theorem dropWaits_within (s : State) (g : GroupId) : Within 26124408 s (dropWaits s g) := by
  unfold dropWaits
  repeat' (first
    | assumption
    | with_reducible (exact Within.refl _ _)
    | with_reducible (refine Within.foldl ?_ (fun _ _ => ?_))
    | with_reducible (refine Within.foldl_fst ?_ (fun _ _ => ?_))
    | with_reducible refine State.setSync_in ?_ (by decide)
    | with_reducible refine settle_in ?_ (by decide)
    | split
    | dsimp only)

theorem dropWaits_in {s : State} {g : GroupId} {which : Nat} {s₀ : State} (h₀ : Within which s₀ s) (hm₀ : 26124408 ||| which = which) : Within which s₀ (dropWaits s g) :=
  Within.step h₀ (dropWaits_within ..) hm₀

theorem killGroup_within (s : State) (g : GroupId) : Within 26124408 s (killGroup s g) := by
  unfold killGroup
  repeat' (first
    | assumption
    | with_reducible (exact Within.refl _ _)
    | with_reducible refine State.freeGroup_in ?_ (by decide)
    | with_reducible refine checkBarriers_in ?_ (by decide)
    | with_reducible refine settleBlock_in ?_ (by decide)
    | with_reducible refine dropWaits_in ?_ (by decide)
    | split
    | dsimp only)

theorem killGroup_in {s : State} {g : GroupId} {which : Nat} {s₀ : State} (h₀ : Within which s₀ s) (hm₀ : 26124408 ||| which = which) : Within which s₀ (killGroup s g) :=
  Within.step h₀ (killGroup_within ..) hm₀

end Sys2Proof.Machine
end

