-- ==== Sys2Proof/Laws/Within/Issue.lean ====
section
/-! SUPPORT. What the operations of Machine/Issue.lean may touch: one lemma for each. -/

namespace Sys2Proof.Machine

open Sys2Proof

set_option linter.unusedTactic false
set_option linter.unreachableTactic false

theorem Env.update_within (e : Env) (s : State) (f : Group → Group) : Within 32768 s (Env.update e s f) := by
  unfold Env.update
  repeat' (first
    | assumption
    | with_reducible (exact Within.refl _ _)
    | with_reducible refine State.setGroup_in ?_ (by decide)
    | split
    | dsimp only)

theorem Env.update_in {e : Env} {s : State} {f : Group → Group} {which : Nat} {s₀ : State} (h₀ : Within which s₀ s) (hm₀ : 32768 ||| which = which) : Within which s₀ (Env.update e s f) :=
  Within.step h₀ (Env.update_within ..) hm₀

theorem Env.raise_within (e : Env) (s : State) (fl : Flags) : Within 65536 s (Env.raise e s fl) := by
  unfold Env.raise
  repeat' (first
    | assumption
    | with_reducible (exact Within.refl _ _)
    | with_reducible refine State.setUnit_in ?_ (by decide)
    | split
    | dsimp only)

theorem Env.raise_in {e : Env} {s : State} {fl : Flags} {which : Nat} {s₀ : State} (h₀ : Within which s₀ s) (hm₀ : 65536 ||| which = which) : Within which s₀ (Env.raise e s fl) :=
  Within.step h₀ (Env.raise_within ..) hm₀

theorem Env.write_within (e : Env) (s : State) (f : Nat → Word64) : Within 32768 s (Env.write e s f) := by
  unfold Env.write
  repeat' (first
    | assumption
    | with_reducible (exact Within.refl _ _)
    | with_reducible (refine Within.foldl ?_ (fun _ _ => ?_))
    | with_reducible (refine Within.foldl_fst ?_ (fun _ _ => ?_))
    | with_reducible refine Env.update_in ?_ (by decide)
    | split
    | dsimp only)

theorem Env.write_in {e : Env} {s : State} {f : Nat → Word64} {which : Nat} {s₀ : State} (h₀ : Within which s₀ s) (hm₀ : 32768 ||| which = which) : Within which s₀ (Env.write e s f) :=
  Within.step h₀ (Env.write_within ..) hm₀

theorem Env.writeFl_within (e : Env) (s : State) (f : Nat → Word64 × Flags) : Within 98304 s (Env.writeFl e s f) := by
  unfold Env.writeFl
  repeat' (first
    | assumption
    | with_reducible (exact Within.refl _ _)
    | with_reducible (refine Within.foldl ?_ (fun _ _ => ?_))
    | with_reducible (refine Within.foldl_fst ?_ (fun _ _ => ?_))
    | with_reducible refine Env.raise_in ?_ (by decide)
    | with_reducible refine Env.write_in ?_ (by decide)
    | split
    | dsimp only)

theorem Env.writeFl_in {e : Env} {s : State} {f : Nat → Word64 × Flags} {which : Nat} {s₀ : State} (h₀ : Within which s₀ s) (hm₀ : 98304 ||| which = which) : Within which s₀ (Env.writeFl e s f) :=
  Within.step h₀ (Env.writeFl_within ..) hm₀

end Sys2Proof.Machine
end

