-- ==== Sys2Proof/Laws/Within/Alu.lean ====
section
/-! SUPPORT. What the operations of Machine/Alu.lean may touch: one lemma for each. -/

namespace Sys2Proof.Machine

open Sys2Proof

set_option linter.unusedTactic false
set_option linter.unreachableTactic false

theorem intRes_within (one : Bool) (op : Nat → Bool → Nat → Nat → Nat → Nat) (e : Env) (s : State) : ResWithin 32768 s (intRes one op e s) := by
  unfold intRes
  repeat' (first
    | assumption
    | with_reducible (exact Within.refl _ _)
    | with_reducible (refine ResWithin.done ?_)
    | with_reducible (refine ResWithin.jumped ?_)
    | with_reducible (refine ResWithin.parked ?_)
    | (exact ResWithin.trap _ _ _)
    | (exact ResWithin.notReady _ _)
    | with_reducible refine Env.write_in ?_ (by decide)
    | split
    | dsimp only)

theorem intRes_in {one : Bool} {op : Nat → Bool → Nat → Nat → Nat → Nat} {e : Env} {s : State} {which : Nat} {s₀ : State} (h₀ : Within which s₀ s) (hm₀ : 32768 ||| which = which) : ResWithin which s₀ (intRes one op e s) :=
  ResWithin.step h₀ (intRes_within ..) hm₀

theorem runMov_within (x0 : Env) (x1 : State) : ResWithin 32768 x1 (runMov x0 x1) := by
  unfold runMov
  repeat' (first
    | assumption
    | with_reducible (exact Within.refl _ _)
    | with_reducible (refine ResWithin.done ?_)
    | with_reducible (refine ResWithin.jumped ?_)
    | with_reducible (refine ResWithin.parked ?_)
    | (exact ResWithin.trap _ _ _)
    | (exact ResWithin.notReady _ _)
    | with_reducible refine intRes_in ?_ (by decide)
    | split
    | dsimp only
    | refine ResWithin.of_done (by assumption) ?_
    | refine ResWithin.of_parked (by assumption) ?_)

theorem runMov_in {x0 : Env} {x1 : State} {which : Nat} {s₀ : State} (h₀ : Within which s₀ x1) (hm₀ : 32768 ||| which = which) : ResWithin which s₀ (runMov x0 x1) :=
  ResWithin.step h₀ (runMov_within ..) hm₀

theorem runAdd_within (x0 : Env) (x1 : State) : ResWithin 32768 x1 (runAdd x0 x1) := by
  unfold runAdd
  repeat' (first
    | assumption
    | with_reducible (exact Within.refl _ _)
    | with_reducible (refine ResWithin.done ?_)
    | with_reducible (refine ResWithin.jumped ?_)
    | with_reducible (refine ResWithin.parked ?_)
    | (exact ResWithin.trap _ _ _)
    | (exact ResWithin.notReady _ _)
    | with_reducible refine intRes_in ?_ (by decide)
    | split
    | dsimp only
    | refine ResWithin.of_done (by assumption) ?_
    | refine ResWithin.of_parked (by assumption) ?_)

theorem runAdd_in {x0 : Env} {x1 : State} {which : Nat} {s₀ : State} (h₀ : Within which s₀ x1) (hm₀ : 32768 ||| which = which) : ResWithin which s₀ (runAdd x0 x1) :=
  ResWithin.step h₀ (runAdd_within ..) hm₀

theorem runSub_within (x0 : Env) (x1 : State) : ResWithin 32768 x1 (runSub x0 x1) := by
  unfold runSub
  repeat' (first
    | assumption
    | with_reducible (exact Within.refl _ _)
    | with_reducible (refine ResWithin.done ?_)
    | with_reducible (refine ResWithin.jumped ?_)
    | with_reducible (refine ResWithin.parked ?_)
    | (exact ResWithin.trap _ _ _)
    | (exact ResWithin.notReady _ _)
    | with_reducible refine intRes_in ?_ (by decide)
    | split
    | dsimp only
    | refine ResWithin.of_done (by assumption) ?_
    | refine ResWithin.of_parked (by assumption) ?_)

theorem runSub_in {x0 : Env} {x1 : State} {which : Nat} {s₀ : State} (h₀ : Within which s₀ x1) (hm₀ : 32768 ||| which = which) : ResWithin which s₀ (runSub x0 x1) :=
  ResWithin.step h₀ (runSub_within ..) hm₀

theorem runMul_within (x0 : Env) (x1 : State) : ResWithin 32768 x1 (runMul x0 x1) := by
  unfold runMul
  repeat' (first
    | assumption
    | with_reducible (exact Within.refl _ _)
    | with_reducible (refine ResWithin.done ?_)
    | with_reducible (refine ResWithin.jumped ?_)
    | with_reducible (refine ResWithin.parked ?_)
    | (exact ResWithin.trap _ _ _)
    | (exact ResWithin.notReady _ _)
    | with_reducible refine intRes_in ?_ (by decide)
    | split
    | dsimp only
    | refine ResWithin.of_done (by assumption) ?_
    | refine ResWithin.of_parked (by assumption) ?_)

theorem runMul_in {x0 : Env} {x1 : State} {which : Nat} {s₀ : State} (h₀ : Within which s₀ x1) (hm₀ : 32768 ||| which = which) : ResWithin which s₀ (runMul x0 x1) :=
  ResWithin.step h₀ (runMul_within ..) hm₀

theorem runMulhi_within (x0 : Env) (x1 : State) : ResWithin 32768 x1 (runMulhi x0 x1) := by
  unfold runMulhi
  repeat' (first
    | assumption
    | with_reducible (exact Within.refl _ _)
    | with_reducible (refine ResWithin.done ?_)
    | with_reducible (refine ResWithin.jumped ?_)
    | with_reducible (refine ResWithin.parked ?_)
    | (exact ResWithin.trap _ _ _)
    | (exact ResWithin.notReady _ _)
    | with_reducible refine intRes_in ?_ (by decide)
    | split
    | dsimp only
    | refine ResWithin.of_done (by assumption) ?_
    | refine ResWithin.of_parked (by assumption) ?_)

theorem runMulhi_in {x0 : Env} {x1 : State} {which : Nat} {s₀ : State} (h₀ : Within which s₀ x1) (hm₀ : 32768 ||| which = which) : ResWithin which s₀ (runMulhi x0 x1) :=
  ResWithin.step h₀ (runMulhi_within ..) hm₀

theorem runMad_within (x0 : Env) (x1 : State) : ResWithin 32768 x1 (runMad x0 x1) := by
  unfold runMad
  repeat' (first
    | assumption
    | with_reducible (exact Within.refl _ _)
    | with_reducible (refine ResWithin.done ?_)
    | with_reducible (refine ResWithin.jumped ?_)
    | with_reducible (refine ResWithin.parked ?_)
    | (exact ResWithin.trap _ _ _)
    | (exact ResWithin.notReady _ _)
    | with_reducible refine intRes_in ?_ (by decide)
    | split
    | dsimp only
    | refine ResWithin.of_done (by assumption) ?_
    | refine ResWithin.of_parked (by assumption) ?_)

theorem runMad_in {x0 : Env} {x1 : State} {which : Nat} {s₀ : State} (h₀ : Within which s₀ x1) (hm₀ : 32768 ||| which = which) : ResWithin which s₀ (runMad x0 x1) :=
  ResWithin.step h₀ (runMad_within ..) hm₀

theorem runMin_within (x0 : Env) (x1 : State) : ResWithin 32768 x1 (runMin x0 x1) := by
  unfold runMin
  repeat' (first
    | assumption
    | with_reducible (exact Within.refl _ _)
    | with_reducible (refine ResWithin.done ?_)
    | with_reducible (refine ResWithin.jumped ?_)
    | with_reducible (refine ResWithin.parked ?_)
    | (exact ResWithin.trap _ _ _)
    | (exact ResWithin.notReady _ _)
    | with_reducible refine intRes_in ?_ (by decide)
    | split
    | dsimp only
    | refine ResWithin.of_done (by assumption) ?_
    | refine ResWithin.of_parked (by assumption) ?_)

theorem runMin_in {x0 : Env} {x1 : State} {which : Nat} {s₀ : State} (h₀ : Within which s₀ x1) (hm₀ : 32768 ||| which = which) : ResWithin which s₀ (runMin x0 x1) :=
  ResWithin.step h₀ (runMin_within ..) hm₀

theorem runMax_within (x0 : Env) (x1 : State) : ResWithin 32768 x1 (runMax x0 x1) := by
  unfold runMax
  repeat' (first
    | assumption
    | with_reducible (exact Within.refl _ _)
    | with_reducible (refine ResWithin.done ?_)
    | with_reducible (refine ResWithin.jumped ?_)
    | with_reducible (refine ResWithin.parked ?_)
    | (exact ResWithin.trap _ _ _)
    | (exact ResWithin.notReady _ _)
    | with_reducible refine intRes_in ?_ (by decide)
    | split
    | dsimp only
    | refine ResWithin.of_done (by assumption) ?_
    | refine ResWithin.of_parked (by assumption) ?_)

theorem runMax_in {x0 : Env} {x1 : State} {which : Nat} {s₀ : State} (h₀ : Within which s₀ x1) (hm₀ : 32768 ||| which = which) : ResWithin which s₀ (runMax x0 x1) :=
  ResWithin.step h₀ (runMax_within ..) hm₀

theorem runAnd_within (x0 : Env) (x1 : State) : ResWithin 32768 x1 (runAnd x0 x1) := by
  unfold runAnd
  repeat' (first
    | assumption
    | with_reducible (exact Within.refl _ _)
    | with_reducible (refine ResWithin.done ?_)
    | with_reducible (refine ResWithin.jumped ?_)
    | with_reducible (refine ResWithin.parked ?_)
    | (exact ResWithin.trap _ _ _)
    | (exact ResWithin.notReady _ _)
    | with_reducible refine intRes_in ?_ (by decide)
    | split
    | dsimp only
    | refine ResWithin.of_done (by assumption) ?_
    | refine ResWithin.of_parked (by assumption) ?_)

theorem runAnd_in {x0 : Env} {x1 : State} {which : Nat} {s₀ : State} (h₀ : Within which s₀ x1) (hm₀ : 32768 ||| which = which) : ResWithin which s₀ (runAnd x0 x1) :=
  ResWithin.step h₀ (runAnd_within ..) hm₀

theorem runOr_within (x0 : Env) (x1 : State) : ResWithin 32768 x1 (runOr x0 x1) := by
  unfold runOr
  repeat' (first
    | assumption
    | with_reducible (exact Within.refl _ _)
    | with_reducible (refine ResWithin.done ?_)
    | with_reducible (refine ResWithin.jumped ?_)
    | with_reducible (refine ResWithin.parked ?_)
    | (exact ResWithin.trap _ _ _)
    | (exact ResWithin.notReady _ _)
    | with_reducible refine intRes_in ?_ (by decide)
    | split
    | dsimp only
    | refine ResWithin.of_done (by assumption) ?_
    | refine ResWithin.of_parked (by assumption) ?_)

theorem runOr_in {x0 : Env} {x1 : State} {which : Nat} {s₀ : State} (h₀ : Within which s₀ x1) (hm₀ : 32768 ||| which = which) : ResWithin which s₀ (runOr x0 x1) :=
  ResWithin.step h₀ (runOr_within ..) hm₀

theorem runXor_within (x0 : Env) (x1 : State) : ResWithin 32768 x1 (runXor x0 x1) := by
  unfold runXor
  repeat' (first
    | assumption
    | with_reducible (exact Within.refl _ _)
    | with_reducible (refine ResWithin.done ?_)
    | with_reducible (refine ResWithin.jumped ?_)
    | with_reducible (refine ResWithin.parked ?_)
    | (exact ResWithin.trap _ _ _)
    | (exact ResWithin.notReady _ _)
    | with_reducible refine intRes_in ?_ (by decide)
    | split
    | dsimp only
    | refine ResWithin.of_done (by assumption) ?_
    | refine ResWithin.of_parked (by assumption) ?_)

theorem runXor_in {x0 : Env} {x1 : State} {which : Nat} {s₀ : State} (h₀ : Within which s₀ x1) (hm₀ : 32768 ||| which = which) : ResWithin which s₀ (runXor x0 x1) :=
  ResWithin.step h₀ (runXor_within ..) hm₀

theorem runShl_within (x0 : Env) (x1 : State) : ResWithin 32768 x1 (runShl x0 x1) := by
  unfold runShl
  repeat' (first
    | assumption
    | with_reducible (exact Within.refl _ _)
    | with_reducible (refine ResWithin.done ?_)
    | with_reducible (refine ResWithin.jumped ?_)
    | with_reducible (refine ResWithin.parked ?_)
    | (exact ResWithin.trap _ _ _)
    | (exact ResWithin.notReady _ _)
    | with_reducible refine intRes_in ?_ (by decide)
    | split
    | dsimp only
    | refine ResWithin.of_done (by assumption) ?_
    | refine ResWithin.of_parked (by assumption) ?_)

theorem runShl_in {x0 : Env} {x1 : State} {which : Nat} {s₀ : State} (h₀ : Within which s₀ x1) (hm₀ : 32768 ||| which = which) : ResWithin which s₀ (runShl x0 x1) :=
  ResWithin.step h₀ (runShl_within ..) hm₀

theorem runShr_within (x0 : Env) (x1 : State) : ResWithin 32768 x1 (runShr x0 x1) := by
  unfold runShr
  repeat' (first
    | assumption
    | with_reducible (exact Within.refl _ _)
    | with_reducible (refine ResWithin.done ?_)
    | with_reducible (refine ResWithin.jumped ?_)
    | with_reducible (refine ResWithin.parked ?_)
    | (exact ResWithin.trap _ _ _)
    | (exact ResWithin.notReady _ _)
    | with_reducible refine intRes_in ?_ (by decide)
    | split
    | dsimp only
    | refine ResWithin.of_done (by assumption) ?_
    | refine ResWithin.of_parked (by assumption) ?_)

theorem runShr_in {x0 : Env} {x1 : State} {which : Nat} {s₀ : State} (h₀ : Within which s₀ x1) (hm₀ : 32768 ||| which = which) : ResWithin which s₀ (runShr x0 x1) :=
  ResWithin.step h₀ (runShr_within ..) hm₀

theorem runSar_within (x0 : Env) (x1 : State) : ResWithin 32768 x1 (runSar x0 x1) := by
  unfold runSar
  repeat' (first
    | assumption
    | with_reducible (exact Within.refl _ _)
    | with_reducible (refine ResWithin.done ?_)
    | with_reducible (refine ResWithin.jumped ?_)
    | with_reducible (refine ResWithin.parked ?_)
    | (exact ResWithin.trap _ _ _)
    | (exact ResWithin.notReady _ _)
    | with_reducible refine intRes_in ?_ (by decide)
    | split
    | dsimp only
    | refine ResWithin.of_done (by assumption) ?_
    | refine ResWithin.of_parked (by assumption) ?_)

theorem runSar_in {x0 : Env} {x1 : State} {which : Nat} {s₀ : State} (h₀ : Within which s₀ x1) (hm₀ : 32768 ||| which = which) : ResWithin which s₀ (runSar x0 x1) :=
  ResWithin.step h₀ (runSar_within ..) hm₀

theorem runPopc_within (x0 : Env) (x1 : State) : ResWithin 32768 x1 (runPopc x0 x1) := by
  unfold runPopc
  repeat' (first
    | assumption
    | with_reducible (exact Within.refl _ _)
    | with_reducible (refine ResWithin.done ?_)
    | with_reducible (refine ResWithin.jumped ?_)
    | with_reducible (refine ResWithin.parked ?_)
    | (exact ResWithin.trap _ _ _)
    | (exact ResWithin.notReady _ _)
    | with_reducible refine intRes_in ?_ (by decide)
    | split
    | dsimp only
    | refine ResWithin.of_done (by assumption) ?_
    | refine ResWithin.of_parked (by assumption) ?_)

theorem runPopc_in {x0 : Env} {x1 : State} {which : Nat} {s₀ : State} (h₀ : Within which s₀ x1) (hm₀ : 32768 ||| which = which) : ResWithin which s₀ (runPopc x0 x1) :=
  ResWithin.step h₀ (runPopc_within ..) hm₀

theorem runClz_within (x0 : Env) (x1 : State) : ResWithin 32768 x1 (runClz x0 x1) := by
  unfold runClz
  repeat' (first
    | assumption
    | with_reducible (exact Within.refl _ _)
    | with_reducible (refine ResWithin.done ?_)
    | with_reducible (refine ResWithin.jumped ?_)
    | with_reducible (refine ResWithin.parked ?_)
    | (exact ResWithin.trap _ _ _)
    | (exact ResWithin.notReady _ _)
    | with_reducible refine intRes_in ?_ (by decide)
    | split
    | dsimp only
    | refine ResWithin.of_done (by assumption) ?_
    | refine ResWithin.of_parked (by assumption) ?_)

theorem runClz_in {x0 : Env} {x1 : State} {which : Nat} {s₀ : State} (h₀ : Within which s₀ x1) (hm₀ : 32768 ||| which = which) : ResWithin which s₀ (runClz x0 x1) :=
  ResWithin.step h₀ (runClz_within ..) hm₀

theorem runSel_within (e : Env) (s : State) : ResWithin 32768 s (runSel e s) := by
  unfold runSel
  repeat' (first
    | assumption
    | with_reducible (exact Within.refl _ _)
    | with_reducible (refine ResWithin.done ?_)
    | with_reducible (refine ResWithin.jumped ?_)
    | with_reducible (refine ResWithin.parked ?_)
    | (exact ResWithin.trap _ _ _)
    | (exact ResWithin.notReady _ _)
    | with_reducible refine Env.write_in ?_ (by decide)
    | split
    | dsimp only)

theorem runSel_in {e : Env} {s : State} {which : Nat} {s₀ : State} (h₀ : Within which s₀ s) (hm₀ : 32768 ||| which = which) : ResWithin which s₀ (runSel e s) :=
  ResWithin.step h₀ (runSel_within ..) hm₀

theorem runRdlane_within (e : Env) (s : State) : ResWithin 32768 s (runRdlane e s) := by
  unfold runRdlane
  repeat' (first
    | assumption
    | with_reducible (exact Within.refl _ _)
    | with_reducible (refine ResWithin.done ?_)
    | with_reducible (refine ResWithin.jumped ?_)
    | with_reducible (refine ResWithin.parked ?_)
    | (exact ResWithin.trap _ _ _)
    | (exact ResWithin.notReady _ _)
    | with_reducible refine Env.update_in ?_ (by decide)
    | split
    | dsimp only)

theorem runRdlane_in {e : Env} {s : State} {which : Nat} {s₀ : State} (h₀ : Within which s₀ s) (hm₀ : 32768 ||| which = which) : ResWithin which s₀ (runRdlane e s) :=
  ResWithin.step h₀ (runRdlane_within ..) hm₀

theorem runSreg_within (e : Env) (s : State) : ResWithin 32768 s (runSreg e s) := by
  unfold runSreg
  repeat' (first
    | assumption
    | with_reducible (exact Within.refl _ _)
    | with_reducible (refine ResWithin.done ?_)
    | with_reducible (refine ResWithin.jumped ?_)
    | with_reducible (refine ResWithin.parked ?_)
    | (exact ResWithin.trap _ _ _)
    | (exact ResWithin.notReady _ _)
    | with_reducible refine Env.write_in ?_ (by decide)
    | split
    | dsimp only)

theorem runSreg_in {e : Env} {s : State} {which : Nat} {s₀ : State} (h₀ : Within which s₀ s) (hm₀ : 32768 ||| which = which) : ResWithin which s₀ (runSreg e s) :=
  ResWithin.step h₀ (runSreg_within ..) hm₀

theorem fpRes_within (one : Bool) (op : Rmode → Word32 → Word32 → Word32 → R32) (e : Env) (s : State) : ResWithin 98304 s (fpRes one op e s) := by
  unfold fpRes
  repeat' (first
    | assumption
    | with_reducible (exact Within.refl _ _)
    | with_reducible (refine ResWithin.done ?_)
    | with_reducible (refine ResWithin.jumped ?_)
    | with_reducible (refine ResWithin.parked ?_)
    | (exact ResWithin.trap _ _ _)
    | (exact ResWithin.notReady _ _)
    | with_reducible refine Env.writeFl_in ?_ (by decide)
    | split
    | dsimp only)

theorem fpRes_in {one : Bool} {op : Rmode → Word32 → Word32 → Word32 → R32} {e : Env} {s : State} {which : Nat} {s₀ : State} (h₀ : Within which s₀ s) (hm₀ : 98304 ||| which = which) : ResWithin which s₀ (fpRes one op e s) :=
  ResWithin.step h₀ (fpRes_within ..) hm₀

theorem runFadd_within (x0 : Env) (x1 : State) : ResWithin 98304 x1 (runFadd x0 x1) := by
  unfold runFadd
  repeat' (first
    | assumption
    | with_reducible (exact Within.refl _ _)
    | with_reducible (refine ResWithin.done ?_)
    | with_reducible (refine ResWithin.jumped ?_)
    | with_reducible (refine ResWithin.parked ?_)
    | (exact ResWithin.trap _ _ _)
    | (exact ResWithin.notReady _ _)
    | with_reducible refine fpRes_in ?_ (by decide)
    | split
    | dsimp only
    | refine ResWithin.of_done (by assumption) ?_
    | refine ResWithin.of_parked (by assumption) ?_)

theorem runFadd_in {x0 : Env} {x1 : State} {which : Nat} {s₀ : State} (h₀ : Within which s₀ x1) (hm₀ : 98304 ||| which = which) : ResWithin which s₀ (runFadd x0 x1) :=
  ResWithin.step h₀ (runFadd_within ..) hm₀

theorem runFsub_within (x0 : Env) (x1 : State) : ResWithin 98304 x1 (runFsub x0 x1) := by
  unfold runFsub
  repeat' (first
    | assumption
    | with_reducible (exact Within.refl _ _)
    | with_reducible (refine ResWithin.done ?_)
    | with_reducible (refine ResWithin.jumped ?_)
    | with_reducible (refine ResWithin.parked ?_)
    | (exact ResWithin.trap _ _ _)
    | (exact ResWithin.notReady _ _)
    | with_reducible refine fpRes_in ?_ (by decide)
    | split
    | dsimp only
    | refine ResWithin.of_done (by assumption) ?_
    | refine ResWithin.of_parked (by assumption) ?_)

theorem runFsub_in {x0 : Env} {x1 : State} {which : Nat} {s₀ : State} (h₀ : Within which s₀ x1) (hm₀ : 98304 ||| which = which) : ResWithin which s₀ (runFsub x0 x1) :=
  ResWithin.step h₀ (runFsub_within ..) hm₀

theorem runFmul_within (x0 : Env) (x1 : State) : ResWithin 98304 x1 (runFmul x0 x1) := by
  unfold runFmul
  repeat' (first
    | assumption
    | with_reducible (exact Within.refl _ _)
    | with_reducible (refine ResWithin.done ?_)
    | with_reducible (refine ResWithin.jumped ?_)
    | with_reducible (refine ResWithin.parked ?_)
    | (exact ResWithin.trap _ _ _)
    | (exact ResWithin.notReady _ _)
    | with_reducible refine fpRes_in ?_ (by decide)
    | split
    | dsimp only
    | refine ResWithin.of_done (by assumption) ?_
    | refine ResWithin.of_parked (by assumption) ?_)

theorem runFmul_in {x0 : Env} {x1 : State} {which : Nat} {s₀ : State} (h₀ : Within which s₀ x1) (hm₀ : 98304 ||| which = which) : ResWithin which s₀ (runFmul x0 x1) :=
  ResWithin.step h₀ (runFmul_within ..) hm₀

theorem runFfma_within (x0 : Env) (x1 : State) : ResWithin 98304 x1 (runFfma x0 x1) := by
  unfold runFfma
  repeat' (first
    | assumption
    | with_reducible (exact Within.refl _ _)
    | with_reducible (refine ResWithin.done ?_)
    | with_reducible (refine ResWithin.jumped ?_)
    | with_reducible (refine ResWithin.parked ?_)
    | (exact ResWithin.trap _ _ _)
    | (exact ResWithin.notReady _ _)
    | with_reducible refine fpRes_in ?_ (by decide)
    | split
    | dsimp only
    | refine ResWithin.of_done (by assumption) ?_
    | refine ResWithin.of_parked (by assumption) ?_)

theorem runFfma_in {x0 : Env} {x1 : State} {which : Nat} {s₀ : State} (h₀ : Within which s₀ x1) (hm₀ : 98304 ||| which = which) : ResWithin which s₀ (runFfma x0 x1) :=
  ResWithin.step h₀ (runFfma_within ..) hm₀

theorem runFmin_within (x0 : Env) (x1 : State) : ResWithin 98304 x1 (runFmin x0 x1) := by
  unfold runFmin
  repeat' (first
    | assumption
    | with_reducible (exact Within.refl _ _)
    | with_reducible (refine ResWithin.done ?_)
    | with_reducible (refine ResWithin.jumped ?_)
    | with_reducible (refine ResWithin.parked ?_)
    | (exact ResWithin.trap _ _ _)
    | (exact ResWithin.notReady _ _)
    | with_reducible refine fpRes_in ?_ (by decide)
    | split
    | dsimp only
    | refine ResWithin.of_done (by assumption) ?_
    | refine ResWithin.of_parked (by assumption) ?_)

theorem runFmin_in {x0 : Env} {x1 : State} {which : Nat} {s₀ : State} (h₀ : Within which s₀ x1) (hm₀ : 98304 ||| which = which) : ResWithin which s₀ (runFmin x0 x1) :=
  ResWithin.step h₀ (runFmin_within ..) hm₀

theorem runFmax_within (x0 : Env) (x1 : State) : ResWithin 98304 x1 (runFmax x0 x1) := by
  unfold runFmax
  repeat' (first
    | assumption
    | with_reducible (exact Within.refl _ _)
    | with_reducible (refine ResWithin.done ?_)
    | with_reducible (refine ResWithin.jumped ?_)
    | with_reducible (refine ResWithin.parked ?_)
    | (exact ResWithin.trap _ _ _)
    | (exact ResWithin.notReady _ _)
    | with_reducible refine fpRes_in ?_ (by decide)
    | split
    | dsimp only
    | refine ResWithin.of_done (by assumption) ?_
    | refine ResWithin.of_parked (by assumption) ?_)

theorem runFmax_in {x0 : Env} {x1 : State} {which : Nat} {s₀ : State} (h₀ : Within which s₀ x1) (hm₀ : 98304 ||| which = which) : ResWithin which s₀ (runFmax x0 x1) :=
  ResWithin.step h₀ (runFmax_within ..) hm₀

theorem runFabs_within (x0 : Env) (x1 : State) : ResWithin 98304 x1 (runFabs x0 x1) := by
  unfold runFabs
  repeat' (first
    | assumption
    | with_reducible (exact Within.refl _ _)
    | with_reducible (refine ResWithin.done ?_)
    | with_reducible (refine ResWithin.jumped ?_)
    | with_reducible (refine ResWithin.parked ?_)
    | (exact ResWithin.trap _ _ _)
    | (exact ResWithin.notReady _ _)
    | with_reducible refine fpRes_in ?_ (by decide)
    | split
    | dsimp only
    | refine ResWithin.of_done (by assumption) ?_
    | refine ResWithin.of_parked (by assumption) ?_)

theorem runFabs_in {x0 : Env} {x1 : State} {which : Nat} {s₀ : State} (h₀ : Within which s₀ x1) (hm₀ : 98304 ||| which = which) : ResWithin which s₀ (runFabs x0 x1) :=
  ResWithin.step h₀ (runFabs_within ..) hm₀

theorem runFneg_within (x0 : Env) (x1 : State) : ResWithin 98304 x1 (runFneg x0 x1) := by
  unfold runFneg
  repeat' (first
    | assumption
    | with_reducible (exact Within.refl _ _)
    | with_reducible (refine ResWithin.done ?_)
    | with_reducible (refine ResWithin.jumped ?_)
    | with_reducible (refine ResWithin.parked ?_)
    | (exact ResWithin.trap _ _ _)
    | (exact ResWithin.notReady _ _)
    | with_reducible refine fpRes_in ?_ (by decide)
    | split
    | dsimp only
    | refine ResWithin.of_done (by assumption) ?_
    | refine ResWithin.of_parked (by assumption) ?_)

theorem runFneg_in {x0 : Env} {x1 : State} {which : Nat} {s₀ : State} (h₀ : Within which s₀ x1) (hm₀ : 98304 ||| which = which) : ResWithin which s₀ (runFneg x0 x1) :=
  ResWithin.step h₀ (runFneg_within ..) hm₀

theorem runRcp_within (x0 : Env) (x1 : State) : ResWithin 98304 x1 (runRcp x0 x1) := by
  unfold runRcp
  repeat' (first
    | assumption
    | with_reducible (exact Within.refl _ _)
    | with_reducible (refine ResWithin.done ?_)
    | with_reducible (refine ResWithin.jumped ?_)
    | with_reducible (refine ResWithin.parked ?_)
    | (exact ResWithin.trap _ _ _)
    | (exact ResWithin.notReady _ _)
    | with_reducible refine fpRes_in ?_ (by decide)
    | split
    | dsimp only
    | refine ResWithin.of_done (by assumption) ?_
    | refine ResWithin.of_parked (by assumption) ?_)

theorem runRcp_in {x0 : Env} {x1 : State} {which : Nat} {s₀ : State} (h₀ : Within which s₀ x1) (hm₀ : 98304 ||| which = which) : ResWithin which s₀ (runRcp x0 x1) :=
  ResWithin.step h₀ (runRcp_within ..) hm₀

theorem runRsq_within (x0 : Env) (x1 : State) : ResWithin 98304 x1 (runRsq x0 x1) := by
  unfold runRsq
  repeat' (first
    | assumption
    | with_reducible (exact Within.refl _ _)
    | with_reducible (refine ResWithin.done ?_)
    | with_reducible (refine ResWithin.jumped ?_)
    | with_reducible (refine ResWithin.parked ?_)
    | (exact ResWithin.trap _ _ _)
    | (exact ResWithin.notReady _ _)
    | with_reducible refine fpRes_in ?_ (by decide)
    | split
    | dsimp only
    | refine ResWithin.of_done (by assumption) ?_
    | refine ResWithin.of_parked (by assumption) ?_)

theorem runRsq_in {x0 : Env} {x1 : State} {which : Nat} {s₀ : State} (h₀ : Within which s₀ x1) (hm₀ : 98304 ||| which = which) : ResWithin which s₀ (runRsq x0 x1) :=
  ResWithin.step h₀ (runRsq_within ..) hm₀

theorem runSqrt_within (x0 : Env) (x1 : State) : ResWithin 98304 x1 (runSqrt x0 x1) := by
  unfold runSqrt
  repeat' (first
    | assumption
    | with_reducible (exact Within.refl _ _)
    | with_reducible (refine ResWithin.done ?_)
    | with_reducible (refine ResWithin.jumped ?_)
    | with_reducible (refine ResWithin.parked ?_)
    | (exact ResWithin.trap _ _ _)
    | (exact ResWithin.notReady _ _)
    | with_reducible refine fpRes_in ?_ (by decide)
    | split
    | dsimp only
    | refine ResWithin.of_done (by assumption) ?_
    | refine ResWithin.of_parked (by assumption) ?_)

theorem runSqrt_in {x0 : Env} {x1 : State} {which : Nat} {s₀ : State} (h₀ : Within which s₀ x1) (hm₀ : 98304 ||| which = which) : ResWithin which s₀ (runSqrt x0 x1) :=
  ResWithin.step h₀ (runSqrt_within ..) hm₀

theorem runExp2_within (x0 : Env) (x1 : State) : ResWithin 98304 x1 (runExp2 x0 x1) := by
  unfold runExp2
  repeat' (first
    | assumption
    | with_reducible (exact Within.refl _ _)
    | with_reducible (refine ResWithin.done ?_)
    | with_reducible (refine ResWithin.jumped ?_)
    | with_reducible (refine ResWithin.parked ?_)
    | (exact ResWithin.trap _ _ _)
    | (exact ResWithin.notReady _ _)
    | with_reducible refine fpRes_in ?_ (by decide)
    | split
    | dsimp only
    | refine ResWithin.of_done (by assumption) ?_
    | refine ResWithin.of_parked (by assumption) ?_)

theorem runExp2_in {x0 : Env} {x1 : State} {which : Nat} {s₀ : State} (h₀ : Within which s₀ x1) (hm₀ : 98304 ||| which = which) : ResWithin which s₀ (runExp2 x0 x1) :=
  ResWithin.step h₀ (runExp2_within ..) hm₀

theorem runLog2_within (x0 : Env) (x1 : State) : ResWithin 98304 x1 (runLog2 x0 x1) := by
  unfold runLog2
  repeat' (first
    | assumption
    | with_reducible (exact Within.refl _ _)
    | with_reducible (refine ResWithin.done ?_)
    | with_reducible (refine ResWithin.jumped ?_)
    | with_reducible (refine ResWithin.parked ?_)
    | (exact ResWithin.trap _ _ _)
    | (exact ResWithin.notReady _ _)
    | with_reducible refine fpRes_in ?_ (by decide)
    | split
    | dsimp only
    | refine ResWithin.of_done (by assumption) ?_
    | refine ResWithin.of_parked (by assumption) ?_)

theorem runLog2_in {x0 : Env} {x1 : State} {which : Nat} {s₀ : State} (h₀ : Within which s₀ x1) (hm₀ : 98304 ||| which = which) : ResWithin which s₀ (runLog2 x0 x1) :=
  ResWithin.step h₀ (runLog2_within ..) hm₀

theorem cvtWith_within (mode : Nat → Rmode) (e : Env) (s : State) : Within 98304 s (cvtWith mode e s) := by
  unfold cvtWith
  repeat' (first
    | assumption
    | with_reducible (exact Within.refl _ _)
    | with_reducible refine Env.writeFl_in ?_ (by decide)
    | split
    | dsimp only)

theorem cvtWith_in {mode : Nat → Rmode} {e : Env} {s : State} {which : Nat} {s₀ : State} (h₀ : Within which s₀ s) (hm₀ : 98304 ||| which = which) : Within which s₀ (cvtWith mode e s) :=
  Within.step h₀ (cvtWith_within ..) hm₀

theorem runCvtRne_within (e : Env) (s : State) : ResWithin 98304 s (runCvtRne e s) := by
  unfold runCvtRne
  repeat' (first
    | assumption
    | with_reducible (exact Within.refl _ _)
    | with_reducible (refine ResWithin.done ?_)
    | with_reducible (refine ResWithin.jumped ?_)
    | with_reducible (refine ResWithin.parked ?_)
    | (exact ResWithin.trap _ _ _)
    | (exact ResWithin.notReady _ _)
    | with_reducible refine cvtWith_in ?_ (by decide)
    | split
    | dsimp only)

theorem runCvtRne_in {e : Env} {s : State} {which : Nat} {s₀ : State} (h₀ : Within which s₀ s) (hm₀ : 98304 ||| which = which) : ResWithin which s₀ (runCvtRne e s) :=
  ResWithin.step h₀ (runCvtRne_within ..) hm₀

theorem runCvtRtz_within (e : Env) (s : State) : ResWithin 98304 s (runCvtRtz e s) := by
  unfold runCvtRtz
  repeat' (first
    | assumption
    | with_reducible (exact Within.refl _ _)
    | with_reducible (refine ResWithin.done ?_)
    | with_reducible (refine ResWithin.jumped ?_)
    | with_reducible (refine ResWithin.parked ?_)
    | (exact ResWithin.trap _ _ _)
    | (exact ResWithin.notReady _ _)
    | with_reducible refine cvtWith_in ?_ (by decide)
    | split
    | dsimp only)

theorem runCvtRtz_in {e : Env} {s : State} {which : Nat} {s₀ : State} (h₀ : Within which s₀ s) (hm₀ : 98304 ||| which = which) : ResWithin which s₀ (runCvtRtz e s) :=
  ResWithin.step h₀ (runCvtRtz_within ..) hm₀

theorem runCvtSr_within (e : Env) (s : State) : ResWithin 98312 s (runCvtSr e s) := by
  unfold runCvtSr
  repeat' (first
    | assumption
    | with_reducible (exact Within.refl _ _)
    | with_reducible (refine ResWithin.done ?_)
    | with_reducible (refine ResWithin.jumped ?_)
    | with_reducible (refine ResWithin.parked ?_)
    | (exact ResWithin.trap _ _ _)
    | (exact ResWithin.notReady _ _)
    | with_reducible refine cvtWith_in ?_ (by decide)
    | split
    | dsimp only
    | with_reducible refine free_in ?_ (by decide))

theorem runCvtSr_in {e : Env} {s : State} {which : Nat} {s₀ : State} (h₀ : Within which s₀ s) (hm₀ : 98312 ||| which = which) : ResWithin which s₀ (runCvtSr e s) :=
  ResWithin.step h₀ (runCvtSr_within ..) hm₀

theorem runIsetp_within (e : Env) (s : State) : ResWithin 32768 s (runIsetp e s) := by
  unfold runIsetp
  repeat' (first
    | assumption
    | with_reducible (exact Within.refl _ _)
    | with_reducible (refine ResWithin.done ?_)
    | with_reducible (refine ResWithin.jumped ?_)
    | with_reducible (refine ResWithin.parked ?_)
    | (exact ResWithin.trap _ _ _)
    | (exact ResWithin.notReady _ _)
    | with_reducible refine Env.write_in ?_ (by decide)
    | split
    | dsimp only)

theorem runIsetp_in {e : Env} {s : State} {which : Nat} {s₀ : State} (h₀ : Within which s₀ s) (hm₀ : 32768 ||| which = which) : ResWithin which s₀ (runIsetp e s) :=
  ResWithin.step h₀ (runIsetp_within ..) hm₀

theorem runFsetp_within (e : Env) (s : State) : ResWithin 98304 s (runFsetp e s) := by
  unfold runFsetp
  repeat' (first
    | assumption
    | with_reducible (exact Within.refl _ _)
    | with_reducible (refine ResWithin.done ?_)
    | with_reducible (refine ResWithin.jumped ?_)
    | with_reducible (refine ResWithin.parked ?_)
    | (exact ResWithin.trap _ _ _)
    | (exact ResWithin.notReady _ _)
    | with_reducible refine Env.writeFl_in ?_ (by decide)
    | split
    | dsimp only)

theorem runFsetp_in {e : Env} {s : State} {which : Nat} {s₀ : State} (h₀ : Within which s₀ s) (hm₀ : 98304 ||| which = which) : ResWithin which s₀ (runFsetp e s) :=
  ResWithin.step h₀ (runFsetp_within ..) hm₀

theorem predRes_within (op : Bool → Bool → Bool) (e : Env) (s : State) : ResWithin 32768 s (predRes op e s) := by
  unfold predRes
  repeat' (first
    | assumption
    | with_reducible (exact Within.refl _ _)
    | with_reducible (refine ResWithin.done ?_)
    | with_reducible (refine ResWithin.jumped ?_)
    | with_reducible (refine ResWithin.parked ?_)
    | (exact ResWithin.trap _ _ _)
    | (exact ResWithin.notReady _ _)
    | with_reducible refine Env.write_in ?_ (by decide)
    | split
    | dsimp only)

theorem predRes_in {op : Bool → Bool → Bool} {e : Env} {s : State} {which : Nat} {s₀ : State} (h₀ : Within which s₀ s) (hm₀ : 32768 ||| which = which) : ResWithin which s₀ (predRes op e s) :=
  ResWithin.step h₀ (predRes_within ..) hm₀

theorem runPand_within (x0 : Env) (x1 : State) : ResWithin 32768 x1 (runPand x0 x1) := by
  unfold runPand
  repeat' (first
    | assumption
    | with_reducible (exact Within.refl _ _)
    | with_reducible (refine ResWithin.done ?_)
    | with_reducible (refine ResWithin.jumped ?_)
    | with_reducible (refine ResWithin.parked ?_)
    | (exact ResWithin.trap _ _ _)
    | (exact ResWithin.notReady _ _)
    | with_reducible refine predRes_in ?_ (by decide)
    | split
    | dsimp only
    | refine ResWithin.of_done (by assumption) ?_
    | refine ResWithin.of_parked (by assumption) ?_)

theorem runPand_in {x0 : Env} {x1 : State} {which : Nat} {s₀ : State} (h₀ : Within which s₀ x1) (hm₀ : 32768 ||| which = which) : ResWithin which s₀ (runPand x0 x1) :=
  ResWithin.step h₀ (runPand_within ..) hm₀

theorem runPor_within (x0 : Env) (x1 : State) : ResWithin 32768 x1 (runPor x0 x1) := by
  unfold runPor
  repeat' (first
    | assumption
    | with_reducible (exact Within.refl _ _)
    | with_reducible (refine ResWithin.done ?_)
    | with_reducible (refine ResWithin.jumped ?_)
    | with_reducible (refine ResWithin.parked ?_)
    | (exact ResWithin.trap _ _ _)
    | (exact ResWithin.notReady _ _)
    | with_reducible refine predRes_in ?_ (by decide)
    | split
    | dsimp only
    | refine ResWithin.of_done (by assumption) ?_
    | refine ResWithin.of_parked (by assumption) ?_)

theorem runPor_in {x0 : Env} {x1 : State} {which : Nat} {s₀ : State} (h₀ : Within which s₀ x1) (hm₀ : 32768 ||| which = which) : ResWithin which s₀ (runPor x0 x1) :=
  ResWithin.step h₀ (runPor_within ..) hm₀

theorem runPxor_within (x0 : Env) (x1 : State) : ResWithin 32768 x1 (runPxor x0 x1) := by
  unfold runPxor
  repeat' (first
    | assumption
    | with_reducible (exact Within.refl _ _)
    | with_reducible (refine ResWithin.done ?_)
    | with_reducible (refine ResWithin.jumped ?_)
    | with_reducible (refine ResWithin.parked ?_)
    | (exact ResWithin.trap _ _ _)
    | (exact ResWithin.notReady _ _)
    | with_reducible refine predRes_in ?_ (by decide)
    | split
    | dsimp only
    | refine ResWithin.of_done (by assumption) ?_
    | refine ResWithin.of_parked (by assumption) ?_)

theorem runPxor_in {x0 : Env} {x1 : State} {which : Nat} {s₀ : State} (h₀ : Within which s₀ x1) (hm₀ : 32768 ||| which = which) : ResWithin which s₀ (runPxor x0 x1) :=
  ResWithin.step h₀ (runPxor_within ..) hm₀

theorem runPnot_within (x0 : Env) (x1 : State) : ResWithin 32768 x1 (runPnot x0 x1) := by
  unfold runPnot
  repeat' (first
    | assumption
    | with_reducible (exact Within.refl _ _)
    | with_reducible (refine ResWithin.done ?_)
    | with_reducible (refine ResWithin.jumped ?_)
    | with_reducible (refine ResWithin.parked ?_)
    | (exact ResWithin.trap _ _ _)
    | (exact ResWithin.notReady _ _)
    | with_reducible refine predRes_in ?_ (by decide)
    | split
    | dsimp only
    | refine ResWithin.of_done (by assumption) ?_
    | refine ResWithin.of_parked (by assumption) ?_)

theorem runPnot_in {x0 : Env} {x1 : State} {which : Nat} {s₀ : State} (h₀ : Within which s₀ x1) (hm₀ : 32768 ||| which = which) : ResWithin which s₀ (runPnot x0 x1) :=
  ResWithin.step h₀ (runPnot_within ..) hm₀

theorem runBallot_within (e : Env) (s : State) : ResWithin 32768 s (runBallot e s) := by
  unfold runBallot
  repeat' (first
    | assumption
    | with_reducible (exact Within.refl _ _)
    | with_reducible (refine ResWithin.done ?_)
    | with_reducible (refine ResWithin.jumped ?_)
    | with_reducible (refine ResWithin.parked ?_)
    | (exact ResWithin.trap _ _ _)
    | (exact ResWithin.notReady _ _)
    | with_reducible refine Env.update_in ?_ (by decide)
    | split
    | dsimp only)

theorem runBallot_in {e : Env} {s : State} {which : Nat} {s₀ : State} (h₀ : Within which s₀ s) (hm₀ : 32768 ||| which = which) : ResWithin which s₀ (runBallot e s) :=
  ResWithin.step h₀ (runBallot_within ..) hm₀

end Sys2Proof.Machine
end

