-- ==== Sys2Proof/Laws/Within/Control.lean ====
section
/-! SUPPORT. What the operations of Machine/Control.lean may touch: one lemma for each. -/

namespace Sys2Proof.Machine

open Sys2Proof

set_option linter.unusedTactic false
set_option linter.unreachableTactic false

theorem Env.jump_within (e : Env) (s : State) (f : Nat → Nat) : Within 32768 s (Env.jump e s f) := by
  unfold Env.jump
  repeat' (first
    | assumption
    | with_reducible (exact Within.refl _ _)
    | with_reducible (refine Within.foldl ?_ (fun _ _ => ?_))
    | with_reducible (refine Within.foldl_fst ?_ (fun _ _ => ?_))
    | with_reducible refine Env.update_in ?_ (by decide)
    | split
    | dsimp only)

theorem Env.jump_in {e : Env} {s : State} {f : Nat → Nat} {which : Nat} {s₀ : State} (h₀ : Within which s₀ s) (hm₀ : 32768 ||| which = which) : Within which s₀ (Env.jump e s f) :=
  Within.step h₀ (Env.jump_within ..) hm₀

theorem runBra_within (e : Env) (s : State) : ResWithin 32768 s (runBra e s) := by
  unfold runBra
  repeat' (first
    | assumption
    | with_reducible (exact Within.refl _ _)
    | with_reducible (refine ResWithin.done ?_)
    | with_reducible (refine ResWithin.jumped ?_)
    | with_reducible (refine ResWithin.parked ?_)
    | (exact ResWithin.trap _ _ _)
    | (exact ResWithin.notReady _ _)
    | with_reducible refine Env.jump_in ?_ (by decide)
    | split
    | dsimp only)

theorem runBra_in {e : Env} {s : State} {which : Nat} {s₀ : State} (h₀ : Within which s₀ s) (hm₀ : 32768 ||| which = which) : ResWithin which s₀ (runBra e s) :=
  ResWithin.step h₀ (runBra_within ..) hm₀

theorem runCall_within (e : Env) (s : State) : ResWithin 32768 s (runCall e s) := by
  unfold runCall
  repeat' (first
    | assumption
    | with_reducible (exact Within.refl _ _)
    | with_reducible (refine ResWithin.done ?_)
    | with_reducible (refine ResWithin.jumped ?_)
    | with_reducible (refine ResWithin.parked ?_)
    | (exact ResWithin.trap _ _ _)
    | (exact ResWithin.notReady _ _)
    | with_reducible refine Env.write_in ?_ (by decide)
    | with_reducible refine Env.jump_in ?_ (by decide)
    | split
    | dsimp only)

theorem runCall_in {e : Env} {s : State} {which : Nat} {s₀ : State} (h₀ : Within which s₀ s) (hm₀ : 32768 ||| which = which) : ResWithin which s₀ (runCall e s) :=
  ResWithin.step h₀ (runCall_within ..) hm₀

theorem runBrx_within (e : Env) (s : State) : ResWithin 32768 s (runBrx e s) := by
  unfold runBrx
  repeat' (first
    | assumption
    | with_reducible (exact Within.refl _ _)
    | with_reducible (refine ResWithin.done ?_)
    | with_reducible (refine ResWithin.jumped ?_)
    | with_reducible (refine ResWithin.parked ?_)
    | (exact ResWithin.trap _ _ _)
    | (exact ResWithin.notReady _ _)
    | with_reducible refine Env.jump_in ?_ (by decide)
    | split
    | dsimp only)

theorem runBrx_in {e : Env} {s : State} {which : Nat} {s₀ : State} (h₀ : Within which s₀ s) (hm₀ : 32768 ||| which = which) : ResWithin which s₀ (runBrx e s) :=
  ResWithin.step h₀ (runBrx_within ..) hm₀

theorem runRet_within (e : Env) (s : State) : ResWithin 32768 s (runRet e s) := by
  unfold runRet
  repeat' (first
    | assumption
    | with_reducible (exact Within.refl _ _)
    | with_reducible (refine ResWithin.done ?_)
    | with_reducible (refine ResWithin.jumped ?_)
    | with_reducible (refine ResWithin.parked ?_)
    | (exact ResWithin.trap _ _ _)
    | (exact ResWithin.notReady _ _)
    | with_reducible refine Env.jump_in ?_ (by decide)
    | split
    | dsimp only)

theorem runRet_in {e : Env} {s : State} {which : Nat} {s₀ : State} (h₀ : Within which s₀ s) (hm₀ : 32768 ||| which = which) : ResWithin which s₀ (runRet e s) :=
  ResWithin.step h₀ (runRet_within ..) hm₀

theorem runExit_within (e : Env) (s : State) : ResWithin 425984 s (runExit e s) := by
  unfold runExit
  repeat' (first
    | assumption
    | with_reducible (exact Within.refl _ _)
    | with_reducible (refine ResWithin.done ?_)
    | with_reducible (refine ResWithin.jumped ?_)
    | with_reducible (refine ResWithin.parked ?_)
    | (exact ResWithin.trap _ _ _)
    | (exact ResWithin.notReady _ _)
    | with_reducible refine exitThreads_in ?_ (by decide)
    | with_reducible refine Env.update_in ?_ (by decide)
    | split
    | dsimp only)

theorem runExit_in {e : Env} {s : State} {which : Nat} {s₀ : State} (h₀ : Within which s₀ s) (hm₀ : 425984 ||| which = which) : ResWithin which s₀ (runExit e s) :=
  ResWithin.step h₀ (runExit_within ..) hm₀

theorem forceSite_within (s : State) (g : GroupId) (x : Site) : Within 8421376 s (forceSite s g x) := by
  unfold forceSite
  repeat' (first
    | assumption
    | with_reducible (exact Within.refl _ _)
    | with_reducible refine State.bump_in ?_ (by decide)
    | with_reducible refine State.setGroup_in ?_ (by decide)
    | split
    | dsimp only)

theorem forceSite_in {s : State} {g : GroupId} {x : Site} {which : Nat} {s₀ : State} (h₀ : Within which s₀ s) (hm₀ : 8421376 ||| which = which) : Within which s₀ (forceSite s g x) :=
  Within.step h₀ (forceSite_within ..) hm₀

theorem runConv_within (e : Env) (s : State) : ResWithin 8421376 s (runConv e s) := by
  unfold runConv
  repeat' (first
    | assumption
    | with_reducible (exact Within.refl _ _)
    | with_reducible (refine ResWithin.done ?_)
    | with_reducible (refine ResWithin.jumped ?_)
    | with_reducible (refine ResWithin.parked ?_)
    | (exact ResWithin.trap _ _ _)
    | (exact ResWithin.notReady _ _)
    | with_reducible refine Env.update_in ?_ (by decide)
    | with_reducible refine forceSite_in ?_ (by decide)
    | split
    | dsimp only)

theorem runConv_in {e : Env} {s : State} {which : Nat} {s₀ : State} (h₀ : Within which s₀ s) (hm₀ : 8421376 ||| which = which) : ResWithin which s₀ (runConv e s) :=
  ResWithin.step h₀ (runConv_within ..) hm₀

theorem runBar_within (e : Env) (s : State) : ResWithin 163840 s (runBar e s) := by
  unfold runBar
  repeat' (first
    | assumption
    | with_reducible (exact Within.refl _ _)
    | with_reducible (refine ResWithin.done ?_)
    | with_reducible (refine ResWithin.jumped ?_)
    | with_reducible (refine ResWithin.parked ?_)
    | (exact ResWithin.trap _ _ _)
    | (exact ResWithin.notReady _ _)
    | with_reducible refine setWd_in ?_ (by decide)
    | with_reducible refine checkBarrier_in ?_ (by decide)
    | with_reducible refine Env.update_in ?_ (by decide)
    | split
    | dsimp only)

theorem runBar_in {e : Env} {s : State} {which : Nat} {s₀ : State} (h₀ : Within which s₀ s) (hm₀ : 163840 ||| which = which) : ResWithin which s₀ (runBar e s) :=
  ResWithin.step h₀ (runBar_within ..) hm₀

theorem runActmask_within (e : Env) (s : State) : ResWithin 32768 s (runActmask e s) := by
  unfold runActmask
  repeat' (first
    | assumption
    | with_reducible (exact Within.refl _ _)
    | with_reducible (refine ResWithin.done ?_)
    | with_reducible (refine ResWithin.jumped ?_)
    | with_reducible (refine ResWithin.parked ?_)
    | (exact ResWithin.trap _ _ _)
    | (exact ResWithin.notReady _ _)
    | with_reducible refine Env.write_in ?_ (by decide)
    | split
    | dsimp only)

theorem runActmask_in {e : Env} {s : State} {which : Nat} {s₀ : State} (h₀ : Within which s₀ s) (hm₀ : 32768 ||| which = which) : ResWithin which s₀ (runActmask e s) :=
  ResWithin.step h₀ (runActmask_within ..) hm₀

theorem runVirdyNop_within (y0 : Env) (s : State) : ResWithin 0 s (runVirdyNop y0 s) := by
  unfold runVirdyNop
  repeat' (first
    | assumption
    | with_reducible (exact Within.refl _ _)
    | with_reducible (refine ResWithin.done ?_)
    | with_reducible (refine ResWithin.jumped ?_)
    | with_reducible (refine ResWithin.parked ?_)
    | (exact ResWithin.trap _ _ _)
    | (exact ResWithin.notReady _ _)
    | split
    | dsimp only)

theorem runVirdyNop_in {y0 : Env} {s : State} {which : Nat} {s₀ : State} (h₀ : Within which s₀ s) (hm₀ : 0 ||| which = which) : ResWithin which s₀ (runVirdyNop y0 s) :=
  ResWithin.step h₀ (runVirdyNop_within ..) hm₀

theorem runBrk_within (y0 : Env) (s : State) : ResWithin 0 s (runBrk y0 s) := by
  unfold runBrk
  repeat' (first
    | assumption
    | with_reducible (exact Within.refl _ _)
    | with_reducible (refine ResWithin.done ?_)
    | with_reducible (refine ResWithin.jumped ?_)
    | with_reducible (refine ResWithin.parked ?_)
    | (exact ResWithin.trap _ _ _)
    | (exact ResWithin.notReady _ _)
    | split
    | dsimp only)

theorem runBrk_in {y0 : Env} {s : State} {which : Nat} {s₀ : State} (h₀ : Within which s₀ s) (hm₀ : 0 ||| which = which) : ResWithin which s₀ (runBrk y0 s) :=
  ResWithin.step h₀ (runBrk_within ..) hm₀

theorem forcedRelease_within (s : State) (g : GroupId) : Within 8421376 s (forcedRelease s g) := by
  unfold forcedRelease
  repeat' (first
    | assumption
    | with_reducible (exact Within.refl _ _)
    | with_reducible (refine Within.foldl ?_ (fun _ _ => ?_))
    | with_reducible (refine Within.foldl_fst ?_ (fun _ _ => ?_))
    | with_reducible refine forceSite_in ?_ (by decide)
    | split
    | dsimp only)

theorem forcedRelease_in {s : State} {g : GroupId} {which : Nat} {s₀ : State} (h₀ : Within which s₀ s) (hm₀ : 8421376 ||| which = which) : Within which s₀ (forcedRelease s g) :=
  Within.step h₀ (forcedRelease_within ..) hm₀

theorem barrierStarved_within (s : State) (c b n : Nat) : Within 26124408 s (barrierStarved s c b n) := by
  unfold barrierStarved
  repeat' (first
    | assumption
    | with_reducible (exact Within.refl _ _)
    | with_reducible refine setWd_in ?_ (by decide)
    | with_reducible refine takeTraps_in ?_ (by decide)
    | split
    | dsimp only)

theorem barrierStarved_in {s : State} {c b n : Nat} {which : Nat} {s₀ : State} (h₀ : Within which s₀ s) (hm₀ : 26124408 ||| which = which) : Within which s₀ (barrierStarved s c b n) :=
  Within.step h₀ (barrierStarved_within ..) hm₀

end Sys2Proof.Machine
end

