-- ==== Sys2Proof/Laws/Within/FabInsn.lean ====
section
/-! SUPPORT. What the operations of Machine/FabInsn.lean may touch: one lemma for each. -/

namespace Sys2Proof.Machine

open Sys2Proof

set_option linter.unusedTactic false
set_option linter.unreachableTactic false

theorem Env.sendQ_within (e : Env) (s : State) (x : SendEntry) : ResWithin 131072 s (Env.sendQ e s x) := by
  unfold Env.sendQ
  repeat' (first
    | assumption
    | with_reducible (exact Within.refl _ _)
    | with_reducible (refine ResWithin.done ?_)
    | with_reducible (refine ResWithin.jumped ?_)
    | with_reducible (refine ResWithin.parked ?_)
    | (exact ResWithin.trap _ _ _)
    | (exact ResWithin.notReady _ _)
    | with_reducible refine State.setCluster_in ?_ (by decide)
    | split
    | dsimp only)

theorem Env.sendQ_in {e : Env} {s : State} {x : SendEntry} {which : Nat} {s₀ : State} (h₀ : Within which s₀ s) (hm₀ : 131072 ||| which = which) : ResWithin which s₀ (Env.sendQ e s x) :=
  ResWithin.step h₀ (Env.sendQ_within ..) hm₀

theorem runPut_within (e : Env) (s : State) : ResWithin 131072 s (runPut e s) := by
  unfold runPut
  repeat' (first
    | assumption
    | with_reducible (exact Within.refl _ _)
    | with_reducible (refine ResWithin.done ?_)
    | with_reducible (refine ResWithin.jumped ?_)
    | with_reducible (refine ResWithin.parked ?_)
    | (exact ResWithin.trap _ _ _)
    | (exact ResWithin.notReady _ _)
    | with_reducible refine Env.sendQ_in ?_ (by decide)
    | split
    | dsimp only
    | refine ResWithin.of_done (by assumption) ?_
    | refine ResWithin.of_parked (by assumption) ?_)

theorem runPut_in {e : Env} {s : State} {which : Nat} {s₀ : State} (h₀ : Within which s₀ s) (hm₀ : 131072 ||| which = which) : ResWithin which s₀ (runPut e s) :=
  ResWithin.step h₀ (runPut_within ..) hm₀

theorem runAcc_within (e : Env) (s : State) : ResWithin 131072 s (runAcc e s) := by
  unfold runAcc
  repeat' (first
    | assumption
    | with_reducible (exact Within.refl _ _)
    | with_reducible (refine ResWithin.done ?_)
    | with_reducible (refine ResWithin.jumped ?_)
    | with_reducible (refine ResWithin.parked ?_)
    | (exact ResWithin.trap _ _ _)
    | (exact ResWithin.notReady _ _)
    | with_reducible refine Env.sendQ_in ?_ (by decide)
    | split
    | dsimp only
    | refine ResWithin.of_done (by assumption) ?_
    | refine ResWithin.of_parked (by assumption) ?_)

theorem runAcc_in {e : Env} {s : State} {which : Nat} {s₀ : State} (h₀ : Within which s₀ s) (hm₀ : 131072 ||| which = which) : ResWithin which s₀ (runAcc e s) :=
  ResWithin.step h₀ (runAcc_within ..) hm₀

theorem runGet_within (e : Env) (s : State) : ResWithin 163840 s (runGet e s) := by
  unfold runGet
  repeat' (first
    | assumption
    | with_reducible (exact Within.refl _ _)
    | with_reducible (refine ResWithin.done ?_)
    | with_reducible (refine ResWithin.jumped ?_)
    | with_reducible (refine ResWithin.parked ?_)
    | (exact ResWithin.trap _ _ _)
    | (exact ResWithin.notReady _ _)
    | with_reducible refine Env.update_in ?_ (by decide)
    | with_reducible refine Env.sendQ_in ?_ (by decide)
    | split
    | dsimp only
    | refine ResWithin.of_done (by assumption) ?_
    | refine ResWithin.of_parked (by assumption) ?_)

theorem runGet_in {e : Env} {s : State} {which : Nat} {s₀ : State} (h₀ : Within which s₀ s) (hm₀ : 163840 ||| which = which) : ResWithin which s₀ (runGet e s) :=
  ResWithin.step h₀ (runGet_within ..) hm₀

theorem runColl_within (e : Env) (s : State) : ResWithin 131072 s (runColl e s) := by
  unfold runColl
  repeat' (first
    | assumption
    | with_reducible (exact Within.refl _ _)
    | with_reducible (refine ResWithin.done ?_)
    | with_reducible (refine ResWithin.jumped ?_)
    | with_reducible (refine ResWithin.parked ?_)
    | (exact ResWithin.trap _ _ _)
    | (exact ResWithin.notReady _ _)
    | with_reducible refine Env.sendQ_in ?_ (by decide)
    | split
    | dsimp only
    | refine ResWithin.of_done (by assumption) ?_
    | refine ResWithin.of_parked (by assumption) ?_)

theorem runColl_in {e : Env} {s : State} {which : Nat} {s₀ : State} (h₀ : Within which s₀ s) (hm₀ : 131072 ||| which = which) : ResWithin which s₀ (runColl e s) :=
  ResWithin.step h₀ (runColl_within ..) hm₀

end Sys2Proof.Machine
end

