-- ==== Sys2Proof/Laws/Within/SyncInsn.lean ====
section
/-! SUPPORT. What the operations of Machine/SyncInsn.lean may touch: one lemma for each. -/

namespace Sys2Proof.Machine

open Sys2Proof

set_option linter.unusedTactic false
set_option linter.unreachableTactic false

theorem signalRes_within (set : Bool) (e : Env) (s : State) : ResWithin 393216 s (signalRes set e s) := by
  unfold signalRes
  repeat' (first
    | assumption
    | with_reducible (exact Within.refl _ _)
    | with_reducible (refine ResWithin.done ?_)
    | with_reducible (refine ResWithin.jumped ?_)
    | with_reducible (refine ResWithin.parked ?_)
    | (exact ResWithin.trap _ _ _)
    | (exact ResWithin.notReady _ _)
    | with_reducible refine State.setCluster_in ?_ (by decide)
    | with_reducible refine State.setSync_in ?_ (by decide)
    | split
    | dsimp only)

theorem signalRes_in {set : Bool} {e : Env} {s : State} {which : Nat} {s₀ : State} (h₀ : Within which s₀ s) (hm₀ : 393216 ||| which = which) : ResWithin which s₀ (signalRes set e s) :=
  ResWithin.step h₀ (signalRes_within ..) hm₀

theorem runSigAdd_within (x0 : Env) (x1 : State) : ResWithin 393216 x1 (runSigAdd x0 x1) := by
  unfold runSigAdd
  repeat' (first
    | assumption
    | with_reducible (exact Within.refl _ _)
    | with_reducible (refine ResWithin.done ?_)
    | with_reducible (refine ResWithin.jumped ?_)
    | with_reducible (refine ResWithin.parked ?_)
    | (exact ResWithin.trap _ _ _)
    | (exact ResWithin.notReady _ _)
    | with_reducible refine signalRes_in ?_ (by decide)
    | split
    | dsimp only
    | refine ResWithin.of_done (by assumption) ?_
    | refine ResWithin.of_parked (by assumption) ?_)

theorem runSigAdd_in {x0 : Env} {x1 : State} {which : Nat} {s₀ : State} (h₀ : Within which s₀ x1) (hm₀ : 393216 ||| which = which) : ResWithin which s₀ (runSigAdd x0 x1) :=
  ResWithin.step h₀ (runSigAdd_within ..) hm₀

theorem runSigSet_within (x0 : Env) (x1 : State) : ResWithin 393216 x1 (runSigSet x0 x1) := by
  unfold runSigSet
  repeat' (first
    | assumption
    | with_reducible (exact Within.refl _ _)
    | with_reducible (refine ResWithin.done ?_)
    | with_reducible (refine ResWithin.jumped ?_)
    | with_reducible (refine ResWithin.parked ?_)
    | (exact ResWithin.trap _ _ _)
    | (exact ResWithin.notReady _ _)
    | with_reducible refine signalRes_in ?_ (by decide)
    | split
    | dsimp only
    | refine ResWithin.of_done (by assumption) ?_
    | refine ResWithin.of_parked (by assumption) ?_)

theorem runSigSet_in {x0 : Env} {x1 : State} {which : Nat} {s₀ : State} (h₀ : Within which s₀ x1) (hm₀ : 393216 ||| which = which) : ResWithin which s₀ (runSigSet x0 x1) :=
  ResWithin.step h₀ (runSigSet_within ..) hm₀

theorem waitRes_within (take : Bool) (e : Env) (s : State) : ResWithin 425984 s (waitRes take e s) := by
  unfold waitRes
  repeat' (first
    | assumption
    | with_reducible (exact Within.refl _ _)
    | with_reducible (refine ResWithin.done ?_)
    | with_reducible (refine ResWithin.jumped ?_)
    | with_reducible (refine ResWithin.parked ?_)
    | (exact ResWithin.trap _ _ _)
    | (exact ResWithin.notReady _ _)
    | with_reducible refine State.setCluster_in ?_ (by decide)
    | with_reducible refine State.setSync_in ?_ (by decide)
    | with_reducible refine Env.update_in ?_ (by decide)
    | split
    | dsimp only)

theorem waitRes_in {take : Bool} {e : Env} {s : State} {which : Nat} {s₀ : State} (h₀ : Within which s₀ s) (hm₀ : 425984 ||| which = which) : ResWithin which s₀ (waitRes take e s) :=
  ResWithin.step h₀ (waitRes_within ..) hm₀

theorem runWaitGe_within (x0 : Env) (x1 : State) : ResWithin 425984 x1 (runWaitGe x0 x1) := by
  unfold runWaitGe
  repeat' (first
    | assumption
    | with_reducible (exact Within.refl _ _)
    | with_reducible (refine ResWithin.done ?_)
    | with_reducible (refine ResWithin.jumped ?_)
    | with_reducible (refine ResWithin.parked ?_)
    | (exact ResWithin.trap _ _ _)
    | (exact ResWithin.notReady _ _)
    | with_reducible refine waitRes_in ?_ (by decide)
    | split
    | dsimp only
    | refine ResWithin.of_done (by assumption) ?_
    | refine ResWithin.of_parked (by assumption) ?_)

theorem runWaitGe_in {x0 : Env} {x1 : State} {which : Nat} {s₀ : State} (h₀ : Within which s₀ x1) (hm₀ : 425984 ||| which = which) : ResWithin which s₀ (runWaitGe x0 x1) :=
  ResWithin.step h₀ (runWaitGe_within ..) hm₀

theorem runWaitTake_within (x0 : Env) (x1 : State) : ResWithin 425984 x1 (runWaitTake x0 x1) := by
  unfold runWaitTake
  repeat' (first
    | assumption
    | with_reducible (exact Within.refl _ _)
    | with_reducible (refine ResWithin.done ?_)
    | with_reducible (refine ResWithin.jumped ?_)
    | with_reducible (refine ResWithin.parked ?_)
    | (exact ResWithin.trap _ _ _)
    | (exact ResWithin.notReady _ _)
    | with_reducible refine waitRes_in ?_ (by decide)
    | split
    | dsimp only
    | refine ResWithin.of_done (by assumption) ?_
    | refine ResWithin.of_parked (by assumption) ?_)

theorem runWaitTake_in {x0 : Env} {x1 : State} {which : Nat} {s₀ : State} (h₀ : Within which s₀ x1) (hm₀ : 425984 ||| which = which) : ResWithin which s₀ (runWaitTake x0 x1) :=
  ResWithin.step h₀ (runWaitTake_within ..) hm₀

theorem queuedWaitHead_within (s : State) (c : Nat) (q : WaitQueue) : Within 393216 s (queuedWaitHead s c q) := by
  unfold queuedWaitHead
  repeat' (first
    | assumption
    | with_reducible (exact Within.refl _ _)
    | with_reducible refine State.setCluster_in ?_ (by decide)
    | with_reducible refine State.setSync_in ?_ (by decide)
    | split
    | dsimp only)

theorem queuedWaitHead_in {s : State} {c : Nat} {q : WaitQueue} {which : Nat} {s₀ : State} (h₀ : Within which s₀ s) (hm₀ : 393216 ||| which = which) : Within which s₀ (queuedWaitHead s c q) :=
  Within.step h₀ (queuedWaitHead_within ..) hm₀

theorem clearFlags_within (s : State) (g : GroupId) (m : Nat) (mask : Flags) : Within 196608 s (clearFlags s g m mask) := by
  unfold clearFlags
  repeat' (first
    | assumption
    | with_reducible (exact Within.refl _ _)
    | with_reducible refine State.setCluster_in ?_ (by decide)
    | with_reducible refine State.setUnit_in ?_ (by decide)
    | split
    | dsimp only)

theorem clearFlags_in {s : State} {g : GroupId} {m : Nat} {mask : Flags} {which : Nat} {s₀ : State} (h₀ : Within which s₀ s) (hm₀ : 196608 ||| which = which) : Within which s₀ (clearFlags s g m mask) :=
  Within.step h₀ (clearFlags_within ..) hm₀

theorem Env.postU_within (e : Env) (s : State) (v : Word64) (poison : Option (Nat × Nat)) : Within 32768 s (Env.postU e s v poison) := by
  unfold Env.postU
  repeat' (first
    | assumption
    | with_reducible (exact Within.refl _ _)
    | with_reducible refine Env.update_in ?_ (by decide)
    | split
    | dsimp only)

theorem Env.postU_in {e : Env} {s : State} {v : Word64} {poison : Option (Nat × Nat)} {which : Nat} {s₀ : State} (h₀ : Within which s₀ s) (hm₀ : 32768 ||| which = which) : Within which s₀ (Env.postU e s v poison) :=
  Within.step h₀ (Env.postU_within ..) hm₀

theorem runFlagrd_within (e : Env) (s : State) : ResWithin 32768 s (runFlagrd e s) := by
  unfold runFlagrd
  repeat' (first
    | assumption
    | with_reducible (exact Within.refl _ _)
    | with_reducible (refine ResWithin.done ?_)
    | with_reducible (refine ResWithin.jumped ?_)
    | with_reducible (refine ResWithin.parked ?_)
    | (exact ResWithin.trap _ _ _)
    | (exact ResWithin.notReady _ _)
    | with_reducible refine Env.postU_in ?_ (by decide)
    | split
    | dsimp only)

theorem runFlagrd_in {e : Env} {s : State} {which : Nat} {s₀ : State} (h₀ : Within which s₀ s) (hm₀ : 32768 ||| which = which) : ResWithin which s₀ (runFlagrd e s) :=
  ResWithin.step h₀ (runFlagrd_within ..) hm₀

theorem runFlagclr_within (e : Env) (s : State) : ResWithin 196608 s (runFlagclr e s) := by
  unfold runFlagclr
  repeat' (first
    | assumption
    | with_reducible (exact Within.refl _ _)
    | with_reducible (refine ResWithin.done ?_)
    | with_reducible (refine ResWithin.jumped ?_)
    | with_reducible (refine ResWithin.parked ?_)
    | (exact ResWithin.trap _ _ _)
    | (exact ResWithin.notReady _ _)
    | with_reducible refine clearFlags_in ?_ (by decide)
    | split
    | dsimp only)

theorem runFlagclr_in {e : Env} {s : State} {which : Nat} {s₀ : State} (h₀ : Within which s₀ s) (hm₀ : 196608 ||| which = which) : ResWithin which s₀ (runFlagclr e s) :=
  ResWithin.step h₀ (runFlagclr_within ..) hm₀

end Sys2Proof.Machine
end

