-- ==== Sys2Proof/Laws/Within/Scale.lean ====
section
/-! SUPPORT. What the operations of Machine/Scale.lean may touch: one lemma for each. -/

namespace Sys2Proof.Machine

open Sys2Proof

set_option linter.unusedTactic false
set_option linter.unreachableTactic false

theorem writeEntry_within (s : State) (a : Nat) (e : SEntry) : Within 27269240 s (writeEntry s a e) := by
  unfold writeEntry
  repeat' (first
    | assumption
    | with_reducible (exact Within.refl _ _)
    | with_reducible refine State.setMem_in (fun h => Memory.wf_store _ _ h) ?_ (by decide)
    | with_reducible refine Run.bytes_in ?_ (by decide)
    | split
    | dsimp only)

theorem writeEntry_in {s : State} {a : Nat} {e : SEntry} {which : Nat} {s₀ : State} (h₀ : Within which s₀ s) (hm₀ : 27269240 ||| which = which) : Within which s₀ (writeEntry s a e) :=
  Within.step h₀ (writeEntry_within ..) hm₀

theorem rollEntry_within (s : State) (f : SFmt) (e : SEntry) (epoch : Nat) : Within 8388616 s (rollEntry s f e epoch).1 := by
  unfold rollEntry
  repeat' (first
    | assumption
    | with_reducible (exact Within.refl _ _)
    | with_reducible refine State.bump_in ?_ (by decide)
    | with_reducible refine State.tick_in ?_ (by decide)
    | with_reducible refine Within.ite_fst (fun _ => ?_) (fun _ => ?_)
    | split
    | dsimp only)

theorem rollEntry_in {s : State} {f : SFmt} {e : SEntry} {epoch : Nat} {which : Nat} {s₀ : State} (h₀ : Within which s₀ s) (hm₀ : 8388616 ||| which = which) : Within which s₀ (rollEntry s f e epoch).1 :=
  Within.step h₀ (rollEntry_within ..) hm₀

theorem rollEntry_fst {s : State} {f : SFmt} {e : SEntry} {epoch : Nat} {which : Nat} {s₀ t₀ : State} {y} (he₀ : rollEntry s f e epoch = (t₀, y)) (h₀ : Within which s₀ s) (hm₀ : 8388616 ||| which = which) : Within which s₀ t₀ := by
  have k := rollEntry_in (s := s) (f := f) (e := e) (epoch := epoch) h₀ hm₀; rw [he₀] at k; exact k

theorem tileAt_within (s : State) (c : Nat) (f : SFmt) (sr : Bool) (mode : Rmode) (exp : Int) (xs : List Word32) : Within 8 s (tileAt s c f sr mode exp xs).1 := by
  unfold tileAt
  repeat' (first
    | assumption
    | with_reducible (exact Within.refl _ _)
    | with_reducible refine Within.ite_fst (fun _ => ?_) (fun _ => ?_)
    | split
    | dsimp only
    | with_reducible refine free_in ?_ (by decide))

theorem tileAt_in {s : State} {c : Nat} {f : SFmt} {sr : Bool} {mode : Rmode} {exp : Int} {xs : List Word32} {which : Nat} {s₀ : State} (h₀ : Within which s₀ s) (hm₀ : 8 ||| which = which) : Within which s₀ (tileAt s c f sr mode exp xs).1 :=
  Within.step h₀ (tileAt_within ..) hm₀

theorem tileAt_fst {s : State} {c : Nat} {f : SFmt} {sr : Bool} {mode : Rmode} {exp : Int} {xs : List Word32} {which : Nat} {s₀ t₀ : State} {y} (he₀ : tileAt s c f sr mode exp xs = (t₀, y)) (h₀ : Within which s₀ s) (hm₀ : 8 ||| which = which) : Within which s₀ t₀ := by
  have k := tileAt_in (s := s) (c := c) (f := f) (sr := sr) (mode := mode) (exp := exp) (xs := xs) h₀ hm₀; rw [he₀] at k; exact k

theorem convertEntry_within (s : State) (c : Nat) (recSteps : Nat) (a epoch : Nat) (f : SFmt) (sr : Bool) (mode : Rmode) (xs : List Word32) : Within 27269240 s (convertEntry s c recSteps a epoch f sr mode xs).1 := by
  unfold convertEntry
  repeat' (first
    | assumption
    | with_reducible (exact Within.refl _ _)
    | with_reducible refine State.bump_in ?_ (by decide)
    | with_reducible refine State.tick_in ?_ (by decide)
    | with_reducible refine touch_in ?_ (by decide)
    | with_reducible refine writeEntry_in ?_ (by decide)
    | with_reducible refine rollEntry_in ?_ (by decide)
    | refine rollEntry_fst (by assumption) ?_ (by decide)
    | with_reducible refine tileAt_in ?_ (by decide)
    | refine tileAt_fst (by assumption) ?_ (by decide)
    | with_reducible refine Within.ite_fst (fun _ => ?_) (fun _ => ?_)
    | split
    | dsimp only)

theorem convertEntry_in {s : State} {c : Nat} {recSteps : Nat} {a epoch : Nat} {f : SFmt} {sr : Bool} {mode : Rmode} {xs : List Word32} {which : Nat} {s₀ : State} (h₀ : Within which s₀ s) (hm₀ : 27269240 ||| which = which) : Within which s₀ (convertEntry s c recSteps a epoch f sr mode xs).1 :=
  Within.step h₀ (convertEntry_within ..) hm₀

theorem convertEntry_fst {s : State} {c : Nat} {recSteps : Nat} {a epoch : Nat} {f : SFmt} {sr : Bool} {mode : Rmode} {xs : List Word32} {which : Nat} {s₀ t₀ : State} {y} (he₀ : convertEntry s c recSteps a epoch f sr mode xs = (t₀, y)) (h₀ : Within which s₀ s) (hm₀ : 27269240 ||| which = which) : Within which s₀ t₀ := by
  have k := convertEntry_in (s := s) (c := c) (recSteps := recSteps) (a := a) (epoch := epoch) (f := f) (sr := sr) (mode := mode) (xs := xs) h₀ hm₀; rw [he₀] at k; exact k

theorem closeCensus_within (s : State) (c : Nat) (n : Nat) (cx : Ctx) (tag epoch : Nat) (r : List Byte) : Within 25165936 s (closeCensus s c n cx tag epoch r).1 := by
  unfold closeCensus
  repeat' (first
    | assumption
    | with_reducible (exact Within.refl _ _)
    | with_reducible refine State.bump_in ?_ (by decide)
    | with_reducible refine postEvent_in ?_ (by decide)
    | with_reducible refine Within.ite_fst (fun _ => ?_) (fun _ => ?_)
    | split
    | dsimp only)

theorem closeCensus_in {s : State} {c : Nat} {n : Nat} {cx : Ctx} {tag epoch : Nat} {r : List Byte} {which : Nat} {s₀ : State} (h₀ : Within which s₀ s) (hm₀ : 25165936 ||| which = which) : Within which s₀ (closeCensus s c n cx tag epoch r).1 :=
  Within.step h₀ (closeCensus_within ..) hm₀

theorem closeCensus_fst {s : State} {c : Nat} {n : Nat} {cx : Ctx} {tag epoch : Nat} {r : List Byte} {which : Nat} {s₀ t₀ : State} {y} (he₀ : closeCensus s c n cx tag epoch r = (t₀, y)) (h₀ : Within which s₀ s) (hm₀ : 25165936 ||| which = which) : Within which s₀ t₀ := by
  have k := closeCensus_in (s := s) (c := c) (n := n) (cx := cx) (tag := tag) (epoch := epoch) (r := r) h₀ hm₀; rw [he₀] at k; exact k

theorem census_within (s : State) (c n : Nat) (tag epoch : Nat) (f : SFmt) (o : TileOut) : Within 27277432 s (census s c n tag epoch f o) := by
  unfold census
  repeat' (first
    | assumption
    | with_reducible (exact Within.refl _ _)
    | with_reducible refine State.bump_in ?_ (by decide)
    | with_reducible refine State.setCtx_in ?_ (by decide)
    | with_reducible refine State.setMem_in (fun h => Memory.wf_store _ _ h) ?_ (by decide)
    | with_reducible refine closeCensus_in ?_ (by decide)
    | refine closeCensus_fst (by assumption) ?_ (by decide)
    | with_reducible refine Run.bytes_in ?_ (by decide)
    | with_reducible refine Within.ite_fst (fun _ => ?_) (fun _ => ?_)
    | split
    | dsimp only)

theorem census_in {s : State} {c n : Nat} {tag epoch : Nat} {f : SFmt} {o : TileOut} {which : Nat} {s₀ : State} (h₀ : Within which s₀ s) (hm₀ : 27277432 ||| which = which) : Within which s₀ (census s c n tag epoch f o) :=
  Within.step h₀ (census_within ..) hm₀

theorem runScrd_within (e : Env) (s : State) : ResWithin 27302008 s (runScrd e s) := by
  unfold runScrd
  repeat' (first
    | assumption
    | with_reducible (exact Within.refl _ _)
    | with_reducible (refine ResWithin.done ?_)
    | with_reducible (refine ResWithin.jumped ?_)
    | with_reducible (refine ResWithin.parked ?_)
    | (exact ResWithin.trap _ _ _)
    | (exact ResWithin.notReady _ _)
    | with_reducible refine touch_in ?_ (by decide)
    | with_reducible refine Env.postU_in ?_ (by decide)
    | split
    | dsimp only)

theorem runScrd_in {e : Env} {s : State} {which : Nat} {s₀ : State} (h₀ : Within which s₀ s) (hm₀ : 27302008 ||| which = which) : ResWithin which s₀ (runScrd e s) :=
  ResWithin.step h₀ (runScrd_within ..) hm₀

theorem runScwr_within (e : Env) (s : State) : ResWithin 27400312 s (runScwr e s) := by
  unfold runScwr
  repeat' (first
    | assumption
    | with_reducible (exact Within.refl _ _)
    | with_reducible (refine ResWithin.done ?_)
    | with_reducible (refine ResWithin.jumped ?_)
    | with_reducible (refine ResWithin.parked ?_)
    | (exact ResWithin.trap _ _ _)
    | (exact ResWithin.notReady _ _)
    | with_reducible refine touch_in ?_ (by decide)
    | with_reducible refine setBlock_in ?_ (by decide)
    | with_reducible refine writeEntry_in ?_ (by decide)
    | split
    | dsimp only)

theorem runScwr_in {e : Env} {s : State} {which : Nat} {s₀ : State} (h₀ : Within which s₀ s) (hm₀ : 27400312 ||| which = which) : ResWithin which s₀ (runScwr e s) :=
  ResWithin.step h₀ (runScwr_within ..) hm₀

end Sys2Proof.Machine
end

