-- ==== Sys2Proof/Laws/Within/Matrix.lean ====
section
/-! SUPPORT. What the operations of Machine/Matrix.lean may touch: one lemma for each. -/

namespace Sys2Proof.Machine

open Sys2Proof

set_option linter.unusedTactic false
set_option linter.unreachableTactic false

theorem readRow_within (s : State) (a n : Nat) : Within 27269240 s (readRow s a n).1 := by
  unfold readRow
  repeat' (first
    | assumption
    | with_reducible (exact Within.refl _ _)
    | with_reducible refine touch_in ?_ (by decide)
    | with_reducible refine Within.ite_fst (fun _ => ?_) (fun _ => ?_)
    | split
    | dsimp only)

theorem readRow_in {s : State} {a n : Nat} {which : Nat} {s₀ : State} (h₀ : Within which s₀ s) (hm₀ : 27269240 ||| which = which) : Within which s₀ (readRow s a n).1 :=
  Within.step h₀ (readRow_within ..) hm₀

theorem readRow_fst {s : State} {a n : Nat} {which : Nat} {s₀ t₀ : State} {y} (he₀ : readRow s a n = (t₀, y)) (h₀ : Within which s₀ s) (hm₀ : 27269240 ||| which = which) : Within which s₀ t₀ := by
  have k := readRow_in (s := s) (a := a) (n := n) h₀ hm₀; rw [he₀] at k; exact k

theorem loadBank_within (s : State) (c ctx : Nat) (h : Handle) : Within 27269240 s (loadBank s c ctx h).1 := by
  unfold loadBank
  repeat' (first
    | assumption
    | with_reducible (exact Within.refl _ _)
    | with_reducible (refine Within.foldl ?_ (fun _ _ => ?_))
    | with_reducible (refine Within.foldl_fst ?_ (fun _ _ => ?_))
    | with_reducible refine State.bump_in ?_ (by decide)
    | with_reducible refine readRow_in ?_ (by decide)
    | refine readRow_fst (by assumption) ?_ (by decide)
    | with_reducible refine Within.ite_fst (fun _ => ?_) (fun _ => ?_)
    | split
    | dsimp only)

theorem loadBank_in {s : State} {c ctx : Nat} {h : Handle} {which : Nat} {s₀ : State} (h₀ : Within which s₀ s) (hm₀ : 27269240 ||| which = which) : Within which s₀ (loadBank s c ctx h).1 :=
  Within.step h₀ (loadBank_within ..) hm₀

theorem loadBank_fst {s : State} {c ctx : Nat} {h : Handle} {which : Nat} {s₀ t₀ : State} {y} (he₀ : loadBank s c ctx h = (t₀, y)) (h₀ : Within which s₀ s) (hm₀ : 27269240 ||| which = which) : Within which s₀ t₀ := by
  have k := loadBank_in (s := s) (c := c) (ctx := ctx) (h := h) h₀ hm₀; rw [he₀] at k; exact k

theorem loadShadow_within (s : State) (c ctx : Nat) (h : Handle) : Within 27400312 s (loadShadow s c ctx h) := by
  unfold loadShadow
  repeat' (first
    | assumption
    | with_reducible (exact Within.refl _ _)
    | with_reducible refine State.setCluster_in ?_ (by decide)
    | with_reducible refine loadBank_in ?_ (by decide)
    | refine loadBank_fst (by assumption) ?_ (by decide)
    | with_reducible refine Within.ite_fst (fun _ => ?_) (fun _ => ?_)
    | split
    | dsimp only)

theorem loadShadow_in {s : State} {c ctx : Nat} {h : Handle} {which : Nat} {s₀ : State} (h₀ : Within which s₀ s) (hm₀ : 27400312 ||| which = which) : Within which s₀ (loadShadow s c ctx h) :=
  Within.step h₀ (loadShadow_within ..) hm₀

theorem passBank_within (s : State) (c ctx : Nat) (h : Handle) : Within 27400312 s (passBank s c ctx h).1 := by
  unfold passBank
  repeat' (first
    | assumption
    | with_reducible (exact Within.refl _ _)
    | with_reducible refine State.setCluster_in ?_ (by decide)
    | with_reducible refine loadBank_in ?_ (by decide)
    | refine loadBank_fst (by assumption) ?_ (by decide)
    | with_reducible refine Within.ite_fst (fun _ => ?_) (fun _ => ?_)
    | split
    | dsimp only)

theorem passBank_in {s : State} {c ctx : Nat} {h : Handle} {which : Nat} {s₀ : State} (h₀ : Within which s₀ s) (hm₀ : 27400312 ||| which = which) : Within which s₀ (passBank s c ctx h).1 :=
  Within.step h₀ (passBank_within ..) hm₀

theorem passBank_fst {s : State} {c ctx : Nat} {h : Handle} {which : Nat} {s₀ t₀ : State} {y} (he₀ : passBank s c ctx h = (t₀, y)) (h₀ : Within which s₀ s) (hm₀ : 27400312 ||| which = which) : Within which s₀ t₀ := by
  have k := passBank_in (s := s) (c := c) (ctx := ctx) (h := h) h₀ hm₀; rw [he₀] at k; exact k

theorem dropBank_within (s : State) (c p : Nat) : Within 131072 s (dropBank s c p) := by
  unfold dropBank
  repeat' (first
    | assumption
    | with_reducible (exact Within.refl _ _)
    | with_reducible refine State.setCluster_in ?_ (by decide)
    | split
    | dsimp only)

theorem dropBank_in {s : State} {c p : Nat} {which : Nat} {s₀ : State} (h₀ : Within which s₀ s) (hm₀ : 131072 ||| which = which) : Within which s₀ (dropBank s c p) :=
  Within.step h₀ (dropBank_within ..) hm₀

theorem noteUse_within (s : State) (c ctx gen : Nat) : Within 139264 s (noteUse s c ctx gen) := by
  unfold noteUse
  repeat' (first
    | assumption
    | with_reducible (exact Within.refl _ _)
    | with_reducible refine State.setCluster_in ?_ (by decide)
    | with_reducible refine State.setCtx_in ?_ (by decide)
    | split
    | dsimp only)

theorem noteUse_in {s : State} {c ctx gen : Nat} {which : Nat} {s₀ : State} (h₀ : Within which s₀ s) (hm₀ : 139264 ||| which = which) : Within which s₀ (noteUse s c ctx gen) :=
  Within.step h₀ (noteUse_within ..) hm₀

theorem sampleTile_within (s : State) (c ctx : Nat) (stat : Word64) (cols : Nat → List (List FVal)) (rs : List TRow) : Within 8519688 s (sampleTile s c ctx stat cols rs) := by
  unfold sampleTile
  repeat' (first
    | assumption
    | with_reducible (exact Within.refl _ _)
    | with_reducible refine State.bump_in ?_ (by decide)
    | with_reducible refine State.setCluster_in ?_ (by decide)
    | with_reducible refine State.tick_in ?_ (by decide)
    | split
    | dsimp only)

theorem sampleTile_in {s : State} {c ctx : Nat} {stat : Word64} {cols : Nat → List (List FVal)} {rs : List TRow} {which : Nat} {s₀ : State} (h₀ : Within which s₀ s) (hm₀ : 8519688 ||| which = which) : Within which s₀ (sampleTile s c ctx stat cols rs) :=
  Within.step h₀ (sampleTile_within ..) hm₀

theorem endPass_within (s : State) (c ctx : Nat) (rs : List TRow) (fl : Flags) (sampled : Option (Word64 × (Nat → List (List FVal)))) : Within 8519688 s (endPass s c ctx rs fl sampled) := by
  unfold endPass
  repeat' (first
    | assumption
    | with_reducible (exact Within.refl _ _)
    | with_reducible (refine Within.foldl ?_ (fun _ _ => ?_))
    | with_reducible (refine Within.foldl_fst ?_ (fun _ _ => ?_))
    | with_reducible refine State.setCluster_in ?_ (by decide)
    | with_reducible refine sampleTile_in ?_ (by decide)
    | split
    | dsimp only)

theorem endPass_in {s : State} {c ctx : Nat} {rs : List TRow} {fl : Flags} {sampled : Option (Word64 × (Nat → List (List FVal)))} {which : Nat} {s₀ : State} (h₀ : Within which s₀ s) (hm₀ : 8519688 ||| which = which) : Within which s₀ (endPass s c ctx rs fl sampled) :=
  Within.step h₀ (endPass_within ..) hm₀

theorem streamedRow_within (s : State) (shape t a : Nat) (strm : Word64) (i d : Nat) (mk : List Nat → List Int → Bool → PRow) : Within 27269240 s (streamedRow s shape t a strm i d mk).1 := by
  unfold streamedRow
  repeat' (first
    | assumption
    | with_reducible (exact Within.refl _ _)
    | with_reducible refine readRow_in ?_ (by decide)
    | refine readRow_fst (by assumption) ?_ (by decide)
    | with_reducible refine Within.ite_fst (fun _ => ?_) (fun _ => ?_)
    | split
    | dsimp only)

theorem streamedRow_in {s : State} {shape t a : Nat} {strm : Word64} {i d : Nat} {mk : List Nat → List Int → Bool → PRow} {which : Nat} {s₀ : State} (h₀ : Within which s₀ s) (hm₀ : 27269240 ||| which = which) : Within which s₀ (streamedRow s shape t a strm i d mk).1 :=
  Within.step h₀ (streamedRow_within ..) hm₀

theorem streamedRow_fst {s : State} {shape t a : Nat} {strm : Word64} {i d : Nat} {mk : List Nat → List Int → Bool → PRow} {which : Nat} {s₀ t₀ : State} {y} (he₀ : streamedRow s shape t a strm i d mk = (t₀, y)) (h₀ : Within which s₀ s) (hm₀ : 27269240 ||| which = which) : Within which s₀ t₀ := by
  have k := streamedRow_in (s := s) (shape := shape) (t := t) (a := a) (strm := strm) (i := i) (d := d) (mk := mk) h₀ hm₀; rw [he₀] at k; exact k

theorem readRows_in {s : State} {rs : List Nat} {f : State → Nat → State × PRow} {which : Nat} {s₀ : State} (h₀ : Within which s₀ s)
    (hf : ∀ t r, Within which t (f t r).1) : Within which s₀ (readRows s rs f).1 :=
  Within.foldl_fst h₀ (fun y a => hf y.1 a)

theorem readRows_fst {s : State} {rs : List Nat} {f : State → Nat → State × PRow} {which : Nat} {s₀ t₀ : State} {y} (he₀ : readRows s rs f = (t₀, y))
    (h₀ : Within which s₀ s) (hf : ∀ t r, Within which t (f t r).1) : Within which s₀ t₀ := by
  have k := readRows_in (rs := rs) h₀ hf; rw [he₀] at k; exact k

theorem mmulPass_within (s : State) (c ctx tile addr stride : Nat) (h : Option Handle) (yAddr t : Nat) (acc : Bool) (kind rows : Nat) (pair half : Bool) (strm live : Word64) : Within 27408504 s (mmulPass s c ctx tile addr stride h yAddr t acc kind rows pair half strm live) := by
  unfold mmulPass
  repeat' (first
    | assumption
    | with_reducible (exact Within.refl _ _)
    | with_reducible refine State.bump_in ?_ (by decide)
    | with_reducible refine passBank_in ?_ (by decide)
    | refine passBank_fst (by assumption) ?_ (by decide)
    | with_reducible refine dropBank_in ?_ (by decide)
    | with_reducible refine noteUse_in ?_ (by decide)
    | with_reducible refine endPass_in ?_ (by decide)
    | with_reducible refine streamedRow_in ?_ (by decide)
    | refine streamedRow_fst (by assumption) ?_ (by decide)
    | with_reducible refine readRows_in ?_ (fun _ _ => ?_)
    | refine readRows_fst (by assumption) ?_ (fun _ _ => ?_)
    | with_reducible refine Within.ite_fst (fun _ => ?_) (fun _ => ?_)
    | split
    | dsimp only)

theorem mmulPass_in {s : State} {c ctx tile addr stride : Nat} {h : Option Handle} {yAddr t : Nat} {acc : Bool} {kind rows : Nat} {pair half : Bool} {strm live : Word64} {which : Nat} {s₀ : State} (h₀ : Within which s₀ s) (hm₀ : 27408504 ||| which = which) : Within which s₀ (mmulPass s c ctx tile addr stride h yAddr t acc kind rows pair half strm live) :=
  Within.step h₀ (mmulPass_within ..) hm₀

theorem runBatch_within (s : State) (c : Nat) (b : Batch) : Within 27408504 s (runBatch s c b) := by
  unfold runBatch
  repeat' (first
    | assumption
    | with_reducible (exact Within.refl _ _)
    | with_reducible (refine Within.foldl ?_ (fun _ _ => ?_))
    | with_reducible (refine Within.foldl_fst ?_ (fun _ _ => ?_))
    | with_reducible refine State.bump_in ?_ (by decide)
    | with_reducible refine State.setCluster_in ?_ (by decide)
    | with_reducible refine passBank_in ?_ (by decide)
    | refine passBank_fst (by assumption) ?_ (by decide)
    | with_reducible refine noteUse_in ?_ (by decide)
    | with_reducible refine endPass_in ?_ (by decide)
    | with_reducible refine streamedRow_in ?_ (by decide)
    | refine streamedRow_fst (by assumption) ?_ (by decide)
    | with_reducible refine Within.ite_fst (fun _ => ?_) (fun _ => ?_)
    | split
    | dsimp only)

theorem runBatch_in {s : State} {c : Nat} {b : Batch} {which : Nat} {s₀ : State} (h₀ : Within which s₀ s) (hm₀ : 27408504 ||| which = which) : Within which s₀ (runBatch s c b) :=
  Within.step h₀ (runBatch_within ..) hm₀

theorem closeBatch_within (s : State) (c i id : Nat) : Within 27408504 s (closeBatch s c i id) := by
  unfold closeBatch
  repeat' (first
    | assumption
    | with_reducible (exact Within.refl _ _)
    | with_reducible refine State.bump_in ?_ (by decide)
    | with_reducible refine State.setCluster_in ?_ (by decide)
    | with_reducible refine runBatch_in ?_ (by decide)
    | split
    | dsimp only)

theorem closeBatch_in {s : State} {c i id : Nat} {which : Nat} {s₀ : State} (h₀ : Within which s₀ s) (hm₀ : 27408504 ||| which = which) : Within which s₀ (closeBatch s c i id) :=
  Within.step h₀ (closeBatch_within ..) hm₀

theorem forceBatches_within (f : Batch → Bool) (c fuel : Nat) (s : State) : Within 27408504 s (forceBatches f c fuel s) := by
  induction fuel generalizing s with
  | zero => exact Within.refl _ _
  | succ n ih =>
    unfold forceBatches
    split
    · exact Within.refl _ _
    · exact Within.trans (closeBatch_in (Within.refl _ _) (by decide)) (ih _)

theorem forceBatches_in {f : Batch → Bool} {c fuel : Nat} {s : State} {which : Nat} {s₀ : State} (h₀ : Within which s₀ s) (hm₀ : 27408504 ||| which = which) :
    Within which s₀ (forceBatches f c fuel s) := Within.step h₀ (forceBatches_within ..) hm₀

theorem joinBatch_within (s : State) (c ctx : Nat) (h : Handle) (q : FillReq) : Within 27408504 s (joinBatch s c ctx h q) := by
  unfold joinBatch
  repeat' (first
    | assumption
    | with_reducible (exact Within.refl _ _)
    | with_reducible refine State.setCluster_in ?_ (by decide)
    | with_reducible refine closeBatch_in ?_ (by decide)
    | split
    | dsimp only)

theorem joinBatch_in {s : State} {c ctx : Nat} {h : Handle} {q : FillReq} {which : Nat} {s₀ : State} (h₀ : Within which s₀ s) (hm₀ : 27408504 ||| which = which) : Within which s₀ (joinBatch s c ctx h q) :=
  Within.step h₀ (joinBatch_within ..) hm₀

theorem addMat_within (s : State) (c : Nat) (fl : Flags) : Within 131072 s (addMat s c fl) := by
  unfold addMat
  repeat' (first
    | assumption
    | with_reducible (exact Within.refl _ _)
    | with_reducible refine State.setCluster_in ?_ (by decide)
    | split
    | dsimp only)

theorem addMat_in {s : State} {c : Nat} {fl : Flags} {which : Nat} {s₀ : State} (h₀ : Within which s₀ s) (hm₀ : 131072 ||| which = which) : Within which s₀ (addMat s c fl) :=
  Within.step h₀ (addMat_within ..) hm₀

theorem adaptPass_within (s : State) (c ctx tile desc : Nat) (tagSrc : Word64) (rank t : Nat) (live : Word64) : Within 27400312 s (adaptPass s c ctx tile desc tagSrc rank t live) := by
  unfold adaptPass
  repeat' (first
    | assumption
    | with_reducible (exact Within.refl _ _)
    | with_reducible (refine Within.foldl ?_ (fun _ _ => ?_))
    | with_reducible (refine Within.foldl_fst ?_ (fun _ _ => ?_))
    | with_reducible refine State.bump_in ?_ (by decide)
    | with_reducible refine readRow_in ?_ (by decide)
    | refine readRow_fst (by assumption) ?_ (by decide)
    | with_reducible refine dropBank_in ?_ (by decide)
    | with_reducible refine endPass_in ?_ (by decide)
    | with_reducible refine addMat_in ?_ (by decide)
    | with_reducible refine Within.ite_fst (fun _ => ?_) (fun _ => ?_)
    | split
    | dsimp only)

theorem adaptPass_in {s : State} {c ctx tile desc : Nat} {tagSrc : Word64} {rank t : Nat} {live : Word64} {which : Nat} {s₀ : State} (h₀ : Within which s₀ s) (hm₀ : 27400312 ||| which = which) : Within which s₀ (adaptPass s c ctx tile desc tagSrc rank t live) :=
  Within.step h₀ (adaptPass_within ..) hm₀

theorem matrixDequeue_within (s : State) (c : Nat) : Within 27408504 s (matrixDequeue s c) := by
  unfold matrixDequeue
  repeat' (first
    | assumption
    | with_reducible (exact Within.refl _ _)
    | with_reducible refine State.bump_in ?_ (by decide)
    | with_reducible refine State.setCluster_in ?_ (by decide)
    | with_reducible refine State.tick_in ?_ (by decide)
    | with_reducible refine loadShadow_in ?_ (by decide)
    | with_reducible refine mmulPass_in ?_ (by decide)
    | with_reducible refine forceBatches_in ?_ (by decide)
    | with_reducible refine joinBatch_in ?_ (by decide)
    | with_reducible refine adaptPass_in ?_ (by decide)
    | split
    | dsimp only)

theorem matrixDequeue_in {s : State} {c : Nat} {which : Nat} {s₀ : State} (h₀ : Within which s₀ s) (hm₀ : 27408504 ||| which = which) : Within which s₀ (matrixDequeue s c) :=
  Within.step h₀ (matrixDequeue_within ..) hm₀

theorem fillTimeout_within (s : State) (c n : Nat) : Within 27408504 s (fillTimeout s c n) := by
  unfold fillTimeout
  repeat' (first
    | assumption
    | with_reducible (exact Within.refl _ _)
    | with_reducible refine closeBatch_in ?_ (by decide)
    | split
    | dsimp only)

theorem fillTimeout_in {s : State} {c n : Nat} {which : Nat} {s₀ : State} (h₀ : Within which s₀ s) (hm₀ : 27408504 ||| which = which) : Within which s₀ (fillTimeout s c n) :=
  Within.step h₀ (fillTimeout_within ..) hm₀

theorem drainRows_within (s : State) (c ctx tile t round : Nat) (drain : Word64) (epoch : Nat) : Within 27277432 s (drainRows s c ctx tile t round drain epoch).1 := by
  unfold drainRows
  repeat' (first
    | assumption
    | with_reducible (exact Within.refl _ _)
    | with_reducible (refine Within.foldl ?_ (fun _ _ => ?_))
    | with_reducible (refine Within.foldl_fst ?_ (fun _ _ => ?_))
    | with_reducible refine tileAt_in ?_ (by decide)
    | refine tileAt_fst (by assumption) ?_ (by decide)
    | with_reducible refine convertEntry_in ?_ (by decide)
    | refine convertEntry_fst (by assumption) ?_ (by decide)
    | with_reducible refine census_in ?_ (by decide)
    | with_reducible refine Within.ite_fst (fun _ => ?_) (fun _ => ?_)
    | split
    | dsimp only
    | with_reducible refine free_in ?_ (by decide))

theorem drainRows_in {s : State} {c ctx tile t round : Nat} {drain : Word64} {epoch : Nat} {which : Nat} {s₀ : State} (h₀ : Within which s₀ s) (hm₀ : 27277432 ||| which = which) : Within which s₀ (drainRows s c ctx tile t round drain epoch).1 :=
  Within.step h₀ (drainRows_within ..) hm₀

theorem drainRows_fst {s : State} {c ctx tile t round : Nat} {drain : Word64} {epoch : Nat} {which : Nat} {s₀ t₀ : State} {y} (he₀ : drainRows s c ctx tile t round drain epoch = (t₀, y)) (h₀ : Within which s₀ s) (hm₀ : 27277432 ||| which = which) : Within which s₀ t₀ := by
  have k := drainRows_in (s := s) (c := c) (ctx := ctx) (tile := tile) (t := t) (round := round) (drain := drain) (epoch := epoch) h₀ hm₀; rw [he₀] at k; exact k

theorem drainStart_within (s : State) (c n : Nat) : Within 27408504 s (drainStart s c n) := by
  unfold drainStart
  repeat' (first
    | assumption
    | with_reducible (exact Within.refl _ _)
    | with_reducible (refine Within.foldl ?_ (fun _ _ => ?_))
    | with_reducible (refine Within.foldl_fst ?_ (fun _ _ => ?_))
    | with_reducible refine State.setCluster_in ?_ (by decide)
    | with_reducible refine storeMarked_in ?_ (by decide)
    | with_reducible refine addDone_in ?_ (by decide)
    | with_reducible refine drainRows_in ?_ (by decide)
    | refine drainRows_fst (by assumption) ?_ (by decide)
    | with_reducible refine Within.ite_fst (fun _ => ?_) (fun _ => ?_)
    | split
    | dsimp only)

theorem drainStart_in {s : State} {c n : Nat} {which : Nat} {s₀ : State} (h₀ : Within which s₀ s) (hm₀ : 27408504 ||| which = which) : Within which s₀ (drainStart s c n) :=
  Within.step h₀ (drainStart_within ..) hm₀

theorem shadowRecompute_within (s : State) (c : Nat) : Within 27400312 s (shadowRecompute s c) := by
  unfold shadowRecompute
  repeat' (first
    | assumption
    | with_reducible (exact Within.refl _ _)
    | with_reducible (refine Within.foldl ?_ (fun _ _ => ?_))
    | with_reducible (refine Within.foldl_fst ?_ (fun _ _ => ?_))
    | with_reducible refine State.bump_in ?_ (by decide)
    | with_reducible refine State.setCluster_in ?_ (by decide)
    | with_reducible refine State.setMem_in (fun h => Memory.wf_store _ _ h) ?_ (by decide)
    | with_reducible refine State.tick_in ?_ (by decide)
    | with_reducible refine postEvent_in ?_ (by decide)
    | with_reducible refine Run.bytes_in ?_ (by decide)
    | split
    | dsimp only)

theorem shadowRecompute_in {s : State} {c : Nat} {which : Nat} {s₀ : State} (h₀ : Within which s₀ s) (hm₀ : 27400312 ||| which = which) : Within which s₀ (shadowRecompute s c) :=
  Within.step h₀ (shadowRecompute_within ..) hm₀

end Sys2Proof.Machine
end

