-- ==== Sys2Proof/Laws/Within/MatInsn.lean ====
section
/-! SUPPORT. What the operations of Machine/MatInsn.lean may touch: one lemma for each. -/

namespace Sys2Proof.Machine

open Sys2Proof

set_option linter.unusedTactic false
set_option linter.unreachableTactic false

theorem Env.enqueue_within (e : Env) (s : State) (cmd : MatCmd) : Within 131072 s (Env.enqueue e s cmd) := by
  unfold Env.enqueue
  repeat' (first
    | assumption
    | with_reducible (exact Within.refl _ _)
    | with_reducible refine State.setCluster_in ?_ (by decide)
    | split
    | dsimp only)

theorem Env.enqueue_in {e : Env} {s : State} {cmd : MatCmd} {which : Nat} {s₀ : State} (h₀ : Within which s₀ s) (hm₀ : 131072 ||| which = which) : Within which s₀ (Env.enqueue e s cmd) :=
  Within.step h₀ (Env.enqueue_within ..) hm₀

theorem dropHandles_within (s : State) (c : Nat) : Within 8192 s (dropHandles s c) := by
  unfold dropHandles
  repeat' (first
    | assumption
    | with_reducible (exact Within.refl _ _)
    | split
    | dsimp only
    | with_reducible refine ctxs_in ?_ (by decide))

theorem dropHandles_in {s : State} {c : Nat} {which : Nat} {s₀ : State} (h₀ : Within which s₀ s) (hm₀ : 8192 ||| which = which) : Within which s₀ (dropHandles s c) :=
  Within.step h₀ (dropHandles_within ..) hm₀

theorem setIss_within (s : State) (c shape : Nat) (follower : Bool) : Within 139264 s (setIss s c shape follower) := by
  unfold setIss
  repeat' (first
    | assumption
    | with_reducible (exact Within.refl _ _)
    | with_reducible refine State.setCluster_in ?_ (by decide)
    | with_reducible refine dropHandles_in ?_ (by decide)
    | split
    | dsimp only)

theorem setIss_in {s : State} {c shape : Nat} {follower : Bool} {which : Nat} {s₀ : State} (h₀ : Within which s₀ s) (hm₀ : 139264 ||| which = which) : Within which s₀ (setIss s c shape follower) :=
  Within.step h₀ (setIss_within ..) hm₀

theorem runMcfg_within (e : Env) (s : State) : ResWithin 139264 s (runMcfg e s) := by
  unfold runMcfg
  repeat' (first
    | assumption
    | with_reducible (exact Within.refl _ _)
    | with_reducible (refine ResWithin.done ?_)
    | with_reducible (refine ResWithin.jumped ?_)
    | with_reducible (refine ResWithin.parked ?_)
    | (exact ResWithin.trap _ _ _)
    | (exact ResWithin.notReady _ _)
    | with_reducible refine Env.enqueue_in ?_ (by decide)
    | with_reducible refine setIss_in ?_ (by decide)
    | split
    | dsimp only)

theorem runMcfg_in {e : Env} {s : State} {which : Nat} {s₀ : State} (h₀ : Within which s₀ s) (hm₀ : 139264 ||| which = which) : ResWithin which s₀ (runMcfg e s) :=
  ResWithin.step h₀ (runMcfg_within ..) hm₀

theorem runMload_within (e : Env) (s : State) : ResWithin 139272 s (runMload e s) := by
  unfold runMload
  repeat' (first
    | assumption
    | with_reducible (exact Within.refl _ _)
    | with_reducible (refine ResWithin.done ?_)
    | with_reducible (refine ResWithin.jumped ?_)
    | with_reducible (refine ResWithin.parked ?_)
    | (exact ResWithin.trap _ _ _)
    | (exact ResWithin.notReady _ _)
    | with_reducible refine State.setCluster_in ?_ (by decide)
    | with_reducible refine State.setCtx_in ?_ (by decide)
    | with_reducible refine State.tick_in ?_ (by decide)
    | with_reducible refine Env.enqueue_in ?_ (by decide)
    | split
    | dsimp only)

theorem runMload_in {e : Env} {s : State} {which : Nat} {s₀ : State} (h₀ : Within which s₀ s) (hm₀ : 139272 ||| which = which) : ResWithin which s₀ (runMload e s) :=
  ResWithin.step h₀ (runMload_within ..) hm₀

theorem runMmul_within (e : Env) (s : State) : ResWithin 131080 s (runMmul e s) := by
  unfold runMmul
  repeat' (first
    | assumption
    | with_reducible (exact Within.refl _ _)
    | with_reducible (refine ResWithin.done ?_)
    | with_reducible (refine ResWithin.jumped ?_)
    | with_reducible (refine ResWithin.parked ?_)
    | (exact ResWithin.trap _ _ _)
    | (exact ResWithin.notReady _ _)
    | with_reducible refine State.tick_in ?_ (by decide)
    | with_reducible refine Env.enqueue_in ?_ (by decide)
    | split
    | dsimp only)

theorem runMmul_in {e : Env} {s : State} {which : Nat} {s₀ : State} (h₀ : Within which s₀ s) (hm₀ : 131080 ||| which = which) : ResWithin which s₀ (runMmul e s) :=
  ResWithin.step h₀ (runMmul_within ..) hm₀

theorem runMfill_within (e : Env) (s : State) : ResWithin 131080 s (runMfill e s) := by
  unfold runMfill
  repeat' (first
    | assumption
    | with_reducible (exact Within.refl _ _)
    | with_reducible (refine ResWithin.done ?_)
    | with_reducible (refine ResWithin.jumped ?_)
    | with_reducible (refine ResWithin.parked ?_)
    | (exact ResWithin.trap _ _ _)
    | (exact ResWithin.notReady _ _)
    | with_reducible refine State.tick_in ?_ (by decide)
    | with_reducible refine Env.enqueue_in ?_ (by decide)
    | split
    | dsimp only)

theorem runMfill_in {e : Env} {s : State} {which : Nat} {s₀ : State} (h₀ : Within which s₀ s) (hm₀ : 131080 ||| which = which) : ResWithin which s₀ (runMfill e s) :=
  ResWithin.step h₀ (runMfill_within ..) hm₀

theorem runMadapt_within (e : Env) (s : State) : ResWithin 131072 s (runMadapt e s) := by
  unfold runMadapt
  repeat' (first
    | assumption
    | with_reducible (exact Within.refl _ _)
    | with_reducible (refine ResWithin.done ?_)
    | with_reducible (refine ResWithin.jumped ?_)
    | with_reducible (refine ResWithin.parked ?_)
    | (exact ResWithin.trap _ _ _)
    | (exact ResWithin.notReady _ _)
    | with_reducible refine Env.enqueue_in ?_ (by decide)
    | split
    | dsimp only)

theorem runMadapt_in {e : Env} {s : State} {which : Nat} {s₀ : State} (h₀ : Within which s₀ s) (hm₀ : 131072 ||| which = which) : ResWithin which s₀ (runMadapt e s) :=
  ResWithin.step h₀ (runMadapt_within ..) hm₀

theorem runMdrain_within (e : Env) (s : State) : ResWithin 131080 s (runMdrain e s) := by
  unfold runMdrain
  repeat' (first
    | assumption
    | with_reducible (exact Within.refl _ _)
    | with_reducible (refine ResWithin.done ?_)
    | with_reducible (refine ResWithin.jumped ?_)
    | with_reducible (refine ResWithin.parked ?_)
    | (exact ResWithin.trap _ _ _)
    | (exact ResWithin.notReady _ _)
    | with_reducible refine State.tick_in ?_ (by decide)
    | with_reducible refine Env.enqueue_in ?_ (by decide)
    | split
    | dsimp only)

theorem runMdrain_in {e : Env} {s : State} {which : Nat} {s₀ : State} (h₀ : Within which s₀ s) (hm₀ : 131080 ||| which = which) : ResWithin which s₀ (runMdrain e s) :=
  ResWithin.step h₀ (runMdrain_within ..) hm₀

end Sys2Proof.Machine
end

