-- ==== Sys2Proof/Laws/Within/MemInsn.lean ====
section
/-! SUPPORT. What the operations of Machine/MemInsn.lean may touch: one lemma for each. -/

namespace Sys2Proof.Machine

open Sys2Proof

set_option linter.unusedTactic false
set_option linter.unreachableTactic false

theorem readLane_within (s : State) (e : Env) (a n : Nat) : Within 27269240 s (readLane s e a n).1 := by
  unfold readLane
  repeat' (first
    | assumption
    | with_reducible (exact Within.refl _ _)
    | with_reducible refine touch_in ?_ (by decide)
    | with_reducible refine Within.ite_fst (fun _ => ?_) (fun _ => ?_)
    | split
    | dsimp only)

theorem readLane_in {s : State} {e : Env} {a n : Nat} {which : Nat} {s₀ : State} (h₀ : Within which s₀ s) (hm₀ : 27269240 ||| which = which) : Within which s₀ (readLane s e a n).1 :=
  Within.step h₀ (readLane_within ..) hm₀

theorem readLane_fst {s : State} {e : Env} {a n : Nat} {which : Nat} {s₀ t₀ : State} {y} (he₀ : readLane s e a n = (t₀, y)) (h₀ : Within which s₀ s) (hm₀ : 27269240 ||| which = which) : Within which s₀ t₀ := by
  have k := readLane_in (s := s) (e := e) (a := a) (n := n) h₀ hm₀; rw [he₀] at k; exact k

theorem Env.post_within (e : Env) (s : State) (ts : List Nat) (r : Reads) : Within 32768 s (Env.post e s ts r) := by
  unfold Env.post
  repeat' (first
    | assumption
    | with_reducible (exact Within.refl _ _)
    | with_reducible refine Env.update_in ?_ (by decide)
    | split
    | dsimp only)

theorem Env.post_in {e : Env} {s : State} {ts : List Nat} {r : Reads} {which : Nat} {s₀ : State} (h₀ : Within which s₀ s) (hm₀ : 32768 ||| which = which) : Within which s₀ (Env.post e s ts r) :=
  Within.step h₀ (Env.post_within ..) hm₀

theorem runLd_within (e : Env) (s : State) : ResWithin 27302008 s (runLd e s) := by
  unfold runLd
  repeat' (first
    | assumption
    | with_reducible (exact Within.refl _ _)
    | with_reducible (refine ResWithin.done ?_)
    | with_reducible (refine ResWithin.jumped ?_)
    | with_reducible (refine ResWithin.parked ?_)
    | (exact ResWithin.trap _ _ _)
    | (exact ResWithin.notReady _ _)
    | with_reducible (refine Within.foldl ?_ (fun _ _ => ?_))
    | with_reducible (refine Within.foldl_fst ?_ (fun _ _ => ?_))
    | with_reducible refine readLane_in ?_ (by decide)
    | refine readLane_fst (by assumption) ?_ (by decide)
    | with_reducible refine Env.post_in ?_ (by decide)
    | refine Within.foldl_proj (g := Reads.s) ?_ (fun _ _ => ?_)
    | with_reducible refine Within.ite_fst (fun _ => ?_) (fun _ => ?_)
    | split
    | dsimp only)

theorem runLd_in {e : Env} {s : State} {which : Nat} {s₀ : State} (h₀ : Within which s₀ s) (hm₀ : 27302008 ||| which = which) : ResWithin which s₀ (runLd e s) :=
  ResWithin.step h₀ (runLd_within ..) hm₀

theorem wf_stores (ws : List (Nat × List Byte)) {b : Sparse Byte} (h : Memory.wf b = true) :
    Memory.wf (ws.foldl (fun m w => Memory.store m w.1 w.2) b) = true := by
  induction ws generalizing b with
  | nil => exact h
  | cons w ws ih => exact ih (Memory.wf_store _ _ h)

theorem storeAll_within (s : State) (ws : List (Nat × List Byte)) : Within 27269240 s (storeAll s ws) := by
  unfold storeAll
  dsimp only
  refine State.setMem_in (wf_stores ws) ?_ (by decide)
  refine Within.foldl (Within.refl _ _) (fun _ _ => ?_)
  exact writeCell_in (Within.refl _ _) (by decide)

theorem storeAll_in {s : State} {ws : List (Nat × List Byte)} {which : Nat} {s₀ : State} (h₀ : Within which s₀ s) (hm₀ : 27269240 ||| which = which) :
    Within which s₀ (storeAll s ws) := Within.step h₀ (storeAll_within ..) hm₀

theorem runSt_within (e : Env) (s : State) : ResWithin 27269240 s (runSt e s) := by
  unfold runSt
  repeat' (first
    | assumption
    | with_reducible (exact Within.refl _ _)
    | with_reducible (refine ResWithin.done ?_)
    | with_reducible (refine ResWithin.jumped ?_)
    | with_reducible (refine ResWithin.parked ?_)
    | (exact ResWithin.trap _ _ _)
    | (exact ResWithin.notReady _ _)
    | with_reducible refine State.tick_in ?_ (by decide)
    | with_reducible refine storeAll_in ?_ (by decide)
    | split
    | dsimp only)

theorem runSt_in {e : Env} {s : State} {which : Nat} {s₀ : State} (h₀ : Within which s₀ s) (hm₀ : 27269240 ||| which = which) : ResWithin which s₀ (runSt e s) :=
  ResWithin.step h₀ (runSt_within ..) hm₀

theorem atomLane_within (op : Bool → Nat → Nat → Nat → Nat → Nat) (e : Env) (s : State) (t : Nat) : Within 27269240 s (atomLane op e s t).1 := by
  unfold atomLane
  repeat' (first
    | assumption
    | with_reducible (exact Within.refl _ _)
    | with_reducible refine storeMem_in ?_ (by decide)
    | with_reducible refine readLane_in ?_ (by decide)
    | refine readLane_fst (by assumption) ?_ (by decide)
    | with_reducible refine Within.ite_fst (fun _ => ?_) (fun _ => ?_)
    | split
    | dsimp only)

theorem atomLane_in {op : Bool → Nat → Nat → Nat → Nat → Nat} {e : Env} {s : State} {t : Nat} {which : Nat} {s₀ : State} (h₀ : Within which s₀ s) (hm₀ : 27269240 ||| which = which) : Within which s₀ (atomLane op e s t).1 :=
  Within.step h₀ (atomLane_within ..) hm₀

theorem atomLane_fst {op : Bool → Nat → Nat → Nat → Nat → Nat} {e : Env} {s : State} {t : Nat} {which : Nat} {s₀ t₀ : State} {y} (he₀ : atomLane op e s t = (t₀, y)) (h₀ : Within which s₀ s) (hm₀ : 27269240 ||| which = which) : Within which s₀ t₀ := by
  have k := atomLane_in (s := s) (op := op) (e := e) (t := t) h₀ hm₀; rw [he₀] at k; exact k

theorem atomRes_within (op : Bool → Nat → Nat → Nat → Nat → Nat) (e : Env) (s : State) : ResWithin 27302008 s (atomRes op e s) := by
  unfold atomRes
  repeat' (first
    | assumption
    | with_reducible (exact Within.refl _ _)
    | with_reducible (refine ResWithin.done ?_)
    | with_reducible (refine ResWithin.jumped ?_)
    | with_reducible (refine ResWithin.parked ?_)
    | (exact ResWithin.trap _ _ _)
    | (exact ResWithin.notReady _ _)
    | with_reducible (refine Within.foldl ?_ (fun _ _ => ?_))
    | with_reducible (refine Within.foldl_fst ?_ (fun _ _ => ?_))
    | with_reducible refine State.tick_in ?_ (by decide)
    | with_reducible refine Env.post_in ?_ (by decide)
    | with_reducible refine atomLane_in ?_ (by decide)
    | refine atomLane_fst (by assumption) ?_ (by decide)
    | refine Within.foldl_proj (g := Reads.s) ?_ (fun _ _ => ?_)
    | with_reducible refine Within.ite_fst (fun _ => ?_) (fun _ => ?_)
    | split
    | dsimp only)

theorem atomRes_in {op : Bool → Nat → Nat → Nat → Nat → Nat} {e : Env} {s : State} {which : Nat} {s₀ : State} (h₀ : Within which s₀ s) (hm₀ : 27302008 ||| which = which) : ResWithin which s₀ (atomRes op e s) :=
  ResWithin.step h₀ (atomRes_within ..) hm₀

theorem runAtomAdd_within (x0 : Env) (x1 : State) : ResWithin 27302008 x1 (runAtomAdd x0 x1) := by
  unfold runAtomAdd
  repeat' (first
    | assumption
    | with_reducible (exact Within.refl _ _)
    | with_reducible (refine ResWithin.done ?_)
    | with_reducible (refine ResWithin.jumped ?_)
    | with_reducible (refine ResWithin.parked ?_)
    | (exact ResWithin.trap _ _ _)
    | (exact ResWithin.notReady _ _)
    | with_reducible refine atomRes_in ?_ (by decide)
    | split
    | dsimp only
    | refine ResWithin.of_done (by assumption) ?_
    | refine ResWithin.of_parked (by assumption) ?_)

theorem runAtomAdd_in {x0 : Env} {x1 : State} {which : Nat} {s₀ : State} (h₀ : Within which s₀ x1) (hm₀ : 27302008 ||| which = which) : ResWithin which s₀ (runAtomAdd x0 x1) :=
  ResWithin.step h₀ (runAtomAdd_within ..) hm₀

theorem runAtomMin_within (x0 : Env) (x1 : State) : ResWithin 27302008 x1 (runAtomMin x0 x1) := by
  unfold runAtomMin
  repeat' (first
    | assumption
    | with_reducible (exact Within.refl _ _)
    | with_reducible (refine ResWithin.done ?_)
    | with_reducible (refine ResWithin.jumped ?_)
    | with_reducible (refine ResWithin.parked ?_)
    | (exact ResWithin.trap _ _ _)
    | (exact ResWithin.notReady _ _)
    | with_reducible refine atomRes_in ?_ (by decide)
    | split
    | dsimp only
    | refine ResWithin.of_done (by assumption) ?_
    | refine ResWithin.of_parked (by assumption) ?_)

theorem runAtomMin_in {x0 : Env} {x1 : State} {which : Nat} {s₀ : State} (h₀ : Within which s₀ x1) (hm₀ : 27302008 ||| which = which) : ResWithin which s₀ (runAtomMin x0 x1) :=
  ResWithin.step h₀ (runAtomMin_within ..) hm₀

theorem runAtomMax_within (x0 : Env) (x1 : State) : ResWithin 27302008 x1 (runAtomMax x0 x1) := by
  unfold runAtomMax
  repeat' (first
    | assumption
    | with_reducible (exact Within.refl _ _)
    | with_reducible (refine ResWithin.done ?_)
    | with_reducible (refine ResWithin.jumped ?_)
    | with_reducible (refine ResWithin.parked ?_)
    | (exact ResWithin.trap _ _ _)
    | (exact ResWithin.notReady _ _)
    | with_reducible refine atomRes_in ?_ (by decide)
    | split
    | dsimp only
    | refine ResWithin.of_done (by assumption) ?_
    | refine ResWithin.of_parked (by assumption) ?_)

theorem runAtomMax_in {x0 : Env} {x1 : State} {which : Nat} {s₀ : State} (h₀ : Within which s₀ x1) (hm₀ : 27302008 ||| which = which) : ResWithin which s₀ (runAtomMax x0 x1) :=
  ResWithin.step h₀ (runAtomMax_within ..) hm₀

theorem runAtomAnd_within (x0 : Env) (x1 : State) : ResWithin 27302008 x1 (runAtomAnd x0 x1) := by
  unfold runAtomAnd
  repeat' (first
    | assumption
    | with_reducible (exact Within.refl _ _)
    | with_reducible (refine ResWithin.done ?_)
    | with_reducible (refine ResWithin.jumped ?_)
    | with_reducible (refine ResWithin.parked ?_)
    | (exact ResWithin.trap _ _ _)
    | (exact ResWithin.notReady _ _)
    | with_reducible refine atomRes_in ?_ (by decide)
    | split
    | dsimp only
    | refine ResWithin.of_done (by assumption) ?_
    | refine ResWithin.of_parked (by assumption) ?_)

theorem runAtomAnd_in {x0 : Env} {x1 : State} {which : Nat} {s₀ : State} (h₀ : Within which s₀ x1) (hm₀ : 27302008 ||| which = which) : ResWithin which s₀ (runAtomAnd x0 x1) :=
  ResWithin.step h₀ (runAtomAnd_within ..) hm₀

theorem runAtomOr_within (x0 : Env) (x1 : State) : ResWithin 27302008 x1 (runAtomOr x0 x1) := by
  unfold runAtomOr
  repeat' (first
    | assumption
    | with_reducible (exact Within.refl _ _)
    | with_reducible (refine ResWithin.done ?_)
    | with_reducible (refine ResWithin.jumped ?_)
    | with_reducible (refine ResWithin.parked ?_)
    | (exact ResWithin.trap _ _ _)
    | (exact ResWithin.notReady _ _)
    | with_reducible refine atomRes_in ?_ (by decide)
    | split
    | dsimp only
    | refine ResWithin.of_done (by assumption) ?_
    | refine ResWithin.of_parked (by assumption) ?_)

theorem runAtomOr_in {x0 : Env} {x1 : State} {which : Nat} {s₀ : State} (h₀ : Within which s₀ x1) (hm₀ : 27302008 ||| which = which) : ResWithin which s₀ (runAtomOr x0 x1) :=
  ResWithin.step h₀ (runAtomOr_within ..) hm₀

theorem runAtomXor_within (x0 : Env) (x1 : State) : ResWithin 27302008 x1 (runAtomXor x0 x1) := by
  unfold runAtomXor
  repeat' (first
    | assumption
    | with_reducible (exact Within.refl _ _)
    | with_reducible (refine ResWithin.done ?_)
    | with_reducible (refine ResWithin.jumped ?_)
    | with_reducible (refine ResWithin.parked ?_)
    | (exact ResWithin.trap _ _ _)
    | (exact ResWithin.notReady _ _)
    | with_reducible refine atomRes_in ?_ (by decide)
    | split
    | dsimp only
    | refine ResWithin.of_done (by assumption) ?_
    | refine ResWithin.of_parked (by assumption) ?_)

theorem runAtomXor_in {x0 : Env} {x1 : State} {which : Nat} {s₀ : State} (h₀ : Within which s₀ x1) (hm₀ : 27302008 ||| which = which) : ResWithin which s₀ (runAtomXor x0 x1) :=
  ResWithin.step h₀ (runAtomXor_within ..) hm₀

theorem runAtomXchg_within (x0 : Env) (x1 : State) : ResWithin 27302008 x1 (runAtomXchg x0 x1) := by
  unfold runAtomXchg
  repeat' (first
    | assumption
    | with_reducible (exact Within.refl _ _)
    | with_reducible (refine ResWithin.done ?_)
    | with_reducible (refine ResWithin.jumped ?_)
    | with_reducible (refine ResWithin.parked ?_)
    | (exact ResWithin.trap _ _ _)
    | (exact ResWithin.notReady _ _)
    | with_reducible refine atomRes_in ?_ (by decide)
    | split
    | dsimp only
    | refine ResWithin.of_done (by assumption) ?_
    | refine ResWithin.of_parked (by assumption) ?_)

theorem runAtomXchg_in {x0 : Env} {x1 : State} {which : Nat} {s₀ : State} (h₀ : Within which s₀ x1) (hm₀ : 27302008 ||| which = which) : ResWithin which s₀ (runAtomXchg x0 x1) :=
  ResWithin.step h₀ (runAtomXchg_within ..) hm₀

theorem runAtomCas_within (x0 : Env) (x1 : State) : ResWithin 27302008 x1 (runAtomCas x0 x1) := by
  unfold runAtomCas
  repeat' (first
    | assumption
    | with_reducible (exact Within.refl _ _)
    | with_reducible (refine ResWithin.done ?_)
    | with_reducible (refine ResWithin.jumped ?_)
    | with_reducible (refine ResWithin.parked ?_)
    | (exact ResWithin.trap _ _ _)
    | (exact ResWithin.notReady _ _)
    | with_reducible refine atomRes_in ?_ (by decide)
    | split
    | dsimp only
    | refine ResWithin.of_done (by assumption) ?_
    | refine ResWithin.of_parked (by assumption) ?_)

theorem runAtomCas_in {x0 : Env} {x1 : State} {which : Nat} {s₀ : State} (h₀ : Within which s₀ x1) (hm₀ : 27302008 ||| which = which) : ResWithin which s₀ (runAtomCas x0 x1) :=
  ResWithin.step h₀ (runAtomCas_within ..) hm₀

theorem runFence_within (y0 : Env) (s : State) : ResWithin 0 s (runFence y0 s) := by
  unfold runFence
  repeat' (first
    | assumption
    | with_reducible (exact Within.refl _ _)
    | with_reducible (refine ResWithin.done ?_)
    | with_reducible (refine ResWithin.jumped ?_)
    | with_reducible (refine ResWithin.parked ?_)
    | (exact ResWithin.trap _ _ _)
    | (exact ResWithin.notReady _ _)
    | split
    | dsimp only)

theorem runFence_in {y0 : Env} {s : State} {which : Nat} {s₀ : State} (h₀ : Within which s₀ s) (hm₀ : 0 ||| which = which) : ResWithin which s₀ (runFence y0 s) :=
  ResWithin.step h₀ (runFence_within ..) hm₀

theorem runDma_within (e : Env) (s : State) : ResWithin 131072 s (runDma e s) := by
  unfold runDma
  repeat' (first
    | assumption
    | with_reducible (exact Within.refl _ _)
    | with_reducible (refine ResWithin.done ?_)
    | with_reducible (refine ResWithin.jumped ?_)
    | with_reducible (refine ResWithin.parked ?_)
    | (exact ResWithin.trap _ _ _)
    | (exact ResWithin.notReady _ _)
    | with_reducible refine State.setCluster_in ?_ (by decide)
    | split
    | dsimp only)

theorem runDma_in {e : Env} {s : State} {which : Nat} {s₀ : State} (h₀ : Within which s₀ s) (hm₀ : 131072 ||| which = which) : ResWithin which s₀ (runDma e s) :=
  ResWithin.step h₀ (runDma_within ..) hm₀

theorem copyGranule_within (s : State) (dst src : Nat) : Within 27269240 s (copyGranule s dst src) := by
  unfold copyGranule
  repeat' (first
    | assumption
    | with_reducible (exact Within.refl _ _)
    | with_reducible refine storeMarked_in ?_ (by decide)
    | split
    | dsimp only)

theorem copyGranule_in {s : State} {dst src : Nat} {which : Nat} {s₀ : State} (h₀ : Within which s₀ s) (hm₀ : 27269240 ||| which = which) : Within which s₀ (copyGranule s dst src) :=
  Within.step h₀ (copyGranule_within ..) hm₀

theorem copyRange_within (s : State) (dst src n : Nat) : Within 27269240 s (copyRange s dst src n) := by
  unfold copyRange
  repeat' (first
    | assumption
    | with_reducible (exact Within.refl _ _)
    | with_reducible (refine Within.foldl ?_ (fun _ _ => ?_))
    | with_reducible (refine Within.foldl_fst ?_ (fun _ _ => ?_))
    | with_reducible refine storeMarked_in ?_ (by decide)
    | with_reducible refine copyGranule_in ?_ (by decide)
    | refine Within.foldl_proj (g := Reads.s) ?_ (fun _ _ => ?_)
    | split
    | dsimp only
    | with_reducible refine free_in ?_ (by decide))

theorem copyRange_in {s : State} {dst src n : Nat} {which : Nat} {s₀ : State} (h₀ : Within which s₀ s) (hm₀ : 27269240 ||| which = which) : Within which s₀ (copyRange s dst src n) :=
  Within.step h₀ (copyRange_within ..) hm₀

theorem dmaStart_within (s : State) (c : Nat) : Within 27400312 s (dmaStart s c) := by
  unfold dmaStart
  repeat' (first
    | assumption
    | with_reducible (exact Within.refl _ _)
    | with_reducible refine State.bump_in ?_ (by decide)
    | with_reducible refine State.setCluster_in ?_ (by decide)
    | with_reducible refine touch_in ?_ (by decide)
    | with_reducible refine addDone_in ?_ (by decide)
    | with_reducible refine copyRange_in ?_ (by decide)
    | split
    | dsimp only)

theorem dmaStart_in {s : State} {c : Nat} {which : Nat} {s₀ : State} (h₀ : Within which s₀ s) (hm₀ : 27400312 ||| which = which) : Within which s₀ (dmaStart s c) :=
  Within.step h₀ (dmaStart_within ..) hm₀

theorem loadReturn_within (s : State) (g : GroupId) (n : Nat) : Within 425984 s (loadReturn s g n) := by
  unfold loadReturn
  repeat' (first
    | assumption
    | with_reducible (exact Within.refl _ _)
    | with_reducible refine State.setGroup_in ?_ (by decide)
    | with_reducible refine settleGroup_in ?_ (by decide)
    | split
    | dsimp only)

theorem loadReturn_in {s : State} {g : GroupId} {n : Nat} {which : Nat} {s₀ : State} (h₀ : Within which s₀ s) (hm₀ : 425984 ||| which = which) : Within which s₀ (loadReturn s g n) :=
  Within.step h₀ (loadReturn_within ..) hm₀

theorem engineCompletion_within (s : State) (c : Nat) (e : Engine) : Within 393216 s (engineCompletion s c e) := by
  unfold engineCompletion
  repeat' (first
    | assumption
    | with_reducible (exact Within.refl _ _)
    | with_reducible refine State.setCluster_in ?_ (by decide)
    | with_reducible refine complete_in ?_ (by decide)
    | split
    | dsimp only)

theorem engineCompletion_in {s : State} {c : Nat} {e : Engine} {which : Nat} {s₀ : State} (h₀ : Within which s₀ s) (hm₀ : 393216 ||| which = which) : Within which s₀ (engineCompletion s c e) :=
  Within.step h₀ (engineCompletion_within ..) hm₀

end Sys2Proof.Machine
end

