-- ==== Sys2Proof/Laws/Memory.lean ====
section
/-! SUPPORT. Memory that holds no stored error: reading it changes nothing but a counter, and storing to it changes the bytes stored, the markers of the
granules they cover, and counters. -/

namespace Sys2Proof.Machine

open Sys2Proof

theorem meetKey_clean {s : State} (h : s.mem.errs = []) (k : Nat) : meetKey s k = s := by
  unfold meetKey; rw [h]; rfl

theorem meetKeys_clean {s : State} (h : s.mem.errs = []) (ks : List Nat) : ks.foldl meetKey s = s := by
  induction ks with
  | nil => rfl
  | cons k ks ih => rw [List.foldl_cons, meetKey_clean h, ih]

/-- A read of clean memory counts at most. -/
theorem touch_clean {s : State} (h : s.mem.errs = []) (a n : Nat) : ∃ cs, touch s a n = { s with counters := cs } := by
  unfold touch
  rw [meetKeys_clean h]
  dsimp only
  generalize (if spBase ≤ a then 0 else (List.filter (fun g => Sparse.get false s.mem.poison g) (granules a n)).length) = m
  by_cases q : m = 0
  · exact ⟨s.counters, by rw [if_pos q]⟩
  · exact ⟨(s.bump 0x03000004 m).counters, by rw [if_neg q]; rfl⟩

/-- What storing to clean memory leaves alone: all but bytes, markers and counters. -/
structure StoredFrom (s t : State) : Prop where
  rest : t = { s with mem := { s.mem with bytes := t.mem.bytes, poison := t.mem.poison }, counters := t.counters }
  clean : s.mem.errs = []

theorem StoredFrom.refl {s : State} (h : s.mem.errs = []) : StoredFrom s s := ⟨rfl, h⟩
theorem StoredFrom.errs {s t : State} (h : StoredFrom s t) : t.mem.errs = [] := by rw [h.rest]; exact h.clean
theorem StoredFrom.trans {a b c : State} (h : StoredFrom a b) (k : StoredFrom b c) : StoredFrom a c := by
  refine ⟨?_, h.clean⟩
  have h1 := h.rest
  have h2 := k.rest
  rw [h1] at h2
  simpa using h2

theorem del_nil (ks : List Nat) : ks.foldl (fun m k => Sparse.del m k) ([] : Sparse ErrKind) = [] := by
  induction ks with
  | nil => rfl
  | cons k ks ih => rw [List.foldl_cons]; exact ih

/-- A granule written in clean memory: its marker goes when the whole of it is written. -/
theorem writeCell_clean {s : State} (h : s.mem.errs = []) (whole : Bool) (f r : Nat → Nat → Bool) (g : Nat) :
    StoredFrom s (writeCell whole f r s g) ∧ (writeCell whole f r s g).mem.bytes = s.mem.bytes ∧
      (writeCell whole f r s g).mem.poison = if whole then Sparse.put false s.mem.poison g false else s.mem.poison := by
  unfold writeCell
  dsimp only
  cases whole with
  | true =>
    simp only [if_true]
    refine ⟨⟨?_, h⟩, by trivial, by trivial⟩
    simp only [h, del_nil]
  | false =>
    simp only [Bool.false_eq_true, if_false]
    split
    · have : ∀ ks : List Nat, ks.foldl (fun t k => if f (8 * k) 8 = true then { t with mem := { t.mem with errs := Sparse.del t.mem.errs k } }
          else if r (8 * k) 8 = true then meetKey t k else t) s = s := by
        intro ks
        induction ks with
        | nil => rfl
        | cons k ks ih =>
          rw [List.foldl_cons]
          have e : (if f (8 * k) 8 = true then ({ s with mem := { s.mem with errs := Sparse.del s.mem.errs k } } : State)
            else if r (8 * k) 8 = true then meetKey s k else s) = s := by
            split
            · rw [h]; show ({ s with mem := { s.mem with errs := [] } } : State) = s; rw [← h]
            · split
              · exact meetKey_clean h k
              · rfl
          rw [e]; exact ih
      rw [this]
      exact ⟨.refl h, rfl, rfl⟩
    · have : meetError s g = s := meetKeys_clean h _
      rw [this]
      exact ⟨⟨rfl, h⟩, rfl, rfl⟩

/-- Granules written in clean memory. -/
theorem writeCells_clean (w : Nat → Bool) (f r : Nat → Nat → Nat → Bool) (gs : List Nat) {s : State} (h : s.mem.errs = []) :
    let t := gs.foldl (fun t g => writeCell (w g) (f g) (r g) t g) s
    StoredFrom s t ∧ t.mem.bytes = s.mem.bytes ∧
      ∀ q, Sparse.get false t.mem.poison q = if q ∈ gs ∧ w q = true then false else Sparse.get false s.mem.poison q := by
  induction gs generalizing s with
  | nil => exact ⟨.refl h, rfl, by simp⟩
  | cons g gs ih =>
    obtain ⟨a, b, c⟩ := writeCell_clean h (w g) (f g) (r g) g
    obtain ⟨d, e, k⟩ := ih a.errs
    refine ⟨a.trans d, e.trans b, fun q => ?_⟩
    rw [List.foldl_cons, k q, c]
    by_cases h1 : q ∈ gs ∧ w q = true
    · rw [if_pos h1, if_pos ⟨by simp [h1.1], h1.2⟩]
    · rw [if_neg h1]
      by_cases h2 : q = g
      · subst h2
        cases hw : w q
        · simp
        · simp
      · have : ¬(q ∈ g :: gs ∧ w q = true) := by
          rintro ⟨h3, h4⟩
          rcases List.mem_cons.1 h3 with h3 | h3
          · exact h2 h3
          · exact h1 ⟨h3, h4⟩
        rw [if_neg this]
        split
        · rw [Sparse.get_put_ne _ _ _ h2]
        · rfl

/-- A store to clean memory. -/
theorem storeMem_clean {s : State} (h : s.mem.errs = []) (a : Nat) (bs : List Byte) :
    StoredFrom s (storeMem s a bs) ∧ (storeMem s a bs).mem.bytes = Memory.store s.mem.bytes a bs ∧
      ∀ q, Sparse.get false (storeMem s a bs).mem.poison q =
        if q ∈ granules a bs.length ∧ a ≤ 64 * q ∧ 64 * q + 64 ≤ a + bs.length then false else Sparse.get false s.mem.poison q := by
  obtain ⟨x, y, z⟩ := writeCells_clean (fun g => decide (a ≤ 64 * g) && decide (64 * g + 64 ≤ a + bs.length))
    (fun _ x n => decide (a ≤ x) && decide (x + n ≤ a + bs.length)) (fun _ x n => decide (a < x + n) && decide (x < a + bs.length)) (granules a bs.length) h
  have hs : (granules a bs.length).foldl (fun t g => storeGranule t a bs g) s = (granules a bs.length).foldl (fun t g => writeCell
      (decide (a ≤ 64 * g) && decide (64 * g + 64 ≤ a + bs.length)) (fun x n => decide (a ≤ x) && decide (x + n ≤ a + bs.length))
      (fun x n => decide (a < x + n) && decide (x < a + bs.length)) t g) s := rfl
  unfold storeMem
  rw [hs]
  refine ⟨x.trans ⟨?_, x.errs⟩, by simp [State.setMem, y], fun q => ?_⟩
  · rfl
  · show Sparse.get false (List.foldl _ s _).mem.poison q = _
    rw [z q]
    simp

end Sys2Proof.Machine
end

