-- ==== Sys2Proof/Laws/Parts.lean ====
section
/-! SUPPORT. What a `Within` fact says of each part of the state by name. -/

namespace Sys2Proof.Machine

open Sys2Proof

namespace Within

variable {m : Nat} {s t : State}

theorem pendingSame (h : Within m s t) (hm : m.testBit 0 = false) : t.pending = s.pending := h.same 0 hm

theorem partSame (h : Within m s t) (hm : m.testBit 1 = false) : t.part = s.part := h.same 1 hm

theorem timeSame (h : Within m s t) (hm : m.testBit 2 = false) : t.time = s.time := h.same 2 hm

theorem freeSame (h : Within m s t) (hm : m.testBit 3 = false) : t.free = s.free := h.same 3 hm

theorem ringsSame (h : Within m s t) (hm : m.testBit 4 = false) : t.rings = s.rings := h.same 4 hm

theorem fnEventsSame (h : Within m s t) (hm : m.testBit 5 = false) : t.fnEvents = s.fnEvents := h.same 5 hm

theorem hostMemSame (h : Within m s t) (hm : m.testBit 6 = false) : t.hostMem = s.hostMem := h.same 6 hm

theorem hostFailSame (h : Within m s t) (hm : m.testBit 7 = false) : t.hostFail = s.hostFail := h.same 7 hm

theorem lanternSame (h : Within m s t) (hm : m.testBit 8 = false) : t.lantern = s.lantern := h.same 8 hm

theorem ctxsSame (h : Within m s t) (hm : m.testBit 13 = false) : t.ctxs = s.ctxs := h.same 13 hm

theorem nextCtxSame (h : Within m s t) (hm : m.testBit 14 = false) : t.nextCtx = s.nextCtx := h.same 14 hm

theorem groupsSame (h : Within m s t) (hm : m.testBit 15 = false) : t.groups = s.groups := h.same 15 hm

theorem unitsSame (h : Within m s t) (hm : m.testBit 16 = false) : t.units = s.units := h.same 16 hm

theorem clustersSame (h : Within m s t) (hm : m.testBit 17 = false) : t.clusters = s.clusters := h.same 17 hm

theorem syncSame (h : Within m s t) (hm : m.testBit 18 = false) : t.sync = s.sync := h.same 18 hm

theorem fabricSame (h : Within m s t) (hm : m.testBit 19 = false) : t.fabric = s.fabric := h.same 19 hm

theorem carrierSame (h : Within m s t) (hm : m.testBit 20 = false) : t.carrier = s.carrier := h.same 20 hm

theorem riskSame (h : Within m s t) (hm : m.testBit 21 = false) : t.risk = s.risk := h.same 21 hm

theorem journalsSame (h : Within m s t) (hm : m.testBit 22 = false) : t.journals = s.journals := h.same 22 hm

theorem countersSame (h : Within m s t) (hm : m.testBit 23 = false) : t.counters = s.counters := h.same 23 hm

theorem txSame (h : Within m s t) (hm : m.testBit 24 = false) : t.tx = s.tx := h.same 24 hm

theorem keepSame (h : Within m s t) (h9 : m.testBit 9 = false) (h10 : m.testBit 10 = false) : t.keep = s.keep := by
  have a : t.keep = { s.keep with svn := t.keep.svn } := h.same 9 h9
  have b : t.keep.svn = s.keep.svn := h.same 10 h10
  rw [a, b]

theorem memSame (h : Within m s t) (h11 : m.testBit 11 = false) (h12 : m.testBit 12 = false) : t.mem = s.mem := by
  have a : t.mem = { s.mem with bytes := t.mem.bytes } := h.same 11 h11
  have b : t.mem.bytes = s.mem.bytes := h.same 12 h12
  rw [a, b]

end Within

end Sys2Proof.Machine
end

