-- ==== Sys2Proof/WellFormed.lean ====
section
/-! DEFINITION. What makes a command well formed: every number it names exists on the module. -/

namespace Sys2Proof

/-- One of the seven PCIe functions PF0 and VF1 to VF6 (R36). -/
def RingId.ok (r : RingId) : Bool := decide (r.fn < 7)

/-- A slot of a unit of a cluster (R19, R21). -/
def GroupId.ok (g : GroupId) : Bool := decide (g.cluster < 640) && decide (g.unit < 4) && decide (g.slot < 16)

/-- A chain payload has at most 1,024 bytes, as many as LEN says (R73). -/
def ChainFrame.ok (f : ChainFrame) : Bool := decide (f.len ≤ 1024) && f.payload.length == f.len

/-- Whether every operand of a command lies in its range. -/
def Instr.wf : Instr → Bool
  | .ringEnable r _ => r.ok
  | .ringDisable r _ => r.ok
  | .ringConfigWrite r _ => r.ok
  | .ringBaseWrite r off _ _ => r.ok && (decide (off < 4096) && off % 4 == 0)
  | .lmbDoorbell r _ => r.ok
  | .bar0LowRead r off => r.ok && (decide (off < 4096) && off % 4 == 0)
  | .registerWrite r off _ => r.ok && (decide (off < 4096) && off % 4 == 0)
  | .ringStopComplete r => r.ok
  | .completionDeferred r => r.ok
  | .commandTimeout r _ _ => r.ok
  | .functionLevelReset r => r.ok
  | .nop r _ => r.ok
  | .identify r _ => r.ok
  | .fwStage r _ => r.ok
  | .fwCommit r _ => r.ok
  | .fwActivate r _ => r.ok
  | .eventGet r _ => r.ok
  | .cmdAbort r _ => r.ok
  | .moduleReset r _ => r.ok
  | .surveyStart r _ => r.ok
  | .surveyStatus r _ => r.ok
  | .detach r _ => r.ok
  | .attach r _ => r.ok
  | .lanternSwitch r _ => r.ok
  | .surveyAccept r _ => r.ok
  | .tlmList r _ => r.ok
  | .tlmRead r _ => r.ok
  | .tlmSampleCfg r _ => r.ok
  | .telemetrySample => true
  | .loadWindow load _ => decide (load ≤ 65535)
  | .lanternHeartbeatMiss => true
  | .bootComplete => true
  | .bootWatchdog => true
  | .enum f => f.ok
  | .healthReq f => f.ok
  | .powerOn f => f.ok
  | .powerOff f => f.ok
  | .stop f => f.ok
  | .reset f => f.ok
  | .recovery f => f.ok
  | .rescueData f => f.ok
  | .chainFrameOther f => f.ok
  | .mov g => g.ok
  | .add g => g.ok
  | .sub g => g.ok
  | .mul g => g.ok
  | .mulhi g => g.ok
  | .mad g => g.ok
  | .min g => g.ok
  | .max g => g.ok
  | .and g => g.ok
  | .or g => g.ok
  | .xor g => g.ok
  | .shl g => g.ok
  | .shr g => g.ok
  | .sar g => g.ok
  | .popc g => g.ok
  | .clz g => g.ok
  | .sel g => g.ok
  | .rdlane g => g.ok
  | .sreg g => g.ok
  | .fadd g => g.ok
  | .fsub g => g.ok
  | .fmul g => g.ok
  | .ffma g => g.ok
  | .fmin g => g.ok
  | .fmax g => g.ok
  | .fabs g => g.ok
  | .fneg g => g.ok
  | .rcp g => g.ok
  | .rsq g => g.ok
  | .sqrt g => g.ok
  | .exp2 g => g.ok
  | .log2 g => g.ok
  | .cvtRne g => g.ok
  | .cvtRtz g => g.ok
  | .cvtSr g => g.ok
  | .isetp g => g.ok
  | .fsetp g => g.ok
  | .pand g => g.ok
  | .por g => g.ok
  | .pxor g => g.ok
  | .pnot g => g.ok
  | .ballot g => g.ok
  | .bra g => g.ok
  | .brx g => g.ok
  | .call g => g.ok
  | .ret g => g.ok
  | .exit g => g.ok
  | .conv g => g.ok
  | .forcedRelease g => g.ok
  | .bar g => g.ok
  | .barrierStarved cluster _ barrier => decide (cluster < 640) && decide (barrier < 4)
  | .actmask g => g.ok
  | .virdyNop g => g.ok
  | .ld g => g.ok
  | .loadReturn g _ => g.ok
  | .st g => g.ok
  | .fence g => g.ok
  | .dma g => g.ok
  | .dmaStart cluster => decide (cluster < 640)
  | .atomAdd g => g.ok
  | .atomMin g => g.ok
  | .atomMax g => g.ok
  | .atomAnd g => g.ok
  | .atomOr g => g.ok
  | .atomXor g => g.ok
  | .atomXchg g => g.ok
  | .atomCas g => g.ok
  | .mcfg g => g.ok
  | .mload g => g.ok
  | .mmul g => g.ok
  | .mfill g => g.ok
  | .madapt g => g.ok
  | .mdrain g => g.ok
  | .matrixDequeue cluster => decide (cluster < 640)
  | .fillTimeout cluster _ => decide (cluster < 640)
  | .mdrainReadStart cluster _ => decide (cluster < 640)
  | .shadowRecompute cluster => decide (cluster < 640)
  | .streamIssue g => g.ok
  | .streamDescriptorRead cluster => decide (cluster < 640)
  | .streamCommandStart cluster => decide (cluster < 640)
  | .engineCompletion cluster _ => decide (cluster < 640)
  | .sigAdd g => g.ok
  | .sigSet g => g.ok
  | .waitGe g => g.ok
  | .waitTake g => g.ok
  | .signalApply _ => true
  | .waitArrive _ => true
  | .waitRepresent _ => true
  | .queuedWaitHead cluster _ => decide (cluster < 640)
  | .put g => g.ok
  | .get g => g.ok
  | .acc g => g.ok
  | .coll g => g.ok
  | .collectiveStart ctx axes _ => decide (0 < ctx) && decide (axes < 64)
  | .flagrd g => g.ok
  | .flagclr g => g.ok
  | .scrd g => g.ok
  | .scwr g => g.ok
  | .brk g => g.ok
  | .sendQueueSend cluster => decide (cluster < 640)
  | .ackTimeout cluster _ _ => decide (cluster < 640)
  | .flitReceive link bytes => decide (link < 48) && (bytes.length == 256)
  | .replayTimeout link => decide (link < 48)
  | .haltFlit link bytes => decide (link < 48) && (bytes.length == 256)
  | .linkSignalDetect link => decide (link < 48)
  | .linkNosignal link => decide (link < 48)
  | .equaliseDone link => decide (link < 48)
  | .alignDone link => decide (link < 48)
  | .trainTimeout link => decide (link < 48)
  | .exchange link farPort farSlot _ _ => decide (link < 48) && decide (farPort < 12) && decide (farSlot < 4)
  | .retrainEntry link _ => decide (link < 48)
  | .realignDone link => decide (link < 48)
  | .retrainFail link => decide (link < 48)
  | .downTimeout link => decide (link < 48)
  | .putPacket _ => true
  | .getReq _ => true
  | .getData _ => true
  | .accPacket _ => true
  | .signalPacket _ => true
  | .atomicReq _ => true
  | .atomicRsp _ => true
  | .reduceChunk _ => true
  | .permutePacket _ => true
  | .fabricAck _ => true
  | .surveyProbe port _ => decide (port < 12)
  | .failover link slot _ => decide (link < 48) && decide (slot < 4)
  | .fabInfo r _ => r.ok
  | .fabLink r _ => r.ok
  | .fabRoute r _ => r.ok
  | .fabHalt r _ => r.ok
  | .fabInject r _ => r.ok
  | .fabCfg r _ => r.ok
  | .dbgAttach r _ => r.ok
  | .dbgDetach r _ => r.ok
  | .dbgHalt r _ => r.ok
  | .dbgResume r _ => r.ok
  | .dbgStep r _ => r.ok
  | .dbgRead r _ => r.ok
  | .dbgWrite r _ => r.ok
  | .dbgBpSet r _ => r.ok
  | .dbgWpSet r _ => r.ok
  | .dbgKill r _ => r.ok
  | .dbgStatus r _ => r.ok
  | .memInfo r _ => r.ok
  | .memMap r _ => r.ok
  | .memUnmap r _ => r.ok
  | .memHostCopy r _ => r.ok
  | .memPoisonList r _ => r.ok
  | .memThermalCfg r _ => r.ok
  | .memScrubCfg r _ => r.ok
  | .memSharedAlloc r _ => r.ok
  | .memInject r _ => r.ok
  | .spPatrolScrub cluster row => decide (cluster < 640) && decide (row < 524288)
  | .stackPatrolScrub _ => true
  | .stackTempReading stack _ => decide (stack < 48)
  | .sharedUncorrectableRead _ => true
  | .sharedRepairDone slot => decide (slot < 84)
  | .sharedRepairTimeout slot => decide (slot < 84)
  | .syncInfo r _ => r.ok
  | .syncHome r _ => r.ok
  | .syncSet r _ => r.ok
  | .syncSignal r _ => r.ok
  | .syncDump r _ => r.ok
  | .syncBalance r _ => r.ok
  | .numCfg r _ => r.ok
  | .numCensusReg r _ => r.ok
  | .numCensusTag r _ => r.ok
  | .numCensusState r _ => r.ok
  | .numFlags r _ => r.ok
  | .numRecover r _ => r.ok
  | .ctxLoad r _ => r.ok
  | .ctxLaunch r _ => r.ok
  | .ctxClose r _ => r.ok
  | .ctxStatus r _ => r.ok
  | .jobBind r _ => r.ok
  | .jobUnbind r _ => r.ok
  | .stepStatus r _ => r.ok
  | .stepResume r _ => r.ok
  | .shardReg r _ => r.ok
  | .pipeReg r _ => r.ok
  | .pipeStatus r _ => r.ok
  | .reshardStart r _ => r.ok
  | .reshardStatus r _ => r.ok
  | .reshardAbort r _ => r.ok
  | .reshardCopied ctx => decide (0 < ctx)
  | .copied ctx _ => decide (0 < ctx)
  | .reshardCommitted ctx => decide (0 < ctx)
  | .proposeEnter ctx => decide (0 < ctx)
  | .voteOk ctx _ _ => decide (0 < ctx)
  | .voteFail ctx _ _ _ _ _ _ => decide (0 < ctx)
  | .proposeTimeout ctx => decide (0 < ctx)
  | .commitDecision ctx _ _ => decide (0 < ctx)
  | .abortDecision ctx _ => decide (0 < ctx)
  | .decisionTimeout ctx => decide (0 < ctx)
  | .decisionQuery ctx _ _ => decide (0 < ctx)
  | .applyComplete ctx => decide (0 < ctx)
  | .discardComplete ctx => decide (0 < ctx)
  | .discardedReport ctx _ _ _ => decide (0 < ctx)
  | .rerun ctx _ => decide (0 < ctx)
  | .launch ctx _ => decide (0 < ctx)
  | .snapBoundaryCopyDone ctx _ => decide (0 < ctx)
  | .snapWriteDone ctx => decide (0 < ctx)
  | .snapOk ctx _ _ => decide (0 < ctx)
  | .snapCommitted ctx _ => decide (0 < ctx)
  | .riskUpdate => true
  | .riskReport ctx _ risk => decide (0 < ctx) && decide (risk ≤ 65535)
  | .memberHeartbeatMiss ctx _ => decide (0 < ctx)
  | .memberLost ctx _ _ => decide (0 < ctx)
  | .spareBindDone ctx _ _ => decide (0 < ctx)
  | .spareFillDone ctx _ => decide (0 < ctx)
  | .spareRebuildDone ctx _ => decide (0 < ctx)
  | .survCfg r _ => r.ok
  | .snapTensorReg r _ => r.ok
  | .snapTensorUnreg r _ => r.ok
  | .snapNow r _ => r.ok
  | .snapStatus r _ => r.ok
  | .survRisk r _ => r.ok
  | .survSpareAdd r _ => r.ok
  | .survSpareRemove r _ => r.ok
  | .survReport r _ => r.ok
  | .snapExport r _ => r.ok
  | .snapImport r _ => r.ok
  | .survRestore r _ => r.ok
  | .secIdentity r _ => r.ok
  | .secAttest r _ => r.ok
  | .secLcStatus r _ => r.ok
  | .secLcNonce r _ => r.ok
  | .secLcToken r _ => r.ok
  | .secLcRetry r _ => r.ok
  | .secMode r _ => r.ok
  | .secPartCreate r _ => r.ok
  | .secPartDestroy r _ => r.ok
  | .secPartReset r _ => r.ok
  | .secKeyInstall r _ => r.ok
  | .secKeySwitch r _ => r.ok
  | .secKeyErase r _ => r.ok
  | .secSharedSeal r _ => r.ok
  | .secSharedUnseal r _ => r.ok
  | .secSharedStripe r _ => r.ok
  | .secCfg r _ => r.ok
  | .inputAccepted _ _ _ => true
  | .inputDropped _ => true
  | .busLoss => true
  | .pwrEnRise => true
  | .powerUpComplete _ => true
  | .pwrEnFall => true
  | .powerSample _ _ => true
  | .tripCleared => true
  | .droopEvent die => (die.all (fun d => decide (d < 32)))
  | .feedidRead _ _ => true
  | .dieTempReading die _ => decide (die < 32)
  | .coolantReading _ _ _ => true
  | .thermalCriticalTimeout => true
  | .refclkSysLoss => true
  | .refclkLinkLoss => true
  | .refclkHostLoss => true
  | .hostPerstAssert => true
  | .hostPerstDeassert => true
  | .dieIsolate die => decide (die < 32)
  | .unassignedCommand r _ => r.ok
  | .reservedInstruction g => g.ok
  | .refclkLinkReturn => true
  | .refclkHostReturn => true
  | .refclkSysReturn => true
  | .journalRecord ctx _ _ => decide (0 < ctx)
  | .journalRecordAck ctx _ _ _ => decide (0 < ctx)
  | .memoryError _ _ => true

/-- What a command addresses: a ring, a group slot, or neither. -/
inductive Target where
  | ring (r : RingId)
  | group (g : GroupId)
  | other
  deriving DecidableEq, Repr

/-- The target of each command. -/
def Instr.target : Instr → Target
  | .ringEnable r _ => .ring r
  | .ringDisable r _ => .ring r
  | .ringConfigWrite r _ => .ring r
  | .ringBaseWrite r _ _ _ => .ring r
  | .lmbDoorbell r _ => .ring r
  | .bar0LowRead r _ => .ring r
  | .registerWrite r _ _ => .ring r
  | .ringStopComplete r => .ring r
  | .completionDeferred r => .ring r
  | .commandTimeout r _ _ => .ring r
  | .functionLevelReset r => .ring r
  | .nop r _ => .ring r
  | .identify r _ => .ring r
  | .fwStage r _ => .ring r
  | .fwCommit r _ => .ring r
  | .fwActivate r _ => .ring r
  | .eventGet r _ => .ring r
  | .cmdAbort r _ => .ring r
  | .moduleReset r _ => .ring r
  | .surveyStart r _ => .ring r
  | .surveyStatus r _ => .ring r
  | .detach r _ => .ring r
  | .attach r _ => .ring r
  | .lanternSwitch r _ => .ring r
  | .surveyAccept r _ => .ring r
  | .tlmList r _ => .ring r
  | .tlmRead r _ => .ring r
  | .tlmSampleCfg r _ => .ring r
  | .telemetrySample => .other
  | .loadWindow _ _ => .other
  | .lanternHeartbeatMiss => .other
  | .bootComplete => .other
  | .bootWatchdog => .other
  | .enum _ => .other
  | .healthReq _ => .other
  | .powerOn _ => .other
  | .powerOff _ => .other
  | .stop _ => .other
  | .reset _ => .other
  | .recovery _ => .other
  | .rescueData _ => .other
  | .chainFrameOther _ => .other
  | .mov g => .group g
  | .add g => .group g
  | .sub g => .group g
  | .mul g => .group g
  | .mulhi g => .group g
  | .mad g => .group g
  | .min g => .group g
  | .max g => .group g
  | .and g => .group g
  | .or g => .group g
  | .xor g => .group g
  | .shl g => .group g
  | .shr g => .group g
  | .sar g => .group g
  | .popc g => .group g
  | .clz g => .group g
  | .sel g => .group g
  | .rdlane g => .group g
  | .sreg g => .group g
  | .fadd g => .group g
  | .fsub g => .group g
  | .fmul g => .group g
  | .ffma g => .group g
  | .fmin g => .group g
  | .fmax g => .group g
  | .fabs g => .group g
  | .fneg g => .group g
  | .rcp g => .group g
  | .rsq g => .group g
  | .sqrt g => .group g
  | .exp2 g => .group g
  | .log2 g => .group g
  | .cvtRne g => .group g
  | .cvtRtz g => .group g
  | .cvtSr g => .group g
  | .isetp g => .group g
  | .fsetp g => .group g
  | .pand g => .group g
  | .por g => .group g
  | .pxor g => .group g
  | .pnot g => .group g
  | .ballot g => .group g
  | .bra g => .group g
  | .brx g => .group g
  | .call g => .group g
  | .ret g => .group g
  | .exit g => .group g
  | .conv g => .group g
  | .forcedRelease g => .group g
  | .bar g => .group g
  | .barrierStarved _ _ _ => .other
  | .actmask g => .group g
  | .virdyNop g => .group g
  | .ld g => .group g
  | .loadReturn g _ => .group g
  | .st g => .group g
  | .fence g => .group g
  | .dma g => .group g
  | .dmaStart _ => .other
  | .atomAdd g => .group g
  | .atomMin g => .group g
  | .atomMax g => .group g
  | .atomAnd g => .group g
  | .atomOr g => .group g
  | .atomXor g => .group g
  | .atomXchg g => .group g
  | .atomCas g => .group g
  | .mcfg g => .group g
  | .mload g => .group g
  | .mmul g => .group g
  | .mfill g => .group g
  | .madapt g => .group g
  | .mdrain g => .group g
  | .matrixDequeue _ => .other
  | .fillTimeout _ _ => .other
  | .mdrainReadStart _ _ => .other
  | .shadowRecompute _ => .other
  | .streamIssue g => .group g
  | .streamDescriptorRead _ => .other
  | .streamCommandStart _ => .other
  | .engineCompletion _ _ => .other
  | .sigAdd g => .group g
  | .sigSet g => .group g
  | .waitGe g => .group g
  | .waitTake g => .group g
  | .signalApply _ => .other
  | .waitArrive _ => .other
  | .waitRepresent _ => .other
  | .queuedWaitHead _ _ => .other
  | .put g => .group g
  | .get g => .group g
  | .acc g => .group g
  | .coll g => .group g
  | .collectiveStart _ _ _ => .other
  | .flagrd g => .group g
  | .flagclr g => .group g
  | .scrd g => .group g
  | .scwr g => .group g
  | .brk g => .group g
  | .sendQueueSend _ => .other
  | .ackTimeout _ _ _ => .other
  | .flitReceive _ _ => .other
  | .replayTimeout _ => .other
  | .haltFlit _ _ => .other
  | .linkSignalDetect _ => .other
  | .linkNosignal _ => .other
  | .equaliseDone _ => .other
  | .alignDone _ => .other
  | .trainTimeout _ => .other
  | .exchange _ _ _ _ _ => .other
  | .retrainEntry _ _ => .other
  | .realignDone _ => .other
  | .retrainFail _ => .other
  | .downTimeout _ => .other
  | .putPacket _ => .other
  | .getReq _ => .other
  | .getData _ => .other
  | .accPacket _ => .other
  | .signalPacket _ => .other
  | .atomicReq _ => .other
  | .atomicRsp _ => .other
  | .reduceChunk _ => .other
  | .permutePacket _ => .other
  | .fabricAck _ => .other
  | .surveyProbe _ _ => .other
  | .failover _ _ _ => .other
  | .fabInfo r _ => .ring r
  | .fabLink r _ => .ring r
  | .fabRoute r _ => .ring r
  | .fabHalt r _ => .ring r
  | .fabInject r _ => .ring r
  | .fabCfg r _ => .ring r
  | .dbgAttach r _ => .ring r
  | .dbgDetach r _ => .ring r
  | .dbgHalt r _ => .ring r
  | .dbgResume r _ => .ring r
  | .dbgStep r _ => .ring r
  | .dbgRead r _ => .ring r
  | .dbgWrite r _ => .ring r
  | .dbgBpSet r _ => .ring r
  | .dbgWpSet r _ => .ring r
  | .dbgKill r _ => .ring r
  | .dbgStatus r _ => .ring r
  | .memInfo r _ => .ring r
  | .memMap r _ => .ring r
  | .memUnmap r _ => .ring r
  | .memHostCopy r _ => .ring r
  | .memPoisonList r _ => .ring r
  | .memThermalCfg r _ => .ring r
  | .memScrubCfg r _ => .ring r
  | .memSharedAlloc r _ => .ring r
  | .memInject r _ => .ring r
  | .spPatrolScrub _ _ => .other
  | .stackPatrolScrub _ => .other
  | .stackTempReading _ _ => .other
  | .sharedUncorrectableRead _ => .other
  | .sharedRepairDone _ => .other
  | .sharedRepairTimeout _ => .other
  | .syncInfo r _ => .ring r
  | .syncHome r _ => .ring r
  | .syncSet r _ => .ring r
  | .syncSignal r _ => .ring r
  | .syncDump r _ => .ring r
  | .syncBalance r _ => .ring r
  | .numCfg r _ => .ring r
  | .numCensusReg r _ => .ring r
  | .numCensusTag r _ => .ring r
  | .numCensusState r _ => .ring r
  | .numFlags r _ => .ring r
  | .numRecover r _ => .ring r
  | .ctxLoad r _ => .ring r
  | .ctxLaunch r _ => .ring r
  | .ctxClose r _ => .ring r
  | .ctxStatus r _ => .ring r
  | .jobBind r _ => .ring r
  | .jobUnbind r _ => .ring r
  | .stepStatus r _ => .ring r
  | .stepResume r _ => .ring r
  | .shardReg r _ => .ring r
  | .pipeReg r _ => .ring r
  | .pipeStatus r _ => .ring r
  | .reshardStart r _ => .ring r
  | .reshardStatus r _ => .ring r
  | .reshardAbort r _ => .ring r
  | .reshardCopied _ => .other
  | .copied _ _ => .other
  | .reshardCommitted _ => .other
  | .proposeEnter _ => .other
  | .voteOk _ _ _ => .other
  | .voteFail _ _ _ _ _ _ _ => .other
  | .proposeTimeout _ => .other
  | .commitDecision _ _ _ => .other
  | .abortDecision _ _ => .other
  | .decisionTimeout _ => .other
  | .decisionQuery _ _ _ => .other
  | .applyComplete _ => .other
  | .discardComplete _ => .other
  | .discardedReport _ _ _ _ => .other
  | .rerun _ _ => .other
  | .launch _ _ => .other
  | .snapBoundaryCopyDone _ _ => .other
  | .snapWriteDone _ => .other
  | .snapOk _ _ _ => .other
  | .snapCommitted _ _ => .other
  | .riskUpdate => .other
  | .riskReport _ _ _ => .other
  | .memberHeartbeatMiss _ _ => .other
  | .memberLost _ _ _ => .other
  | .spareBindDone _ _ _ => .other
  | .spareFillDone _ _ => .other
  | .spareRebuildDone _ _ => .other
  | .survCfg r _ => .ring r
  | .snapTensorReg r _ => .ring r
  | .snapTensorUnreg r _ => .ring r
  | .snapNow r _ => .ring r
  | .snapStatus r _ => .ring r
  | .survRisk r _ => .ring r
  | .survSpareAdd r _ => .ring r
  | .survSpareRemove r _ => .ring r
  | .survReport r _ => .ring r
  | .snapExport r _ => .ring r
  | .snapImport r _ => .ring r
  | .survRestore r _ => .ring r
  | .secIdentity r _ => .ring r
  | .secAttest r _ => .ring r
  | .secLcStatus r _ => .ring r
  | .secLcNonce r _ => .ring r
  | .secLcToken r _ => .ring r
  | .secLcRetry r _ => .ring r
  | .secMode r _ => .ring r
  | .secPartCreate r _ => .ring r
  | .secPartDestroy r _ => .ring r
  | .secPartReset r _ => .ring r
  | .secKeyInstall r _ => .ring r
  | .secKeySwitch r _ => .ring r
  | .secKeyErase r _ => .ring r
  | .secSharedSeal r _ => .ring r
  | .secSharedUnseal r _ => .ring r
  | .secSharedStripe r _ => .ring r
  | .secCfg r _ => .ring r
  | .inputAccepted _ _ _ => .other
  | .inputDropped _ => .other
  | .busLoss => .other
  | .pwrEnRise => .other
  | .powerUpComplete _ => .other
  | .pwrEnFall => .other
  | .powerSample _ _ => .other
  | .tripCleared => .other
  | .droopEvent _ => .other
  | .feedidRead _ _ => .other
  | .dieTempReading _ _ => .other
  | .coolantReading _ _ _ => .other
  | .thermalCriticalTimeout => .other
  | .refclkSysLoss => .other
  | .refclkLinkLoss => .other
  | .refclkHostLoss => .other
  | .hostPerstAssert => .other
  | .hostPerstDeassert => .other
  | .dieIsolate _ => .other
  | .unassignedCommand r _ => .ring r
  | .reservedInstruction g => .group g
  | .refclkLinkReturn => .other
  | .refclkHostReturn => .other
  | .refclkSysReturn => .other
  | .journalRecord _ _ _ => .other
  | .journalRecordAck _ _ _ _ => .other
  | .memoryError _ _ => .other

end Sys2Proof
end

