-- ==== Sys2Proof/Laws/PerInstr.lean ====
section
/-! SUPPORT. A statement made per command: a well-formed command addresses only rings and group slots the module has. -/

namespace Sys2Proof.Laws.Addresses

open Sys2Proof

/-- The 14 rings (R36) and the 40,960 group slots (R19, R21). -/
def Exists : Target → Prop
  | .ring r => Machine.ringKey r < 14
  | .group g => Machine.groupKey g < 40960
  | .other => True

/-- A well-formed command names only what exists. -/
def Statement (i : Instr) : Prop := i.wf = true → Exists i.target

theorem ring_exists (r : RingId) (h : r.ok = true) : Exists (.ring r) := by
  cases r with | mk p n => cases p <;> simp_all [RingId.ok, Exists, Machine.ringKey, Machine.portKey] <;> omega

theorem group_exists (g : GroupId) (h : g.ok = true) : Exists (.group g) := by
  simp [GroupId.ok] at h; simp [Exists, Machine.groupKey]; omega

theorem ringEnable (r : RingId) (value : BitVec 32) : Statement (.ringEnable r value) := fun h => ring_exists r h
theorem ringDisable (r : RingId) (value : BitVec 32) : Statement (.ringDisable r value) := fun h => ring_exists r h
theorem ringConfigWrite (r : RingId) (value : BitVec 32) : Statement (.ringConfigWrite r value) := fun h => ring_exists r h
theorem ringBaseWrite (r : RingId) (off : Nat) (wide : Bool) (value : BitVec 64) : Statement (.ringBaseWrite r off wide value) := fun h => ring_exists r (by simp [Instr.wf] at h; simp [h])
theorem lmbDoorbell (r : RingId) (value : BitVec 32) : Statement (.lmbDoorbell r value) := fun h => ring_exists r h
theorem bar0LowRead (r : RingId) (off : Nat) : Statement (.bar0LowRead r off) := fun h => ring_exists r (by simp [Instr.wf] at h; simp [h])
theorem registerWrite (r : RingId) (off : Nat) (value : BitVec 32) : Statement (.registerWrite r off value) := fun h => ring_exists r (by simp [Instr.wf] at h; simp [h])
theorem ringStopComplete (r : RingId) : Statement (.ringStopComplete r) := fun h => ring_exists r h
theorem completionDeferred (r : RingId) : Statement (.completionDeferred r) := fun h => ring_exists r h
theorem commandTimeout (r : RingId) (tag : BitVec 16) (elapsedMs : Nat) : Statement (.commandTimeout r tag elapsedMs) := fun h => ring_exists r h
theorem functionLevelReset (r : RingId) : Statement (.functionLevelReset r) := fun h => ring_exists r h
theorem nop (r : RingId) (tag : BitVec 16) : Statement (.nop r tag) := fun h => ring_exists r h
theorem identify (r : RingId) (tag : BitVec 16) : Statement (.identify r tag) := fun h => ring_exists r h
theorem fwStage (r : RingId) (tag : BitVec 16) : Statement (.fwStage r tag) := fun h => ring_exists r h
theorem fwCommit (r : RingId) (tag : BitVec 16) : Statement (.fwCommit r tag) := fun h => ring_exists r h
theorem fwActivate (r : RingId) (tag : BitVec 16) : Statement (.fwActivate r tag) := fun h => ring_exists r h
theorem eventGet (r : RingId) (tag : BitVec 16) : Statement (.eventGet r tag) := fun h => ring_exists r h
theorem cmdAbort (r : RingId) (tag : BitVec 16) : Statement (.cmdAbort r tag) := fun h => ring_exists r h
theorem moduleReset (r : RingId) (tag : BitVec 16) : Statement (.moduleReset r tag) := fun h => ring_exists r h
theorem surveyStart (r : RingId) (tag : BitVec 16) : Statement (.surveyStart r tag) := fun h => ring_exists r h
theorem surveyStatus (r : RingId) (tag : BitVec 16) : Statement (.surveyStatus r tag) := fun h => ring_exists r h
theorem detach (r : RingId) (tag : BitVec 16) : Statement (.detach r tag) := fun h => ring_exists r h
theorem attach (r : RingId) (tag : BitVec 16) : Statement (.attach r tag) := fun h => ring_exists r h
theorem lanternSwitch (r : RingId) (tag : BitVec 16) : Statement (.lanternSwitch r tag) := fun h => ring_exists r h
theorem surveyAccept (r : RingId) (tag : BitVec 16) : Statement (.surveyAccept r tag) := fun h => ring_exists r h
theorem tlmList (r : RingId) (tag : BitVec 16) : Statement (.tlmList r tag) := fun h => ring_exists r h
theorem tlmRead (r : RingId) (tag : BitVec 16) : Statement (.tlmRead r tag) := fun h => ring_exists r h
theorem tlmSampleCfg (r : RingId) (tag : BitVec 16) : Statement (.tlmSampleCfg r tag) := fun h => ring_exists r h
theorem telemetrySample : Statement (.telemetrySample) := fun _ => trivial
theorem loadWindow (load : Nat) (classes : List Nat) : Statement (.loadWindow load classes) := fun _ => trivial
theorem lanternHeartbeatMiss : Statement (.lanternHeartbeatMiss) := fun _ => trivial
theorem bootComplete : Statement (.bootComplete) := fun _ => trivial
theorem bootWatchdog : Statement (.bootWatchdog) := fun _ => trivial
theorem enum (f : ChainFrame) : Statement (.enum f) := fun _ => trivial
theorem healthReq (f : ChainFrame) : Statement (.healthReq f) := fun _ => trivial
theorem powerOn (f : ChainFrame) : Statement (.powerOn f) := fun _ => trivial
theorem powerOff (f : ChainFrame) : Statement (.powerOff f) := fun _ => trivial
theorem stop (f : ChainFrame) : Statement (.stop f) := fun _ => trivial
theorem reset (f : ChainFrame) : Statement (.reset f) := fun _ => trivial
theorem recovery (f : ChainFrame) : Statement (.recovery f) := fun _ => trivial
theorem rescueData (f : ChainFrame) : Statement (.rescueData f) := fun _ => trivial
theorem chainFrameOther (f : ChainFrame) : Statement (.chainFrameOther f) := fun _ => trivial
theorem mov (g : GroupId) : Statement (.mov g) := fun h => group_exists g h
theorem add (g : GroupId) : Statement (.add g) := fun h => group_exists g h
theorem sub (g : GroupId) : Statement (.sub g) := fun h => group_exists g h
theorem mul (g : GroupId) : Statement (.mul g) := fun h => group_exists g h
theorem mulhi (g : GroupId) : Statement (.mulhi g) := fun h => group_exists g h
theorem mad (g : GroupId) : Statement (.mad g) := fun h => group_exists g h
theorem min (g : GroupId) : Statement (.min g) := fun h => group_exists g h
theorem max (g : GroupId) : Statement (.max g) := fun h => group_exists g h
theorem and (g : GroupId) : Statement (.and g) := fun h => group_exists g h
theorem or (g : GroupId) : Statement (.or g) := fun h => group_exists g h
theorem xor (g : GroupId) : Statement (.xor g) := fun h => group_exists g h
theorem shl (g : GroupId) : Statement (.shl g) := fun h => group_exists g h
theorem shr (g : GroupId) : Statement (.shr g) := fun h => group_exists g h
theorem sar (g : GroupId) : Statement (.sar g) := fun h => group_exists g h
theorem popc (g : GroupId) : Statement (.popc g) := fun h => group_exists g h
theorem clz (g : GroupId) : Statement (.clz g) := fun h => group_exists g h
theorem sel (g : GroupId) : Statement (.sel g) := fun h => group_exists g h
theorem rdlane (g : GroupId) : Statement (.rdlane g) := fun h => group_exists g h
theorem sreg (g : GroupId) : Statement (.sreg g) := fun h => group_exists g h
theorem fadd (g : GroupId) : Statement (.fadd g) := fun h => group_exists g h
theorem fsub (g : GroupId) : Statement (.fsub g) := fun h => group_exists g h
theorem fmul (g : GroupId) : Statement (.fmul g) := fun h => group_exists g h
theorem ffma (g : GroupId) : Statement (.ffma g) := fun h => group_exists g h
theorem fmin (g : GroupId) : Statement (.fmin g) := fun h => group_exists g h
theorem fmax (g : GroupId) : Statement (.fmax g) := fun h => group_exists g h
theorem fabs (g : GroupId) : Statement (.fabs g) := fun h => group_exists g h
theorem fneg (g : GroupId) : Statement (.fneg g) := fun h => group_exists g h
theorem rcp (g : GroupId) : Statement (.rcp g) := fun h => group_exists g h
theorem rsq (g : GroupId) : Statement (.rsq g) := fun h => group_exists g h
theorem sqrt (g : GroupId) : Statement (.sqrt g) := fun h => group_exists g h
theorem exp2 (g : GroupId) : Statement (.exp2 g) := fun h => group_exists g h
theorem log2 (g : GroupId) : Statement (.log2 g) := fun h => group_exists g h
theorem cvtRne (g : GroupId) : Statement (.cvtRne g) := fun h => group_exists g h
theorem cvtRtz (g : GroupId) : Statement (.cvtRtz g) := fun h => group_exists g h
theorem cvtSr (g : GroupId) : Statement (.cvtSr g) := fun h => group_exists g h
theorem isetp (g : GroupId) : Statement (.isetp g) := fun h => group_exists g h
theorem fsetp (g : GroupId) : Statement (.fsetp g) := fun h => group_exists g h
theorem pand (g : GroupId) : Statement (.pand g) := fun h => group_exists g h
theorem por (g : GroupId) : Statement (.por g) := fun h => group_exists g h
theorem pxor (g : GroupId) : Statement (.pxor g) := fun h => group_exists g h
theorem pnot (g : GroupId) : Statement (.pnot g) := fun h => group_exists g h
theorem ballot (g : GroupId) : Statement (.ballot g) := fun h => group_exists g h
theorem bra (g : GroupId) : Statement (.bra g) := fun h => group_exists g h
theorem brx (g : GroupId) : Statement (.brx g) := fun h => group_exists g h
theorem call (g : GroupId) : Statement (.call g) := fun h => group_exists g h
theorem ret (g : GroupId) : Statement (.ret g) := fun h => group_exists g h
theorem exit (g : GroupId) : Statement (.exit g) := fun h => group_exists g h
theorem conv (g : GroupId) : Statement (.conv g) := fun h => group_exists g h
theorem forcedRelease (g : GroupId) : Statement (.forcedRelease g) := fun h => group_exists g h
theorem bar (g : GroupId) : Statement (.bar g) := fun h => group_exists g h
theorem barrierStarved (cluster : Nat) (block : Nat) (barrier : Nat) : Statement (.barrierStarved cluster block barrier) := fun _ => trivial
theorem actmask (g : GroupId) : Statement (.actmask g) := fun h => group_exists g h
theorem virdyNop (g : GroupId) : Statement (.virdyNop g) := fun h => group_exists g h
theorem ld (g : GroupId) : Statement (.ld g) := fun h => group_exists g h
theorem loadReturn (g : GroupId) (n : Nat) : Statement (.loadReturn g n) := fun h => group_exists g h
theorem st (g : GroupId) : Statement (.st g) := fun h => group_exists g h
theorem fence (g : GroupId) : Statement (.fence g) := fun h => group_exists g h
theorem dma (g : GroupId) : Statement (.dma g) := fun h => group_exists g h
theorem dmaStart (cluster : Nat) : Statement (.dmaStart cluster) := fun _ => trivial
theorem atomAdd (g : GroupId) : Statement (.atomAdd g) := fun h => group_exists g h
theorem atomMin (g : GroupId) : Statement (.atomMin g) := fun h => group_exists g h
theorem atomMax (g : GroupId) : Statement (.atomMax g) := fun h => group_exists g h
theorem atomAnd (g : GroupId) : Statement (.atomAnd g) := fun h => group_exists g h
theorem atomOr (g : GroupId) : Statement (.atomOr g) := fun h => group_exists g h
theorem atomXor (g : GroupId) : Statement (.atomXor g) := fun h => group_exists g h
theorem atomXchg (g : GroupId) : Statement (.atomXchg g) := fun h => group_exists g h
theorem atomCas (g : GroupId) : Statement (.atomCas g) := fun h => group_exists g h
theorem mcfg (g : GroupId) : Statement (.mcfg g) := fun h => group_exists g h
theorem mload (g : GroupId) : Statement (.mload g) := fun h => group_exists g h
theorem mmul (g : GroupId) : Statement (.mmul g) := fun h => group_exists g h
theorem mfill (g : GroupId) : Statement (.mfill g) := fun h => group_exists g h
theorem madapt (g : GroupId) : Statement (.madapt g) := fun h => group_exists g h
theorem mdrain (g : GroupId) : Statement (.mdrain g) := fun h => group_exists g h
theorem matrixDequeue (cluster : Nat) : Statement (.matrixDequeue cluster) := fun _ => trivial
theorem fillTimeout (cluster : Nat) (n : Nat) : Statement (.fillTimeout cluster n) := fun _ => trivial
theorem mdrainReadStart (cluster : Nat) (n : Nat) : Statement (.mdrainReadStart cluster n) := fun _ => trivial
theorem shadowRecompute (cluster : Nat) : Statement (.shadowRecompute cluster) := fun _ => trivial
theorem streamIssue (g : GroupId) : Statement (.streamIssue g) := fun h => group_exists g h
theorem streamDescriptorRead (cluster : Nat) : Statement (.streamDescriptorRead cluster) := fun _ => trivial
theorem streamCommandStart (cluster : Nat) : Statement (.streamCommandStart cluster) := fun _ => trivial
theorem engineCompletion (cluster : Nat) (e : Engine) : Statement (.engineCompletion cluster e) := fun _ => trivial
theorem sigAdd (g : GroupId) : Statement (.sigAdd g) := fun h => group_exists g h
theorem sigSet (g : GroupId) : Statement (.sigSet g) := fun h => group_exists g h
theorem waitGe (g : GroupId) : Statement (.waitGe g) := fun h => group_exists g h
theorem waitTake (g : GroupId) : Statement (.waitTake g) := fun h => group_exists g h
theorem signalApply (n : Nat) : Statement (.signalApply n) := fun _ => trivial
theorem waitArrive (n : Nat) : Statement (.waitArrive n) := fun _ => trivial
theorem waitRepresent (n : Nat) : Statement (.waitRepresent n) := fun _ => trivial
theorem queuedWaitHead (cluster : Nat) (q : WaitQueue) : Statement (.queuedWaitHead cluster q) := fun _ => trivial
theorem put (g : GroupId) : Statement (.put g) := fun h => group_exists g h
theorem get (g : GroupId) : Statement (.get g) := fun h => group_exists g h
theorem acc (g : GroupId) : Statement (.acc g) := fun h => group_exists g h
theorem coll (g : GroupId) : Statement (.coll g) := fun h => group_exists g h
theorem collectiveStart (ctx : Nat) (axes : Nat) (number : Nat) : Statement (.collectiveStart ctx axes number) := fun _ => trivial
theorem flagrd (g : GroupId) : Statement (.flagrd g) := fun h => group_exists g h
theorem flagclr (g : GroupId) : Statement (.flagclr g) := fun h => group_exists g h
theorem scrd (g : GroupId) : Statement (.scrd g) := fun h => group_exists g h
theorem scwr (g : GroupId) : Statement (.scwr g) := fun h => group_exists g h
theorem brk (g : GroupId) : Statement (.brk g) := fun h => group_exists g h
theorem sendQueueSend (cluster : Nat) : Statement (.sendQueueSend cluster) := fun _ => trivial
theorem ackTimeout (cluster : Nat) (msg : Nat) (pkt : Nat) : Statement (.ackTimeout cluster msg pkt) := fun _ => trivial
theorem flitReceive (link : Nat) (bytes : List Byte) : Statement (.flitReceive link bytes) := fun _ => trivial
theorem replayTimeout (link : Nat) : Statement (.replayTimeout link) := fun _ => trivial
theorem haltFlit (link : Nat) (bytes : List Byte) : Statement (.haltFlit link bytes) := fun _ => trivial
theorem linkSignalDetect (link : Nat) : Statement (.linkSignalDetect link) := fun _ => trivial
theorem linkNosignal (link : Nat) : Statement (.linkNosignal link) := fun _ => trivial
theorem equaliseDone (link : Nat) : Statement (.equaliseDone link) := fun _ => trivial
theorem alignDone (link : Nat) : Statement (.alignDone link) := fun _ => trivial
theorem trainTimeout (link : Nat) : Statement (.trainTimeout link) := fun _ => trivial
theorem exchange (link : Nat) (farPort : Nat) (farSlot : Nat) (farFabric : BitVec 64) (farSealed : Bool) : Statement (.exchange link farPort farSlot farFabric farSealed) := fun _ => trivial
theorem retrainEntry (link : Nat) (cause : RetrainCause) : Statement (.retrainEntry link cause) := fun _ => trivial
theorem realignDone (link : Nat) : Statement (.realignDone link) := fun _ => trivial
theorem retrainFail (link : Nat) : Statement (.retrainFail link) := fun _ => trivial
theorem downTimeout (link : Nat) : Statement (.downTimeout link) := fun _ => trivial
theorem putPacket (n : Nat) : Statement (.putPacket n) := fun _ => trivial
theorem getReq (n : Nat) : Statement (.getReq n) := fun _ => trivial
theorem getData (n : Nat) : Statement (.getData n) := fun _ => trivial
theorem accPacket (n : Nat) : Statement (.accPacket n) := fun _ => trivial
theorem signalPacket (n : Nat) : Statement (.signalPacket n) := fun _ => trivial
theorem atomicReq (n : Nat) : Statement (.atomicReq n) := fun _ => trivial
theorem atomicRsp (n : Nat) : Statement (.atomicRsp n) := fun _ => trivial
theorem reduceChunk (n : Nat) : Statement (.reduceChunk n) := fun _ => trivial
theorem permutePacket (n : Nat) : Statement (.permutePacket n) := fun _ => trivial
theorem fabricAck (n : Nat) : Statement (.fabricAck n) := fun _ => trivial
theorem surveyProbe (port : Nat) (probe : SurveyProbe) : Statement (.surveyProbe port probe) := fun _ => trivial
theorem failover (link : Nat) (slot : Nat) (lastSeq : Nat) : Statement (.failover link slot lastSeq) := fun _ => trivial
theorem fabInfo (r : RingId) (tag : BitVec 16) : Statement (.fabInfo r tag) := fun h => ring_exists r h
theorem fabLink (r : RingId) (tag : BitVec 16) : Statement (.fabLink r tag) := fun h => ring_exists r h
theorem fabRoute (r : RingId) (tag : BitVec 16) : Statement (.fabRoute r tag) := fun h => ring_exists r h
theorem fabHalt (r : RingId) (tag : BitVec 16) : Statement (.fabHalt r tag) := fun h => ring_exists r h
theorem fabInject (r : RingId) (tag : BitVec 16) : Statement (.fabInject r tag) := fun h => ring_exists r h
theorem fabCfg (r : RingId) (tag : BitVec 16) : Statement (.fabCfg r tag) := fun h => ring_exists r h
theorem dbgAttach (r : RingId) (tag : BitVec 16) : Statement (.dbgAttach r tag) := fun h => ring_exists r h
theorem dbgDetach (r : RingId) (tag : BitVec 16) : Statement (.dbgDetach r tag) := fun h => ring_exists r h
theorem dbgHalt (r : RingId) (tag : BitVec 16) : Statement (.dbgHalt r tag) := fun h => ring_exists r h
theorem dbgResume (r : RingId) (tag : BitVec 16) : Statement (.dbgResume r tag) := fun h => ring_exists r h
theorem dbgStep (r : RingId) (tag : BitVec 16) : Statement (.dbgStep r tag) := fun h => ring_exists r h
theorem dbgRead (r : RingId) (tag : BitVec 16) : Statement (.dbgRead r tag) := fun h => ring_exists r h
theorem dbgWrite (r : RingId) (tag : BitVec 16) : Statement (.dbgWrite r tag) := fun h => ring_exists r h
theorem dbgBpSet (r : RingId) (tag : BitVec 16) : Statement (.dbgBpSet r tag) := fun h => ring_exists r h
theorem dbgWpSet (r : RingId) (tag : BitVec 16) : Statement (.dbgWpSet r tag) := fun h => ring_exists r h
theorem dbgKill (r : RingId) (tag : BitVec 16) : Statement (.dbgKill r tag) := fun h => ring_exists r h
theorem dbgStatus (r : RingId) (tag : BitVec 16) : Statement (.dbgStatus r tag) := fun h => ring_exists r h
theorem memInfo (r : RingId) (tag : BitVec 16) : Statement (.memInfo r tag) := fun h => ring_exists r h
theorem memMap (r : RingId) (tag : BitVec 16) : Statement (.memMap r tag) := fun h => ring_exists r h
theorem memUnmap (r : RingId) (tag : BitVec 16) : Statement (.memUnmap r tag) := fun h => ring_exists r h
theorem memHostCopy (r : RingId) (tag : BitVec 16) : Statement (.memHostCopy r tag) := fun h => ring_exists r h
theorem memPoisonList (r : RingId) (tag : BitVec 16) : Statement (.memPoisonList r tag) := fun h => ring_exists r h
theorem memThermalCfg (r : RingId) (tag : BitVec 16) : Statement (.memThermalCfg r tag) := fun h => ring_exists r h
theorem memScrubCfg (r : RingId) (tag : BitVec 16) : Statement (.memScrubCfg r tag) := fun h => ring_exists r h
theorem memSharedAlloc (r : RingId) (tag : BitVec 16) : Statement (.memSharedAlloc r tag) := fun h => ring_exists r h
theorem memInject (r : RingId) (tag : BitVec 16) : Statement (.memInject r tag) := fun h => ring_exists r h
theorem spPatrolScrub (cluster : Nat) (row : Nat) : Statement (.spPatrolScrub cluster row) := fun _ => trivial
theorem stackPatrolScrub (addr : Nat) : Statement (.stackPatrolScrub addr) := fun _ => trivial
theorem stackTempReading (stack : Nat) (celsius : Int) : Statement (.stackTempReading stack celsius) := fun _ => trivial
theorem sharedUncorrectableRead (addr : Nat) : Statement (.sharedUncorrectableRead addr) := fun _ => trivial
theorem sharedRepairDone (slot : Nat) : Statement (.sharedRepairDone slot) := fun _ => trivial
theorem sharedRepairTimeout (slot : Nat) : Statement (.sharedRepairTimeout slot) := fun _ => trivial
theorem syncInfo (r : RingId) (tag : BitVec 16) : Statement (.syncInfo r tag) := fun h => ring_exists r h
theorem syncHome (r : RingId) (tag : BitVec 16) : Statement (.syncHome r tag) := fun h => ring_exists r h
theorem syncSet (r : RingId) (tag : BitVec 16) : Statement (.syncSet r tag) := fun h => ring_exists r h
theorem syncSignal (r : RingId) (tag : BitVec 16) : Statement (.syncSignal r tag) := fun h => ring_exists r h
theorem syncDump (r : RingId) (tag : BitVec 16) : Statement (.syncDump r tag) := fun h => ring_exists r h
theorem syncBalance (r : RingId) (tag : BitVec 16) : Statement (.syncBalance r tag) := fun h => ring_exists r h
theorem numCfg (r : RingId) (tag : BitVec 16) : Statement (.numCfg r tag) := fun h => ring_exists r h
theorem numCensusReg (r : RingId) (tag : BitVec 16) : Statement (.numCensusReg r tag) := fun h => ring_exists r h
theorem numCensusTag (r : RingId) (tag : BitVec 16) : Statement (.numCensusTag r tag) := fun h => ring_exists r h
theorem numCensusState (r : RingId) (tag : BitVec 16) : Statement (.numCensusState r tag) := fun h => ring_exists r h
theorem numFlags (r : RingId) (tag : BitVec 16) : Statement (.numFlags r tag) := fun h => ring_exists r h
theorem numRecover (r : RingId) (tag : BitVec 16) : Statement (.numRecover r tag) := fun h => ring_exists r h
theorem ctxLoad (r : RingId) (tag : BitVec 16) : Statement (.ctxLoad r tag) := fun h => ring_exists r h
theorem ctxLaunch (r : RingId) (tag : BitVec 16) : Statement (.ctxLaunch r tag) := fun h => ring_exists r h
theorem ctxClose (r : RingId) (tag : BitVec 16) : Statement (.ctxClose r tag) := fun h => ring_exists r h
theorem ctxStatus (r : RingId) (tag : BitVec 16) : Statement (.ctxStatus r tag) := fun h => ring_exists r h
theorem jobBind (r : RingId) (tag : BitVec 16) : Statement (.jobBind r tag) := fun h => ring_exists r h
theorem jobUnbind (r : RingId) (tag : BitVec 16) : Statement (.jobUnbind r tag) := fun h => ring_exists r h
theorem stepStatus (r : RingId) (tag : BitVec 16) : Statement (.stepStatus r tag) := fun h => ring_exists r h
theorem stepResume (r : RingId) (tag : BitVec 16) : Statement (.stepResume r tag) := fun h => ring_exists r h
theorem shardReg (r : RingId) (tag : BitVec 16) : Statement (.shardReg r tag) := fun h => ring_exists r h
theorem pipeReg (r : RingId) (tag : BitVec 16) : Statement (.pipeReg r tag) := fun h => ring_exists r h
theorem pipeStatus (r : RingId) (tag : BitVec 16) : Statement (.pipeStatus r tag) := fun h => ring_exists r h
theorem reshardStart (r : RingId) (tag : BitVec 16) : Statement (.reshardStart r tag) := fun h => ring_exists r h
theorem reshardStatus (r : RingId) (tag : BitVec 16) : Statement (.reshardStatus r tag) := fun h => ring_exists r h
theorem reshardAbort (r : RingId) (tag : BitVec 16) : Statement (.reshardAbort r tag) := fun h => ring_exists r h
theorem reshardCopied (ctx : Nat) : Statement (.reshardCopied ctx) := fun _ => trivial
theorem copied (ctx : Nat) (rank : Nat) : Statement (.copied ctx rank) := fun _ => trivial
theorem reshardCommitted (ctx : Nat) : Statement (.reshardCommitted ctx) := fun _ => trivial
theorem proposeEnter (ctx : Nat) : Statement (.proposeEnter ctx) := fun _ => trivial
theorem voteOk (ctx : Nat) (child : Nat) (epoch : Nat) : Statement (.voteOk ctx child epoch) := fun _ => trivial
theorem voteFail (ctx : Nat) (child : Nat) (epoch : Nat) (cause : Nat) (fabricId : Nat) (site : Nat) (trap : Nat) : Statement (.voteFail ctx child epoch cause fabricId site trap) := fun _ => trivial
theorem proposeTimeout (ctx : Nat) : Statement (.proposeTimeout ctx) := fun _ => trivial
theorem commitDecision (ctx : Nat) (epoch : Nat) (snap : Option Nat) : Statement (.commitDecision ctx epoch snap) := fun _ => trivial
theorem abortDecision (ctx : Nat) (epoch : Nat) : Statement (.abortDecision ctx epoch) := fun _ => trivial
theorem decisionTimeout (ctx : Nat) : Statement (.decisionTimeout ctx) := fun _ => trivial
theorem decisionQuery (ctx : Nat) (rank : Nat) (epoch : Nat) : Statement (.decisionQuery ctx rank epoch) := fun _ => trivial
theorem applyComplete (ctx : Nat) : Statement (.applyComplete ctx) := fun _ => trivial
theorem discardComplete (ctx : Nat) : Statement (.discardComplete ctx) := fun _ => trivial
theorem discardedReport (ctx : Nat) (rank : Nat) (epoch : Nat) (lost : Bool) : Statement (.discardedReport ctx rank epoch lost) := fun _ => trivial
theorem rerun (ctx : Nat) (epoch : Nat) : Statement (.rerun ctx epoch) := fun _ => trivial
theorem launch (ctx : Nat) (epoch : Nat) : Statement (.launch ctx epoch) := fun _ => trivial
theorem snapBoundaryCopyDone (ctx : Nat) (micros : Nat) : Statement (.snapBoundaryCopyDone ctx micros) := fun _ => trivial
theorem snapWriteDone (ctx : Nat) : Statement (.snapWriteDone ctx) := fun _ => trivial
theorem snapOk (ctx : Nat) (rank : Nat) (snap : Nat) : Statement (.snapOk ctx rank snap) := fun _ => trivial
theorem snapCommitted (ctx : Nat) (snap : Nat) : Statement (.snapCommitted ctx snap) := fun _ => trivial
theorem riskUpdate : Statement (.riskUpdate) := fun _ => trivial
theorem riskReport (ctx : Nat) (rank : Nat) (risk : Nat) : Statement (.riskReport ctx rank risk) := fun _ => trivial
theorem memberHeartbeatMiss (ctx : Nat) (rank : Nat) : Statement (.memberHeartbeatMiss ctx rank) := fun _ => trivial
theorem memberLost (ctx : Nat) (rank : Nat) (cause : Nat) : Statement (.memberLost ctx rank cause) := fun _ => trivial
theorem spareBindDone (ctx : Nat) (fabricId : Nat) (verified : Bool) : Statement (.spareBindDone ctx fabricId verified) := fun _ => trivial
theorem spareFillDone (ctx : Nat) (fabricId : Nat) : Statement (.spareFillDone ctx fabricId) := fun _ => trivial
theorem spareRebuildDone (ctx : Nat) (fabricId : Nat) : Statement (.spareRebuildDone ctx fabricId) := fun _ => trivial
theorem survCfg (r : RingId) (tag : BitVec 16) : Statement (.survCfg r tag) := fun h => ring_exists r h
theorem snapTensorReg (r : RingId) (tag : BitVec 16) : Statement (.snapTensorReg r tag) := fun h => ring_exists r h
theorem snapTensorUnreg (r : RingId) (tag : BitVec 16) : Statement (.snapTensorUnreg r tag) := fun h => ring_exists r h
theorem snapNow (r : RingId) (tag : BitVec 16) : Statement (.snapNow r tag) := fun h => ring_exists r h
theorem snapStatus (r : RingId) (tag : BitVec 16) : Statement (.snapStatus r tag) := fun h => ring_exists r h
theorem survRisk (r : RingId) (tag : BitVec 16) : Statement (.survRisk r tag) := fun h => ring_exists r h
theorem survSpareAdd (r : RingId) (tag : BitVec 16) : Statement (.survSpareAdd r tag) := fun h => ring_exists r h
theorem survSpareRemove (r : RingId) (tag : BitVec 16) : Statement (.survSpareRemove r tag) := fun h => ring_exists r h
theorem survReport (r : RingId) (tag : BitVec 16) : Statement (.survReport r tag) := fun h => ring_exists r h
theorem snapExport (r : RingId) (tag : BitVec 16) : Statement (.snapExport r tag) := fun h => ring_exists r h
theorem snapImport (r : RingId) (tag : BitVec 16) : Statement (.snapImport r tag) := fun h => ring_exists r h
theorem survRestore (r : RingId) (tag : BitVec 16) : Statement (.survRestore r tag) := fun h => ring_exists r h
theorem secIdentity (r : RingId) (tag : BitVec 16) : Statement (.secIdentity r tag) := fun h => ring_exists r h
theorem secAttest (r : RingId) (tag : BitVec 16) : Statement (.secAttest r tag) := fun h => ring_exists r h
theorem secLcStatus (r : RingId) (tag : BitVec 16) : Statement (.secLcStatus r tag) := fun h => ring_exists r h
theorem secLcNonce (r : RingId) (tag : BitVec 16) : Statement (.secLcNonce r tag) := fun h => ring_exists r h
theorem secLcToken (r : RingId) (tag : BitVec 16) : Statement (.secLcToken r tag) := fun h => ring_exists r h
theorem secLcRetry (r : RingId) (tag : BitVec 16) : Statement (.secLcRetry r tag) := fun h => ring_exists r h
theorem secMode (r : RingId) (tag : BitVec 16) : Statement (.secMode r tag) := fun h => ring_exists r h
theorem secPartCreate (r : RingId) (tag : BitVec 16) : Statement (.secPartCreate r tag) := fun h => ring_exists r h
theorem secPartDestroy (r : RingId) (tag : BitVec 16) : Statement (.secPartDestroy r tag) := fun h => ring_exists r h
theorem secPartReset (r : RingId) (tag : BitVec 16) : Statement (.secPartReset r tag) := fun h => ring_exists r h
theorem secKeyInstall (r : RingId) (tag : BitVec 16) : Statement (.secKeyInstall r tag) := fun h => ring_exists r h
theorem secKeySwitch (r : RingId) (tag : BitVec 16) : Statement (.secKeySwitch r tag) := fun h => ring_exists r h
theorem secKeyErase (r : RingId) (tag : BitVec 16) : Statement (.secKeyErase r tag) := fun h => ring_exists r h
theorem secSharedSeal (r : RingId) (tag : BitVec 16) : Statement (.secSharedSeal r tag) := fun h => ring_exists r h
theorem secSharedUnseal (r : RingId) (tag : BitVec 16) : Statement (.secSharedUnseal r tag) := fun h => ring_exists r h
theorem secSharedStripe (r : RingId) (tag : BitVec 16) : Statement (.secSharedStripe r tag) := fun h => ring_exists r h
theorem secCfg (r : RingId) (tag : BitVec 16) : Statement (.secCfg r tag) := fun h => ring_exists r h
theorem inputAccepted (input : Port) (feedA : BitVec 8) (feedB : BitVec 8) : Statement (.inputAccepted input feedA feedB) := fun _ => trivial
theorem inputDropped (input : Port) : Statement (.inputDropped input) := fun _ => trivial
theorem busLoss : Statement (.busLoss) := fun _ => trivial
theorem pwrEnRise : Statement (.pwrEnRise) := fun _ => trivial
theorem powerUpComplete (ok : Bool) : Statement (.powerUpComplete ok) := fun _ => trivial
theorem pwrEnFall : Statement (.pwrEnFall) := fun _ => trivial
theorem powerSample (total : Nat) (budgets : List Nat) : Statement (.powerSample total budgets) := fun _ => trivial
theorem tripCleared : Statement (.tripCleared) := fun _ => trivial
theorem droopEvent (die : Option Nat) : Statement (.droopEvent die) := fun _ => trivial
theorem feedidRead (feedA : BitVec 8) (feedB : BitVec 8) : Statement (.feedidRead feedA feedB) := fun _ => trivial
theorem dieTempReading (die : Nat) (celsius : Int) : Statement (.dieTempReading die celsius) := fun _ => trivial
theorem coolantReading (inlet : Int) (outlet : Int) (flow : Nat) : Statement (.coolantReading inlet outlet flow) := fun _ => trivial
theorem thermalCriticalTimeout : Statement (.thermalCriticalTimeout) := fun _ => trivial
theorem refclkSysLoss : Statement (.refclkSysLoss) := fun _ => trivial
theorem refclkLinkLoss : Statement (.refclkLinkLoss) := fun _ => trivial
theorem refclkHostLoss : Statement (.refclkHostLoss) := fun _ => trivial
theorem hostPerstAssert : Statement (.hostPerstAssert) := fun _ => trivial
theorem hostPerstDeassert : Statement (.hostPerstDeassert) := fun _ => trivial
theorem dieIsolate (die : Nat) : Statement (.dieIsolate die) := fun _ => trivial
theorem unassignedCommand (r : RingId) (tag : BitVec 16) : Statement (.unassignedCommand r tag) := fun h => ring_exists r h
theorem reservedInstruction (g : GroupId) : Statement (.reservedInstruction g) := fun h => group_exists g h
theorem refclkLinkReturn : Statement (.refclkLinkReturn) := fun _ => trivial
theorem refclkHostReturn : Statement (.refclkHostReturn) := fun _ => trivial
theorem refclkSysReturn : Statement (.refclkSysReturn) := fun _ => trivial
theorem journalRecord (ctx : Nat) (kind : JournalKind) (epoch : Nat) : Statement (.journalRecord ctx kind epoch) := fun _ => trivial
theorem journalRecordAck (ctx : Nat) (kind : JournalKind) (epoch : Nat) (recorded : Bool) : Statement (.journalRecordAck ctx kind epoch recorded) := fun _ => trivial
theorem memoryError (addr : Nat) (kind : ErrKind) : Statement (.memoryError addr kind) := fun _ => trivial

end Sys2Proof.Laws.Addresses
end

