-- ==== Sys2Proof/Laws/Within/Stream.lean ====
section
/-! SUPPORT. What the operations of Machine/Stream.lean may touch: one lemma for each. -/

namespace Sys2Proof.Machine

open Sys2Proof

set_option linter.unusedTactic false
set_option linter.unreachableTactic false

theorem runStream_within (e : Env) (s : State) : ResWithin 131072 s (runStream e s) := by
  unfold runStream
  repeat' (first
    | assumption
    | with_reducible (exact Within.refl _ _)
    | with_reducible (refine ResWithin.done ?_)
    | with_reducible (refine ResWithin.jumped ?_)
    | with_reducible (refine ResWithin.parked ?_)
    | (exact ResWithin.trap _ _ _)
    | (exact ResWithin.notReady _ _)
    | with_reducible refine State.setCluster_in ?_ (by decide)
    | with_reducible refine Within.foldl_proj (g := Run.s) ?_ (fun _ _ => ?_)
    | with_reducible refine Within.ite_proj (g := Run.s) (fun _ => ?_) (fun _ => ?_)
    | split
    | dsimp only)

theorem runStream_in {e : Env} {s : State} {which : Nat} {s₀ : State} (h₀ : Within which s₀ s) (hm₀ : 131072 ||| which = which) : ResWithin which s₀ (runStream e s) :=
  ResWithin.step h₀ (runStream_within ..) hm₀

theorem setHead_within (s : State) (c : Nat) (h : HeadDesc) : Within 131072 s (setHead s c h) := by
  unfold setHead
  repeat' (first
    | assumption
    | with_reducible (exact Within.refl _ _)
    | with_reducible refine State.setCluster_in ?_ (by decide)
    | with_reducible refine Within.foldl_proj (g := Run.s) ?_ (fun _ _ => ?_)
    | with_reducible refine Within.ite_proj (g := Run.s) (fun _ => ?_) (fun _ => ?_)
    | split
    | dsimp only)

theorem setHead_in {s : State} {c : Nat} {h : HeadDesc} {which : Nat} {s₀ : State} (h₀ : Within which s₀ s) (hm₀ : 131072 ||| which = which) : Within which s₀ (setHead s c h) :=
  Within.step h₀ (setHead_within ..) hm₀

theorem streamDescriptorRead_within (s : State) (c : Nat) : Within 27662456 s (streamDescriptorRead s c) := by
  unfold streamDescriptorRead
  repeat' (first
    | assumption
    | with_reducible (exact Within.refl _ _)
    | with_reducible refine State.bump_in ?_ (by decide)
    | with_reducible refine State.setSync_in ?_ (by decide)
    | with_reducible refine readRow_in ?_ (by decide)
    | refine readRow_fst (by assumption) ?_ (by decide)
    | with_reducible refine setHead_in ?_ (by decide)
    | with_reducible refine Within.foldl_proj (g := Run.s) ?_ (fun _ _ => ?_)
    | with_reducible refine Within.ite_proj (g := Run.s) (fun _ => ?_) (fun _ => ?_)
    | with_reducible refine Within.ite_fst (fun _ => ?_) (fun _ => ?_)
    | split
    | dsimp only)

theorem streamDescriptorRead_in {s : State} {c : Nat} {which : Nat} {s₀ : State} (h₀ : Within which s₀ s) (hm₀ : 27662456 ||| which = which) : Within which s₀ (streamDescriptorRead s c) :=
  Within.step h₀ (streamDescriptorRead_within ..) hm₀

theorem Run.note_within (x : Run) (fl : Flags) (p : Option (Nat × Nat)) : Within 0 x.s (Run.note x fl p).s := by
  unfold Run.note
  repeat' (first
    | assumption
    | with_reducible (exact Within.refl _ _)
    | with_reducible refine Within.foldl_proj (g := Run.s) ?_ (fun _ _ => ?_)
    | with_reducible refine Within.ite_proj (g := Run.s) (fun _ => ?_) (fun _ => ?_)
    | split
    | dsimp only)

theorem Run.note_in {x : Run} {fl : Flags} {p : Option (Nat × Nat)} {which : Nat} {s₀ : State} (h₀ : Within which s₀ x.s) (hm₀ : 0 ||| which = which) : Within which s₀ (Run.note x fl p).s :=
  Within.step h₀ (Run.note_within ..) hm₀

theorem Run.bytes_within (x : Run) (bits a : Nat) (cs : List Nat) (p : Bool) : Within 27269240 x.s (Run.bytes x bits a cs p).s := by
  unfold Run.bytes
  repeat' (first
    | assumption
    | with_reducible (exact Within.refl _ _)
    | with_reducible refine storeMarked_in ?_ (by decide)
    | with_reducible refine Within.foldl_proj (g := Run.s) ?_ (fun _ _ => ?_)
    | with_reducible refine Within.ite_proj (g := Run.s) (fun _ => ?_) (fun _ => ?_)
    | split
    | dsimp only)

theorem Run.bytes_in {x : Run} {bits a : Nat} {cs : List Nat} {p : Bool} {which : Nat} {s₀ : State} (h₀ : Within which s₀ x.s) (hm₀ : 27269240 ||| which = which) : Within which s₀ (Run.bytes x bits a cs p).s :=
  Within.step h₀ (Run.bytes_within ..) hm₀

theorem narrow_within (e : SCtx) (s : State) (t round : Nat) (vs : List Word32) : Within 8 s (narrow e s t round vs).1 := by
  unfold narrow
  repeat' (first
    | assumption
    | with_reducible (exact Within.refl _ _)
    | with_reducible (refine Within.foldl ?_ (fun _ _ => ?_))
    | with_reducible (refine Within.foldl_fst ?_ (fun _ _ => ?_))
    | with_reducible refine Within.foldl_proj (g := Run.s) ?_ (fun _ _ => ?_)
    | with_reducible refine Within.ite_proj (g := Run.s) (fun _ => ?_) (fun _ => ?_)
    | with_reducible refine Within.ite_fst (fun _ => ?_) (fun _ => ?_)
    | split
    | dsimp only
    | with_reducible refine free_in ?_ (by decide))

theorem narrow_in {e : SCtx} {s : State} {t round : Nat} {vs : List Word32} {which : Nat} {s₀ : State} (h₀ : Within which s₀ s) (hm₀ : 8 ||| which = which) : Within which s₀ (narrow e s t round vs).1 :=
  Within.step h₀ (narrow_within ..) hm₀

theorem narrow_fst {e : SCtx} {s : State} {t round : Nat} {vs : List Word32} {which : Nat} {s₀ t₀ : State} {y} (he₀ : narrow e s t round vs = (t₀, y)) (h₀ : Within which s₀ s) (hm₀ : 8 ||| which = which) : Within which s₀ t₀ := by
  have k := narrow_in (s := s) (e := e) (t := t) (round := round) (vs := vs) h₀ hm₀; rw [he₀] at k; exact k

theorem Run.row_within (x : Run) (e : SCtx) (o : Slot) (column : Bool) (r : Nat) (vs : List Pair) (p : Bool) : Within 27400312 x.s (Run.row x e o column r vs p).s := by
  unfold Run.row
  repeat' (first
    | assumption
    | with_reducible (exact Within.refl _ _)
    | with_reducible (refine Within.foldl ?_ (fun _ _ => ?_))
    | with_reducible (refine Within.foldl_fst ?_ (fun _ _ => ?_))
    | with_reducible refine State.setCluster_in ?_ (by decide)
    | with_reducible refine Run.bytes_in ?_ (by decide)
    | with_reducible refine narrow_in ?_ (by decide)
    | refine narrow_fst (by assumption) ?_ (by decide)
    | with_reducible refine Within.foldl_proj (g := Run.s) ?_ (fun _ _ => ?_)
    | with_reducible refine Within.ite_proj (g := Run.s) (fun _ => ?_) (fun _ => ?_)
    | with_reducible refine Within.ite_fst (fun _ => ?_) (fun _ => ?_)
    | split
    | dsimp only)

theorem Run.row_in {x : Run} {e : SCtx} {o : Slot} {column : Bool} {r : Nat} {vs : List Pair} {p : Bool} {which : Nat} {s₀ : State} (h₀ : Within which s₀ x.s) (hm₀ : 27400312 ||| which = which) : Within which s₀ (Run.row x e o column r vs p).s :=
  Within.step h₀ (Run.row_within ..) hm₀

theorem Run.ssq_within (x : Run) (a : Nat) (p : Bool) : Within 27269240 x.s (Run.ssq x a p).s := by
  unfold Run.ssq
  repeat' (first
    | assumption
    | with_reducible (exact Within.refl _ _)
    | with_reducible refine Run.note_in ?_ (by decide)
    | with_reducible refine Run.bytes_in ?_ (by decide)
    | with_reducible refine Within.foldl_proj (g := Run.s) ?_ (fun _ _ => ?_)
    | with_reducible refine Within.ite_proj (g := Run.s) (fun _ => ?_) (fun _ => ?_)
    | split
    | dsimp only)

theorem Run.ssq_in {x : Run} {a : Nat} {p : Bool} {which : Nat} {s₀ : State} (h₀ : Within which s₀ x.s) (hm₀ : 27269240 ||| which = which) : Within which s₀ (Run.ssq x a p).s :=
  Within.step h₀ (Run.ssq_within ..) hm₀

theorem runEw_within (e : SCtx) (op : Nat) (x : Run) : Within 27400312 x.s (runEw e op x).s := by
  unfold runEw
  repeat' (first
    | assumption
    | with_reducible (exact Within.refl _ _)
    | with_reducible (refine Within.foldl ?_ (fun _ _ => ?_))
    | with_reducible (refine Within.foldl_fst ?_ (fun _ _ => ?_))
    | with_reducible refine Run.note_in ?_ (by decide)
    | with_reducible refine Run.row_in ?_ (by decide)
    | with_reducible refine Run.ssq_in ?_ (by decide)
    | with_reducible refine Within.foldl_proj (g := Run.s) ?_ (fun _ _ => ?_)
    | with_reducible refine Within.ite_proj (g := Run.s) (fun _ => ?_) (fun _ => ?_)
    | split
    | dsimp only)

theorem runEw_in {e : SCtx} {op : Nat} {x : Run} {which : Nat} {s₀ : State} (h₀ : Within which s₀ x.s) (hm₀ : 27400312 ||| which = which) : Within which s₀ (runEw e op x).s :=
  Within.step h₀ (runEw_within ..) hm₀

theorem runReduce_within (e : SCtx) (op : Nat) (x : Run) : Within 27400312 x.s (runReduce e op x).s := by
  unfold runReduce
  repeat' (first
    | assumption
    | with_reducible (exact Within.refl _ _)
    | with_reducible (refine Within.foldl ?_ (fun _ _ => ?_))
    | with_reducible (refine Within.foldl_fst ?_ (fun _ _ => ?_))
    | with_reducible refine Run.note_in ?_ (by decide)
    | with_reducible refine Run.row_in ?_ (by decide)
    | with_reducible refine Within.foldl_proj (g := Run.s) ?_ (fun _ _ => ?_)
    | with_reducible refine Within.ite_proj (g := Run.s) (fun _ => ?_) (fun _ => ?_)
    | split
    | dsimp only)

theorem runReduce_in {e : SCtx} {op : Nat} {x : Run} {which : Nat} {s₀ : State} (h₀ : Within which s₀ x.s) (hm₀ : 27400312 ||| which = which) : Within which s₀ (runReduce e op x).s :=
  Within.step h₀ (runReduce_within ..) hm₀

theorem runSsq_within (e : SCtx) (x : Run) : Within 27269240 x.s (runSsq e x).s := by
  unfold runSsq
  repeat' (first
    | assumption
    | with_reducible (exact Within.refl _ _)
    | with_reducible (refine Within.foldl ?_ (fun _ _ => ?_))
    | with_reducible (refine Within.foldl_fst ?_ (fun _ _ => ?_))
    | with_reducible refine Run.note_in ?_ (by decide)
    | with_reducible refine Run.ssq_in ?_ (by decide)
    | with_reducible refine Within.foldl_proj (g := Run.s) ?_ (fun _ _ => ?_)
    | with_reducible refine Within.ite_proj (g := Run.s) (fun _ => ?_) (fun _ => ?_)
    | split
    | dsimp only)

theorem runSsq_in {e : SCtx} {x : Run} {which : Nat} {s₀ : State} (h₀ : Within which s₀ x.s) (hm₀ : 27269240 ||| which = which) : Within which s₀ (runSsq e x).s :=
  Within.step h₀ (runSsq_within ..) hm₀

theorem Run.col_within (x : Run) (a r : Nat) (w : Word32) (p : Bool) : Within 27269240 x.s (Run.col x a r w p).s := by
  unfold Run.col
  repeat' (first
    | assumption
    | with_reducible (exact Within.refl _ _)
    | with_reducible refine Run.bytes_in ?_ (by decide)
    | with_reducible refine Within.foldl_proj (g := Run.s) ?_ (fun _ _ => ?_)
    | with_reducible refine Within.ite_proj (g := Run.s) (fun _ => ?_) (fun _ => ?_)
    | split
    | dsimp only)

theorem Run.col_in {x : Run} {a r : Nat} {w : Word32} {p : Bool} {which : Nat} {s₀ : State} (h₀ : Within which s₀ x.s) (hm₀ : 27269240 ||| which = which) : Within which s₀ (Run.col x a r w p).s :=
  Within.step h₀ (Run.col_within ..) hm₀

theorem runNorm_within (e : SCtx) (rms : Bool) (x : Run) : Within 27400312 x.s (runNorm e rms x).s := by
  unfold runNorm
  repeat' (first
    | assumption
    | with_reducible (exact Within.refl _ _)
    | with_reducible (refine Within.foldl ?_ (fun _ _ => ?_))
    | with_reducible (refine Within.foldl_fst ?_ (fun _ _ => ?_))
    | with_reducible refine Run.note_in ?_ (by decide)
    | with_reducible refine Run.row_in ?_ (by decide)
    | with_reducible refine Run.col_in ?_ (by decide)
    | with_reducible refine Within.foldl_proj (g := Run.s) ?_ (fun _ _ => ?_)
    | with_reducible refine Within.ite_proj (g := Run.s) (fun _ => ?_) (fun _ => ?_)
    | split
    | dsimp only)

theorem runNorm_in {e : SCtx} {rms : Bool} {x : Run} {which : Nat} {s₀ : State} (h₀ : Within which s₀ x.s) (hm₀ : 27400312 ||| which = which) : Within which s₀ (runNorm e rms x).s :=
  Within.step h₀ (runNorm_within ..) hm₀

theorem runSoftmax_within (e : SCtx) (x : Run) : Within 27400312 x.s (runSoftmax e x).s := by
  unfold runSoftmax
  repeat' (first
    | assumption
    | with_reducible (exact Within.refl _ _)
    | with_reducible (refine Within.foldl ?_ (fun _ _ => ?_))
    | with_reducible (refine Within.foldl_fst ?_ (fun _ _ => ?_))
    | with_reducible refine State.bump_in ?_ (by decide)
    | with_reducible refine Run.note_in ?_ (by decide)
    | with_reducible refine Run.bytes_in ?_ (by decide)
    | with_reducible refine Run.row_in ?_ (by decide)
    | with_reducible refine Run.col_in ?_ (by decide)
    | with_reducible refine Within.foldl_proj (g := Run.s) ?_ (fun _ _ => ?_)
    | with_reducible refine Within.ite_proj (g := Run.s) (fun _ => ?_) (fun _ => ?_)
    | split
    | dsimp only)

theorem runSoftmax_in {e : SCtx} {x : Run} {which : Nat} {s₀ : State} (h₀ : Within which s₀ x.s) (hm₀ : 27400312 ||| which = which) : Within which s₀ (runSoftmax e x).s :=
  Within.step h₀ (runSoftmax_within ..) hm₀

theorem runQuant_within (e : SCtx) (x : Run) : Within 27277432 x.s (runQuant e x).s := by
  unfold runQuant
  repeat' (first
    | assumption
    | with_reducible (exact Within.refl _ _)
    | with_reducible (refine Within.foldl ?_ (fun _ _ => ?_))
    | with_reducible (refine Within.foldl_fst ?_ (fun _ _ => ?_))
    | with_reducible refine State.bump_in ?_ (by decide)
    | with_reducible refine tileAt_in ?_ (by decide)
    | refine tileAt_fst (by assumption) ?_ (by decide)
    | with_reducible refine convertEntry_in ?_ (by decide)
    | refine convertEntry_fst (by assumption) ?_ (by decide)
    | with_reducible refine census_in ?_ (by decide)
    | with_reducible refine Run.note_in ?_ (by decide)
    | with_reducible refine Run.bytes_in ?_ (by decide)
    | with_reducible refine Within.foldl_proj (g := Run.s) ?_ (fun _ _ => ?_)
    | with_reducible refine Within.ite_proj (g := Run.s) (fun _ => ?_) (fun _ => ?_)
    | with_reducible refine Within.ite_fst (fun _ => ?_) (fun _ => ?_)
    | split
    | dsimp only)

theorem runQuant_in {e : SCtx} {x : Run} {which : Nat} {s₀ : State} (h₀ : Within which s₀ x.s) (hm₀ : 27277432 ||| which = which) : Within which s₀ (runQuant e x).s :=
  Within.step h₀ (runQuant_within ..) hm₀

theorem runOpt_within (e : SCtx) (op : Nat) (x : Run) : Within 27400312 x.s (runOpt e op x).s := by
  unfold runOpt
  repeat' (first
    | assumption
    | with_reducible (exact Within.refl _ _)
    | with_reducible (refine Within.foldl ?_ (fun _ _ => ?_))
    | with_reducible (refine Within.foldl_fst ?_ (fun _ _ => ?_))
    | with_reducible refine Run.note_in ?_ (by decide)
    | with_reducible refine Run.bytes_in ?_ (by decide)
    | with_reducible refine narrow_in ?_ (by decide)
    | refine narrow_fst (by assumption) ?_ (by decide)
    | with_reducible refine Run.row_in ?_ (by decide)
    | with_reducible refine Within.foldl_proj (g := Run.s) ?_ (fun _ _ => ?_)
    | with_reducible refine Within.ite_proj (g := Run.s) (fun _ => ?_) (fun _ => ?_)
    | with_reducible refine Within.ite_fst (fun _ => ?_) (fun _ => ?_)
    | split
    | dsimp only)

theorem runOpt_in {e : SCtx} {op : Nat} {x : Run} {which : Nat} {s₀ : State} (h₀ : Within which s₀ x.s) (hm₀ : 27400312 ||| which = which) : Within which s₀ (runOpt e op x).s :=
  Within.step h₀ (runOpt_within ..) hm₀

theorem runLimb_within (e : SCtx) (x : Run) : Within 27269240 x.s (runLimb e x).s := by
  unfold runLimb
  repeat' (first
    | assumption
    | with_reducible (exact Within.refl _ _)
    | with_reducible (refine Within.foldl ?_ (fun _ _ => ?_))
    | with_reducible (refine Within.foldl_fst ?_ (fun _ _ => ?_))
    | with_reducible refine Run.note_in ?_ (by decide)
    | with_reducible refine Run.bytes_in ?_ (by decide)
    | with_reducible refine Within.foldl_proj (g := Run.s) ?_ (fun _ _ => ?_)
    | with_reducible refine Within.ite_proj (g := Run.s) (fun _ => ?_) (fun _ => ?_)
    | split
    | dsimp only)

theorem runLimb_in {e : SCtx} {x : Run} {which : Nat} {s₀ : State} (h₀ : Within which s₀ x.s) (hm₀ : 27269240 ||| which = which) : Within which s₀ (runLimb e x).s :=
  Within.step h₀ (runLimb_within ..) hm₀

theorem runCommand_within (e : SCtx) (op : Nat) (x : Run) : Within 27408504 x.s (runCommand e op x).s := by
  unfold runCommand
  repeat' (first
    | assumption
    | with_reducible (exact Within.refl _ _)
    | with_reducible refine runEw_in ?_ (by decide)
    | with_reducible refine runReduce_in ?_ (by decide)
    | with_reducible refine runSsq_in ?_ (by decide)
    | with_reducible refine runNorm_in ?_ (by decide)
    | with_reducible refine runSoftmax_in ?_ (by decide)
    | with_reducible refine runQuant_in ?_ (by decide)
    | with_reducible refine runOpt_in ?_ (by decide)
    | with_reducible refine runLimb_in ?_ (by decide)
    | with_reducible refine Within.foldl_proj (g := Run.s) ?_ (fun _ _ => ?_)
    | with_reducible refine Within.ite_proj (g := Run.s) (fun _ => ?_) (fun _ => ?_)
    | split
    | dsimp only)

theorem runCommand_in {e : SCtx} {op : Nat} {x : Run} {which : Nat} {s₀ : State} (h₀ : Within which s₀ x.s) (hm₀ : 27408504 ||| which = which) : Within which s₀ (runCommand e op x).s :=
  Within.step h₀ (runCommand_within ..) hm₀

theorem touchSlot_within (d : Desc) (s : State) (x : Slot) : Within 27269240 s (touchSlot d s x) := by
  unfold touchSlot
  repeat' (first
    | assumption
    | with_reducible (exact Within.refl _ _)
    | with_reducible (refine Within.foldl ?_ (fun _ _ => ?_))
    | with_reducible (refine Within.foldl_fst ?_ (fun _ _ => ?_))
    | with_reducible refine touch_in ?_ (by decide)
    | with_reducible refine Within.foldl_proj (g := Run.s) ?_ (fun _ _ => ?_)
    | with_reducible refine Within.ite_proj (g := Run.s) (fun _ => ?_) (fun _ => ?_)
    | split
    | dsimp only)

theorem touchSlot_in {d : Desc} {s : State} {x : Slot} {which : Nat} {s₀ : State} (h₀ : Within which s₀ s) (hm₀ : 27269240 ||| which = which) : Within which s₀ (touchSlot d s x) :=
  Within.step h₀ (touchSlot_within ..) hm₀

theorem popStream_within (s : State) (c : Nat) : Within 131072 s (popStream s c) := by
  unfold popStream
  repeat' (first
    | assumption
    | with_reducible (exact Within.refl _ _)
    | with_reducible refine State.setCluster_in ?_ (by decide)
    | with_reducible refine Within.foldl_proj (g := Run.s) ?_ (fun _ _ => ?_)
    | with_reducible refine Within.ite_proj (g := Run.s) (fun _ => ?_) (fun _ => ?_)
    | split
    | dsimp only)

theorem popStream_in {s : State} {c : Nat} {which : Nat} {s₀ : State} (h₀ : Within which s₀ s) (hm₀ : 131072 ||| which = which) : Within which s₀ (popStream s c) :=
  Within.step h₀ (popStream_within ..) hm₀

theorem addSe_within (s : State) (c : Nat) (fl : Flags) : Within 131072 s (addSe s c fl) := by
  unfold addSe
  repeat' (first
    | assumption
    | with_reducible (exact Within.refl _ _)
    | with_reducible refine State.setCluster_in ?_ (by decide)
    | with_reducible refine Within.foldl_proj (g := Run.s) ?_ (fun _ _ => ?_)
    | with_reducible refine Within.ite_proj (g := Run.s) (fun _ => ?_) (fun _ => ?_)
    | split
    | dsimp only)

theorem addSe_in {s : State} {c : Nat} {fl : Flags} {which : Nat} {s₀ : State} (h₀ : Within which s₀ s) (hm₀ : 131072 ||| which = which) : Within which s₀ (addSe s c fl) :=
  Within.step h₀ (addSe_within ..) hm₀

theorem streamCommandStart_within (s : State) (c : Nat) : Within 27408504 s (streamCommandStart s c) := by
  unfold streamCommandStart
  repeat' (first
    | assumption
    | with_reducible (exact Within.refl _ _)
    | with_reducible (refine Within.foldl ?_ (fun _ _ => ?_))
    | with_reducible (refine Within.foldl_fst ?_ (fun _ _ => ?_))
    | with_reducible refine State.bump_in ?_ (by decide)
    | with_reducible refine State.setCluster_in ?_ (by decide)
    | with_reducible refine storeMem_in ?_ (by decide)
    | with_reducible refine addDone_in ?_ (by decide)
    | with_reducible refine Run.bytes_in ?_ (by decide)
    | with_reducible refine runCommand_in ?_ (by decide)
    | with_reducible refine touchSlot_in ?_ (by decide)
    | with_reducible refine popStream_in ?_ (by decide)
    | with_reducible refine addSe_in ?_ (by decide)
    | with_reducible refine Within.foldl_proj (g := Run.s) ?_ (fun _ _ => ?_)
    | with_reducible refine Within.ite_proj (g := Run.s) (fun _ => ?_) (fun _ => ?_)
    | contradiction
    | split
    | dsimp only
    | contradiction)

theorem streamCommandStart_in {s : State} {c : Nat} {which : Nat} {s₀ : State} (h₀ : Within which s₀ s) (hm₀ : 27408504 ||| which = which) : Within which s₀ (streamCommandStart s c) :=
  Within.step h₀ (streamCommandStart_within ..) hm₀

end Sys2Proof.Machine
end

