-- ==== Sys2Proof/Laws/Within/Virdy.lean ====
section
/-! SUPPORT. What the operations of Machine/Virdy.lean may touch: one lemma for each. -/

namespace Sys2Proof.Machine

open Sys2Proof

set_option linter.unusedTactic false
set_option linter.unreachableTactic false

theorem runOf_within (m : Mn) (e : Env) (s : State) : ResWithin 27768952 s (runOf m e s) := by
  unfold runOf
  repeat' (first
    | assumption
    | with_reducible (exact Within.refl _ _)
    | with_reducible (refine ResWithin.done ?_)
    | with_reducible (refine ResWithin.jumped ?_)
    | with_reducible (refine ResWithin.parked ?_)
    | (exact ResWithin.trap _ _ _)
    | (exact ResWithin.notReady _ _)
    | with_reducible refine runMov_in ?_ (by decide)
    | with_reducible refine runAdd_in ?_ (by decide)
    | with_reducible refine runSub_in ?_ (by decide)
    | with_reducible refine runMul_in ?_ (by decide)
    | with_reducible refine runMulhi_in ?_ (by decide)
    | with_reducible refine runMad_in ?_ (by decide)
    | with_reducible refine runMin_in ?_ (by decide)
    | with_reducible refine runMax_in ?_ (by decide)
    | with_reducible refine runAnd_in ?_ (by decide)
    | with_reducible refine runOr_in ?_ (by decide)
    | with_reducible refine runXor_in ?_ (by decide)
    | with_reducible refine runShl_in ?_ (by decide)
    | with_reducible refine runShr_in ?_ (by decide)
    | with_reducible refine runSar_in ?_ (by decide)
    | with_reducible refine runPopc_in ?_ (by decide)
    | with_reducible refine runClz_in ?_ (by decide)
    | with_reducible refine runSel_in ?_ (by decide)
    | with_reducible refine runRdlane_in ?_ (by decide)
    | with_reducible refine runSreg_in ?_ (by decide)
    | with_reducible refine runFadd_in ?_ (by decide)
    | with_reducible refine runFsub_in ?_ (by decide)
    | with_reducible refine runFmul_in ?_ (by decide)
    | with_reducible refine runFfma_in ?_ (by decide)
    | with_reducible refine runFmin_in ?_ (by decide)
    | with_reducible refine runFmax_in ?_ (by decide)
    | with_reducible refine runFabs_in ?_ (by decide)
    | with_reducible refine runFneg_in ?_ (by decide)
    | with_reducible refine runRcp_in ?_ (by decide)
    | with_reducible refine runRsq_in ?_ (by decide)
    | with_reducible refine runSqrt_in ?_ (by decide)
    | with_reducible refine runExp2_in ?_ (by decide)
    | with_reducible refine runLog2_in ?_ (by decide)
    | with_reducible refine runCvtRne_in ?_ (by decide)
    | with_reducible refine runCvtRtz_in ?_ (by decide)
    | with_reducible refine runCvtSr_in ?_ (by decide)
    | with_reducible refine runIsetp_in ?_ (by decide)
    | with_reducible refine runFsetp_in ?_ (by decide)
    | with_reducible refine runPand_in ?_ (by decide)
    | with_reducible refine runPor_in ?_ (by decide)
    | with_reducible refine runPxor_in ?_ (by decide)
    | with_reducible refine runPnot_in ?_ (by decide)
    | with_reducible refine runBallot_in ?_ (by decide)
    | with_reducible refine runBra_in ?_ (by decide)
    | with_reducible refine runCall_in ?_ (by decide)
    | with_reducible refine runBrx_in ?_ (by decide)
    | with_reducible refine runRet_in ?_ (by decide)
    | with_reducible refine runExit_in ?_ (by decide)
    | with_reducible refine runConv_in ?_ (by decide)
    | with_reducible refine runBar_in ?_ (by decide)
    | with_reducible refine runActmask_in ?_ (by decide)
    | with_reducible refine runVirdyNop_in ?_ (by decide)
    | with_reducible refine runBrk_in ?_ (by decide)
    | with_reducible refine runPut_in ?_ (by decide)
    | with_reducible refine runAcc_in ?_ (by decide)
    | with_reducible refine runGet_in ?_ (by decide)
    | with_reducible refine runColl_in ?_ (by decide)
    | with_reducible refine runSigAdd_in ?_ (by decide)
    | with_reducible refine runSigSet_in ?_ (by decide)
    | with_reducible refine runWaitGe_in ?_ (by decide)
    | with_reducible refine runWaitTake_in ?_ (by decide)
    | with_reducible refine runFlagrd_in ?_ (by decide)
    | with_reducible refine runFlagclr_in ?_ (by decide)
    | with_reducible refine runScrd_in ?_ (by decide)
    | with_reducible refine runScwr_in ?_ (by decide)
    | with_reducible refine runMcfg_in ?_ (by decide)
    | with_reducible refine runMload_in ?_ (by decide)
    | with_reducible refine runMmul_in ?_ (by decide)
    | with_reducible refine runMfill_in ?_ (by decide)
    | with_reducible refine runMadapt_in ?_ (by decide)
    | with_reducible refine runMdrain_in ?_ (by decide)
    | with_reducible refine runLd_in ?_ (by decide)
    | with_reducible refine runSt_in ?_ (by decide)
    | with_reducible refine runAtomAdd_in ?_ (by decide)
    | with_reducible refine runAtomMin_in ?_ (by decide)
    | with_reducible refine runAtomMax_in ?_ (by decide)
    | with_reducible refine runAtomAnd_in ?_ (by decide)
    | with_reducible refine runAtomOr_in ?_ (by decide)
    | with_reducible refine runAtomXor_in ?_ (by decide)
    | with_reducible refine runAtomXchg_in ?_ (by decide)
    | with_reducible refine runAtomCas_in ?_ (by decide)
    | with_reducible refine runFence_in ?_ (by decide)
    | with_reducible refine runDma_in ?_ (by decide)
    | with_reducible refine runStream_in ?_ (by decide)
    | split
    | dsimp only
    | refine ResWithin.of_done (by assumption) ?_
    | refine ResWithin.of_parked (by assumption) ?_)

theorem runOf_in {m : Mn} {e : Env} {s : State} {which : Nat} {s₀ : State} (h₀ : Within which s₀ s) (hm₀ : 27768952 ||| which = which) : ResWithin which s₀ (runOf m e s) :=
  ResWithin.step h₀ (runOf_within ..) hm₀

theorem perform_within (e : Env) (s : State) : ResWithin 27768952 s (perform e s) := by
  unfold perform
  repeat' (first
    | assumption
    | with_reducible (exact Within.refl _ _)
    | with_reducible (refine ResWithin.done ?_)
    | with_reducible (refine ResWithin.jumped ?_)
    | with_reducible (refine ResWithin.parked ?_)
    | (exact ResWithin.trap _ _ _)
    | (exact ResWithin.notReady _ _)
    | with_reducible refine runOf_in ?_ (by decide)
    | split
    | dsimp only
    | refine ResWithin.of_done (by assumption) ?_
    | refine ResWithin.of_parked (by assumption) ?_)

theorem perform_in {e : Env} {s : State} {which : Nat} {s₀ : State} (h₀ : Within which s₀ s) (hm₀ : 27768952 ||| which = which) : ResWithin which s₀ (perform e s) :=
  ResWithin.step h₀ (perform_within ..) hm₀

theorem arriveColl_within (e : Env) (s : State) : ResWithin 27768952 s (arriveColl e s) := by
  unfold arriveColl
  repeat' (first
    | assumption
    | with_reducible (exact Within.refl _ _)
    | with_reducible (refine ResWithin.done ?_)
    | with_reducible (refine ResWithin.jumped ?_)
    | with_reducible (refine ResWithin.parked ?_)
    | (exact ResWithin.trap _ _ _)
    | (exact ResWithin.notReady _ _)
    | with_reducible refine Env.update_in ?_ (by decide)
    | with_reducible refine perform_in ?_ (by decide)
    | split
    | dsimp only
    | refine ResWithin.of_done (by assumption) ?_
    | refine ResWithin.of_parked (by assumption) ?_)

theorem arriveColl_in {e : Env} {s : State} {which : Nat} {s₀ : State} (h₀ : Within which s₀ s) (hm₀ : 27768952 ||| which = which) : ResWithin which s₀ (arriveColl e s) :=
  ResWithin.step h₀ (arriveColl_within ..) hm₀

theorem attempt_within (e : Env) (s : State) : ResWithin 27768952 s (attempt e s) := by
  unfold attempt
  repeat' (first
    | assumption
    | with_reducible (exact Within.refl _ _)
    | with_reducible (refine ResWithin.done ?_)
    | with_reducible (refine ResWithin.jumped ?_)
    | with_reducible (refine ResWithin.parked ?_)
    | (exact ResWithin.trap _ _ _)
    | (exact ResWithin.notReady _ _)
    | with_reducible refine perform_in ?_ (by decide)
    | with_reducible refine arriveColl_in ?_ (by decide)
    | split
    | dsimp only
    | refine ResWithin.of_done (by assumption) ?_
    | refine ResWithin.of_parked (by assumption) ?_)

theorem attempt_in {e : Env} {s : State} {which : Nat} {s₀ : State} (h₀ : Within which s₀ s) (hm₀ : 27768952 ||| which = which) : ResWithin which s₀ (attempt e s) :=
  ResWithin.step h₀ (attempt_within ..) hm₀

theorem afterIssue_within (s : State) (g : GroupId) : Within 8486912 s (afterIssue s g) := by
  unfold afterIssue
  repeat' (first
    | assumption
    | with_reducible (exact Within.refl _ _)
    | with_reducible refine State.bump_in ?_ (by decide)
    | with_reducible refine State.setGroup_in ?_ (by decide)
    | with_reducible refine State.setUnit_in ?_ (by decide)
    | split
    | dsimp only)

theorem afterIssue_in {s : State} {g : GroupId} {which : Nat} {s₀ : State} (h₀ : Within which s₀ s) (hm₀ : 8486912 ||| which = which) : Within which s₀ (afterIssue s g) :=
  Within.step h₀ (afterIssue_within ..) hm₀

theorem advance_within (e : Env) (s : State) : Within 32768 s (advance e s) := by
  unfold advance
  repeat' (first
    | assumption
    | with_reducible (exact Within.refl _ _)
    | with_reducible refine State.setGroup_in ?_ (by decide)
    | split
    | dsimp only)

theorem advance_in {e : Env} {s : State} {which : Nat} {s₀ : State} (h₀ : Within which s₀ s) (hm₀ : 32768 ||| which = which) : Within which s₀ (advance e s) :=
  Within.step h₀ (advance_within ..) hm₀

theorem settleRes_in {e : Env} {s : State} {r : Res} {m : Nat} (h : ResWithin m s r) (hm : 26189944 ||| m = m) : Within m s (settleRes e s r) := by
  have ha : 8486912 ||| m = m := by rw [← hm, ← Nat.or_assoc]; rfl
  have hb : 32768 ||| m = m := by rw [← hm, ← Nat.or_assoc]; rfl
  cases r with
  | done t => exact advance_in (afterIssue_in h ha) hb
  | jumped t => exact afterIssue_in h ha
  | parked t => exact afterIssue_in h ha
  | trap t => exact (takeTrap_within ..).mono (by rw [← hm, ← Nat.or_assoc]; rfl)
  | notReady => exact Within.refl _ _

theorem issue_within (m : Mn) (g : GroupId) (s : State) : Within 28293240 s (issue m g s) := by
  unfold issue
  split
  · exact Within.refl _ _
  · split
    · exact settleRes_in ((attempt_within ..).mono (by decide)) (by decide)
    · exact Within.refl _ _

theorem issue_in {m : Mn} {g : GroupId} {s : State} {which : Nat} {s₀ : State} (h₀ : Within which s₀ s) (hm₀ : 28293240 ||| which = which) : Within which s₀ (issue m g s) :=
  Within.step h₀ (issue_within ..) hm₀

end Sys2Proof.Machine
end

