-- ==== Sys2Proof/Laws/Within/Debug.lean ====
section
/-! SUPPORT. What the operations of Machine/Debug.lean may touch: one lemma for each. -/

namespace Sys2Proof.Machine

open Sys2Proof

set_option linter.unusedTactic false
set_option linter.unreachableTactic false

theorem onCtx_in {s : State} {r : RingId} {c : OutCmd} {f : Ctx → Ran} {which : Nat} {s₀ : State} (h₀ : Within which s₀ s)
    (hf : ∀ x, RanWithin which s₀ (f x)) : RanWithin which s₀ (onCtx s r c f) := by
  unfold onCtx; split
  · exact h₀
  · split
    · exact h₀
    · exact hf _

theorem onGroup_in {s : State} {r : RingId} {c : OutCmd} {ok : Group → Bool} {f : Ctx → Group → Ran} {which : Nat} {s₀ : State} (h₀ : Within which s₀ s)
    (hf : ∀ x g, RanWithin which s₀ (f x g)) : RanWithin which s₀ (onGroup s r c ok f) := by
  unfold onGroup
  refine onCtx_in h₀ (fun x => ?_)
  split
  · exact h₀
  · split
    · exact h₀
    · split
      · exact hf _ _
      · exact h₀

theorem cmdDbgAttach_run  (s : State) (r : RingId) (c : OutCmd) : RanWithin 8192 s (cmdDbgAttach.run s r c) := by
  unfold cmdDbgAttach
  dsimp only
  repeat' (first
    | assumption
    | with_reducible (exact Within.refl _ _)
    | with_reducible (refine RanWithin.fin ?_)
    | with_reducible (refine RanWithin.keep ?_)
    | with_reducible (refine RanWithin.gone ?_)
    | (exact RanWithin.later _ _)
    | with_reducible refine State.setCtx_in ?_ (by decide)
    | with_reducible refine Ran.ok_in ?_ (by decide)
    | with_reducible refine onCtx_in ?_ (fun _ => ?_)
    | split
    | dsimp only)

theorem clearPoints_within (s : State) (n : Nat) : Within 196608 s (clearPoints s n) := by
  refine within_of (fun i hi => ?_) rfl rfl rfl
  revert hi; unfold eqPart; split <;> intro hi <;> trivial

theorem clearPoints_in {s : State} {n : Nat} {which : Nat} {s₀ : State} (h₀ : Within which s₀ s) (hm₀ : 196608 ||| which = which) : Within which s₀ (clearPoints s n) :=
  Within.step h₀ (clearPoints_within ..) hm₀

theorem resumeGroup_within (s : State) (g : GroupId) : Within 425984 s (resumeGroup s g) := by
  unfold resumeGroup
  repeat' (first
    | assumption
    | with_reducible (exact Within.refl _ _)
    | with_reducible (refine Within.foldl ?_ (fun _ _ => ?_))
    | with_reducible (refine Within.foldl_fst ?_ (fun _ _ => ?_))
    | with_reducible refine State.setGroup_in ?_ (by decide)
    | with_reducible refine setWd_in ?_ (by decide)
    | with_reducible refine settleGroup_in ?_ (by decide)
    | split
    | dsimp only)

theorem resumeGroup_in {s : State} {g : GroupId} {which : Nat} {s₀ : State} (h₀ : Within which s₀ s) (hm₀ : 425984 ||| which = which) : Within which s₀ (resumeGroup s g) :=
  Within.step h₀ (resumeGroup_within ..) hm₀

theorem detachDebugger_within (s : State) (n : Nat) (x : Ctx) : Within 26189944 s (detachDebugger s n x) := by
  unfold detachDebugger
  repeat' (first
    | assumption
    | with_reducible (exact Within.refl _ _)
    | with_reducible (refine Within.foldl ?_ (fun _ _ => ?_))
    | with_reducible (refine Within.foldl_fst ?_ (fun _ _ => ?_))
    | with_reducible refine State.setCtx_in ?_ (by decide)
    | with_reducible refine killByTrap_in ?_ (by decide)
    | with_reducible refine clearPoints_in ?_ (by decide)
    | with_reducible refine resumeGroup_in ?_ (by decide)
    | split
    | dsimp only)

theorem detachDebugger_in {s : State} {n : Nat} {x : Ctx} {which : Nat} {s₀ : State} (h₀ : Within which s₀ s) (hm₀ : 26189944 ||| which = which) : Within which s₀ (detachDebugger s n x) :=
  Within.step h₀ (detachDebugger_within ..) hm₀

theorem cmdDbgDetach_run  (s : State) (r : RingId) (c : OutCmd) : RanWithin 26189944 s (cmdDbgDetach.run s r c) := by
  unfold cmdDbgDetach
  dsimp only
  repeat' (first
    | assumption
    | with_reducible (exact Within.refl _ _)
    | with_reducible (refine RanWithin.fin ?_)
    | with_reducible (refine RanWithin.keep ?_)
    | with_reducible (refine RanWithin.gone ?_)
    | (exact RanWithin.later _ _)
    | with_reducible refine Ran.ok_in ?_ (by decide)
    | with_reducible refine onCtx_in ?_ (fun _ => ?_)
    | with_reducible refine detachDebugger_in ?_ (by decide)
    | split
    | dsimp only)

theorem cmdDbgHalt_run  (s : State) (r : RingId) (c : OutCmd) : RanWithin 32768 s (cmdDbgHalt.run s r c) := by
  unfold cmdDbgHalt
  dsimp only
  repeat' (first
    | assumption
    | with_reducible (exact Within.refl _ _)
    | with_reducible (refine RanWithin.fin ?_)
    | with_reducible (refine RanWithin.keep ?_)
    | with_reducible (refine RanWithin.gone ?_)
    | (exact RanWithin.later _ _)
    | with_reducible refine State.setGroup_in ?_ (by decide)
    | with_reducible refine Ran.okWith_in ?_ (by decide)
    | with_reducible refine onGroup_in ?_ (fun _ _ => ?_)
    | split
    | dsimp only)

theorem cmdDbgResume_run  (s : State) (r : RingId) (c : OutCmd) : RanWithin 425984 s (cmdDbgResume.run s r c) := by
  unfold cmdDbgResume
  dsimp only
  repeat' (first
    | assumption
    | with_reducible (exact Within.refl _ _)
    | with_reducible (refine RanWithin.fin ?_)
    | with_reducible (refine RanWithin.keep ?_)
    | with_reducible (refine RanWithin.gone ?_)
    | (exact RanWithin.later _ _)
    | with_reducible refine Ran.ok_in ?_ (by decide)
    | with_reducible refine onGroup_in ?_ (fun _ _ => ?_)
    | with_reducible refine resumeGroup_in ?_ (by decide)
    | split
    | dsimp only)

theorem cmdDbgKill_run  (s : State) (r : RingId) (c : OutCmd) : RanWithin 26124408 s (cmdDbgKill.run s r c) := by
  unfold cmdDbgKill
  dsimp only
  repeat' (first
    | assumption
    | with_reducible (exact Within.refl _ _)
    | with_reducible (refine RanWithin.fin ?_)
    | with_reducible (refine RanWithin.keep ?_)
    | with_reducible (refine RanWithin.gone ?_)
    | (exact RanWithin.later _ _)
    | with_reducible refine Ran.ok_in ?_ (by decide)
    | with_reducible refine killGroup_in ?_ (by decide)
    | with_reducible refine onGroup_in ?_ (fun _ _ => ?_)
    | split
    | dsimp only)

theorem stepDone_within (s : State) (g : GroupId) (gr : Group) (x : Ctx) (pc : Nat) (m : BitVec 64) (parked : Bool) : RanWithin 25198704 s (stepDone s g gr x pc m parked) := by
  unfold stepDone
  repeat' (first
    | assumption
    | with_reducible (exact Within.refl _ _)
    | with_reducible (refine RanWithin.fin ?_)
    | with_reducible (refine RanWithin.keep ?_)
    | with_reducible (refine RanWithin.gone ?_)
    | (exact RanWithin.later _ _)
    | with_reducible refine State.bump_in ?_ (by decide)
    | with_reducible refine State.setGroup_in ?_ (by decide)
    | with_reducible refine postEvent_in ?_ (by decide)
    | with_reducible refine Ran.okWith_in ?_ (by decide)
    | split
    | dsimp only)

theorem stepDone_in {s : State} {g : GroupId} {gr : Group} {x : Ctx} {pc : Nat} {m : BitVec 64} {parked : Bool} {which : Nat} {s₀ : State} (h₀ : Within which s₀ s) (hm₀ : 25198704 ||| which = which) : RanWithin which s₀ (stepDone s g gr x pc m parked) :=
  RanWithin.step h₀ (stepDone_within ..) hm₀

theorem stepOnce_within (s : State) (c : OutCmd) (x : Ctx) (gr : Group) : RanWithin 28293240 s (stepOnce s c x gr) := by
  unfold stepOnce
  extract_lets g s0
  have h0 : Within 28293240 s s0 := State.setGroup_in (Within.refl _ _) (by decide)
  clear_value s0
  split
  · exact Ran.notInState_in (Within.refl _ _) (by decide)
  · rename_i e he
    have ha : ResWithin 28293240 s0 (attempt e s0) := (attempt_within e s0).mono (by decide)
    revert ha
    generalize attempt e s0 = q
    intro ha
    split
    · exact RanWithin.later _ _
    · exact Ran.okWith_in (takeTrap_in h0 (by decide)) (by decide)
    · have h1 : Within 28293240 s (settleRes e s0 q) := h0.trans (settleRes_in ha (by decide))
      revert h1
      generalize settleRes e s0 q = s1
      intro h1
      dsimp only
      repeat' (first
        | assumption
        | with_reducible (refine RanWithin.keep ?_)
        | with_reducible refine State.setGroup_in ?_ (by decide)
        | with_reducible refine Ran.okWith_in ?_ (by decide)
        | with_reducible refine settleGroup_in ?_ (by decide)
        | with_reducible refine stepDone_in ?_ (by decide)
        | split
        | dsimp only)

theorem stepOnce_in {s : State} {c : OutCmd} {x : Ctx} {gr : Group} {which : Nat} {s₀ : State} (h₀ : Within which s₀ s) (hm₀ : 28293240 ||| which = which) :
    RanWithin which s₀ (stepOnce s c x gr) := RanWithin.step h₀ (stepOnce_within ..) hm₀

theorem stepAgain_within (s : State) (c : OutCmd) : RanWithin 25198704 s (stepAgain s c) := by
  unfold stepAgain
  repeat' (first
    | assumption
    | with_reducible (exact Within.refl _ _)
    | with_reducible (refine RanWithin.fin ?_)
    | with_reducible (refine RanWithin.keep ?_)
    | with_reducible (refine RanWithin.gone ?_)
    | (exact RanWithin.later _ _)
    | with_reducible refine State.setGroup_in ?_ (by decide)
    | with_reducible refine Ran.okWith_in ?_ (by decide)
    | with_reducible refine stepDone_in ?_ (by decide)
    | split
    | dsimp only)

theorem stepAgain_in {s : State} {c : OutCmd} {which : Nat} {s₀ : State} (h₀ : Within which s₀ s) (hm₀ : 25198704 ||| which = which) : RanWithin which s₀ (stepAgain s c) :=
  RanWithin.step h₀ (stepAgain_within ..) hm₀

theorem cmdDbgStep_run  (s : State) (r : RingId) (c : OutCmd) : RanWithin 28293240 s (cmdDbgStep.run s r c) := by
  unfold cmdDbgStep
  dsimp only
  repeat' (first
    | assumption
    | with_reducible (exact Within.refl _ _)
    | with_reducible (refine RanWithin.fin ?_)
    | with_reducible (refine RanWithin.keep ?_)
    | with_reducible (refine RanWithin.gone ?_)
    | (exact RanWithin.later _ _)
    | with_reducible refine onGroup_in ?_ (fun _ _ => ?_)
    | with_reducible refine stepOnce_in ?_ (by decide)
    | with_reducible refine stepAgain_in ?_ (by decide)
    | split
    | dsimp only)

theorem cmdDbgStep_again  (s : State) (r : RingId) (c : OutCmd) : RanWithin 28293240 s (cmdDbgStep.again s r c) := by
  unfold cmdDbgStep
  dsimp only
  repeat' (first
    | assumption
    | with_reducible (exact Within.refl _ _)
    | with_reducible (refine RanWithin.fin ?_)
    | with_reducible (refine RanWithin.keep ?_)
    | with_reducible (refine RanWithin.gone ?_)
    | (exact RanWithin.later _ _)
    | with_reducible refine onGroup_in ?_ (fun _ _ => ?_)
    | with_reducible refine stepOnce_in ?_ (by decide)
    | with_reducible refine stepAgain_in ?_ (by decide)
    | split
    | dsimp only)

theorem cmdDbgRead_run  (s : State) (r : RingId) (c : OutCmd) : RanWithin 0 s (cmdDbgRead.run s r c) := by
  unfold cmdDbgRead
  dsimp only
  repeat' (first
    | assumption
    | with_reducible (exact Within.refl _ _)
    | with_reducible (refine RanWithin.fin ?_)
    | with_reducible (refine RanWithin.keep ?_)
    | with_reducible (refine RanWithin.gone ?_)
    | (exact RanWithin.later _ _)
    | with_reducible refine Ran.okWith_in ?_ (by decide)
    | with_reducible refine onGroup_in ?_ (fun _ _ => ?_)
    | split
    | dsimp only)

theorem cmdDbgWrite_run  (s : State) (r : RingId) (c : OutCmd) : RanWithin 32768 s (cmdDbgWrite.run s r c) := by
  unfold cmdDbgWrite
  dsimp only
  repeat' (first
    | assumption
    | with_reducible (exact Within.refl _ _)
    | with_reducible (refine RanWithin.fin ?_)
    | with_reducible (refine RanWithin.keep ?_)
    | with_reducible (refine RanWithin.gone ?_)
    | (exact RanWithin.later _ _)
    | with_reducible refine State.setGroup_in ?_ (by decide)
    | with_reducible refine Ran.ok_in ?_ (by decide)
    | with_reducible refine onGroup_in ?_ (fun _ _ => ?_)
    | split
    | dsimp only)

theorem cmdDbgBpSet_run  (s : State) (r : RingId) (c : OutCmd) : RanWithin 65536 s (cmdDbgBpSet.run s r c) := by
  unfold cmdDbgBpSet
  dsimp only
  repeat' (first
    | assumption
    | with_reducible (exact Within.refl _ _)
    | with_reducible (refine RanWithin.fin ?_)
    | with_reducible (refine RanWithin.keep ?_)
    | with_reducible (refine RanWithin.gone ?_)
    | (exact RanWithin.later _ _)
    | with_reducible refine State.setUnit_in ?_ (by decide)
    | with_reducible refine Ran.ok_in ?_ (by decide)
    | with_reducible refine Ran.resource_in ?_ (by decide)
    | with_reducible refine onCtx_in ?_ (fun _ => ?_)
    | split
    | dsimp only)

theorem cmdDbgWpSet_run  (s : State) (r : RingId) (c : OutCmd) : RanWithin 131072 s (cmdDbgWpSet.run s r c) := by
  unfold cmdDbgWpSet
  dsimp only
  repeat' (first
    | assumption
    | with_reducible (exact Within.refl _ _)
    | with_reducible (refine RanWithin.fin ?_)
    | with_reducible (refine RanWithin.keep ?_)
    | with_reducible (refine RanWithin.gone ?_)
    | (exact RanWithin.later _ _)
    | with_reducible refine State.setCluster_in ?_ (by decide)
    | with_reducible refine Ran.ok_in ?_ (by decide)
    | with_reducible refine Ran.resource_in ?_ (by decide)
    | with_reducible refine onCtx_in ?_ (fun _ => ?_)
    | split
    | dsimp only)

theorem cmdDbgStatus_run  (s : State) (r : RingId) (c : OutCmd) : RanWithin 0 s (cmdDbgStatus.run s r c) := by
  unfold cmdDbgStatus
  dsimp only
  repeat' (first
    | assumption
    | with_reducible (exact Within.refl _ _)
    | with_reducible (refine RanWithin.fin ?_)
    | with_reducible (refine RanWithin.keep ?_)
    | with_reducible (refine RanWithin.gone ?_)
    | (exact RanWithin.later _ _)
    | with_reducible refine listResult_in ?_ (by decide)
    | with_reducible refine onCtx_in ?_ (fun _ => ?_)
    | split
    | dsimp only)

end Sys2Proof.Machine
end

