-- ==== Sys2Proof/Laws/Within/Mem.lean ====
section
/-! SUPPORT. What the operations of Machine/Mem.lean may touch: one lemma for each. -/

namespace Sys2Proof.Machine

open Sys2Proof

set_option linter.unusedTactic false
set_option linter.unreachableTactic false

theorem cmdMemInfo_run  (s : State) (r : RingId) (c : OutCmd) : RanWithin 0 s (cmdMemInfo.run s r c) := by
  unfold cmdMemInfo
  dsimp only
  repeat' (first
    | assumption
    | with_reducible (exact Within.refl _ _)
    | with_reducible (refine RanWithin.fin ?_)
    | with_reducible (refine RanWithin.keep ?_)
    | with_reducible (refine RanWithin.gone ?_)
    | (exact RanWithin.later _ _)
    | with_reducible refine Ran.okWith_in ?_ (by decide)
    | split
    | dsimp only)

theorem cmdMemMap_run  (s : State) (r : RingId) (c : OutCmd) : RanWithin 8200 s (cmdMemMap.run s r c) := by
  unfold cmdMemMap
  dsimp only
  repeat' (first
    | assumption
    | with_reducible (exact Within.refl _ _)
    | with_reducible (refine RanWithin.fin ?_)
    | with_reducible (refine RanWithin.keep ?_)
    | with_reducible (refine RanWithin.gone ?_)
    | (exact RanWithin.later _ _)
    | with_reducible refine State.setCtx_in ?_ (by decide)
    | with_reducible refine Ran.ok_in ?_ (by decide)
    | with_reducible refine Ran.denied_in ?_ (by decide)
    | with_reducible refine Ran.notInStateFree_in ?_ (by decide)
    | with_reducible refine Ran.resource_in ?_ (by decide)
    | with_reducible refine withCtx_in ?_ (fun _ => ?_)
    | split
    | dsimp only)

theorem cmdMemUnmap_run  (s : State) (r : RingId) (c : OutCmd) : RanWithin 40976 s (cmdMemUnmap.run s r c) := by
  unfold cmdMemUnmap
  dsimp only
  repeat' (first
    | assumption
    | with_reducible (exact Within.refl _ _)
    | with_reducible (refine RanWithin.fin ?_)
    | with_reducible (refine RanWithin.keep ?_)
    | with_reducible (refine RanWithin.gone ?_)
    | (exact RanWithin.later _ _)
    | with_reducible refine State.setCtx_in ?_ (by decide)
    | with_reducible refine Ran.ok_in ?_ (by decide)
    | with_reducible refine Ran.badArg_in ?_ (by decide)
    | with_reducible refine setOut_in ?_ (by decide)
    | with_reducible refine withCtx_in ?_ (fun _ => ?_)
    | with_reducible refine Env.write_in ?_ (by decide)
    | split
    | dsimp only)

theorem cmdMemUnmap_again  (s : State) (r : RingId) (c : OutCmd) : RanWithin 40976 s (cmdMemUnmap.again s r c) := by
  unfold cmdMemUnmap
  dsimp only
  repeat' (first
    | assumption
    | with_reducible (exact Within.refl _ _)
    | with_reducible (refine RanWithin.fin ?_)
    | with_reducible (refine RanWithin.keep ?_)
    | with_reducible (refine RanWithin.gone ?_)
    | (exact RanWithin.later _ _)
    | with_reducible refine State.setCtx_in ?_ (by decide)
    | with_reducible refine Ran.ok_in ?_ (by decide)
    | with_reducible refine Ran.badArg_in ?_ (by decide)
    | with_reducible refine setOut_in ?_ (by decide)
    | with_reducible refine withCtx_in ?_ (fun _ => ?_)
    | with_reducible refine Env.write_in ?_ (by decide)
    | split
    | dsimp only)

theorem remap_within (s : State) (c : OutCmd) : Within 8192 s (remap s c) := by
  unfold remap
  repeat' (first
    | assumption
    | with_reducible (exact Within.refl _ _)
    | with_reducible refine State.setCtx_in ?_ (by decide)
    | split
    | dsimp only)

theorem remap_in {s : State} {c : OutCmd} {which : Nat} {s₀ : State} (h₀ : Within which s₀ s) (hm₀ : 8192 ||| which = which) : Within which s₀ (remap s c) :=
  Within.step h₀ (remap_within ..) hm₀

theorem copyOut_within (c : OutCmd) (r : RingId) (src : State → Nat → List Byte) (k i : Nat) (s : State) : RanWithin 27269240 s (copyOut c r src k i s) := by
  induction k generalizing i s with
  | zero => exact Within.refl _ _
  | succ k ih =>
    unfold copyOut
    repeat' (first
      | with_reducible refine RanWithin.step ?_ (ih _ _) (by decide)
      | assumption
      | with_reducible (exact Within.refl _ _)
      | with_reducible (refine RanWithin.fin ?_)
      | with_reducible (refine RanWithin.keep ?_)
      | with_reducible (refine RanWithin.gone ?_)
      | (exact RanWithin.later _ _)
      | with_reducible refine State.setHost_in (fun h => Memory.wf_store _ _ h) ?_ (by decide)
      | with_reducible refine touch_in ?_ (by decide)
      | with_reducible refine ringErr_in ?_ (by decide)
      | with_reducible refine Ran.ok_in ?_ (by decide)
      | split
      | dsimp only)

theorem copyOut_in {c : OutCmd} {r : RingId} {src : State → Nat → List Byte} {k i : Nat} {s : State} {which : Nat} {s₀ : State} (h₀ : Within which s₀ s) (hm₀ : 27269240 ||| which = which) :
    RanWithin which s₀ (copyOut c r src k i s) := RanWithin.step h₀ (copyOut_within ..) hm₀

theorem copyIn_within (s : State) (r : RingId) (c : OutCmd) : RanWithin 27269240 s (copyIn s r c) := by
  unfold copyIn
  repeat' (first
    | assumption
    | with_reducible (exact Within.refl _ _)
    | with_reducible (refine RanWithin.fin ?_)
    | with_reducible (refine RanWithin.keep ?_)
    | with_reducible (refine RanWithin.gone ?_)
    | (exact RanWithin.later _ _)
    | with_reducible (refine Within.foldl ?_ (fun _ _ => ?_))
    | with_reducible (refine Within.foldl_fst ?_ (fun _ _ => ?_))
    | with_reducible refine storeMem_in ?_ (by decide)
    | with_reducible refine ringErr_in ?_ (by decide)
    | with_reducible refine Ran.ok_in ?_ (by decide)
    | split
    | dsimp only
    | with_reducible refine free_in ?_ (by decide))

theorem copyIn_in {s : State} {r : RingId} {c : OutCmd} {which : Nat} {s₀ : State} (h₀ : Within which s₀ s) (hm₀ : 27269240 ||| which = which) : RanWithin which s₀ (copyIn s r c) :=
  RanWithin.step h₀ (copyIn_within ..) hm₀

theorem cmdMemHostCopy_run  (s : State) (r : RingId) (c : OutCmd) : RanWithin 27269240 s (cmdMemHostCopy.run s r c) := by
  unfold cmdMemHostCopy
  dsimp only
  repeat' (first
    | assumption
    | with_reducible (exact Within.refl _ _)
    | with_reducible (refine RanWithin.fin ?_)
    | with_reducible (refine RanWithin.keep ?_)
    | with_reducible (refine RanWithin.gone ?_)
    | (exact RanWithin.later _ _)
    | with_reducible refine Ran.denied_in ?_ (by decide)
    | with_reducible refine copyOut_in ?_ (by decide)
    | with_reducible refine copyIn_in ?_ (by decide)
    | split
    | dsimp only)

theorem cmdMemPoisonList_run  (s : State) (r : RingId) (c : OutCmd) : RanWithin 0 s (cmdMemPoisonList.run s r c) := by
  unfold cmdMemPoisonList
  dsimp only
  repeat' (first
    | assumption
    | with_reducible (exact Within.refl _ _)
    | with_reducible (refine RanWithin.fin ?_)
    | with_reducible (refine RanWithin.keep ?_)
    | with_reducible (refine RanWithin.gone ?_)
    | (exact RanWithin.later _ _)
    | with_reducible refine listResult_in ?_ (by decide)
    | split
    | dsimp only)

theorem cmdMemThermalCfg_run  (s : State) (r : RingId) (c : OutCmd) : RanWithin 2048 s (cmdMemThermalCfg.run s r c) := by
  unfold cmdMemThermalCfg
  dsimp only
  repeat' (first
    | assumption
    | with_reducible (exact Within.refl _ _)
    | with_reducible (refine RanWithin.fin ?_)
    | with_reducible (refine RanWithin.keep ?_)
    | with_reducible (refine RanWithin.gone ?_)
    | (exact RanWithin.later _ _)
    | with_reducible refine State.setMemSys_in rfl ?_ (by decide)
    | with_reducible refine Ran.okWith_in ?_ (by decide)
    | with_reducible refine pf0Only_in ?_ (fun _ => ?_)
    | split
    | dsimp only)

theorem cmdMemScrubCfg_run  (s : State) (r : RingId) (c : OutCmd) : RanWithin 2048 s (cmdMemScrubCfg.run s r c) := by
  unfold cmdMemScrubCfg
  dsimp only
  repeat' (first
    | assumption
    | with_reducible (exact Within.refl _ _)
    | with_reducible (refine RanWithin.fin ?_)
    | with_reducible (refine RanWithin.keep ?_)
    | with_reducible (refine RanWithin.gone ?_)
    | (exact RanWithin.later _ _)
    | with_reducible refine State.setMemSys_in rfl ?_ (by decide)
    | with_reducible refine Ran.ok_in ?_ (by decide)
    | with_reducible refine pf0Only_in ?_ (fun _ => ?_)
    | split
    | dsimp only)

theorem setShared_within (s : State) (k : Nat) (x : Shared) : Within 512 s (setShared s k x) := by
  unfold setShared
  repeat' (first
    | assumption
    | with_reducible (exact Within.refl _ _)
    | with_reducible refine State.setKeep_in rfl ?_ (by decide)
    | split
    | dsimp only)

theorem setShared_in {s : State} {k : Nat} {x : Shared} {which : Nat} {s₀ : State} (h₀ : Within which s₀ s) (hm₀ : 512 ||| which = which) : Within which s₀ (setShared s k x) :=
  Within.step h₀ (setShared_within ..) hm₀

theorem cmdMemSharedAlloc_run  (s : State) (r : RingId) (c : OutCmd) : RanWithin 2568 s (cmdMemSharedAlloc.run s r c) := by
  unfold cmdMemSharedAlloc
  dsimp only
  repeat' (first
    | assumption
    | with_reducible (exact Within.refl _ _)
    | with_reducible (refine RanWithin.fin ?_)
    | with_reducible (refine RanWithin.keep ?_)
    | with_reducible (refine RanWithin.gone ?_)
    | (exact RanWithin.later _ _)
    | with_reducible (refine Within.foldl ?_ (fun _ _ => ?_))
    | with_reducible (refine Within.foldl_fst ?_ (fun _ _ => ?_))
    | with_reducible refine State.setKeep_in rfl ?_ (by decide)
    | with_reducible refine State.setMemSys_in rfl ?_ (by decide)
    | with_reducible refine State.tick_in ?_ (by decide)
    | with_reducible refine Ran.okWith_in ?_ (by decide)
    | with_reducible refine Ran.notInStateFree_in ?_ (by decide)
    | with_reducible refine Ran.resource_in ?_ (by decide)
    | with_reducible refine pf0Only_in ?_ (fun _ => ?_)
    | with_reducible refine setShared_in ?_ (by decide)
    | split
    | dsimp only)

theorem placeError_within (s : State) (a : Nat) (k : ErrKind) : Within 2048 s (placeError s a k) := by
  unfold placeError
  repeat' (first
    | assumption
    | with_reducible (exact Within.refl _ _)
    | with_reducible refine State.setMemSys_in rfl ?_ (by decide)
    | split
    | dsimp only)

theorem placeError_in {s : State} {a : Nat} {k : ErrKind} {which : Nat} {s₀ : State} (h₀ : Within which s₀ s) (hm₀ : 2048 ||| which = which) : Within which s₀ (placeError s a k) :=
  Within.step h₀ (placeError_within ..) hm₀

theorem cmdMemInject_run  (s : State) (r : RingId) (c : OutCmd) : RanWithin 2048 s (cmdMemInject.run s r c) := by
  unfold cmdMemInject
  dsimp only
  repeat' (first
    | assumption
    | with_reducible (exact Within.refl _ _)
    | with_reducible (refine RanWithin.fin ?_)
    | with_reducible (refine RanWithin.keep ?_)
    | with_reducible (refine RanWithin.gone ?_)
    | (exact RanWithin.later _ _)
    | with_reducible refine Ran.ok_in ?_ (by decide)
    | with_reducible refine Ran.denied_in ?_ (by decide)
    | with_reducible refine pf0Only_in ?_ (fun _ => ?_)
    | with_reducible refine placeError_in ?_ (by decide)
    | split
    | dsimp only)

theorem postRepair_within (s : State) (k : Nat) (x : Repair) (result : Nat) : Within 25165936 s (postRepair s k x result) := by
  unfold postRepair
  repeat' (first
    | assumption
    | with_reducible (exact Within.refl _ _)
    | with_reducible (refine Within.foldl ?_ (fun _ _ => ?_))
    | with_reducible (refine Within.foldl_fst ?_ (fun _ _ => ?_))
    | with_reducible refine postEvent_in ?_ (by decide)
    | split
    | dsimp only)

theorem postRepair_in {s : State} {k : Nat} {x : Repair} {result : Nat} {which : Nat} {s₀ : State} (h₀ : Within which s₀ s) (hm₀ : 25165936 ||| which = which) : Within which s₀ (postRepair s k x result) :=
  Within.step h₀ (postRepair_within ..) hm₀

end Sys2Proof.Machine
end

