-- ==== Sys2Proof/Laws/Within/SyncCmd.lean ====
section
/-! SUPPORT. What the operations of Machine/SyncCmd.lean may touch: one lemma for each. -/

namespace Sys2Proof.Machine

open Sys2Proof

set_option linter.unusedTactic false
set_option linter.unreachableTactic false

theorem Within.elim {α : Type} {m : Nat} {s a : State} {o : Option α} {f : α → State} (ha : Within m s a) (hf : ∀ x, Within m s (f x)) :
    Within m s (o.elim a f) := by
  cases o
  · exact ha
  · exact hf _

theorem signalApply_within (s : State) (n : Nat) : Within 26124408 s (signalApply s n) := by
  unfold signalApply
  repeat' (first
    | assumption
    | with_reducible (exact Within.refl _ _)
    | with_reducible refine Within.elim ?_ (fun _ => ?_)
    | with_reducible refine State.setSync_in ?_ (by decide)
    | with_reducible refine finish_in ?_ (by decide)
    | with_reducible refine applyChange_in ?_ (by decide)
    | split
    | dsimp only)

theorem signalApply_in {s : State} {n : Nat} {which : Nat} {s₀ : State} (h₀ : Within which s₀ s) (hm₀ : 26124408 ||| which = which) : Within which s₀ (signalApply s n) :=
  Within.step h₀ (signalApply_within ..) hm₀

theorem cmdSyncInfo_run  (s : State) (r : RingId) (c : OutCmd) : RanWithin 0 s (cmdSyncInfo.run s r c) := by
  unfold cmdSyncInfo
  dsimp only
  repeat' (first
    | assumption
    | with_reducible (exact Within.refl _ _)
    | with_reducible (refine RanWithin.fin ?_)
    | with_reducible (refine RanWithin.keep ?_)
    | with_reducible (refine RanWithin.gone ?_)
    | (exact RanWithin.later _ _)
    | with_reducible refine Ran.okWith_in ?_ (by decide)
    | with_reducible refine withCtx_in ?_ (fun _ => ?_)
    | split
    | dsimp only)

theorem moveObj_within (s : State) (n : Nat) (store vid : Nat) : Within 270336 s (moveObj s n store vid) := by
  unfold moveObj
  repeat' (first
    | assumption
    | with_reducible (exact Within.refl _ _)
    | with_reducible refine State.setCtx_in ?_ (by decide)
    | with_reducible refine State.setObj_in ?_ (by decide)
    | with_reducible refine State.setSync_in ?_ (by decide)
    | split
    | dsimp only)

theorem moveObj_in {s : State} {n : Nat} {store vid : Nat} {which : Nat} {s₀ : State} (h₀ : Within which s₀ s) (hm₀ : 270336 ||| which = which) : Within which s₀ (moveObj s n store vid) :=
  Within.step h₀ (moveObj_within ..) hm₀

theorem cmdSyncHome_run  (s : State) (r : RingId) (c : OutCmd) : RanWithin 270344 s (cmdSyncHome.run s r c) := by
  unfold cmdSyncHome
  dsimp only
  repeat' (first
    | assumption
    | with_reducible (exact Within.refl _ _)
    | with_reducible (refine RanWithin.fin ?_)
    | with_reducible (refine RanWithin.keep ?_)
    | with_reducible (refine RanWithin.gone ?_)
    | (exact RanWithin.later _ _)
    | with_reducible (refine Within.foldl ?_ (fun _ _ => ?_))
    | with_reducible (refine Within.foldl_fst ?_ (fun _ _ => ?_))
    | with_reducible refine Ran.ok_in ?_ (by decide)
    | with_reducible refine Ran.denied_in ?_ (by decide)
    | with_reducible refine Ran.notInStateFree_in ?_ (by decide)
    | with_reducible refine Ran.resource_in ?_ (by decide)
    | with_reducible refine withCtx_in ?_ (fun _ => ?_)
    | with_reducible refine moveObj_in ?_ (by decide)
    | split
    | dsimp only)

theorem cmdSyncSet_run  (s : State) (r : RingId) (c : OutCmd) : RanWithin 26124408 s (cmdSyncSet.run s r c) := by
  unfold cmdSyncSet
  dsimp only
  repeat' (first
    | assumption
    | with_reducible (exact Within.refl _ _)
    | with_reducible (refine RanWithin.fin ?_)
    | with_reducible (refine RanWithin.keep ?_)
    | with_reducible (refine RanWithin.gone ?_)
    | (exact RanWithin.later _ _)
    | with_reducible (refine Within.foldl ?_ (fun _ _ => ?_))
    | with_reducible (refine Within.foldl_fst ?_ (fun _ _ => ?_))
    | with_reducible refine State.setObj_in ?_ (by decide)
    | with_reducible refine Ran.ok_in ?_ (by decide)
    | with_reducible refine Ran.notInStateFree_in ?_ (by decide)
    | with_reducible refine withCtx_in ?_ (fun _ => ?_)
    | with_reducible refine applyChange_in ?_ (by decide)
    | split
    | dsimp only)

theorem cmdSyncSignal_run  (s : State) (r : RingId) (c : OutCmd) : RanWithin 262144 s (cmdSyncSignal.run s r c) := by
  unfold cmdSyncSignal
  dsimp only
  repeat' (first
    | assumption
    | with_reducible (exact Within.refl _ _)
    | with_reducible (refine RanWithin.fin ?_)
    | with_reducible (refine RanWithin.keep ?_)
    | with_reducible (refine RanWithin.gone ?_)
    | (exact RanWithin.later _ _)
    | with_reducible refine State.setSync_in ?_ (by decide)
    | with_reducible refine withCtx_in ?_ (fun _ => ?_)
    | split
    | dsimp only)

theorem syncDump_within (s : State) (c : OutCmd) : RanWithin 0 s (syncDump s c) := by
  unfold syncDump
  repeat' (first
    | assumption
    | with_reducible (exact Within.refl _ _)
    | with_reducible (refine RanWithin.fin ?_)
    | with_reducible (refine RanWithin.keep ?_)
    | with_reducible (refine RanWithin.gone ?_)
    | (exact RanWithin.later _ _)
    | split
    | dsimp only)

theorem syncDump_in {s : State} {c : OutCmd} {which : Nat} {s₀ : State} (h₀ : Within which s₀ s) (hm₀ : 0 ||| which = which) : RanWithin which s₀ (syncDump s c) :=
  RanWithin.step h₀ (syncDump_within ..) hm₀

theorem cmdSyncDump_run  (s : State) (r : RingId) (c : OutCmd) : RanWithin 0 s (cmdSyncDump.run s r c) := by
  unfold cmdSyncDump
  dsimp only
  repeat' (first
    | assumption
    | with_reducible (exact Within.refl _ _)
    | with_reducible (refine RanWithin.fin ?_)
    | with_reducible (refine RanWithin.keep ?_)
    | with_reducible (refine RanWithin.gone ?_)
    | (exact RanWithin.later _ _)
    | with_reducible refine pf0Only_in ?_ (fun _ => ?_)
    | with_reducible refine withCtx_in ?_ (fun _ => ?_)
    | with_reducible refine syncDump_in ?_ (by decide)
    | split
    | dsimp only)

theorem cmdSyncBalance_run  (s : State) (r : RingId) (c : OutCmd) : RanWithin 0 s (cmdSyncBalance.run s r c) := by
  unfold cmdSyncBalance
  dsimp only
  repeat' (first
    | assumption
    | with_reducible (exact Within.refl _ _)
    | with_reducible (refine RanWithin.fin ?_)
    | with_reducible (refine RanWithin.keep ?_)
    | with_reducible (refine RanWithin.gone ?_)
    | (exact RanWithin.later _ _)
    | with_reducible refine listResult_in ?_ (by decide)
    | with_reducible refine withCtx_in ?_ (fun _ => ?_)
    | split
    | dsimp only)

end Sys2Proof.Machine
end

