-- ==== Sys2Proof/Laws/Within/CtxCmd.lean ====
section
/-! SUPPORT. What the operations of Machine/CtxCmd.lean may touch: one lemma for each. -/

namespace Sys2Proof.Machine

open Sys2Proof

set_option linter.unusedTactic false
set_option linter.unreachableTactic false

theorem takeObjs_within (s : State) (n : Nat) (vids : List Nat) : Within 262144 s (takeObjs s n vids) := by
  unfold takeObjs
  repeat' (first
    | assumption
    | with_reducible (exact Within.refl _ _)
    | with_reducible (refine Within.foldl ?_ (fun _ _ => ?_))
    | with_reducible (refine Within.foldl_fst ?_ (fun _ _ => ?_))
    | with_reducible refine State.setObj_in ?_ (by decide)
    | split
    | dsimp only)

theorem takeObjs_in {s : State} {n : Nat} {vids : List Nat} {which : Nat} {s₀ : State} (h₀ : Within which s₀ s) (hm₀ : 262144 ||| which = which) : Within which s₀ (takeObjs s n vids) :=
  Within.step h₀ (takeObjs_within ..) hm₀

theorem ctxLoadRun_within (s : State) (r : RingId) (c : OutCmd) : RanWithin 17064472 s (ctxLoadRun s r c) := by
  unfold ctxLoadRun
  extract_lets i b kib vids n p0 s0 y1 s1
  have h0 : Within 17064472 s s0 := by
    simp only [s0]; split
    · exact State.setPart_in (Within.refl _ _) (by decide)
    · exact Within.refl _ _
  clear_value s0
  have h1 : Within 17064472 s s1 := nextCtx_in (takeObjs_in (State.setCtx_in h0 (by decide)) (by decide)) (by decide)
  clear_value s1
  clear_value b kib vids
  repeat' (first
    | exact Ran.okWith_in h1 (by decide)
    | with_reducible (exact Within.refl _ _)
    | with_reducible refine Ran.denied_in ?_ (by decide)
    | with_reducible refine Ran.notInStateFree_in ?_ (by decide)
    | with_reducible refine RanWithin.fin ?_
    | with_reducible refine ringErr_in ?_ (by decide)
    | with_reducible refine Ran.badArg_in ?_ (by decide)
    | with_reducible refine Ran.unsupported_in ?_ (by decide)
    | with_reducible refine Ran.resource_in ?_ (by decide)
    | split)

theorem ctxLoadRun_in {s : State} {r : RingId} {c : OutCmd} {which : Nat} {s₀ : State} (h₀ : Within which s₀ s) (hm₀ : 17064472 ||| which = which) : RanWithin which s₀ (ctxLoadRun s r c) :=
  RanWithin.step h₀ (ctxLoadRun_within ..) hm₀

theorem cmdCtxLoad_run  (s : State) (r : RingId) (c : OutCmd) : RanWithin 17064472 s (cmdCtxLoad.run s r c) := by
  unfold cmdCtxLoad
  dsimp only
  repeat' (first
    | assumption
    | with_reducible (exact Within.refl _ _)
    | with_reducible (refine RanWithin.fin ?_)
    | with_reducible (refine RanWithin.keep ?_)
    | with_reducible (refine RanWithin.gone ?_)
    | (exact RanWithin.later _ _)
    | with_reducible refine ctxLoadRun_in ?_ (by decide)
    | split
    | dsimp only)

theorem placeGroups_within (n : Nat) (x : Ctx) (c b groups pc : Nat) (arg : Word64) (k i : Nat) (s : State) (gs : List GroupId) :
    Within 32776 s (placeGroups n x c b groups pc arg k i s gs).1 := by
  induction k generalizing i s gs with
  | zero => exact Within.refl _ _
  | succ k ih => exact Within.trans (State.tick_in (State.setGroup_in (Within.refl _ _) (by decide)) (by decide)) (ih _ _ _)

theorem placeGroups_in {n : Nat} {x : Ctx} {c b groups pc : Nat} {arg : Word64} {x0 : Nat} {x1 : Nat} {x2 : State} {x3 : List GroupId} {which : Nat} {s₀ : State} (h₀ : Within which s₀ x2) (hm₀ : 32776 ||| which = which) : Within which s₀ (placeGroups n x c b groups pc arg x0 x1 x2 x3).1 :=
  Within.step h₀ (placeGroups_within ..) hm₀

theorem placeGroups_fst {n : Nat} {x : Ctx} {c b groups pc : Nat} {arg : Word64} {x0 : Nat} {x1 : Nat} {x2 : State} {x3 : List GroupId} {which : Nat} {s₀ t₀ : State} {y} (he₀ : placeGroups n x c b groups pc arg x0 x1 x2 x3 = (t₀, y)) (h₀ : Within which s₀ x2) (hm₀ : 32776 ||| which = which) : Within which s₀ t₀ := by
  have k := placeGroups_in (x2 := x2) (n := n) (x := x) (c := c) (b := b) (groups := groups) (pc := pc) (arg := arg) (x0 := x0) (x1 := x1) (x3 := x3) h₀ hm₀; rw [he₀] at k; exact k

theorem placeBlock_within {s : State} {n : Nat} {x : Ctx} {c : Nat} {e : Entry} {arg : Word64} {done : Option Nat} {t : State} {b : Nat}
    (h : placeBlock s n x c e arg done = .ok (t, b)) : Within 163848 s t := by
  unfold placeBlock at h
  dsimp only at h
  repeat' split at h
  all_goals first
    | (cases h; done)
    | (simp only [Except.ok.injEq, Prod.mk.injEq] at h; rw [← h.1]
       exact setBlock_in (Within.step (State.tick_in (State.tick_in (Within.refl _ _) (by decide)) (by decide)) (placeGroups_within ..) (by decide)) (by decide))

theorem placeBlocks_within {n : Nat} {x : Ctx} {c : Nat} {e : Entry} {arg : Word64} {done : Option Nat} {k : Nat} {s t : State} {bs : List Nat}
    (h : placeBlocks n x c e arg done k s = .ok (t, bs)) : Within 163848 s t := by
  induction k generalizing s bs with
  | zero =>
    unfold placeBlocks at h
    cases h; exact Within.refl _ _
  | succ k ih =>
    unfold placeBlocks at h
    split at h
    · cases h
    · rename_i h1
      split at h
      · cases h
      · rename_i h2
        cases h; exact Within.trans (placeBlock_within h1) (ih h2)

theorem placeBlocks_in {n : Nat} {x : Ctx} {c : Nat} {e : Entry} {arg : Word64} {done : Option Nat} {k : Nat} {s t : State} {bs : List Nat}
    (h : placeBlocks n x c e arg done k s = .ok (t, bs)) {which : Nat} {s₀ : State} (h₀ : Within which s₀ s) (hm₀ : 163848 ||| which = which) : Within which s₀ t :=
  Within.step h₀ (placeBlocks_within h) hm₀

theorem cmdCtxLaunch_run  (s : State) (r : RingId) (c : OutCmd) : RanWithin 163848 s (cmdCtxLaunch.run s r c) := by
  unfold cmdCtxLaunch
  dsimp only
  repeat' (first
    | assumption
    | with_reducible (exact Within.refl _ _)
    | with_reducible (refine RanWithin.fin ?_)
    | with_reducible (refine RanWithin.keep ?_)
    | with_reducible (refine RanWithin.gone ?_)
    | (exact RanWithin.later _ _)
    | with_reducible refine Ran.ok_in ?_ (by decide)
    | with_reducible refine Ran.okWith_in ?_ (by decide)
    | with_reducible refine Ran.badArg_in ?_ (by decide)
    | with_reducible refine Ran.denied_in ?_ (by decide)
    | with_reducible refine Ran.notInState_in ?_ (by decide)
    | with_reducible refine Ran.resource_in ?_ (by decide)
    | with_reducible refine withCtx_in ?_ (fun _ => ?_)
    | refine placeBlocks_in (by assumption) ?_ (by decide)
    | split
    | dsimp only)

theorem scrubObjs_within (s : State) (n : Nat) (x : Ctx) : Within 25428080 s (scrubObjs s n x) := by
  unfold scrubObjs
  repeat' (first
    | assumption
    | with_reducible (exact Within.refl _ _)
    | with_reducible refine State.bump_in ?_ (by decide)
    | with_reducible refine State.setSync_in ?_ (by decide)
    | with_reducible refine postEvent_in ?_ (by decide)
    | split
    | dsimp only)

theorem scrubObjs_in {s : State} {n : Nat} {x : Ctx} {which : Nat} {s₀ : State} (h₀ : Within which s₀ s) (hm₀ : 25428080 ||| which = which) : Within which s₀ (scrubObjs s n x) :=
  Within.step h₀ (scrubObjs_within ..) hm₀

theorem closeContext_within (s : State) (n cause : Nat) : Within 26189944 s (closeContext s n cause) := by
  unfold closeContext
  repeat' (first
    | assumption
    | with_reducible (exact Within.refl _ _)
    | with_reducible refine State.delCtx_in ?_ (by decide)
    | with_reducible refine killContext_in ?_ (by decide)
    | with_reducible refine clearPoints_in ?_ (by decide)
    | with_reducible refine scrubObjs_in ?_ (by decide)
    | split
    | dsimp only)

theorem closeContext_in {s : State} {n cause : Nat} {which : Nat} {s₀ : State} (h₀ : Within which s₀ s) (hm₀ : 26189944 ||| which = which) : Within which s₀ (closeContext s n cause) :=
  Within.step h₀ (closeContext_within ..) hm₀

theorem cmdCtxClose_run  (s : State) (r : RingId) (c : OutCmd) : RanWithin 26189944 s (cmdCtxClose.run s r c) := by
  unfold cmdCtxClose
  dsimp only
  repeat' (first
    | assumption
    | with_reducible (exact Within.refl _ _)
    | with_reducible (refine RanWithin.fin ?_)
    | with_reducible (refine RanWithin.keep ?_)
    | with_reducible (refine RanWithin.gone ?_)
    | (exact RanWithin.later _ _)
    | with_reducible refine Ran.ok_in ?_ (by decide)
    | with_reducible refine Ran.notInState_in ?_ (by decide)
    | with_reducible refine withCtx_in ?_ (fun _ => ?_)
    | with_reducible refine closeContext_in ?_ (by decide)
    | split
    | dsimp only)

theorem cmdCtxStatus_run  (s : State) (r : RingId) (c : OutCmd) : RanWithin 0 s (cmdCtxStatus.run s r c) := by
  unfold cmdCtxStatus
  dsimp only
  repeat' (first
    | assumption
    | with_reducible (exact Within.refl _ _)
    | with_reducible (refine RanWithin.fin ?_)
    | with_reducible (refine RanWithin.keep ?_)
    | with_reducible (refine RanWithin.gone ?_)
    | (exact RanWithin.later _ _)
    | with_reducible refine Ran.okWith_in ?_ (by decide)
    | with_reducible refine withCtx_in ?_ (fun _ => ?_)
    | split
    | dsimp only)

end Sys2Proof.Machine
end

