-- ==== Sys2Proof/Laws/Within/Keep.lean ====
section
/-! SUPPORT. What the operations of Machine/Keep.lean may touch: one lemma for each. -/

namespace Sys2Proof.Machine

open Sys2Proof

set_option linter.unusedTactic false
set_option linter.unreachableTactic false

theorem setLastRec_svn (k : Keep) (f : FuseRec → FuseRec) : (setLastRec k f).svn = k.svn := by
  unfold setLastRec; split <;> rfl

theorem setSlot_within (s : State) (second : Bool) (x : FwSlot) : Within 256 s (setSlot s second x) := by
  unfold setSlot
  repeat' (first
    | assumption
    | with_reducible (exact Within.refl _ _)
    | with_reducible refine State.setLantern_in ?_ (by decide)
    | split
    | dsimp only)

theorem setSlot_in {s : State} {second : Bool} {x : FwSlot} {which : Nat} {s₀ : State} (h₀ : Within which s₀ s) (hm₀ : 256 ||| which = which) : Within which s₀ (setSlot s second x) :=
  Within.step h₀ (setSlot_within ..) hm₀

theorem zeroRange_within (s : State) (x : Nat × Nat) : Within 27269240 s (zeroRange s x) := by
  unfold zeroRange
  dsimp only
  refine Within.mono (State.setMemSys_stores _ _ (fun h => Memory.wf_zero _ _ h)) (by decide)

theorem zeroRange_in {s : State} {x : Nat × Nat} {which : Nat} {s₀ : State} (h₀ : Within which s₀ s) (hm₀ : 27269240 ||| which = which) : Within which s₀ (zeroRange s x) :=
  Within.step h₀ (zeroRange_within ..) hm₀

theorem zeroRanges_within (s : State) (xs : List (Nat × Nat)) : Within 27269240 s (zeroRanges s xs) := by
  unfold zeroRanges
  repeat' (first
    | assumption
    | with_reducible (exact Within.refl _ _)
    | with_reducible (refine Within.foldl ?_ (fun _ _ => ?_))
    | with_reducible (refine Within.foldl_fst ?_ (fun _ _ => ?_))
    | with_reducible refine zeroRange_in ?_ (by decide)
    | split
    | dsimp only)

theorem zeroRanges_in {s : State} {xs : List (Nat × Nat)} {which : Nat} {s₀ : State} (h₀ : Within which s₀ s) (hm₀ : 27269240 ||| which = which) : Within which s₀ (zeroRanges s xs) :=
  Within.step h₀ (zeroRanges_within ..) hm₀

theorem setMarks_within (s : State) (ms : List Nat) : Within 2048 s (setMarks s ms) := by
  unfold setMarks
  repeat' (first
    | assumption
    | with_reducible (exact Within.refl _ _)
    | with_reducible (refine Within.foldl ?_ (fun _ _ => ?_))
    | with_reducible (refine Within.foldl_fst ?_ (fun _ _ => ?_))
    | with_reducible refine State.setMemSys_in rfl ?_ (by decide)
    | split
    | dsimp only)

theorem setMarks_in {s : State} {ms : List Nat} {which : Nat} {s₀ : State} (h₀ : Within which s₀ s) (hm₀ : 2048 ||| which = which) : Within which s₀ (setMarks s ms) :=
  Within.step h₀ (setMarks_within ..) hm₀

theorem scrubCluster_within (s : State) (c : Nat) : Within 196608 s (scrubCluster s c) := by
  unfold scrubCluster
  repeat' (first
    | assumption
    | with_reducible (exact Within.refl _ _)
    | with_reducible (refine Within.foldl ?_ (fun _ _ => ?_))
    | with_reducible (refine Within.foldl_fst ?_ (fun _ _ => ?_))
    | with_reducible refine State.setCluster_in ?_ (by decide)
    | with_reducible refine State.setUnit_in ?_ (by decide)
    | split
    | dsimp only)

theorem scrubCluster_in {s : State} {c : Nat} {which : Nat} {s₀ : State} (h₀ : Within which s₀ s) (hm₀ : 196608 ||| which = which) : Within which s₀ (scrubCluster s c) :=
  Within.step h₀ (scrubCluster_within ..) hm₀

theorem eraseKeys_within (s : State) (fpn : Nat) : Within 512 s (eraseKeys s fpn) := by
  unfold eraseKeys
  repeat' (first
    | assumption
    | with_reducible (exact Within.refl _ _)
    | with_reducible refine State.setKeep_in rfl ?_ (by decide)
    | split
    | dsimp only)

theorem eraseKeys_in {s : State} {fpn : Nat} {which : Nat} {s₀ : State} (h₀ : Within which s₀ s) (hm₀ : 512 ||| which = which) : Within which s₀ (eraseKeys s fpn) :=
  Within.step h₀ (eraseKeys_within ..) hm₀

theorem saveJournals_within (s : State) (f : Ctx → Bool) : Within 4194304 s (saveJournals s f) := by
  unfold saveJournals
  repeat' (first
    | assumption
    | with_reducible (exact Within.refl _ _)
    | with_reducible refine Within.elim ?_ (fun _ => ?_)
    | with_reducible (refine Within.foldl ?_ (fun _ _ => ?_))
    | with_reducible (refine Within.foldl_fst ?_ (fun _ _ => ?_))
    | split
    | dsimp only
    | with_reducible refine journals_in ?_ (by decide))

theorem saveJournals_in {s : State} {f : Ctx → Bool} {which : Nat} {s₀ : State} (h₀ : Within which s₀ s) (hm₀ : 4194304 ||| which = which) : Within which s₀ (saveJournals s f) :=
  Within.step h₀ (saveJournals_within ..) hm₀

theorem dropLandings_within (s : State) (i : Nat) : Within 4194304 s (dropLandings s i) := by
  unfold dropLandings
  repeat' (first
    | assumption
    | with_reducible (exact Within.refl _ _)
    | split
    | dsimp only
    | with_reducible refine journals_in ?_ (by decide))

theorem dropLandings_in {s : State} {i : Nat} {which : Nat} {s₀ : State} (h₀ : Within which s₀ s) (hm₀ : 4194304 ||| which = which) : Within which s₀ (dropLandings s i) :=
  Within.step h₀ (dropLandings_within ..) hm₀

theorem scrubSlot_within (s : State) (i : Nat) (vf : Bool) : Within 31660664 s (scrubSlot s i vf) := by
  unfold scrubSlot
  repeat' (first
    | assumption
    | with_reducible (exact Within.refl _ _)
    | with_reducible (refine Within.foldl ?_ (fun _ _ => ?_))
    | with_reducible (refine Within.foldl_fst ?_ (fun _ _ => ?_))
    | with_reducible refine State.setFev_in ?_ (by decide)
    | with_reducible refine State.setKeep_in rfl ?_ (by decide)
    | with_reducible refine State.setPart_in ?_ (by decide)
    | with_reducible refine postEvent_in ?_ (by decide)
    | with_reducible refine zeroRanges_in ?_ (by decide)
    | with_reducible refine setMarks_in ?_ (by decide)
    | with_reducible refine scrubCluster_in ?_ (by decide)
    | with_reducible refine dropLandings_in ?_ (by decide)
    | split
    | dsimp only)

theorem scrubSlot_in {s : State} {i : Nat} {vf : Bool} {which : Nat} {s₀ : State} (h₀ : Within which s₀ s) (hm₀ : 31660664 ||| which = which) : Within which s₀ (scrubSlot s i vf) :=
  Within.step h₀ (scrubSlot_within ..) hm₀

theorem reportLost_within (s : State) (n : Nat) : Within 25690232 s (reportLost s n) := by
  unfold reportLost
  repeat' (first
    | assumption
    | with_reducible (exact Within.refl _ _)
    | with_reducible refine State.bump_in ?_ (by decide)
    | with_reducible refine tell_in ?_ (by decide)
    | split
    | dsimp only)

theorem reportLost_in {s : State} {n : Nat} {which : Nat} {s₀ : State} (h₀ : Within which s₀ s) (hm₀ : 25690232 ||| which = which) : Within which s₀ (reportLost s n) :=
  Within.step h₀ (reportLost_within ..) hm₀

theorem closeSlot_within (s : State) (i : Nat) : Within 30384760 s (closeSlot s i) := by
  unfold closeSlot
  repeat' (first
    | assumption
    | with_reducible (exact Within.refl _ _)
    | with_reducible (refine Within.foldl ?_ (fun _ _ => ?_))
    | with_reducible (refine Within.foldl_fst ?_ (fun _ _ => ?_))
    | with_reducible refine closeContext_in ?_ (by decide)
    | with_reducible refine eraseKeys_in ?_ (by decide)
    | with_reducible refine saveJournals_in ?_ (by decide)
    | with_reducible refine reportLost_in ?_ (by decide)
    | split
    | dsimp only)

theorem closeSlot_in {s : State} {i : Nat} {which : Nat} {s₀ : State} (h₀ : Within which s₀ s) (hm₀ : 30384760 ||| which = which) : Within which s₀ (closeSlot s i) :=
  Within.step h₀ (closeSlot_within ..) hm₀

theorem evalChange_within (old s : State) (n : Nat) : Within 25165936 s (evalChange old s n) := by
  unfold evalChange
  repeat' (first
    | assumption
    | with_reducible (exact Within.refl _ _)
    | with_reducible refine postEvent_in ?_ (by decide)
    | split
    | dsimp only)

theorem evalChange_in {old s : State} {n : Nat} {which : Nat} {s₀ : State} (h₀ : Within which s₀ s) (hm₀ : 25165936 ||| which = which) : Within which s₀ (evalChange old s n) :=
  Within.step h₀ (evalChange_within ..) hm₀

theorem zeroAll_within (s : State) : Within 6144 s (zeroAll s) := by
  unfold zeroAll
  refine Within.mono (State.setMemSys_stores _ _ (fun _ => rfl)) (by decide)

theorem zeroAll_in {s : State} {which : Nat} {s₀ : State} (h₀ : Within which s₀ s) (hm₀ : 6144 ||| which = which) : Within which s₀ (zeroAll s) :=
  Within.step h₀ (zeroAll_within ..) hm₀

theorem erase_within (s : State) : Within 30390904 s (erase s) := by
  unfold erase
  extract_lets s1 k s2
  have h2 : Within 30390904 s s2 :=
    State.setKeep_in rfl (Within.foldl (Within.refl _ _) (fun _ _ => closeContext_in (Within.refl _ _) (by decide))) (by decide)
  clear_value s2
  refine Within.step (zeroAll_in h2 (by decide)) (n := 4325376) ?_ (by decide)
  refine within_of (fun i hi => ?_) rfl rfl rfl
  revert hi; unfold eqPart; split <;> intro hi <;> trivial

theorem erase_in {s : State} {which : Nat} {s₀ : State} (h₀ : Within which s₀ s) (hm₀ : 30390904 ||| which = which) : Within which s₀ (erase s) :=
  Within.step h₀ (erase_within ..) hm₀

theorem lcActions_within (s : State) (old new : Nat) : Within 30390904 s (lcActions s old new) := by
  unfold lcActions
  repeat' (first
    | assumption
    | with_reducible (exact Within.refl _ _)
    | with_reducible refine State.setKeep_in rfl ?_ (by decide)
    | with_reducible refine zeroAll_in ?_ (by decide)
    | with_reducible refine erase_in ?_ (by decide)
    | split
    | dsimp only)

theorem lcActions_in {s : State} {old new : Nat} {which : Nat} {s₀ : State} (h₀ : Within which s₀ s) (hm₀ : 30390904 ||| which = which) : Within which s₀ (lcActions s old new) :=
  Within.step h₀ (lcActions_within ..) hm₀

theorem completeLc_within (s : State) : Within 30390904 s (completeLc s) := by
  unfold completeLc
  repeat' (first
    | assumption
    | with_reducible (exact Within.refl _ _)
    | with_reducible refine State.setKeep_in (by with_unfolding_all first | rfl | exact setLastRec_svn _ _) ?_ (by decide)
    | with_reducible refine State.tick_in ?_ (by decide)
    | with_reducible refine postEvent_in ?_ (by decide)
    | with_reducible refine evalChange_in ?_ (by decide)
    | with_reducible refine lcActions_in ?_ (by decide)
    | split
    | dsimp only)

theorem completeLc_in {s : State} {which : Nat} {s₀ : State} (h₀ : Within which s₀ s) (hm₀ : 30390904 ||| which = which) : Within which s₀ (completeLc s) :=
  Within.step h₀ (completeLc_within ..) hm₀

theorem beginLc_within (s : State) (new : Nat) (digest : List Byte) : Within 30390904 s (beginLc s new digest) := by
  unfold beginLc
  repeat' (first
    | assumption
    | with_reducible (exact Within.refl _ _)
    | with_reducible refine State.setKeep_in rfl ?_ (by decide)
    | with_reducible refine completeLc_in ?_ (by decide)
    | split
    | dsimp only)

theorem beginLc_in {s : State} {new : Nat} {digest : List Byte} {which : Nat} {s₀ : State} (h₀ : Within which s₀ s) (hm₀ : 30390904 ||| which = which) : Within which s₀ (beginLc s new digest) :=
  Within.step h₀ (beginLc_within ..) hm₀

end Sys2Proof.Machine
end

