-- ==== Sys2Proof/Laws/Within/Num.lean ====
section
/-! SUPPORT. What the operations of Machine/Num.lean may touch: one lemma for each. -/

namespace Sys2Proof.Machine

open Sys2Proof

set_option linter.unusedTactic false
set_option linter.unreachableTactic false

theorem cmdNumCfg_run  (s : State) (r : RingId) (c : OutCmd) : RanWithin 8192 s (cmdNumCfg.run s r c) := by
  unfold cmdNumCfg
  dsimp only
  repeat' (first
    | assumption
    | with_reducible (exact Within.refl _ _)
    | with_reducible (refine RanWithin.fin ?_)
    | with_reducible (refine RanWithin.keep ?_)
    | with_reducible (refine RanWithin.gone ?_)
    | (exact RanWithin.later _ _)
    | with_reducible refine State.setCtx_in ?_ (by decide)
    | with_reducible refine Ran.ok_in ?_ (by decide)
    | with_reducible refine withCtx_in ?_ (fun _ => ?_)
    | split
    | dsimp only)

theorem cmdNumCensusReg_run  (s : State) (r : RingId) (c : OutCmd) : RanWithin 27277432 s (cmdNumCensusReg.run s r c) := by
  unfold cmdNumCensusReg
  dsimp only
  repeat' (first
    | assumption
    | with_reducible (exact Within.refl _ _)
    | with_reducible (refine RanWithin.fin ?_)
    | with_reducible (refine RanWithin.keep ?_)
    | with_reducible (refine RanWithin.gone ?_)
    | (exact RanWithin.later _ _)
    | with_reducible refine State.setCtx_in ?_ (by decide)
    | with_reducible refine storeMem_in ?_ (by decide)
    | with_reducible refine Ran.ok_in ?_ (by decide)
    | with_reducible refine withCtx_in ?_ (fun _ => ?_)
    | with_reducible refine census_in ?_ (by decide)
    | split
    | dsimp only)

theorem setTag_within (c : OutCmd) (s : State) (base : Nat) : Within 27269240 s (setTag c s base) := by
  unfold setTag
  repeat' (first
    | assumption
    | with_reducible (exact Within.refl _ _)
    | with_reducible refine storeMem_in ?_ (by decide)
    | split
    | dsimp only)

theorem setTag_in {c : OutCmd} {s : State} {base : Nat} {which : Nat} {s₀ : State} (h₀ : Within which s₀ s) (hm₀ : 27269240 ||| which = which) : Within which s₀ (setTag c s base) :=
  Within.step h₀ (setTag_within ..) hm₀

theorem cmdNumCensusTag_run  (s : State) (r : RingId) (c : OutCmd) : RanWithin 27269240 s (cmdNumCensusTag.run s r c) := by
  unfold cmdNumCensusTag
  dsimp only
  repeat' (first
    | assumption
    | with_reducible (exact Within.refl _ _)
    | with_reducible (refine RanWithin.fin ?_)
    | with_reducible (refine RanWithin.keep ?_)
    | with_reducible (refine RanWithin.gone ?_)
    | (exact RanWithin.later _ _)
    | with_reducible (refine Within.foldl ?_ (fun _ _ => ?_))
    | with_reducible (refine Within.foldl_fst ?_ (fun _ _ => ?_))
    | with_reducible refine Ran.ok_in ?_ (by decide)
    | with_reducible refine Ran.notInStateFree_in ?_ (by decide)
    | with_reducible refine withCtx_in ?_ (fun _ => ?_)
    | with_reducible refine setTag_in ?_ (by decide)
    | split
    | dsimp only)

theorem cmdNumCensusState_run  (s : State) (r : RingId) (c : OutCmd) : RanWithin 0 s (cmdNumCensusState.run s r c) := by
  unfold cmdNumCensusState
  dsimp only
  repeat' (first
    | assumption
    | with_reducible (exact Within.refl _ _)
    | with_reducible (refine RanWithin.fin ?_)
    | with_reducible (refine RanWithin.keep ?_)
    | with_reducible (refine RanWithin.gone ?_)
    | (exact RanWithin.later _ _)
    | with_reducible refine listResult_in ?_ (by decide)
    | with_reducible refine withCtx_in ?_ (fun _ => ?_)
    | split
    | dsimp only)

theorem cmdNumFlags_run  (s : State) (r : RingId) (c : OutCmd) : RanWithin 196608 s (cmdNumFlags.run s r c) := by
  unfold cmdNumFlags
  dsimp only
  repeat' (first
    | assumption
    | with_reducible (exact Within.refl _ _)
    | with_reducible (refine RanWithin.fin ?_)
    | with_reducible (refine RanWithin.keep ?_)
    | with_reducible (refine RanWithin.gone ?_)
    | (exact RanWithin.later _ _)
    | with_reducible refine Ran.okWith_in ?_ (by decide)
    | with_reducible refine Ran.denied_in ?_ (by decide)
    | with_reducible refine withCtx_in ?_ (fun _ => ?_)
    | with_reducible refine clearFlags_in ?_ (by decide)
    | split
    | dsimp only)

theorem recoverEntry_within (s : State) (a : Nat) : Within 27269240 s (recoverEntry s a) := by
  unfold recoverEntry
  repeat' (first
    | assumption
    | with_reducible (exact Within.refl _ _)
    | with_reducible refine storeMem_in ?_ (by decide)
    | split
    | dsimp only)

theorem recoverEntry_in {s : State} {a : Nat} {which : Nat} {s₀ : State} (h₀ : Within which s₀ s) (hm₀ : 27269240 ||| which = which) : Within which s₀ (recoverEntry s a) :=
  Within.step h₀ (recoverEntry_within ..) hm₀

theorem cmdNumRecover_run  (s : State) (r : RingId) (c : OutCmd) : RanWithin 27269240 s (cmdNumRecover.run s r c) := by
  unfold cmdNumRecover
  dsimp only
  repeat' (first
    | assumption
    | with_reducible (exact Within.refl _ _)
    | with_reducible (refine RanWithin.fin ?_)
    | with_reducible (refine RanWithin.keep ?_)
    | with_reducible (refine RanWithin.gone ?_)
    | (exact RanWithin.later _ _)
    | with_reducible (refine Within.foldl ?_ (fun _ _ => ?_))
    | with_reducible (refine Within.foldl_fst ?_ (fun _ _ => ?_))
    | with_reducible refine Ran.ok_in ?_ (by decide)
    | with_reducible refine withCtx_in ?_ (fun _ => ?_)
    | with_reducible refine recoverEntry_in ?_ (by decide)
    | split
    | dsimp only)

end Sys2Proof.Machine
end

