-- ==== Sys2Proof/Laws/Within/Reset.lean ====
section
/-! SUPPORT. What the operations of Machine/Reset.lean may touch: one lemma for each. -/

namespace Sys2Proof.Machine

open Sys2Proof

set_option linter.unusedTactic false
set_option linter.unreachableTactic false

theorem abortEffect_within (s : State) (r : RingId) (c : OutCmd) : Within 270592 s (abortEffect s r c) := by
  unfold abortEffect
  repeat' (first
    | assumption
    | with_reducible (exact Within.refl _ _)
    | with_reducible refine State.setLantern_in ?_ (by decide)
    | with_reducible refine forgetHost_in ?_ (by decide)
    | with_reducible refine remap_in ?_ (by decide)
    | with_reducible refine setSlot_in ?_ (by decide)
    | split
    | dsimp only)

theorem abortEffect_in {s : State} {r : RingId} {c : OutCmd} {which : Nat} {s₀ : State} (h₀ : Within which s₀ s) (hm₀ : 270592 ||| which = which) : Within which s₀ (abortEffect s r c) :=
  Within.step h₀ (abortEffect_within ..) hm₀

theorem abortOutstanding_within (s : State) (cause : Nat) (except : OutCmd → Bool) : Within 17047888 s (abortOutstanding s cause except) := by
  unfold abortOutstanding
  repeat' (first
    | assumption
    | with_reducible (exact Within.refl _ _)
    | with_reducible (refine Within.foldl ?_ (fun _ _ => ?_))
    | with_reducible (refine Within.foldl_fst ?_ (fun _ _ => ?_))
    | with_reducible refine finish_in ?_ (by decide)
    | with_reducible refine abortEffect_in ?_ (by decide)
    | split
    | dsimp only)

theorem abortOutstanding_in {s : State} {cause : Nat} {except : OutCmd → Bool} {which : Nat} {s₀ : State} (h₀ : Within which s₀ s) (hm₀ : 17047888 ||| which = which) : Within which s₀ (abortOutstanding s cause except) :=
  Within.step h₀ (abortOutstanding_within ..) hm₀

theorem raiseAlert_within (s : State) (n : Nat) : Within 1048576 s (raiseAlert s n) := by
  unfold raiseAlert
  repeat' (first
    | assumption
    | with_reducible (exact Within.refl _ _)
    | with_reducible refine State.setCarrier_in ?_ (by decide)
    | split
    | dsimp only)

theorem raiseAlert_in {s : State} {n : Nat} {which : Nat} {s₀ : State} (h₀ : Within which s₀ s) (hm₀ : 1048576 ||| which = which) : Within which s₀ (raiseAlert s n) :=
  Within.step h₀ (raiseAlert_within ..) hm₀

theorem clearAlert_within (s : State) (n : Nat) : Within 1048576 s (clearAlert s n) := by
  unfold clearAlert
  repeat' (first
    | assumption
    | with_reducible (exact Within.refl _ _)
    | with_reducible refine State.setCarrier_in ?_ (by decide)
    | split
    | dsimp only)

theorem clearAlert_in {s : State} {n : Nat} {which : Nat} {s₀ : State} (h₀ : Within which s₀ s) (hm₀ : 1048576 ||| which = which) : Within which s₀ (clearAlert s n) :=
  Within.step h₀ (clearAlert_within ..) hm₀

theorem selectBoot_within (s : State) : Within 256 s (selectBoot s) := by
  unfold selectBoot
  repeat' (first
    | assumption
    | with_reducible (exact Within.refl _ _)
    | with_reducible refine State.setLantern_in ?_ (by decide)
    | with_reducible refine setSlot_in ?_ (by decide)
    | split
    | dsimp only)

theorem selectBoot_in {s : State} {which : Nat} {s₀ : State} (h₀ : Within which s₀ s) (hm₀ : 256 ||| which = which) : Within which s₀ (selectBoot s) :=
  Within.step h₀ (selectBoot_within ..) hm₀

theorem otherBoot_within (s : State) : Within 256 s (otherBoot s) := by
  unfold otherBoot
  repeat' (first
    | assumption
    | with_reducible (exact Within.refl _ _)
    | with_reducible refine State.setLantern_in ?_ (by decide)
    | with_reducible refine setSlot_in ?_ (by decide)
    | split
    | dsimp only)

theorem otherBoot_in {s : State} {which : Nat} {s₀ : State} (h₀ : Within which s₀ s) (hm₀ : 256 ||| which = which) : Within which s₀ (otherBoot s) :=
  Within.step h₀ (otherBoot_within ..) hm₀

theorem startBoot_within (s : State) : Within 30391160 s (startBoot s) := by
  unfold startBoot
  repeat' (first
    | assumption
    | with_reducible (exact Within.refl _ _)
    | with_reducible refine State.setKeep_in rfl ?_ (by decide)
    | with_reducible refine State.setLantern_in ?_ (by decide)
    | with_reducible refine completeLc_in ?_ (by decide)
    | with_reducible refine otherBoot_in ?_ (by decide)
    | split
    | dsimp only)

theorem startBoot_in {s : State} {which : Nat} {s₀ : State} (h₀ : Within which s₀ s) (hm₀ : 30391160 ||| which = which) : Within which s₀ (startBoot s) :=
  Within.step h₀ (startBoot_within ..) hm₀

theorem noteRestart_within (s : State) : Within 256 s (noteRestart s) := by
  unfold noteRestart
  repeat' (first
    | assumption
    | with_reducible (exact Within.refl _ _)
    | with_reducible refine State.setLantern_in ?_ (by decide)
    | split
    | dsimp only)

theorem noteRestart_in {s : State} {which : Nat} {s₀ : State} (h₀ : Within which s₀ s) (hm₀ : 256 ||| which = which) : Within which s₀ (noteRestart s) :=
  Within.step h₀ (noteRestart_within ..) hm₀

theorem warmEnd_within (s : State) : Within 33553276 s (warmEnd s) := by
  unfold warmEnd
  extract_lets s1 s2 s3 s4
  have h3 : Within 33553276 s s3 :=
    saveJournals_in (abortOutstanding_in (noteRestart_in (Within.foldl (Within.refl _ _) (fun _ _ => reportLost_in (Within.refl _ _) (by decide))) (by decide)) (by decide)) (by decide)
  clear_value s3
  refine State.bump_in (h3.trans ⟨fun i hi => ?_, ⟨fun h => ?_, id, Nat.le_refl _⟩⟩) (by decide)
  · revert hi; unfold eqPart; split <;> intro hi <;> trivial
  · exact Memory.wf_zero _ _ h

theorem warmEnd_in {s : State} {which : Nat} {s₀ : State} (h₀ : Within which s₀ s) (hm₀ : 33553276 ||| which = which) : Within which s₀ (warmEnd s) :=
  Within.step h₀ (warmEnd_within ..) hm₀

theorem warmReset_within (s : State) : Within 33553276 s (warmReset s) := by
  unfold warmReset
  repeat' (first
    | assumption
    | with_reducible (exact Within.refl _ _)
    | with_reducible refine selectBoot_in ?_ (by decide)
    | with_reducible refine startBoot_in ?_ (by decide)
    | with_reducible refine warmEnd_in ?_ (by decide)
    | split
    | dsimp only)

theorem warmReset_in {s : State} {which : Nat} {s₀ : State} (h₀ : Within which s₀ s) (hm₀ : 33553276 ||| which = which) : Within which s₀ (warmReset s) :=
  Within.step h₀ (warmReset_within ..) hm₀

theorem activateReset_within (s : State) (b : Bool) : Within 33553276 s (activateReset s b) := by
  unfold activateReset
  repeat' (first
    | assumption
    | with_reducible (exact Within.refl _ _)
    | with_reducible refine State.setLantern_in ?_ (by decide)
    | with_reducible refine setSlot_in ?_ (by decide)
    | with_reducible refine startBoot_in ?_ (by decide)
    | with_reducible refine warmEnd_in ?_ (by decide)
    | split
    | dsimp only)

theorem activateReset_in {s : State} {b : Bool} {which : Nat} {s₀ : State} (h₀ : Within which s₀ s) (hm₀ : 33553276 ||| which = which) : Within which s₀ (activateReset s b) :=
  Within.step h₀ (activateReset_within ..) hm₀

theorem watchdogReset_within (s : State) : Within 33553276 s (watchdogReset s) := by
  unfold watchdogReset
  repeat' (first
    | assumption
    | with_reducible (exact Within.refl _ _)
    | with_reducible refine State.setLantern_in ?_ (by decide)
    | with_reducible refine otherBoot_in ?_ (by decide)
    | with_reducible refine startBoot_in ?_ (by decide)
    | with_reducible refine warmEnd_in ?_ (by decide)
    | split
    | dsimp only)

theorem watchdogReset_in {s : State} {which : Nat} {s₀ : State} (h₀ : Within which s₀ s) (hm₀ : 33553276 ||| which = which) : Within which s₀ (watchdogReset s) :=
  Within.step h₀ (watchdogReset_within ..) hm₀

theorem mainOff_within (s : State) (p : Power) : Within 33553276 s (mainOff s p) := by
  refine ⟨fun i hi => ?_, ⟨fun _ => rfl, id, Nat.le_refl _⟩⟩
  revert hi; unfold eqPart; split <;> intro hi <;> trivial

theorem mainOff_in {s : State} {p : Power} {which : Nat} {s₀ : State} (h₀ : Within which s₀ s) (hm₀ : 33553276 ||| which = which) : Within which s₀ (mainOff s p) :=
  Within.step h₀ (mainOff_within ..) hm₀

theorem offAlerts_within (s : State) : Within 1048576 s (offAlerts s) := by
  unfold offAlerts
  repeat' (first
    | assumption
    | with_reducible (exact Within.refl _ _)
    | with_reducible refine clearAlert_in ?_ (by decide)
    | split
    | dsimp only)

theorem offAlerts_in {s : State} {which : Nat} {s₀ : State} (h₀ : Within which s₀ s) (hm₀ : 1048576 ||| which = which) : Within which s₀ (offAlerts s) :=
  Within.step h₀ (offAlerts_within ..) hm₀

theorem trip_within (s : State) (alert : Nat) : Within 33553276 s (trip s alert) := by
  unfold trip
  repeat' (first
    | assumption
    | with_reducible (exact Within.refl _ _)
    | with_reducible (refine Within.foldl ?_ (fun _ _ => ?_))
    | with_reducible (refine Within.foldl_fst ?_ (fun _ _ => ?_))
    | with_reducible refine State.setCarrier_in ?_ (by decide)
    | with_reducible refine originateHalt_in ?_ (by decide)
    | with_reducible refine raiseAlert_in ?_ (by decide)
    | with_reducible refine mainOff_in ?_ (by decide)
    | with_reducible refine offAlerts_in ?_ (by decide)
    | split
    | dsimp only)

theorem trip_in {s : State} {alert : Nat} {which : Nat} {s₀ : State} (h₀ : Within which s₀ s) (hm₀ : 33553276 ||| which = which) : Within which s₀ (trip s alert) :=
  Within.step h₀ (trip_within ..) hm₀

theorem coldStart_within (s : State) : Within 33553276 s (coldStart s) := by
  unfold coldStart
  split
  · exact clearAlert_in (raiseAlert_in (Within.refl _ _) (by decide)) (by decide)
  · extract_lets y1 s1
    have h1 : Within 33553276 s s1 := time_in (mainOff_in (Within.refl _ _) (by decide)) (by decide)
    clear_value s1
    exact startBoot_in (selectBoot_in h1 (by decide)) (by decide)

theorem coldStart_in {s : State} {which : Nat} {s₀ : State} (h₀ : Within which s₀ s) (hm₀ : 33553276 ||| which = which) : Within which s₀ (coldStart s) :=
  Within.step h₀ (coldStart_within ..) hm₀

theorem takeover_within (s : State) (running : OutCmd → Bool) : Within 25436496 s (takeover s running) := by
  unfold takeover
  repeat' (first
    | assumption
    | with_reducible (exact Within.refl _ _)
    | with_reducible (refine Within.foldl ?_ (fun _ _ => ?_))
    | with_reducible (refine Within.foldl_fst ?_ (fun _ _ => ?_))
    | with_reducible refine State.bump_in ?_ (by decide)
    | with_reducible refine State.setLantern_in ?_ (by decide)
    | with_reducible refine raiseCause_in ?_ (by decide)
    | with_reducible refine abortOutstanding_in ?_ (by decide)
    | split
    | dsimp only)

theorem takeover_in {s : State} {running : OutCmd → Bool} {which : Nat} {s₀ : State} (h₀ : Within which s₀ s) (hm₀ : 25436496 ||| which = which) : Within which s₀ (takeover s running) :=
  Within.step h₀ (takeover_within ..) hm₀

end Sys2Proof.Machine
end

