-- ==== Sys2Proof/Laws/Within/Links.lean ====
section
/-! SUPPORT. What the operations of Machine/Links.lean may touch: one lemma for each. -/

namespace Sys2Proof.Machine

open Sys2Proof

set_option linter.unusedTactic false
set_option linter.unreachableTactic false

theorem setLinkSt_within (s : State) (n : Nat) (st : LinkState) : Within 524288 s (setLinkSt s n st) := by
  unfold setLinkSt
  repeat' (first
    | assumption
    | with_reducible (exact Within.refl _ _)
    | with_reducible refine State.setLink_in ?_ (by decide)
    | split
    | dsimp only)

theorem setLinkSt_in {s : State} {n : Nat} {st : LinkState} {which : Nat} {s₀ : State} (h₀ : Within which s₀ s) (hm₀ : 524288 ||| which = which) : Within which s₀ (setLinkSt s n st) :=
  Within.step h₀ (setLinkSt_within ..) hm₀

theorem noteLinkEvent_within (s : State) : Within 2097152 s (noteLinkEvent s) := by
  unfold noteLinkEvent
  repeat' (first
    | assumption
    | with_reducible (exact Within.refl _ _)
    | split
    | dsimp only
    | with_reducible refine risk_in ?_ (by decide))

theorem noteLinkEvent_in {s : State} {which : Nat} {s₀ : State} (h₀ : Within which s₀ s) (hm₀ : 2097152 ||| which = which) : Within which s₀ (noteLinkEvent s) :=
  Within.step h₀ (noteLinkEvent_within ..) hm₀

theorem lostHead_within (s : State) (h : List Byte) : Within 27965560 s (lostHead s h) := by
  unfold lostHead
  repeat' (first
    | assumption
    | with_reducible (exact Within.refl _ _)
    | with_reducible refine msgLost_in ?_ (by decide)
    | split
    | dsimp only)

theorem lostHead_in {s : State} {h : List Byte} {which : Nat} {s₀ : State} (h₀ : Within which s₀ s) (hm₀ : 27965560 ||| which = which) : Within which s₀ (lostHead s h) :=
  Within.step h₀ (lostHead_within ..) hm₀

theorem purgeLinks_within (s : State) : Within 27965560 s (purgeLinks s) := by
  unfold purgeLinks
  repeat' (first
    | assumption
    | with_reducible (exact Within.refl _ _)
    | with_reducible (refine Within.foldl ?_ (fun _ _ => ?_))
    | with_reducible (refine Within.foldl_fst ?_ (fun _ _ => ?_))
    | with_reducible refine State.bump_in ?_ (by decide)
    | with_reducible refine State.setLink_in ?_ (by decide)
    | with_reducible refine lostHead_in ?_ (by decide)
    | split
    | dsimp only)

theorem purgeLinks_in {s : State} {which : Nat} {s₀ : State} (h₀ : Within which s₀ s) (hm₀ : 27965560 ||| which = which) : Within which s₀ (purgeLinks s) :=
  Within.step h₀ (purgeLinks_within ..) hm₀

theorem addDead_within (s : State) (x : Nat × Nat) : Within 27965560 s (addDead s x) := by
  unfold addDead
  repeat' (first
    | assumption
    | with_reducible (exact Within.refl _ _)
    | with_reducible refine State.setFabric_in ?_ (by decide)
    | with_reducible refine purgeLinks_in ?_ (by decide)
    | split
    | dsimp only)

theorem addDead_in {s : State} {x : Nat × Nat} {which : Nat} {s₀ : State} (h₀ : Within which s₀ s) (hm₀ : 27965560 ||| which = which) : Within which s₀ (addDead s x) :=
  Within.step h₀ (addDead_within ..) hm₀

theorem dropDead_within (s : State) (x : Nat × Nat) : Within 524288 s (dropDead s x) := by
  unfold dropDead
  repeat' (first
    | assumption
    | with_reducible (exact Within.refl _ _)
    | with_reducible refine State.setFabric_in ?_ (by decide)
    | split
    | dsimp only)

theorem dropDead_in {s : State} {x : Nat × Nat} {which : Nat} {s₀ : State} (h₀ : Within which s₀ s) (hm₀ : 524288 ||| which = which) : Within which s₀ (dropDead s x) :=
  Within.step h₀ (dropDead_within ..) hm₀

theorem sendFailover_within (s : State) (n over_ : Nat) : Within 8912904 s (sendFailover s n over_) := by
  unfold sendFailover
  repeat' (first
    | assumption
    | with_reducible (exact Within.refl _ _)
    | with_reducible refine queueOn_in ?_ (by decide)
    | split
    | dsimp only)

theorem sendFailover_in {s : State} {n over_ : Nat} {which : Nat} {s₀ : State} (h₀ : Within which s₀ s) (hm₀ : 8912904 ||| which = which) : Within which s₀ (sendFailover s n over_) :=
  Within.step h₀ (sendFailover_within ..) hm₀

theorem portDied_within (s : State) (p : Nat) (detach : Bool) : Within 27965560 s (portDied s p detach) := by
  unfold portDied
  repeat' (first
    | assumption
    | with_reducible (exact Within.refl _ _)
    | with_reducible (refine Within.foldl ?_ (fun _ _ => ?_))
    | with_reducible (refine Within.foldl_fst ?_ (fun _ _ => ?_))
    | with_reducible refine State.setLink_in ?_ (by decide)
    | with_reducible refine addDead_in ?_ (by decide)
    | split
    | dsimp only
    | with_reducible refine risk_in ?_ (by decide))

theorem portDied_in {s : State} {p : Nat} {detach : Bool} {which : Nat} {s₀ : State} (h₀ : Within which s₀ s) (hm₀ : 27965560 ||| which = which) : Within which s₀ (portDied s p detach) :=
  Within.step h₀ (portDied_within ..) hm₀

theorem leaveService_within (s : State) (n : Nat) (st : LinkState) (detach : Bool) : Within 27965560 s (leaveService s n st detach) := by
  unfold leaveService
  repeat' (first
    | assumption
    | with_reducible (exact Within.refl _ _)
    | with_reducible refine State.bump_in ?_ (by decide)
    | with_reducible refine State.setLink_in ?_ (by decide)
    | with_reducible refine noteLinkEvent_in ?_ (by decide)
    | with_reducible refine sendFailover_in ?_ (by decide)
    | with_reducible refine portDied_in ?_ (by decide)
    | split
    | dsimp only)

theorem leaveService_in {s : State} {n : Nat} {st : LinkState} {detach : Bool} {which : Nat} {s₀ : State} (h₀ : Within which s₀ s) (hm₀ : 27965560 ||| which = which) : Within which s₀ (leaveService s n st detach) :=
  Within.step h₀ (leaveService_within ..) hm₀

theorem takeFailover_within (s : State) (link slot lastSeq : Nat) : Within 8912904 s (takeFailover s link slot lastSeq) := by
  unfold takeFailover
  repeat' (first
    | assumption
    | with_reducible (exact Within.refl _ _)
    | with_reducible (refine Within.foldl ?_ (fun _ _ => ?_))
    | with_reducible (refine Within.foldl_fst ?_ (fun _ _ => ?_))
    | with_reducible refine State.setLink_in ?_ (by decide)
    | with_reducible refine pump_in ?_ (by decide)
    | split
    | dsimp only)

theorem takeFailover_in {s : State} {link slot lastSeq : Nat} {which : Nat} {s₀ : State} (h₀ : Within which s₀ s) (hm₀ : 8912904 ||| which = which) : Within which s₀ (takeFailover s link slot lastSeq) :=
  Within.step h₀ (takeFailover_within ..) hm₀

theorem resendFlit_within (n : Nat) (s : State) (f : TxFlit) : Within 8912904 s (resendFlit n s f) := by
  unfold resendFlit
  repeat' (first
    | assumption
    | with_reducible (exact Within.refl _ _)
    | with_reducible refine State.bump_in ?_ (by decide)
    | with_reducible refine State.setLink_in ?_ (by decide)
    | split
    | dsimp only
    | with_reducible refine free_in ?_ (by decide))

theorem resendFlit_in {n : Nat} {s : State} {f : TxFlit} {which : Nat} {s₀ : State} (h₀ : Within which s₀ s) (hm₀ : 8912904 ||| which = which) : Within which s₀ (resendFlit n s f) :=
  Within.step h₀ (resendFlit_within ..) hm₀

theorem resend_within (s : State) (n : Nat) : Within 11010056 s (resend s n) := by
  unfold resend
  repeat' (first
    | assumption
    | with_reducible (exact Within.refl _ _)
    | with_reducible (refine Within.foldl ?_ (fun _ _ => ?_))
    | with_reducible (refine Within.foldl_fst ?_ (fun _ _ => ?_))
    | with_reducible refine State.bump_in ?_ (by decide)
    | with_reducible refine State.setLink_in ?_ (by decide)
    | with_reducible refine resendFlit_in ?_ (by decide)
    | split
    | dsimp only
    | with_reducible refine risk_in ?_ (by decide))

theorem resend_in {s : State} {n : Nat} {which : Nat} {s₀ : State} (h₀ : Within which s₀ s) (hm₀ : 11010056 ||| which = which) : Within which s₀ (resend s n) :=
  Within.step h₀ (resend_within ..) hm₀

theorem packetIn_within (s : State) (n vc : Nat) (p : Packet) : Within 8912904 s (packetIn s n vc p) := by
  unfold packetIn
  repeat' (first
    | assumption
    | with_reducible (exact Within.refl _ _)
    | with_reducible refine State.bump_in ?_ (by decide)
    | with_reducible refine State.setFabric_in ?_ (by decide)
    | with_reducible refine forward_in ?_ (by decide)
    | with_reducible refine takeFailover_in ?_ (by decide)
    | split
    | dsimp only)

theorem packetIn_in {s : State} {n vc : Nat} {p : Packet} {which : Nat} {s₀ : State} (h₀ : Within which s₀ s) (hm₀ : 8912904 ||| which = which) : Within which s₀ (packetIn s n vc p) :=
  Within.step h₀ (packetIn_within ..) hm₀

theorem acceptFlit_within (s : State) (n vc seq : Nat) (payload : List Byte) : Within 8912904 s (acceptFlit s n vc seq payload) := by
  unfold acceptFlit
  repeat' (first
    | assumption
    | with_reducible (exact Within.refl _ _)
    | with_reducible refine State.setLink_in ?_ (by decide)
    | with_reducible refine packetIn_in ?_ (by decide)
    | split
    | dsimp only)

theorem acceptFlit_in {s : State} {n vc seq : Nat} {payload : List Byte} {which : Nat} {s₀ : State} (h₀ : Within which s₀ s) (hm₀ : 8912904 ||| which = which) : Within which s₀ (acceptFlit s n vc seq payload) :=
  Within.step h₀ (acceptFlit_within ..) hm₀

theorem answer_within (s : State) (n : Nat) (ackOwed : Bool) : Within 8912904 s (answer s n ackOwed) := by
  unfold answer
  repeat' (first
    | assumption
    | with_reducible (exact Within.refl _ _)
    | with_reducible refine State.setLink_in ?_ (by decide)
    | with_reducible refine pump_in ?_ (by decide)
    | split
    | dsimp only)

theorem answer_in {s : State} {n : Nat} {ackOwed : Bool} {which : Nat} {s₀ : State} (h₀ : Within which s₀ s) (hm₀ : 8912904 ||| which = which) : Within which s₀ (answer s n ackOwed) :=
  Within.step h₀ (answer_within ..) hm₀

theorem nakOnce_within (s : State) (n : Nat) : Within 524288 s (nakOnce s n) := by
  unfold nakOnce
  repeat' (first
    | assumption
    | with_reducible (exact Within.refl _ _)
    | with_reducible refine State.setLink_in ?_ (by decide)
    | split
    | dsimp only)

theorem nakOnce_in {s : State} {n : Nat} {which : Nat} {s₀ : State} (h₀ : Within which s₀ s) (hm₀ : 524288 ||| which = which) : Within which s₀ (nakOnce s n) :=
  Within.step h₀ (nakOnce_within ..) hm₀

theorem haltBit_within (s : State) (n h : Nat) : Within 26124400 s (haltBit s n h) := by
  unfold haltBit
  repeat' (first
    | assumption
    | with_reducible (exact Within.refl _ _)
    | with_reducible refine actHalt_in ?_ (by decide)
    | split
    | dsimp only)

theorem haltBit_in {s : State} {n h : Nat} {which : Nat} {s₀ : State} (h₀ : Within which s₀ s) (hm₀ : 26124400 ||| which = which) : Within which s₀ (haltBit s n h) :=
  Within.step h₀ (haltBit_within ..) hm₀

theorem receive_within (s : State) (n : Nat) (bytes : List Byte) : Within 28221560 s (receive s n bytes) := by
  unfold receive
  repeat' (first
    | assumption
    | with_reducible (exact Within.refl _ _)
    | with_reducible refine State.bump_in ?_ (by decide)
    | with_reducible refine State.setLink_in ?_ (by decide)
    | with_reducible refine resend_in ?_ (by decide)
    | with_reducible refine acceptFlit_in ?_ (by decide)
    | with_reducible refine answer_in ?_ (by decide)
    | with_reducible refine nakOnce_in ?_ (by decide)
    | with_reducible refine haltBit_in ?_ (by decide)
    | split
    | dsimp only)

theorem receive_in {s : State} {n : Nat} {bytes : List Byte} {which : Nat} {s₀ : State} (h₀ : Within which s₀ s) (hm₀ : 28221560 ||| which = which) : Within which s₀ (receive s n bytes) :=
  Within.step h₀ (receive_within ..) hm₀

theorem activate_within (s : State) (n : Nat) (farSealed : Bool) : Within 524288 s (activate s n farSealed) := by
  unfold activate
  repeat' (first
    | assumption
    | with_reducible (exact Within.refl _ _)
    | with_reducible refine State.setLink_in ?_ (by decide)
    | split
    | dsimp only)

theorem activate_in {s : State} {n : Nat} {farSealed : Bool} {which : Nat} {s₀ : State} (h₀ : Within which s₀ s) (hm₀ : 524288 ||| which = which) : Within which s₀ (activate s n farSealed) :=
  Within.step h₀ (activate_within ..) hm₀

theorem enterRetrain_within (s : State) (n : Nat) (mode : Bool) : Within 11010048 s (enterRetrain s n mode) := by
  unfold enterRetrain
  repeat' (first
    | assumption
    | with_reducible (exact Within.refl _ _)
    | with_reducible (refine Within.foldl ?_ (fun _ _ => ?_))
    | with_reducible (refine Within.foldl_fst ?_ (fun _ _ => ?_))
    | with_reducible refine State.bump_in ?_ (by decide)
    | with_reducible refine State.setLink_in ?_ (by decide)
    | with_reducible refine noteLinkEvent_in ?_ (by decide)
    | split
    | dsimp only)

theorem enterRetrain_in {s : State} {n : Nat} {mode : Bool} {which : Nat} {s₀ : State} (h₀ : Within which s₀ s) (hm₀ : 11010048 ||| which = which) : Within which s₀ (enterRetrain s n mode) :=
  Within.step h₀ (enterRetrain_within ..) hm₀

end Sys2Proof.Machine
end

