-- ==== Sys2Proof/Laws/Within/Power.lean ====
section
/-! SUPPORT. What the operations of Machine/Power.lean may touch: one lemma for each. -/

namespace Sys2Proof.Machine

open Sys2Proof

set_option linter.unusedTactic false
set_option linter.unreachableTactic false

theorem setBudget_within (s : State) (k : Nat) (b : Budget) : Within 1048576 s (setBudget s k b) := by
  unfold setBudget
  repeat' (first
    | assumption
    | with_reducible (exact Within.refl _ _)
    | with_reducible refine State.setCarrier_in ?_ (by decide)
    | split
    | dsimp only)

theorem setBudget_in {s : State} {k : Nat} {b : Budget} {which : Nat} {s₀ : State} (h₀ : Within which s₀ s) (hm₀ : 1048576 ||| which = which) : Within which s₀ (setBudget s k b) :=
  Within.step h₀ (setBudget_within ..) hm₀

theorem judgeCritical_within (s : State) : Within 9437184 s (judgeCritical s) := by
  unfold judgeCritical
  repeat' (first
    | assumption
    | with_reducible (exact Within.refl _ _)
    | with_reducible (refine Within.foldl ?_ (fun _ _ => ?_))
    | with_reducible (refine Within.foldl_fst ?_ (fun _ _ => ?_))
    | with_reducible refine State.bump_in ?_ (by decide)
    | with_reducible refine State.setCarrier_in ?_ (by decide)
    | with_reducible refine raiseAlert_in ?_ (by decide)
    | with_reducible refine clearAlert_in ?_ (by decide)
    | with_reducible refine setBudget_in ?_ (by decide)
    | split
    | dsimp only)

theorem judgeCritical_in {s : State} {which : Nat} {s₀ : State} (h₀ : Within which s₀ s) (hm₀ : 9437184 ||| which = which) : Within which s₀ (judgeCritical s) :=
  Within.step h₀ (judgeCritical_within ..) hm₀

theorem addEnergy_within (s : State) (w : Nat) : Within 8388608 s (addEnergy s w) := by
  unfold addEnergy
  repeat' (first
    | assumption
    | with_reducible (exact Within.refl _ _)
    | with_reducible refine State.bump_in ?_ (by decide)
    | split
    | dsimp only)

theorem addEnergy_in {s : State} {w : Nat} {which : Nat} {s₀ : State} (h₀ : Within which s₀ s) (hm₀ : 8388608 ||| which = which) : Within which s₀ (addEnergy s w) :=
  Within.step h₀ (addEnergy_within ..) hm₀

theorem powerSample_within (s : State) (total : Nat) (parts : List Nat) : Within 33553276 s (powerSample s total parts) := by
  unfold powerSample
  repeat' (first
    | assumption
    | with_reducible (exact Within.refl _ _)
    | with_reducible (refine Within.foldl ?_ (fun _ _ => ?_))
    | with_reducible (refine Within.foldl_fst ?_ (fun _ _ => ?_))
    | with_reducible refine State.bump_in ?_ (by decide)
    | with_reducible refine State.setCarrier_in ?_ (by decide)
    | with_reducible refine trip_in ?_ (by decide)
    | with_reducible refine setBudget_in ?_ (by decide)
    | with_reducible refine addEnergy_in ?_ (by decide)
    | split
    | dsimp only)

theorem powerSample_in {s : State} {total : Nat} {parts : List Nat} {which : Nat} {s₀ : State} (h₀ : Within which s₀ s) (hm₀ : 33553276 ||| which = which) : Within which s₀ (powerSample s total parts) :=
  Within.step h₀ (powerSample_within ..) hm₀

theorem dieReading_within (s : State) (d : Nat) (t : Int) : Within 33553276 s (dieReading s d t) := by
  unfold dieReading
  repeat' (first
    | assumption
    | with_reducible (exact Within.refl _ _)
    | with_reducible refine State.setCarrier_in ?_ (by decide)
    | with_reducible refine trip_in ?_ (by decide)
    | with_reducible refine setBudget_in ?_ (by decide)
    | with_reducible refine judgeCritical_in ?_ (by decide)
    | split
    | dsimp only)

theorem dieReading_in {s : State} {d : Nat} {t : Int} {which : Nat} {s₀ : State} (h₀ : Within which s₀ s) (hm₀ : 33553276 ||| which = which) : Within which s₀ (dieReading s d t) :=
  Within.step h₀ (dieReading_within ..) hm₀

theorem coolantReading_within (s : State) (inlet outlet : Int) (flow : Nat) : Within 9437184 s (coolantReading s inlet outlet flow) := by
  unfold coolantReading
  repeat' (first
    | assumption
    | with_reducible (exact Within.refl _ _)
    | with_reducible refine State.setCarrier_in ?_ (by decide)
    | with_reducible refine raiseAlert_in ?_ (by decide)
    | with_reducible refine clearAlert_in ?_ (by decide)
    | with_reducible refine judgeCritical_in ?_ (by decide)
    | split
    | dsimp only)

theorem coolantReading_in {s : State} {inlet outlet : Int} {flow : Nat} {which : Nat} {s₀ : State} (h₀ : Within which s₀ s) (hm₀ : 9437184 ||| which = which) : Within which s₀ (coolantReading s inlet outlet flow) :=
  Within.step h₀ (coolantReading_within ..) hm₀

theorem stackReading_within (s : State) (k : Nat) (t : Int) : Within 26216560 s (stackReading s k t) := by
  unfold stackReading
  repeat' (first
    | assumption
    | with_reducible (exact Within.refl _ _)
    | with_reducible refine State.bump_in ?_ (by decide)
    | with_reducible refine State.setStack_in ?_ (by decide)
    | with_reducible refine postEvent_in ?_ (by decide)
    | with_reducible refine judgeCritical_in ?_ (by decide)
    | split
    | dsimp only)

theorem stackReading_in {s : State} {k : Nat} {t : Int} {which : Nat} {s₀ : State} (h₀ : Within which s₀ s) (hm₀ : 26216560 ||| which = which) : Within which s₀ (stackReading s k t) :=
  Within.step h₀ (stackReading_within ..) hm₀

theorem resetPorts_within (s : State) : Within 262160 s (resetPorts s) := by
  unfold resetPorts
  repeat' (first
    | assumption
    | with_reducible (exact Within.refl _ _)
    | with_reducible (refine Within.foldl ?_ (fun _ _ => ?_))
    | with_reducible (refine Within.foldl_fst ?_ (fun _ _ => ?_))
    | with_reducible refine flr_in ?_ (by decide)
    | split
    | dsimp only)

theorem resetPorts_in {s : State} {which : Nat} {s₀ : State} (h₀ : Within which s₀ s) (hm₀ : 262160 ||| which = which) : Within which s₀ (resetPorts s) :=
  Within.step h₀ (resetPorts_within ..) hm₀

theorem loseSlot_within (s : State) (i : Nat) : Within 26116216 s (loseSlot s i) := by
  unfold loseSlot
  repeat' (first
    | assumption
    | with_reducible (exact Within.refl _ _)
    | with_reducible (refine Within.foldl ?_ (fun _ _ => ?_))
    | with_reducible (refine Within.foldl_fst ?_ (fun _ _ => ?_))
    | with_reducible refine stopContext_in ?_ (by decide)
    | with_reducible refine reportLost_in ?_ (by decide)
    | split
    | dsimp only)

theorem loseSlot_in {s : State} {i : Nat} {which : Nat} {s₀ : State} (h₀ : Within which s₀ s) (hm₀ : 26116216 ||| which = which) : Within which s₀ (loseSlot s i) :=
  Within.step h₀ (loseSlot_within ..) hm₀

theorem loseBelfry_within (s : State) (d : Nat) : Within 9338880 s (loseBelfry s d) := by
  unfold loseBelfry
  repeat' (first
    | assumption
    | with_reducible (exact Within.refl _ _)
    | with_reducible (refine Within.foldl ?_ (fun _ _ => ?_))
    | with_reducible (refine Within.foldl_fst ?_ (fun _ _ => ?_))
    | with_reducible refine stopContext_in ?_ (by decide)
    | split
    | dsimp only)

theorem loseBelfry_in {s : State} {d : Nat} {which : Nat} {s₀ : State} (h₀ : Within which s₀ s) (hm₀ : 9338880 ||| which = which) : Within which s₀ (loseBelfry s d) :=
  Within.step h₀ (loseBelfry_within ..) hm₀

theorem dropLocalRings_within (s : State) : Within 16 s (dropLocalRings s) := by
  unfold dropLocalRings
  repeat' (first
    | assumption
    | with_reducible (exact Within.refl _ _)
    | with_reducible (refine Within.foldl ?_ (fun _ _ => ?_))
    | with_reducible (refine Within.foldl_fst ?_ (fun _ _ => ?_))
    | with_reducible refine State.setRing_in ?_ (by decide)
    | split
    | dsimp only)

theorem dropLocalRings_in {s : State} {which : Nat} {s₀ : State} (h₀ : Within which s₀ s) (hm₀ : 16 ||| which = which) : Within which s₀ (dropLocalRings s) :=
  Within.step h₀ (dropLocalRings_within ..) hm₀

theorem lanternDie_within (s : State) (d : Nat) : Within 33553276 s (lanternDie s d) := by
  unfold lanternDie
  repeat' (first
    | assumption
    | with_reducible (exact Within.refl _ _)
    | with_reducible refine State.setLantern_in ?_ (by decide)
    | with_reducible refine warmReset_in ?_ (by decide)
    | with_reducible refine takeover_in ?_ (by decide)
    | with_reducible refine dropLocalRings_in ?_ (by decide)
    | split
    | dsimp only)

theorem lanternDie_in {s : State} {d : Nat} {which : Nat} {s₀ : State} (h₀ : Within which s₀ s) (hm₀ : 33553276 ||| which = which) : Within which s₀ (lanternDie s d) :=
  Within.step h₀ (lanternDie_within ..) hm₀

theorem isolateDie_within (s : State) (d : Nat) : Within 33553276 s (isolateDie s d) := by
  unfold isolateDie
  repeat' (first
    | assumption
    | with_reducible (exact Within.refl _ _)
    | with_reducible (refine Within.foldl ?_ (fun _ _ => ?_))
    | with_reducible (refine Within.foldl_fst ?_ (fun _ _ => ?_))
    | with_reducible refine State.bump_in ?_ (by decide)
    | with_reducible refine State.setCarrier_in ?_ (by decide)
    | with_reducible refine leaveService_in ?_ (by decide)
    | with_reducible refine loseSlot_in ?_ (by decide)
    | with_reducible refine loseBelfry_in ?_ (by decide)
    | with_reducible refine lanternDie_in ?_ (by decide)
    | split
    | dsimp only)

theorem isolateDie_in {s : State} {d : Nat} {which : Nat} {s₀ : State} (h₀ : Within which s₀ s) (hm₀ : 33553276 ||| which = which) : Within which s₀ (isolateDie s d) :=
  Within.step h₀ (isolateDie_within ..) hm₀

end Sys2Proof.Machine
end

