-- ==== Sys2Proof/Laws/Within/Mgmt.lean ====
section
/-! SUPPORT. What the operations of Machine/Mgmt.lean may touch: one lemma for each. -/

namespace Sys2Proof.Machine

open Sys2Proof

set_option linter.unusedTactic false
set_option linter.unreachableTactic false

theorem cmdNop_run  (s : State) (r : RingId) (c : OutCmd) : RanWithin 0 s (cmdNop.run s r c) := by
  unfold cmdNop
  dsimp only
  repeat' (first
    | assumption
    | with_reducible (exact Within.refl _ _)
    | with_reducible (refine RanWithin.fin ?_)
    | with_reducible (refine RanWithin.keep ?_)
    | with_reducible (refine RanWithin.gone ?_)
    | (exact RanWithin.later _ _)
    | with_reducible refine Ran.ok_in ?_ (by decide)
    | split
    | dsimp only)

theorem cmdIdentify_run  (s : State) (r : RingId) (c : OutCmd) : RanWithin 0 s (cmdIdentify.run s r c) := by
  unfold cmdIdentify
  dsimp only
  repeat' (first
    | assumption
    | with_reducible (exact Within.refl _ _)
    | with_reducible (refine RanWithin.fin ?_)
    | with_reducible (refine RanWithin.keep ?_)
    | with_reducible (refine RanWithin.gone ?_)
    | (exact RanWithin.later _ _)
    | with_reducible refine Ran.okWith_in ?_ (by decide)
    | split
    | dsimp only)

theorem cmdFwStage_run  (s : State) (r : RingId) (c : OutCmd) : RanWithin 256 s (cmdFwStage.run s r c) := by
  unfold cmdFwStage
  dsimp only
  repeat' (first
    | assumption
    | with_reducible (exact Within.refl _ _)
    | with_reducible (refine RanWithin.fin ?_)
    | with_reducible (refine RanWithin.keep ?_)
    | with_reducible (refine RanWithin.gone ?_)
    | (exact RanWithin.later _ _)
    | with_reducible refine State.setLantern_in ?_ (by decide)
    | with_reducible refine Ran.ok_in ?_ (by decide)
    | with_reducible refine pf0Only_in ?_ (fun _ => ?_)
    | split
    | dsimp only)

theorem cmdFwCommit_run  (s : State) (r : RingId) (c : OutCmd) : RanWithin 264 s (cmdFwCommit.run s r c) := by
  unfold cmdFwCommit
  dsimp only
  repeat' (first
    | assumption
    | with_reducible (exact Within.refl _ _)
    | with_reducible (refine RanWithin.fin ?_)
    | with_reducible (refine RanWithin.keep ?_)
    | with_reducible (refine RanWithin.gone ?_)
    | (exact RanWithin.later _ _)
    | with_reducible refine State.setLantern_in ?_ (by decide)
    | with_reducible refine Ran.okWith_in ?_ (by decide)
    | with_reducible refine Ran.badArg_in ?_ (by decide)
    | with_reducible refine Ran.denied_in ?_ (by decide)
    | with_reducible refine Ran.notInState_in ?_ (by decide)
    | with_reducible refine Ran.notInStateFree_in ?_ (by decide)
    | with_reducible refine pf0Only_in ?_ (fun _ => ?_)
    | with_reducible refine setSlot_in ?_ (by decide)
    | split
    | dsimp only)

theorem cmdFwCommit_again  (s : State) (r : RingId) (c : OutCmd) : RanWithin 264 s (cmdFwCommit.again s r c) := by
  unfold cmdFwCommit
  dsimp only
  repeat' (first
    | assumption
    | with_reducible (exact Within.refl _ _)
    | with_reducible (refine RanWithin.fin ?_)
    | with_reducible (refine RanWithin.keep ?_)
    | with_reducible (refine RanWithin.gone ?_)
    | (exact RanWithin.later _ _)
    | with_reducible refine State.setLantern_in ?_ (by decide)
    | with_reducible refine Ran.okWith_in ?_ (by decide)
    | with_reducible refine Ran.badArg_in ?_ (by decide)
    | with_reducible refine Ran.denied_in ?_ (by decide)
    | with_reducible refine Ran.notInState_in ?_ (by decide)
    | with_reducible refine Ran.notInStateFree_in ?_ (by decide)
    | with_reducible refine pf0Only_in ?_ (fun _ => ?_)
    | with_reducible refine setSlot_in ?_ (by decide)
    | split
    | dsimp only)

theorem cmdFwActivate_run  (s : State) (r : RingId) (c : OutCmd) : RanWithin 33553276 s (cmdFwActivate.run s r c) := by
  unfold cmdFwActivate
  dsimp only
  repeat' (first
    | assumption
    | with_reducible (exact Within.refl _ _)
    | with_reducible (refine RanWithin.fin ?_)
    | with_reducible (refine RanWithin.keep ?_)
    | with_reducible (refine RanWithin.gone ?_)
    | (exact RanWithin.later _ _)
    | with_reducible refine Ran.notInState_in ?_ (by decide)
    | with_reducible refine pf0Only_in ?_ (fun _ => ?_)
    | with_reducible refine activateReset_in ?_ (by decide)
    | split
    | dsimp only)

theorem cmdEventGet_run  (s : State) (r : RingId) (c : OutCmd) : RanWithin 27269240 s (cmdEventGet.run s r c) := by
  unfold cmdEventGet
  dsimp only
  repeat' (first
    | assumption
    | with_reducible (exact Within.refl _ _)
    | with_reducible (refine RanWithin.fin ?_)
    | with_reducible (refine RanWithin.keep ?_)
    | with_reducible (refine RanWithin.gone ?_)
    | (exact RanWithin.later _ _)
    | with_reducible refine Ran.badArg_in ?_ (by decide)
    | with_reducible refine rawResult_in ?_ (by decide)
    | with_reducible refine Run.bytes_in ?_ (by decide)
    | split
    | dsimp only)

theorem cmdCmdAbort_run  (s : State) (r : RingId) (c : OutCmd) : RanWithin 17047896 s (cmdCmdAbort.run s r c) := by
  unfold cmdCmdAbort
  dsimp only
  repeat' (first
    | assumption
    | with_reducible (exact Within.refl _ _)
    | with_reducible (refine RanWithin.fin ?_)
    | with_reducible (refine RanWithin.keep ?_)
    | with_reducible (refine RanWithin.gone ?_)
    | (exact RanWithin.later _ _)
    | with_reducible refine Ran.ok_in ?_ (by decide)
    | with_reducible refine Ran.badArg_in ?_ (by decide)
    | with_reducible refine Ran.notInStateFree_in ?_ (by decide)
    | with_reducible refine finish_in ?_ (by decide)
    | with_reducible refine pf0Only_in ?_ (fun _ => ?_)
    | with_reducible refine abortEffect_in ?_ (by decide)
    | split
    | dsimp only)

theorem cmdModuleReset_run  (s : State) (r : RingId) (c : OutCmd) : RanWithin 33553276 s (cmdModuleReset.run s r c) := by
  unfold cmdModuleReset
  dsimp only
  repeat' (first
    | assumption
    | with_reducible (exact Within.refl _ _)
    | with_reducible (refine RanWithin.fin ?_)
    | with_reducible (refine RanWithin.keep ?_)
    | with_reducible (refine RanWithin.gone ?_)
    | (exact RanWithin.later _ _)
    | with_reducible refine pf0Only_in ?_ (fun _ => ?_)
    | with_reducible refine warmReset_in ?_ (by decide)
    | split
    | dsimp only)

theorem detachEnd_within (s : State) : Within 32488312 s (detachEnd s) := by
  unfold detachEnd
  repeat' (first
    | assumption
    | with_reducible (exact Within.refl _ _)
    | with_reducible (refine Within.foldl ?_ (fun _ _ => ?_))
    | with_reducible (refine Within.foldl_fst ?_ (fun _ _ => ?_))
    | with_reducible refine State.setLantern_in ?_ (by decide)
    | with_reducible refine sendMgmt_in ?_ (by decide)
    | with_reducible refine scrubSlot_in ?_ (by decide)
    | with_reducible refine reportLost_in ?_ (by decide)
    | with_reducible refine closeSlot_in ?_ (by decide)
    | with_reducible refine leaveService_in ?_ (by decide)
    | split
    | dsimp only)

theorem detachEnd_in {s : State} {which : Nat} {s₀ : State} (h₀ : Within which s₀ s) (hm₀ : 32488312 ||| which = which) : Within which s₀ (detachEnd s) :=
  Within.step h₀ (detachEnd_within ..) hm₀

theorem detachHalt_within (s : State) : Within 26124400 s (detachHalt s) := by
  unfold detachHalt
  repeat' (first
    | assumption
    | with_reducible (exact Within.refl _ _)
    | with_reducible (refine Within.foldl ?_ (fun _ _ => ?_))
    | with_reducible (refine Within.foldl_fst ?_ (fun _ _ => ?_))
    | with_reducible refine originateHalt_in ?_ (by decide)
    | split
    | dsimp only)

theorem detachHalt_in {s : State} {which : Nat} {s₀ : State} (h₀ : Within which s₀ s) (hm₀ : 26124400 ||| which = which) : Within which s₀ (detachHalt s) :=
  Within.step h₀ (detachHalt_within ..) hm₀

theorem detachOrder_within (s : State) : Within 25698424 s (detachOrder s) := by
  unfold detachOrder
  repeat' (first
    | assumption
    | with_reducible (exact Within.refl _ _)
    | with_reducible (refine Within.foldl ?_ (fun _ _ => ?_))
    | with_reducible (refine Within.foldl_fst ?_ (fun _ _ => ?_))
    | with_reducible refine tell_in ?_ (by decide)
    | with_reducible refine setJob_in ?_ (by decide)
    | split
    | dsimp only)

theorem detachOrder_in {s : State} {which : Nat} {s₀ : State} (h₀ : Within which s₀ s) (hm₀ : 25698424 ||| which = which) : Within which s₀ (detachOrder s) :=
  Within.step h₀ (detachOrder_within ..) hm₀

theorem cmdDetach_run  (s : State) (r : RingId) (c : OutCmd) : RanWithin 32488312 s (cmdDetach.run s r c) := by
  unfold cmdDetach
  dsimp only
  repeat' (first
    | assumption
    | with_reducible (exact Within.refl _ _)
    | with_reducible (refine RanWithin.fin ?_)
    | with_reducible (refine RanWithin.keep ?_)
    | with_reducible (refine RanWithin.gone ?_)
    | (exact RanWithin.later _ _)
    | with_reducible refine State.setLantern_in ?_ (by decide)
    | with_reducible refine Ran.ok_in ?_ (by decide)
    | with_reducible refine Ran.notInState_in ?_ (by decide)
    | with_reducible refine pf0Only_in ?_ (fun _ => ?_)
    | with_reducible refine detachEnd_in ?_ (by decide)
    | with_reducible refine detachHalt_in ?_ (by decide)
    | with_reducible refine detachOrder_in ?_ (by decide)
    | split
    | dsimp only)

theorem cmdDetach_again  (s : State) (r : RingId) (c : OutCmd) : RanWithin 32488312 s (cmdDetach.again s r c) := by
  unfold cmdDetach
  dsimp only
  repeat' (first
    | assumption
    | with_reducible (exact Within.refl _ _)
    | with_reducible (refine RanWithin.fin ?_)
    | with_reducible (refine RanWithin.keep ?_)
    | with_reducible (refine RanWithin.gone ?_)
    | (exact RanWithin.later _ _)
    | with_reducible refine State.setLantern_in ?_ (by decide)
    | with_reducible refine Ran.ok_in ?_ (by decide)
    | with_reducible refine Ran.notInState_in ?_ (by decide)
    | with_reducible refine pf0Only_in ?_ (fun _ => ?_)
    | with_reducible refine detachEnd_in ?_ (by decide)
    | with_reducible refine detachHalt_in ?_ (by decide)
    | with_reducible refine detachOrder_in ?_ (by decide)
    | split
    | dsimp only)

theorem cmdAttach_run  (s : State) (r : RingId) (c : OutCmd) : RanWithin 524544 s (cmdAttach.run s r c) := by
  unfold cmdAttach
  dsimp only
  repeat' (first
    | assumption
    | with_reducible (exact Within.refl _ _)
    | with_reducible (refine RanWithin.fin ?_)
    | with_reducible (refine RanWithin.keep ?_)
    | with_reducible (refine RanWithin.gone ?_)
    | (exact RanWithin.later _ _)
    | with_reducible (refine Within.foldl ?_ (fun _ _ => ?_))
    | with_reducible (refine Within.foldl_fst ?_ (fun _ _ => ?_))
    | with_reducible refine State.setFabric_in ?_ (by decide)
    | with_reducible refine State.setLantern_in ?_ (by decide)
    | with_reducible refine Ran.ok_in ?_ (by decide)
    | with_reducible refine Ran.notInState_in ?_ (by decide)
    | with_reducible refine pf0Only_in ?_ (fun _ => ?_)
    | with_reducible refine setLinkSt_in ?_ (by decide)
    | split
    | dsimp only)

theorem cmdLanternSwitch_run  (s : State) (r : RingId) (c : OutCmd) : RanWithin 25436504 s (cmdLanternSwitch.run s r c) := by
  unfold cmdLanternSwitch
  dsimp only
  repeat' (first
    | assumption
    | with_reducible (exact Within.refl _ _)
    | with_reducible (refine RanWithin.fin ?_)
    | with_reducible (refine RanWithin.keep ?_)
    | with_reducible (refine RanWithin.gone ?_)
    | (exact RanWithin.later _ _)
    | with_reducible refine Ran.ok_in ?_ (by decide)
    | with_reducible refine Ran.notInStateFree_in ?_ (by decide)
    | with_reducible refine pf0Only_in ?_ (fun _ => ?_)
    | with_reducible refine takeover_in ?_ (by decide)
    | split
    | dsimp only)

theorem commandTimeout_within (s : State) (r : RingId) (tag : BitVec 16) (ms : Nat) : Within 32488312 s (commandTimeout s r tag ms) := by
  unfold commandTimeout
  repeat' (first
    | assumption
    | with_reducible (exact Within.refl _ _)
    | with_reducible refine finish_in ?_ (by decide)
    | with_reducible refine abortEffect_in ?_ (by decide)
    | with_reducible refine detachEnd_in ?_ (by decide)
    | with_reducible refine detachHalt_in ?_ (by decide)
    | split
    | dsimp only)

theorem commandTimeout_in {s : State} {r : RingId} {tag : BitVec 16} {ms : Nat} {which : Nat} {s₀ : State} (h₀ : Within which s₀ s) (hm₀ : 32488312 ||| which = which) : Within which s₀ (commandTimeout s r tag ms) :=
  Within.step h₀ (commandTimeout_within ..) hm₀

theorem sendProbes_within (s : State) (except : Option Nat) : Within 8912904 s (sendProbes s except) := by
  unfold sendProbes
  repeat' (first
    | assumption
    | with_reducible (exact Within.refl _ _)
    | with_reducible (refine Within.foldl ?_ (fun _ _ => ?_))
    | with_reducible (refine Within.foldl_fst ?_ (fun _ _ => ?_))
    | with_reducible refine State.setFabric_in ?_ (by decide)
    | with_reducible refine queueOn_in ?_ (by decide)
    | split
    | dsimp only)

theorem sendProbes_in {s : State} {except : Option Nat} {which : Nat} {s₀ : State} (h₀ : Within which s₀ s) (hm₀ : 8912904 ||| which = which) : Within which s₀ (sendProbes s except) :=
  Within.step h₀ (sendProbes_within ..) hm₀

theorem cmdSurveyStart_run  (s : State) (r : RingId) (c : OutCmd) : RanWithin 8913160 s (cmdSurveyStart.run s r c) := by
  unfold cmdSurveyStart
  dsimp only
  repeat' (first
    | assumption
    | with_reducible (exact Within.refl _ _)
    | with_reducible (refine RanWithin.fin ?_)
    | with_reducible (refine RanWithin.keep ?_)
    | with_reducible (refine RanWithin.gone ?_)
    | (exact RanWithin.later _ _)
    | with_reducible refine State.setLantern_in ?_ (by decide)
    | with_reducible refine Ran.ok_in ?_ (by decide)
    | with_reducible refine pf0Only_in ?_ (fun _ => ?_)
    | with_reducible refine sendProbes_in ?_ (by decide)
    | split
    | dsimp only)

theorem surveyProbe_within (s : State) (p : Nat) (x : SurveyProbe) : Within 8913160 s (surveyProbe s p x) := by
  unfold surveyProbe
  repeat' (first
    | assumption
    | with_reducible (exact Within.refl _ _)
    | with_reducible refine State.setLantern_in ?_ (by decide)
    | with_reducible refine sendProbes_in ?_ (by decide)
    | split
    | dsimp only)

theorem surveyProbe_in {s : State} {p : Nat} {x : SurveyProbe} {which : Nat} {s₀ : State} (h₀ : Within which s₀ s) (hm₀ : 8913160 ||| which = which) : Within which s₀ (surveyProbe s p x) :=
  Within.step h₀ (surveyProbe_within ..) hm₀

theorem cmdSurveyStatus_run  (s : State) (r : RingId) (c : OutCmd) : RanWithin 0 s (cmdSurveyStatus.run s r c) := by
  unfold cmdSurveyStatus
  dsimp only
  repeat' (first
    | assumption
    | with_reducible (exact Within.refl _ _)
    | with_reducible (refine RanWithin.fin ?_)
    | with_reducible (refine RanWithin.keep ?_)
    | with_reducible (refine RanWithin.gone ?_)
    | (exact RanWithin.later _ _)
    | with_reducible refine Ran.okWith_in ?_ (by decide)
    | with_reducible refine pf0Only_in ?_ (fun _ => ?_)
    | split
    | dsimp only)

theorem cmdSurveyAccept_run  (s : State) (r : RingId) (c : OutCmd) : RanWithin 256 s (cmdSurveyAccept.run s r c) := by
  unfold cmdSurveyAccept
  dsimp only
  repeat' (first
    | assumption
    | with_reducible (exact Within.refl _ _)
    | with_reducible (refine RanWithin.fin ?_)
    | with_reducible (refine RanWithin.keep ?_)
    | with_reducible (refine RanWithin.gone ?_)
    | (exact RanWithin.later _ _)
    | with_reducible refine State.setLantern_in ?_ (by decide)
    | with_reducible refine Ran.ok_in ?_ (by decide)
    | with_reducible refine Ran.notInState_in ?_ (by decide)
    | with_reducible refine pf0Only_in ?_ (fun _ => ?_)
    | split
    | dsimp only)

theorem cmdTlmList_run  (s : State) (r : RingId) (c : OutCmd) : RanWithin 0 s (cmdTlmList.run s r c) := by
  unfold cmdTlmList
  dsimp only
  repeat' (first
    | assumption
    | with_reducible (exact Within.refl _ _)
    | with_reducible (refine RanWithin.fin ?_)
    | with_reducible (refine RanWithin.keep ?_)
    | with_reducible (refine RanWithin.gone ?_)
    | (exact RanWithin.later _ _)
    | with_reducible refine listResult_in ?_ (by decide)
    | split
    | dsimp only)

theorem cmdTlmRead_run  (s : State) (r : RingId) (c : OutCmd) : RanWithin 0 s (cmdTlmRead.run s r c) := by
  unfold cmdTlmRead
  dsimp only
  repeat' (first
    | assumption
    | with_reducible (exact Within.refl _ _)
    | with_reducible (refine RanWithin.fin ?_)
    | with_reducible (refine RanWithin.keep ?_)
    | with_reducible (refine RanWithin.gone ?_)
    | (exact RanWithin.later _ _)
    | split
    | dsimp only)

theorem cmdTlmSampleCfg_run  (s : State) (r : RingId) (c : OutCmd) : RanWithin 256 s (cmdTlmSampleCfg.run s r c) := by
  unfold cmdTlmSampleCfg
  dsimp only
  repeat' (first
    | assumption
    | with_reducible (exact Within.refl _ _)
    | with_reducible (refine RanWithin.fin ?_)
    | with_reducible (refine RanWithin.keep ?_)
    | with_reducible (refine RanWithin.gone ?_)
    | (exact RanWithin.later _ _)
    | with_reducible refine State.setLantern_in ?_ (by decide)
    | with_reducible refine Ran.ok_in ?_ (by decide)
    | split
    | dsimp only)

theorem telemetrySample_within (s : State) : Within 8388864 s (telemetrySample s) := by
  unfold telemetrySample
  repeat' (first
    | assumption
    | with_reducible (exact Within.refl _ _)
    | with_reducible refine State.bump_in ?_ (by decide)
    | with_reducible refine State.setLantern_in ?_ (by decide)
    | split
    | dsimp only)

theorem telemetrySample_in {s : State} {which : Nat} {s₀ : State} (h₀ : Within which s₀ s) (hm₀ : 8388864 ||| which = which) : Within which s₀ (telemetrySample s) :=
  Within.step h₀ (telemetrySample_within ..) hm₀

theorem classWindow_within (s : State) (k x : Nat) : Within 256 s (classWindow s k x) := by
  unfold classWindow
  repeat' (first
    | assumption
    | with_reducible (exact Within.refl _ _)
    | with_reducible refine State.setLantern_in ?_ (by decide)
    | split
    | dsimp only)

theorem classWindow_in {s : State} {k x : Nat} {which : Nat} {s₀ : State} (h₀ : Within which s₀ s) (hm₀ : 256 ||| which = which) : Within which s₀ (classWindow s k x) :=
  Within.step h₀ (classWindow_within ..) hm₀

theorem loadWindow_within (s : State) (load : Nat) (classes : List Nat) : Within 256 s (loadWindow s load classes) := by
  unfold loadWindow
  repeat' (first
    | assumption
    | with_reducible (exact Within.refl _ _)
    | with_reducible (refine Within.foldl ?_ (fun _ _ => ?_))
    | with_reducible (refine Within.foldl_fst ?_ (fun _ _ => ?_))
    | with_reducible refine State.setLantern_in ?_ (by decide)
    | with_reducible refine classWindow_in ?_ (by decide)
    | split
    | dsimp only)

theorem loadWindow_in {s : State} {load : Nat} {classes : List Nat} {which : Nat} {s₀ : State} (h₀ : Within which s₀ s) (hm₀ : 256 ||| which = which) : Within which s₀ (loadWindow s load classes) :=
  Within.step h₀ (loadWindow_within ..) hm₀

theorem promote_within (s : State) : Within 1792 s (promote s) := by
  unfold promote
  extract_lets b x y s1
  have h1 : Within 1792 s s1 := setSlot_in (setSlot_in (Within.refl _ _) (by decide)) (by decide)
  clear_value s1
  split
  · exact Within.refl _ _
  · exact Within.step h1 (State.setKeep_raises _ _ (Nat.le_max_left ..)) (by decide)

theorem promote_in {s : State} {which : Nat} {s₀ : State} (h₀ : Within which s₀ s) (hm₀ : 1792 ||| which = which) : Within which s₀ (promote s) :=
  Within.step h₀ (promote_within ..) hm₀

theorem restartDone_within (s : State) : Within 272 s (restartDone s) := by
  unfold restartDone
  repeat' (first
    | assumption
    | with_reducible (exact Within.refl _ _)
    | with_reducible (refine Within.foldl ?_ (fun _ _ => ?_))
    | with_reducible (refine Within.foldl_fst ?_ (fun _ _ => ?_))
    | with_reducible refine State.setLantern_in ?_ (by decide)
    | with_reducible refine State.setRing_in ?_ (by decide)
    | split
    | dsimp only)

theorem restartDone_in {s : State} {which : Nat} {s₀ : State} (h₀ : Within which s₀ s) (hm₀ : 272 ||| which = which) : Within which s₀ (restartDone s) :=
  Within.step h₀ (restartDone_within ..) hm₀

theorem trainLinks_within (s : State) : Within 524288 s (trainLinks s) := by
  unfold trainLinks
  repeat' (first
    | assumption
    | with_reducible (exact Within.refl _ _)
    | with_reducible (refine Within.foldl ?_ (fun _ _ => ?_))
    | with_reducible (refine Within.foldl_fst ?_ (fun _ _ => ?_))
    | with_reducible refine setLinkSt_in ?_ (by decide)
    | split
    | dsimp only)

theorem trainLinks_in {s : State} {which : Nat} {s₀ : State} (h₀ : Within which s₀ s) (hm₀ : 524288 ||| which = which) : Within which s₀ (trainLinks s) :=
  Within.step h₀ (trainLinks_within ..) hm₀

theorem bootDone_within (s : State) : Within 526096 s (bootDone s) := by
  unfold bootDone
  repeat' (first
    | assumption
    | with_reducible (exact Within.refl _ _)
    | with_reducible refine State.setLantern_in ?_ (by decide)
    | with_reducible refine promote_in ?_ (by decide)
    | with_reducible refine restartDone_in ?_ (by decide)
    | with_reducible refine trainLinks_in ?_ (by decide)
    | split
    | dsimp only)

theorem bootDone_in {s : State} {which : Nat} {s₀ : State} (h₀ : Within which s₀ s) (hm₀ : 526096 ||| which = which) : Within which s₀ (bootDone s) :=
  Within.step h₀ (bootDone_within ..) hm₀

end Sys2Proof.Machine
end

