-- ==== Sys2Proof/Laws/Within/Chain.lean ====
section
/-! SUPPORT. What the operations of Machine/Chain.lean may touch: one lemma for each. -/

namespace Sys2Proof.Machine

open Sys2Proof

set_option linter.unusedTactic false
set_option linter.unreachableTactic false

/-- What an action frame's judgment may touch. -/
def JudgeWithin (m : Nat) (j : Judgment) : Prop :=
  match j with
  | .refuse _ => True
  | .act g => ∀ s, Within m s (g s)

theorem judged_within {m : Nat} {s : State} {good : Bool} {j : Judgment} (h : JudgeWithin m j) : JudgeWithin m (judged s good j) := by
  unfold judged
  split
  · trivial
  · split
    · trivial
    · split
      · trivial
      · exact h

theorem sendFrame_within (s : State) (f : ChainFrame) : Within 16777216 s (sendFrame s f) := by
  unfold sendFrame
  repeat' (first
    | assumption
    | with_reducible (exact Within.refl _ _)
    | split
    | dsimp only
    | with_reducible refine tx_in ?_ (by decide))

theorem sendFrame_in {s : State} {f : ChainFrame} {which : Nat} {s₀ : State} (h₀ : Within which s₀ s) (hm₀ : 16777216 ||| which = which) : Within which s₀ (sendFrame s f) :=
  Within.step h₀ (sendFrame_within ..) hm₀

theorem answerFrame_within {m : Nat} {s : State} {f : ChainFrame} {j : Judgment} (h : JudgeWithin m j) (hm : 16777472 ||| m = m) :
    Within m s (answerFrame s f j) := by
  have hf : 16777216 ||| m = m := by rw [← hm, ← Nat.or_assoc]; rfl
  have hl : 256 ||| m = m := by rw [← hm, ← Nat.or_assoc]; rfl
  unfold answerFrame
  dsimp only
  split
  · exact (sendFrame_within ..).mono hf
  · split
    · exact (sendFrame_within ..).mono hf
    · exact Within.trans (sendFrame_in (State.setLantern_in (Within.refl _ _) hl) hf) (h _)

theorem chainIn_within {m : Nat} {type : Byte} {judge : ChainFrame → State → Judgment} {f : ChainFrame} {s : State}
    (h : ∀ f s, JudgeWithin m (judge f s)) (hm : 16777472 ||| m = m) : Within m s (chainIn type judge f s) := by
  have hf : 16777216 ||| m = m := by rw [← hm, ← Nat.or_assoc]; rfl
  unfold chainIn
  split
  · exact Within.refl _ _
  · split
    · exact (sendFrame_within ..).mono hf
    · split
      · have k := h f s
        revert k
        cases judge f s with
        | act g => exact fun k => Within.trans (sendFrame_in (Within.refl _ _) hf) (k _)
        | refuse n => exact fun _ => (sendFrame_within ..).mono hf
      · split
        · exact answerFrame_within (h f s) hm
        · exact (sendFrame_within ..).mono hf

theorem enumerate_within (s : State) (f : ChainFrame) : Within 16777472 s (enumerate s f) := by
  unfold enumerate
  repeat' (first
    | assumption
    | with_reducible (exact Within.refl _ _)
    | with_reducible refine State.setLantern_in ?_ (by decide)
    | with_reducible refine sendFrame_in ?_ (by decide)
    | split
    | dsimp only)

theorem enumerate_in {s : State} {f : ChainFrame} {which : Nat} {s₀ : State} (h₀ : Within which s₀ s) (hm₀ : 16777472 ||| which = which) : Within which s₀ (enumerate s f) :=
  Within.step h₀ (enumerate_within ..) hm₀

theorem reportAlerts_within (s : State) : Within 1048576 s (reportAlerts s) := by
  unfold reportAlerts
  repeat' (first
    | assumption
    | with_reducible (exact Within.refl _ _)
    | with_reducible refine State.setCarrier_in ?_ (by decide)
    | split
    | dsimp only)

theorem reportAlerts_in {s : State} {which : Nat} {s₀ : State} (h₀ : Within which s₀ s) (hm₀ : 1048576 ||| which = which) : Within which s₀ (reportAlerts s) :=
  Within.step h₀ (reportAlerts_within ..) hm₀

theorem chainPowerOff_within (s : State) : Within 33553276 s (chainPowerOff s) := by
  unfold chainPowerOff
  repeat' (first
    | assumption
    | with_reducible (exact Within.refl _ _)
    | with_reducible (refine Within.foldl ?_ (fun _ _ => ?_))
    | with_reducible (refine Within.foldl_fst ?_ (fun _ _ => ?_))
    | with_reducible refine closeContext_in ?_ (by decide)
    | with_reducible refine mainOff_in ?_ (by decide)
    | with_reducible refine offAlerts_in ?_ (by decide)
    | split
    | dsimp only)

theorem chainPowerOff_in {s : State} {which : Nat} {s₀ : State} (h₀ : Within which s₀ s) (hm₀ : 33553276 ||| which = which) : Within which s₀ (chainPowerOff s) :=
  Within.step h₀ (chainPowerOff_within ..) hm₀

theorem chainStop_within (mask : Byte) (s : State) : Within 26124400 s (chainStop mask s) := by
  unfold chainStop
  repeat' (first
    | assumption
    | with_reducible (exact Within.refl _ _)
    | with_reducible (refine Within.foldl ?_ (fun _ _ => ?_))
    | with_reducible (refine Within.foldl_fst ?_ (fun _ _ => ?_))
    | with_reducible refine originateHalt_in ?_ (by decide)
    | split
    | dsimp only)

theorem chainStop_in {mask : Byte} {s : State} {which : Nat} {s₀ : State} (h₀ : Within which s₀ s) (hm₀ : 26124400 ||| which = which) : Within which s₀ (chainStop mask s) :=
  Within.step h₀ (chainStop_within ..) hm₀

theorem chainRecovery_within (slot : Byte) (s : State) : Within 33553276 s (chainRecovery slot s) := by
  unfold chainRecovery
  repeat' (first
    | assumption
    | with_reducible (exact Within.refl _ _)
    | with_reducible refine State.setLantern_in ?_ (by decide)
    | with_reducible refine warmReset_in ?_ (by decide)
    | with_reducible refine coldStart_in ?_ (by decide)
    | split
    | dsimp only)

theorem chainRecovery_in {slot : Byte} {s : State} {which : Nat} {s₀ : State} (h₀ : Within which s₀ s) (hm₀ : 33553276 ||| which = which) : Within which s₀ (chainRecovery slot s) :=
  Within.step h₀ (chainRecovery_within ..) hm₀

theorem useRescue_within (b : List Byte) (s : State) : Within 33553276 s (useRescue b s) := by
  unfold useRescue
  repeat' (first
    | assumption
    | with_reducible (exact Within.refl _ _)
    | with_reducible refine State.setLantern_in ?_ (by decide)
    | with_reducible refine setSlot_in ?_ (by decide)
    | with_reducible refine startBoot_in ?_ (by decide)
    | with_reducible refine warmEnd_in ?_ (by decide)
    | split
    | dsimp only)

theorem useRescue_in {b : List Byte} {s : State} {which : Nat} {s₀ : State} (h₀ : Within which s₀ s) (hm₀ : 33553276 ||| which = which) : Within which s₀ (useRescue b s) :=
  Within.step h₀ (useRescue_within ..) hm₀

theorem stageRescue_within (f : ChainFrame) (s : State) : Within 33553276 s (stageRescue f s) := by
  unfold stageRescue
  repeat' (first
    | assumption
    | with_reducible (exact Within.refl _ _)
    | with_reducible refine State.setLantern_in ?_ (by decide)
    | with_reducible refine useRescue_in ?_ (by decide)
    | split
    | dsimp only)

theorem stageRescue_in {f : ChainFrame} {s : State} {which : Nat} {s₀ : State} (h₀ : Within which s₀ s) (hm₀ : 33553276 ||| which = which) : Within which s₀ (stageRescue f s) :=
  Within.step h₀ (stageRescue_within ..) hm₀

end Sys2Proof.Machine
end

