-- ==== Sys2Proof/Laws/Within/Transport.lean ====
section
/-! SUPPORT. What the operations of Machine/Transport.lean may touch: one lemma for each. -/

namespace Sys2Proof.Machine

open Sys2Proof

set_option linter.unusedTactic false
set_option linter.unreachableTactic false

theorem sendPackets_within (c : Nat) (m : Msg) (ps : List Packet) (s : State) : Within 27965560 s (sendPackets c m ps s) := by
  induction ps generalizing s with
  | nil => exact Within.refl _ _
  | cons p ps ih =>
    have h1 := sendPacket_in (p := p) (Within.refl 27965560 s) (by decide)
    revert h1
    unfold sendPackets
    generalize sendPacket s p = q
    intro h1
    split
    · exact Within.trans h1 (ih _)
    · exact Within.trans h1 (ih _)
    · exact msgLost_in h1 (by decide)

theorem sendPackets_in {c : Nat} {m : Msg} {x0 : List Packet} {x1 : State} {which : Nat} {s₀ : State} (h₀ : Within which s₀ x1) (hm₀ : 27965560 ||| which = which) : Within which s₀ (sendPackets c m x0 x1) :=
  Within.step h₀ (sendPackets_within ..) hm₀

theorem startMsg_within (s : State) (c : Nat) (m : Msg) (ps : List Packet) : Within 27965560 s (startMsg s c m ps) := by
  unfold startMsg
  repeat' (first
    | assumption
    | with_reducible (exact Within.refl _ _)
    | with_reducible refine State.setCluster_in ?_ (by decide)
    | with_reducible refine sendPackets_in ?_ (by decide)
    | split
    | dsimp only)

theorem startMsg_in {s : State} {c : Nat} {m : Msg} {ps : List Packet} {which : Nat} {s₀ : State} (h₀ : Within which s₀ s) (hm₀ : 27965560 ||| which = which) : Within which s₀ (startMsg s c m ps) :=
  Within.step h₀ (startMsg_within ..) hm₀

theorem sendSignal_within (s : State) (c ctx fpn dest vid : Nat) (set : Bool) (v : Word32) (site : BitVec 32) : Within 27965560 s (sendSignal s c ctx fpn dest vid set v site) := by
  unfold sendSignal
  repeat' (first
    | assumption
    | with_reducible (exact Within.refl _ _)
    | with_reducible refine State.bump_in ?_ (by decide)
    | with_reducible refine startMsg_in ?_ (by decide)
    | split
    | dsimp only)

theorem sendSignal_in {s : State} {c ctx fpn dest vid : Nat} {set : Bool} {v : Word32} {site : BitVec 32} {which : Nat} {s₀ : State} (h₀ : Within which s₀ s) (hm₀ : 27965560 ||| which = which) : Within which s₀ (sendSignal s c ctx fpn dest vid set v site) :=
  Within.step h₀ (sendSignal_within ..) hm₀

theorem claimPend_within (s : State) (reg : Option (GroupId × Nat)) (num : Nat) : Within 32768 s (claimPend s reg num) := by
  unfold claimPend
  repeat' (first
    | assumption
    | with_reducible (exact Within.refl _ _)
    | with_reducible refine State.setGroup_in ?_ (by decide)
    | split
    | dsimp only)

theorem claimPend_in {s : State} {reg : Option (GroupId × Nat)} {num : Nat} {which : Nat} {s₀ : State} (h₀ : Within which s₀ s) (hm₀ : 32768 ||| which = which) : Within which s₀ (claimPend s reg num) :=
  Within.step h₀ (claimPend_within ..) hm₀

theorem headMsg_within {s : State} {c : Nat} {e : SendEntry} {t : State} {m : Msg} {ps : List Packet} (h : headMsg s c e = some (t, m, ps)) :
    Within 27302008 s t := by
  cases e <;> simp only [headMsg, Option.map_eq_some_iff, Prod.mk.injEq] at h
  case put => obtain ⟨fpn, -, h, -⟩ := h; rw [← h]; exact touch_in (Within.refl _ _) (by decide)
  case acc => obtain ⟨fpn, -, h, -⟩ := h; rw [← h]; exact touch_in (Within.refl _ _) (by decide)
  case get => obtain ⟨fpn, -, h, -⟩ := h; rw [← h]; exact claimPend_in (Within.refl _ _) (by decide)
  case signal => obtain ⟨fpn, -, h, -⟩ := h; rw [← h]; exact State.bump_in (Within.refl _ _) (by decide)
  all_goals cases h

theorem headMsg_in {s : State} {c : Nat} {e : SendEntry} {t : State} {m : Msg} {ps : List Packet} (h : headMsg s c e = some (t, m, ps)) {which : Nat}
    {s₀ : State} (h₀ : Within which s₀ s) (hm₀ : 27302008 ||| which = which) : Within which s₀ t := Within.step h₀ (headMsg_within h) hm₀

theorem sendHead_within (s : State) (c : Nat) (e : SendEntry) : Within 27965560 s (sendHead s c e) := by
  unfold sendHead
  repeat' (first
    | assumption
    | with_reducible (exact Within.refl _ _)
    | with_reducible refine State.setCluster_in ?_ (by decide)
    | with_reducible refine startMsg_in ?_ (by decide)
    | refine headMsg_in (by assumption) ?_ (by decide)
    | split
    | dsimp only)

theorem sendHead_in {s : State} {c : Nat} {e : SendEntry} {which : Nat} {s₀ : State} (h₀ : Within which s₀ s) (hm₀ : 27965560 ||| which = which) : Within which s₀ (sendHead s c e) :=
  Within.step h₀ (sendHead_within ..) hm₀

theorem msgDone_within (s : State) (c : Nat) (m : Msg) (mark : Option (Nat × Nat × Nat)) : Within 27965560 s (msgDone s c m mark) := by
  unfold msgDone
  repeat' (first
    | assumption
    | with_reducible (exact Within.refl _ _)
    | with_reducible refine State.setCluster_in ?_ (by decide)
    | with_reducible refine addDone_in ?_ (by decide)
    | with_reducible refine sendSignal_in ?_ (by decide)
    | split
    | dsimp only)

theorem msgDone_in {s : State} {c : Nat} {m : Msg} {mark : Option (Nat × Nat × Nat)} {which : Nat} {s₀ : State} (h₀ : Within which s₀ s) (hm₀ : 27965560 ||| which = which) : Within which s₀ (msgDone s c m mark) :=
  Within.step h₀ (msgDone_within ..) hm₀

theorem setMsg_within (s : State) (c : Nat) (m : Msg) : Within 131072 s (setMsg s c m) := by
  unfold setMsg
  repeat' (first
    | assumption
    | with_reducible (exact Within.refl _ _)
    | with_reducible refine State.setCluster_in ?_ (by decide)
    | split
    | dsimp only)

theorem setMsg_in {s : State} {c : Nat} {m : Msg} {which : Nat} {s₀ : State} (h₀ : Within which s₀ s) (hm₀ : 131072 ||| which = which) : Within which s₀ (setMsg s c m) :=
  Within.step h₀ (setMsg_within ..) hm₀

theorem takeIn_within (s : State) (n : Nat) : Within 524288 s (takeIn s n) := by
  unfold takeIn
  repeat' (first
    | assumption
    | with_reducible (exact Within.refl _ _)
    | with_reducible refine State.setFabric_in ?_ (by decide)
    | split
    | dsimp only)

theorem takeIn_in {s : State} {n : Nat} {which : Nat} {s₀ : State} (h₀ : Within which s₀ s) (hm₀ : 524288 ||| which = which) : Within which s₀ (takeIn s n) :=
  Within.step h₀ (takeIn_within ..) hm₀

theorem authentic_within {s : State} {p : Packet} {l : Nat} {t : State} (h : authentic s p l = .error t) : Within 25165936 s t := by
  unfold authentic at h
  split at h
  · cases h; exact State.bump_in (Within.refl _ _) (by decide)
  · split at h
    · cases h; exact postEvent_in (State.bump_in (Within.refl _ _) (by decide)) (by decide)
    · cases h

theorem authentic_in {s : State} {p : Packet} {l : Nat} {t : State} (h : authentic s p l = .error t) {which : Nat}
    {s₀ : State} (h₀ : Within which s₀ s) (hm₀ : 25165936 ||| which = which) : Within which s₀ t := Within.step h₀ (authentic_within h) hm₀

theorem sendAck_within (s : State) (p : Packet) (status : Nat) : Within 25690232 s (sendAck s p status) := by
  unfold sendAck
  repeat' (first
    | assumption
    | with_reducible (exact Within.refl _ _)
    | with_reducible refine sendLoose_in ?_ (by decide)
    | split
    | dsimp only)

theorem sendAck_in {s : State} {p : Packet} {status : Nat} {which : Nat} {s₀ : State} (h₀ : Within which s₀ s) (hm₀ : 25690232 ||| which = which) : Within which s₀ (sendAck s p status) :=
  Within.step h₀ (sendAck_within ..) hm₀

theorem onPacket_in {s : State} {n txn : Nat} {need : Packet → Need} {f : State → Packet → Nat × Ctx × Job → State} {which : Nat} {s₀ : State}
    (h₀ : Within which s₀ s) (hm₀ : 25690232 ||| which = which) (hf : ∀ t q b, Within which t (f t q b)) : Within which s₀ (onPacket s n txn need f) := by
  have k : ∀ s, Within which s (takeIn s n) := fun s => (takeIn_within s n).mono (by rw [← hm₀, ← Nat.or_assoc]; rfl)
  unfold onPacket
  split
  · exact h₀
  · split
    · rename_i e; exact authentic_in e (h₀.trans (k _)) (by rw [← hm₀, ← Nat.or_assoc]; rfl)
    · split
      · exact sendAck_in (h₀.trans (k _)) (by rw [← hm₀, ← Nat.or_assoc]; rfl)
      · split
        · exact h₀
        · exact (h₀.trans (k _)).trans (hf _ _ _)

theorem putData_within (s : State) (addr : Nat) (data : List Byte) (pmask : BitVec 64) : Within 27269240 s (putData s addr data pmask) := by
  unfold putData
  repeat' (first
    | assumption
    | with_reducible (exact Within.refl _ _)
    | with_reducible (refine Within.foldl ?_ (fun _ _ => ?_))
    | with_reducible (refine Within.foldl_fst ?_ (fun _ _ => ?_))
    | with_reducible refine storeMarked_in ?_ (by decide)
    | split
    | dsimp only)

theorem putData_in {s : State} {addr : Nat} {data : List Byte} {pmask : BitVec 64} {which : Nat} {s₀ : State} (h₀ : Within which s₀ s) (hm₀ : 27269240 ||| which = which) : Within which s₀ (putData s addr data pmask) :=
  Within.step h₀ (putData_within ..) hm₀

theorem putPacketBody_within (s : State) (p : Packet) (y2 : Nat × Ctx × Job) : Within 27793528 s (putPacketBody s p y2) := by
  unfold putPacketBody
  repeat' (first
    | assumption
    | with_reducible (exact Within.refl _ _)
    | with_reducible refine sendAck_in ?_ (by decide)
    | with_reducible refine putData_in ?_ (by decide)
    | split
    | dsimp only)

theorem putPacketBody_in {s : State} {p : Packet} {y2 : Nat × Ctx × Job} {which : Nat} {s₀ : State} (h₀ : Within which s₀ s) (hm₀ : 27793528 ||| which = which) : Within which s₀ (putPacketBody s p y2) :=
  Within.step h₀ (putPacketBody_within ..) hm₀

theorem accGranule_within (type : Nat) (s : State) (a : Nat) (data : List Byte) (bad : Bool) : Within 27269240 s (accGranule type s a data bad) := by
  unfold accGranule
  repeat' (first
    | assumption
    | with_reducible (exact Within.refl _ _)
    | with_reducible refine touch_in ?_ (by decide)
    | with_reducible refine storeMarked_in ?_ (by decide)
    | split
    | dsimp only)

theorem accGranule_in {type : Nat} {s : State} {a : Nat} {data : List Byte} {bad : Bool} {which : Nat} {s₀ : State} (h₀ : Within which s₀ s) (hm₀ : 27269240 ||| which = which) : Within which s₀ (accGranule type s a data bad) :=
  Within.step h₀ (accGranule_within ..) hm₀

theorem accPacketBody_within (s : State) (p : Packet) (y2 : Nat × Ctx × Job) : Within 27793528 s (accPacketBody s p y2) := by
  unfold accPacketBody
  repeat' (first
    | assumption
    | with_reducible (exact Within.refl _ _)
    | with_reducible (refine Within.foldl ?_ (fun _ _ => ?_))
    | with_reducible (refine Within.foldl_fst ?_ (fun _ _ => ?_))
    | with_reducible refine sendAck_in ?_ (by decide)
    | with_reducible refine accGranule_in ?_ (by decide)
    | split
    | dsimp only)

theorem accPacketBody_in {s : State} {p : Packet} {y2 : Nat × Ctx × Job} {which : Nat} {s₀ : State} (h₀ : Within which s₀ s) (hm₀ : 27793528 ||| which = which) : Within which s₀ (accPacketBody s p y2) :=
  Within.step h₀ (accPacketBody_within ..) hm₀

theorem getReqBody_within (s : State) (p : Packet) (y2 : Nat × Ctx × Job) : Within 27793528 s (getReqBody s p y2) := by
  unfold getReqBody
  repeat' (first
    | assumption
    | with_reducible (exact Within.refl _ _)
    | with_reducible (refine Within.foldl ?_ (fun _ _ => ?_))
    | with_reducible (refine Within.foldl_fst ?_ (fun _ _ => ?_))
    | with_reducible refine touch_in ?_ (by decide)
    | with_reducible refine sendLoose_in ?_ (by decide)
    | split
    | dsimp only)

theorem getReqBody_in {s : State} {p : Packet} {y2 : Nat × Ctx × Job} {which : Nat} {s₀ : State} (h₀ : Within which s₀ s) (hm₀ : 27793528 ||| which = which) : Within which s₀ (getReqBody s p y2) :=
  Within.step h₀ (getReqBody_within ..) hm₀

theorem getDataBody_within (s : State) (p : Packet) (m : Msg) : Within 27965560 s (getDataBody s p m) := by
  unfold getDataBody
  repeat' (first
    | assumption
    | with_reducible (exact Within.refl _ _)
    | with_reducible refine fillPend_in ?_ (by decide)
    | with_reducible refine msgDone_in ?_ (by decide)
    | with_reducible refine setMsg_in ?_ (by decide)
    | with_reducible refine putData_in ?_ (by decide)
    | split
    | dsimp only)

theorem getDataBody_in {s : State} {p : Packet} {m : Msg} {which : Nat} {s₀ : State} (h₀ : Within which s₀ s) (hm₀ : 27965560 ||| which = which) : Within which s₀ (getDataBody s p m) :=
  Within.step h₀ (getDataBody_within ..) hm₀

theorem onResponse_in {s : State} {n txn req : Nat} {f : State → Packet → Msg → State} {which : Nat} {s₀ : State}
    (h₀ : Within which s₀ s) (hm₀ : 25690224 ||| which = which) (hf : ∀ t q b, Within which t (f t q b)) : Within which s₀ (onResponse s n txn req f) := by
  have k : ∀ s, Within which s (takeIn s n) := fun s => (takeIn_within s n).mono (by rw [← hm₀, ← Nat.or_assoc]; rfl)
  unfold onResponse
  split
  · exact h₀
  · split
    · rename_i e; exact authentic_in e (h₀.trans (k _)) (by rw [← hm₀, ← Nat.or_assoc]; rfl)
    · split
      · split
        · exact h₀.trans (k _)
        · split
          · exact h₀
          · exact (h₀.trans (k _)).trans (hf _ _ _)
      · exact State.bump_in (h₀.trans (k _)) (by rw [← hm₀, ← Nat.or_assoc]; rfl)

theorem rejectSignal_within (s : State) (p : Packet) (vid : Nat) : Within 25165936 s (rejectSignal s p vid) := by
  unfold rejectSignal
  repeat' (first
    | assumption
    | with_reducible (exact Within.refl _ _)
    | with_reducible refine State.bump_in ?_ (by decide)
    | with_reducible refine postEvent_in ?_ (by decide)
    | split
    | dsimp only)

theorem rejectSignal_in {s : State} {p : Packet} {vid : Nat} {which : Nat} {s₀ : State} (h₀ : Within which s₀ s) (hm₀ : 25165936 ||| which = which) : Within which s₀ (rejectSignal s p vid) :=
  Within.step h₀ (rejectSignal_within ..) hm₀

theorem acceptSignal_within (s : State) (ctx : Nat) (p : Packet) (vid : Nat) : Within 8650752 s (acceptSignal s ctx p vid) := by
  unfold acceptSignal
  repeat' (first
    | assumption
    | with_reducible (exact Within.refl _ _)
    | with_reducible refine State.bump_in ?_ (by decide)
    | with_reducible refine State.setSync_in ?_ (by decide)
    | split
    | dsimp only)

theorem acceptSignal_in {s : State} {ctx : Nat} {p : Packet} {vid : Nat} {which : Nat} {s₀ : State} (h₀ : Within which s₀ s) (hm₀ : 8650752 ||| which = which) : Within which s₀ (acceptSignal s ctx p vid) :=
  Within.step h₀ (acceptSignal_within ..) hm₀

theorem signalIn_within (s : State) (n : Nat) : Within 25952376 s (signalIn s n) := by
  unfold signalIn
  repeat' (first
    | assumption
    | with_reducible (exact Within.refl _ _)
    | with_reducible refine Ran.ok_in ?_ (by decide)
    | with_reducible refine takeIn_in ?_ (by decide)
    | refine authentic_in (by assumption) ?_ (by decide)
    | with_reducible refine sendAck_in ?_ (by decide)
    | with_reducible refine rejectSignal_in ?_ (by decide)
    | with_reducible refine acceptSignal_in ?_ (by decide)
    | split
    | dsimp only)

theorem signalIn_in {s : State} {n : Nat} {which : Nat} {s₀ : State} (h₀ : Within which s₀ s) (hm₀ : 25952376 ||| which = which) : Within which s₀ (signalIn s n) :=
  Within.step h₀ (signalIn_within ..) hm₀

theorem atomicBody_within (s : State) (p : Packet) (y2 : Nat × Ctx × Job) : Within 27793528 s (atomicBody s p y2) := by
  unfold atomicBody
  repeat' (first
    | assumption
    | with_reducible (exact Within.refl _ _)
    | with_reducible refine State.tick_in ?_ (by decide)
    | with_reducible refine touch_in ?_ (by decide)
    | with_reducible refine storeMem_in ?_ (by decide)
    | with_reducible refine sendLoose_in ?_ (by decide)
    | split
    | dsimp only)

theorem atomicBody_in {s : State} {p : Packet} {y2 : Nat × Ctx × Job} {which : Nat} {s₀ : State} (h₀ : Within which s₀ s) (hm₀ : 27793528 ||| which = which) : Within which s₀ (atomicBody s p y2) :=
  Within.step h₀ (atomicBody_within ..) hm₀

theorem atomicRspBody_within (s : State) (p : Packet) (m : Msg) : Within 27965560 s (atomicRspBody s p m) := by
  unfold atomicRspBody
  repeat' (first
    | assumption
    | with_reducible (exact Within.refl _ _)
    | with_reducible refine msgDone_in ?_ (by decide)
    | split
    | dsimp only)

theorem atomicRspBody_in {s : State} {p : Packet} {m : Msg} {which : Nat} {s₀ : State} (h₀ : Within which s₀ s) (hm₀ : 27965560 ||| which = which) : Within which s₀ (atomicRspBody s p m) :=
  Within.step h₀ (atomicRspBody_within ..) hm₀

theorem noteReject_within (s : State) (p : Packet) (m : Msg) : Within 25165936 s (noteReject s p m).1 := by
  unfold noteReject
  repeat' (first
    | assumption
    | with_reducible (exact Within.refl _ _)
    | with_reducible refine postBoth_in ?_ (by decide)
    | with_reducible refine Within.ite_fst (fun _ => ?_) (fun _ => ?_)
    | split
    | dsimp only)

theorem noteReject_in {s : State} {p : Packet} {m : Msg} {which : Nat} {s₀ : State} (h₀ : Within which s₀ s) (hm₀ : 25165936 ||| which = which) : Within which s₀ (noteReject s p m).1 :=
  Within.step h₀ (noteReject_within ..) hm₀

theorem noteReject_fst {s : State} {p : Packet} {m : Msg} {which : Nat} {s₀ t₀ : State} {y} (he₀ : noteReject s p m = (t₀, y)) (h₀ : Within which s₀ s) (hm₀ : 25165936 ||| which = which) : Within which s₀ t₀ := by
  have k := noteReject_in (s := s) (p := p) (m := m) h₀ hm₀; rw [he₀] at k; exact k

theorem refuseGet_within (s : State) (c : Nat) (m : Msg) : Within 27965560 s (refuseGet s c m) := by
  unfold refuseGet
  repeat' (first
    | assumption
    | with_reducible (exact Within.refl _ _)
    | with_reducible refine State.tick_in ?_ (by decide)
    | with_reducible refine fillPend_in ?_ (by decide)
    | with_reducible refine msgDone_in ?_ (by decide)
    | split
    | dsimp only)

theorem refuseGet_in {s : State} {c : Nat} {m : Msg} {which : Nat} {s₀ : State} (h₀ : Within which s₀ s) (hm₀ : 27965560 ||| which = which) : Within which s₀ (refuseGet s c m) :=
  Within.step h₀ (refuseGet_within ..) hm₀

theorem ackIn_in {s : State} {n : Nat} {done : State → Msg → State} {which : Nat} {s₀ : State}
    (h₀ : Within which s₀ s) (hm₀ : 27965560 ||| which = which) (hf : ∀ t m, Within which t (done t m)) : Within which s₀ (ackIn s n done) := by
  have k : ∀ s, Within 27965560 s (takeIn s n) := fun s => (takeIn_within s n).mono (by decide)
  unfold ackIn
  split
  · exact h₀
  · split
    · rename_i e; exact authentic_in e (h₀.step (k _) hm₀) (by rw [← hm₀, ← Nat.or_assoc]; rfl)
    · split
      · exact h₀.step (State.bump_in (k _) (by decide)) hm₀
      · dsimp only
        generalize e : noteReject (takeIn s n) _ _ = q
        have h1 : Within 27965560 s q.1 := by
          rw [← e]; exact noteReject_in (k s) (by decide)
        clear e
        obtain ⟨s1, m1⟩ := q
        dsimp only at h1 ⊢
        split
        · split
          · exact h₀.step h1 hm₀
          · exact h₀.step (refuseGet_in h1 (by decide)) hm₀
        · split
          · exact (h₀.step (msgDone_in h1 (by decide)) hm₀).trans (hf _ _)
          · exact h₀.step (setMsg_in h1 (by decide)) hm₀

theorem ackTimeout_within (s : State) (c num pkt : Nat) : Within 27965560 s (ackTimeout s c num pkt) := by
  unfold ackTimeout
  repeat' (first
    | assumption
    | with_reducible (exact Within.refl _ _)
    | with_reducible refine msgLost_in ?_ (by decide)
    | split
    | dsimp only)

theorem ackTimeout_in {s : State} {c num pkt : Nat} {which : Nat} {s₀ : State} (h₀ : Within which s₀ s) (hm₀ : 27965560 ||| which = which) : Within which s₀ (ackTimeout s c num pkt) :=
  Within.step h₀ (ackTimeout_within ..) hm₀

end Sys2Proof.Machine
end

