-- ==== Sys2Proof/Laws/Within/Collect.lean ====
section
/-! SUPPORT. What the operations of Machine/Collect.lean may touch: one lemma for each. -/

namespace Sys2Proof.Machine

open Sys2Proof

set_option linter.unusedTactic false
set_option linter.unreachableTactic false

theorem putColl_within (s : State) (k : Collective) : Within 524288 s (putColl s k) := by
  unfold putColl
  repeat' (first
    | assumption
    | with_reducible (exact Within.refl _ _)
    | with_reducible refine State.setFabric_in ?_ (by decide)
    | split
    | dsimp only)

theorem putColl_in {s : State} {k : Collective} {which : Nat} {s₀ : State} (h₀ : Within which s₀ s) (hm₀ : 524288 ||| which = which) : Within which s₀ (putColl s k) :=
  Within.step h₀ (putColl_within ..) hm₀

theorem tellGroup_within (s : State) (j : Job) (axes : Nat) : Within 25690232 s (tellGroup s j axes) := by
  unfold tellGroup
  repeat' (first
    | assumption
    | with_reducible (exact Within.refl _ _)
    | with_reducible (refine Within.foldl ?_ (fun _ _ => ?_))
    | with_reducible (refine Within.foldl_fst ?_ (fun _ _ => ?_))
    | with_reducible refine tell_in ?_ (by decide)
    | split
    | dsimp only)

theorem tellGroup_in {s : State} {j : Job} {axes : Nat} {which : Nat} {s₀ : State} (h₀ : Within which s₀ s) (hm₀ : 25690232 ||| which = which) : Within which s₀ (tellGroup s j axes) :=
  Within.step h₀ (tellGroup_within ..) hm₀

theorem postMismatch_within (s : State) (j : Job) (k : Collective) (fab : Nat) : Within 25165936 s (postMismatch s j k fab) := by
  unfold postMismatch
  repeat' (first
    | assumption
    | with_reducible (exact Within.refl _ _)
    | with_reducible refine postBoth_in ?_ (by decide)
    | split
    | dsimp only)

theorem postMismatch_in {s : State} {j : Job} {k : Collective} {fab : Nat} {which : Nat} {s₀ : State} (h₀ : Within which s₀ s) (hm₀ : 25165936 ||| which = which) : Within which s₀ (postMismatch s j k fab) :=
  Within.step h₀ (postMismatch_within ..) hm₀

theorem mismatchColl_within (s : State) (j : Job) (k : Collective) (fab : Nat) : Within 27924600 s (mismatchColl s j k fab) := by
  unfold mismatchColl
  repeat' (first
    | assumption
    | with_reducible (exact Within.refl _ _)
    | with_reducible refine failColl_in ?_ (by decide)
    | with_reducible refine tellGroup_in ?_ (by decide)
    | with_reducible refine postMismatch_in ?_ (by decide)
    | split
    | dsimp only)

theorem mismatchColl_in {s : State} {j : Job} {k : Collective} {fab : Nat} {which : Nat} {s₀ : State} (h₀ : Within which s₀ s) (hm₀ : 27924600 ||| which = which) : Within which s₀ (mismatchColl s j k fab) :=
  Within.step h₀ (mismatchColl_within ..) hm₀

theorem rejectIssuer_within (s : State) (j : Job) (k : Collective) (status off : Nat) : Within 27924600 s (rejectIssuer s j k status off) := by
  unfold rejectIssuer
  repeat' (first
    | assumption
    | with_reducible (exact Within.refl _ _)
    | with_reducible refine failColl_in ?_ (by decide)
    | with_reducible refine tellGroup_in ?_ (by decide)
    | with_reducible refine postMismatch_in ?_ (by decide)
    | split
    | dsimp only)

theorem rejectIssuer_in {s : State} {j : Job} {k : Collective} {status off : Nat} {which : Nat} {s₀ : State} (h₀ : Within which s₀ s) (hm₀ : 27924600 ||| which = which) : Within which s₀ (rejectIssuer s j k status off) :=
  Within.step h₀ (rejectIssuer_within ..) hm₀

theorem endAlone_within (s : State) (ctx c desc : Nat) (obj : Option Nat) (site : BitVec 32) : Within 27400312 s (endAlone s ctx c desc obj site) := by
  unfold endAlone
  repeat' (first
    | assumption
    | with_reducible (exact Within.refl _ _)
    | with_reducible refine storeMem_in ?_ (by decide)
    | with_reducible refine addDone_in ?_ (by decide)
    | split
    | dsimp only)

theorem endAlone_in {s : State} {ctx c desc : Nat} {obj : Option Nat} {site : BitVec 32} {which : Nat} {s₀ : State} (h₀ : Within which s₀ s) (hm₀ : 27400312 ||| which = which) : Within which s₀ (endAlone s ctx c desc obj site) :=
  Within.step h₀ (endAlone_within ..) hm₀

theorem sendChunk_within (s : State) (slot : Nat) (j : Job) (k : Collective) (dest axis step off : Nat) (data : List Byte) : Within 27965560 s (sendChunk s slot j k dest axis step off data) := by
  unfold sendChunk
  repeat' (first
    | assumption
    | with_reducible (exact Within.refl _ _)
    | with_reducible refine State.bump_in ?_ (by decide)
    | with_reducible refine startMsg_in ?_ (by decide)
    | split
    | dsimp only)

theorem sendChunk_in {s : State} {slot : Nat} {j : Job} {k : Collective} {dest axis step off : Nat} {data : List Byte} {which : Nat} {s₀ : State} (h₀ : Within which s₀ s) (hm₀ : 27965560 ||| which = which) : Within which s₀ (sendChunk s slot j k dest axis step off data) :=
  Within.step h₀ (sendChunk_within ..) hm₀

theorem sendRange_within (s : State) (slot : Nat) (j : Job) (k : Collective) (dest axis step w : Nat) (src dst n : Nat) : Within 27965560 s (sendRange s slot j k dest axis step w src dst n) := by
  unfold sendRange
  repeat' (first
    | assumption
    | with_reducible (exact Within.refl _ _)
    | with_reducible (refine Within.foldl ?_ (fun _ _ => ?_))
    | with_reducible (refine Within.foldl_fst ?_ (fun _ _ => ?_))
    | with_reducible refine sendChunk_in ?_ (by decide)
    | split
    | dsimp only)

theorem sendRange_in {s : State} {slot : Nat} {j : Job} {k : Collective} {dest axis step w : Nat} {src dst n : Nat} {which : Nat} {s₀ : State} (h₀ : Within which s₀ s) (hm₀ : 27965560 ||| which = which) : Within which s₀ (sendRange s slot j k dest axis step w src dst n) :=
  Within.step h₀ (sendRange_within ..) hm₀

theorem sendStage_within (s : State) (slot : Nat) (j : Job) (k : Collective) (t : Stage) : Within 27965560 s (sendStage s slot j k t) := by
  unfold sendStage
  repeat' (first
    | assumption
    | with_reducible (exact Within.refl _ _)
    | with_reducible (refine Within.foldl ?_ (fun _ _ => ?_))
    | with_reducible (refine Within.foldl_fst ?_ (fun _ _ => ?_))
    | with_reducible refine sendRange_in ?_ (by decide)
    | split
    | dsimp only)

theorem sendStage_in {s : State} {slot : Nat} {j : Job} {k : Collective} {t : Stage} {which : Nat} {s₀ : State} (h₀ : Within which s₀ s) (hm₀ : 27965560 ||| which = which) : Within which s₀ (sendStage s slot j k t) :=
  Within.step h₀ (sendStage_within ..) hm₀

theorem sendDirect_within (s : State) (slot : Nat) (j : Job) (k : Collective) : Within 27965560 s (sendDirect s slot j k) := by
  unfold sendDirect
  repeat' (first
    | assumption
    | with_reducible (exact Within.refl _ _)
    | with_reducible (refine Within.foldl ?_ (fun _ _ => ?_))
    | with_reducible (refine Within.foldl_fst ?_ (fun _ _ => ?_))
    | with_reducible refine sendChunk_in ?_ (by decide)
    | with_reducible refine sendRange_in ?_ (by decide)
    | split
    | dsimp only)

theorem sendDirect_in {s : State} {slot : Nat} {j : Job} {k : Collective} {which : Nat} {s₀ : State} (h₀ : Within which s₀ s) (hm₀ : 27965560 ||| which = which) : Within which s₀ (sendDirect s slot j k) :=
  Within.step h₀ (sendDirect_within ..) hm₀

theorem doMove_within (s : State) (slot ctx : Nat) (j : Job) (number key idx : Nat) (m : Move) : Within 27965560 s (doMove s slot ctx j number key idx m) := by
  unfold doMove
  repeat' (first
    | assumption
    | with_reducible (exact Within.refl _ _)
    | with_reducible (refine Within.foldl ?_ (fun _ _ => ?_))
    | with_reducible (refine Within.foldl_fst ?_ (fun _ _ => ?_))
    | with_reducible refine State.bump_in ?_ (by decide)
    | with_reducible refine touch_in ?_ (by decide)
    | with_reducible refine copyRange_in ?_ (by decide)
    | with_reducible refine Run.bytes_in ?_ (by decide)
    | with_reducible refine startMsg_in ?_ (by decide)
    | split
    | dsimp only)

theorem doMove_in {s : State} {slot ctx : Nat} {j : Job} {number key idx : Nat} {m : Move} {which : Nat} {s₀ : State} (h₀ : Within which s₀ s) (hm₀ : 27965560 ||| which = which) : Within which s₀ (doMove s slot ctx j number key idx m) :=
  Within.step h₀ (doMove_within ..) hm₀

theorem refuseGather_within (s : State) (j : Job) (k : Collective) : Within 27924600 s (refuseGather s j k) := by
  unfold refuseGather
  repeat' (first
    | assumption
    | with_reducible (exact Within.refl _ _)
    | with_reducible refine State.bump_in ?_ (by decide)
    | with_reducible refine finishColl_in ?_ (by decide)
    | with_reducible refine tellGroup_in ?_ (by decide)
    | split
    | dsimp only)

theorem refuseGather_in {s : State} {j : Job} {k : Collective} {which : Nat} {s₀ : State} (h₀ : Within which s₀ s) (hm₀ : 27924600 ||| which = which) : Within which s₀ (refuseGather s j k) :=
  Within.step h₀ (refuseGather_within ..) hm₀

theorem publishVersion_within (s : State) (slot : Nat) (j : Job) (k : Collective) : Within 27965560 s (publishVersion s slot j k) := by
  unfold publishVersion
  repeat' (first
    | assumption
    | with_reducible (exact Within.refl _ _)
    | with_reducible (refine Within.foldl ?_ (fun _ _ => ?_))
    | with_reducible (refine Within.foldl_fst ?_ (fun _ _ => ?_))
    | with_reducible refine storeMem_in ?_ (by decide)
    | with_reducible refine startMsg_in ?_ (by decide)
    | split
    | dsimp only)

theorem publishVersion_in {s : State} {slot : Nat} {j : Job} {k : Collective} {which : Nat} {s₀ : State} (h₀ : Within which s₀ s) (hm₀ : 27965560 ||| which = which) : Within which s₀ (publishVersion s slot j k) :=
  Within.step h₀ (publishVersion_within ..) hm₀

theorem writeDst_within (s : State) (k : Collective) (off : Nat) (raw : List Word64) (poison : Bool) : Within 27269240 s (writeDst s k off raw poison) := by
  unfold writeDst
  repeat' (first
    | assumption
    | with_reducible (exact Within.refl _ _)
    | with_reducible refine storeMarked_in ?_ (by decide)
    | split
    | dsimp only)

theorem writeDst_in {s : State} {k : Collective} {off : Nat} {raw : List Word64} {poison : Bool} {which : Nat} {s₀ : State} (h₀ : Within which s₀ s) (hm₀ : 27269240 ||| which = which) : Within which s₀ (writeDst s k off raw poison) :=
  Within.step h₀ (writeDst_within ..) hm₀

theorem addSquares_within (s : State) (k : Collective) (xs : List Word64) : Within 27269240 s (addSquares s k xs) := by
  unfold addSquares
  repeat' (first
    | assumption
    | with_reducible (exact Within.refl _ _)
    | with_reducible (refine Within.foldl ?_ (fun _ _ => ?_))
    | with_reducible (refine Within.foldl_fst ?_ (fun _ _ => ?_))
    | with_reducible refine storeMarked_in ?_ (by decide)
    | split
    | dsimp only)

theorem addSquares_in {s : State} {k : Collective} {xs : List Word64} {which : Nat} {s₀ : State} (h₀ : Within which s₀ s) (hm₀ : 27269240 ||| which = which) : Within which s₀ (addSquares s k xs) :=
  Within.step h₀ (addSquares_within ..) hm₀

theorem writeOwn_within (s : State) (j : Job) (k : Collective) : Within 27269240 s (writeOwn s j k) := by
  unfold writeOwn
  repeat' (first
    | assumption
    | with_reducible (exact Within.refl _ _)
    | with_reducible refine storeMarked_in ?_ (by decide)
    | with_reducible refine writeDst_in ?_ (by decide)
    | with_reducible refine addSquares_in ?_ (by decide)
    | split
    | dsimp only)

theorem writeOwn_in {s : State} {j : Job} {k : Collective} {which : Nat} {s₀ : State} (h₀ : Within which s₀ s) (hm₀ : 27269240 ||| which = which) : Within which s₀ (writeOwn s j k) :=
  Within.step h₀ (writeOwn_within ..) hm₀

theorem sendNext_within (s : State) (slot : Nat) (j : Job) (k : Collective) : Within 27965560 s (sendNext s slot j k) := by
  unfold sendNext
  repeat' (first
    | assumption
    | with_reducible (exact Within.refl _ _)
    | with_reducible (refine Within.foldl ?_ (fun _ _ => ?_))
    | with_reducible (refine Within.foldl_fst ?_ (fun _ _ => ?_))
    | with_reducible refine putColl_in ?_ (by decide)
    | with_reducible refine sendStage_in ?_ (by decide)
    | with_reducible refine sendDirect_in ?_ (by decide)
    | with_reducible refine doMove_in ?_ (by decide)
    | split
    | dsimp only)

theorem sendNext_in {s : State} {slot : Nat} {j : Job} {k : Collective} {which : Nat} {s₀ : State} (h₀ : Within which s₀ s) (hm₀ : 27965560 ||| which = which) : Within which s₀ (sendNext s slot j k) :=
  Within.step h₀ (sendNext_within ..) hm₀

theorem endColl_within (s : State) (j : Job) (k : Collective) : Within 27924600 s (endColl s j k) := by
  unfold endColl
  repeat' (first
    | assumption
    | with_reducible (exact Within.refl _ _)
    | with_reducible refine State.tick_in ?_ (by decide)
    | with_reducible refine finishColl_in ?_ (by decide)
    | with_reducible refine writeOwn_in ?_ (by decide)
    | split
    | dsimp only)

theorem endColl_in {s : State} {j : Job} {k : Collective} {which : Nat} {s₀ : State} (h₀ : Within which s₀ s) (hm₀ : 27924600 ||| which = which) : Within which s₀ (endColl s j k) :=
  Within.step h₀ (endColl_within ..) hm₀

theorem collAdvance_within (slot : Nat) (ctx axes number : Nat) (n : Nat) (s : State) : Within 27965560 s (collAdvance slot ctx axes number n s) := by
  induction n generalizing s with
  | zero => exact Within.refl _ _
  | succ n ih =>
    unfold collAdvance
    split
    · split
      · exact Within.refl _ _
      · split
        · split
          · exact Within.trans (sendNext_in (Within.refl _ _) (by decide)) (ih _)
          · exact Within.refl _ _
        · split
          · exact endColl_in (Within.refl _ _) (by decide)
          · exact Within.refl _ _
    · exact Within.refl _ _

theorem collAdvance_in {slot : Nat} {ctx axes number : Nat} {x0 : Nat} {x1 : State} {which : Nat} {s₀ : State} (h₀ : Within which s₀ x1) (hm₀ : 27965560 ||| which = which) : Within which s₀ (collAdvance slot ctx axes number x0 x1) :=
  Within.step h₀ (collAdvance_within ..) hm₀

theorem advanceAll_within (s : State) (slot ctx axes number : Nat) : Within 27965560 s (advanceAll s slot ctx axes number) := by
  unfold advanceAll
  repeat' (first
    | assumption
    | with_reducible (exact Within.refl _ _)
    | with_reducible refine collAdvance_in ?_ (by decide)
    | split
    | dsimp only)

theorem advanceAll_in {s : State} {slot ctx axes number : Nat} {which : Nat} {s₀ : State} (h₀ : Within which s₀ s) (hm₀ : 27965560 ||| which = which) : Within which s₀ (advanceAll s slot ctx axes number) :=
  Within.step h₀ (advanceAll_within ..) hm₀

theorem takeChunk_within (s : State) (j : Job) (k : Collective) (p : Packet) : Within 27924600 s (takeChunk s j k p) := by
  unfold takeChunk
  repeat' (first
    | assumption
    | with_reducible (exact Within.refl _ _)
    | with_reducible refine putColl_in ?_ (by decide)
    | with_reducible refine mismatchColl_in ?_ (by decide)
    | with_reducible refine writeDst_in ?_ (by decide)
    | split
    | dsimp only)

theorem takeChunk_in {s : State} {j : Job} {k : Collective} {p : Packet} {which : Nat} {s₀ : State} (h₀ : Within which s₀ s) (hm₀ : 27924600 ||| which = which) : Within which s₀ (takeChunk s j k p) :=
  Within.step h₀ (takeChunk_within ..) hm₀

theorem chunkIn_within (s : State) (ctx : Nat) (c : Ctx) (j : Job) (p : Packet) : Within 27965560 s (chunkIn s ctx c j p) := by
  unfold chunkIn
  repeat' (first
    | assumption
    | with_reducible (exact Within.refl _ _)
    | with_reducible refine putColl_in ?_ (by decide)
    | with_reducible refine mismatchColl_in ?_ (by decide)
    | with_reducible refine advanceAll_in ?_ (by decide)
    | with_reducible refine takeChunk_in ?_ (by decide)
    | split
    | dsimp only)

theorem chunkIn_in {s : State} {ctx : Nat} {c : Ctx} {j : Job} {p : Packet} {which : Nat} {s₀ : State} (h₀ : Within which s₀ s) (hm₀ : 27965560 ||| which = which) : Within which s₀ (chunkIn s ctx c j p) :=
  Within.step h₀ (chunkIn_within ..) hm₀

theorem reduceChunkIn_within (s : State) (n : Nat) : Within 27965560 s (reduceChunkIn s n) := by
  unfold reduceChunkIn
  repeat' (first
    | assumption
    | with_reducible (exact Within.refl _ _)
    | with_reducible refine Ran.ok_in ?_ (by decide)
    | with_reducible refine takeIn_in ?_ (by decide)
    | refine authentic_in (by assumption) ?_ (by decide)
    | with_reducible refine sendAck_in ?_ (by decide)
    | with_reducible refine chunkIn_in ?_ (by decide)
    | split
    | dsimp only)

theorem reduceChunkIn_in {s : State} {n : Nat} {which : Nat} {s₀ : State} (h₀ : Within which s₀ s) (hm₀ : 27965560 ||| which = which) : Within which s₀ (reduceChunkIn s n) :=
  Within.step h₀ (reduceChunkIn_within ..) hm₀

theorem collArrive_within (s : State) (ctx : Nat) (c : Ctx) (j : Job) (cl desc code : Nat) (obj : Option Nat) (site : BitVec 32) : Within 27932792 s (collArrive s ctx c j cl desc code obj site) := by
  unfold collArrive
  repeat' (first
    | assumption
    | with_reducible (exact Within.refl _ _)
    | with_reducible refine State.setCtx_in ?_ (by decide)
    | with_reducible refine touch_in ?_ (by decide)
    | with_reducible refine putColl_in ?_ (by decide)
    | with_reducible refine rejectIssuer_in ?_ (by decide)
    | with_reducible refine endAlone_in ?_ (by decide)
    | split
    | dsimp only)

theorem collArrive_in {s : State} {ctx : Nat} {c : Ctx} {j : Job} {cl desc code : Nat} {obj : Option Nat} {site : BitVec 32} {which : Nat} {s₀ : State} (h₀ : Within which s₀ s) (hm₀ : 27932792 ||| which = which) : Within which s₀ (collArrive s ctx c j cl desc code obj site) :=
  Within.step h₀ (collArrive_within ..) hm₀

theorem collStart_within (s : State) (ctx axes number : Nat) : Within 27965560 s (collStart s ctx axes number) := by
  unfold collStart
  repeat' (first
    | assumption
    | with_reducible (exact Within.refl _ _)
    | with_reducible (refine Within.foldl ?_ (fun _ _ => ?_))
    | with_reducible (refine Within.foldl_fst ?_ (fun _ _ => ?_))
    | with_reducible refine touch_in ?_ (by decide)
    | with_reducible refine putColl_in ?_ (by decide)
    | with_reducible refine rejectIssuer_in ?_ (by decide)
    | with_reducible refine refuseGather_in ?_ (by decide)
    | with_reducible refine publishVersion_in ?_ (by decide)
    | with_reducible refine advanceAll_in ?_ (by decide)
    | with_reducible refine chunkIn_in ?_ (by decide)
    | split
    | dsimp only)

theorem collStart_in {s : State} {ctx axes number : Nat} {which : Nat} {s₀ : State} (h₀ : Within which s₀ s) (hm₀ : 27965560 ||| which = which) : Within which s₀ (collStart s ctx axes number) :=
  Within.step h₀ (collStart_within ..) hm₀

theorem serviceAcked_within (s : State) (m : Msg) : Within 27965560 s (serviceAcked s m) := by
  unfold serviceAcked
  repeat' (first
    | assumption
    | with_reducible (exact Within.refl _ _)
    | with_reducible refine State.setCtx_in ?_ (by decide)
    | with_reducible refine failColl_in ?_ (by decide)
    | with_reducible refine advanceAll_in ?_ (by decide)
    | split
    | dsimp only)

theorem serviceAcked_in {s : State} {m : Msg} {which : Nat} {s₀ : State} (h₀ : Within which s₀ s) (hm₀ : 27965560 ||| which = which) : Within which s₀ (serviceAcked s m) :=
  Within.step h₀ (serviceAcked_within ..) hm₀

end Sys2Proof.Machine
end

