-- ==== Sys2Proof/Laws/Within/Sec.lean ====
section
/-! SUPPORT. What the operations of Machine/Sec.lean may touch: one lemma for each. -/

namespace Sys2Proof.Machine

open Sys2Proof

set_option linter.unusedTactic false
set_option linter.unreachableTactic false

theorem cmdSecIdentity_run  (s : State) (r : RingId) (c : OutCmd) : RanWithin 0 s (cmdSecIdentity.run s r c) := by
  unfold cmdSecIdentity
  dsimp only
  repeat' (first
    | assumption
    | with_reducible (exact Within.refl _ _)
    | with_reducible (refine RanWithin.fin ?_)
    | with_reducible (refine RanWithin.keep ?_)
    | with_reducible (refine RanWithin.gone ?_)
    | (exact RanWithin.later _ _)
    | with_reducible refine Ran.okWith_in ?_ (by decide)
    | split
    | dsimp only)

theorem cmdSecAttest_run  (s : State) (r : RingId) (c : OutCmd) : RanWithin 0 s (cmdSecAttest.run s r c) := by
  unfold cmdSecAttest
  dsimp only
  repeat' (first
    | assumption
    | with_reducible (exact Within.refl _ _)
    | with_reducible (refine RanWithin.fin ?_)
    | with_reducible (refine RanWithin.keep ?_)
    | with_reducible (refine RanWithin.gone ?_)
    | (exact RanWithin.later _ _)
    | with_reducible refine Ran.okWith_in ?_ (by decide)
    | split
    | dsimp only)

theorem cmdSecLcStatus_run  (s : State) (r : RingId) (c : OutCmd) : RanWithin 8 s (cmdSecLcStatus.run s r c) := by
  unfold cmdSecLcStatus
  dsimp only
  repeat' (first
    | assumption
    | with_reducible (exact Within.refl _ _)
    | with_reducible (refine RanWithin.fin ?_)
    | with_reducible (refine RanWithin.keep ?_)
    | with_reducible (refine RanWithin.gone ?_)
    | (exact RanWithin.later _ _)
    | with_reducible refine State.tick_in ?_ (by decide)
    | with_reducible refine Ran.okWith_in ?_ (by decide)
    | split
    | dsimp only)

theorem cmdSecLcNonce_run  (s : State) (r : RingId) (c : OutCmd) : RanWithin 512 s (cmdSecLcNonce.run s r c) := by
  unfold cmdSecLcNonce
  dsimp only
  repeat' (first
    | assumption
    | with_reducible (exact Within.refl _ _)
    | with_reducible (refine RanWithin.fin ?_)
    | with_reducible (refine RanWithin.keep ?_)
    | with_reducible (refine RanWithin.gone ?_)
    | (exact RanWithin.later _ _)
    | with_reducible refine State.setKeep_in rfl ?_ (by decide)
    | with_reducible refine Ran.okWith_in ?_ (by decide)
    | with_reducible refine pf0Only_in ?_ (fun _ => ?_)
    | split
    | dsimp only)

theorem lcResult_within (s : State) : RanWithin 0 s (lcResult s) := by
  unfold lcResult
  repeat' (first
    | assumption
    | with_reducible (exact Within.refl _ _)
    | with_reducible (refine RanWithin.fin ?_)
    | with_reducible (refine RanWithin.keep ?_)
    | with_reducible (refine RanWithin.gone ?_)
    | (exact RanWithin.later _ _)
    | with_reducible refine Ran.ok_in ?_ (by decide)
    | with_reducible refine Ran.notInState_in ?_ (by decide)
    | split
    | dsimp only)

theorem lcResult_in {s : State} {which : Nat} {s₀ : State} (h₀ : Within which s₀ s) (hm₀ : 0 ||| which = which) : RanWithin which s₀ (lcResult s) :=
  RanWithin.step h₀ (lcResult_within ..) hm₀

theorem cmdSecLcToken_run  (s : State) (r : RingId) (c : OutCmd) : RanWithin 30390904 s (cmdSecLcToken.run s r c) := by
  unfold cmdSecLcToken
  dsimp only
  repeat' (first
    | assumption
    | with_reducible (exact Within.refl _ _)
    | with_reducible (refine RanWithin.fin ?_)
    | with_reducible (refine RanWithin.keep ?_)
    | with_reducible (refine RanWithin.gone ?_)
    | (exact RanWithin.later _ _)
    | with_reducible refine pf0Only_in ?_ (fun _ => ?_)
    | with_reducible refine beginLc_in ?_ (by decide)
    | with_reducible refine lcResult_in ?_ (by decide)
    | split
    | dsimp only)

theorem cmdSecLcRetry_run  (s : State) (r : RingId) (c : OutCmd) : RanWithin 30390904 s (cmdSecLcRetry.run s r c) := by
  unfold cmdSecLcRetry
  dsimp only
  repeat' (first
    | assumption
    | with_reducible (exact Within.refl _ _)
    | with_reducible (refine RanWithin.fin ?_)
    | with_reducible (refine RanWithin.keep ?_)
    | with_reducible (refine RanWithin.gone ?_)
    | (exact RanWithin.later _ _)
    | with_reducible refine Ran.notInState_in ?_ (by decide)
    | with_reducible refine pf0Only_in ?_ (fun _ => ?_)
    | with_reducible refine completeLc_in ?_ (by decide)
    | with_reducible refine lcResult_in ?_ (by decide)
    | split
    | dsimp only)

theorem cmdSecMode_run  (s : State) (r : RingId) (c : OutCmd) : RanWithin 28836472 s (cmdSecMode.run s r c) := by
  unfold cmdSecMode
  dsimp only
  repeat' (first
    | assumption
    | with_reducible (exact Within.refl _ _)
    | with_reducible (refine RanWithin.fin ?_)
    | with_reducible (refine RanWithin.keep ?_)
    | with_reducible (refine RanWithin.gone ?_)
    | (exact RanWithin.later _ _)
    | with_reducible (refine Within.foldl ?_ (fun _ _ => ?_))
    | with_reducible (refine Within.foldl_fst ?_ (fun _ _ => ?_))
    | with_reducible refine State.setCarrier_in ?_ (by decide)
    | with_reducible refine State.setKeep_in rfl ?_ (by decide)
    | with_reducible refine Ran.ok_in ?_ (by decide)
    | with_reducible refine Ran.denied_in ?_ (by decide)
    | with_reducible refine Ran.notInStateFree_in ?_ (by decide)
    | with_reducible refine pf0Only_in ?_ (fun _ => ?_)
    | with_reducible refine evalChange_in ?_ (by decide)
    | with_reducible refine enterRetrain_in ?_ (by decide)
    | split
    | dsimp only)

theorem setSlotMode_within (s : State) (k : Nat) (m : SlotMode) : Within 2048 s (setSlotMode s k m) := by
  unfold setSlotMode
  repeat' (first
    | assumption
    | with_reducible (exact Within.refl _ _)
    | with_reducible refine State.setMemSys_in rfl ?_ (by decide)
    | split
    | dsimp only)

theorem setSlotMode_in {s : State} {k : Nat} {m : SlotMode} {which : Nat} {s₀ : State} (h₀ : Within which s₀ s) (hm₀ : 2048 ||| which = which) : Within which s₀ (setSlotMode s k m) :=
  Within.step h₀ (setSlotMode_within ..) hm₀

theorem giveNear_within (i : Nat) (s : State) (k : Nat) : Within 2048 s (giveNear i s k) := by
  unfold giveNear
  repeat' (first
    | assumption
    | with_reducible (exact Within.refl _ _)
    | with_reducible refine setSlotMode_in ?_ (by decide)
    | split
    | dsimp only)

theorem giveNear_in {i : Nat} {s : State} {k : Nat} {which : Nat} {s₀ : State} (h₀ : Within which s₀ s) (hm₀ : 2048 ||| which = which) : Within which s₀ (giveNear i s k) :=
  Within.step h₀ (giveNear_within ..) hm₀

theorem assignSlots_within {s : State} {i near far : Nat} {t : State} (h : assignSlots s i near far = some t) : Within 2048 s t := by
  unfold assignSlots at h
  dsimp only at h
  split at h
  · cases h
  · cases h
    exact Within.foldl (Within.foldl (Within.refl _ _) (fun _ _ => giveNear_in (Within.refl _ _) (by decide)))
      (fun _ _ => setSlotMode_in (Within.refl _ _) (by decide))

theorem assignSlots_in {s : State} {i near far : Nat} {t : State} (h : assignSlots s i near far = some t) {which : Nat} {s₀ : State}
    (h₀ : Within which s₀ s) (hm₀ : 2048 ||| which = which) : Within which s₀ t := Within.step h₀ (assignSlots_within h) hm₀

theorem scrubNew_within (s : State) (i : Nat) : Within 27269240 s (scrubNew s i) := by
  unfold scrubNew
  repeat' (first
    | assumption
    | with_reducible (exact Within.refl _ _)
    | with_reducible refine zeroRanges_in ?_ (by decide)
    | with_reducible refine setMarks_in ?_ (by decide)
    | split
    | dsimp only)

theorem scrubNew_in {s : State} {i : Nat} {which : Nat} {s₀ : State} (h₀ : Within which s₀ s) (hm₀ : 27269240 ||| which = which) : Within which s₀ (scrubNew s i) :=
  Within.step h₀ (scrubNew_within ..) hm₀

theorem cmdSecPartCreate_run  (s : State) (r : RingId) (c : OutCmd) : RanWithin 27269752 s (cmdSecPartCreate.run s r c) := by
  unfold cmdSecPartCreate
  dsimp only
  repeat' (first
    | assumption
    | with_reducible (exact Within.refl _ _)
    | with_reducible (refine RanWithin.fin ?_)
    | with_reducible (refine RanWithin.keep ?_)
    | with_reducible (refine RanWithin.gone ?_)
    | (exact RanWithin.later _ _)
    | with_reducible refine State.setPart_in ?_ (by decide)
    | with_reducible refine Ran.ok_in ?_ (by decide)
    | with_reducible refine Ran.denied_in ?_ (by decide)
    | with_reducible refine Ran.notInStateFree_in ?_ (by decide)
    | with_reducible refine Ran.resource_in ?_ (by decide)
    | with_reducible refine pf0Only_in ?_ (fun _ => ?_)
    | with_reducible refine evalChange_in ?_ (by decide)
    | refine assignSlots_in (by assumption) ?_ (by decide)
    | with_reducible refine scrubNew_in ?_ (by decide)
    | split
    | dsimp only)

theorem freePart_within (s : State) (i : Nat) : Within 2048 s (freePart s i) := by
  unfold freePart
  repeat' (first
    | assumption
    | with_reducible (exact Within.refl _ _)
    | with_reducible (refine Within.foldl ?_ (fun _ _ => ?_))
    | with_reducible (refine Within.foldl_fst ?_ (fun _ _ => ?_))
    | with_reducible refine setSlotMode_in ?_ (by decide)
    | split
    | dsimp only)

theorem freePart_in {s : State} {i : Nat} {which : Nat} {s₀ : State} (h₀ : Within which s₀ s) (hm₀ : 2048 ||| which = which) : Within which s₀ (freePart s i) :=
  Within.step h₀ (freePart_within ..) hm₀

theorem dropVf_within (s : State) (i : Nat) : Within 262160 s (dropVf s i) := by
  unfold dropVf
  repeat' (first
    | assumption
    | with_reducible (exact Within.refl _ _)
    | with_reducible refine flr_in ?_ (by decide)
    | split
    | dsimp only)

theorem dropVf_in {s : State} {i : Nat} {which : Nat} {s₀ : State} (h₀ : Within which s₀ s) (hm₀ : 262160 ||| which = which) : Within which s₀ (dropVf s i) :=
  Within.step h₀ (dropVf_within ..) hm₀

theorem destroyPart_within (s : State) (i : Nat) : Within 32488056 s (destroyPart s i) := by
  unfold destroyPart
  repeat' (first
    | assumption
    | with_reducible (exact Within.refl _ _)
    | with_reducible refine State.setPart_in ?_ (by decide)
    | with_reducible refine scrubSlot_in ?_ (by decide)
    | with_reducible refine closeSlot_in ?_ (by decide)
    | with_reducible refine freePart_in ?_ (by decide)
    | with_reducible refine dropVf_in ?_ (by decide)
    | split
    | dsimp only)

theorem destroyPart_in {s : State} {i : Nat} {which : Nat} {s₀ : State} (h₀ : Within which s₀ s) (hm₀ : 32488056 ||| which = which) : Within which s₀ (destroyPart s i) :=
  Within.step h₀ (destroyPart_within ..) hm₀

theorem cmdSecPartDestroy_run  (s : State) (r : RingId) (c : OutCmd) : RanWithin 32488056 s (cmdSecPartDestroy.run s r c) := by
  unfold cmdSecPartDestroy
  dsimp only
  repeat' (first
    | assumption
    | with_reducible (exact Within.refl _ _)
    | with_reducible (refine RanWithin.fin ?_)
    | with_reducible (refine RanWithin.keep ?_)
    | with_reducible (refine RanWithin.gone ?_)
    | (exact RanWithin.later _ _)
    | with_reducible refine Ran.ok_in ?_ (by decide)
    | with_reducible refine Ran.notInStateFree_in ?_ (by decide)
    | with_reducible refine pf0Only_in ?_ (fun _ => ?_)
    | with_reducible refine evalChange_in ?_ (by decide)
    | with_reducible refine destroyPart_in ?_ (by decide)
    | split
    | dsimp only)

theorem cmdSecPartReset_run  (s : State) (r : RingId) (c : OutCmd) : RanWithin 32488056 s (cmdSecPartReset.run s r c) := by
  unfold cmdSecPartReset
  dsimp only
  repeat' (first
    | assumption
    | with_reducible (exact Within.refl _ _)
    | with_reducible (refine RanWithin.fin ?_)
    | with_reducible (refine RanWithin.keep ?_)
    | with_reducible (refine RanWithin.gone ?_)
    | (exact RanWithin.later _ _)
    | with_reducible refine Ran.ok_in ?_ (by decide)
    | with_reducible refine Ran.denied_in ?_ (by decide)
    | with_reducible refine Ran.notInStateFree_in ?_ (by decide)
    | with_reducible refine scrubSlot_in ?_ (by decide)
    | with_reducible refine closeSlot_in ?_ (by decide)
    | split
    | dsimp only)

theorem freshCounters_within (s : State) (k : Nat) : Within 524288 s (freshCounters s k) := by
  unfold freshCounters
  repeat' (first
    | assumption
    | with_reducible (exact Within.refl _ _)
    | with_reducible (refine Within.foldl ?_ (fun _ _ => ?_))
    | with_reducible (refine Within.foldl_fst ?_ (fun _ _ => ?_))
    | with_reducible refine State.setLink_in ?_ (by decide)
    | split
    | dsimp only)

theorem freshCounters_in {s : State} {k : Nat} {which : Nat} {s₀ : State} (h₀ : Within which s₀ s) (hm₀ : 524288 ||| which = which) : Within which s₀ (freshCounters s k) :=
  Within.step h₀ (freshCounters_within ..) hm₀

theorem installKey_within (s : State) (fpn slot : Nat) (key : List Byte) : Within 524800 s (installKey s fpn slot key) := by
  unfold installKey
  repeat' (first
    | assumption
    | with_reducible (exact Within.refl _ _)
    | with_reducible refine State.setKeep_in rfl ?_ (by decide)
    | with_reducible refine freshCounters_in ?_ (by decide)
    | split
    | dsimp only)

theorem installKey_in {s : State} {fpn slot : Nat} {key : List Byte} {which : Nat} {s₀ : State} (h₀ : Within which s₀ s) (hm₀ : 524800 ||| which = which) : Within which s₀ (installKey s fpn slot key) :=
  Within.step h₀ (installKey_within ..) hm₀

theorem cmdSecKeyInstall_run  (s : State) (r : RingId) (c : OutCmd) : RanWithin 524800 s (cmdSecKeyInstall.run s r c) := by
  unfold cmdSecKeyInstall
  dsimp only
  repeat' (first
    | assumption
    | with_reducible (exact Within.refl _ _)
    | with_reducible (refine RanWithin.fin ?_)
    | with_reducible (refine RanWithin.keep ?_)
    | with_reducible (refine RanWithin.gone ?_)
    | (exact RanWithin.later _ _)
    | with_reducible refine Ran.ok_in ?_ (by decide)
    | with_reducible refine Ran.denied_in ?_ (by decide)
    | with_reducible refine installKey_in ?_ (by decide)
    | split
    | dsimp only)

theorem cmdSecKeySwitch_run  (s : State) (r : RingId) (c : OutCmd) : RanWithin 520 s (cmdSecKeySwitch.run s r c) := by
  unfold cmdSecKeySwitch
  dsimp only
  repeat' (first
    | assumption
    | with_reducible (exact Within.refl _ _)
    | with_reducible (refine RanWithin.fin ?_)
    | with_reducible (refine RanWithin.keep ?_)
    | with_reducible (refine RanWithin.gone ?_)
    | (exact RanWithin.later _ _)
    | with_reducible refine State.setKeep_in rfl ?_ (by decide)
    | with_reducible refine Ran.ok_in ?_ (by decide)
    | with_reducible refine Ran.denied_in ?_ (by decide)
    | with_reducible refine Ran.notInStateFree_in ?_ (by decide)
    | split
    | dsimp only)

theorem cmdSecKeyErase_run  (s : State) (r : RingId) (c : OutCmd) : RanWithin 520 s (cmdSecKeyErase.run s r c) := by
  unfold cmdSecKeyErase
  dsimp only
  repeat' (first
    | assumption
    | with_reducible (exact Within.refl _ _)
    | with_reducible (refine RanWithin.fin ?_)
    | with_reducible (refine RanWithin.keep ?_)
    | with_reducible (refine RanWithin.gone ?_)
    | (exact RanWithin.later _ _)
    | with_reducible refine State.setKeep_in rfl ?_ (by decide)
    | with_reducible refine Ran.ok_in ?_ (by decide)
    | with_reducible refine Ran.denied_in ?_ (by decide)
    | with_reducible refine Ran.notInStateFree_in ?_ (by decide)
    | split
    | dsimp only)

theorem withShared_in {s : State} {c : OutCmd} {f : Shared → Ran} {which : Nat} {s₀ : State} (h₀ : Within which s₀ s)
    (hf : ∀ x, RanWithin which s₀ (f x)) : RanWithin which s₀ (withShared s c f) := by
  unfold withShared; split
  · exact hf _
  · exact h₀

theorem cmdSecSharedSeal_run  (s : State) (r : RingId) (c : OutCmd) : RanWithin 27269752 s (cmdSecSharedSeal.run s r c) := by
  unfold cmdSecSharedSeal
  dsimp only
  repeat' (first
    | assumption
    | with_reducible (exact Within.refl _ _)
    | with_reducible (refine RanWithin.fin ?_)
    | with_reducible (refine RanWithin.keep ?_)
    | with_reducible (refine RanWithin.gone ?_)
    | (exact RanWithin.later _ _)
    | with_reducible (refine Within.foldl ?_ (fun _ _ => ?_))
    | with_reducible (refine Within.foldl_fst ?_ (fun _ _ => ?_))
    | with_reducible refine meetKey_in ?_ (by decide)
    | with_reducible refine Ran.ok_in ?_ (by decide)
    | with_reducible refine Ran.notInStateFree_in ?_ (by decide)
    | with_reducible refine pf0Only_in ?_ (fun _ => ?_)
    | with_reducible refine setShared_in ?_ (by decide)
    | with_reducible refine withShared_in ?_ (fun _ => ?_)
    | split
    | dsimp only)

theorem cmdSecSharedUnseal_run  (s : State) (r : RingId) (c : OutCmd) : RanWithin 520 s (cmdSecSharedUnseal.run s r c) := by
  unfold cmdSecSharedUnseal
  dsimp only
  repeat' (first
    | assumption
    | with_reducible (exact Within.refl _ _)
    | with_reducible (refine RanWithin.fin ?_)
    | with_reducible (refine RanWithin.keep ?_)
    | with_reducible (refine RanWithin.gone ?_)
    | (exact RanWithin.later _ _)
    | with_reducible refine Ran.ok_in ?_ (by decide)
    | with_reducible refine Ran.notInStateFree_in ?_ (by decide)
    | with_reducible refine pf0Only_in ?_ (fun _ => ?_)
    | with_reducible refine setShared_in ?_ (by decide)
    | with_reducible refine withShared_in ?_ (fun _ => ?_)
    | split
    | dsimp only)

theorem cmdSecSharedStripe_run  (s : State) (r : RingId) (c : OutCmd) : RanWithin 520 s (cmdSecSharedStripe.run s r c) := by
  unfold cmdSecSharedStripe
  dsimp only
  repeat' (first
    | assumption
    | with_reducible (exact Within.refl _ _)
    | with_reducible (refine RanWithin.fin ?_)
    | with_reducible (refine RanWithin.keep ?_)
    | with_reducible (refine RanWithin.gone ?_)
    | (exact RanWithin.later _ _)
    | with_reducible refine Ran.ok_in ?_ (by decide)
    | with_reducible refine Ran.notInStateFree_in ?_ (by decide)
    | with_reducible refine pf0Only_in ?_ (fun _ => ?_)
    | with_reducible refine setShared_in ?_ (by decide)
    | with_reducible refine withShared_in ?_ (fun _ => ?_)
    | split
    | dsimp only)

theorem cmdSecCfg_run  (s : State) (r : RingId) (c : OutCmd) : RanWithin 25166448 s (cmdSecCfg.run s r c) := by
  unfold cmdSecCfg
  dsimp only
  repeat' (first
    | assumption
    | with_reducible (exact Within.refl _ _)
    | with_reducible (refine RanWithin.fin ?_)
    | with_reducible (refine RanWithin.keep ?_)
    | with_reducible (refine RanWithin.gone ?_)
    | (exact RanWithin.later _ _)
    | with_reducible refine State.setKeep_in rfl ?_ (by decide)
    | with_reducible refine Ran.ok_in ?_ (by decide)
    | with_reducible refine Ran.denied_in ?_ (by decide)
    | with_reducible refine pf0Only_in ?_ (fun _ => ?_)
    | with_reducible refine evalChange_in ?_ (by decide)
    | split
    | dsimp only)

end Sys2Proof.Machine
end

