-- ==== Sys2Proof/Laws/Within/Commit.lean ====
section
/-! SUPPORT. What the operations of Machine/Commit.lean may touch: one lemma for each. -/

namespace Sys2Proof.Machine

open Sys2Proof

set_option linter.unusedTactic false
set_option linter.unreachableTactic false

theorem registerRec_within (epoch : Nat) (s : State) (a : Nat) : Within 27269240 s (registerRec epoch s a) := by
  unfold registerRec
  repeat' (first
    | assumption
    | with_reducible (exact Within.refl _ _)
    | with_reducible refine touch_in ?_ (by decide)
    | with_reducible refine storeMem_in ?_ (by decide)
    | split
    | dsimp only)

theorem registerRec_in {epoch : Nat} {s : State} {a : Nat} {which : Nat} {s₀ : State} (h₀ : Within which s₀ s) (hm₀ : 27269240 ||| which = which) : Within which s₀ (registerRec epoch s a) :=
  Within.step h₀ (registerRec_within ..) hm₀

theorem overRecs_in {f : State → Nat → State} {s : State} {table recs : Nat} {which : Nat} {s₀ : State} (h₀ : Within which s₀ s)
    (hm₀ : 0 ||| which = which) (hf : ∀ t a, Within which t (f t a)) : Within which s₀ (overRecs f s table recs) := Within.foldl h₀ (fun _ _ => hf _ _)

theorem proposeRec_within (epoch : Nat) (s : State) (a : Nat) : Within 27269240 s (proposeRec epoch s a) := by
  unfold proposeRec
  repeat' (first
    | assumption
    | with_reducible (exact Within.refl _ _)
    | with_reducible refine touch_in ?_ (by decide)
    | with_reducible refine storeMem_in ?_ (by decide)
    | split
    | dsimp only)

theorem proposeRec_in {epoch : Nat} {s : State} {a : Nat} {which : Nat} {s₀ : State} (h₀ : Within which s₀ s) (hm₀ : 27269240 ||| which = which) : Within which s₀ (proposeRec epoch s a) :=
  Within.step h₀ (proposeRec_within ..) hm₀

theorem applyRec_within (s : State) (a : Nat) : Within 27269240 s (applyRec s a) := by
  unfold applyRec
  repeat' (first
    | assumption
    | with_reducible (exact Within.refl _ _)
    | with_reducible refine storeMem_in ?_ (by decide)
    | split
    | dsimp only)

theorem applyRec_in {s : State} {a : Nat} {which : Nat} {s₀ : State} (h₀ : Within which s₀ s) (hm₀ : 27269240 ||| which = which) : Within which s₀ (applyRec s a) :=
  Within.step h₀ (applyRec_within ..) hm₀

theorem unproposeRec_within (s : State) (a : Nat) : Within 27269240 s (unproposeRec s a) := by
  unfold unproposeRec
  repeat' (first
    | assumption
    | with_reducible (exact Within.refl _ _)
    | with_reducible refine storeMem_in ?_ (by decide)
    | split
    | dsimp only)

theorem unproposeRec_in {s : State} {a : Nat} {which : Nat} {s₀ : State} (h₀ : Within which s₀ s) (hm₀ : 27269240 ||| which = which) : Within which s₀ (unproposeRec s a) :=
  Within.step h₀ (unproposeRec_within ..) hm₀

theorem resetObj_within (s : State) (c : Ctx) (vid : Nat) : Within 26124408 s (resetObj s c vid) := by
  unfold resetObj
  repeat' (first
    | assumption
    | with_reducible (exact Within.refl _ _)
    | with_reducible refine settle_in ?_ (by decide)
    | split
    | dsimp only)

theorem resetObj_in {s : State} {c : Ctx} {vid : Nat} {which : Nat} {s₀ : State} (h₀ : Within which s₀ s) (hm₀ : 26124408 ||| which = which) : Within which s₀ (resetObj s c vid) :=
  Within.step h₀ (resetObj_within ..) hm₀

theorem clearObjs_within (s : State) (n : Nat) : Within 262144 s (clearObjs s n) := by
  unfold clearObjs
  repeat' (first
    | assumption
    | with_reducible (exact Within.refl _ _)
    | with_reducible refine State.setSync_in ?_ (by decide)
    | split
    | dsimp only)

theorem clearObjs_in {s : State} {n : Nat} {which : Nat} {s₀ : State} (h₀ : Within which s₀ s) (hm₀ : 262144 ||| which = which) : Within which s₀ (clearObjs s n) :=
  Within.step h₀ (clearObjs_within ..) hm₀

theorem launchRec_within (n : Nat) (s : State) (l : Nat × Nat × Nat) : Within 163848 s (launchRec n s l) := by
  unfold launchRec
  repeat' (first
    | assumption
    | with_reducible (exact Within.refl _ _)
    | with_reducible refine Ran.ok_in ?_ (by decide)
    | refine placeBlocks_in (by assumption) ?_ (by decide)
    | split
    | dsimp only)

theorem launchRec_in {n : Nat} {s : State} {l : Nat × Nat × Nat} {which : Nat} {s₀ : State} (h₀ : Within which s₀ s) (hm₀ : 163848 ||| which = which) : Within which s₀ (launchRec n s l) :=
  Within.step h₀ (launchRec_within ..) hm₀

theorem launchStep_within (s : State) (n : Nat) : Within 172040 s (launchStep s n) := by
  unfold launchStep
  repeat' (first
    | assumption
    | with_reducible (exact Within.refl _ _)
    | with_reducible (refine Within.foldl ?_ (fun _ _ => ?_))
    | with_reducible (refine Within.foldl_fst ?_ (fun _ _ => ?_))
    | with_reducible refine setJob_in ?_ (by decide)
    | with_reducible refine launchRec_in ?_ (by decide)
    | split
    | dsimp only)

theorem launchStep_in {s : State} {n : Nat} {which : Nat} {s₀ : State} (h₀ : Within which s₀ s) (hm₀ : 172040 ||| which = which) : Within which s₀ (launchStep s n) :=
  Within.step h₀ (launchStep_within ..) hm₀

theorem beginSnap_within (s : State) (n snap step : Nat) : Within 8396800 s (beginSnap s n snap step) := by
  unfold beginSnap
  repeat' (first
    | assumption
    | with_reducible (exact Within.refl _ _)
    | with_reducible (refine Within.foldl ?_ (fun _ _ => ?_))
    | with_reducible (refine Within.foldl_fst ?_ (fun _ _ => ?_))
    | with_reducible refine State.bump_in ?_ (by decide)
    | with_reducible refine setJob_in ?_ (by decide)
    | split
    | dsimp only)

theorem beginSnap_in {s : State} {n snap step : Nat} {which : Nat} {s₀ : State} (h₀ : Within which s₀ s) (hm₀ : 8396800 ||| which = which) : Within which s₀ (beginSnap s n snap step) :=
  Within.step h₀ (beginSnap_within ..) hm₀

theorem rollKey_within (s : State) (fpn : Nat) : Within 8913408 s (rollKey s fpn) := by
  unfold rollKey
  repeat' (first
    | assumption
    | with_reducible (exact Within.refl _ _)
    | with_reducible refine State.bump_in ?_ (by decide)
    | with_reducible refine State.setKeep_in rfl ?_ (by decide)
    | with_reducible refine installKey_in ?_ (by decide)
    | split
    | dsimp only)

theorem rollKey_in {s : State} {fpn : Nat} {which : Nat} {s₀ : State} (h₀ : Within which s₀ s) (hm₀ : 8913408 ||| which = which) : Within which s₀ (rollKey s fpn) :=
  Within.step h₀ (rollKey_within ..) hm₀

theorem tryRerun_within (s : State) (n : Nat) : Within 25862776 s (tryRerun s n) := by
  unfold tryRerun
  repeat' (first
    | assumption
    | with_reducible (exact Within.refl _ _)
    | with_reducible refine tellChildren_in ?_ (by decide)
    | with_reducible refine setJob_in ?_ (by decide)
    | with_reducible refine launchStep_in ?_ (by decide)
    | with_reducible refine rollKey_in ?_ (by decide)
    | split
    | dsimp only)

theorem tryRerun_in {s : State} {n : Nat} {which : Nat} {s₀ : State} (h₀ : Within which s₀ s) (hm₀ : 25862776 ||| which = which) : Within which s₀ (tryRerun s n) :=
  Within.step h₀ (tryRerun_within ..) hm₀

theorem answerDiscarded_within (s : State) (n : Nat) (j : Job) : Within 25862776 s (answerDiscarded s n j) := by
  unfold answerDiscarded
  repeat' (first
    | assumption
    | with_reducible (exact Within.refl _ _)
    | with_reducible refine tellParent_in ?_ (by decide)
    | with_reducible refine setJob_in ?_ (by decide)
    | with_reducible refine tryRerun_in ?_ (by decide)
    | split
    | dsimp only)

theorem answerDiscarded_in {s : State} {n : Nat} {j : Job} {which : Nat} {s₀ : State} (h₀ : Within which s₀ s) (hm₀ : 25862776 ||| which = which) : Within which s₀ (answerDiscarded s n j) :=
  Within.step h₀ (answerDiscarded_within ..) hm₀

theorem decideCommit_within (s : State) (n : Nat) : Within 25698424 s (decideCommit s n) := by
  unfold decideCommit
  repeat' (first
    | assumption
    | with_reducible (exact Within.refl _ _)
    | with_reducible refine tellChildren_in ?_ (by decide)
    | with_reducible refine setJob_in ?_ (by decide)
    | split
    | dsimp only)

theorem decideCommit_in {s : State} {n : Nat} {which : Nat} {s₀ : State} (h₀ : Within which s₀ s) (hm₀ : 25698424 ||| which = which) : Within which s₀ (decideCommit s n) :=
  Within.step h₀ (decideCommit_within ..) hm₀

theorem tryVote_within (s : State) (n : Nat) : Within 25698424 s (tryVote s n) := by
  unfold tryVote
  repeat' (first
    | assumption
    | with_reducible (exact Within.refl _ _)
    | with_reducible refine tell_in ?_ (by decide)
    | with_reducible refine tellParent_in ?_ (by decide)
    | with_reducible refine setJob_in ?_ (by decide)
    | with_reducible refine decideCommit_in ?_ (by decide)
    | split
    | dsimp only)

theorem tryVote_in {s : State} {n : Nat} {which : Nat} {s₀ : State} (h₀ : Within which s₀ s) (hm₀ : 25698424 ||| which = which) : Within which s₀ (tryVote s n) :=
  Within.step h₀ (tryVote_within ..) hm₀

theorem actAbort_within (s : State) (n : Nat) : Within 26124920 s (actAbort s n) := by
  unfold actAbort
  repeat' (first
    | assumption
    | with_reducible (exact Within.refl _ _)
    | with_reducible refine enterDiscard_in ?_ (by decide)
    | with_reducible refine answerDiscarded_in ?_ (by decide)
    | split
    | dsimp only)

theorem actAbort_in {s : State} {n : Nat} {which : Nat} {s₀ : State} (h₀ : Within which s₀ s) (hm₀ : 26124920 ||| which = which) : Within which s₀ (actAbort s n) :=
  Within.step h₀ (actAbort_within ..) hm₀

theorem decideAbort_within (s : State) (n : Nat) : Within 26124920 s (decideAbort s n) := by
  unfold decideAbort
  repeat' (first
    | assumption
    | with_reducible (exact Within.refl _ _)
    | with_reducible refine rootAbort_in ?_ (by decide)
    | with_reducible refine actAbort_in ?_ (by decide)
    | split
    | dsimp only)

theorem decideAbort_in {s : State} {n : Nat} {which : Nat} {s₀ : State} (h₀ : Within which s₀ s) (hm₀ : 26124920 ||| which = which) : Within which s₀ (decideAbort s n) :=
  Within.step h₀ (decideAbort_within ..) hm₀

theorem passFail_within (s : State) (n cause fab site trap : Nat) : Within 26124920 s (passFail s n cause fab site trap) := by
  unfold passFail
  repeat' (first
    | assumption
    | with_reducible (exact Within.refl _ _)
    | with_reducible refine tellParent_in ?_ (by decide)
    | with_reducible refine setJob_in ?_ (by decide)
    | with_reducible refine decideAbort_in ?_ (by decide)
    | split
    | dsimp only)

theorem passFail_in {s : State} {n cause fab site trap : Nat} {which : Nat} {s₀ : State} (h₀ : Within which s₀ s) (hm₀ : 26124920 ||| which = which) : Within which s₀ (passFail s n cause fab site trap) :=
  Within.step h₀ (passFail_within ..) hm₀

theorem applyStep_within (s : State) (n : Nat) (c : Ctx) (j : Job) : Within 28227704 s (applyStep s n c j) := by
  unfold applyStep
  repeat' (first
    | assumption
    | with_reducible (exact Within.refl _ _)
    | with_reducible (refine Within.foldl ?_ (fun _ _ => ?_))
    | with_reducible (refine Within.foldl_fst ?_ (fun _ _ => ?_))
    | with_reducible refine State.bump_in ?_ (by decide)
    | with_reducible refine setJob_in ?_ (by decide)
    | with_reducible refine collStart_in ?_ (by decide)
    | with_reducible refine overRecs_in ?_ (by decide) (fun _ _ => ?_)
    | with_reducible refine applyRec_in ?_ (by decide)
    | with_reducible refine resetObj_in ?_ (by decide)
    | with_reducible refine launchStep_in ?_ (by decide)
    | with_reducible refine beginSnap_in ?_ (by decide)
    | split
    | dsimp only)

theorem applyStep_in {s : State} {n : Nat} {c : Ctx} {j : Job} {which : Nat} {s₀ : State} (h₀ : Within which s₀ s) (hm₀ : 28227704 ||| which = which) : Within which s₀ (applyStep s n c j) :=
  Within.step h₀ (applyStep_within ..) hm₀

theorem discardDone_within (s : State) (n : Nat) (c : Ctx) (j : Job) : Within 28228216 s (discardDone s n c j) := by
  unfold discardDone
  repeat' (first
    | assumption
    | with_reducible (exact Within.refl _ _)
    | with_reducible refine State.bump_in ?_ (by decide)
    | with_reducible refine State.tick_in ?_ (by decide)
    | with_reducible refine postBoth_in ?_ (by decide)
    | with_reducible refine tellParent_in ?_ (by decide)
    | with_reducible refine setJob_in ?_ (by decide)
    | with_reducible refine overRecs_in ?_ (by decide) (fun _ _ => ?_)
    | with_reducible refine unproposeRec_in ?_ (by decide)
    | with_reducible refine clearObjs_in ?_ (by decide)
    | with_reducible refine tryRerun_in ?_ (by decide)
    | split
    | dsimp only)

theorem discardDone_in {s : State} {n : Nat} {c : Ctx} {j : Job} {which : Nat} {s₀ : State} (h₀ : Within which s₀ s) (hm₀ : 28228216 ||| which = which) : Within which s₀ (discardDone s n c j) :=
  Within.step h₀ (discardDone_within ..) hm₀

theorem dropMsgs_within (s : State) (n : Nat) : Within 131072 s (dropMsgs s n) := by
  unfold dropMsgs
  repeat' (first
    | assumption
    | with_reducible (exact Within.refl _ _)
    | split
    | dsimp only
    | with_reducible refine clusters_in ?_ (by decide))

theorem dropMsgs_in {s : State} {n : Nat} {which : Nat} {s₀ : State} (h₀ : Within which s₀ s) (hm₀ : 131072 ||| which = which) : Within which s₀ (dropMsgs s n) :=
  Within.step h₀ (dropMsgs_within ..) hm₀

theorem restoreRange_within (m : Sparse Byte) (s : State) (x : Nat × Nat) : Within 27269240 s (restoreRange m s x) := by
  unfold restoreRange
  repeat' (first
    | assumption
    | with_reducible (exact Within.refl _ _)
    | with_reducible refine storeMem_in ?_ (by decide)
    | split
    | dsimp only)

theorem restoreRange_in {m : Sparse Byte} {s : State} {x : Nat × Nat} {which : Nat} {s₀ : State} (h₀ : Within which s₀ s) (hm₀ : 27269240 ||| which = which) : Within which s₀ (restoreRange m s x) :=
  Within.step h₀ (restoreRange_within ..) hm₀

theorem restoreObj_within (n : Nat) (s : State) (x : Nat × Word32 × Word32) : Within 262144 s (restoreObj n s x) := by
  unfold restoreObj
  repeat' (first
    | assumption
    | with_reducible (exact Within.refl _ _)
    | with_reducible refine State.setObj_in ?_ (by decide)
    | split
    | dsimp only)

theorem restoreObj_in {n : Nat} {s : State} {x : Nat × Word32 × Word32} {which : Nat} {s₀ : State} (h₀ : Within which s₀ s) (hm₀ : 262144 ||| which = which) : Within which s₀ (restoreObj n s x) :=
  Within.step h₀ (restoreObj_within ..) hm₀

theorem restoreData_within (s : State) (n : Nat) (p : Snap) : Within 27539576 s (restoreData s n p) := by
  unfold restoreData
  repeat' (first
    | assumption
    | with_reducible (exact Within.refl _ _)
    | with_reducible (refine Within.foldl ?_ (fun _ _ => ?_))
    | with_reducible (refine Within.foldl_fst ?_ (fun _ _ => ?_))
    | with_reducible refine setJob_in ?_ (by decide)
    | with_reducible refine Run.bytes_in ?_ (by decide)
    | with_reducible refine clearObjs_in ?_ (by decide)
    | with_reducible refine restoreRange_in ?_ (by decide)
    | with_reducible refine restoreObj_in ?_ (by decide)
    | split
    | dsimp only)

theorem restoreData_in {s : State} {n : Nat} {p : Snap} {which : Nat} {s₀ : State} (h₀ : Within which s₀ s) (hm₀ : 27539576 ||| which = which) : Within which s₀ (restoreData s n p) :=
  Within.step h₀ (restoreData_within ..) hm₀

end Sys2Proof.Machine
end

