-- ==== Sys2Proof/Laws/Within/FabCmd.lean ====
section
/-! SUPPORT. What the operations of Machine/FabCmd.lean may touch: one lemma for each. -/

namespace Sys2Proof.Machine

open Sys2Proof

set_option linter.unusedTactic false
set_option linter.unreachableTactic false

theorem cmdFabInfo_run  (s : State) (r : RingId) (c : OutCmd) : RanWithin 0 s (cmdFabInfo.run s r c) := by
  unfold cmdFabInfo
  dsimp only
  repeat' (first
    | assumption
    | with_reducible (exact Within.refl _ _)
    | with_reducible (refine RanWithin.fin ?_)
    | with_reducible (refine RanWithin.keep ?_)
    | with_reducible (refine RanWithin.gone ?_)
    | (exact RanWithin.later _ _)
    | with_reducible refine Ran.okWith_in ?_ (by decide)
    | split
    | dsimp only)

theorem cmdFabLink_run  (s : State) (r : RingId) (c : OutCmd) : RanWithin 27965560 s (cmdFabLink.run s r c) := by
  unfold cmdFabLink
  dsimp only
  repeat' (first
    | assumption
    | with_reducible (exact Within.refl _ _)
    | with_reducible (refine RanWithin.fin ?_)
    | with_reducible (refine RanWithin.keep ?_)
    | with_reducible (refine RanWithin.gone ?_)
    | (exact RanWithin.later _ _)
    | with_reducible refine Ran.ok_in ?_ (by decide)
    | with_reducible refine Ran.notInState_in ?_ (by decide)
    | with_reducible refine pf0Only_in ?_ (fun _ => ?_)
    | with_reducible refine setLinkSt_in ?_ (by decide)
    | with_reducible refine leaveService_in ?_ (by decide)
    | split
    | dsimp only)

theorem cmdFabRoute_run  (s : State) (r : RingId) (c : OutCmd) : RanWithin 27965560 s (cmdFabRoute.run s r c) := by
  unfold cmdFabRoute
  dsimp only
  repeat' (first
    | assumption
    | with_reducible (exact Within.refl _ _)
    | with_reducible (refine RanWithin.fin ?_)
    | with_reducible (refine RanWithin.keep ?_)
    | with_reducible (refine RanWithin.gone ?_)
    | (exact RanWithin.later _ _)
    | with_reducible refine Ran.ok_in ?_ (by decide)
    | with_reducible refine pf0Only_in ?_ (fun _ => ?_)
    | with_reducible refine addDead_in ?_ (by decide)
    | with_reducible refine dropDead_in ?_ (by decide)
    | split
    | dsimp only)

theorem cmdFabHalt_run  (s : State) (r : RingId) (c : OutCmd) : RanWithin 26124400 s (cmdFabHalt.run s r c) := by
  unfold cmdFabHalt
  dsimp only
  repeat' (first
    | assumption
    | with_reducible (exact Within.refl _ _)
    | with_reducible (refine RanWithin.fin ?_)
    | with_reducible (refine RanWithin.keep ?_)
    | with_reducible (refine RanWithin.gone ?_)
    | (exact RanWithin.later _ _)
    | with_reducible refine Ran.okWith_in ?_ (by decide)
    | with_reducible refine Ran.denied_in ?_ (by decide)
    | with_reducible refine originateHalt_in ?_ (by decide)
    | split
    | dsimp only)

theorem cmdFabInject_run  (s : State) (r : RingId) (c : OutCmd) : RanWithin 524288 s (cmdFabInject.run s r c) := by
  unfold cmdFabInject
  dsimp only
  repeat' (first
    | assumption
    | with_reducible (exact Within.refl _ _)
    | with_reducible (refine RanWithin.fin ?_)
    | with_reducible (refine RanWithin.keep ?_)
    | with_reducible (refine RanWithin.gone ?_)
    | (exact RanWithin.later _ _)
    | with_reducible refine State.setLink_in ?_ (by decide)
    | with_reducible refine Ran.ok_in ?_ (by decide)
    | with_reducible refine Ran.denied_in ?_ (by decide)
    | with_reducible refine pf0Only_in ?_ (fun _ => ?_)
    | split
    | dsimp only)

theorem cmdFabCfg_run  (s : State) (r : RingId) (c : OutCmd) : RanWithin 524288 s (cmdFabCfg.run s r c) := by
  unfold cmdFabCfg
  dsimp only
  repeat' (first
    | assumption
    | with_reducible (exact Within.refl _ _)
    | with_reducible (refine RanWithin.fin ?_)
    | with_reducible (refine RanWithin.keep ?_)
    | with_reducible (refine RanWithin.gone ?_)
    | (exact RanWithin.later _ _)
    | with_reducible refine State.setFabric_in ?_ (by decide)
    | with_reducible refine Ran.ok_in ?_ (by decide)
    | with_reducible refine pf0Only_in ?_ (fun _ => ?_)
    | split
    | dsimp only)

end Sys2Proof.Machine
end

