-- ==== Sys2Proof/Laws/Within/JobCmd.lean ====
section
/-! SUPPORT. What the operations of Machine/JobCmd.lean may touch: one lemma for each. -/

namespace Sys2Proof.Machine

open Sys2Proof

set_option linter.unusedTactic false
set_option linter.unreachableTactic false

theorem withJob_in {s : State} {r : RingId} {c : OutCmd} {f : Ctx → Job → Ran} {which : Nat} {s₀ : State} (h₀ : Within which s₀ s)
    (hf : ∀ x j, RanWithin which s₀ (f x j)) : RanWithin which s₀ (withJob s r c f) := by
  unfold withJob
  refine withCtx_in h₀ (fun x => ?_)
  split
  · exact hf _ _
  · exact h₀

theorem withRoot_in {s : State} {r : RingId} {c : OutCmd} {f : Ctx → Job → Ran} {which : Nat} {s₀ : State} (h₀ : Within which s₀ s)
    (hf : ∀ x j, RanWithin which s₀ (f x j)) : RanWithin which s₀ (withRoot s r c f) := by
  unfold withRoot
  refine withJob_in h₀ (fun x j => ?_)
  split
  · exact hf _ _
  · exact h₀

theorem settlePartners_within (s : State) (j : Job) : Within 8 s (settlePartners s j).1 := by
  unfold settlePartners
  repeat' (first
    | assumption
    | with_reducible (exact Within.refl _ _)
    | with_reducible refine State.tick_in ?_ (by decide)
    | with_reducible refine Within.ite_fst (fun _ => ?_) (fun _ => ?_)
    | split
    | dsimp only)

theorem settlePartners_in {s : State} {j : Job} {which : Nat} {s₀ : State} (h₀ : Within which s₀ s) (hm₀ : 8 ||| which = which) : Within which s₀ (settlePartners s j).1 :=
  Within.step h₀ (settlePartners_within ..) hm₀

theorem settlePartners_fst {s : State} {j : Job} {which : Nat} {s₀ t₀ : State} {y} (he₀ : settlePartners s j = (t₀, y)) (h₀ : Within which s₀ s) (hm₀ : 8 ||| which = which) : Within which s₀ t₀ := by
  have k := settlePartners_in (s := s) (j := j) h₀ hm₀; rw [he₀] at k; exact k

theorem learnCerts_within (s : State) (fabs : List Nat) : Within 520 s (learnCerts s fabs) := by
  unfold learnCerts
  repeat' (first
    | assumption
    | with_reducible (exact Within.refl _ _)
    | with_reducible refine State.setKeep_in rfl ?_ (by decide)
    | split
    | dsimp only
    | with_reducible refine free_in ?_ (by decide))

theorem learnCerts_in {s : State} {fabs : List Nat} {which : Nat} {s₀ : State} (h₀ : Within which s₀ s) (hm₀ : 520 ||| which = which) : Within which s₀ (learnCerts s fabs) :=
  Within.step h₀ (learnCerts_within ..) hm₀

theorem bindJob_within (s : State) (n : Nat) (p : List Byte) : Within 27802232 s (bindJob s n p) := by
  unfold bindJob
  repeat' (first
    | assumption
    | with_reducible (exact Within.refl _ _)
    | with_reducible refine State.setCtx_in ?_ (by decide)
    | with_reducible refine State.setFabric_in ?_ (by decide)
    | with_reducible refine setJob_in ?_ (by decide)
    | with_reducible refine registerRec_in ?_ (by decide)
    | with_reducible refine overRecs_in ?_ (by decide) (fun _ _ => ?_)
    | with_reducible refine settlePartners_in ?_ (by decide)
    | refine settlePartners_fst (by assumption) ?_ (by decide)
    | with_reducible refine learnCerts_in ?_ (by decide)
    | with_reducible refine Within.ite_fst (fun _ => ?_) (fun _ => ?_)
    | split
    | dsimp only)

theorem bindJob_in {s : State} {n : Nat} {p : List Byte} {which : Nat} {s₀ : State} (h₀ : Within which s₀ s) (hm₀ : 27802232 ||| which = which) : Within which s₀ (bindJob s n p) :=
  Within.step h₀ (bindJob_within ..) hm₀

theorem cmdJobBind_run  (s : State) (r : RingId) (c : OutCmd) : RanWithin 27802232 s (cmdJobBind.run s r c) := by
  unfold cmdJobBind
  dsimp only
  repeat' (first
    | assumption
    | with_reducible (exact Within.refl _ _)
    | with_reducible (refine RanWithin.fin ?_)
    | with_reducible (refine RanWithin.keep ?_)
    | with_reducible (refine RanWithin.gone ?_)
    | (exact RanWithin.later _ _)
    | with_reducible refine Ran.ok_in ?_ (by decide)
    | with_reducible refine Ran.notInState_in ?_ (by decide)
    | with_reducible refine Ran.resource_in ?_ (by decide)
    | with_reducible refine withCtx_in ?_ (fun _ => ?_)
    | with_reducible refine bindJob_in ?_ (by decide)
    | split
    | dsimp only)

theorem unbind_within (s : State) (n : Nat) (c : Ctx) : Within 532480 s (unbind s n c) := by
  unfold unbind
  repeat' (first
    | assumption
    | with_reducible (exact Within.refl _ _)
    | with_reducible refine State.setCtx_in ?_ (by decide)
    | with_reducible refine State.setFabric_in ?_ (by decide)
    | split
    | dsimp only)

theorem unbind_in {s : State} {n : Nat} {c : Ctx} {which : Nat} {s₀ : State} (h₀ : Within which s₀ s) (hm₀ : 532480 ||| which = which) : Within which s₀ (unbind s n c) :=
  Within.step h₀ (unbind_within ..) hm₀

theorem cmdJobUnbind_run  (s : State) (r : RingId) (c : OutCmd) : RanWithin 532480 s (cmdJobUnbind.run s r c) := by
  unfold cmdJobUnbind
  dsimp only
  repeat' (first
    | assumption
    | with_reducible (exact Within.refl _ _)
    | with_reducible (refine RanWithin.fin ?_)
    | with_reducible (refine RanWithin.keep ?_)
    | with_reducible (refine RanWithin.gone ?_)
    | (exact RanWithin.later _ _)
    | with_reducible refine Ran.ok_in ?_ (by decide)
    | with_reducible refine Ran.notInState_in ?_ (by decide)
    | with_reducible refine withJob_in ?_ (fun _ _ => ?_)
    | with_reducible refine unbind_in ?_ (by decide)
    | split
    | dsimp only)

theorem cmdStepStatus_run  (s : State) (r : RingId) (c : OutCmd) : RanWithin 8 s (cmdStepStatus.run s r c) := by
  unfold cmdStepStatus
  dsimp only
  repeat' (first
    | assumption
    | with_reducible (exact Within.refl _ _)
    | with_reducible (refine RanWithin.fin ?_)
    | with_reducible (refine RanWithin.keep ?_)
    | with_reducible (refine RanWithin.gone ?_)
    | (exact RanWithin.later _ _)
    | with_reducible refine State.tick_in ?_ (by decide)
    | with_reducible refine Ran.okWith_in ?_ (by decide)
    | with_reducible refine withJob_in ?_ (fun _ _ => ?_)
    | split
    | dsimp only)

theorem continueStep_within (s : State) (n : Nat) (j : Job) : Within 26124408 s (continueStep s n j) := by
  unfold continueStep
  repeat' (first
    | assumption
    | with_reducible (exact Within.refl _ _)
    | with_reducible (refine Within.foldl ?_ (fun _ _ => ?_))
    | with_reducible (refine Within.foldl_fst ?_ (fun _ _ => ?_))
    | with_reducible refine tellChildren_in ?_ (by decide)
    | with_reducible refine setJob_in ?_ (by decide)
    | with_reducible refine resumeGroup_in ?_ (by decide)
    | split
    | dsimp only)

theorem continueStep_in {s : State} {n : Nat} {j : Job} {which : Nat} {s₀ : State} (h₀ : Within which s₀ s) (hm₀ : 26124408 ||| which = which) : Within which s₀ (continueStep s n j) :=
  Within.step h₀ (continueStep_within ..) hm₀

theorem resumeLaunch_within (s : State) (n : Nat) (j : Job) : Within 25862264 s (resumeLaunch s n j) := by
  unfold resumeLaunch
  repeat' (first
    | assumption
    | with_reducible (exact Within.refl _ _)
    | with_reducible refine tellChildren_in ?_ (by decide)
    | with_reducible refine setJob_in ?_ (by decide)
    | with_reducible refine launchStep_in ?_ (by decide)
    | split
    | dsimp only)

theorem resumeLaunch_in {s : State} {n : Nat} {j : Job} {which : Nat} {s₀ : State} (h₀ : Within which s₀ s) (hm₀ : 25862264 ||| which = which) : Within which s₀ (resumeLaunch s n j) :=
  Within.step h₀ (resumeLaunch_within ..) hm₀

theorem cmdStepResume_run  (s : State) (r : RingId) (c : OutCmd) : RanWithin 26124920 s (cmdStepResume.run s r c) := by
  unfold cmdStepResume
  dsimp only
  repeat' (first
    | assumption
    | with_reducible (exact Within.refl _ _)
    | with_reducible (refine RanWithin.fin ?_)
    | with_reducible (refine RanWithin.keep ?_)
    | with_reducible (refine RanWithin.gone ?_)
    | (exact RanWithin.later _ _)
    | with_reducible refine Ran.ok_in ?_ (by decide)
    | with_reducible refine Ran.notInState_in ?_ (by decide)
    | with_reducible refine setJob_in ?_ (by decide)
    | with_reducible refine decideAbort_in ?_ (by decide)
    | with_reducible refine withRoot_in ?_ (fun _ _ => ?_)
    | with_reducible refine continueStep_in ?_ (by decide)
    | with_reducible refine resumeLaunch_in ?_ (by decide)
    | split
    | dsimp only)

theorem cmdShardReg_run  (s : State) (r : RingId) (c : OutCmd) : RanWithin 27277432 s (cmdShardReg.run s r c) := by
  unfold cmdShardReg
  dsimp only
  repeat' (first
    | assumption
    | with_reducible (exact Within.refl _ _)
    | with_reducible (refine RanWithin.fin ?_)
    | with_reducible (refine RanWithin.keep ?_)
    | with_reducible (refine RanWithin.gone ?_)
    | (exact RanWithin.later _ _)
    | with_reducible refine Ran.ok_in ?_ (by decide)
    | with_reducible refine Ran.notInState_in ?_ (by decide)
    | with_reducible refine setJob_in ?_ (by decide)
    | with_reducible refine registerRec_in ?_ (by decide)
    | with_reducible refine overRecs_in ?_ (by decide) (fun _ _ => ?_)
    | with_reducible refine withJob_in ?_ (fun _ _ => ?_)
    | split
    | dsimp only)

theorem cmdPipeReg_run  (s : State) (r : RingId) (c : OutCmd) : RanWithin 8192 s (cmdPipeReg.run s r c) := by
  unfold cmdPipeReg
  dsimp only
  repeat' (first
    | assumption
    | with_reducible (exact Within.refl _ _)
    | with_reducible (refine RanWithin.fin ?_)
    | with_reducible (refine RanWithin.keep ?_)
    | with_reducible (refine RanWithin.gone ?_)
    | (exact RanWithin.later _ _)
    | with_reducible refine Ran.ok_in ?_ (by decide)
    | with_reducible refine setJob_in ?_ (by decide)
    | with_reducible refine withJob_in ?_ (fun _ _ => ?_)
    | split
    | dsimp only)

theorem cmdPipeStatus_run  (s : State) (r : RingId) (c : OutCmd) : RanWithin 8 s (cmdPipeStatus.run s r c) := by
  unfold cmdPipeStatus
  dsimp only
  repeat' (first
    | assumption
    | with_reducible (exact Within.refl _ _)
    | with_reducible (refine RanWithin.fin ?_)
    | with_reducible (refine RanWithin.keep ?_)
    | with_reducible (refine RanWithin.gone ?_)
    | (exact RanWithin.later _ _)
    | with_reducible refine State.tick_in ?_ (by decide)
    | with_reducible refine Ran.okWith_in ?_ (by decide)
    | with_reducible refine Ran.badArg_in ?_ (by decide)
    | with_reducible refine withJob_in ?_ (fun _ _ => ?_)
    | split
    | dsimp only)

theorem reportIncomplete_within (s : State) (n : Nat) (c : Ctx) (j : Job) : Within 25174136 s (reportIncomplete s n c j) := by
  unfold reportIncomplete
  repeat' (first
    | assumption
    | with_reducible (exact Within.refl _ _)
    | with_reducible refine State.tick_in ?_ (by decide)
    | with_reducible refine postBoth_in ?_ (by decide)
    | with_reducible refine setJob_in ?_ (by decide)
    | split
    | dsimp only)

theorem reportIncomplete_in {s : State} {n : Nat} {c : Ctx} {j : Job} {which : Nat} {s₀ : State} (h₀ : Within which s₀ s) (hm₀ : 25174136 ||| which = which) : Within which s₀ (reportIncomplete s n c j) :=
  Within.step h₀ (reportIncomplete_within ..) hm₀

theorem startReshard_within (s : State) (n : Nat) (c : Ctx) (j : Job) (o : OutCmd) : Within 27965560 s (startReshard s n c j o) := by
  unfold startReshard
  repeat' (first
    | assumption
    | with_reducible (exact Within.refl _ _)
    | with_reducible (refine Within.foldl ?_ (fun _ _ => ?_))
    | with_reducible (refine Within.foldl_fst ?_ (fun _ _ => ?_))
    | with_reducible refine State.bump_in ?_ (by decide)
    | with_reducible refine tellChildren_in ?_ (by decide)
    | with_reducible refine setJob_in ?_ (by decide)
    | with_reducible refine Run.bytes_in ?_ (by decide)
    | with_reducible refine doMove_in ?_ (by decide)
    | split
    | dsimp only)

theorem startReshard_in {s : State} {n : Nat} {c : Ctx} {j : Job} {o : OutCmd} {which : Nat} {s₀ : State} (h₀ : Within which s₀ s) (hm₀ : 27965560 ||| which = which) : Within which s₀ (startReshard s n c j o) :=
  Within.step h₀ (startReshard_within ..) hm₀

theorem cmdReshardStart_run  (s : State) (r : RingId) (c : OutCmd) : RanWithin 27965560 s (cmdReshardStart.run s r c) := by
  unfold cmdReshardStart
  dsimp only
  repeat' (first
    | assumption
    | with_reducible (exact Within.refl _ _)
    | with_reducible (refine RanWithin.fin ?_)
    | with_reducible (refine RanWithin.keep ?_)
    | with_reducible (refine RanWithin.gone ?_)
    | (exact RanWithin.later _ _)
    | with_reducible refine Ran.okWith_in ?_ (by decide)
    | with_reducible refine Ran.notInState_in ?_ (by decide)
    | with_reducible refine withRoot_in ?_ (fun _ _ => ?_)
    | with_reducible refine reportIncomplete_in ?_ (by decide)
    | with_reducible refine startReshard_in ?_ (by decide)
    | split
    | dsimp only)

theorem cmdReshardStatus_run  (s : State) (r : RingId) (c : OutCmd) : RanWithin 25174136 s (cmdReshardStatus.run s r c) := by
  unfold cmdReshardStatus
  dsimp only
  repeat' (first
    | assumption
    | with_reducible (exact Within.refl _ _)
    | with_reducible (refine RanWithin.fin ?_)
    | with_reducible (refine RanWithin.keep ?_)
    | with_reducible (refine RanWithin.gone ?_)
    | (exact RanWithin.later _ _)
    | with_reducible refine State.tick_in ?_ (by decide)
    | with_reducible refine Ran.okWith_in ?_ (by decide)
    | with_reducible refine withJob_in ?_ (fun _ _ => ?_)
    | with_reducible refine reportIncomplete_in ?_ (by decide)
    | split
    | dsimp only)

theorem cmdReshardAbort_run  (s : State) (r : RingId) (c : OutCmd) : RanWithin 25698424 s (cmdReshardAbort.run s r c) := by
  unfold cmdReshardAbort
  dsimp only
  repeat' (first
    | assumption
    | with_reducible (exact Within.refl _ _)
    | with_reducible (refine RanWithin.fin ?_)
    | with_reducible (refine RanWithin.keep ?_)
    | with_reducible (refine RanWithin.gone ?_)
    | (exact RanWithin.later _ _)
    | with_reducible refine Ran.ok_in ?_ (by decide)
    | with_reducible refine Ran.notInStateFree_in ?_ (by decide)
    | with_reducible refine tellChildren_in ?_ (by decide)
    | with_reducible refine setJob_in ?_ (by decide)
    | with_reducible refine withJob_in ?_ (fun _ _ => ?_)
    | split
    | dsimp only)

theorem registerNew_within (s : State) (n : Nat) : Within 27801720 s (registerNew s n) := by
  unfold registerNew
  repeat' (first
    | assumption
    | with_reducible (exact Within.refl _ _)
    | with_reducible refine tellChildren_in ?_ (by decide)
    | with_reducible refine setJob_in ?_ (by decide)
    | with_reducible refine registerRec_in ?_ (by decide)
    | with_reducible refine overRecs_in ?_ (by decide) (fun _ _ => ?_)
    | split
    | dsimp only)

theorem registerNew_in {s : State} {n : Nat} {which : Nat} {s₀ : State} (h₀ : Within which s₀ s) (hm₀ : 27801720 ||| which = which) : Within which s₀ (registerNew s n) :=
  Within.step h₀ (registerNew_within ..) hm₀

theorem tryCommitted_within (s : State) (n : Nat) : Within 27801720 s (tryCommitted s n) := by
  unfold tryCommitted
  repeat' (first
    | assumption
    | with_reducible (exact Within.refl _ _)
    | with_reducible refine tell_in ?_ (by decide)
    | with_reducible refine setJob_in ?_ (by decide)
    | with_reducible refine registerNew_in ?_ (by decide)
    | split
    | dsimp only)

theorem tryCommitted_in {s : State} {n : Nat} {which : Nat} {s₀ : State} (h₀ : Within which s₀ s) (hm₀ : 27801720 ||| which = which) : Within which s₀ (tryCommitted s n) :=
  Within.step h₀ (tryCommitted_within ..) hm₀

theorem noteCopied_within (s : State) (n rank : Nat) : Within 27801720 s (noteCopied s n rank) := by
  unfold noteCopied
  repeat' (first
    | assumption
    | with_reducible (exact Within.refl _ _)
    | with_reducible refine tellParent_in ?_ (by decide)
    | with_reducible refine setJob_in ?_ (by decide)
    | with_reducible refine tryCommitted_in ?_ (by decide)
    | split
    | dsimp only)

theorem noteCopied_in {s : State} {n rank : Nat} {which : Nat} {s₀ : State} (h₀ : Within which s₀ s) (hm₀ : 27801720 ||| which = which) : Within which s₀ (noteCopied s n rank) :=
  Within.step h₀ (noteCopied_within ..) hm₀

end Sys2Proof.Machine
end

