-- ==== Sys2Proof/Laws/Within/Snap.lean ====
section
/-! SUPPORT. What the operations of Machine/Snap.lean may touch: one lemma for each. -/

namespace Sys2Proof.Machine

open Sys2Proof

set_option linter.unusedTactic false
set_option linter.unreachableTactic false

theorem riskReportOut_within (s : State) (n : Nat) : Within 25698424 s (riskReportOut s n) := by
  unfold riskReportOut
  repeat' (first
    | assumption
    | with_reducible (exact Within.refl _ _)
    | with_reducible refine State.bump_in ?_ (by decide)
    | with_reducible refine tell_in ?_ (by decide)
    | with_reducible refine setJob_in ?_ (by decide)
    | split
    | dsimp only)

theorem riskReportOut_in {s : State} {n : Nat} {which : Nat} {s₀ : State} (h₀ : Within which s₀ s) (hm₀ : 25698424 ||| which = which) : Within which s₀ (riskReportOut s n) :=
  Within.step h₀ (riskReportOut_within ..) hm₀

theorem olderJob_within (s : State) (n : Nat) : Within 8192 s (olderJob s n) := by
  unfold olderJob
  repeat' (first
    | assumption
    | with_reducible (exact Within.refl _ _)
    | with_reducible refine setJob_in ?_ (by decide)
    | split
    | dsimp only)

theorem olderJob_in {s : State} {n : Nat} {which : Nat} {s₀ : State} (h₀ : Within which s₀ s) (hm₀ : 8192 ||| which = which) : Within which s₀ (olderJob s n) :=
  Within.step h₀ (olderJob_within ..) hm₀

theorem cmdSnapTensorReg_run  (s : State) (r : RingId) (c : OutCmd) : RanWithin 25174136 s (cmdSnapTensorReg.run s r c) := by
  unfold cmdSnapTensorReg
  dsimp only
  repeat' (first
    | assumption
    | with_reducible (exact Within.refl _ _)
    | with_reducible (refine RanWithin.fin ?_)
    | with_reducible (refine RanWithin.keep ?_)
    | with_reducible (refine RanWithin.gone ?_)
    | (exact RanWithin.later _ _)
    | with_reducible refine State.tick_in ?_ (by decide)
    | with_reducible refine postBoth_in ?_ (by decide)
    | with_reducible refine Ran.okWith_in ?_ (by decide)
    | with_reducible refine Ran.notInState_in ?_ (by decide)
    | with_reducible refine Ran.resource_in ?_ (by decide)
    | with_reducible refine setJob_in ?_ (by decide)
    | with_reducible refine withJob_in ?_ (fun _ _ => ?_)
    | split
    | dsimp only)

theorem cmdSnapTensorUnreg_run  (s : State) (r : RingId) (c : OutCmd) : RanWithin 8192 s (cmdSnapTensorUnreg.run s r c) := by
  unfold cmdSnapTensorUnreg
  dsimp only
  repeat' (first
    | assumption
    | with_reducible (exact Within.refl _ _)
    | with_reducible (refine RanWithin.fin ?_)
    | with_reducible (refine RanWithin.keep ?_)
    | with_reducible (refine RanWithin.gone ?_)
    | (exact RanWithin.later _ _)
    | with_reducible refine Ran.ok_in ?_ (by decide)
    | with_reducible refine Ran.notInState_in ?_ (by decide)
    | with_reducible refine setJob_in ?_ (by decide)
    | with_reducible refine withJob_in ?_ (fun _ _ => ?_)
    | split
    | dsimp only)

theorem writeSnap_within (s : State) (n : Nat) (j : Job) (d : Snap) : Within 27277432 s (writeSnap s n j d) := by
  unfold writeSnap
  repeat' (first
    | assumption
    | with_reducible (exact Within.refl _ _)
    | with_reducible (refine Within.foldl ?_ (fun _ _ => ?_))
    | with_reducible (refine Within.foldl_fst ?_ (fun _ _ => ?_))
    | with_reducible refine State.bump_in ?_ (by decide)
    | with_reducible refine setJob_in ?_ (by decide)
    | with_reducible refine Run.bytes_in ?_ (by decide)
    | split
    | dsimp only)

theorem writeSnap_in {s : State} {n : Nat} {j : Job} {d : Snap} {which : Nat} {s₀ : State} (h₀ : Within which s₀ s) (hm₀ : 27277432 ||| which = which) : Within which s₀ (writeSnap s n j d) :=
  Within.step h₀ (writeSnap_within ..) hm₀

theorem commitSnap_within (s : State) (n : Nat) : Within 25698424 s (commitSnap s n) := by
  unfold commitSnap
  repeat' (first
    | assumption
    | with_reducible (exact Within.refl _ _)
    | with_reducible refine State.bump_in ?_ (by decide)
    | with_reducible refine State.tick_in ?_ (by decide)
    | with_reducible refine postBoth_in ?_ (by decide)
    | with_reducible refine tellChildren_in ?_ (by decide)
    | with_reducible refine setJob_in ?_ (by decide)
    | split
    | dsimp only)

theorem commitSnap_in {s : State} {n : Nat} {which : Nat} {s₀ : State} (h₀ : Within which s₀ s) (hm₀ : 25698424 ||| which = which) : Within which s₀ (commitSnap s n) :=
  Within.step h₀ (commitSnap_within ..) hm₀

theorem trySnapCommit_within (s : State) (n : Nat) : Within 25698424 s (trySnapCommit s n) := by
  unfold trySnapCommit
  repeat' (first
    | assumption
    | with_reducible (exact Within.refl _ _)
    | with_reducible refine tell_in ?_ (by decide)
    | with_reducible refine setJob_in ?_ (by decide)
    | with_reducible refine commitSnap_in ?_ (by decide)
    | split
    | dsimp only)

theorem trySnapCommit_in {s : State} {n : Nat} {which : Nat} {s₀ : State} (h₀ : Within which s₀ s) (hm₀ : 25698424 ||| which = which) : Within which s₀ (trySnapCommit s n) :=
  Within.step h₀ (trySnapCommit_within ..) hm₀

theorem noteSnapOk_within (s : State) (n rank : Nat) : Within 25698424 s (noteSnapOk s n rank) := by
  unfold noteSnapOk
  repeat' (first
    | assumption
    | with_reducible (exact Within.refl _ _)
    | with_reducible refine tellParent_in ?_ (by decide)
    | with_reducible refine setJob_in ?_ (by decide)
    | with_reducible refine trySnapCommit_in ?_ (by decide)
    | split
    | dsimp only)

theorem noteSnapOk_in {s : State} {n rank : Nat} {which : Nat} {s₀ : State} (h₀ : Within which s₀ s) (hm₀ : 25698424 ||| which = which) : Within which s₀ (noteSnapOk s n rank) :=
  Within.step h₀ (noteSnapOk_within ..) hm₀

end Sys2Proof.Machine
end

