-- ==== Sys2Proof/Laws/Within/Survive.lean ====
section
/-! SUPPORT. What the operations of Machine/Survive.lean may touch: one lemma for each. -/

namespace Sys2Proof.Machine

open Sys2Proof

set_option linter.unusedTactic false
set_option linter.unreachableTactic false

theorem pickCopy_within (n : Nat) (s : State) (cs : List Nat) : Within 8388616 s (pickCopy n s cs).1 := by
  induction cs generalizing s with
  | nil => exact Within.refl _ _
  | cons c cs ih =>
    unfold pickCopy
    split
    · exact State.bump_in (State.tick_in (Within.refl _ _) (by decide)) (by decide)
    · exact Within.trans (State.bump_in (State.tick_in (State.tick_in (Within.refl _ _) (by decide)) (by decide)) (by decide)) (ih _)

theorem pickCopy_in {n : Nat} {x0 : State} {x1 : List Nat} {which : Nat} {s₀ : State} (h₀ : Within which s₀ x0) (hm₀ : 8388616 ||| which = which) : Within which s₀ (pickCopy n x0 x1).1 :=
  Within.step h₀ (pickCopy_within ..) hm₀

theorem pickCopy_fst {n : Nat} {x0 : State} {x1 : List Nat} {which : Nat} {s₀ t₀ : State} {y} (he₀ : pickCopy n x0 x1 = (t₀, y)) (h₀ : Within which s₀ x0) (hm₀ : 8388616 ||| which = which) : Within which s₀ t₀ := by
  have k := pickCopy_in (x0 := x0) (n := n) (x1 := x1) h₀ hm₀; rw [he₀] at k; exact k

theorem pickCopies_within (j : Job) (rank : Nat) (s : State) (ts : List Tensor) : Within 27269240 s (pickCopies j rank s ts).1 := by
  induction ts generalizing s with
  | nil => exact Within.refl _ _
  | cons t ts ih =>
    have h1 : Within 27269240 s (pickCopy (chunksOf t.bytes) s (copyOrder j.surv t)).1 := (pickCopy_within ..).mono (by decide)
    have h2 : Within 27269240 s (pickCopies j rank (pickCopy (chunksOf t.bytes) s (copyOrder j.surv t)).1.tick ts).1 :=
      Within.trans (State.tick_in h1 (by decide)) (ih _)
    unfold pickCopies
    dsimp only
    split <;> exact h2

theorem pickCopies_in {j : Job} {rank : Nat} {x0 : State} {x1 : List Tensor} {which : Nat} {s₀ : State} (h₀ : Within which s₀ x0) (hm₀ : 27269240 ||| which = which) : Within which s₀ (pickCopies j rank x0 x1).1 :=
  Within.step h₀ (pickCopies_within ..) hm₀

theorem pickCopies_fst {j : Job} {rank : Nat} {x0 : State} {x1 : List Tensor} {which : Nat} {s₀ t₀ : State} {y} (he₀ : pickCopies j rank x0 x1 = (t₀, y)) (h₀ : Within which s₀ x0) (hm₀ : 27269240 ||| which = which) : Within which s₀ t₀ := by
  have k := pickCopies_in (x0 := x0) (j := j) (rank := rank) (x1 := x1) h₀ hm₀; rw [he₀] at k; exact k

theorem postRestored_within (s : State) (c : Ctx) (j : Job) (status snap : Nat) : Within 25165936 s (postRestored s c j status snap) := by
  unfold postRestored
  repeat' (first
    | assumption
    | with_reducible (exact Within.refl _ _)
    | with_reducible refine postBoth_in ?_ (by decide)
    | split
    | dsimp only)

theorem postRestored_in {s : State} {c : Ctx} {j : Job} {status snap : Nat} {which : Nat} {s₀ : State} (h₀ : Within which s₀ s) (hm₀ : 25165936 ||| which = which) : Within which s₀ (postRestored s c j status snap) :=
  Within.step h₀ (postRestored_within ..) hm₀

theorem claimSpare_within (s : State) (n rank : Nat) : Within 25698936 s (claimSpare s n rank) := by
  unfold claimSpare
  repeat' (first
    | assumption
    | with_reducible (exact Within.refl _ _)
    | with_reducible refine postBoth_in ?_ (by decide)
    | with_reducible refine sendMgmt_in ?_ (by decide)
    | with_reducible refine setJob_in ?_ (by decide)
    | with_reducible refine learnCerts_in ?_ (by decide)
    | split
    | dsimp only
    | with_reducible refine free_in ?_ (by decide))

theorem claimSpare_in {s : State} {n rank : Nat} {which : Nat} {s₀ : State} (h₀ : Within which s₀ s) (hm₀ : 25698936 ||| which = which) : Within which s₀ (claimSpare s n rank) :=
  Within.step h₀ (claimSpare_within ..) hm₀

theorem claimAll_within (s : State) (n : Nat) : Within 25698936 s (claimAll s n) := by
  unfold claimAll
  repeat' (first
    | assumption
    | with_reducible (exact Within.refl _ _)
    | with_reducible (refine Within.foldl ?_ (fun _ _ => ?_))
    | with_reducible (refine Within.foldl_fst ?_ (fun _ _ => ?_))
    | with_reducible refine claimSpare_in ?_ (by decide)
    | split
    | dsimp only)

theorem claimAll_in {s : State} {n : Nat} {which : Nat} {s₀ : State} (h₀ : Within which s₀ s) (hm₀ : 25698936 ||| which = which) : Within which s₀ (claimAll s n) :=
  Within.step h₀ (claimAll_within ..) hm₀

theorem tryRelaunch_within (s : State) (n : Nat) : Within 25862264 s (tryRelaunch s n) := by
  unfold tryRelaunch
  repeat' (first
    | assumption
    | with_reducible (exact Within.refl _ _)
    | with_reducible refine tellChildren_in ?_ (by decide)
    | with_reducible refine setJob_in ?_ (by decide)
    | with_reducible refine launchStep_in ?_ (by decide)
    | with_reducible refine postRestored_in ?_ (by decide)
    | split
    | dsimp only)

theorem tryRelaunch_in {s : State} {n : Nat} {which : Nat} {s₀ : State} (h₀ : Within which s₀ s) (hm₀ : 25862264 ||| which = which) : Within which s₀ (tryRelaunch s n) :=
  Within.step h₀ (tryRelaunch_within ..) hm₀

theorem abandonSnap_within (s : State) (n : Nat) : Within 25174136 s (abandonSnap s n) := by
  unfold abandonSnap
  repeat' (first
    | assumption
    | with_reducible (exact Within.refl _ _)
    | with_reducible refine State.bump_in ?_ (by decide)
    | with_reducible refine State.tick_in ?_ (by decide)
    | with_reducible refine postBoth_in ?_ (by decide)
    | with_reducible refine setJob_in ?_ (by decide)
    | split
    | dsimp only)

theorem abandonSnap_in {s : State} {n : Nat} {which : Nat} {s₀ : State} (h₀ : Within which s₀ s) (hm₀ : 25174136 ||| which = which) : Within which s₀ (abandonSnap s n) :=
  Within.step h₀ (abandonSnap_within ..) hm₀

theorem setReport_within (s : State) (n : Nat) (ls : List ReportLine) : Within 8192 s (setReport s n ls) := by
  unfold setReport
  repeat' (first
    | assumption
    | with_reducible (exact Within.refl _ _)
    | with_reducible refine setJob_in ?_ (by decide)
    | split
    | dsimp only)

theorem setReport_in {s : State} {n : Nat} {ls : List ReportLine} {which : Nat} {s₀ : State} (h₀ : Within which s₀ s) (hm₀ : 8192 ||| which = which) : Within which s₀ (setReport s n ls) :=
  Within.step h₀ (setReport_within ..) hm₀

theorem restoreFrom_within (s : State) (n : Nat) (p : Snap) : Within 27539576 s (restoreFrom s n p) := by
  unfold restoreFrom
  repeat' (first
    | assumption
    | with_reducible (exact Within.refl _ _)
    | with_reducible refine setJob_in ?_ (by decide)
    | with_reducible refine restoreData_in ?_ (by decide)
    | split
    | dsimp only)

theorem restoreFrom_in {s : State} {n : Nat} {p : Snap} {which : Nat} {s₀ : State} (h₀ : Within which s₀ s) (hm₀ : 27539576 ||| which = which) : Within which s₀ (restoreFrom s n p) :=
  Within.step h₀ (restoreFrom_within ..) hm₀

theorem restoreExport_within (s : State) (n : Nat) : Within 27539576 s (restoreExport s n) := by
  unfold restoreExport
  repeat' (first
    | assumption
    | with_reducible (exact Within.refl _ _)
    | with_reducible refine postBoth_in ?_ (by decide)
    | with_reducible refine setJob_in ?_ (by decide)
    | with_reducible refine postRestored_in ?_ (by decide)
    | with_reducible refine setReport_in ?_ (by decide)
    | with_reducible refine restoreFrom_in ?_ (by decide)
    | split
    | dsimp only)

theorem restoreExport_in {s : State} {n : Nat} {which : Nat} {s₀ : State} (h₀ : Within which s₀ s) (hm₀ : 27539576 ||| which = which) : Within which s₀ (restoreExport s n) :=
  Within.step h₀ (restoreExport_within ..) hm₀

theorem restoreOwn_within (s : State) (n : Nat) (useExport : Bool) : Within 27539576 s (restoreOwn s n useExport) := by
  unfold restoreOwn
  repeat' (first
    | assumption
    | with_reducible (exact Within.refl _ _)
    | with_reducible refine pickCopies_in ?_ (by decide)
    | refine pickCopies_fst (by assumption) ?_ (by decide)
    | with_reducible refine setReport_in ?_ (by decide)
    | with_reducible refine restoreFrom_in ?_ (by decide)
    | with_reducible refine restoreExport_in ?_ (by decide)
    | with_reducible refine Within.ite_fst (fun _ => ?_) (fun _ => ?_)
    | split
    | dsimp only)

theorem restoreOwn_in {s : State} {n : Nat} {useExport : Bool} {which : Nat} {s₀ : State} (h₀ : Within which s₀ s) (hm₀ : 27539576 ||| which = which) : Within which s₀ (restoreOwn s n useExport) :=
  Within.step h₀ (restoreOwn_within ..) hm₀

theorem restoreJob_within (s : State) (n : Nat) (useExport : Bool) : Within 28228216 s (restoreJob s n useExport) := by
  unfold restoreJob
  repeat' (first
    | assumption
    | with_reducible (exact Within.refl _ _)
    | with_reducible refine State.bump_in ?_ (by decide)
    | with_reducible refine stopContext_in ?_ (by decide)
    | with_reducible refine setJob_in ?_ (by decide)
    | with_reducible refine originateHalt_in ?_ (by decide)
    | with_reducible refine rollKey_in ?_ (by decide)
    | with_reducible refine dropMsgs_in ?_ (by decide)
    | with_reducible refine claimAll_in ?_ (by decide)
    | with_reducible refine tryRelaunch_in ?_ (by decide)
    | with_reducible refine abandonSnap_in ?_ (by decide)
    | with_reducible refine restoreOwn_in ?_ (by decide)
    | split
    | dsimp only)

theorem restoreJob_in {s : State} {n : Nat} {useExport : Bool} {which : Nat} {s₀ : State} (h₀ : Within which s₀ s) (hm₀ : 28228216 ||| which = which) : Within which s₀ (restoreJob s n useExport) :=
  Within.step h₀ (restoreJob_within ..) hm₀

theorem dropSpare_within (s : State) (n fab : Nat) : Within 25698936 s (dropSpare s n fab) := by
  unfold dropSpare
  repeat' (first
    | assumption
    | with_reducible (exact Within.refl _ _)
    | with_reducible refine State.bump_in ?_ (by decide)
    | with_reducible refine setJob_in ?_ (by decide)
    | with_reducible refine claimAll_in ?_ (by decide)
    | split
    | dsimp only)

theorem dropSpare_in {s : State} {n fab : Nat} {which : Nat} {s₀ : State} (h₀ : Within which s₀ s) (hm₀ : 25698936 ||| which = which) : Within which s₀ (dropSpare s n fab) :=
  Within.step h₀ (dropSpare_within ..) hm₀

theorem noteNeighbour_within (s : State) (fab : Nat) : Within 2097152 s (noteNeighbour s fab) := by
  unfold noteNeighbour
  repeat' (first
    | assumption
    | with_reducible (exact Within.refl _ _)
    | split
    | dsimp only
    | with_reducible refine risk_in ?_ (by decide))

theorem noteNeighbour_in {s : State} {fab : Nat} {which : Nat} {s₀ : State} (h₀ : Within which s₀ s) (hm₀ : 2097152 ||| which = which) : Within which s₀ (noteNeighbour s fab) :=
  Within.step h₀ (noteNeighbour_within ..) hm₀

theorem loseMember_within (s : State) (n : Nat) (c : Ctx) (j : Job) (rank cause : Nat) : Within 28228216 s (loseMember s n c j rank cause) := by
  unfold loseMember
  repeat' (first
    | assumption
    | with_reducible (exact Within.refl _ _)
    | with_reducible refine State.bump_in ?_ (by decide)
    | with_reducible refine postBoth_in ?_ (by decide)
    | with_reducible refine setJob_in ?_ (by decide)
    | with_reducible refine restoreJob_in ?_ (by decide)
    | with_reducible refine dropSpare_in ?_ (by decide)
    | with_reducible refine noteNeighbour_in ?_ (by decide)
    | split
    | dsimp only)

theorem loseMember_in {s : State} {n : Nat} {c : Ctx} {j : Job} {rank cause : Nat} {which : Nat} {s₀ : State} (h₀ : Within which s₀ s) (hm₀ : 28228216 ||| which = which) : Within which s₀ (loseMember s n c j rank cause) :=
  Within.step h₀ (loseMember_within ..) hm₀

theorem declareLost_within (s : State) (n rank cause : Nat) : Within 28228216 s (declareLost s n rank cause) := by
  unfold declareLost
  repeat' (first
    | assumption
    | with_reducible (exact Within.refl _ _)
    | with_reducible refine tell_in ?_ (by decide)
    | with_reducible refine setJob_in ?_ (by decide)
    | with_reducible refine loseMember_in ?_ (by decide)
    | split
    | dsimp only)

theorem declareLost_in {s : State} {n rank cause : Nat} {which : Nat} {s₀ : State} (h₀ : Within which s₀ s) (hm₀ : 28228216 ||| which = which) : Within which s₀ (declareLost s n rank cause) :=
  Within.step h₀ (declareLost_within ..) hm₀

theorem withSpare_in {s : State} {n fab : Nat} {st : SpareState} {f : Job → Spare → State} {which : Nat} {s₀ : State} (h₀ : Within which s₀ s)
    (hf : ∀ j x, Within which s₀ (f j x)) : Within which s₀ (withSpare s n fab st f) := by
  unfold withSpare
  split
  · exact h₀
  · split
    · exact h₀
    · split
      · exact hf _ _
      · exact h₀

theorem cmdSurvCfg_run  (s : State) (r : RingId) (c : OutCmd) : RanWithin 2105344 s (cmdSurvCfg.run s r c) := by
  unfold cmdSurvCfg
  dsimp only
  repeat' (first
    | assumption
    | with_reducible (exact Within.refl _ _)
    | with_reducible (refine RanWithin.fin ?_)
    | with_reducible (refine RanWithin.keep ?_)
    | with_reducible (refine RanWithin.gone ?_)
    | (exact RanWithin.later _ _)
    | with_reducible refine Ran.ok_in ?_ (by decide)
    | with_reducible refine setJob_in ?_ (by decide)
    | with_reducible refine withRoot_in ?_ (fun _ _ => ?_)
    | split
    | dsimp only
    | with_reducible refine risk_in ?_ (by decide))

theorem cmdSnapNow_run  (s : State) (r : RingId) (c : OutCmd) : RanWithin 8192 s (cmdSnapNow.run s r c) := by
  unfold cmdSnapNow
  dsimp only
  repeat' (first
    | assumption
    | with_reducible (exact Within.refl _ _)
    | with_reducible (refine RanWithin.fin ?_)
    | with_reducible (refine RanWithin.keep ?_)
    | with_reducible (refine RanWithin.gone ?_)
    | (exact RanWithin.later _ _)
    | with_reducible refine Ran.okWith_in ?_ (by decide)
    | with_reducible refine setJob_in ?_ (by decide)
    | with_reducible refine withRoot_in ?_ (fun _ _ => ?_)
    | split
    | dsimp only)

theorem cmdSnapStatus_run  (s : State) (r : RingId) (c : OutCmd) : RanWithin 8 s (cmdSnapStatus.run s r c) := by
  unfold cmdSnapStatus
  dsimp only
  repeat' (first
    | assumption
    | with_reducible (exact Within.refl _ _)
    | with_reducible (refine RanWithin.fin ?_)
    | with_reducible (refine RanWithin.keep ?_)
    | with_reducible (refine RanWithin.gone ?_)
    | (exact RanWithin.later _ _)
    | with_reducible refine State.tick_in ?_ (by decide)
    | with_reducible refine Ran.okWith_in ?_ (by decide)
    | with_reducible refine withJob_in ?_ (fun _ _ => ?_)
    | split
    | dsimp only)

theorem cmdSurvRisk_run  (s : State) (r : RingId) (c : OutCmd) : RanWithin 0 s (cmdSurvRisk.run s r c) := by
  unfold cmdSurvRisk
  dsimp only
  repeat' (first
    | assumption
    | with_reducible (exact Within.refl _ _)
    | with_reducible (refine RanWithin.fin ?_)
    | with_reducible (refine RanWithin.keep ?_)
    | with_reducible (refine RanWithin.gone ?_)
    | (exact RanWithin.later _ _)
    | with_reducible refine Ran.okWith_in ?_ (by decide)
    | with_reducible refine withCtx_in ?_ (fun _ => ?_)
    | split
    | dsimp only)

theorem cmdSurvSpareAdd_run  (s : State) (r : RingId) (c : OutCmd) : RanWithin 25698936 s (cmdSurvSpareAdd.run s r c) := by
  unfold cmdSurvSpareAdd
  dsimp only
  repeat' (first
    | assumption
    | with_reducible (exact Within.refl _ _)
    | with_reducible (refine RanWithin.fin ?_)
    | with_reducible (refine RanWithin.keep ?_)
    | with_reducible (refine RanWithin.gone ?_)
    | (exact RanWithin.later _ _)
    | with_reducible refine Ran.ok_in ?_ (by decide)
    | with_reducible refine pf0Only_in ?_ (fun _ => ?_)
    | with_reducible refine setJob_in ?_ (by decide)
    | with_reducible refine withRoot_in ?_ (fun _ _ => ?_)
    | with_reducible refine claimAll_in ?_ (by decide)
    | split
    | dsimp only)

theorem cmdSurvSpareRemove_run  (s : State) (r : RingId) (c : OutCmd) : RanWithin 8200 s (cmdSurvSpareRemove.run s r c) := by
  unfold cmdSurvSpareRemove
  dsimp only
  repeat' (first
    | assumption
    | with_reducible (exact Within.refl _ _)
    | with_reducible (refine RanWithin.fin ?_)
    | with_reducible (refine RanWithin.keep ?_)
    | with_reducible (refine RanWithin.gone ?_)
    | (exact RanWithin.later _ _)
    | with_reducible refine Ran.ok_in ?_ (by decide)
    | with_reducible refine Ran.badArg_in ?_ (by decide)
    | with_reducible refine Ran.notInStateFree_in ?_ (by decide)
    | with_reducible refine pf0Only_in ?_ (fun _ => ?_)
    | with_reducible refine setJob_in ?_ (by decide)
    | with_reducible refine withRoot_in ?_ (fun _ _ => ?_)
    | split
    | dsimp only)

theorem cmdSurvReport_run  (s : State) (r : RingId) (c : OutCmd) : RanWithin 0 s (cmdSurvReport.run s r c) := by
  unfold cmdSurvReport
  dsimp only
  repeat' (first
    | assumption
    | with_reducible (exact Within.refl _ _)
    | with_reducible (refine RanWithin.fin ?_)
    | with_reducible (refine RanWithin.keep ?_)
    | with_reducible (refine RanWithin.gone ?_)
    | (exact RanWithin.later _ _)
    | with_reducible refine listResult_in ?_ (by decide)
    | with_reducible refine withJob_in ?_ (fun _ _ => ?_)
    | split
    | dsimp only)

theorem cmdSnapExport_run  (s : State) (r : RingId) (c : OutCmd) : RanWithin 16777296 s (cmdSnapExport.run s r c) := by
  unfold cmdSnapExport
  dsimp only
  repeat' (first
    | assumption
    | with_reducible (exact Within.refl _ _)
    | with_reducible (refine RanWithin.fin ?_)
    | with_reducible (refine RanWithin.keep ?_)
    | with_reducible (refine RanWithin.gone ?_)
    | (exact RanWithin.later _ _)
    | with_reducible refine State.setHost_in (fun h => Memory.wf_store _ _ h) ?_ (by decide)
    | with_reducible refine ringErr_in ?_ (by decide)
    | with_reducible refine Ran.ok_in ?_ (by decide)
    | with_reducible refine Ran.notInState_in ?_ (by decide)
    | with_reducible refine withJob_in ?_ (fun _ _ => ?_)
    | split
    | dsimp only)

theorem cmdSnapImport_run  (s : State) (r : RingId) (c : OutCmd) : RanWithin 28227704 s (cmdSnapImport.run s r c) := by
  unfold cmdSnapImport
  dsimp only
  repeat' (first
    | assumption
    | with_reducible (exact Within.refl _ _)
    | with_reducible (refine RanWithin.fin ?_)
    | with_reducible (refine RanWithin.keep ?_)
    | with_reducible (refine RanWithin.gone ?_)
    | (exact RanWithin.later _ _)
    | with_reducible refine ringErr_in ?_ (by decide)
    | with_reducible refine Ran.ok_in ?_ (by decide)
    | with_reducible refine Ran.notInState_in ?_ (by decide)
    | with_reducible refine setJob_in ?_ (by decide)
    | with_reducible refine withJob_in ?_ (fun _ _ => ?_)
    | with_reducible refine tryRelaunch_in ?_ (by decide)
    | with_reducible refine restoreExport_in ?_ (by decide)
    | split
    | dsimp only)

theorem cmdSurvRestore_run  (s : State) (r : RingId) (c : OutCmd) : RanWithin 28228216 s (cmdSurvRestore.run s r c) := by
  unfold cmdSurvRestore
  dsimp only
  repeat' (first
    | assumption
    | with_reducible (exact Within.refl _ _)
    | with_reducible (refine RanWithin.fin ?_)
    | with_reducible (refine RanWithin.keep ?_)
    | with_reducible (refine RanWithin.gone ?_)
    | (exact RanWithin.later _ _)
    | with_reducible refine Ran.okWith_in ?_ (by decide)
    | with_reducible refine Ran.notInState_in ?_ (by decide)
    | with_reducible refine withRoot_in ?_ (fun _ _ => ?_)
    | with_reducible refine restoreJob_in ?_ (by decide)
    | split
    | dsimp only)

end Sys2Proof.Machine
end

