-- ==== Sys2Proof/Laws/Rows/Chain.lean ====
section
/-! SUPPORT. What the rows of Machine/Chain.lean may touch: one lemma for each. -/

namespace Sys2Proof.Machine

open Sys2Proof

set_option linter.unusedTactic false
set_option linter.unreachableTactic false

theorem execEnum_within {f : ChainFrame} {s : State} {t : State} (e : execEnum f s = .next t) : Within 33554300 s t := by
  unfold execEnum at e
  cases e
  repeat' (first
    | assumption
    | with_reducible (exact Within.refl _ _)
    | with_reducible refine sendFrame_in ?_ (by decide)
    | with_reducible refine enumerate_in ?_ (by decide)
    | split
    | dsimp only)

theorem execHealthReq_within {f : ChainFrame} {s : State} {t : State} (e : execHealthReq f s = .next t) : Within 33554300 s t := by
  unfold execHealthReq at e
  cases e
  repeat' (first
    | assumption
    | with_reducible (exact Within.refl _ _)
    | with_reducible refine sendFrame_in ?_ (by decide)
    | with_reducible refine reportAlerts_in ?_ (by decide)
    | split
    | dsimp only)

theorem execChainFrameOther_within {f : ChainFrame} {s : State} {t : State} (e : execChainFrameOther f s = .next t) : Within 33554300 s t := by
  unfold execChainFrameOther at e
  cases e
  repeat' (first
    | assumption
    | with_reducible (exact Within.refl _ _)
    | with_reducible refine sendFrame_in ?_ (by decide)
    | split
    | dsimp only)

theorem execPowerOn_within {f : ChainFrame} {s : State} {t : State} (e : execPowerOn f s = .next t) : Within 33554300 s t := by
  unfold execPowerOn at e
  cases e
  refine chainIn_within (fun f s => ?_) (by decide)
  unfold judgePowerOn
  refine judged_within ?_
  repeat' (first
    | trivial
    | exact fun s => coldStart_in (Within.refl _ _) (by decide)
    | split)

theorem execPowerOff_within {f : ChainFrame} {s : State} {t : State} (e : execPowerOff f s = .next t) : Within 33554300 s t := by
  unfold execPowerOff at e
  cases e
  refine chainIn_within (fun f s => ?_) (by decide)
  unfold judgePowerOff
  refine judged_within ?_
  repeat' (first
    | trivial
    | exact fun s => chainPowerOff_in (Within.refl _ _) (by decide)
    | split)

theorem execStop_within {f : ChainFrame} {s : State} {t : State} (e : execStop f s = .next t) : Within 33554300 s t := by
  unfold execStop at e
  cases e
  refine chainIn_within (fun f s => ?_) (by decide)
  unfold judgeStop
  refine judged_within ?_
  repeat' (first
    | trivial
    | exact fun s => chainStop_in (Within.refl _ _) (by decide)
    | split)

theorem execReset_within {f : ChainFrame} {s : State} {t : State} (e : execReset f s = .next t) : Within 33554300 s t := by
  unfold execReset at e
  cases e
  refine chainIn_within (fun f s => ?_) (by decide)
  unfold judgeReset
  refine judged_within ?_
  repeat' (first
    | trivial
    | exact fun s => warmReset_in (Within.refl _ _) (by decide)
    | split)

theorem execRecovery_within {f : ChainFrame} {s : State} {t : State} (e : execRecovery f s = .next t) : Within 33554300 s t := by
  unfold execRecovery at e
  cases e
  refine chainIn_within (fun f s => ?_) (by decide)
  unfold judgeRecovery
  refine judged_within ?_
  repeat' (first
    | trivial
    | exact fun s => chainRecovery_in (Within.refl _ _) (by decide)
    | split)

theorem execRescueData_within {f : ChainFrame} {s : State} {t : State} (e : execRescueData f s = .next t) : Within 33554300 s t := by
  unfold execRescueData at e
  cases e
  refine chainIn_within (fun f s => ?_) (by decide)
  unfold judgeRescue
  refine judged_within ?_
  repeat' (first
    | trivial
    | exact fun s => stageRescue_in (Within.refl _ _) (by decide)
    | split)

end Sys2Proof.Machine
end

