-- ==== Sys2Proof/Laws/Rows/Commit.lean ====
section
/-! SUPPORT. What the rows of Machine/Commit.lean may touch: one lemma for each. -/

namespace Sys2Proof.Machine

open Sys2Proof

set_option linter.unusedTactic false
set_option linter.unreachableTactic false

theorem execProposeEnter_within {ctx : Nat} {s : State} {t : State} (e : execProposeEnter ctx s = .next t) : Within 33554300 s t := by
  unfold execProposeEnter at e
  try dsimp only at e
  repeat' split at e
  all_goals cases e
  all_goals
    repeat' (first
      | assumption
      | with_reducible (exact Within.refl _ _)
      | with_reducible refine setJob_in ?_ (by decide)
      | with_reducible refine overRecs_in ?_ (by decide) (fun _ _ => ?_)
      | with_reducible refine proposeRec_in ?_ (by decide)
      | with_reducible refine tryVote_in ?_ (by decide)
      | split
      | dsimp only)

theorem execVoteOk_within {ctx child epoch : Nat} {s : State} {t : State} (e : execVoteOk ctx child epoch s = .next t) : Within 33554300 s t := by
  unfold execVoteOk at e
  try dsimp only at e
  repeat' split at e
  all_goals cases e
  all_goals
    repeat' (first
      | assumption
      | with_reducible (exact Within.refl _ _)
      | with_reducible refine setJob_in ?_ (by decide)
      | with_reducible refine tryVote_in ?_ (by decide)
      | split
      | dsimp only)

theorem execVoteFail_within {ctx child epoch : Nat} {cause : Nat} {fabricId site trap : Nat} {s : State} {t : State} (e : execVoteFail ctx child epoch cause fabricId site trap s = .next t) : Within 33554300 s t := by
  unfold execVoteFail at e
  try dsimp only at e
  repeat' split at e
  all_goals cases e
  all_goals
    repeat' (first
      | assumption
      | with_reducible (exact Within.refl _ _)
      | with_reducible refine passFail_in ?_ (by decide)
      | split
      | dsimp only)

theorem execProposeTimeout_within {ctx : Nat} {s : State} {t : State} (e : execProposeTimeout ctx s = .next t) : Within 33554300 s t := by
  unfold execProposeTimeout at e
  try dsimp only at e
  repeat' split at e
  all_goals cases e
  all_goals
    repeat' (first
      | assumption
      | with_reducible (exact Within.refl _ _)
      | with_reducible refine passFail_in ?_ (by decide)
      | split
      | dsimp only)

theorem execCommitDecision_within {ctx epoch : Nat} {snap : Option Nat} {s : State} {t : State} (e : execCommitDecision ctx epoch snap s = .next t) : Within 33554300 s t := by
  unfold execCommitDecision at e
  try dsimp only at e
  repeat' split at e
  all_goals cases e
  all_goals
    repeat' (first
      | assumption
      | with_reducible (exact Within.refl _ _)
      | with_reducible refine postBoth_in ?_ (by decide)
      | with_reducible refine tellChildren_in ?_ (by decide)
      | with_reducible refine setJob_in ?_ (by decide)
      | split
      | dsimp only)

theorem execAbortDecision_within {ctx epoch : Nat} {s : State} {t : State} (e : execAbortDecision ctx epoch s = .next t) : Within 33554300 s t := by
  unfold execAbortDecision at e
  try dsimp only at e
  repeat' split at e
  all_goals cases e
  all_goals
    repeat' (first
      | assumption
      | with_reducible (exact Within.refl _ _)
      | with_reducible refine postBoth_in ?_ (by decide)
      | with_reducible refine tellChildren_in ?_ (by decide)
      | with_reducible refine setJob_in ?_ (by decide)
      | with_reducible refine actAbort_in ?_ (by decide)
      | split
      | dsimp only)

theorem execDecisionTimeout_within {ctx : Nat} {s : State} {t : State} (e : execDecisionTimeout ctx s = .next t) : Within 33554300 s t := by
  unfold execDecisionTimeout at e
  try dsimp only at e
  repeat' split at e
  all_goals cases e
  all_goals
    repeat' (first
      | assumption
      | with_reducible (exact Within.refl _ _)
      | with_reducible refine State.bump_in ?_ (by decide)
      | with_reducible refine tell_in ?_ (by decide)
      | with_reducible refine setJob_in ?_ (by decide)
      | split
      | dsimp only)

theorem execDecisionQuery_within {ctx rank epoch : Nat} {s : State} {t : State} (e : execDecisionQuery ctx rank epoch s = .next t) : Within 33554300 s t := by
  unfold execDecisionQuery at e
  try dsimp only at e
  repeat' split at e
  all_goals cases e
  all_goals
    repeat' (first
      | assumption
      | with_reducible (exact Within.refl _ _)
      | with_reducible refine tell_in ?_ (by decide)
      | with_reducible refine setJob_in ?_ (by decide)
      | split
      | dsimp only)

theorem execApplyComplete_within {ctx : Nat} {s : State} {t : State} (e : execApplyComplete ctx s = .next t) : Within 33554300 s t := by
  unfold execApplyComplete at e
  try dsimp only at e
  repeat' split at e
  all_goals cases e
  all_goals
    repeat' (first
      | assumption
      | with_reducible (exact Within.refl _ _)
      | with_reducible refine applyStep_in ?_ (by decide)
      | split
      | dsimp only)

theorem execDiscardComplete_within {ctx : Nat} {s : State} {t : State} (e : execDiscardComplete ctx s = .next t) : Within 33554300 s t := by
  unfold execDiscardComplete at e
  try dsimp only at e
  repeat' split at e
  all_goals cases e
  all_goals
    repeat' (first
      | assumption
      | with_reducible (exact Within.refl _ _)
      | with_reducible refine discardDone_in ?_ (by decide)
      | split
      | dsimp only)

theorem execDiscardedReport_within {ctx rank epoch : Nat} {lost : Bool} {s : State} {t : State} (e : execDiscardedReport ctx rank epoch lost s = .next t) : Within 33554300 s t := by
  unfold execDiscardedReport at e
  try dsimp only at e
  repeat' split at e
  all_goals cases e
  all_goals
    repeat' (first
      | assumption
      | with_reducible (exact Within.refl _ _)
      | with_reducible refine tellParent_in ?_ (by decide)
      | with_reducible refine setJob_in ?_ (by decide)
      | with_reducible refine tryRerun_in ?_ (by decide)
      | split
      | dsimp only)

theorem execRerun_within {ctx epoch : Nat} {s : State} {t : State} (e : execRerun ctx epoch s = .next t) : Within 33554300 s t := by
  unfold execRerun at e
  try dsimp only at e
  repeat' split at e
  all_goals cases e
  all_goals
    repeat' (first
      | assumption
      | with_reducible (exact Within.refl _ _)
      | with_reducible refine State.tick_in ?_ (by decide)
      | with_reducible refine tellChildren_in ?_ (by decide)
      | with_reducible refine launchStep_in ?_ (by decide)
      | with_reducible refine rollKey_in ?_ (by decide)
      | split
      | dsimp only)

theorem execLaunch_within {ctx epoch : Nat} {s : State} {t : State} (e : execLaunch ctx epoch s = .next t) : Within 33554300 s t := by
  unfold execLaunch at e
  try dsimp only at e
  repeat' split at e
  all_goals cases e
  all_goals
    repeat' (first
      | assumption
      | with_reducible (exact Within.refl _ _)
      | with_reducible refine State.tick_in ?_ (by decide)
      | with_reducible refine stopContext_in ?_ (by decide)
      | with_reducible refine tellChildren_in ?_ (by decide)
      | with_reducible refine setJob_in ?_ (by decide)
      | with_reducible refine launchStep_in ?_ (by decide)
      | with_reducible refine rollKey_in ?_ (by decide)
      | with_reducible refine dropMsgs_in ?_ (by decide)
      | with_reducible refine restoreData_in ?_ (by decide)
      | split
      | dsimp only)

end Sys2Proof.Machine
end

