-- ==== Sys2Proof/Laws/Rows/CtxCmd.lean ====
section
/-! SUPPORT. What the rows of Machine/CtxCmd.lean may touch: one lemma for each. -/

namespace Sys2Proof.Machine

open Sys2Proof

set_option linter.unusedTactic false
set_option linter.unreachableTactic false

theorem execCtxLoad_within {r : RingId} {tag : BitVec 16} {s : State} {t : State} (e : execCtxLoad r tag s = .next t) : Within 33554300 s t :=
  runCmd_within (fun _ _ => RanWithin.step (Within.refl _ _) (cmdCtxLoad_run ..) (by decide)) (fun _ _ => again_default _ rfl _ _ _) (by decide) e

theorem execCtxLaunch_within {r : RingId} {tag : BitVec 16} {s : State} {t : State} (e : execCtxLaunch r tag s = .next t) : Within 33554300 s t :=
  runCmd_within (fun _ _ => RanWithin.step (Within.refl _ _) (cmdCtxLaunch_run ..) (by decide)) (fun _ _ => again_default _ rfl _ _ _) (by decide) e

theorem execCtxClose_within {r : RingId} {tag : BitVec 16} {s : State} {t : State} (e : execCtxClose r tag s = .next t) : Within 33554300 s t :=
  runCmd_within (fun _ _ => RanWithin.step (Within.refl _ _) (cmdCtxClose_run ..) (by decide)) (fun _ _ => again_default _ rfl _ _ _) (by decide) e

theorem execCtxStatus_within {r : RingId} {tag : BitVec 16} {s : State} {t : State} (e : execCtxStatus r tag s = .next t) : Within 33554300 s t :=
  runCmd_within (fun _ _ => RanWithin.step (Within.refl _ _) (cmdCtxStatus_run ..) (by decide)) (fun _ _ => again_default _ rfl _ _ _) (by decide) e

end Sys2Proof.Machine
end

