-- ==== Sys2Proof/Laws/Rows/Debug.lean ====
section
/-! SUPPORT. What the rows of Machine/Debug.lean may touch: one lemma for each. -/

namespace Sys2Proof.Machine

open Sys2Proof

set_option linter.unusedTactic false
set_option linter.unreachableTactic false

theorem execDbgAttach_within {r : RingId} {tag : BitVec 16} {s : State} {t : State} (e : execDbgAttach r tag s = .next t) : Within 33554300 s t :=
  runCmd_within (fun _ _ => RanWithin.step (Within.refl _ _) (cmdDbgAttach_run ..) (by decide)) (fun _ _ => again_default _ rfl _ _ _) (by decide) e

theorem execDbgDetach_within {r : RingId} {tag : BitVec 16} {s : State} {t : State} (e : execDbgDetach r tag s = .next t) : Within 33554300 s t :=
  runCmd_within (fun _ _ => RanWithin.step (Within.refl _ _) (cmdDbgDetach_run ..) (by decide)) (fun _ _ => again_default _ rfl _ _ _) (by decide) e

theorem execDbgHalt_within {r : RingId} {tag : BitVec 16} {s : State} {t : State} (e : execDbgHalt r tag s = .next t) : Within 33554300 s t :=
  runCmd_within (fun _ _ => RanWithin.step (Within.refl _ _) (cmdDbgHalt_run ..) (by decide)) (fun _ _ => again_default _ rfl _ _ _) (by decide) e

theorem execDbgResume_within {r : RingId} {tag : BitVec 16} {s : State} {t : State} (e : execDbgResume r tag s = .next t) : Within 33554300 s t :=
  runCmd_within (fun _ _ => RanWithin.step (Within.refl _ _) (cmdDbgResume_run ..) (by decide)) (fun _ _ => again_default _ rfl _ _ _) (by decide) e

theorem execDbgStep_within {r : RingId} {tag : BitVec 16} {s : State} {t : State} (e : execDbgStep r tag s = .next t) : Within 33554300 s t :=
  runCmd_within (fun _ _ => RanWithin.step (Within.refl _ _) (cmdDbgStep_run ..) (by decide)) (fun _ _ => RanWithin.step (Within.refl _ _) (cmdDbgStep_again ..) (by decide)) (by decide) e

theorem execDbgRead_within {r : RingId} {tag : BitVec 16} {s : State} {t : State} (e : execDbgRead r tag s = .next t) : Within 33554300 s t :=
  runCmd_within (fun _ _ => RanWithin.step (Within.refl _ _) (cmdDbgRead_run ..) (by decide)) (fun _ _ => again_default _ rfl _ _ _) (by decide) e

theorem execDbgWrite_within {r : RingId} {tag : BitVec 16} {s : State} {t : State} (e : execDbgWrite r tag s = .next t) : Within 33554300 s t :=
  runCmd_within (fun _ _ => RanWithin.step (Within.refl _ _) (cmdDbgWrite_run ..) (by decide)) (fun _ _ => again_default _ rfl _ _ _) (by decide) e

theorem execDbgBpSet_within {r : RingId} {tag : BitVec 16} {s : State} {t : State} (e : execDbgBpSet r tag s = .next t) : Within 33554300 s t :=
  runCmd_within (fun _ _ => RanWithin.step (Within.refl _ _) (cmdDbgBpSet_run ..) (by decide)) (fun _ _ => again_default _ rfl _ _ _) (by decide) e

theorem execDbgWpSet_within {r : RingId} {tag : BitVec 16} {s : State} {t : State} (e : execDbgWpSet r tag s = .next t) : Within 33554300 s t :=
  runCmd_within (fun _ _ => RanWithin.step (Within.refl _ _) (cmdDbgWpSet_run ..) (by decide)) (fun _ _ => again_default _ rfl _ _ _) (by decide) e

theorem execDbgKill_within {r : RingId} {tag : BitVec 16} {s : State} {t : State} (e : execDbgKill r tag s = .next t) : Within 33554300 s t :=
  runCmd_within (fun _ _ => RanWithin.step (Within.refl _ _) (cmdDbgKill_run ..) (by decide)) (fun _ _ => again_default _ rfl _ _ _) (by decide) e

theorem execDbgStatus_within {r : RingId} {tag : BitVec 16} {s : State} {t : State} (e : execDbgStatus r tag s = .next t) : Within 33554300 s t :=
  runCmd_within (fun _ _ => RanWithin.step (Within.refl _ _) (cmdDbgStatus_run ..) (by decide)) (fun _ _ => again_default _ rfl _ _ _) (by decide) e

end Sys2Proof.Machine
end

