-- ==== Sys2Proof/Laws/Rows/FabCmd.lean ====
section
/-! SUPPORT. What the rows of Machine/FabCmd.lean may touch: one lemma for each. -/

namespace Sys2Proof.Machine

open Sys2Proof

set_option linter.unusedTactic false
set_option linter.unreachableTactic false

theorem execFabInfo_within {r : RingId} {tag : BitVec 16} {s : State} {t : State} (e : execFabInfo r tag s = .next t) : Within 33554300 s t :=
  runCmd_within (fun _ _ => RanWithin.step (Within.refl _ _) (cmdFabInfo_run ..) (by decide)) (fun _ _ => again_default _ rfl _ _ _) (by decide) e

theorem execFabLink_within {r : RingId} {tag : BitVec 16} {s : State} {t : State} (e : execFabLink r tag s = .next t) : Within 33554300 s t :=
  runCmd_within (fun _ _ => RanWithin.step (Within.refl _ _) (cmdFabLink_run ..) (by decide)) (fun _ _ => again_default _ rfl _ _ _) (by decide) e

theorem execFabRoute_within {r : RingId} {tag : BitVec 16} {s : State} {t : State} (e : execFabRoute r tag s = .next t) : Within 33554300 s t :=
  runCmd_within (fun _ _ => RanWithin.step (Within.refl _ _) (cmdFabRoute_run ..) (by decide)) (fun _ _ => again_default _ rfl _ _ _) (by decide) e

theorem execFabHalt_within {r : RingId} {tag : BitVec 16} {s : State} {t : State} (e : execFabHalt r tag s = .next t) : Within 33554300 s t :=
  runCmd_within (fun _ _ => RanWithin.step (Within.refl _ _) (cmdFabHalt_run ..) (by decide)) (fun _ _ => again_default _ rfl _ _ _) (by decide) e

theorem execFabInject_within {r : RingId} {tag : BitVec 16} {s : State} {t : State} (e : execFabInject r tag s = .next t) : Within 33554300 s t :=
  runCmd_within (fun _ _ => RanWithin.step (Within.refl _ _) (cmdFabInject_run ..) (by decide)) (fun _ _ => again_default _ rfl _ _ _) (by decide) e

theorem execFabCfg_within {r : RingId} {tag : BitVec 16} {s : State} {t : State} (e : execFabCfg r tag s = .next t) : Within 33554300 s t :=
  runCmd_within (fun _ _ => RanWithin.step (Within.refl _ _) (cmdFabCfg_run ..) (by decide)) (fun _ _ => again_default _ rfl _ _ _) (by decide) e

end Sys2Proof.Machine
end

