-- ==== Sys2Proof/Laws/Rows/JobCmd.lean ====
section
/-! SUPPORT. What the rows of Machine/JobCmd.lean may touch: one lemma for each. -/

namespace Sys2Proof.Machine

open Sys2Proof

set_option linter.unusedTactic false
set_option linter.unreachableTactic false

theorem execReshardCopied_within {ctx : Nat} {s : State} {t : State} (e : execReshardCopied ctx s = .next t) : Within 33554300 s t := by
  unfold execReshardCopied at e
  try dsimp only at e
  repeat' split at e
  all_goals cases e
  all_goals
    repeat' (first
      | assumption
      | with_reducible (exact Within.refl _ _)
      | with_reducible refine setJob_in ?_ (by decide)
      | with_reducible refine noteCopied_in ?_ (by decide)
      | split
      | dsimp only)

theorem execCopied_within {ctx rank : Nat} {s : State} {t : State} (e : execCopied ctx rank s = .next t) : Within 33554300 s t := by
  unfold execCopied at e
  cases e
  repeat' (first
    | assumption
    | with_reducible (exact Within.refl _ _)
    | with_reducible refine noteCopied_in ?_ (by decide)
    | split
    | dsimp only)

theorem execReshardCommitted_within {ctx : Nat} {s : State} {t : State} (e : execReshardCommitted ctx s = .next t) : Within 33554300 s t := by
  unfold execReshardCommitted at e
  try dsimp only at e
  repeat' split at e
  all_goals cases e
  all_goals
    repeat' (first
      | assumption
      | with_reducible (exact Within.refl _ _)
      | with_reducible refine registerNew_in ?_ (by decide)
      | split
      | dsimp only)

theorem execJobBind_within {r : RingId} {tag : BitVec 16} {s : State} {t : State} (e : execJobBind r tag s = .next t) : Within 33554300 s t :=
  runCmd_within (fun _ _ => RanWithin.step (Within.refl _ _) (cmdJobBind_run ..) (by decide)) (fun _ _ => again_default _ rfl _ _ _) (by decide) e

theorem execJobUnbind_within {r : RingId} {tag : BitVec 16} {s : State} {t : State} (e : execJobUnbind r tag s = .next t) : Within 33554300 s t :=
  runCmd_within (fun _ _ => RanWithin.step (Within.refl _ _) (cmdJobUnbind_run ..) (by decide)) (fun _ _ => again_default _ rfl _ _ _) (by decide) e

theorem execStepStatus_within {r : RingId} {tag : BitVec 16} {s : State} {t : State} (e : execStepStatus r tag s = .next t) : Within 33554300 s t :=
  runCmd_within (fun _ _ => RanWithin.step (Within.refl _ _) (cmdStepStatus_run ..) (by decide)) (fun _ _ => again_default _ rfl _ _ _) (by decide) e

theorem execStepResume_within {r : RingId} {tag : BitVec 16} {s : State} {t : State} (e : execStepResume r tag s = .next t) : Within 33554300 s t :=
  runCmd_within (fun _ _ => RanWithin.step (Within.refl _ _) (cmdStepResume_run ..) (by decide)) (fun _ _ => again_default _ rfl _ _ _) (by decide) e

theorem execShardReg_within {r : RingId} {tag : BitVec 16} {s : State} {t : State} (e : execShardReg r tag s = .next t) : Within 33554300 s t :=
  runCmd_within (fun _ _ => RanWithin.step (Within.refl _ _) (cmdShardReg_run ..) (by decide)) (fun _ _ => again_default _ rfl _ _ _) (by decide) e

theorem execPipeReg_within {r : RingId} {tag : BitVec 16} {s : State} {t : State} (e : execPipeReg r tag s = .next t) : Within 33554300 s t :=
  runCmd_within (fun _ _ => RanWithin.step (Within.refl _ _) (cmdPipeReg_run ..) (by decide)) (fun _ _ => again_default _ rfl _ _ _) (by decide) e

theorem execPipeStatus_within {r : RingId} {tag : BitVec 16} {s : State} {t : State} (e : execPipeStatus r tag s = .next t) : Within 33554300 s t :=
  runCmd_within (fun _ _ => RanWithin.step (Within.refl _ _) (cmdPipeStatus_run ..) (by decide)) (fun _ _ => again_default _ rfl _ _ _) (by decide) e

theorem execReshardStart_within {r : RingId} {tag : BitVec 16} {s : State} {t : State} (e : execReshardStart r tag s = .next t) : Within 33554300 s t :=
  runCmd_within (fun _ _ => RanWithin.step (Within.refl _ _) (cmdReshardStart_run ..) (by decide)) (fun _ _ => again_default _ rfl _ _ _) (by decide) e

theorem execReshardStatus_within {r : RingId} {tag : BitVec 16} {s : State} {t : State} (e : execReshardStatus r tag s = .next t) : Within 33554300 s t :=
  runCmd_within (fun _ _ => RanWithin.step (Within.refl _ _) (cmdReshardStatus_run ..) (by decide)) (fun _ _ => again_default _ rfl _ _ _) (by decide) e

theorem execReshardAbort_within {r : RingId} {tag : BitVec 16} {s : State} {t : State} (e : execReshardAbort r tag s = .next t) : Within 33554300 s t :=
  runCmd_within (fun _ _ => RanWithin.step (Within.refl _ _) (cmdReshardAbort_run ..) (by decide)) (fun _ _ => again_default _ rfl _ _ _) (by decide) e

end Sys2Proof.Machine
end

