-- ==== Sys2Proof/Laws/Rows/Links.lean ====
section
/-! SUPPORT. What the rows of Machine/Links.lean may touch: one lemma for each. -/

namespace Sys2Proof.Machine

open Sys2Proof

set_option linter.unusedTactic false
set_option linter.unreachableTactic false

theorem execLinkSignalDetect_within {link : Nat} {s : State} {t : State} (e : execLinkSignalDetect link s = .next t) : Within 33554300 s t := by
  unfold execLinkSignalDetect linkStep at e
  try dsimp only at e
  repeat' split at e
  all_goals cases e
  all_goals
    repeat' (first
      | assumption
      | with_reducible (exact Within.refl _ _)
      | with_reducible refine setLinkSt_in ?_ (by decide)
      | split
      | dsimp only)

theorem execLinkNosignal_within {link : Nat} {s : State} {t : State} (e : execLinkNosignal link s = .next t) : Within 33554300 s t := by
  unfold execLinkNosignal linkStep at e
  try dsimp only at e
  repeat' split at e
  all_goals cases e
  all_goals
    repeat' (first
      | assumption
      | with_reducible (exact Within.refl _ _)
      | with_reducible refine State.bump_in ?_ (by decide)
      | split
      | dsimp only)

theorem execEqualiseDone_within {link : Nat} {s : State} {t : State} (e : execEqualiseDone link s = .next t) : Within 33554300 s t := by
  unfold execEqualiseDone linkStep at e
  try dsimp only at e
  repeat' split at e
  all_goals cases e
  all_goals
    repeat' (first
      | assumption
      | with_reducible (exact Within.refl _ _)
      | with_reducible refine setLinkSt_in ?_ (by decide)
      | split
      | dsimp only)

theorem execAlignDone_within {link : Nat} {s : State} {t : State} (e : execAlignDone link s = .next t) : Within 33554300 s t := by
  unfold execAlignDone linkStep at e
  try dsimp only at e
  repeat' split at e
  all_goals cases e
  all_goals
    repeat' (first
      | assumption
      | with_reducible (exact Within.refl _ _)
      | with_reducible refine setLinkSt_in ?_ (by decide)
      | split
      | dsimp only)

theorem execTrainTimeout_within {link : Nat} {s : State} {t : State} (e : execTrainTimeout link s = .next t) : Within 33554300 s t := by
  unfold execTrainTimeout at e
  cases e
  repeat' (first
    | assumption
    | with_reducible (exact Within.refl _ _)
    | with_reducible refine State.bump_in ?_ (by decide)
    | with_reducible refine setLinkSt_in ?_ (by decide)
    | split
    | dsimp only)

theorem execExchange_within {link farPort farSlot : Nat} {farFabric : BitVec 64} {farSealed : Bool} {s : State} {t : State} (e : execExchange link farPort farSlot farFabric farSealed s = .next t) : Within 33554300 s t := by
  unfold execExchange linkStep at e
  try dsimp only at e
  repeat' split at e
  all_goals cases e
  all_goals
    repeat' (first
      | assumption
      | with_reducible (exact Within.refl _ _)
      | with_reducible refine postEvent_in ?_ (by decide)
      | with_reducible refine setLinkSt_in ?_ (by decide)
      | with_reducible refine activate_in ?_ (by decide)
      | split
      | dsimp only)

theorem execRetrainEntry_within {link : Nat} {cause : RetrainCause} {s : State} {t : State} (e : execRetrainEntry link cause s = .next t) : Within 33554300 s t := by
  unfold execRetrainEntry linkStep at e
  try dsimp only at e
  repeat' split at e
  all_goals cases e
  all_goals
    repeat' (first
      | assumption
      | with_reducible (exact Within.refl _ _)
      | with_reducible refine enterRetrain_in ?_ (by decide)
      | split
      | dsimp only)

theorem execRealignDone_within {link : Nat} {s : State} {t : State} (e : execRealignDone link s = .next t) : Within 33554300 s t := by
  unfold execRealignDone linkStep at e
  try dsimp only at e
  repeat' split at e
  all_goals cases e
  all_goals
    repeat' (first
      | assumption
      | with_reducible (exact Within.refl _ _)
      | with_reducible refine State.setLink_in ?_ (by decide)
      | with_reducible refine pump_in ?_ (by decide)
      | with_reducible refine resend_in ?_ (by decide)
      | split
      | dsimp only)

theorem execRetrainFail_within {link : Nat} {s : State} {t : State} (e : execRetrainFail link s = .next t) : Within 33554300 s t := by
  unfold execRetrainFail linkStep at e
  try dsimp only at e
  repeat' split at e
  all_goals cases e
  all_goals
    repeat' (first
      | assumption
      | with_reducible (exact Within.refl _ _)
      | with_reducible refine State.tick_in ?_ (by decide)
      | with_reducible refine postEvent_in ?_ (by decide)
      | with_reducible refine leaveService_in ?_ (by decide)
      | split
      | dsimp only)

theorem execDownTimeout_within {link : Nat} {s : State} {t : State} (e : execDownTimeout link s = .next t) : Within 33554300 s t := by
  unfold execDownTimeout linkStep at e
  try dsimp only at e
  repeat' split at e
  all_goals cases e
  all_goals
    repeat' (first
      | assumption
      | with_reducible (exact Within.refl _ _)
      | with_reducible refine setLinkSt_in ?_ (by decide)
      | split
      | dsimp only)

theorem execFlitReceive_within {link : Nat} {bytes : List Byte} {s : State} {t : State} (e : execFlitReceive link bytes s = .next t) : Within 33554300 s t := by
  unfold execFlitReceive at e
  cases e
  repeat' (first
    | assumption
    | with_reducible (exact Within.refl _ _)
    | with_reducible refine receive_in ?_ (by decide)
    | split
    | dsimp only)

theorem execHaltFlit_within {link : Nat} {bytes : List Byte} {s : State} {t : State} (e : execHaltFlit link bytes s = .next t) : Within 33554300 s t := by
  unfold execHaltFlit at e
  cases e
  repeat' (first
    | assumption
    | with_reducible (exact Within.refl _ _)
    | with_reducible refine receive_in ?_ (by decide)
    | split
    | dsimp only)

theorem execReplayTimeout_within {link : Nat} {s : State} {t : State} (e : execReplayTimeout link s = .next t) : Within 33554300 s t := by
  unfold execReplayTimeout at e
  cases e
  repeat' (first
    | assumption
    | with_reducible (exact Within.refl _ _)
    | with_reducible refine resend_in ?_ (by decide)
    | split
    | dsimp only)

theorem execFailover_within {link slot lastSeq : Nat} {s : State} {t : State} (e : execFailover link slot lastSeq s = .next t) : Within 33554300 s t := by
  unfold execFailover at e
  cases e
  repeat' (first
    | assumption
    | with_reducible (exact Within.refl _ _)
    | with_reducible refine takeFailover_in ?_ (by decide)
    | split
    | dsimp only)

theorem execRefclkLinkLoss_within {s : State} {t : State} (e : execRefclkLinkLoss s = .next t) : Within 33554300 s t := by
  unfold execRefclkLinkLoss at e
  extract_lets c1 s1 s2 at e
  have h1 : Within 33554300 s s1 := State.setCarrier_in (Within.refl _ _) (by decide)
  have h2 : Within 33554300 s s2 := by
    refine Within.foldl h1 (fun _ _ => ?_)
    split
    · exact enterRetrain_in (Within.refl _ _) (by decide)
    · exact Within.refl _ _
  clear_value s2
  by_cases k : (!s.carrier.refLink) = true
  · rw [if_pos k] at e; cases e; exact Within.refl _ _
  · rw [if_neg k] at e
    by_cases k2 : (!s.on) = true
    · rw [if_pos k2] at e; simp only [Host.Outcome.next.injEq] at e; rw [← e]; exact h1
    · rw [if_neg k2] at e
      simp only [Host.Outcome.next.injEq] at e
      rw [← e]
      refine Within.foldl h2 (fun _ _ => ?_)
      split
      · exact Within.refl _ _
      · exact leaveService_in (Within.refl _ _) (by decide)

theorem execRefclkLinkReturn_within {s : State} {t : State} (e : execRefclkLinkReturn s = .next t) : Within 33554300 s t := by
  unfold execRefclkLinkReturn at e
  extract_lets c1 s1 at e
  simp only [Host.Outcome.next.injEq] at e
  rw [← e]
  have h1 : Within 33554300 s s1 := State.setCarrier_in (Within.refl _ _) (by decide)
  split
  · exact h1
  · refine Within.foldl h1 (fun _ _ => ?_)
    split
    · exact setLinkSt_in (Within.refl _ _) (by decide)
    · exact Within.refl _ _

end Sys2Proof.Machine
end

