-- ==== Sys2Proof/Laws/Rows/Mailbox.lean ====
section
/-! SUPPORT. What the rows of Machine/Mailbox.lean may touch: one lemma for each. -/

namespace Sys2Proof.Machine

open Sys2Proof

set_option linter.unusedTactic false
set_option linter.unreachableTactic false

theorem execUnassignedCommand_within {r : RingId} {tag : BitVec 16} {s : State} {t : State} (e : execUnassignedCommand r tag s = .next t) : Within 33554300 s t := by
  unfold execUnassignedCommand at e
  try dsimp only at e
  repeat' split at e
  all_goals cases e
  all_goals
    repeat' (first
      | assumption
      | with_reducible (exact Within.refl _ _)
      | with_reducible refine finish_in ?_ (by decide)
      | split
      | dsimp only)

end Sys2Proof.Machine
end

