-- ==== Sys2Proof/Laws/Rows/Mem.lean ====
section
/-! SUPPORT. What the rows of Machine/Mem.lean may touch: one lemma for each. -/

namespace Sys2Proof.Machine

open Sys2Proof

set_option linter.unusedTactic false
set_option linter.unreachableTactic false

theorem execSpPatrolScrub_within {cluster row : Nat} {s : State} {t : State} (e : execSpPatrolScrub cluster row s = .next t) : Within 33554300 s t := by
  unfold execSpPatrolScrub at e
  cases e
  repeat' (first
    | assumption
    | with_reducible (exact Within.refl _ _)
    | with_reducible refine meetError_in ?_ (by decide)
    | split
    | dsimp only)

theorem execStackPatrolScrub_within {addr : Nat} {s : State} {t : State} (e : execStackPatrolScrub addr s = .next t) : Within 33554300 s t := by
  unfold execStackPatrolScrub at e
  cases e
  repeat' (first
    | assumption
    | with_reducible (exact Within.refl _ _)
    | with_reducible refine meetError_in ?_ (by decide)
    | split
    | dsimp only)

theorem execMemoryError_within {addr : Nat} {kind : ErrKind} {s : State} {t : State} (e : execMemoryError addr kind s = .next t) : Within 33554300 s t := by
  unfold execMemoryError at e
  cases e
  repeat' (first
    | assumption
    | with_reducible (exact Within.refl _ _)
    | with_reducible refine placeError_in ?_ (by decide)
    | split
    | dsimp only)

theorem execSharedUncorrectableRead_within {addr : Nat} {s : State} {t : State} (e : execSharedUncorrectableRead addr s = .next t) : Within 33554300 s t := by
  unfold execSharedUncorrectableRead at e
  cases e
  repeat' (first
    | assumption
    | with_reducible (exact Within.refl _ _)
    | with_reducible refine setShared_in ?_ (by decide)
    | split
    | dsimp only)

theorem execSharedRepairDone_within {slot : Nat} {s : State} {t : State} (e : execSharedRepairDone slot s = .next t) : Within 33554300 s t := by
  unfold execSharedRepairDone at e
  cases e
  repeat' (first
    | assumption
    | with_reducible (exact Within.refl _ _)
    | with_reducible refine State.setMemSys_in rfl ?_ (by decide)
    | with_reducible refine State.tick_in ?_ (by decide)
    | with_reducible refine setShared_in ?_ (by decide)
    | with_reducible refine postRepair_in ?_ (by decide)
    | split
    | dsimp only)

theorem execSharedRepairTimeout_within {slot : Nat} {s : State} {t : State} (e : execSharedRepairTimeout slot s = .next t) : Within 33554300 s t := by
  unfold execSharedRepairTimeout at e
  cases e
  repeat' (first
    | assumption
    | with_reducible (exact Within.refl _ _)
    | with_reducible (refine Within.foldl ?_ (fun _ _ => ?_))
    | with_reducible (refine Within.foldl_fst ?_ (fun _ _ => ?_))
    | with_reducible refine State.setMemSys_in rfl ?_ (by decide)
    | with_reducible refine failStep_in ?_ (by decide)
    | with_reducible refine setShared_in ?_ (by decide)
    | with_reducible refine postRepair_in ?_ (by decide)
    | split
    | dsimp only)

theorem execMemInfo_within {r : RingId} {tag : BitVec 16} {s : State} {t : State} (e : execMemInfo r tag s = .next t) : Within 33554300 s t :=
  runCmd_within (fun _ _ => RanWithin.step (Within.refl _ _) (cmdMemInfo_run ..) (by decide)) (fun _ _ => again_default _ rfl _ _ _) (by decide) e

theorem execMemMap_within {r : RingId} {tag : BitVec 16} {s : State} {t : State} (e : execMemMap r tag s = .next t) : Within 33554300 s t :=
  runCmd_within (fun _ _ => RanWithin.step (Within.refl _ _) (cmdMemMap_run ..) (by decide)) (fun _ _ => again_default _ rfl _ _ _) (by decide) e

theorem execMemUnmap_within {r : RingId} {tag : BitVec 16} {s : State} {t : State} (e : execMemUnmap r tag s = .next t) : Within 33554300 s t :=
  runCmd_within (fun _ _ => RanWithin.step (Within.refl _ _) (cmdMemUnmap_run ..) (by decide)) (fun _ _ => RanWithin.step (Within.refl _ _) (cmdMemUnmap_again ..) (by decide)) (by decide) e

theorem execMemHostCopy_within {r : RingId} {tag : BitVec 16} {s : State} {t : State} (e : execMemHostCopy r tag s = .next t) : Within 33554300 s t :=
  runCmd_within (fun _ _ => RanWithin.step (Within.refl _ _) (cmdMemHostCopy_run ..) (by decide)) (fun _ _ => again_default _ rfl _ _ _) (by decide) e

theorem execMemPoisonList_within {r : RingId} {tag : BitVec 16} {s : State} {t : State} (e : execMemPoisonList r tag s = .next t) : Within 33554300 s t :=
  runCmd_within (fun _ _ => RanWithin.step (Within.refl _ _) (cmdMemPoisonList_run ..) (by decide)) (fun _ _ => again_default _ rfl _ _ _) (by decide) e

theorem execMemThermalCfg_within {r : RingId} {tag : BitVec 16} {s : State} {t : State} (e : execMemThermalCfg r tag s = .next t) : Within 33554300 s t :=
  runCmd_within (fun _ _ => RanWithin.step (Within.refl _ _) (cmdMemThermalCfg_run ..) (by decide)) (fun _ _ => again_default _ rfl _ _ _) (by decide) e

theorem execMemScrubCfg_within {r : RingId} {tag : BitVec 16} {s : State} {t : State} (e : execMemScrubCfg r tag s = .next t) : Within 33554300 s t :=
  runCmd_within (fun _ _ => RanWithin.step (Within.refl _ _) (cmdMemScrubCfg_run ..) (by decide)) (fun _ _ => again_default _ rfl _ _ _) (by decide) e

theorem execMemSharedAlloc_within {r : RingId} {tag : BitVec 16} {s : State} {t : State} (e : execMemSharedAlloc r tag s = .next t) : Within 33554300 s t :=
  runCmd_within (fun _ _ => RanWithin.step (Within.refl _ _) (cmdMemSharedAlloc_run ..) (by decide)) (fun _ _ => again_default _ rfl _ _ _) (by decide) e

theorem execMemInject_within {r : RingId} {tag : BitVec 16} {s : State} {t : State} (e : execMemInject r tag s = .next t) : Within 33554300 s t :=
  runCmd_within (fun _ _ => RanWithin.step (Within.refl _ _) (cmdMemInject_run ..) (by decide)) (fun _ _ => again_default _ rfl _ _ _) (by decide) e

end Sys2Proof.Machine
end

