-- ==== Sys2Proof/Laws/Rows/Mgmt.lean ====
section
/-! SUPPORT. What the rows of Machine/Mgmt.lean may touch: one lemma for each. -/

namespace Sys2Proof.Machine

open Sys2Proof

set_option linter.unusedTactic false
set_option linter.unreachableTactic false

theorem execSurveyProbe_within {port : Nat} {probe : SurveyProbe} {s : State} {t : State} (e : execSurveyProbe port probe s = .next t) : Within 33554300 s t := by
  unfold execSurveyProbe at e
  cases e
  repeat' (first
    | assumption
    | with_reducible (exact Within.refl _ _)
    | with_reducible refine surveyProbe_in ?_ (by decide)
    | split
    | dsimp only)

theorem execTelemetrySample_within {s : State} {t : State} (e : execTelemetrySample s = .next t) : Within 33554300 s t := by
  unfold execTelemetrySample at e
  cases e
  repeat' (first
    | assumption
    | with_reducible (exact Within.refl _ _)
    | with_reducible refine telemetrySample_in ?_ (by decide)
    | split
    | dsimp only)

theorem execLoadWindow_within {load : Nat} {classes : List Nat} {s : State} {t : State} (e : execLoadWindow load classes s = .next t) : Within 33554300 s t := by
  unfold execLoadWindow at e
  cases e
  repeat' (first
    | assumption
    | with_reducible (exact Within.refl _ _)
    | with_reducible refine loadWindow_in ?_ (by decide)
    | split
    | dsimp only)

theorem execLanternHeartbeatMiss_within {s : State} {t : State} (e : execLanternHeartbeatMiss s = .next t) : Within 33554300 s t := by
  unfold execLanternHeartbeatMiss at e
  cases e
  repeat' (first
    | assumption
    | with_reducible (exact Within.refl _ _)
    | with_reducible refine takeover_in ?_ (by decide)
    | split
    | dsimp only)

theorem execBootComplete_within {s : State} {t : State} (e : execBootComplete s = .next t) : Within 33554300 s t := by
  unfold execBootComplete at e
  cases e
  repeat' (first
    | assumption
    | with_reducible (exact Within.refl _ _)
    | with_reducible refine bootDone_in ?_ (by decide)
    | split
    | dsimp only)

theorem execBootWatchdog_within {s : State} {t : State} (e : execBootWatchdog s = .next t) : Within 33554300 s t := by
  unfold execBootWatchdog at e
  cases e
  repeat' (first
    | assumption
    | with_reducible (exact Within.refl _ _)
    | with_reducible refine watchdogReset_in ?_ (by decide)
    | split
    | dsimp only)

theorem execCommandTimeout_within {r : RingId} {tag : BitVec 16} {elapsedMs : Nat} {s : State} {t : State} (e : execCommandTimeout r tag elapsedMs s = .next t) : Within 33554300 s t := by
  unfold execCommandTimeout at e
  cases e
  repeat' (first
    | assumption
    | with_reducible (exact Within.refl _ _)
    | with_reducible refine commandTimeout_in ?_ (by decide)
    | split
    | dsimp only)

theorem execNop_within {r : RingId} {tag : BitVec 16} {s : State} {t : State} (e : execNop r tag s = .next t) : Within 33554300 s t :=
  runCmd_within (fun _ _ => RanWithin.step (Within.refl _ _) (cmdNop_run ..) (by decide)) (fun _ _ => again_default _ rfl _ _ _) (by decide) e

theorem execIdentify_within {r : RingId} {tag : BitVec 16} {s : State} {t : State} (e : execIdentify r tag s = .next t) : Within 33554300 s t :=
  runCmd_within (fun _ _ => RanWithin.step (Within.refl _ _) (cmdIdentify_run ..) (by decide)) (fun _ _ => again_default _ rfl _ _ _) (by decide) e

theorem execFwStage_within {r : RingId} {tag : BitVec 16} {s : State} {t : State} (e : execFwStage r tag s = .next t) : Within 33554300 s t :=
  runCmd_within (fun _ _ => RanWithin.step (Within.refl _ _) (cmdFwStage_run ..) (by decide)) (fun _ _ => again_default _ rfl _ _ _) (by decide) e

theorem execFwCommit_within {r : RingId} {tag : BitVec 16} {s : State} {t : State} (e : execFwCommit r tag s = .next t) : Within 33554300 s t :=
  runCmd_within (fun _ _ => RanWithin.step (Within.refl _ _) (cmdFwCommit_run ..) (by decide)) (fun _ _ => RanWithin.step (Within.refl _ _) (cmdFwCommit_again ..) (by decide)) (by decide) e

theorem execFwActivate_within {r : RingId} {tag : BitVec 16} {s : State} {t : State} (e : execFwActivate r tag s = .next t) : Within 33554300 s t :=
  runCmd_within (fun _ _ => RanWithin.step (Within.refl _ _) (cmdFwActivate_run ..) (by decide)) (fun _ _ => again_default _ rfl _ _ _) (by decide) e

theorem execEventGet_within {r : RingId} {tag : BitVec 16} {s : State} {t : State} (e : execEventGet r tag s = .next t) : Within 33554300 s t :=
  runCmd_within (fun _ _ => RanWithin.step (Within.refl _ _) (cmdEventGet_run ..) (by decide)) (fun _ _ => again_default _ rfl _ _ _) (by decide) e

theorem execCmdAbort_within {r : RingId} {tag : BitVec 16} {s : State} {t : State} (e : execCmdAbort r tag s = .next t) : Within 33554300 s t :=
  runCmd_within (fun _ _ => RanWithin.step (Within.refl _ _) (cmdCmdAbort_run ..) (by decide)) (fun _ _ => again_default _ rfl _ _ _) (by decide) e

theorem execModuleReset_within {r : RingId} {tag : BitVec 16} {s : State} {t : State} (e : execModuleReset r tag s = .next t) : Within 33554300 s t :=
  runCmd_within (fun _ _ => RanWithin.step (Within.refl _ _) (cmdModuleReset_run ..) (by decide)) (fun _ _ => again_default _ rfl _ _ _) (by decide) e

theorem execSurveyStart_within {r : RingId} {tag : BitVec 16} {s : State} {t : State} (e : execSurveyStart r tag s = .next t) : Within 33554300 s t :=
  runCmd_within (fun _ _ => RanWithin.step (Within.refl _ _) (cmdSurveyStart_run ..) (by decide)) (fun _ _ => again_default _ rfl _ _ _) (by decide) e

theorem execSurveyStatus_within {r : RingId} {tag : BitVec 16} {s : State} {t : State} (e : execSurveyStatus r tag s = .next t) : Within 33554300 s t :=
  runCmd_within (fun _ _ => RanWithin.step (Within.refl _ _) (cmdSurveyStatus_run ..) (by decide)) (fun _ _ => again_default _ rfl _ _ _) (by decide) e

theorem execDetach_within {r : RingId} {tag : BitVec 16} {s : State} {t : State} (e : execDetach r tag s = .next t) : Within 33554300 s t :=
  runCmd_within (fun _ _ => RanWithin.step (Within.refl _ _) (cmdDetach_run ..) (by decide)) (fun _ _ => RanWithin.step (Within.refl _ _) (cmdDetach_again ..) (by decide)) (by decide) e

theorem execAttach_within {r : RingId} {tag : BitVec 16} {s : State} {t : State} (e : execAttach r tag s = .next t) : Within 33554300 s t :=
  runCmd_within (fun _ _ => RanWithin.step (Within.refl _ _) (cmdAttach_run ..) (by decide)) (fun _ _ => again_default _ rfl _ _ _) (by decide) e

theorem execLanternSwitch_within {r : RingId} {tag : BitVec 16} {s : State} {t : State} (e : execLanternSwitch r tag s = .next t) : Within 33554300 s t :=
  runCmd_within (fun _ _ => RanWithin.step (Within.refl _ _) (cmdLanternSwitch_run ..) (by decide)) (fun _ _ => again_default _ rfl _ _ _) (by decide) e

theorem execSurveyAccept_within {r : RingId} {tag : BitVec 16} {s : State} {t : State} (e : execSurveyAccept r tag s = .next t) : Within 33554300 s t :=
  runCmd_within (fun _ _ => RanWithin.step (Within.refl _ _) (cmdSurveyAccept_run ..) (by decide)) (fun _ _ => again_default _ rfl _ _ _) (by decide) e

theorem execTlmList_within {r : RingId} {tag : BitVec 16} {s : State} {t : State} (e : execTlmList r tag s = .next t) : Within 33554300 s t :=
  runCmd_within (fun _ _ => RanWithin.step (Within.refl _ _) (cmdTlmList_run ..) (by decide)) (fun _ _ => again_default _ rfl _ _ _) (by decide) e

theorem execTlmRead_within {r : RingId} {tag : BitVec 16} {s : State} {t : State} (e : execTlmRead r tag s = .next t) : Within 33554300 s t :=
  runCmd_within (fun _ _ => RanWithin.step (Within.refl _ _) (cmdTlmRead_run ..) (by decide)) (fun _ _ => again_default _ rfl _ _ _) (by decide) e

theorem execTlmSampleCfg_within {r : RingId} {tag : BitVec 16} {s : State} {t : State} (e : execTlmSampleCfg r tag s = .next t) : Within 33554300 s t :=
  runCmd_within (fun _ _ => RanWithin.step (Within.refl _ _) (cmdTlmSampleCfg_run ..) (by decide)) (fun _ _ => again_default _ rfl _ _ _) (by decide) e

end Sys2Proof.Machine
end

