-- ==== Sys2Proof/Laws/Rows/Num.lean ====
section
/-! SUPPORT. What the rows of Machine/Num.lean may touch: one lemma for each. -/

namespace Sys2Proof.Machine

open Sys2Proof

set_option linter.unusedTactic false
set_option linter.unreachableTactic false

theorem execNumCfg_within {r : RingId} {tag : BitVec 16} {s : State} {t : State} (e : execNumCfg r tag s = .next t) : Within 33554300 s t :=
  runCmd_within (fun _ _ => RanWithin.step (Within.refl _ _) (cmdNumCfg_run ..) (by decide)) (fun _ _ => again_default _ rfl _ _ _) (by decide) e

theorem execNumCensusReg_within {r : RingId} {tag : BitVec 16} {s : State} {t : State} (e : execNumCensusReg r tag s = .next t) : Within 33554300 s t :=
  runCmd_within (fun _ _ => RanWithin.step (Within.refl _ _) (cmdNumCensusReg_run ..) (by decide)) (fun _ _ => again_default _ rfl _ _ _) (by decide) e

theorem execNumCensusTag_within {r : RingId} {tag : BitVec 16} {s : State} {t : State} (e : execNumCensusTag r tag s = .next t) : Within 33554300 s t :=
  runCmd_within (fun _ _ => RanWithin.step (Within.refl _ _) (cmdNumCensusTag_run ..) (by decide)) (fun _ _ => again_default _ rfl _ _ _) (by decide) e

theorem execNumCensusState_within {r : RingId} {tag : BitVec 16} {s : State} {t : State} (e : execNumCensusState r tag s = .next t) : Within 33554300 s t :=
  runCmd_within (fun _ _ => RanWithin.step (Within.refl _ _) (cmdNumCensusState_run ..) (by decide)) (fun _ _ => again_default _ rfl _ _ _) (by decide) e

theorem execNumFlags_within {r : RingId} {tag : BitVec 16} {s : State} {t : State} (e : execNumFlags r tag s = .next t) : Within 33554300 s t :=
  runCmd_within (fun _ _ => RanWithin.step (Within.refl _ _) (cmdNumFlags_run ..) (by decide)) (fun _ _ => again_default _ rfl _ _ _) (by decide) e

theorem execNumRecover_within {r : RingId} {tag : BitVec 16} {s : State} {t : State} (e : execNumRecover r tag s = .next t) : Within 33554300 s t :=
  runCmd_within (fun _ _ => RanWithin.step (Within.refl _ _) (cmdNumRecover_run ..) (by decide)) (fun _ _ => again_default _ rfl _ _ _) (by decide) e

end Sys2Proof.Machine
end

