-- ==== Sys2Proof/Laws/Rows/Power.lean ====
section
/-! SUPPORT. What the rows of Machine/Power.lean may touch: one lemma for each. -/

namespace Sys2Proof.Machine

open Sys2Proof

set_option linter.unusedTactic false
set_option linter.unreachableTactic false

theorem execInputAccepted_within {input : Port} {feedA feedB : BitVec 8} {s : State} {t : State} (e : execInputAccepted input feedA feedB s = .next t) : Within 33554300 s t := by
  unfold execInputAccepted at e
  try dsimp only at e
  repeat' split at e
  all_goals cases e
  all_goals
    repeat' (first
      | assumption
      | with_reducible (exact Within.refl _ _)
      | with_reducible refine State.setCarrier_in ?_ (by decide)
      | with_reducible refine State.setLantern_in ?_ (by decide)
      | with_reducible refine clearAlert_in ?_ (by decide)
      | split
      | dsimp only)

theorem execInputDropped_within {input : Port} {s : State} {t : State} (e : execInputDropped input s = .next t) : Within 33554300 s t := by
  unfold execInputDropped at e
  try dsimp only at e
  repeat' split at e
  all_goals cases e
  all_goals
    repeat' (first
      | assumption
      | with_reducible (exact Within.refl _ _)
      | with_reducible refine State.bump_in ?_ (by decide)
      | with_reducible refine State.setCarrier_in ?_ (by decide)
      | with_reducible refine raiseAlert_in ?_ (by decide)
      | split
      | dsimp only)

theorem execBusLoss_within {s : State} {t : State} (e : execBusLoss s = .next t) : Within 33554300 s t := by
  unfold execBusLoss at e
  try dsimp only at e
  repeat' split at e
  all_goals cases e
  all_goals
    repeat' (first
      | assumption
      | with_reducible (exact Within.refl _ _)
      | with_reducible refine State.setCarrier_in ?_ (by decide)
      | with_reducible refine State.setLantern_in ?_ (by decide)
      | with_reducible refine mainOff_in ?_ (by decide)
      | split
      | dsimp only)

theorem execPwrEnRise_within {s : State} {t : State} (e : execPwrEnRise s = .next t) : Within 33554300 s t := by
  unfold execPwrEnRise at e
  try dsimp only at e
  repeat' split at e
  all_goals cases e
  all_goals
    repeat' (first
      | assumption
      | with_reducible (exact Within.refl _ _)
      | with_reducible refine State.setCarrier_in ?_ (by decide)
      | with_reducible refine coldStart_in ?_ (by decide)
      | split
      | dsimp only)

theorem execPwrEnFall_within {s : State} {t : State} (e : execPwrEnFall s = .next t) : Within 33554300 s t := by
  unfold execPwrEnFall at e
  try dsimp only at e
  repeat' split at e
  all_goals cases e
  all_goals
    repeat' (first
      | assumption
      | with_reducible (exact Within.refl _ _)
      | with_reducible refine State.setCarrier_in ?_ (by decide)
      | with_reducible refine mainOff_in ?_ (by decide)
      | with_reducible refine offAlerts_in ?_ (by decide)
      | split
      | dsimp only)

theorem execPowerUpComplete_within {ok : Bool} {s : State} {t : State} (e : execPowerUpComplete ok s = .next t) : Within 33554300 s t := by
  unfold execPowerUpComplete at e
  cases e
  repeat' (first
    | assumption
    | with_reducible (exact Within.refl _ _)
    | with_reducible refine State.setCarrier_in ?_ (by decide)
    | with_reducible refine State.setLantern_in ?_ (by decide)
    | with_reducible refine raiseAlert_in ?_ (by decide)
    | with_reducible refine clearAlert_in ?_ (by decide)
    | with_reducible refine mainOff_in ?_ (by decide)
    | split
    | dsimp only)

theorem execTripCleared_within {s : State} {t : State} (e : execTripCleared s = .next t) : Within 33554300 s t := by
  unfold execTripCleared at e
  cases e
  repeat' (first
    | assumption
    | with_reducible (exact Within.refl _ _)
    | with_reducible refine State.setCarrier_in ?_ (by decide)
    | with_reducible refine clearAlert_in ?_ (by decide)
    | split
    | dsimp only)

theorem execPowerSample_within {total : Nat} {budgets : List Nat} {s : State} {t : State} (e : execPowerSample total budgets s = .next t) : Within 33554300 s t := by
  unfold execPowerSample at e
  cases e
  repeat' (first
    | assumption
    | with_reducible (exact Within.refl _ _)
    | with_reducible refine powerSample_in ?_ (by decide)
    | split
    | dsimp only)

theorem execDroopEvent_within {y0 : Option Nat} {s : State} {t : State} (e : execDroopEvent y0 s = .next t) : Within 33554300 s t := by
  unfold execDroopEvent at e
  cases e
  repeat' (first
    | assumption
    | with_reducible (exact Within.refl _ _)
    | with_reducible refine State.bump_in ?_ (by decide)
    | split
    | dsimp only
    | with_reducible refine risk_in ?_ (by decide))

theorem execFeedidRead_within {feedA feedB : BitVec 8} {s : State} {t : State} (e : execFeedidRead feedA feedB s = .next t) : Within 33554300 s t := by
  unfold execFeedidRead at e
  cases e
  repeat' (first
    | assumption
    | with_reducible (exact Within.refl _ _)
    | with_reducible refine State.bump_in ?_ (by decide)
    | with_reducible refine raiseAlert_in ?_ (by decide)
    | with_reducible refine clearAlert_in ?_ (by decide)
    | split
    | dsimp only)

theorem execDieTempReading_within {die : Nat} {celsius : Int} {s : State} {t : State} (e : execDieTempReading die celsius s = .next t) : Within 33554300 s t := by
  unfold execDieTempReading at e
  cases e
  repeat' (first
    | assumption
    | with_reducible (exact Within.refl _ _)
    | with_reducible refine dieReading_in ?_ (by decide)
    | split
    | dsimp only)

theorem execCoolantReading_within {inlet outlet : Int} {flow : Nat} {s : State} {t : State} (e : execCoolantReading inlet outlet flow s = .next t) : Within 33554300 s t := by
  unfold execCoolantReading at e
  cases e
  repeat' (first
    | assumption
    | with_reducible (exact Within.refl _ _)
    | with_reducible refine coolantReading_in ?_ (by decide)
    | split
    | dsimp only)

theorem execThermalCriticalTimeout_within {s : State} {t : State} (e : execThermalCriticalTimeout s = .next t) : Within 33554300 s t := by
  unfold execThermalCriticalTimeout at e
  cases e
  repeat' (first
    | assumption
    | with_reducible (exact Within.refl _ _)
    | with_reducible refine trip_in ?_ (by decide)
    | split
    | dsimp only)

theorem execStackTempReading_within {stack : Nat} {celsius : Int} {s : State} {t : State} (e : execStackTempReading stack celsius s = .next t) : Within 33554300 s t := by
  unfold execStackTempReading at e
  cases e
  repeat' (first
    | assumption
    | with_reducible (exact Within.refl _ _)
    | with_reducible refine stackReading_in ?_ (by decide)
    | split
    | dsimp only)

theorem execRefclkSysLoss_within {s : State} {t : State} (e : execRefclkSysLoss s = .next t) : Within 33554300 s t := by
  unfold execRefclkSysLoss at e
  try dsimp only at e
  repeat' split at e
  all_goals cases e
  all_goals
    repeat' (first
      | assumption
      | with_reducible (exact Within.refl _ _)
      | with_reducible refine State.setCarrier_in ?_ (by decide)
      | with_reducible refine trip_in ?_ (by decide)
      | split
      | dsimp only)

theorem execRefclkSysReturn_within {s : State} {t : State} (e : execRefclkSysReturn s = .next t) : Within 33554300 s t := by
  unfold execRefclkSysReturn at e
  try dsimp only at e
  repeat' split at e
  all_goals cases e
  all_goals
    repeat' (first
      | assumption
      | with_reducible (exact Within.refl _ _)
      | with_reducible refine State.setCarrier_in ?_ (by decide)
      | with_reducible refine clearAlert_in ?_ (by decide)
      | split
      | dsimp only)

theorem execRefclkHostLoss_within {s : State} {t : State} (e : execRefclkHostLoss s = .next t) : Within 33554300 s t := by
  unfold execRefclkHostLoss at e
  cases e
  repeat' (first
    | assumption
    | with_reducible (exact Within.refl _ _)
    | with_reducible refine State.setCarrier_in ?_ (by decide)
    | with_reducible refine resetPorts_in ?_ (by decide)
    | split
    | dsimp only)

theorem execRefclkHostReturn_within {s : State} {t : State} (e : execRefclkHostReturn s = .next t) : Within 33554300 s t := by
  unfold execRefclkHostReturn at e
  cases e
  repeat' (first
    | assumption
    | with_reducible (exact Within.refl _ _)
    | with_reducible refine State.setCarrier_in ?_ (by decide)
    | split
    | dsimp only)

theorem execHostPerstAssert_within {s : State} {t : State} (e : execHostPerstAssert s = .next t) : Within 33554300 s t := by
  unfold execHostPerstAssert at e
  cases e
  repeat' (first
    | assumption
    | with_reducible (exact Within.refl _ _)
    | with_reducible refine State.bump_in ?_ (by decide)
    | with_reducible refine State.setCarrier_in ?_ (by decide)
    | with_reducible refine resetPorts_in ?_ (by decide)
    | split
    | dsimp only)

theorem execHostPerstDeassert_within {s : State} {t : State} (e : execHostPerstDeassert s = .next t) : Within 33554300 s t := by
  unfold execHostPerstDeassert at e
  cases e
  repeat' (first
    | assumption
    | with_reducible (exact Within.refl _ _)
    | with_reducible refine State.setCarrier_in ?_ (by decide)
    | split
    | dsimp only)

theorem execDieIsolate_within {die : Nat} {s : State} {t : State} (e : execDieIsolate die s = .next t) : Within 33554300 s t := by
  unfold execDieIsolate at e
  cases e
  repeat' (first
    | assumption
    | with_reducible (exact Within.refl _ _)
    | with_reducible refine isolateDie_in ?_ (by decide)
    | split
    | dsimp only)

end Sys2Proof.Machine
end

