-- ==== Sys2Proof/Laws/Rows/Recv.lean ====
section
/-! SUPPORT. What the rows of Machine/Recv.lean may touch: one lemma for each. -/

namespace Sys2Proof.Machine

open Sys2Proof

set_option linter.unusedTactic false
set_option linter.unreachableTactic false

theorem execSendQueueSend_within {cluster : Nat} {s : State} {t : State} (e : execSendQueueSend cluster s = .next t) : Within 33554300 s t := by
  unfold execSendQueueSend at e
  try dsimp only at e
  repeat' split at e
  all_goals cases e
  all_goals
    repeat' (first
      | assumption
      | with_reducible (exact Within.refl _ _)
      | with_reducible refine State.setCluster_in ?_ (by decide)
      | with_reducible refine sendHead_in ?_ (by decide)
      | with_reducible refine collArrive_in ?_ (by decide)
      | split
      | dsimp only)

theorem execAckTimeout_within {cluster msg pkt : Nat} {s : State} {t : State} (e : execAckTimeout cluster msg pkt s = .next t) : Within 33554300 s t := by
  unfold execAckTimeout at e
  cases e
  repeat' (first
    | assumption
    | with_reducible (exact Within.refl _ _)
    | with_reducible refine ackTimeout_in ?_ (by decide)
    | split
    | dsimp only)

theorem execPutPacket_within {n : Nat} {s : State} {t : State} (e : execPutPacket n s = .next t) : Within 33554300 s t := by
  unfold execPutPacket at e
  cases e
  repeat' (first
    | assumption
    | with_reducible (exact Within.refl _ _)
    | with_reducible refine onPacket_in ?_ (by decide) (fun _ _ _ => ?_)
    | with_reducible refine putPacketBody_in ?_ (by decide)
    | split
    | dsimp only)

theorem execGetReq_within {n : Nat} {s : State} {t : State} (e : execGetReq n s = .next t) : Within 33554300 s t := by
  unfold execGetReq at e
  cases e
  repeat' (first
    | assumption
    | with_reducible (exact Within.refl _ _)
    | with_reducible refine onPacket_in ?_ (by decide) (fun _ _ _ => ?_)
    | with_reducible refine getReqBody_in ?_ (by decide)
    | split
    | dsimp only)

theorem execGetData_within {n : Nat} {s : State} {t : State} (e : execGetData n s = .next t) : Within 33554300 s t := by
  unfold execGetData at e
  cases e
  repeat' (first
    | assumption
    | with_reducible (exact Within.refl _ _)
    | with_reducible refine getDataBody_in ?_ (by decide)
    | with_reducible refine onResponse_in ?_ (by decide) (fun _ _ _ => ?_)
    | split
    | dsimp only)

theorem execAccPacket_within {n : Nat} {s : State} {t : State} (e : execAccPacket n s = .next t) : Within 33554300 s t := by
  unfold execAccPacket at e
  cases e
  repeat' (first
    | assumption
    | with_reducible (exact Within.refl _ _)
    | with_reducible refine onPacket_in ?_ (by decide) (fun _ _ _ => ?_)
    | with_reducible refine accPacketBody_in ?_ (by decide)
    | split
    | dsimp only)

theorem execSignalPacket_within {n : Nat} {s : State} {t : State} (e : execSignalPacket n s = .next t) : Within 33554300 s t := by
  unfold execSignalPacket at e
  cases e
  repeat' (first
    | assumption
    | with_reducible (exact Within.refl _ _)
    | with_reducible refine signalIn_in ?_ (by decide)
    | split
    | dsimp only)

theorem execAtomicReq_within {n : Nat} {s : State} {t : State} (e : execAtomicReq n s = .next t) : Within 33554300 s t := by
  unfold execAtomicReq at e
  cases e
  repeat' (first
    | assumption
    | with_reducible (exact Within.refl _ _)
    | with_reducible refine onPacket_in ?_ (by decide) (fun _ _ _ => ?_)
    | with_reducible refine atomicBody_in ?_ (by decide)
    | split
    | dsimp only)

theorem execAtomicRsp_within {n : Nat} {s : State} {t : State} (e : execAtomicRsp n s = .next t) : Within 33554300 s t := by
  unfold execAtomicRsp at e
  cases e
  repeat' (first
    | assumption
    | with_reducible (exact Within.refl _ _)
    | with_reducible refine onResponse_in ?_ (by decide) (fun _ _ _ => ?_)
    | with_reducible refine atomicRspBody_in ?_ (by decide)
    | with_reducible refine serviceAcked_in ?_ (by decide)
    | split
    | dsimp only)

theorem execReduceChunk_within {n : Nat} {s : State} {t : State} (e : execReduceChunk n s = .next t) : Within 33554300 s t := by
  unfold execReduceChunk at e
  cases e
  repeat' (first
    | assumption
    | with_reducible (exact Within.refl _ _)
    | with_reducible refine reduceChunkIn_in ?_ (by decide)
    | split
    | dsimp only)

theorem execPermutePacket_within {n : Nat} {s : State} {t : State} (e : execPermutePacket n s = .next t) : Within 33554300 s t := by
  unfold execPermutePacket at e
  cases e
  repeat' (first
    | assumption
    | with_reducible (exact Within.refl _ _)
    | with_reducible refine onPacket_in ?_ (by decide) (fun _ _ _ => ?_)
    | with_reducible refine putPacketBody_in ?_ (by decide)
    | split
    | dsimp only)

theorem execFabricAck_within {n : Nat} {s : State} {t : State} (e : execFabricAck n s = .next t) : Within 33554300 s t := by
  unfold execFabricAck at e
  cases e
  repeat' (first
    | assumption
    | with_reducible (exact Within.refl _ _)
    | with_reducible refine ackIn_in ?_ (by decide) (fun _ _ => ?_)
    | with_reducible refine serviceAcked_in ?_ (by decide)
    | split
    | dsimp only)

theorem execCollectiveStart_within {ctx axes number : Nat} {s : State} {t : State} (e : execCollectiveStart ctx axes number s = .next t) : Within 33554300 s t := by
  unfold execCollectiveStart at e
  cases e
  repeat' (first
    | assumption
    | with_reducible (exact Within.refl _ _)
    | with_reducible refine collStart_in ?_ (by decide)
    | split
    | dsimp only)

end Sys2Proof.Machine
end

