-- ==== Sys2Proof/Laws/Rows/Ring.lean ====
section
/-! SUPPORT. What the rows of Machine/Ring.lean may touch: one lemma for each. -/

namespace Sys2Proof.Machine

open Sys2Proof

set_option linter.unusedTactic false
set_option linter.unreachableTactic false

theorem execRingEnable_within {r : RingId} {value : BitVec 32} {s : State} {t : State} (e : execRingEnable r value s = .next t) : Within 33554300 s t := by
  unfold execRingEnable atBar0 at e
  try dsimp only at e
  repeat' split at e
  all_goals cases e
  all_goals
    repeat' (first
      | assumption
      | with_reducible (exact Within.refl _ _)
      | with_reducible refine writeCtrl_in ?_ (by decide)
      | split
      | dsimp only)

theorem execRingDisable_within {r : RingId} {value : BitVec 32} {s : State} {t : State} (e : execRingDisable r value s = .next t) : Within 33554300 s t := by
  unfold execRingDisable atBar0 at e
  try dsimp only at e
  repeat' split at e
  all_goals cases e
  all_goals
    repeat' (first
      | assumption
      | with_reducible (exact Within.refl _ _)
      | with_reducible refine writeCtrl_in ?_ (by decide)
      | split
      | dsimp only)

theorem execRingConfigWrite_within {r : RingId} {value : BitVec 32} {s : State} {t : State} (e : execRingConfigWrite r value s = .next t) : Within 33554300 s t := by
  unfold execRingConfigWrite atBar0 at e
  try dsimp only at e
  repeat' split at e
  all_goals cases e
  all_goals
    repeat' (first
      | assumption
      | with_reducible (exact Within.refl _ _)
      | with_reducible refine writeCtrl_in ?_ (by decide)
      | split
      | dsimp only)

theorem execRingBaseWrite_within {r : RingId} {off : Nat} {wide : Bool} {value : BitVec 64} {s : State} {t : State} (e : execRingBaseWrite r off wide value s = .next t) : Within 33554300 s t := by
  unfold execRingBaseWrite atBar0 at e
  try dsimp only at e
  repeat' split at e
  all_goals cases e
  all_goals
    repeat' (first
      | assumption
      | with_reducible (exact Within.refl _ _)
      | with_reducible refine writeBase_in ?_ (by decide)
      | split
      | dsimp only)

theorem execLmbDoorbell_within {r : RingId} {value : BitVec 32} {s : State} {t : State} (e : execLmbDoorbell r value s = .next t) : Within 33554300 s t := by
  unfold execLmbDoorbell atBar0 at e
  try dsimp only at e
  repeat' split at e
  all_goals cases e
  all_goals
    repeat' (first
      | assumption
      | with_reducible (exact Within.refl _ _)
      | with_reducible refine doorbell_in ?_ (by decide)
      | split
      | dsimp only)

theorem execBar0LowRead_within {r : RingId} {off : Nat} {s : State} {t : State} (e : execBar0LowRead r off s = .next t) : Within 33554300 s t := by
  unfold execBar0LowRead atBar0 at e
  try dsimp only at e
  repeat' split at e
  all_goals cases e
  all_goals
    repeat' (first
      | assumption
      | with_reducible (exact Within.refl _ _)
      | with_reducible refine readBar0_in ?_ (by decide)
      | split
      | dsimp only)

theorem execRegisterWrite_within {r : RingId} {off : Nat} {value : BitVec 32} {s : State} {t : State} (e : execRegisterWrite r off value s = .next t) : Within 33554300 s t := by
  unfold execRegisterWrite atBar0 at e
  try dsimp only at e
  repeat' split at e
  all_goals cases e
  all_goals
    repeat' (first
      | assumption
      | with_reducible (exact Within.refl _ _)
      | with_reducible refine writeReg_in ?_ (by decide)
      | split
      | dsimp only)

theorem execRingStopComplete_within {r : RingId} {s : State} {t : State} (e : execRingStopComplete r s = .next t) : Within 33554300 s t := by
  unfold execRingStopComplete at e
  cases e
  repeat' (first
    | assumption
    | with_reducible (exact Within.refl _ _)
    | with_reducible refine ringStopped_in ?_ (by decide)
    | split
    | dsimp only)

theorem execCompletionDeferred_within {r : RingId} {s : State} {t : State} (e : execCompletionDeferred r s = .next t) : Within 33554300 s t := by
  unfold execCompletionDeferred at e
  cases e
  repeat' (first
    | assumption
    | with_reducible (exact Within.refl _ _)
    | with_reducible refine deferred_in ?_ (by decide)
    | split
    | dsimp only)

theorem execFunctionLevelReset_within {r : RingId} {s : State} {t : State} (e : execFunctionLevelReset r s = .next t) : Within 33554300 s t := by
  unfold execFunctionLevelReset atBar0 at e
  try dsimp only at e
  repeat' split at e
  all_goals cases e
  all_goals
    repeat' (first
      | assumption
      | with_reducible (exact Within.refl _ _)
      | with_reducible refine flr_in ?_ (by decide)
      | split
      | dsimp only)

end Sys2Proof.Machine
end

