-- ==== Sys2Proof/Laws/Rows/Sec.lean ====
section
/-! SUPPORT. What the rows of Machine/Sec.lean may touch: one lemma for each. -/

namespace Sys2Proof.Machine

open Sys2Proof

set_option linter.unusedTactic false
set_option linter.unreachableTactic false

theorem execSecIdentity_within {r : RingId} {tag : BitVec 16} {s : State} {t : State} (e : execSecIdentity r tag s = .next t) : Within 33554300 s t :=
  runCmd_within (fun _ _ => RanWithin.step (Within.refl _ _) (cmdSecIdentity_run ..) (by decide)) (fun _ _ => again_default _ rfl _ _ _) (by decide) e

theorem execSecAttest_within {r : RingId} {tag : BitVec 16} {s : State} {t : State} (e : execSecAttest r tag s = .next t) : Within 33554300 s t :=
  runCmd_within (fun _ _ => RanWithin.step (Within.refl _ _) (cmdSecAttest_run ..) (by decide)) (fun _ _ => again_default _ rfl _ _ _) (by decide) e

theorem execSecLcStatus_within {r : RingId} {tag : BitVec 16} {s : State} {t : State} (e : execSecLcStatus r tag s = .next t) : Within 33554300 s t :=
  runCmd_within (fun _ _ => RanWithin.step (Within.refl _ _) (cmdSecLcStatus_run ..) (by decide)) (fun _ _ => again_default _ rfl _ _ _) (by decide) e

theorem execSecLcNonce_within {r : RingId} {tag : BitVec 16} {s : State} {t : State} (e : execSecLcNonce r tag s = .next t) : Within 33554300 s t :=
  runCmd_within (fun _ _ => RanWithin.step (Within.refl _ _) (cmdSecLcNonce_run ..) (by decide)) (fun _ _ => again_default _ rfl _ _ _) (by decide) e

theorem execSecLcToken_within {r : RingId} {tag : BitVec 16} {s : State} {t : State} (e : execSecLcToken r tag s = .next t) : Within 33554300 s t :=
  runCmd_within (fun _ _ => RanWithin.step (Within.refl _ _) (cmdSecLcToken_run ..) (by decide)) (fun _ _ => again_default _ rfl _ _ _) (by decide) e

theorem execSecLcRetry_within {r : RingId} {tag : BitVec 16} {s : State} {t : State} (e : execSecLcRetry r tag s = .next t) : Within 33554300 s t :=
  runCmd_within (fun _ _ => RanWithin.step (Within.refl _ _) (cmdSecLcRetry_run ..) (by decide)) (fun _ _ => again_default _ rfl _ _ _) (by decide) e

theorem execSecMode_within {r : RingId} {tag : BitVec 16} {s : State} {t : State} (e : execSecMode r tag s = .next t) : Within 33554300 s t :=
  runCmd_within (fun _ _ => RanWithin.step (Within.refl _ _) (cmdSecMode_run ..) (by decide)) (fun _ _ => again_default _ rfl _ _ _) (by decide) e

theorem execSecPartCreate_within {r : RingId} {tag : BitVec 16} {s : State} {t : State} (e : execSecPartCreate r tag s = .next t) : Within 33554300 s t :=
  runCmd_within (fun _ _ => RanWithin.step (Within.refl _ _) (cmdSecPartCreate_run ..) (by decide)) (fun _ _ => again_default _ rfl _ _ _) (by decide) e

theorem execSecPartDestroy_within {r : RingId} {tag : BitVec 16} {s : State} {t : State} (e : execSecPartDestroy r tag s = .next t) : Within 33554300 s t :=
  runCmd_within (fun _ _ => RanWithin.step (Within.refl _ _) (cmdSecPartDestroy_run ..) (by decide)) (fun _ _ => again_default _ rfl _ _ _) (by decide) e

theorem execSecPartReset_within {r : RingId} {tag : BitVec 16} {s : State} {t : State} (e : execSecPartReset r tag s = .next t) : Within 33554300 s t :=
  runCmd_within (fun _ _ => RanWithin.step (Within.refl _ _) (cmdSecPartReset_run ..) (by decide)) (fun _ _ => again_default _ rfl _ _ _) (by decide) e

theorem execSecKeyInstall_within {r : RingId} {tag : BitVec 16} {s : State} {t : State} (e : execSecKeyInstall r tag s = .next t) : Within 33554300 s t :=
  runCmd_within (fun _ _ => RanWithin.step (Within.refl _ _) (cmdSecKeyInstall_run ..) (by decide)) (fun _ _ => again_default _ rfl _ _ _) (by decide) e

theorem execSecKeySwitch_within {r : RingId} {tag : BitVec 16} {s : State} {t : State} (e : execSecKeySwitch r tag s = .next t) : Within 33554300 s t :=
  runCmd_within (fun _ _ => RanWithin.step (Within.refl _ _) (cmdSecKeySwitch_run ..) (by decide)) (fun _ _ => again_default _ rfl _ _ _) (by decide) e

theorem execSecKeyErase_within {r : RingId} {tag : BitVec 16} {s : State} {t : State} (e : execSecKeyErase r tag s = .next t) : Within 33554300 s t :=
  runCmd_within (fun _ _ => RanWithin.step (Within.refl _ _) (cmdSecKeyErase_run ..) (by decide)) (fun _ _ => again_default _ rfl _ _ _) (by decide) e

theorem execSecSharedSeal_within {r : RingId} {tag : BitVec 16} {s : State} {t : State} (e : execSecSharedSeal r tag s = .next t) : Within 33554300 s t :=
  runCmd_within (fun _ _ => RanWithin.step (Within.refl _ _) (cmdSecSharedSeal_run ..) (by decide)) (fun _ _ => again_default _ rfl _ _ _) (by decide) e

theorem execSecSharedUnseal_within {r : RingId} {tag : BitVec 16} {s : State} {t : State} (e : execSecSharedUnseal r tag s = .next t) : Within 33554300 s t :=
  runCmd_within (fun _ _ => RanWithin.step (Within.refl _ _) (cmdSecSharedUnseal_run ..) (by decide)) (fun _ _ => again_default _ rfl _ _ _) (by decide) e

theorem execSecSharedStripe_within {r : RingId} {tag : BitVec 16} {s : State} {t : State} (e : execSecSharedStripe r tag s = .next t) : Within 33554300 s t :=
  runCmd_within (fun _ _ => RanWithin.step (Within.refl _ _) (cmdSecSharedStripe_run ..) (by decide)) (fun _ _ => again_default _ rfl _ _ _) (by decide) e

theorem execSecCfg_within {r : RingId} {tag : BitVec 16} {s : State} {t : State} (e : execSecCfg r tag s = .next t) : Within 33554300 s t :=
  runCmd_within (fun _ _ => RanWithin.step (Within.refl _ _) (cmdSecCfg_run ..) (by decide)) (fun _ _ => again_default _ rfl _ _ _) (by decide) e

end Sys2Proof.Machine
end

