-- ==== Sys2Proof/Laws/Rows/Snap.lean ====
section
/-! SUPPORT. What the rows of Machine/Snap.lean may touch: one lemma for each. -/

namespace Sys2Proof.Machine

open Sys2Proof

set_option linter.unusedTactic false
set_option linter.unreachableTactic false

theorem execRiskUpdate_within {s : State} {t : State} (e : execRiskUpdate s = .next t) : Within 33554300 s t := by
  unfold execRiskUpdate at e
  try dsimp only at e
  repeat' split at e
  all_goals cases e
  all_goals
    repeat' (first
      | assumption
      | with_reducible (exact Within.refl _ _)
      | with_reducible (refine Within.foldl ?_ (fun _ _ => ?_))
      | with_reducible (refine Within.foldl_fst ?_ (fun _ _ => ?_))
      | with_reducible refine riskReportOut_in ?_ (by decide)
      | with_reducible refine olderJob_in ?_ (by decide)
      | split
      | dsimp only
      | with_reducible refine risk_in ?_ (by decide))

theorem execRiskReport_within {ctx rank risk : Nat} {s : State} {t : State} (e : execRiskReport ctx rank risk s = .next t) : Within 33554300 s t := by
  unfold execRiskReport at e
  try dsimp only at e
  repeat' split at e
  all_goals cases e
  all_goals
    repeat' (first
      | assumption
      | with_reducible (exact Within.refl _ _)
      | with_reducible refine setJob_in ?_ (by decide)
      | split
      | dsimp only)

theorem execSnapBoundaryCopyDone_within {ctx micros : Nat} {s : State} {t : State} (e : execSnapBoundaryCopyDone ctx micros s = .next t) : Within 33554300 s t := by
  unfold execSnapBoundaryCopyDone at e
  try dsimp only at e
  repeat' split at e
  all_goals cases e
  all_goals
    repeat' (first
      | assumption
      | with_reducible (exact Within.refl _ _)
      | with_reducible refine State.bump_in ?_ (by decide)
      | with_reducible refine setJob_in ?_ (by decide)
      | with_reducible refine launchStep_in ?_ (by decide)
      | split
      | dsimp only)

theorem execSnapWriteDone_within {ctx : Nat} {s : State} {t : State} (e : execSnapWriteDone ctx s = .next t) : Within 33554300 s t := by
  unfold execSnapWriteDone at e
  try dsimp only at e
  repeat' split at e
  all_goals cases e
  all_goals
    repeat' (first
      | assumption
      | with_reducible (exact Within.refl _ _)
      | with_reducible refine writeSnap_in ?_ (by decide)
      | with_reducible refine noteSnapOk_in ?_ (by decide)
      | split
      | dsimp only)

theorem execSnapOk_within {ctx rank snap : Nat} {s : State} {t : State} (e : execSnapOk ctx rank snap s = .next t) : Within 33554300 s t := by
  unfold execSnapOk at e
  try dsimp only at e
  repeat' split at e
  all_goals cases e
  all_goals
    repeat' (first
      | assumption
      | with_reducible (exact Within.refl _ _)
      | with_reducible refine noteSnapOk_in ?_ (by decide)
      | split
      | dsimp only)

theorem execSnapCommitted_within {ctx snap : Nat} {s : State} {t : State} (e : execSnapCommitted ctx snap s = .next t) : Within 33554300 s t := by
  unfold execSnapCommitted at e
  try dsimp only at e
  repeat' split at e
  all_goals cases e
  all_goals
    repeat' (first
      | assumption
      | with_reducible (exact Within.refl _ _)
      | with_reducible refine commitSnap_in ?_ (by decide)
      | split
      | dsimp only)

theorem execJournalRecord_within {ctx : Nat} {kind : JournalKind} {epoch : Nat} {s : State} {t : State} (e : execJournalRecord ctx kind epoch s = .next t) : Within 33554300 s t := by
  unfold execJournalRecord at e
  try dsimp only at e
  repeat' split at e
  all_goals cases e
  all_goals
    repeat' (first
      | assumption
      | with_reducible (exact Within.refl _ _)
      | with_reducible refine tell_in ?_ (by decide)
      | with_reducible refine setJob_in ?_ (by decide)
      | split
      | dsimp only)

theorem execJournalRecordAck_within {ctx : Nat} {kind : JournalKind} {epoch : Nat} {recorded : Bool} {s : State} {t : State} (e : execJournalRecordAck ctx kind epoch recorded s = .next t) : Within 33554300 s t := by
  unfold execJournalRecordAck at e
  try dsimp only at e
  repeat' split at e
  all_goals cases e
  all_goals
    repeat' (first
      | assumption
      | with_reducible (exact Within.refl _ _)
      | with_reducible refine setJob_in ?_ (by decide)
      | with_reducible refine decideCommit_in ?_ (by decide)
      | with_reducible refine decideAbort_in ?_ (by decide)
      | with_reducible refine registerNew_in ?_ (by decide)
      | with_reducible refine commitSnap_in ?_ (by decide)
      | split
      | dsimp only)

end Sys2Proof.Machine
end

