-- ==== Sys2Proof/Laws/Rows/Survive.lean ====
section
/-! SUPPORT. What the rows of Machine/Survive.lean may touch: one lemma for each. -/

namespace Sys2Proof.Machine

open Sys2Proof

set_option linter.unusedTactic false
set_option linter.unreachableTactic false

theorem execMemberHeartbeatMiss_within {ctx rank : Nat} {s : State} {t : State} (e : execMemberHeartbeatMiss ctx rank s = .next t) : Within 33554300 s t := by
  unfold execMemberHeartbeatMiss at e
  cases e
  repeat' (first
    | assumption
    | with_reducible (exact Within.refl _ _)
    | with_reducible refine declareLost_in ?_ (by decide)
    | split
    | dsimp only)

theorem execMemberLost_within {ctx rank cause : Nat} {s : State} {t : State} (e : execMemberLost ctx rank cause s = .next t) : Within 33554300 s t := by
  unfold execMemberLost at e
  cases e
  repeat' (first
    | assumption
    | with_reducible (exact Within.refl _ _)
    | with_reducible refine declareLost_in ?_ (by decide)
    | split
    | dsimp only)

theorem execSpareBindDone_within {ctx fabricId : Nat} {verified : Bool} {s : State} {t : State} (e : execSpareBindDone ctx fabricId verified s = .next t) : Within 33554300 s t := by
  unfold execSpareBindDone at e
  cases e
  repeat' (first
    | assumption
    | with_reducible (exact Within.refl _ _)
    | with_reducible refine setJob_in ?_ (by decide)
    | with_reducible refine claimSpare_in ?_ (by decide)
    | with_reducible refine withSpare_in ?_ (fun _ _ => ?_)
    | split
    | dsimp only)

theorem execSpareFillDone_within {ctx fabricId : Nat} {s : State} {t : State} (e : execSpareFillDone ctx fabricId s = .next t) : Within 33554300 s t := by
  unfold execSpareFillDone at e
  cases e
  repeat' (first
    | assumption
    | with_reducible (exact Within.refl _ _)
    | with_reducible refine State.bump_in ?_ (by decide)
    | with_reducible refine setJob_in ?_ (by decide)
    | with_reducible refine tryRelaunch_in ?_ (by decide)
    | with_reducible refine withSpare_in ?_ (fun _ _ => ?_)
    | split
    | dsimp only)

theorem execSpareRebuildDone_within {ctx fabricId : Nat} {s : State} {t : State} (e : execSpareRebuildDone ctx fabricId s = .next t) : Within 33554300 s t := by
  unfold execSpareRebuildDone at e
  cases e
  repeat' (first
    | assumption
    | with_reducible (exact Within.refl _ _)
    | with_reducible refine setJob_in ?_ (by decide)
    | with_reducible refine withSpare_in ?_ (fun _ _ => ?_)
    | split
    | dsimp only)

theorem execSurvCfg_within {r : RingId} {tag : BitVec 16} {s : State} {t : State} (e : execSurvCfg r tag s = .next t) : Within 33554300 s t :=
  runCmd_within (fun _ _ => RanWithin.step (Within.refl _ _) (cmdSurvCfg_run ..) (by decide)) (fun _ _ => again_default _ rfl _ _ _) (by decide) e

theorem execSnapTensorReg_within {r : RingId} {tag : BitVec 16} {s : State} {t : State} (e : execSnapTensorReg r tag s = .next t) : Within 33554300 s t :=
  runCmd_within (fun _ _ => RanWithin.step (Within.refl _ _) (cmdSnapTensorReg_run ..) (by decide)) (fun _ _ => again_default _ rfl _ _ _) (by decide) e

theorem execSnapTensorUnreg_within {r : RingId} {tag : BitVec 16} {s : State} {t : State} (e : execSnapTensorUnreg r tag s = .next t) : Within 33554300 s t :=
  runCmd_within (fun _ _ => RanWithin.step (Within.refl _ _) (cmdSnapTensorUnreg_run ..) (by decide)) (fun _ _ => again_default _ rfl _ _ _) (by decide) e

theorem execSnapNow_within {r : RingId} {tag : BitVec 16} {s : State} {t : State} (e : execSnapNow r tag s = .next t) : Within 33554300 s t :=
  runCmd_within (fun _ _ => RanWithin.step (Within.refl _ _) (cmdSnapNow_run ..) (by decide)) (fun _ _ => again_default _ rfl _ _ _) (by decide) e

theorem execSnapStatus_within {r : RingId} {tag : BitVec 16} {s : State} {t : State} (e : execSnapStatus r tag s = .next t) : Within 33554300 s t :=
  runCmd_within (fun _ _ => RanWithin.step (Within.refl _ _) (cmdSnapStatus_run ..) (by decide)) (fun _ _ => again_default _ rfl _ _ _) (by decide) e

theorem execSurvRisk_within {r : RingId} {tag : BitVec 16} {s : State} {t : State} (e : execSurvRisk r tag s = .next t) : Within 33554300 s t :=
  runCmd_within (fun _ _ => RanWithin.step (Within.refl _ _) (cmdSurvRisk_run ..) (by decide)) (fun _ _ => again_default _ rfl _ _ _) (by decide) e

theorem execSurvSpareAdd_within {r : RingId} {tag : BitVec 16} {s : State} {t : State} (e : execSurvSpareAdd r tag s = .next t) : Within 33554300 s t :=
  runCmd_within (fun _ _ => RanWithin.step (Within.refl _ _) (cmdSurvSpareAdd_run ..) (by decide)) (fun _ _ => again_default _ rfl _ _ _) (by decide) e

theorem execSurvSpareRemove_within {r : RingId} {tag : BitVec 16} {s : State} {t : State} (e : execSurvSpareRemove r tag s = .next t) : Within 33554300 s t :=
  runCmd_within (fun _ _ => RanWithin.step (Within.refl _ _) (cmdSurvSpareRemove_run ..) (by decide)) (fun _ _ => again_default _ rfl _ _ _) (by decide) e

theorem execSurvReport_within {r : RingId} {tag : BitVec 16} {s : State} {t : State} (e : execSurvReport r tag s = .next t) : Within 33554300 s t :=
  runCmd_within (fun _ _ => RanWithin.step (Within.refl _ _) (cmdSurvReport_run ..) (by decide)) (fun _ _ => again_default _ rfl _ _ _) (by decide) e

theorem execSnapExport_within {r : RingId} {tag : BitVec 16} {s : State} {t : State} (e : execSnapExport r tag s = .next t) : Within 33554300 s t :=
  runCmd_within (fun _ _ => RanWithin.step (Within.refl _ _) (cmdSnapExport_run ..) (by decide)) (fun _ _ => again_default _ rfl _ _ _) (by decide) e

theorem execSnapImport_within {r : RingId} {tag : BitVec 16} {s : State} {t : State} (e : execSnapImport r tag s = .next t) : Within 33554300 s t :=
  runCmd_within (fun _ _ => RanWithin.step (Within.refl _ _) (cmdSnapImport_run ..) (by decide)) (fun _ _ => again_default _ rfl _ _ _) (by decide) e

theorem execSurvRestore_within {r : RingId} {tag : BitVec 16} {s : State} {t : State} (e : execSurvRestore r tag s = .next t) : Within 33554300 s t :=
  runCmd_within (fun _ _ => RanWithin.step (Within.refl _ _) (cmdSurvRestore_run ..) (by decide)) (fun _ _ => again_default _ rfl _ _ _) (by decide) e

end Sys2Proof.Machine
end

