-- ==== Sys2Proof/Laws/Rows/SyncCmd.lean ====
section
/-! SUPPORT. What the rows of Machine/SyncCmd.lean may touch: one lemma for each. -/

namespace Sys2Proof.Machine

open Sys2Proof

set_option linter.unusedTactic false
set_option linter.unreachableTactic false

theorem execSignalApply_within {n : Nat} {s : State} {t : State} (e : execSignalApply n s = .next t) : Within 33554300 s t := by
  unfold execSignalApply at e
  cases e
  repeat' (first
    | assumption
    | with_reducible (exact Within.refl _ _)
    | with_reducible refine signalApply_in ?_ (by decide)
    | split
    | dsimp only)

theorem execSyncInfo_within {r : RingId} {tag : BitVec 16} {s : State} {t : State} (e : execSyncInfo r tag s = .next t) : Within 33554300 s t :=
  runCmd_within (fun _ _ => RanWithin.step (Within.refl _ _) (cmdSyncInfo_run ..) (by decide)) (fun _ _ => again_default _ rfl _ _ _) (by decide) e

theorem execSyncHome_within {r : RingId} {tag : BitVec 16} {s : State} {t : State} (e : execSyncHome r tag s = .next t) : Within 33554300 s t :=
  runCmd_within (fun _ _ => RanWithin.step (Within.refl _ _) (cmdSyncHome_run ..) (by decide)) (fun _ _ => again_default _ rfl _ _ _) (by decide) e

theorem execSyncSet_within {r : RingId} {tag : BitVec 16} {s : State} {t : State} (e : execSyncSet r tag s = .next t) : Within 33554300 s t :=
  runCmd_within (fun _ _ => RanWithin.step (Within.refl _ _) (cmdSyncSet_run ..) (by decide)) (fun _ _ => again_default _ rfl _ _ _) (by decide) e

theorem execSyncSignal_within {r : RingId} {tag : BitVec 16} {s : State} {t : State} (e : execSyncSignal r tag s = .next t) : Within 33554300 s t :=
  runCmd_within (fun _ _ => RanWithin.step (Within.refl _ _) (cmdSyncSignal_run ..) (by decide)) (fun _ _ => again_default _ rfl _ _ _) (by decide) e

theorem execSyncDump_within {r : RingId} {tag : BitVec 16} {s : State} {t : State} (e : execSyncDump r tag s = .next t) : Within 33554300 s t :=
  runCmd_within (fun _ _ => RanWithin.step (Within.refl _ _) (cmdSyncDump_run ..) (by decide)) (fun _ _ => again_default _ rfl _ _ _) (by decide) e

theorem execSyncBalance_within {r : RingId} {tag : BitVec 16} {s : State} {t : State} (e : execSyncBalance r tag s = .next t) : Within 33554300 s t :=
  runCmd_within (fun _ _ => RanWithin.step (Within.refl _ _) (cmdSyncBalance_run ..) (by decide)) (fun _ _ => again_default _ rfl _ _ _) (by decide) e

end Sys2Proof.Machine
end

