-- ==== Sys2Proof/Laws/Rows/VirdyRows.lean ====
section
/-! SUPPORT. What the rows of Machine/VirdyRows.lean may touch: one lemma for each. -/

namespace Sys2Proof.Machine

open Sys2Proof

set_option linter.unusedTactic false
set_option linter.unreachableTactic false

theorem execMov_within {g : GroupId} {s : State} {t : State} (e : execMov g s = .next t) : Within 33554300 s t := by
  unfold execMov at e
  cases e
  repeat' (first
    | assumption
    | with_reducible (exact Within.refl _ _)
    | with_reducible refine issue_in ?_ (by decide)
    | split
    | dsimp only)

theorem execAdd_within {g : GroupId} {s : State} {t : State} (e : execAdd g s = .next t) : Within 33554300 s t := by
  unfold execAdd at e
  cases e
  repeat' (first
    | assumption
    | with_reducible (exact Within.refl _ _)
    | with_reducible refine issue_in ?_ (by decide)
    | split
    | dsimp only)

theorem execSub_within {g : GroupId} {s : State} {t : State} (e : execSub g s = .next t) : Within 33554300 s t := by
  unfold execSub at e
  cases e
  repeat' (first
    | assumption
    | with_reducible (exact Within.refl _ _)
    | with_reducible refine issue_in ?_ (by decide)
    | split
    | dsimp only)

theorem execMul_within {g : GroupId} {s : State} {t : State} (e : execMul g s = .next t) : Within 33554300 s t := by
  unfold execMul at e
  cases e
  repeat' (first
    | assumption
    | with_reducible (exact Within.refl _ _)
    | with_reducible refine issue_in ?_ (by decide)
    | split
    | dsimp only)

theorem execMulhi_within {g : GroupId} {s : State} {t : State} (e : execMulhi g s = .next t) : Within 33554300 s t := by
  unfold execMulhi at e
  cases e
  repeat' (first
    | assumption
    | with_reducible (exact Within.refl _ _)
    | with_reducible refine issue_in ?_ (by decide)
    | split
    | dsimp only)

theorem execMad_within {g : GroupId} {s : State} {t : State} (e : execMad g s = .next t) : Within 33554300 s t := by
  unfold execMad at e
  cases e
  repeat' (first
    | assumption
    | with_reducible (exact Within.refl _ _)
    | with_reducible refine issue_in ?_ (by decide)
    | split
    | dsimp only)

theorem execMin_within {g : GroupId} {s : State} {t : State} (e : execMin g s = .next t) : Within 33554300 s t := by
  unfold execMin at e
  cases e
  repeat' (first
    | assumption
    | with_reducible (exact Within.refl _ _)
    | with_reducible refine issue_in ?_ (by decide)
    | split
    | dsimp only)

theorem execMax_within {g : GroupId} {s : State} {t : State} (e : execMax g s = .next t) : Within 33554300 s t := by
  unfold execMax at e
  cases e
  repeat' (first
    | assumption
    | with_reducible (exact Within.refl _ _)
    | with_reducible refine issue_in ?_ (by decide)
    | split
    | dsimp only)

theorem execAnd_within {g : GroupId} {s : State} {t : State} (e : execAnd g s = .next t) : Within 33554300 s t := by
  unfold execAnd at e
  cases e
  repeat' (first
    | assumption
    | with_reducible (exact Within.refl _ _)
    | with_reducible refine issue_in ?_ (by decide)
    | split
    | dsimp only)

theorem execOr_within {g : GroupId} {s : State} {t : State} (e : execOr g s = .next t) : Within 33554300 s t := by
  unfold execOr at e
  cases e
  repeat' (first
    | assumption
    | with_reducible (exact Within.refl _ _)
    | with_reducible refine issue_in ?_ (by decide)
    | split
    | dsimp only)

theorem execXor_within {g : GroupId} {s : State} {t : State} (e : execXor g s = .next t) : Within 33554300 s t := by
  unfold execXor at e
  cases e
  repeat' (first
    | assumption
    | with_reducible (exact Within.refl _ _)
    | with_reducible refine issue_in ?_ (by decide)
    | split
    | dsimp only)

theorem execShl_within {g : GroupId} {s : State} {t : State} (e : execShl g s = .next t) : Within 33554300 s t := by
  unfold execShl at e
  cases e
  repeat' (first
    | assumption
    | with_reducible (exact Within.refl _ _)
    | with_reducible refine issue_in ?_ (by decide)
    | split
    | dsimp only)

theorem execShr_within {g : GroupId} {s : State} {t : State} (e : execShr g s = .next t) : Within 33554300 s t := by
  unfold execShr at e
  cases e
  repeat' (first
    | assumption
    | with_reducible (exact Within.refl _ _)
    | with_reducible refine issue_in ?_ (by decide)
    | split
    | dsimp only)

theorem execSar_within {g : GroupId} {s : State} {t : State} (e : execSar g s = .next t) : Within 33554300 s t := by
  unfold execSar at e
  cases e
  repeat' (first
    | assumption
    | with_reducible (exact Within.refl _ _)
    | with_reducible refine issue_in ?_ (by decide)
    | split
    | dsimp only)

theorem execPopc_within {g : GroupId} {s : State} {t : State} (e : execPopc g s = .next t) : Within 33554300 s t := by
  unfold execPopc at e
  cases e
  repeat' (first
    | assumption
    | with_reducible (exact Within.refl _ _)
    | with_reducible refine issue_in ?_ (by decide)
    | split
    | dsimp only)

theorem execClz_within {g : GroupId} {s : State} {t : State} (e : execClz g s = .next t) : Within 33554300 s t := by
  unfold execClz at e
  cases e
  repeat' (first
    | assumption
    | with_reducible (exact Within.refl _ _)
    | with_reducible refine issue_in ?_ (by decide)
    | split
    | dsimp only)

theorem execSel_within {g : GroupId} {s : State} {t : State} (e : execSel g s = .next t) : Within 33554300 s t := by
  unfold execSel at e
  cases e
  repeat' (first
    | assumption
    | with_reducible (exact Within.refl _ _)
    | with_reducible refine issue_in ?_ (by decide)
    | split
    | dsimp only)

theorem execRdlane_within {g : GroupId} {s : State} {t : State} (e : execRdlane g s = .next t) : Within 33554300 s t := by
  unfold execRdlane at e
  cases e
  repeat' (first
    | assumption
    | with_reducible (exact Within.refl _ _)
    | with_reducible refine issue_in ?_ (by decide)
    | split
    | dsimp only)

theorem execSreg_within {g : GroupId} {s : State} {t : State} (e : execSreg g s = .next t) : Within 33554300 s t := by
  unfold execSreg at e
  cases e
  repeat' (first
    | assumption
    | with_reducible (exact Within.refl _ _)
    | with_reducible refine issue_in ?_ (by decide)
    | split
    | dsimp only)

theorem execFadd_within {g : GroupId} {s : State} {t : State} (e : execFadd g s = .next t) : Within 33554300 s t := by
  unfold execFadd at e
  cases e
  repeat' (first
    | assumption
    | with_reducible (exact Within.refl _ _)
    | with_reducible refine issue_in ?_ (by decide)
    | split
    | dsimp only)

theorem execFsub_within {g : GroupId} {s : State} {t : State} (e : execFsub g s = .next t) : Within 33554300 s t := by
  unfold execFsub at e
  cases e
  repeat' (first
    | assumption
    | with_reducible (exact Within.refl _ _)
    | with_reducible refine issue_in ?_ (by decide)
    | split
    | dsimp only)

theorem execFmul_within {g : GroupId} {s : State} {t : State} (e : execFmul g s = .next t) : Within 33554300 s t := by
  unfold execFmul at e
  cases e
  repeat' (first
    | assumption
    | with_reducible (exact Within.refl _ _)
    | with_reducible refine issue_in ?_ (by decide)
    | split
    | dsimp only)

theorem execFfma_within {g : GroupId} {s : State} {t : State} (e : execFfma g s = .next t) : Within 33554300 s t := by
  unfold execFfma at e
  cases e
  repeat' (first
    | assumption
    | with_reducible (exact Within.refl _ _)
    | with_reducible refine issue_in ?_ (by decide)
    | split
    | dsimp only)

theorem execFmin_within {g : GroupId} {s : State} {t : State} (e : execFmin g s = .next t) : Within 33554300 s t := by
  unfold execFmin at e
  cases e
  repeat' (first
    | assumption
    | with_reducible (exact Within.refl _ _)
    | with_reducible refine issue_in ?_ (by decide)
    | split
    | dsimp only)

theorem execFmax_within {g : GroupId} {s : State} {t : State} (e : execFmax g s = .next t) : Within 33554300 s t := by
  unfold execFmax at e
  cases e
  repeat' (first
    | assumption
    | with_reducible (exact Within.refl _ _)
    | with_reducible refine issue_in ?_ (by decide)
    | split
    | dsimp only)

theorem execFabs_within {g : GroupId} {s : State} {t : State} (e : execFabs g s = .next t) : Within 33554300 s t := by
  unfold execFabs at e
  cases e
  repeat' (first
    | assumption
    | with_reducible (exact Within.refl _ _)
    | with_reducible refine issue_in ?_ (by decide)
    | split
    | dsimp only)

theorem execFneg_within {g : GroupId} {s : State} {t : State} (e : execFneg g s = .next t) : Within 33554300 s t := by
  unfold execFneg at e
  cases e
  repeat' (first
    | assumption
    | with_reducible (exact Within.refl _ _)
    | with_reducible refine issue_in ?_ (by decide)
    | split
    | dsimp only)

theorem execRcp_within {g : GroupId} {s : State} {t : State} (e : execRcp g s = .next t) : Within 33554300 s t := by
  unfold execRcp at e
  cases e
  repeat' (first
    | assumption
    | with_reducible (exact Within.refl _ _)
    | with_reducible refine issue_in ?_ (by decide)
    | split
    | dsimp only)

theorem execRsq_within {g : GroupId} {s : State} {t : State} (e : execRsq g s = .next t) : Within 33554300 s t := by
  unfold execRsq at e
  cases e
  repeat' (first
    | assumption
    | with_reducible (exact Within.refl _ _)
    | with_reducible refine issue_in ?_ (by decide)
    | split
    | dsimp only)

theorem execSqrt_within {g : GroupId} {s : State} {t : State} (e : execSqrt g s = .next t) : Within 33554300 s t := by
  unfold execSqrt at e
  cases e
  repeat' (first
    | assumption
    | with_reducible (exact Within.refl _ _)
    | with_reducible refine issue_in ?_ (by decide)
    | split
    | dsimp only)

theorem execExp2_within {g : GroupId} {s : State} {t : State} (e : execExp2 g s = .next t) : Within 33554300 s t := by
  unfold execExp2 at e
  cases e
  repeat' (first
    | assumption
    | with_reducible (exact Within.refl _ _)
    | with_reducible refine issue_in ?_ (by decide)
    | split
    | dsimp only)

theorem execLog2_within {g : GroupId} {s : State} {t : State} (e : execLog2 g s = .next t) : Within 33554300 s t := by
  unfold execLog2 at e
  cases e
  repeat' (first
    | assumption
    | with_reducible (exact Within.refl _ _)
    | with_reducible refine issue_in ?_ (by decide)
    | split
    | dsimp only)

theorem execCvtRne_within {g : GroupId} {s : State} {t : State} (e : execCvtRne g s = .next t) : Within 33554300 s t := by
  unfold execCvtRne at e
  cases e
  repeat' (first
    | assumption
    | with_reducible (exact Within.refl _ _)
    | with_reducible refine issue_in ?_ (by decide)
    | split
    | dsimp only)

theorem execCvtRtz_within {g : GroupId} {s : State} {t : State} (e : execCvtRtz g s = .next t) : Within 33554300 s t := by
  unfold execCvtRtz at e
  cases e
  repeat' (first
    | assumption
    | with_reducible (exact Within.refl _ _)
    | with_reducible refine issue_in ?_ (by decide)
    | split
    | dsimp only)

theorem execCvtSr_within {g : GroupId} {s : State} {t : State} (e : execCvtSr g s = .next t) : Within 33554300 s t := by
  unfold execCvtSr at e
  cases e
  repeat' (first
    | assumption
    | with_reducible (exact Within.refl _ _)
    | with_reducible refine issue_in ?_ (by decide)
    | split
    | dsimp only)

theorem execIsetp_within {g : GroupId} {s : State} {t : State} (e : execIsetp g s = .next t) : Within 33554300 s t := by
  unfold execIsetp at e
  cases e
  repeat' (first
    | assumption
    | with_reducible (exact Within.refl _ _)
    | with_reducible refine issue_in ?_ (by decide)
    | split
    | dsimp only)

theorem execFsetp_within {g : GroupId} {s : State} {t : State} (e : execFsetp g s = .next t) : Within 33554300 s t := by
  unfold execFsetp at e
  cases e
  repeat' (first
    | assumption
    | with_reducible (exact Within.refl _ _)
    | with_reducible refine issue_in ?_ (by decide)
    | split
    | dsimp only)

theorem execPand_within {g : GroupId} {s : State} {t : State} (e : execPand g s = .next t) : Within 33554300 s t := by
  unfold execPand at e
  cases e
  repeat' (first
    | assumption
    | with_reducible (exact Within.refl _ _)
    | with_reducible refine issue_in ?_ (by decide)
    | split
    | dsimp only)

theorem execPor_within {g : GroupId} {s : State} {t : State} (e : execPor g s = .next t) : Within 33554300 s t := by
  unfold execPor at e
  cases e
  repeat' (first
    | assumption
    | with_reducible (exact Within.refl _ _)
    | with_reducible refine issue_in ?_ (by decide)
    | split
    | dsimp only)

theorem execPxor_within {g : GroupId} {s : State} {t : State} (e : execPxor g s = .next t) : Within 33554300 s t := by
  unfold execPxor at e
  cases e
  repeat' (first
    | assumption
    | with_reducible (exact Within.refl _ _)
    | with_reducible refine issue_in ?_ (by decide)
    | split
    | dsimp only)

theorem execPnot_within {g : GroupId} {s : State} {t : State} (e : execPnot g s = .next t) : Within 33554300 s t := by
  unfold execPnot at e
  cases e
  repeat' (first
    | assumption
    | with_reducible (exact Within.refl _ _)
    | with_reducible refine issue_in ?_ (by decide)
    | split
    | dsimp only)

theorem execBallot_within {g : GroupId} {s : State} {t : State} (e : execBallot g s = .next t) : Within 33554300 s t := by
  unfold execBallot at e
  cases e
  repeat' (first
    | assumption
    | with_reducible (exact Within.refl _ _)
    | with_reducible refine issue_in ?_ (by decide)
    | split
    | dsimp only)

theorem execBra_within {g : GroupId} {s : State} {t : State} (e : execBra g s = .next t) : Within 33554300 s t := by
  unfold execBra at e
  cases e
  repeat' (first
    | assumption
    | with_reducible (exact Within.refl _ _)
    | with_reducible refine issue_in ?_ (by decide)
    | split
    | dsimp only)

theorem execBrx_within {g : GroupId} {s : State} {t : State} (e : execBrx g s = .next t) : Within 33554300 s t := by
  unfold execBrx at e
  cases e
  repeat' (first
    | assumption
    | with_reducible (exact Within.refl _ _)
    | with_reducible refine issue_in ?_ (by decide)
    | split
    | dsimp only)

theorem execCall_within {g : GroupId} {s : State} {t : State} (e : execCall g s = .next t) : Within 33554300 s t := by
  unfold execCall at e
  cases e
  repeat' (first
    | assumption
    | with_reducible (exact Within.refl _ _)
    | with_reducible refine issue_in ?_ (by decide)
    | split
    | dsimp only)

theorem execRet_within {g : GroupId} {s : State} {t : State} (e : execRet g s = .next t) : Within 33554300 s t := by
  unfold execRet at e
  cases e
  repeat' (first
    | assumption
    | with_reducible (exact Within.refl _ _)
    | with_reducible refine issue_in ?_ (by decide)
    | split
    | dsimp only)

theorem execExit_within {g : GroupId} {s : State} {t : State} (e : execExit g s = .next t) : Within 33554300 s t := by
  unfold execExit at e
  cases e
  repeat' (first
    | assumption
    | with_reducible (exact Within.refl _ _)
    | with_reducible refine issue_in ?_ (by decide)
    | split
    | dsimp only)

theorem execConv_within {g : GroupId} {s : State} {t : State} (e : execConv g s = .next t) : Within 33554300 s t := by
  unfold execConv at e
  cases e
  repeat' (first
    | assumption
    | with_reducible (exact Within.refl _ _)
    | with_reducible refine issue_in ?_ (by decide)
    | split
    | dsimp only)

theorem execBar_within {g : GroupId} {s : State} {t : State} (e : execBar g s = .next t) : Within 33554300 s t := by
  unfold execBar at e
  cases e
  repeat' (first
    | assumption
    | with_reducible (exact Within.refl _ _)
    | with_reducible refine issue_in ?_ (by decide)
    | split
    | dsimp only)

theorem execActmask_within {g : GroupId} {s : State} {t : State} (e : execActmask g s = .next t) : Within 33554300 s t := by
  unfold execActmask at e
  cases e
  repeat' (first
    | assumption
    | with_reducible (exact Within.refl _ _)
    | with_reducible refine issue_in ?_ (by decide)
    | split
    | dsimp only)

theorem execVirdyNop_within {g : GroupId} {s : State} {t : State} (e : execVirdyNop g s = .next t) : Within 33554300 s t := by
  unfold execVirdyNop at e
  cases e
  repeat' (first
    | assumption
    | with_reducible (exact Within.refl _ _)
    | with_reducible refine issue_in ?_ (by decide)
    | split
    | dsimp only)

theorem execLd_within {g : GroupId} {s : State} {t : State} (e : execLd g s = .next t) : Within 33554300 s t := by
  unfold execLd at e
  cases e
  repeat' (first
    | assumption
    | with_reducible (exact Within.refl _ _)
    | with_reducible refine issue_in ?_ (by decide)
    | split
    | dsimp only)

theorem execSt_within {g : GroupId} {s : State} {t : State} (e : execSt g s = .next t) : Within 33554300 s t := by
  unfold execSt at e
  cases e
  repeat' (first
    | assumption
    | with_reducible (exact Within.refl _ _)
    | with_reducible refine issue_in ?_ (by decide)
    | split
    | dsimp only)

theorem execFence_within {g : GroupId} {s : State} {t : State} (e : execFence g s = .next t) : Within 33554300 s t := by
  unfold execFence at e
  cases e
  repeat' (first
    | assumption
    | with_reducible (exact Within.refl _ _)
    | with_reducible refine issue_in ?_ (by decide)
    | split
    | dsimp only)

theorem execDma_within {g : GroupId} {s : State} {t : State} (e : execDma g s = .next t) : Within 33554300 s t := by
  unfold execDma at e
  cases e
  repeat' (first
    | assumption
    | with_reducible (exact Within.refl _ _)
    | with_reducible refine issue_in ?_ (by decide)
    | split
    | dsimp only)

theorem execAtomAdd_within {g : GroupId} {s : State} {t : State} (e : execAtomAdd g s = .next t) : Within 33554300 s t := by
  unfold execAtomAdd at e
  cases e
  repeat' (first
    | assumption
    | with_reducible (exact Within.refl _ _)
    | with_reducible refine issue_in ?_ (by decide)
    | split
    | dsimp only)

theorem execAtomMin_within {g : GroupId} {s : State} {t : State} (e : execAtomMin g s = .next t) : Within 33554300 s t := by
  unfold execAtomMin at e
  cases e
  repeat' (first
    | assumption
    | with_reducible (exact Within.refl _ _)
    | with_reducible refine issue_in ?_ (by decide)
    | split
    | dsimp only)

theorem execAtomMax_within {g : GroupId} {s : State} {t : State} (e : execAtomMax g s = .next t) : Within 33554300 s t := by
  unfold execAtomMax at e
  cases e
  repeat' (first
    | assumption
    | with_reducible (exact Within.refl _ _)
    | with_reducible refine issue_in ?_ (by decide)
    | split
    | dsimp only)

theorem execAtomAnd_within {g : GroupId} {s : State} {t : State} (e : execAtomAnd g s = .next t) : Within 33554300 s t := by
  unfold execAtomAnd at e
  cases e
  repeat' (first
    | assumption
    | with_reducible (exact Within.refl _ _)
    | with_reducible refine issue_in ?_ (by decide)
    | split
    | dsimp only)

theorem execAtomOr_within {g : GroupId} {s : State} {t : State} (e : execAtomOr g s = .next t) : Within 33554300 s t := by
  unfold execAtomOr at e
  cases e
  repeat' (first
    | assumption
    | with_reducible (exact Within.refl _ _)
    | with_reducible refine issue_in ?_ (by decide)
    | split
    | dsimp only)

theorem execAtomXor_within {g : GroupId} {s : State} {t : State} (e : execAtomXor g s = .next t) : Within 33554300 s t := by
  unfold execAtomXor at e
  cases e
  repeat' (first
    | assumption
    | with_reducible (exact Within.refl _ _)
    | with_reducible refine issue_in ?_ (by decide)
    | split
    | dsimp only)

theorem execAtomXchg_within {g : GroupId} {s : State} {t : State} (e : execAtomXchg g s = .next t) : Within 33554300 s t := by
  unfold execAtomXchg at e
  cases e
  repeat' (first
    | assumption
    | with_reducible (exact Within.refl _ _)
    | with_reducible refine issue_in ?_ (by decide)
    | split
    | dsimp only)

theorem execAtomCas_within {g : GroupId} {s : State} {t : State} (e : execAtomCas g s = .next t) : Within 33554300 s t := by
  unfold execAtomCas at e
  cases e
  repeat' (first
    | assumption
    | with_reducible (exact Within.refl _ _)
    | with_reducible refine issue_in ?_ (by decide)
    | split
    | dsimp only)

theorem execMcfg_within {g : GroupId} {s : State} {t : State} (e : execMcfg g s = .next t) : Within 33554300 s t := by
  unfold execMcfg at e
  cases e
  repeat' (first
    | assumption
    | with_reducible (exact Within.refl _ _)
    | with_reducible refine issue_in ?_ (by decide)
    | split
    | dsimp only)

theorem execMload_within {g : GroupId} {s : State} {t : State} (e : execMload g s = .next t) : Within 33554300 s t := by
  unfold execMload at e
  cases e
  repeat' (first
    | assumption
    | with_reducible (exact Within.refl _ _)
    | with_reducible refine issue_in ?_ (by decide)
    | split
    | dsimp only)

theorem execMmul_within {g : GroupId} {s : State} {t : State} (e : execMmul g s = .next t) : Within 33554300 s t := by
  unfold execMmul at e
  cases e
  repeat' (first
    | assumption
    | with_reducible (exact Within.refl _ _)
    | with_reducible refine issue_in ?_ (by decide)
    | split
    | dsimp only)

theorem execMfill_within {g : GroupId} {s : State} {t : State} (e : execMfill g s = .next t) : Within 33554300 s t := by
  unfold execMfill at e
  cases e
  repeat' (first
    | assumption
    | with_reducible (exact Within.refl _ _)
    | with_reducible refine issue_in ?_ (by decide)
    | split
    | dsimp only)

theorem execMadapt_within {g : GroupId} {s : State} {t : State} (e : execMadapt g s = .next t) : Within 33554300 s t := by
  unfold execMadapt at e
  cases e
  repeat' (first
    | assumption
    | with_reducible (exact Within.refl _ _)
    | with_reducible refine issue_in ?_ (by decide)
    | split
    | dsimp only)

theorem execMdrain_within {g : GroupId} {s : State} {t : State} (e : execMdrain g s = .next t) : Within 33554300 s t := by
  unfold execMdrain at e
  cases e
  repeat' (first
    | assumption
    | with_reducible (exact Within.refl _ _)
    | with_reducible refine issue_in ?_ (by decide)
    | split
    | dsimp only)

theorem execStreamIssue_within {g : GroupId} {s : State} {t : State} (e : execStreamIssue g s = .next t) : Within 33554300 s t := by
  unfold execStreamIssue at e
  cases e
  repeat' (first
    | assumption
    | with_reducible (exact Within.refl _ _)
    | with_reducible refine issue_in ?_ (by decide)
    | split
    | dsimp only)

theorem execSigAdd_within {g : GroupId} {s : State} {t : State} (e : execSigAdd g s = .next t) : Within 33554300 s t := by
  unfold execSigAdd at e
  cases e
  repeat' (first
    | assumption
    | with_reducible (exact Within.refl _ _)
    | with_reducible refine issue_in ?_ (by decide)
    | split
    | dsimp only)

theorem execSigSet_within {g : GroupId} {s : State} {t : State} (e : execSigSet g s = .next t) : Within 33554300 s t := by
  unfold execSigSet at e
  cases e
  repeat' (first
    | assumption
    | with_reducible (exact Within.refl _ _)
    | with_reducible refine issue_in ?_ (by decide)
    | split
    | dsimp only)

theorem execWaitGe_within {g : GroupId} {s : State} {t : State} (e : execWaitGe g s = .next t) : Within 33554300 s t := by
  unfold execWaitGe at e
  cases e
  repeat' (first
    | assumption
    | with_reducible (exact Within.refl _ _)
    | with_reducible refine issue_in ?_ (by decide)
    | split
    | dsimp only)

theorem execWaitTake_within {g : GroupId} {s : State} {t : State} (e : execWaitTake g s = .next t) : Within 33554300 s t := by
  unfold execWaitTake at e
  cases e
  repeat' (first
    | assumption
    | with_reducible (exact Within.refl _ _)
    | with_reducible refine issue_in ?_ (by decide)
    | split
    | dsimp only)

theorem execPut_within {g : GroupId} {s : State} {t : State} (e : execPut g s = .next t) : Within 33554300 s t := by
  unfold execPut at e
  cases e
  repeat' (first
    | assumption
    | with_reducible (exact Within.refl _ _)
    | with_reducible refine issue_in ?_ (by decide)
    | split
    | dsimp only)

theorem execGet_within {g : GroupId} {s : State} {t : State} (e : execGet g s = .next t) : Within 33554300 s t := by
  unfold execGet at e
  cases e
  repeat' (first
    | assumption
    | with_reducible (exact Within.refl _ _)
    | with_reducible refine issue_in ?_ (by decide)
    | split
    | dsimp only)

theorem execAcc_within {g : GroupId} {s : State} {t : State} (e : execAcc g s = .next t) : Within 33554300 s t := by
  unfold execAcc at e
  cases e
  repeat' (first
    | assumption
    | with_reducible (exact Within.refl _ _)
    | with_reducible refine issue_in ?_ (by decide)
    | split
    | dsimp only)

theorem execColl_within {g : GroupId} {s : State} {t : State} (e : execColl g s = .next t) : Within 33554300 s t := by
  unfold execColl at e
  cases e
  repeat' (first
    | assumption
    | with_reducible (exact Within.refl _ _)
    | with_reducible refine issue_in ?_ (by decide)
    | split
    | dsimp only)

theorem execFlagrd_within {g : GroupId} {s : State} {t : State} (e : execFlagrd g s = .next t) : Within 33554300 s t := by
  unfold execFlagrd at e
  cases e
  repeat' (first
    | assumption
    | with_reducible (exact Within.refl _ _)
    | with_reducible refine issue_in ?_ (by decide)
    | split
    | dsimp only)

theorem execFlagclr_within {g : GroupId} {s : State} {t : State} (e : execFlagclr g s = .next t) : Within 33554300 s t := by
  unfold execFlagclr at e
  cases e
  repeat' (first
    | assumption
    | with_reducible (exact Within.refl _ _)
    | with_reducible refine issue_in ?_ (by decide)
    | split
    | dsimp only)

theorem execScrd_within {g : GroupId} {s : State} {t : State} (e : execScrd g s = .next t) : Within 33554300 s t := by
  unfold execScrd at e
  cases e
  repeat' (first
    | assumption
    | with_reducible (exact Within.refl _ _)
    | with_reducible refine issue_in ?_ (by decide)
    | split
    | dsimp only)

theorem execScwr_within {g : GroupId} {s : State} {t : State} (e : execScwr g s = .next t) : Within 33554300 s t := by
  unfold execScwr at e
  cases e
  repeat' (first
    | assumption
    | with_reducible (exact Within.refl _ _)
    | with_reducible refine issue_in ?_ (by decide)
    | split
    | dsimp only)

theorem execBrk_within {g : GroupId} {s : State} {t : State} (e : execBrk g s = .next t) : Within 33554300 s t := by
  unfold execBrk at e
  cases e
  repeat' (first
    | assumption
    | with_reducible (exact Within.refl _ _)
    | with_reducible refine issue_in ?_ (by decide)
    | split
    | dsimp only)

theorem execReservedInstruction_within {g : GroupId} {s : State} {t : State} (e : execReservedInstruction g s = .next t) : Within 33554300 s t := by
  unfold execReservedInstruction at e
  cases e
  repeat' (first
    | assumption
    | with_reducible (exact Within.refl _ _)
    | with_reducible refine issue_in ?_ (by decide)
    | split
    | dsimp only)

theorem execForcedRelease_within {g : GroupId} {s : State} {t : State} (e : execForcedRelease g s = .next t) : Within 33554300 s t := by
  unfold execForcedRelease at e
  cases e
  repeat' (first
    | assumption
    | with_reducible (exact Within.refl _ _)
    | with_reducible refine forcedRelease_in ?_ (by decide)
    | split
    | dsimp only)

theorem execBarrierStarved_within {cluster block barrier : Nat} {s : State} {t : State} (e : execBarrierStarved cluster block barrier s = .next t) : Within 33554300 s t := by
  unfold execBarrierStarved at e
  cases e
  repeat' (first
    | assumption
    | with_reducible (exact Within.refl _ _)
    | with_reducible refine barrierStarved_in ?_ (by decide)
    | split
    | dsimp only)

theorem execLoadReturn_within {g : GroupId} {n : Nat} {s : State} {t : State} (e : execLoadReturn g n s = .next t) : Within 33554300 s t := by
  unfold execLoadReturn at e
  cases e
  repeat' (first
    | assumption
    | with_reducible (exact Within.refl _ _)
    | with_reducible refine loadReturn_in ?_ (by decide)
    | split
    | dsimp only)

theorem execDmaStart_within {cluster : Nat} {s : State} {t : State} (e : execDmaStart cluster s = .next t) : Within 33554300 s t := by
  unfold execDmaStart at e
  cases e
  repeat' (first
    | assumption
    | with_reducible (exact Within.refl _ _)
    | with_reducible refine dmaStart_in ?_ (by decide)
    | split
    | dsimp only)

theorem execMatrixDequeue_within {cluster : Nat} {s : State} {t : State} (e : execMatrixDequeue cluster s = .next t) : Within 33554300 s t := by
  unfold execMatrixDequeue at e
  cases e
  repeat' (first
    | assumption
    | with_reducible (exact Within.refl _ _)
    | with_reducible refine matrixDequeue_in ?_ (by decide)
    | split
    | dsimp only)

theorem execFillTimeout_within {cluster n : Nat} {s : State} {t : State} (e : execFillTimeout cluster n s = .next t) : Within 33554300 s t := by
  unfold execFillTimeout at e
  cases e
  repeat' (first
    | assumption
    | with_reducible (exact Within.refl _ _)
    | with_reducible refine fillTimeout_in ?_ (by decide)
    | split
    | dsimp only)

theorem execMdrainReadStart_within {cluster n : Nat} {s : State} {t : State} (e : execMdrainReadStart cluster n s = .next t) : Within 33554300 s t := by
  unfold execMdrainReadStart at e
  cases e
  repeat' (first
    | assumption
    | with_reducible (exact Within.refl _ _)
    | with_reducible refine drainStart_in ?_ (by decide)
    | split
    | dsimp only)

theorem execShadowRecompute_within {cluster : Nat} {s : State} {t : State} (e : execShadowRecompute cluster s = .next t) : Within 33554300 s t := by
  unfold execShadowRecompute at e
  cases e
  repeat' (first
    | assumption
    | with_reducible (exact Within.refl _ _)
    | with_reducible refine shadowRecompute_in ?_ (by decide)
    | split
    | dsimp only)

theorem execStreamDescriptorRead_within {cluster : Nat} {s : State} {t : State} (e : execStreamDescriptorRead cluster s = .next t) : Within 33554300 s t := by
  unfold execStreamDescriptorRead at e
  cases e
  repeat' (first
    | assumption
    | with_reducible (exact Within.refl _ _)
    | with_reducible refine streamDescriptorRead_in ?_ (by decide)
    | split
    | dsimp only)

theorem execStreamCommandStart_within {cluster : Nat} {s : State} {t : State} (e : execStreamCommandStart cluster s = .next t) : Within 33554300 s t := by
  unfold execStreamCommandStart at e
  cases e
  repeat' (first
    | assumption
    | with_reducible (exact Within.refl _ _)
    | with_reducible refine streamCommandStart_in ?_ (by decide)
    | split
    | dsimp only)

theorem execEngineCompletion_within {cluster : Nat} {e : Engine} {s : State} {t : State} (e : execEngineCompletion cluster e s = .next t) : Within 33554300 s t := by
  unfold execEngineCompletion at e
  cases e
  repeat' (first
    | assumption
    | with_reducible (exact Within.refl _ _)
    | with_reducible refine engineCompletion_in ?_ (by decide)
    | split
    | dsimp only)

theorem execWaitArrive_within {n : Nat} {s : State} {t : State} (e : execWaitArrive n s = .next t) : Within 33554300 s t := by
  unfold execWaitArrive at e
  cases e
  repeat' (first
    | assumption
    | with_reducible (exact Within.refl _ _)
    | with_reducible refine State.setSync_in ?_ (by decide)
    | with_reducible refine presentWait_in ?_ (by decide)
    | split
    | dsimp only)

theorem execWaitRepresent_within {n : Nat} {s : State} {t : State} (e : execWaitRepresent n s = .next t) : Within 33554300 s t := by
  unfold execWaitRepresent at e
  cases e
  repeat' (first
    | assumption
    | with_reducible (exact Within.refl _ _)
    | with_reducible refine State.setSync_in ?_ (by decide)
    | with_reducible refine presentWait_in ?_ (by decide)
    | split
    | dsimp only)

theorem execQueuedWaitHead_within {cluster : Nat} {q : WaitQueue} {s : State} {t : State} (e : execQueuedWaitHead cluster q s = .next t) : Within 33554300 s t := by
  unfold execQueuedWaitHead at e
  cases e
  repeat' (first
    | assumption
    | with_reducible (exact Within.refl _ _)
    | with_reducible refine queuedWaitHead_in ?_ (by decide)
    | split
    | dsimp only)

end Sys2Proof.Machine
end

