-- ==== Sys2Proof/Laws/Rows.lean ====
section
/-! SUPPORT. What any command may touch. -/

namespace Sys2Proof.Machine

open Sys2Proof

/-- No command touches the queue, the part or the host's failures; memory and host memory keep their form; the anti-rollback count does not fall. -/
theorem exec_within {c : Instr} {s t : State} (e : exec c s = .next t) : Within 33554300 s t := by
  cases c with
  | ringEnable => exact execRingEnable_within e
  | ringDisable => exact execRingDisable_within e
  | ringConfigWrite => exact execRingConfigWrite_within e
  | ringBaseWrite => exact execRingBaseWrite_within e
  | lmbDoorbell => exact execLmbDoorbell_within e
  | bar0LowRead => exact execBar0LowRead_within e
  | registerWrite => exact execRegisterWrite_within e
  | ringStopComplete => exact execRingStopComplete_within e
  | completionDeferred => exact execCompletionDeferred_within e
  | commandTimeout => exact execCommandTimeout_within e
  | functionLevelReset => exact execFunctionLevelReset_within e
  | nop => exact execNop_within e
  | identify => exact execIdentify_within e
  | fwStage => exact execFwStage_within e
  | fwCommit => exact execFwCommit_within e
  | fwActivate => exact execFwActivate_within e
  | eventGet => exact execEventGet_within e
  | cmdAbort => exact execCmdAbort_within e
  | moduleReset => exact execModuleReset_within e
  | surveyStart => exact execSurveyStart_within e
  | surveyStatus => exact execSurveyStatus_within e
  | detach => exact execDetach_within e
  | attach => exact execAttach_within e
  | lanternSwitch => exact execLanternSwitch_within e
  | surveyAccept => exact execSurveyAccept_within e
  | tlmList => exact execTlmList_within e
  | tlmRead => exact execTlmRead_within e
  | tlmSampleCfg => exact execTlmSampleCfg_within e
  | telemetrySample => exact execTelemetrySample_within e
  | loadWindow => exact execLoadWindow_within e
  | lanternHeartbeatMiss => exact execLanternHeartbeatMiss_within e
  | bootComplete => exact execBootComplete_within e
  | bootWatchdog => exact execBootWatchdog_within e
  | enum => exact execEnum_within e
  | healthReq => exact execHealthReq_within e
  | powerOn => exact execPowerOn_within e
  | powerOff => exact execPowerOff_within e
  | stop => exact execStop_within e
  | reset => exact execReset_within e
  | recovery => exact execRecovery_within e
  | rescueData => exact execRescueData_within e
  | chainFrameOther => exact execChainFrameOther_within e
  | mov => exact execMov_within e
  | add => exact execAdd_within e
  | sub => exact execSub_within e
  | mul => exact execMul_within e
  | mulhi => exact execMulhi_within e
  | mad => exact execMad_within e
  | min => exact execMin_within e
  | max => exact execMax_within e
  | and => exact execAnd_within e
  | or => exact execOr_within e
  | xor => exact execXor_within e
  | shl => exact execShl_within e
  | shr => exact execShr_within e
  | sar => exact execSar_within e
  | popc => exact execPopc_within e
  | clz => exact execClz_within e
  | sel => exact execSel_within e
  | rdlane => exact execRdlane_within e
  | sreg => exact execSreg_within e
  | fadd => exact execFadd_within e
  | fsub => exact execFsub_within e
  | fmul => exact execFmul_within e
  | ffma => exact execFfma_within e
  | fmin => exact execFmin_within e
  | fmax => exact execFmax_within e
  | fabs => exact execFabs_within e
  | fneg => exact execFneg_within e
  | rcp => exact execRcp_within e
  | rsq => exact execRsq_within e
  | sqrt => exact execSqrt_within e
  | exp2 => exact execExp2_within e
  | log2 => exact execLog2_within e
  | cvtRne => exact execCvtRne_within e
  | cvtRtz => exact execCvtRtz_within e
  | cvtSr => exact execCvtSr_within e
  | isetp => exact execIsetp_within e
  | fsetp => exact execFsetp_within e
  | pand => exact execPand_within e
  | por => exact execPor_within e
  | pxor => exact execPxor_within e
  | pnot => exact execPnot_within e
  | ballot => exact execBallot_within e
  | bra => exact execBra_within e
  | brx => exact execBrx_within e
  | call => exact execCall_within e
  | ret => exact execRet_within e
  | exit => exact execExit_within e
  | conv => exact execConv_within e
  | forcedRelease => exact execForcedRelease_within e
  | bar => exact execBar_within e
  | barrierStarved => exact execBarrierStarved_within e
  | actmask => exact execActmask_within e
  | virdyNop => exact execVirdyNop_within e
  | ld => exact execLd_within e
  | loadReturn => exact execLoadReturn_within e
  | st => exact execSt_within e
  | fence => exact execFence_within e
  | dma => exact execDma_within e
  | dmaStart => exact execDmaStart_within e
  | atomAdd => exact execAtomAdd_within e
  | atomMin => exact execAtomMin_within e
  | atomMax => exact execAtomMax_within e
  | atomAnd => exact execAtomAnd_within e
  | atomOr => exact execAtomOr_within e
  | atomXor => exact execAtomXor_within e
  | atomXchg => exact execAtomXchg_within e
  | atomCas => exact execAtomCas_within e
  | mcfg => exact execMcfg_within e
  | mload => exact execMload_within e
  | mmul => exact execMmul_within e
  | mfill => exact execMfill_within e
  | madapt => exact execMadapt_within e
  | mdrain => exact execMdrain_within e
  | matrixDequeue => exact execMatrixDequeue_within e
  | fillTimeout => exact execFillTimeout_within e
  | mdrainReadStart => exact execMdrainReadStart_within e
  | shadowRecompute => exact execShadowRecompute_within e
  | streamIssue => exact execStreamIssue_within e
  | streamDescriptorRead => exact execStreamDescriptorRead_within e
  | streamCommandStart => exact execStreamCommandStart_within e
  | engineCompletion => exact execEngineCompletion_within e
  | sigAdd => exact execSigAdd_within e
  | sigSet => exact execSigSet_within e
  | waitGe => exact execWaitGe_within e
  | waitTake => exact execWaitTake_within e
  | signalApply => exact execSignalApply_within e
  | waitArrive => exact execWaitArrive_within e
  | waitRepresent => exact execWaitRepresent_within e
  | queuedWaitHead => exact execQueuedWaitHead_within e
  | put => exact execPut_within e
  | get => exact execGet_within e
  | acc => exact execAcc_within e
  | coll => exact execColl_within e
  | collectiveStart => exact execCollectiveStart_within e
  | flagrd => exact execFlagrd_within e
  | flagclr => exact execFlagclr_within e
  | scrd => exact execScrd_within e
  | scwr => exact execScwr_within e
  | brk => exact execBrk_within e
  | sendQueueSend => exact execSendQueueSend_within e
  | ackTimeout => exact execAckTimeout_within e
  | flitReceive => exact execFlitReceive_within e
  | replayTimeout => exact execReplayTimeout_within e
  | haltFlit => exact execHaltFlit_within e
  | linkSignalDetect => exact execLinkSignalDetect_within e
  | linkNosignal => exact execLinkNosignal_within e
  | equaliseDone => exact execEqualiseDone_within e
  | alignDone => exact execAlignDone_within e
  | trainTimeout => exact execTrainTimeout_within e
  | exchange => exact execExchange_within e
  | retrainEntry => exact execRetrainEntry_within e
  | realignDone => exact execRealignDone_within e
  | retrainFail => exact execRetrainFail_within e
  | downTimeout => exact execDownTimeout_within e
  | putPacket => exact execPutPacket_within e
  | getReq => exact execGetReq_within e
  | getData => exact execGetData_within e
  | accPacket => exact execAccPacket_within e
  | signalPacket => exact execSignalPacket_within e
  | atomicReq => exact execAtomicReq_within e
  | atomicRsp => exact execAtomicRsp_within e
  | reduceChunk => exact execReduceChunk_within e
  | permutePacket => exact execPermutePacket_within e
  | fabricAck => exact execFabricAck_within e
  | surveyProbe => exact execSurveyProbe_within e
  | failover => exact execFailover_within e
  | fabInfo => exact execFabInfo_within e
  | fabLink => exact execFabLink_within e
  | fabRoute => exact execFabRoute_within e
  | fabHalt => exact execFabHalt_within e
  | fabInject => exact execFabInject_within e
  | fabCfg => exact execFabCfg_within e
  | dbgAttach => exact execDbgAttach_within e
  | dbgDetach => exact execDbgDetach_within e
  | dbgHalt => exact execDbgHalt_within e
  | dbgResume => exact execDbgResume_within e
  | dbgStep => exact execDbgStep_within e
  | dbgRead => exact execDbgRead_within e
  | dbgWrite => exact execDbgWrite_within e
  | dbgBpSet => exact execDbgBpSet_within e
  | dbgWpSet => exact execDbgWpSet_within e
  | dbgKill => exact execDbgKill_within e
  | dbgStatus => exact execDbgStatus_within e
  | memInfo => exact execMemInfo_within e
  | memMap => exact execMemMap_within e
  | memUnmap => exact execMemUnmap_within e
  | memHostCopy => exact execMemHostCopy_within e
  | memPoisonList => exact execMemPoisonList_within e
  | memThermalCfg => exact execMemThermalCfg_within e
  | memScrubCfg => exact execMemScrubCfg_within e
  | memSharedAlloc => exact execMemSharedAlloc_within e
  | memInject => exact execMemInject_within e
  | spPatrolScrub => exact execSpPatrolScrub_within e
  | stackPatrolScrub => exact execStackPatrolScrub_within e
  | stackTempReading => exact execStackTempReading_within e
  | sharedUncorrectableRead => exact execSharedUncorrectableRead_within e
  | sharedRepairDone => exact execSharedRepairDone_within e
  | sharedRepairTimeout => exact execSharedRepairTimeout_within e
  | syncInfo => exact execSyncInfo_within e
  | syncHome => exact execSyncHome_within e
  | syncSet => exact execSyncSet_within e
  | syncSignal => exact execSyncSignal_within e
  | syncDump => exact execSyncDump_within e
  | syncBalance => exact execSyncBalance_within e
  | numCfg => exact execNumCfg_within e
  | numCensusReg => exact execNumCensusReg_within e
  | numCensusTag => exact execNumCensusTag_within e
  | numCensusState => exact execNumCensusState_within e
  | numFlags => exact execNumFlags_within e
  | numRecover => exact execNumRecover_within e
  | ctxLoad => exact execCtxLoad_within e
  | ctxLaunch => exact execCtxLaunch_within e
  | ctxClose => exact execCtxClose_within e
  | ctxStatus => exact execCtxStatus_within e
  | jobBind => exact execJobBind_within e
  | jobUnbind => exact execJobUnbind_within e
  | stepStatus => exact execStepStatus_within e
  | stepResume => exact execStepResume_within e
  | shardReg => exact execShardReg_within e
  | pipeReg => exact execPipeReg_within e
  | pipeStatus => exact execPipeStatus_within e
  | reshardStart => exact execReshardStart_within e
  | reshardStatus => exact execReshardStatus_within e
  | reshardAbort => exact execReshardAbort_within e
  | reshardCopied => exact execReshardCopied_within e
  | copied => exact execCopied_within e
  | reshardCommitted => exact execReshardCommitted_within e
  | proposeEnter => exact execProposeEnter_within e
  | voteOk => exact execVoteOk_within e
  | voteFail => exact execVoteFail_within e
  | proposeTimeout => exact execProposeTimeout_within e
  | commitDecision => exact execCommitDecision_within e
  | abortDecision => exact execAbortDecision_within e
  | decisionTimeout => exact execDecisionTimeout_within e
  | decisionQuery => exact execDecisionQuery_within e
  | applyComplete => exact execApplyComplete_within e
  | discardComplete => exact execDiscardComplete_within e
  | discardedReport => exact execDiscardedReport_within e
  | rerun => exact execRerun_within e
  | launch => exact execLaunch_within e
  | snapBoundaryCopyDone => exact execSnapBoundaryCopyDone_within e
  | snapWriteDone => exact execSnapWriteDone_within e
  | snapOk => exact execSnapOk_within e
  | snapCommitted => exact execSnapCommitted_within e
  | riskUpdate => exact execRiskUpdate_within e
  | riskReport => exact execRiskReport_within e
  | memberHeartbeatMiss => exact execMemberHeartbeatMiss_within e
  | memberLost => exact execMemberLost_within e
  | spareBindDone => exact execSpareBindDone_within e
  | spareFillDone => exact execSpareFillDone_within e
  | spareRebuildDone => exact execSpareRebuildDone_within e
  | survCfg => exact execSurvCfg_within e
  | snapTensorReg => exact execSnapTensorReg_within e
  | snapTensorUnreg => exact execSnapTensorUnreg_within e
  | snapNow => exact execSnapNow_within e
  | snapStatus => exact execSnapStatus_within e
  | survRisk => exact execSurvRisk_within e
  | survSpareAdd => exact execSurvSpareAdd_within e
  | survSpareRemove => exact execSurvSpareRemove_within e
  | survReport => exact execSurvReport_within e
  | snapExport => exact execSnapExport_within e
  | snapImport => exact execSnapImport_within e
  | survRestore => exact execSurvRestore_within e
  | secIdentity => exact execSecIdentity_within e
  | secAttest => exact execSecAttest_within e
  | secLcStatus => exact execSecLcStatus_within e
  | secLcNonce => exact execSecLcNonce_within e
  | secLcToken => exact execSecLcToken_within e
  | secLcRetry => exact execSecLcRetry_within e
  | secMode => exact execSecMode_within e
  | secPartCreate => exact execSecPartCreate_within e
  | secPartDestroy => exact execSecPartDestroy_within e
  | secPartReset => exact execSecPartReset_within e
  | secKeyInstall => exact execSecKeyInstall_within e
  | secKeySwitch => exact execSecKeySwitch_within e
  | secKeyErase => exact execSecKeyErase_within e
  | secSharedSeal => exact execSecSharedSeal_within e
  | secSharedUnseal => exact execSecSharedUnseal_within e
  | secSharedStripe => exact execSecSharedStripe_within e
  | secCfg => exact execSecCfg_within e
  | inputAccepted => exact execInputAccepted_within e
  | inputDropped => exact execInputDropped_within e
  | busLoss => exact execBusLoss_within e
  | pwrEnRise => exact execPwrEnRise_within e
  | powerUpComplete => exact execPowerUpComplete_within e
  | pwrEnFall => exact execPwrEnFall_within e
  | powerSample => exact execPowerSample_within e
  | tripCleared => exact execTripCleared_within e
  | droopEvent d => exact execDroopEvent_within (y0 := d) e
  | feedidRead => exact execFeedidRead_within e
  | dieTempReading => exact execDieTempReading_within e
  | coolantReading => exact execCoolantReading_within e
  | thermalCriticalTimeout => exact execThermalCriticalTimeout_within e
  | refclkSysLoss => exact execRefclkSysLoss_within e
  | refclkLinkLoss => exact execRefclkLinkLoss_within e
  | refclkHostLoss => exact execRefclkHostLoss_within e
  | hostPerstAssert => exact execHostPerstAssert_within e
  | hostPerstDeassert => exact execHostPerstDeassert_within e
  | dieIsolate => exact execDieIsolate_within e
  | unassignedCommand => exact execUnassignedCommand_within e
  | reservedInstruction => exact execReservedInstruction_within e
  | refclkLinkReturn => exact execRefclkLinkReturn_within e
  | refclkHostReturn => exact execRefclkHostReturn_within e
  | refclkSysReturn => exact execRefclkSysReturn_within e
  | journalRecord => exact execJournalRecord_within e
  | journalRecordAck => exact execJournalRecordAck_within e
  | memoryError => exact execMemoryError_within e

end Sys2Proof.Machine
end

section
/-! SUPPORT. What a mailbox command that is refused comes to: the least offset at fault, a command that may start, one whose time runs out, and a function
level reset (R47 to R49, R53). -/

namespace Sys2Proof.Machine

open Sys2Proof

variable {k : Cmd} {s : State} {r : RingId} {c : OutCmd}

/-- The running minimum of R49, once it has a first value. -/
theorem foldl_least_some (l : List Nat) (a : Nat) :
    l.foldl (fun m o => some (m.elim o (Nat.min o))) (some a) = some (l.foldl min a) := by
  induction l generalizing a with
  | nil => rfl
  | cons o l ih => exact (ih _).trans (by rw [List.foldl_cons, Nat.min_comm a o]; rfl)

theorem leastBad_eq_min? (bs : List (Bool × Nat)) : leastBad bs = ((bs.filter (fun b => b.1)).map (fun b => b.2)).min? := by
  unfold leastBad
  cases (bs.filter (fun b => b.1)).map (fun b => b.2) with
  | nil => rfl
  | cons a l => exact foldl_least_some l a

/-- R49: DETAIL is the least of the offsets whose conditions hold. -/
theorem leastBad_eq_some_iff {bs : List (Bool × Nat)} {o : Nat} : leastBad bs = some o ↔ (true, o) ∈ bs ∧ ∀ b ∈ bs, b.1 = true → o ≤ b.2 := by
  rw [leastBad_eq_min?, List.min?_eq_some_iff]
  simp

/-- The row of a command that may start checks it and runs it. -/
theorem runCmd_starts (ho : (s.ring r).out.find? (fun x => x.tag == c.tag) = some c) (hc : c.opcode.toNat = k.code) (hv : c.version = 1)
    (ht : startable s r c = true) (hd : deferDebug s r c = false) : runCmd k r c.tag s = .next (start k s r c) := by
  unfold runCmd
  simp [ho, hc, hv, startable_notStarted ht, ht, hd]

/-- R10, R47: UNASSIGNED_COMMAND refuses a command that may start and is none of the tables'. -/
theorem execUnassignedCommand_refuses (ho : (s.ring r).out.find? (fun x => x.tag == c.tag) = some c) (ht : startable s r c = true)
    (h : assignedCode c.opcode.toNat = false ∨ c.version ≠ 1) :
    execUnassignedCommand r c.tag s = .next (finish s r c.tag sBAD_COMMAND 0 []) := by
  have hb : (assignedCode c.opcode.toNat && c.version == 1) = false :=
    Bool.and_eq_false_iff.mpr (h.imp_right beq_eq_false_iff_ne.mpr)
  unfold execUnassignedCommand
  simp only [ho, hb, ht, Bool.not_true, Bool.or_self, Bool.false_eq_true, if_false]

/-- A command that has not started leaves nothing behind when it is aborted. -/
theorem abortEffect_notStarted (h : c.started = false) : abortEffect s r c = s := by
  unfold abortEffect
  simp [h]

/-- R53: at its TIMEOUT_MS a command that has not started completes with TIMEOUT. -/
theorem commandTimeout_notStarted {ms : Nat} (ho : (s.ring r).out.find? (fun x => x.tag == c.tag) = some c) (hn : c.started = false)
    (hm : c.timeoutMs ≤ ms) : commandTimeout s r c.tag ms = finish s r c.tag sTIMEOUT ms [] := by
  unfold commandTimeout
  simp [ho, hn, hm.not_gt, abortEffect_notStarted]

@[simp] theorem flr_ring (s : State) (r : RingId) : (flr s r).ring r = { Ring.fresh with bar2 := (s.ring r).bar2 } := by
  unfold flr forgetHost
  simp

/-- Settles O7: each clause is the equation of the operation its row calls. -/
theorem badCommandsHaveNoEffect : Obligations.BadCommandsHaveNoEffect := by
  refine ⟨fun s r c ho ht h => execUnassignedCommand_refuses ho ht h, ?badField, fun bs o => leastBad_eq_some_iff, ?timeout, ?reset⟩
  case badField =>
    intro k s r c o ho hc hv ht hd hb
    rw [runCmd_starts ho hc hv ht hd, start_bad hb]
    rfl
  case timeout =>
    intro s r c ms ho hn hm
    exact congrArg Host.Outcome.next (commandTimeout_notStarted ho hn hm)
  case reset =>
    intro s r hs
    have hx : exec (.functionLevelReset r) s = .next (flr s r) := congrArg Host.Outcome.next (if_pos hs)
    exact ⟨flr s r, hx, flr_ring s r, rfl, rfl, rfl, rfl⟩

end Sys2Proof.Machine
end

section
/-! SUPPORT. What a trap that holds does (R104, R105, R108): the group HELD, its record posted, and all else as it was. -/

namespace Sys2Proof.Machine

open Sys2Proof

/-! ## Parts that stand as they did -/

section
variable {m : Nat} {s t : State}

theorem Within.fnEvents_eq (h : Within m s t) (hi : m.testBit 5 = false) : t.fnEvents = s.fnEvents := h.same 5 hi

theorem Within.ctxs_eq (h : Within m s t) (hi : m.testBit 13 = false) : t.ctxs = s.ctxs := h.same 13 hi

theorem Within.groups_eq (h : Within m s t) (hi : m.testBit 15 = false) : t.groups = s.groups := h.same 15 hi

theorem Within.sync_eq (h : Within m s t) (hi : m.testBit 18 = false) : t.sync = s.sync := h.same 18 hi

theorem Within.mem_eq (h : Within m s t) (hr : m.testBit 11 = false) (hb : m.testBit 12 = false) : t.mem = s.mem := by
  have rest : t.mem = { s.mem with bytes := t.mem.bytes } := h.same 11 hr
  have bytes : t.mem.bytes = s.mem.bytes := h.same 12 hb
  rw [rest, bytes]

end

/-! ## Results written before a trap -/

/-- A result that is written moves no thread and ends none. -/
theorem deliver_keeps_threads (gr : Group) (p : Pend) : (deliver gr p).pcs = gr.pcs ∧ (deliver gr p).live = gr.live := by
  unfold deliver
  split
  · refine List.foldlRecOn (motive := fun x : Group => x.pcs = gr.pcs ∧ x.live = gr.live) _ _ ⟨rfl, rfl⟩ ?_
    intro x hx e _
    dsimp only
    split <;> exact hx
  · dsimp only
    split <;> exact ⟨rfl, rfl⟩
  · exact ⟨rfl, rfl⟩

theorem retire_keeps_threads (gr : Group) : (retire gr).pcs = gr.pcs ∧ (retire gr).live = gr.live := by
  have h : ∀ l : List Pend, (l.foldl deliver gr).pcs = gr.pcs ∧ (l.foldl deliver gr).live = gr.live := fun l =>
    List.foldlRecOn (motive := fun x => x.pcs = gr.pcs ∧ x.live = gr.live) l deliver ⟨rfl, rfl⟩
      (fun x hx p _ => ⟨(deliver_keeps_threads x p).1.trans hx.1, (deliver_keeps_threads x p).2.trans hx.2⟩)
  exact h _

/-! ## The event of a trap -/

@[simp] theorem writeCq_fevAt (s : State) (r : RingId) (e : CqEntry) (n : Nat) : (writeCq s r e).fev n = s.fev n := by
  unfold State.fev
  rw [(writeCq_within s r e).fnEvents_eq (by decide)]

@[simp] theorem postEvent_groupAt (s : State) (fn code detail : Nat) (rec : List Byte) (h : GroupId) :
    (postEvent s fn code detail rec).group? h = s.group? h := by
  unfold State.group?
  rw [(postEvent_within s fn code detail rec).groups_eq (by decide)]

/-- R45: with fewer than 256 events held, an event's record is kept for its function. -/
theorem postEvent_recs {s : State} {fn : Nat} (code detail : Nat) (rec : List Byte) (h : (s.fev fn).held.length < 256) :
    ((postEvent s fn code detail rec).fev fn).recs =
      (s.fev fn).recs ++ [{ seq := (s.fev fn).nextSeq, code := code, detail := detail, bytes := rec }] := by
  unfold postEvent
  cases eventRing s fn with
  | none =>
    dsimp only
    rw [if_pos h, State.fev_setFev]
  | some r =>
    dsimp only
    rw [if_pos h]
    split
    · rw [writeCq_fevAt, State.fev_setFev]
    · rw [State.fev_setFev]

theorem trapRecord_length (s : State) (g : GroupId) (gr : Group) (x : Trap) (held : Bool) : (trapRecord s g gr x held).length = 256 := by
  unfold trapRecord
  extract_lets block insn arrival
  simp [List.length_flatMap]

theorem trapRecord_code (s : State) (g : GroupId) (gr : Group) (x : Trap) (held : Bool) :
    (trapRecord s g gr x held).head? = some (BitVec.ofNat 8 x.code) := by
  unfold trapRecord
  extract_lets block insn arrival
  simp only [List.cons_append, List.head?_cons]

/-! ## The group that traps -/

/-- The state in which a group's trap is recorded: its results written, the trap counted. -/
def trapCounted (s : State) (g : GroupId) (gr : Group) (x : Trap) : State :=
  ((if x.code = tSYNC_RANGE then s.bump 0x04000008 1 else s).setGroup g (retire gr)).bump 0x09000008 1

theorem trapCounted_fevAt (s : State) (g : GroupId) (gr : Group) (x : Trap) (n : Nat) : (trapCounted s g gr x).fev n = s.fev n := by
  unfold trapCounted
  split <;> rfl

theorem trapCounted_group_ne (s : State) {g h : GroupId} (gr : Group) (x : Trap) (hk : groupKey h ≠ groupKey g) :
    (trapCounted s g gr x).group? h = s.group? h := by
  unfold trapCounted
  split <;> simp [State.group_setGroup_ne _ _ hk]

section
variable {s : State} {g : GroupId} {gr : Group} {c : Ctx}

/-- R104, R105: a trap posts event 0x0980 with its record to the owner of the context, and its group stands HELD. -/
theorem postTrap_eq (hg : s.group? g = some gr) (hc : s.ctx? gr.ctx = some c) (x : Trap) :
    postTrap s g x =
      (postEvent (trapCounted s g gr x) c.owner 0x0980 (groupSite g).toNat (trapRecord (trapCounted s g gr x) g (retire gr) x (holds c x.code))).setGroup g
        { retire gr with st := .held, lastTrap := x.code, stalled := false } := by
  unfold postTrap
  rw [hg]
  dsimp only
  rw [hc]
  rfl

theorem takeTrap_of_holds (hg : s.group? g = some gr) (hc : s.ctx? gr.ctx = some c) {x : Trap} (hx : holds c x.code = true) :
    takeTrap s g x = postTrap s g x := by
  simp [takeTrap, takeTraps, hg, hc, hx]

theorem postTrap_group (hg : s.group? g = some gr) (hc : s.ctx? gr.ctx = some c) (x : Trap) :
    (postTrap s g x).group? g = some { retire gr with st := .held, lastTrap := x.code, stalled := false } := by
  rw [postTrap_eq hg hc, State.group_setGroup]

theorem postTrap_group_ne (hg : s.group? g = some gr) (hc : s.ctx? gr.ctx = some c) (x : Trap) {h : GroupId} (hk : groupKey h ≠ groupKey g) :
    (postTrap s g x).group? h = s.group? h := by
  rw [postTrap_eq hg hc, State.group_setGroup_ne _ _ hk, postEvent_groupAt, trapCounted_group_ne _ _ _ hk]

/-- R108: the owner of the context gets event 0x0980 with the group's site word and the 256-byte record. -/
theorem postTrap_event (hg : s.group? g = some gr) (hc : s.ctx? gr.ctx = some c) (x : Trap) (hl : (s.fev c.owner).held.length < 256) :
    ∃ r, ((postTrap s g x).fev c.owner).recs = (s.fev c.owner).recs ++ [r] ∧ r.code = 0x0980 ∧ r.detail = (groupSite g).toNat ∧
      r.bytes.length = 256 ∧ r.bytes.head? = some (BitVec.ofNat 8 x.code) := by
  rw [postTrap_eq hg hc, State.setGroup_fevAt, postEvent_recs _ _ _ (by rwa [trapCounted_fevAt]), trapCounted_fevAt]
  exact ⟨_, rfl, rfl, rfl, trapRecord_length .., trapRecord_code ..⟩

end

/-! ## The instructions -/

section
variable {s : State} {g : GroupId} {e : Env}

/-- BRK takes no trap without a debugger, nor as the resumed instruction (R112, R138). -/
theorem checkBrk_none (h : e.c.hold = false ∨ e.gr.skipBp = true) : checkBrk e = none := by
  unfold checkBrk
  rcases h with h | h <;> simp [h]

theorem checkBrk_some (hh : e.c.hold = true) (hs : e.gr.skipBp = false) :
    checkBrk e = some (e.trap tBREAKPOINT (0x10000 + (BitVec.ofInt 16 e.i.imm).toNat) 0 0) := by
  unfold checkBrk
  simp [hh, hs, unsign_ofInt]

theorem brk_traps (h : Issues .brk s g e) (hh : e.c.hold = true) (hs : e.gr.skipBp = false) :
    issue .brk g s = takeTrap s g (e.trap tBREAKPOINT (0x10000 + (BitVec.ofInt 16 e.i.imm).toNat) 0 0) :=
  issue_traps h (by decide) (acts_alone h.named (by decide)) (checkBrk_some hh hs)

/-- R10: an encoding that nothing is assigned to raises ILLEGAL_OP, unless a breakpoint is met before it. -/
theorem reserved_traps (he : nextEnv s g = some e) (hm : e.mn = .reserved) (ha : e.gr.st = .active) (hf : e.gr.stalled = false)
    (hb : e.gr.skipBp = true ∨ Env.bpHit s e = none) : issue .reserved g s = takeTrap s g e.illegal := by
  have hbp : (if e.gr.skipBp = true then none else Env.bpHit s e) = none := by rcases hb with hb | hb <;> simp [hb]
  have hat : attempt e s = .trap e.illegal := by
    unfold attempt
    simp [hm, hbp]
  unfold issue
  simp [he, ha, hf, hm, hat, settleRes, (env_group he).1]

end

/-- Settles O32: the rows by what they issue, and a trap that holds by what it posts. -/
theorem trapsHoldTheirGroup : Obligations.TrapsHoldTheirGroup := by
  intro s g gr c hg hc
  refine ⟨?brkTraps, ?brkPasses, ?nop, ?fence, ?reserved, ?held⟩
  case brkTraps =>
    intro e h hh hs
    exact ⟨_, congrArg Host.Outcome.next (brk_traps h hh hs), rfl, rfl, rfl⟩
  case brkPasses =>
    intro e h hp
    exact commits_of_run h rfl (by decide) (checkBrk_none hp) rfl
  case nop =>
    intro e h
    exact commits_of_run h rfl (by decide) rfl rfl
  case fence =>
    intro e h
    exact commits_of_run h rfl (by decide) rfl rfl
  case reserved =>
    intro e he hm ha hf hb
    obtain ⟨-, hge, -⟩ := env_group he
    obtain rfl : gr = e.gr := Option.some.inj (hg.symm.trans hge)
    exact ⟨e.illegal, congrArg Host.Outcome.next (reserved_traps he hm ha hf hb), rfl, rfl, rfl⟩
  case held =>
    intro x hx
    have frame := postTrap_within s g x
    rw [takeTrap_of_holds hg hc hx]
    exact ⟨⟨_, postTrap_group hg hc x, rfl, rfl, (retire_keeps_threads gr).1, (retire_keeps_threads gr).2⟩,
      fun h hk => postTrap_group_ne hg hc x hk, frame.mem_eq (by decide) (by decide), frame.ctxs_eq (by decide), frame.sync_eq (by decide),
      postTrap_event hg hc x⟩

end Sys2Proof.Machine
end

section
/-! SUPPORT. What the registers and rings of a function do: causes and errors, LMB_CTRL and the bases, the doorbell, and completion entries (R38 to R46). -/

namespace Sys2Proof.Machine

open Sys2Proof

/-! ## Register accesses -/

theorem atBar0_served {s : State} {r : RingId} (h : served s r = true) (f : State → State) : atBar0 r s f = .next (f s) :=
  congrArg Host.Outcome.next (if_pos h)

/-- The four bits of a size field of LMB_CTRL (Table 2.6). -/
theorem sizeField_eq (v : BitVec 32) (lo : Nat) : (v >>> lo).setWidth 4 = BitVec.ofNat 4 (v.toNat / 2 ^ lo) := by
  apply BitVec.eq_of_toNat_eq
  simp [Nat.shiftRight_eq_div_pow]

theorem ofNat_four_mod (n : Nat) : BitVec.ofNat 4 (n % 16) = BitVec.ofNat 4 n := by
  apply BitVec.eq_of_toNat_eq
  simp

theorem log2Ok_iff (v : BitVec 32) (lo : Nat) : log2Ok v lo = true ↔ 4 ≤ v.toNat / 2 ^ lo % 16 ∧ v.toNat / 2 ^ lo % 16 ≤ 12 := by
  unfold log2Ok
  rw [Bool.and_eq_true, decide_eq_true_iff, decide_eq_true_iff]

/-! ## Causes and errors of a ring -/

theorem raiseCause_ring (s : State) (r : RingId) (bit : Nat) :
    (raiseCause s r bit).ring r = { s.ring r with hisStatus := (s.ring r).hisStatus ||| BitVec.ofNat 6 (2 ^ bit) } := by
  unfold raiseCause
  dsimp only
  split <;> exact State.ring_setRing ..

theorem ringErr_cfg_ring (s : State) (r : RingId) :
    (ringErr s r .cfg).ring r = { s.ring r with errCfg := true, hisStatus := (s.ring r).hisStatus ||| 4 } := by
  unfold ringErr
  simp only [raiseCause_ring, State.ring_setRing]
  rfl

/-- Raising RING_ERR sets its bit of HIS_STATUS. -/
theorem or_ringErr_bit (x : BitVec 6) : (x ||| 4).getLsbD 2 = true := by
  simp

/-! ## LMB_CTRL and the bases (Table 2.10a) -/

section
variable {s : State} {r : RingId} {v : BitVec 32}

theorem ringEnable_of_good (h8 : log2Ok v 8 = true) (h12 : log2Ok v 12 = true) :
    ringEnable s r v = s.setRing r
      { s.ring r with
        en := true, ready := true, loc := v.getLsbD 1, sqLog2 := BitVec.ofNat 4 (v.toNat / 2 ^ 8), cqLog2 := BitVec.ofNat 4 (v.toNat / 2 ^ 12),
        errCfg := false, errFetch := false, errDb := false, sqHead := 0, sqTail := 0, cqHead := 0, cqTail := 0, phase := true } := by
  unfold ringEnable
  simp only [h8, h12, Bool.and_self, if_true, sizeField_eq]

theorem ringEnable_of_bad (h : ¬(log2Ok v 8 = true ∧ log2Ok v 12 = true)) : ringEnable s r v = ringErr s r .cfg :=
  if_neg (by rwa [Bool.and_eq_true])

theorem writeCtrl_enables (he : (s.ring r).en = false) (hr : (s.ring r).ready = false) (hv : v.getLsbD 0 = true) : writeCtrl s r v = ringEnable s r v := by
  unfold writeCtrl
  simp only [he, hr, hv, Bool.false_eq_true, if_false, if_true]

theorem writeCtrl_disables (he : (s.ring r).en = true) (hv : v.getLsbD 0 = false) :
    writeCtrl s r v = abortFetched (s.setRing r { s.ring r with en := false }) r := by
  unfold writeCtrl
  simp only [he, hv, Bool.false_eq_true, if_false, if_true]

theorem writeCtrl_stores (he : (s.ring r).en = false) (hr : (s.ring r).ready = false) (hv : v.getLsbD 0 = false) :
    writeCtrl s r v = s.setRing r
      { s.ring r with loc := v.getLsbD 1, sqLog2 := BitVec.ofNat 4 (v.toNat / 2 ^ 8), cqLog2 := BitVec.ofNat 4 (v.toNat / 2 ^ 12) } := by
  unfold writeCtrl
  simp only [he, hr, hv, Bool.false_eq_true, if_false, sizeField_eq]

theorem writeCtrl_refuses (h : ((s.ring r).en = true ∧ v.getLsbD 0 = true) ∨ ((s.ring r).en = false ∧ (s.ring r).ready = true)) :
    writeCtrl s r v = ringErr s r .cfg := by
  unfold writeCtrl
  rcases h with ⟨he, hv⟩ | ⟨he, hr⟩
  · simp [he, hv]
  · simp [he, hr]

theorem execRingEnable_eq (hs : served s r = true) (he : (s.ring r).en = false) (hr : (s.ring r).ready = false) (hv : v.getLsbD 0 = true) :
    exec (.ringEnable r v) s = .next (ringEnable s r v) := by
  have starts : (v.getLsbD 0 && !(s.ring r).en && !(s.ring r).ready) = true := by rw [hv, he, hr]; rfl
  exact (atBar0_served hs _).trans (congrArg Host.Outcome.next ((if_pos starts).trans (writeCtrl_enables he hr hv)))

theorem execRingDisable_eq (hs : served s r = true) (he : (s.ring r).en = true) (hv : v.getLsbD 0 = false) :
    exec (.ringDisable r v) s = .next (abortFetched (s.setRing r { s.ring r with en := false }) r) := by
  have stops : (!v.getLsbD 0 && (s.ring r).en) = true := by rw [hv, he]; rfl
  exact (atBar0_served hs _).trans (congrArg Host.Outcome.next ((if_pos stops).trans (writeCtrl_disables he hv)))

/-- RING_CONFIG_WRITE is every write of LMB_CTRL that neither starts nor stops the rings. -/
theorem execRingConfigWrite_eq (hs : served s r = true) (hon : ¬(v.getLsbD 0 && !(s.ring r).en && !(s.ring r).ready) = true)
    (hoff : ¬(!v.getLsbD 0 && (s.ring r).en) = true) : exec (.ringConfigWrite r v) s = .next (writeCtrl s r v) := by
  have row : exec (.ringConfigWrite r v) s = .next (if v.getLsbD 0 && !(s.ring r).en && !(s.ring r).ready then s
      else if !v.getLsbD 0 && (s.ring r).en then s else writeCtrl s r v) := congrArg Host.Outcome.next (if_pos hs)
  rw [row, if_neg hon, if_neg hoff]

theorem execRingBaseWrite_eq (hs : served s r = true) (off : Nat) (x : BitVec 64) :
    exec (.ringBaseWrite r off true x) s = .next (writeBase s r off true x) :=
  atBar0_served hs (fun t => writeBase t r off true x)

theorem writeBase_stores_sq (x : BitVec 64) (he : (s.ring r).en = false) (hr : (s.ring r).ready = false) :
    writeBase s r 0x050 true x = s.setRing r { s.ring r with sqBase := BitVec.ofNat 64 (x.toNat / 4096 * 4096) } := by
  unfold writeBase baseAfter
  simp [he, hr]

theorem writeBase_stores_cq (x : BitVec 64) (he : (s.ring r).en = false) (hr : (s.ring r).ready = false) :
    writeBase s r 0x058 true x = s.setRing r { s.ring r with cqBase := BitVec.ofNat 64 (x.toNat / 4096 * 4096) } := by
  unfold writeBase baseAfter
  simp [he, hr]

theorem writeBase_refuses {off : Nat} (x : BitVec 64) (ho : off = 0x050 ∨ off = 0x058) (h : (s.ring r).en = true ∨ (s.ring r).ready = true) :
    writeBase s r off true x = ringErr s r .cfg := by
  unfold writeBase
  rcases ho with rfl | rfl <;> simp [h]

end

/-- Settles O1: the two outcomes of RING_ENABLE, by the size fields. -/
theorem ringEnableStartsOrRefuses : Obligations.RingEnableStartsOrRefuses := by
  intro s r v hs hv he hr sq cq
  have row := execRingEnable_eq hs he hr hv
  have sizes : (log2Ok v 8 = true ∧ log2Ok v 12 = true) ↔ (4 ≤ sq ∧ sq ≤ 12 ∧ 4 ≤ cq ∧ cq ≤ 12) := by
    rw [log2Ok_iff, log2Ok_iff, and_assoc]
  refine ⟨fun good => ?_, fun bad => ?_⟩
  · obtain ⟨h8, h12⟩ := sizes.2 good
    rw [row, ringEnable_of_good h8 h12]
    simp only [sq, cq, ofNat_four_mod]
  · refine ⟨ringErr s r .cfg, by rw [row, ringEnable_of_bad (mt sizes.1 bad)], ?_, ?_, (ringErr_within s r .cfg).fnEventsSame (by decide),
      (ringErr_within s r .cfg).memSame (by decide) (by decide)⟩
    · rw [ringErr_cfg_ring]
      exact or_ringErr_bit _
    · rw [ringErr_cfg_ring]

/-! ## Completion entries (R44, R45, Table 2.14) -/

theorem cqBytes_length (e : CqEntry) (phase : Bool) : (cqBytes e phase).length = 16 := by
  simp [cqBytes]

theorem ringWrite_ring (s : State) (r : RingId) (a : Nat) (bs : List Byte) :
    (ringWrite s r a bs).ring r = { s.ring r with bar2 := if (s.ring r).loc then Memory.store (s.ring r).bar2 a bs else (s.ring r).bar2 } := by
  unfold ringWrite
  dsimp only
  split
  · exact State.ring_setRing ..
  · rfl

/-- Bytes for a ring in host memory go to host memory. -/
theorem ringWrite_host {s : State} {r : RingId} (h : (s.ring r).loc = false) (a : Nat) (bs : List Byte) :
    ringWrite s r a bs = s.setHost (Memory.store s.hostMem a bs) :=
  if_neg (by simp [h])

/-- The ring after an entry is written: the tail moves on, PHASE inverts as it wraps, and a cause is raised. -/
theorem writeCq_ring (s : State) (r : RingId) (e : CqEntry) : ∃ b,
    (writeCq s r e).ring r =
      { s.ring r with
        bar2 := b, cqTail := ((s.ring r).cqTail + 1) % (s.ring r).cqSize,
        phase := if ((s.ring r).cqTail + 1) % (s.ring r).cqSize = 0 then !(s.ring r).phase else (s.ring r).phase,
        hisStatus := (s.ring r).hisStatus ||| BitVec.ofNat 6 (2 ^ (if e.event then 1 else 0)) } := by
  unfold writeCq
  dsimp only
  rw [raiseCause_ring, State.ring_setRing, ringWrite_ring]
  exact ⟨_, rfl⟩

theorem writeCq_hostMem {s : State} {r : RingId} (h : (s.ring r).loc = false) (e : CqEntry) :
    (writeCq s r e).hostMem = Memory.store s.hostMem ((s.ring r).cqAddr + 16 * (s.ring r).cqTail) (cqBytes e (s.ring r).phase) := by
  unfold writeCq
  dsimp only
  rw [(raiseCause_within ..).hostMemSame (by decide), ringWrite_host h]
  rfl

theorem postCompletion_writes {s : State} {r : RingId} (hf : (s.ring r).cqFull = false) (hw : (s.ring r).waiting = []) (e : CqEntry) :
    postCompletion s r e = writeCq s r e :=
  if_neg (by simp [hf, hw])

theorem postCompletion_waits {s : State} {r : RingId} (hf : (s.ring r).cqFull = true) (e : CqEntry) :
    postCompletion s r e = s.setRing r { s.ring r with waiting := (s.ring r).waiting ++ [e] } :=
  if_pos (by simp [hf])

/-- The slot after the last one is the first. -/
theorem next_slot_eq_zero_iff {t n : Nat} (h : t < n) : (t + 1) % n = 0 ↔ t + 1 = n := by
  rcases Nat.lt_or_ge (t + 1) n with hlt | hge
  · rw [Nat.mod_eq_of_lt hlt]
    omega
  · obtain rfl : n = t + 1 := by omega
    simp

theorem deferred_writes {s : State} {r : RingId} {e : CqEntry} {rest : List CqEntry} (hr : (s.ring r).ready = true) (hf : (s.ring r).cqFull = false)
    (hw : (s.ring r).waiting = e :: rest) : deferred s r = writeCq (s.setRing r { s.ring r with waiting := rest }) r e := by
  unfold deferred
  simp [hr, hf, hw]

/-- Settles O5: an entry written, one that waits, and one written later. -/
theorem completionsAreWrittenOrWait : Obligations.CompletionsAreWrittenOrWait := by
  intro s r e
  refine ⟨fun hf hw ht hl => ?written, fun hf => postCompletion_waits hf e,
    fun rest hr hf hw => congrArg Host.Outcome.next (deferred_writes hr hf hw)⟩
  case written =>
    obtain ⟨b, ring⟩ := writeCq_ring s r e
    rw [postCompletion_writes hf hw]
    refine ⟨by rw [ring], ?_, ?_, by rw [ring]⟩
    · rw [ring]
      simp only [next_slot_eq_zero_iff ht]
    · have at_slot : (s.ring r).cqAddr = (s.ring r).cqBase.toNat / 4096 * 4096 := if_neg (by simp [hl])
      have stored := Memory.load_store s.hostMem ((s.ring r).cqAddr + 16 * (s.ring r).cqTail) (cqBytes e (s.ring r).phase)
      rwa [cqBytes_length, ← writeCq_hostMem hl e, at_slot] at stored

/-! ## Stopping a ring (R43) -/

/-- Ring `h` is configured as `g` is, and its switches stand as `g`'s. -/
structure SameConfig (g h : Ring) : Prop where
  en : h.en = g.en
  ready : h.ready = g.ready
  loc : h.loc = g.loc
  sqLog2 : h.sqLog2 = g.sqLog2
  cqLog2 : h.cqLog2 = g.cqLog2
  sqBase : h.sqBase = g.sqBase
  cqBase : h.cqBase = g.cqBase

theorem SameConfig.refl (g : Ring) : SameConfig g g := ⟨rfl, rfl, rfl, rfl, rfl, rfl, rfl⟩

theorem SameConfig.trans {a b c : Ring} (h : SameConfig a b) (k : SameConfig b c) : SameConfig a c :=
  ⟨k.en.trans h.en, k.ready.trans h.ready, k.loc.trans h.loc, k.sqLog2.trans h.sqLog2, k.cqLog2.trans h.cqLog2, k.sqBase.trans h.sqBase,
    k.cqBase.trans h.cqBase⟩

theorem postCompletion_sameConfig (s : State) (r : RingId) (e : CqEntry) : SameConfig (s.ring r) ((postCompletion s r e).ring r) := by
  unfold postCompletion
  dsimp only
  split
  · rw [State.ring_setRing]
    exact ⟨rfl, rfl, rfl, rfl, rfl, rfl, rfl⟩
  · obtain ⟨b, ring⟩ := writeCq_ring s r e
    rw [ring]
    exact ⟨rfl, rfl, rfl, rfl, rfl, rfl, rfl⟩

/-- Commands aborted as fetching stops leave the configuration alone. -/
theorem abortFetched_sameConfig (s : State) (r : RingId) : SameConfig (s.ring r) ((abortFetched s r).ring r) := by
  unfold abortFetched
  refine List.foldlRecOn (motive := fun t : State => SameConfig (s.ring r) (t.ring r)) _ _ (SameConfig.refl _) ?_
  intro t ht c _
  dsimp only
  split
  · refine ht.trans (SameConfig.trans ?_ (postCompletion_sameConfig ..))
    rw [State.tick_ringAt, State.ring_setRing]
    exact ⟨rfl, rfl, rfl, rfl, rfl, rfl, rfl⟩
  · exact ht

/-- Settles O2: each row of Table 2.10a by what the write comes to. -/
theorem ringConfigurationFollowsTable : Obligations.RingConfigurationFollowsTable := by
  intro s r hs
  refine ⟨fun v hv he => ?stop, fun v hv he hr => ?store, fun v h => ?refuse, fun v he hr => ?base, fun off v ho h => ?refuseBase, ringErr_cfg_ring s r⟩
  case stop =>
    have kept := abortFetched_sameConfig (s.setRing r { s.ring r with en := false }) r
    rw [State.ring_setRing] at kept
    exact ⟨_, execRingDisable_eq hs he hv, kept.en, kept.ready, kept.sqLog2, kept.cqLog2, kept.loc, kept.sqBase, kept.cqBase⟩
  case store =>
    rw [execRingConfigWrite_eq hs (by rw [hv, Bool.false_and, Bool.false_and]; decide) (by rw [he, Bool.and_false]; decide), writeCtrl_stores he hr hv]
  case refuse =>
    rw [execRingConfigWrite_eq hs ?_ ?_, writeCtrl_refuses h] <;> rcases h with ⟨he, hv⟩ | ⟨he, hr⟩
    · rw [he, Bool.not_true, Bool.and_false, Bool.false_and]; decide
    · rw [hr, Bool.not_true, Bool.and_false]; decide
    · rw [hv, Bool.not_true, Bool.false_and]; decide
    · rw [he, Bool.and_false]; decide
  case base =>
    exact ⟨(execRingBaseWrite_eq hs _ v).trans (congrArg Host.Outcome.next (writeBase_stores_sq v he hr)),
      (execRingBaseWrite_eq hs _ v).trans (congrArg Host.Outcome.next (writeBase_stores_cq v he hr))⟩
  case refuseBase => exact (execRingBaseWrite_eq hs off v).trans (congrArg Host.Outcome.next (writeBase_refuses v ho h))

/-! ## The doorbell and fetching (R42, R51) -/

section
variable {s : State} {r : RingId}

/-- A command whose TAG is free is accepted while the lantern does not shed new work. -/
theorem acceptCmd_accepts {c : OutCmd} (ht : tagTaken (s.ring r) c.tag = false) (hs : shedOf s r.fn ≠ 3) :
    acceptCmd s r c = (s.setRing r { s.ring r with out := (s.ring r).out ++ [c] }).bump (0x01000010 + classOfFn r.fn) 1 := by
  unfold acceptCmd
  simp [ht, hs]

theorem fetchLoop_caughtUp (n : Nat) (h : (s.ring r).sqHead = (s.ring r).sqTail) : fetchLoop r n s = s := by
  cases n with
  | zero => rfl
  | succ n =>
    unfold fetchLoop
    simp [h]

/-- One entry fetched. -/
theorem fetchLoop_fetches (n : Nat) (ht : (s.ring r).sqHead ≠ (s.ring r).sqTail) (hr : (s.ring r).ready = true) (he : (s.ring r).en = true)
    (hm : (s.ring r).loc = true ∨ hostFails s ((s.ring r).sqAddr + 64 * (s.ring r).sqHead) 64 = false) :
    fetchLoop r (n + 1) s =
      fetchLoop r n (acceptCmd (s.setRing r { s.ring r with sqHead := ((s.ring r).sqHead + 1) % (s.ring r).sqSize }) r
        (parseCmd (ringRead s r ((s.ring r).sqAddr + 64 * (s.ring r).sqHead) 64))) := by
  rw [fetchLoop.eq_2]
  dsimp only
  rw [if_neg (by simp [ht, hr, he]), if_neg (by rcases hm with hm | hm <;> simp [hm])]

/-- Where the tail stands does not change what a ring's addresses name. -/
theorem ringRead_setTail (t a n : Nat) : ringRead (s.setRing r { s.ring r with sqTail := t }) r a n = ringRead s r a n := by
  unfold ringRead
  rw [State.ring_setRing]
  rfl

theorem doorbell_unready (v : BitVec 32) (h : (s.ring r).ready = false) : doorbell s r v = s := by
  unfold doorbell
  simp [h]

theorem doorbell_outOfRange {v : BitVec 32} (hr : (s.ring r).ready = true) (h : (s.ring r).sqSize ≤ v.toNat % 2 ^ 16) :
    doorbell s r v = ringErr s r .db := by
  unfold doorbell
  dsimp only
  rw [if_neg (by simp [hr]), if_pos (.inl h)]

/-- A value inside the ring moves the tail when nothing is fetched yet of what stands before it. -/
theorem doorbell_moves {v : BitVec 32} (hr : (s.ring r).ready = true) (ht : (s.ring r).sqHead = (s.ring r).sqTail)
    (hh : (s.ring r).sqHead < (s.ring r).sqSize) (hv : v.toNat % 2 ^ 16 < (s.ring r).sqSize) :
    doorbell s r v = fetchLoop r (s.ring r).sqSize (s.setRing r { s.ring r with sqTail := v.toNat % 2 ^ 16 }) := by
  have gap : ((s.ring r).sqTail + (s.ring r).sqSize - (s.ring r).sqHead % (s.ring r).sqSize) % (s.ring r).sqSize = 0 := by
    rw [← ht, Nat.mod_eq_of_lt hh, Nat.add_sub_cancel_left, Nat.mod_self]
  unfold doorbell
  dsimp only
  rw [if_neg (by simp [hr]), if_neg (by rw [gap]; omega)]

end

/-- The slot after `h` in a ring of more than one is another. -/
theorem next_slot_ne {h n : Nat} (hh : h < n) (hn : 1 < n) : h ≠ (h + 1) % n := by
  rcases Nat.lt_or_ge (h + 1) n with hlt | hge
  · rw [Nat.mod_eq_of_lt hlt]
    omega
  · obtain rfl : n = h + 1 := by omega
    rw [Nat.mod_self]
    omega

/-- The ring after the one entry before its tail is fetched and its command accepted. -/
theorem fetchLoop_last_ring {s : State} {r : RingId} {g : Ring} {c : OutCmd} (n : Nat) (hg : s.ring r = g) (hne : g.sqHead ≠ g.sqTail)
    (ht : (g.sqHead + 1) % g.sqSize = g.sqTail) (hr : g.ready = true) (he : g.en = true)
    (hm : g.loc = true ∨ hostFails s (g.sqAddr + 64 * g.sqHead) 64 = false) (hc : parseCmd (ringRead s r (g.sqAddr + 64 * g.sqHead) 64) = c)
    (htag : tagTaken g c.tag = false) (hd : shedOf s r.fn ≠ 3) :
    (fetchLoop r (n + 1) s).ring r = { g with sqHead := g.sqTail, out := g.out ++ [c] } := by
  subst hg
  rw [fetchLoop_fetches n hne hr he hm, hc, ht, acceptCmd_accepts, fetchLoop_caughtUp]
  · simp only [State.bump_ringAt, State.ring_setRing]
  · simp only [State.bump_ringAt, State.ring_setRing]
  · rwa [State.ring_setRing]
  · exact hd

/-- Settles O3: an ignored write, a refused value, and one entry fetched. -/
theorem doorbellFetchesOrRefuses : Obligations.DoorbellFetchesOrRefuses := by
  intro s r v hs
  have row : exec (.lmbDoorbell r v) s = .next (doorbell s r v) := atBar0_served hs (fun t => doorbell t r v)
  refine ⟨fun hr => by rw [row, doorbell_unready v hr], fun hr ho => by rw [row, doorbell_outOfRange hr ho], ?fetch⟩
  intro hr he ht hh hn hv hm c hc hd
  obtain ⟨n, size⟩ : ∃ n, (s.ring r).sqSize = n + 1 := ⟨_, (Nat.succ_pred_eq_of_pos (by omega)).symm⟩
  have hne : (s.ring r).sqHead ≠ v.toNat % 2 ^ 16 := hv ▸ next_slot_ne hh hn
  have hlt : v.toNat % 2 ^ 16 < (s.ring r).sqSize := hv ▸ Nat.mod_lt _ (by omega)
  have fetched := fetchLoop_last_ring n (State.ring_setRing s r { s.ring r with sqTail := v.toNat % 2 ^ 16 }) hne hv.symm hr he hm
    (congrArg parseCmd (ringRead_setTail ..)) hc hd
  have moves := doorbell_moves hr ht hh hlt
  rw [size] at moves
  exact ⟨_, row.trans (congrArg Host.Outcome.next moves), (congrArg Ring.out fetched :), (congrArg Ring.sqHead fetched).trans hv,
    (congrArg Ring.cqTail fetched :)⟩

/-! ## Register reads and writes (R8, R38) -/

section
variable {s : State} {r : RingId}

theorem readBar0_low {off : Nat} (h : wide64 off = true) :
    readBar0 s r off = s.setRing r
      { s.ring r with
        latch := Sparse.put 0 (s.ring r).latch off ((reg64 s r off >>> 32).setWidth 32), rdata := (reg64 s r off).setWidth 32 } :=
  if_pos h

theorem readBar0_high {off : Nat} (h : wide64 off = true) (hn : wide64 (off + 4) = false) :
    readBar0 s r (off + 4) = s.setRing r { s.ring r with rdata := Sparse.get 0 (s.ring r).latch off } := by
  unfold readBar0
  simp [h, hn]

theorem ringStopped_stops (he : (s.ring r).en = false) (hr : (s.ring r).ready = true) (ho : (s.ring r).out = []) (hw : (s.ring r).waiting = []) :
    ringStopped s r = s.setRing r { s.ring r with ready := false } := by
  unfold ringStopped
  simp [he, hr, ho, hw]

end

theorem setWidth_low_word (x : BitVec 64) : x.setWidth 32 = BitVec.ofNat 32 x.toNat := by
  apply BitVec.eq_of_toNat_eq
  simp

theorem setWidth_high_word (x : BitVec 64) : (x >>> 32).setWidth 32 = BitVec.ofNat 32 (x.toNat / 2 ^ 32) := by
  apply BitVec.eq_of_toNat_eq
  simp [Nat.shiftRight_eq_div_pow]

/-- Settles O4: the two halves of a 64-bit read, the writes by offset, and the rings that stop. -/
theorem bar0RegistersReadAndWrite : Obligations.Bar0RegistersReadAndWrite := by
  intro s r
  refine ⟨fun hs off ho => ?read, fun hs v => ?write, fun he hr hout hw => congrArg Host.Outcome.next (ringStopped_stops he hr hout hw)⟩
  case read =>
    obtain ⟨low, high⟩ : wide64 off = true ∧ wide64 (off + 4) = false := by
      rcases ho with rfl | rfl | rfl | rfl | rfl <;> exact ⟨rfl, rfl⟩
    refine ⟨readBar0 s r off, atBar0_served hs (fun t => readBar0 t r off), ?_,
      fun u hu hsu => ⟨readBar0 u r (off + 4), atBar0_served hsu (fun t => readBar0 t r (off + 4)), ?_⟩⟩
    · simp only [readBar0_low low, State.ring_setRing, setWidth_low_word]
    · simp only [readBar0_high low high, State.ring_setRing, hu, readBar0_low low, Sparse.get_put_self, setWidth_high_word]
  case write =>
    have row (off : Nat) : exec (.registerWrite r off v) s = .next (writeReg s r off v) := atBar0_served hs (fun t => writeReg t r off v)
    exact ⟨row 0x080, row 0x084, row 0x04C, row 0x044⟩

/-! ## The end of a command (R46, R54, R55) -/

section
variable {s : State} {r : RingId} {c : OutCmd} {status detail : Nat} {bytes : List Byte}

/-- The command leaves the outstanding commands of its ring. -/
def removeOut (s : State) (r : RingId) (tag : BitVec 16) : State :=
  s.setRing r { s.ring r with out := (s.ring r).out.filter (fun x => x.tag != tag) }

theorem removeOut_loc (tag : BitVec 16) : ((removeOut s r tag).ring r).loc = (s.ring r).loc := by
  unfold removeOut
  rw [State.ring_setRing]

theorem finish_eq (hc : (s.ring r).out.find? (fun x => x.tag == c.tag) = some c) :
    finish s r c.tag status detail bytes =
      if (bytes.take c.resultLen).isEmpty then postCompletion (removeOut s r c.tag) r (cqEntry c status detail 0 false)
      else if !(s.ring r).loc && hostFails s c.resultAddr (bytes.take c.resultLen).length then
        postCompletion (ringErr (removeOut s r c.tag) r .fetch) r (cqEntry c sABORTED 5 0 false)
      else postCompletion (ringWrite (removeOut s r c.tag) r c.resultAddr (bytes.take c.resultLen)) r
        (cqEntry c status detail (bytes.take c.resultLen).length false) := by
  unfold finish
  dsimp only
  rw [hc]
  rfl

end

/-- Settles O6: the three ends of a command, by its result. -/
theorem finishPostsOneCompletion : Obligations.FinishPostsOneCompletion := by
  intro s r c status detail bytes hc hl u bs
  refine ⟨fun he => ?none, fun hn hf => ?written, fun hn hf => ?failed⟩
  case none => exact (finish_eq hc).trans (if_pos (List.isEmpty_iff.mpr he))
  case written =>
    rw [finish_eq hc, if_neg (mt List.isEmpty_iff.mp hn), if_neg (by rw [hf]; simp), ringWrite_host ((removeOut_loc _).trans hl)]
    rfl
  case failed =>
    rw [finish_eq hc, if_neg (mt List.isEmpty_iff.mp hn), if_pos (by rw [hf, hl]; rfl)]
    rfl

end Sys2Proof.Machine
end

section
/-! SUPPORT. What the management commands and the lantern's own events come to: refusals, firmware slots, boot, takeover, the survey, and telemetry (R56 to
R72). -/

namespace Sys2Proof.Machine

open Sys2Proof

/-! ## Functions (R56) -/

theorem pf0Only_pf0 {r : RingId} (h : r.fn = 0) (s : State) (k : Unit → Ran) : pf0Only s r k = k () := if_pos h

/-- Settles O8: each of the eleven commands runs under `pf0Only`, which refuses every function but 0. -/
theorem managementIsForPf0 : Obligations.ManagementIsForPf0 := by
  intro s r c p hf
  exact ⟨fun h => refuses_of_run h rfl (if_neg hf), fun h => refuses_of_run h rfl (if_neg hf), fun h => refuses_of_run h rfl (if_neg hf),
    fun h => refuses_of_run h rfl (if_neg hf), fun h => refuses_of_run h rfl (if_neg hf), fun h => refuses_of_run h rfl (if_neg hf),
    fun h => refuses_of_run h rfl (if_neg hf), fun h => refuses_of_run h rfl (if_neg hf), fun h => refuses_of_run h rfl (if_neg hf),
    fun h => refuses_of_run h rfl (if_neg hf), fun h => refuses_of_run h rfl (if_neg hf), rfl⟩

/-! ## Firmware slots (R59, R60, R464, Table 2.18) -/

@[simp] theorem getSlot_setSlot (s : State) (b : Bool) (x : FwSlot) : getSlot (setSlot s b x) b = x := by
  cases b <;> rfl

theorem getSlot_setSlot_not (s : State) (b : Bool) (x : FwSlot) : getSlot (setSlot s (!b) x) b = getSlot s b := by
  cases b <;> rfl

theorem setSlot_keep (s : State) (b : Bool) (x : FwSlot) : (setSlot s b x).keep = s.keep :=
  (setSlot_within s b x).keepSame (by decide) (by decide)

theorem setSlot_mem (s : State) (b : Bool) (x : FwSlot) : (setSlot s b x).mem = s.mem :=
  (setSlot_within s b x).memSame (by decide) (by decide)

section
variable {s : State} {r : RingId} {c : OutCmd} {p : List Byte} {b : List Byte}

theorem cmdFwStage_first (hf : r.fn = 0) (hs : s.lantern.staged = none) :
    cmdFwStage.run (begun s r c p) r { c with payload := p } =
      .fin ((begun s r c p).setLantern { s.lantern with staged := some (c.arg 4 4, stageBytes [] (c.arg 0 4) p) }) sOK 0 [] := by
  unfold cmdFwStage
  simp only [begun_lantern, hs]
  exact if_pos hf

theorem cmdFwCommit_starts (hf : r.fn = 0) (hb : stagedImage s = some b) (hi : imageBad s b = none) (hv : (getSlot s (inactiveSlot s)).st = .valid) :
    cmdFwCommit.run (begun s r c p) r { c with payload := p } = .keep ((begun s r c p).setLantern { s.lantern with fwWriting := true }) 2 := by
  have hb' : stagedImage (begun s r c p) = some b := hb
  have hi' : imageBad (begun s r c p) b = none := hi
  have hv' : (getSlot (begun s r c p) (inactiveSlot (begun s r c p))).st = .valid := hv
  unfold cmdFwCommit
  simp [pf0Only_pf0 hf, hb', hi', hv']

theorem cmdFwCommit_ends (hb : stagedImage s = some b) :
    cmdFwCommit.again s r c =
      .fin ((setSlot s (inactiveSlot s) (slotOfImage .pending b)).setLantern
        { (setSlot s (inactiveSlot s) (slotOfImage .pending b)).lantern with fwWriting := false, staged := none }) sOK 0
        (leBytes 4 (imgVersion b).toNat) := by
  unfold cmdFwCommit
  simp only [hb]
  rfl

theorem cmdFwActivate_restarts {x : Bool} (hf : r.fn = 0) (hp : pendingSlot s = some x) :
    cmdFwActivate.run (begun s r c p) r { c with payload := p } = .gone (activateReset (begun s r c p) x) := by
  have hp' : pendingSlot (begun s r c p) = some x := hp
  unfold cmdFwActivate
  simp only [pf0Only_pf0 hf, hp']

end

/-- Settles O10: each command by what its run comes to. -/
theorem firmwareIsStagedCommittedAndActivated : Obligations.FirmwareIsStagedCommittedAndActivated := by
  intro s r c p hf
  refine ⟨fun h hs => ?stage, fun b h hb hi hv => ?commit, fun b h hb => ?written, fun b h hp => ?activate⟩
  case stage => exact completes_of_run h rfl (cmdFwStage_first hf hs)
  case commit => exact (runCmd_ready h).trans (by rw [cmdFwCommit_starts hf hb hi hv, ranState_keep])
  case written =>
    refine ⟨_, completes_of_again h rfl (cmdFwCommit_ends hb), ?_, ?_, rfl, rfl, setSlot_keep .., setSlot_mem ..⟩
    · exact congrArg FwSlot.st (getSlot_setSlot s (inactiveSlot s) (slotOfImage .pending b))
    · exact congrArg FwSlot.image (getSlot_setSlot s (inactiveSlot s) (slotOfImage .pending b))
  case activate => exact (runCmd_ready h).trans (by rw [cmdFwActivate_restarts hf hp, ranState_gone]; rfl)

/-! ## Boot (R59, R464, R499) -/

theorem promote_of_trial {s : State} (h : (getSlot s s.lantern.bootSlot).st = .trial) :
    (getSlot (promote s) s.lantern.bootSlot).st = .active ∧ (promote s).keep.svn = Nat.max s.keep.svn (getSlot s s.lantern.bootSlot).svn := by
  unfold promote
  simp only [h, ne_eq, not_true_eq_false, if_false]
  refine ⟨?_, by rw [State.setKeep_keep, setSlot_keep, setSlot_keep]⟩
  exact congrArg FwSlot.st ((getSlot_setSlot_not ..).trans (getSlot_setSlot ..))

theorem promote_of_not_trial {s : State} (h : (getSlot s s.lantern.bootSlot).st ≠ .trial) : promote s = s := if_pos h

/-- Reaching READY changes the slots of the lantern and no other part of it. -/
theorem promote_lantern (s : State) : (promote s).lantern = { s.lantern with slotA := (promote s).lantern.slotA, slotB := (promote s).lantern.slotB } := by
  unfold promote
  dsimp only
  split
  · rfl
  · unfold setSlot
    split <;> split <;> rfl

theorem restartDone_lantern (s : State) : (restartDone s).lantern = { s.lantern with restartBy := [] } := by
  have kept : ∀ (f : State → RingId × BitVec 16 × BitVec 16 → State), (∀ t x, (f t x).lantern = t.lantern) →
      (s.lantern.restartBy.foldl f s).lantern = s.lantern := fun f hf =>
    List.foldlRecOn (motive := fun t : State => t.lantern = s.lantern) _ f rfl (fun t ht x _ => (hf t x).trans ht)
  unfold restartDone
  dsimp only
  rw [State.setLantern_lantern, kept _ (fun t x => State.setRing_lantern ..)]

/-- The lantern serves in READY. -/
def serveReady (s : State) : State := s.setLantern { s.lantern with mstate := .ready, serving := true, bootFails := 0 }

/-- The slots and fuses are settled at READY, before commands that waited complete and the links train. -/
def readied (s : State) : State := promote (serveReady s)

theorem bootDone_eq (s : State) : bootDone s = trainLinks (restartDone (readied s)) := rfl

theorem bootDone_lantern (s : State) : (bootDone s).lantern = { (readied s).lantern with restartBy := [] } :=
  ((trainLinks_within _).lanternSame (by decide)).trans (restartDone_lantern _)

theorem bootDone_keep (s : State) : (bootDone s).keep = (readied s).keep :=
  ((trainLinks_within _).keepSame (by decide) (by decide)).trans ((restartDone_within _).keepSame (by decide) (by decide))

/-- The slots are those that reaching READY left. -/
theorem getSlot_bootDone (s : State) (b : Bool) : getSlot (bootDone s) b = getSlot (readied s) b := by
  unfold getSlot
  rw [bootDone_lantern]

theorem otherBoot_bootSlot (s : State) : (otherBoot s).lantern.bootSlot = !s.lantern.bootSlot := rfl

/-- Settles O11: the state that BOOT_COMPLETE reaches, part by part, and the reset of the watchdog. -/
theorem bootReachesReadyOrRestarts : Obligations.BootReachesReadyOrRestarts := by
  intro s ho hm
  refine ⟨fun hk => ?complete, congrArg Host.Outcome.next (if_pos ⟨ho, hm⟩), otherBoot_bootSlot _⟩
  case complete =>
    have lantern : (bootDone s).lantern = { (readied s).lantern with restartBy := [] } := bootDone_lantern s
    have ready : (readied s).lantern = _ := promote_lantern _
    have frame := bootDone_within s
    refine ⟨bootDone s, congrArg Host.Outcome.next (if_pos ⟨ho, hm, hk⟩), ?_, ?_, ?_, ?_, frame.memSame (by decide) (by decide),
      frame.ctxsSame (by decide), fun ht => ?trial, fun ht => ?other⟩
    · rw [lantern, ready]; rfl
    · rw [lantern, ready]; rfl
    · rw [lantern, ready]; rfl
    · rw [lantern]
    case trial =>
      rw [getSlot_bootDone, bootDone_keep]
      exact promote_of_trial (s := serveReady s) ht
    case other =>
      rw [bootDone_keep]
      exact (congrArg State.keep (promote_of_not_trial (s := serveReady s) ht) :)

/-! ## Aborting a command, resets and takeover (R57, R67) -/

theorem ring_setRing_of_ne {s : State} {r q : RingId} (x : Ring) (h : ringKey q ≠ ringKey r) : (s.setRing r x).ring q = s.ring q :=
  Sparse.get_put_ne _ _ _ h

theorem ring_eq_of_key {s : State} {r q : RingId} (h : ringKey q = ringKey r) : s.ring q = s.ring r := by
  unfold State.ring
  rw [h]

/-- Changing the command of one tag, its tag kept, changes no other that is looked up by its tag. -/
theorem find_map_other {l : List OutCmd} {c x d : OutCmd} {n : Nat} (h : l.find? (fun y => y.tag.toNat == n) = some x) (hd : d.tag = c.tag)
    (hx : x.tag ≠ c.tag) : (l.map (fun y => if y.tag == c.tag then d else y)).find? (fun y => y.tag.toNat == n) = some x := by
  have tags : (fun y : OutCmd => y.tag.toNat == n) ∘ (fun y => if y.tag == c.tag then d else y) = fun y => y.tag.toNat == n := by
    funext y
    by_cases hy : y.tag = c.tag <;> simp [hy, hd]
  rw [List.find?_map, tags, h]
  simp [hx]

/-- Another command outstanding in any ring still is once `c` has started. -/
theorem begun_find_other {s : State} {r q : RingId} {c x : OutCmd} {p : List Byte} {n : Nat}
    (h : (s.ring q).out.find? (fun y => y.tag.toNat == n) = some x) (hx : x.tag ≠ c.tag) :
    ((begun s r c p).ring q).out.find? (fun y => y.tag.toNat == n) = some x := by
  by_cases hk : ringKey q = ringKey r
  · rw [ring_eq_of_key hk] at h ⊢
    unfold begun setOut
    rw [State.ring_setRing]
    exact find_map_other h rfl hx
  · unfold begun setOut
    rwa [ring_setRing_of_ne _ hk]

section
variable {s : State} {r : RingId} {c x : OutCmd} {p : List Byte}

theorem cmdCmdAbort_notStarted (hf : r.fn = 0) (hn : x.started = false) (ht : x.tag ≠ c.tag)
    (hx : (s.ring ⟨r.port, c.arg 2 1⟩).out.find? (fun y => y.tag.toNat == c.arg 0 2) = some x) :
    cmdCmdAbort.run (begun s r c p) r { c with payload := p } = .fin (finish (begun s r c p) ⟨r.port, c.arg 2 1⟩ x.tag 7 1 []) sOK 0 [] := by
  have hx' := begun_find_other (r := r) (p := p) hx ht
  unfold cmdCmdAbort abortRing
  simp only [pf0Only_pf0 hf, OutCmd.arg_payload, hx', hn, Bool.not_false, Bool.true_or, if_true, abortEffect_notStarted hn]
  rfl

theorem cmdLanternSwitch_takesOver (hf : r.fn = 0) (hw : standbyWaits s = true) :
    cmdLanternSwitch.run (begun s r c p) r { c with payload := p } =
      .fin (takeover (begun s r c p) (fun x => x.tag == c.tag && x.opcode == c.opcode && x.started)) sOK 0 [] :=
  (if_pos hf).trans (if_pos hw)

end

theorem raiseCause_bit (s : State) (r : RingId) {bit : Nat} (h : bit < 6) : ((raiseCause s r bit).ring r).hisStatus.getLsbD bit = true := by
  rw [raiseCause_ring, BitVec.getLsbD_or, BitVec.getLsbD_ofNat, Nat.testBit_two_pow_self]
  simp [h]

/-- A cause that is set stays set while causes are raised. -/
theorem raiseCause_keeps_bit {s : State} {q : RingId} {n : Nat} (r : RingId) (bit : Nat) (h : (s.ring q).hisStatus.getLsbD n = true) :
    ((raiseCause s r bit).ring q).hisStatus.getLsbD n = true := by
  by_cases hk : ringKey q = ringKey r
  · rw [ring_eq_of_key hk] at h ⊢
    rw [raiseCause_ring]
    simp only [BitVec.getLsbD_or, h, Bool.true_or]
  · have same : (raiseCause s r bit).ring q = s.ring q := by
      unfold raiseCause
      dsimp only
      split <;> exact ring_setRing_of_ne _ hk
    rwa [same]

/-- A cause raised in each of a list of rings is set in each. -/
theorem raiseCause_foldl_bit {bit : Nat} (hb : bit < 6) {l : List RingId} {q : RingId} (s : State) (h : q ∈ l ∨ (s.ring q).hisStatus.getLsbD bit = true) :
    ((l.foldl (fun t r => raiseCause t r bit) s).ring q).hisStatus.getLsbD bit = true := by
  induction l generalizing s with
  | nil => exact h.resolve_left List.not_mem_nil
  | cons r l ih =>
    refine ih _ ?_
    rcases h with h | h
    · rcases List.mem_cons.mp h with rfl | h
      · exact .inr (raiseCause_bit s q hb)
      · exact .inl h
    · exact .inr (raiseCause_keeps_bit r bit h)

/-- R67: a takeover raises LANTERN_CHANGE in every ring. -/
theorem takeover_raises (s : State) (running : OutCmd → Bool) {q : RingId} (h : q ∈ ringIds) : ((takeover s running).ring q).hisStatus.getLsbD 3 = true :=
  raiseCause_foldl_bit (by decide) _ (.inl h)

/-- Settles O12: the abort of another command, the warm reset, and the two causes of a takeover. -/
theorem abortResetAndTakeover : Obligations.AbortResetAndTakeover := by
  refine ⟨fun s r c x p hf h hx ht hn => ?abort, fun s r c p hf h => ?reset, fun s r c p hf h hw => ?switch, fun s ho hs hw => ?miss⟩
  case abort => exact completes_of_run h rfl (cmdCmdAbort_notStarted hf hn ht hx)
  case reset =>
    have run : cmdModuleReset.run (begun s r c p) r { c with payload := p } = .gone (warmReset (begun s r c p)) := if_pos hf
    exact (runCmd_ready h).trans (by rw [run, ranState_gone]; rfl)
  case switch => exact completes_of_run h rfl (cmdLanternSwitch_takesOver hf hw)
  case miss =>
    have frame := takeover_within s (fun _ => false)
    have all : (s.on && s.lantern.serving && standbyWaits s) = true := by rw [ho, hs, hw]; rfl
    exact ⟨_, congrArg Host.Outcome.next (if_pos all), rfl, fun q hq => takeover_raises s _ hq, frame.groupsSame (by decide),
      frame.keepSame (by decide) (by decide), frame.memSame (by decide) (by decide)⟩

/-! ## Survey, attach and detach (R68 to R72) -/

section
variable {s : State} {r : RingId} {c : OutCmd} {p : List Byte}

theorem cmdSurveyStart_plain (hf : r.fn = 0) (h : c.arg 7 1 = 0) :
    cmdSurveyStart.run (begun s r c p) r { c with payload := p } =
      .fin ((begun s r c p).setLantern
        { s.lantern with survey := { Survey.fresh with st := 1, lengths := argLengths c, shelfAxis := c.arg 6 1 }, lengths := argLengths c }) sOK 0 [] := by
  refine (if_pos hf).trans (if_neg ?_)
  rw [OutCmd.arg_payload, h]
  decide

theorem cmdSurveyStart_seed (hf : r.fn = 0) (h : c.arg 7 1 = 1) :
    cmdSurveyStart.run (begun s r c p) r { c with payload := p } =
      .fin (sendProbes ((begun s r c p).setLantern
        { s.lantern with
          survey := { Survey.fresh with st := 2, flags := 1, lengths := argLengths c, shelfAxis := c.arg 6 1, fabricId := some 0, coord := [0, 0, 0, 0, 0, 0] },
          lengths := argLengths c, fabricId := 0, coord := [0, 0, 0, 0, 0, 0], fabValid := true }) none) sOK 0 [] :=
  (if_pos hf).trans (if_pos h)

theorem cmdSurveyAccept_joins (hf : r.fn = 0) (h : s.lantern.mstate = .mismatch) :
    cmdSurveyAccept.run (begun s r c p) r { c with payload := p } =
      .fin ((begun s r c p).setLantern { s.lantern with mstate := .joined, fabValid := true }) sOK 0 [] :=
  (if_pos hf).trans (if_neg (not_not_intro h))

theorem cmdSurveyAccept_refuses (hf : r.fn = 0) (h : s.lantern.mstate ≠ .mismatch) :
    cmdSurveyAccept.run (begun s r c p) r { c with payload := p } = .fin (begun s r c p) 5 (mstateCode s.lantern.mstate) [] :=
  (if_pos hf).trans (if_pos h)

/-- ATTACH in READY with a surveyed place: the segments known dead are forgotten. -/
theorem cmdAttach_joins (hf : r.fn = 0) (hm : s.lantern.mstate = .ready) (hs : s.lantern.survey.st = 2) :
    cmdAttach.run (begun s r c p) r { c with payload := p } =
      .fin (((begun s r c p).setFabric { s.fabric with dead := [] }).setLantern { s.lantern with mstate := .joined, fabValid := true }) sOK 0 [] := by
  unfold cmdAttach
  simp only [pf0Only_pf0 hf, begun_lantern, begun_fabric, hm, hs]
  rfl

theorem cmdAttach_refuses (hf : r.fn = 0) (hr : s.lantern.mstate ≠ .ready) (hd : s.lantern.mstate ≠ .detached) :
    cmdAttach.run (begun s r c p) r { c with payload := p } = .fin (begun s r c p) 5 (mstateCode s.lantern.mstate) [] :=
  (if_pos hf).trans (if_pos ⟨hr, hd⟩)

/-- The state in which a DETACH goes to work. -/
def detaching (s : State) (r : RingId) (c : OutCmd) : State :=
  s.setLantern { s.lantern with mstate := .detaching, detachBy := some (r, c.tag), detachMode := c.arg 0 1 }

theorem cmdDetach_immediate (hf : r.fn = 0) (hm : s.lantern.mstate = .joined) (h : c.arg 0 1 = 1) :
    cmdDetach.run (begun s r c p) r { c with payload := p } = .fin (detachEnd (detachHalt (detaching (begun s r c p) r c))) sOK 0 [] :=
  (if_pos hf).trans ((if_neg (not_not_intro hm)).trans (if_pos h))

theorem cmdDetach_refuses (hf : r.fn = 0) (hm : s.lantern.mstate ≠ .joined) :
    cmdDetach.run (begun s r c p) r { c with payload := p } = .fin (begun s r c p) 5 (mstateCode s.lantern.mstate) [] :=
  (if_pos hf).trans (if_pos hm)

end

theorem detachEnd_mstate (s : State) : (detachEnd s).lantern.mstate = .detached := rfl

theorem sendProbes_lantern (s : State) (e : Option Nat) : (sendProbes s e).lantern = s.lantern := (sendProbes_within s e).lanternSame (by decide)

/-- The first probe that checks out places the module. -/
theorem surveyProbe_places {s : State} {port : Nat} {x : SurveyProbe} (hv : s.lantern.survey.st = 1) (ho : shelfOrdered x.shelf = true)
    (hn : shelfNeighbours s port x = true) :
    (surveyProbe s port x).lantern.survey.st = 2 ∧ (surveyProbe s port x).lantern.coord = probeCoord port x ∧
      (surveyProbe s port x).lantern.fabValid = true ∧ (surveyProbe s port x).lantern.survey.port = some port := by
  unfold surveyProbe
  simp only [hv, ho, hn, or_true, if_true, sendProbes_lantern, State.setLantern_lantern, Bool.and_self, and_self]

/-- A probe that disagrees with the surveyed place is a conflict. -/
theorem surveyProbe_conflicts {s : State} {port : Nat} {x : SurveyProbe} (hv : s.lantern.survey.st = 2) (hc : probeCoord port x ≠ s.lantern.survey.coord) :
    surveyProbe s port x = s.setLantern
      { s.lantern with
        survey := { s.lantern.survey with st := 3, fabricId := none, confCoord := probeCoord port x, confPort := some port }, fabValid := false,
        fabricId := 0, coord := [0, 0, 0, 0, 0, 0] } := by
  unfold surveyProbe
  simp [hv, hc]

/-- Settles O14: each command by the state it finds, then the probes. -/
theorem surveyAttachAndDetach : Obligations.SurveyAttachAndDetach := by
  refine ⟨fun s r c p hf => ⟨fun h ha => ?plain, fun h ha => ?seed, fun h hm => ?accept, fun h hm => ?noAccept, fun h hm hs => ?attach,
    fun h hr hd => ?noAttach, fun h hm ha => ?detach, fun h hm => ?noDetach⟩,
    fun s port x hp ho hl hm => ⟨fun hv hs hn => ?place, fun hv hc => ?conflict⟩⟩
  case plain => exact ⟨_, completes_of_run h rfl (cmdSurveyStart_plain hf ha), rfl, rfl, rfl, rfl⟩
  case seed =>
    refine ⟨_, completes_of_run h rfl (cmdSurveyStart_seed hf ha), ?_, ?_, ?_, ?_, (sendProbes_within ..).memSame (by decide) (by decide)⟩ <;>
      rw [sendProbes_lantern] <;> rfl
  case accept => exact completes_of_run h rfl (cmdSurveyAccept_joins hf hm)
  case noAccept => exact refuses_of_run h rfl (cmdSurveyAccept_refuses hf hm)
  case attach => exact ⟨_, completes_of_run h rfl (cmdAttach_joins hf hm hs), rfl, rfl, rfl, rfl⟩
  case noAttach => exact refuses_of_run h rfl (cmdAttach_refuses hf hr hd)
  case detach => exact ⟨_, completes_of_run h rfl (cmdDetach_immediate hf hm ha), detachEnd_mstate _⟩
  case noDetach => exact refuses_of_run h rfl (cmdDetach_refuses hf hm)
  case place => exact ⟨surveyProbe s port x, congrArg Host.Outcome.next (if_pos ⟨hp, ho, hl, hm⟩), surveyProbe_places hv hs hn⟩
  case conflict =>
    refine ⟨surveyProbe s port x, congrArg Host.Outcome.next (if_pos ⟨hp, ho, hl, hm⟩), ?_⟩
    rw [surveyProbe_conflicts hv hc]
    exact ⟨rfl, rfl, rfl, rfl, rfl⟩

/-- R69: the limit of a graceful DETACH turns it into an immediate one. -/
theorem commandTimeout_detach {s : State} {r : RingId} {c : OutCmd} {ms : Nat} (h : Waiting cmdDetach s r c) (hm : c.timeoutMs ≤ ms) :
    commandTimeout s r c.tag ms = finish (detachEnd (detachHalt s)) r c.tag sOK 1 [] := by
  have code : c.opcode = 0x010A := BitVec.eq_of_toNat_eq h.code
  unfold commandTimeout
  simp only [h.outstanding, hm.not_gt, if_false, code, h.begun, and_self, if_true]

/-- Settles O15: the one branch of COMMAND_TIMEOUT that a waiting DETACH takes. -/
theorem gracefulDetachTurnsImmediate : Obligations.GracefulDetachTurnsImmediate :=
  fun _ _ _ _ h hm => congrArg Host.Outcome.next (commandTimeout_detach h hm)

/-! ## Telemetry and shedding (R63 to R66) -/

theorem listResult_fits {s : State} {c : OutCmd} {recs : List (List Byte)} (h : recs.flatten.length ≤ c.resultLen) :
    listResult s c (fun _ => []) recs = .fin s sOK 0 recs.flatten := by
  unfold listResult
  rw [List.length_flatten] at h
  simp [h]

/-- The bytes of TLM_READ when every identifier is known (Table 2.20). -/
theorem tlmBytes_known {s : State} {fn : Nat} {ids : List Nat} (h : ids.all tlmKnown = true) :
    tlmBytes s fn ids = leBytes 8 s.time.toNat ++ leBytes 8 (tlmEpoch s fn) ++ ids.flatMap (fun i => leBytes 8 (s.counter i)) := by
  have each : ids.flatMap (fun i => leBytes 8 (if tlmKnown i then s.counter i else 2 ^ 64 - 1)) = ids.flatMap (fun i => leBytes 8 (s.counter i)) := by
    rw [List.flatMap_def, List.flatMap_def, List.map_congr_left (fun i hi => by rw [if_pos (List.all_eq_true.mp h i hi)])]
  unfold tlmBytes
  rw [each]

theorem tlmBytes_length (s : State) (fn : Nat) (ids : List Nat) : (tlmBytes s fn ids).length = 16 + 8 * ids.length := by
  unfold tlmBytes
  simp only [List.length_append, leBytes_length, List.length_flatMap, List.map_const', List.sum_replicate, smul_eq_mul]
  omega

theorem cmdTlmRead_known {s : State} {r : RingId} {c : OutCmd} {p : List Byte} {ids : List Nat}
    (hi : ids = (List.range (p.length / 4)).map (fun i => field p (4 * i) 4)) (hk : ids.all tlmKnown = true) (hl : 16 + 8 * ids.length ≤ c.resultLen) :
    cmdTlmRead.run (begun s r c p) r { c with payload := p } = .fin (begun s r c p) sOK 0 (tlmBytes s r.fn ids) := by
  subst hi
  refine if_pos ⟨?_, hk⟩
  exact (tlmBytes_length ..).trans_le hl

theorem telemetrySample_takes {s : State} (h : s.lantern.tlmSkip = 0) :
    (telemetrySample s).lantern.samples = s.lantern.samples ++ [{ time := s.time, epoch := anyEpoch s, values := s.counters }] := by
  unfold telemetrySample
  simp only [h, Nat.lt_irrefl, if_false, State.setLantern_lantern]

theorem shedThreshold_three : shedThreshold 3 = 97 := rfl

theorem shedStep_quiet {x : Nat} (low : Nat) (h : x ≤ 85) : (shedStep 0 low x).1 = 0 := by
  unfold shedStep
  simp [show ¬97 < x by omega, show ¬92 < x by omega, show ¬85 < x by omega]

theorem shedStep_highest {lv x : Nat} (low : Nat) (h : 97 < x) (hl : lv ≤ 3) : (shedStep lv low x).1 = 3 := by
  unfold shedStep
  rw [if_pos h]
  rcases Nat.lt_or_ge lv 3 with lt | ge
  · rw [if_pos lt]
  · obtain rfl : lv = 3 := Nat.le_antisymm hl ge
    rw [if_neg (Nat.lt_irrefl 3), if_neg (by rw [shedThreshold_three]; omega)]

/-- A window without classes gives the module's own level. -/
theorem loadWindow_shed (s : State) (x : Nat) : (loadWindow s x []).lantern.shed = (shedStep s.lantern.shed s.lantern.shedLow x).1 := rfl

theorem loadWindow_load (s : State) (x : Nat) : (loadWindow s x []).lantern.load = x := rfl

theorem execLoadWindow_eq {s : State} (ho : s.on = true) (hs : s.lantern.serving = true) {x : Nat} (hx : x ≤ 100) :
    exec (.loadWindow x []) s = .next (loadWindow s x []) := by
  have holds : (s.on && s.lantern.serving && decide (x ≤ 100) && ([] : List Nat).all (fun y => decide (y ≤ 100))) = true := by
    rw [ho, hs, decide_eq_true hx]; rfl
  exact congrArg Host.Outcome.next (if_pos holds)

/-- Settles O16: the three commands by their runs, then the sample and the windows. -/
theorem telemetryAndShedding : Obligations.TelemetryAndShedding := by
  refine ⟨fun s r c p => ⟨fun h hl => ?list, fun ids h hi hk hl => ?read, fun h => ?cfg⟩,
    fun s ho hs => ⟨fun hk => ?sample, fun x hx hz => ?quiet, fun x hx hx' hl => ?highest⟩⟩
  case list => exact completes_of_run h rfl (listResult_fits hl)
  case read =>
    have bytes := tlmBytes_known (s := s) (fn := r.fn) hk
    exact completes_of_run h rfl ((cmdTlmRead_known hi hk hl).trans (by rw [bytes]))
  case cfg => exact completes_of_run h rfl rfl
  case sample =>
    have frame := telemetrySample_within s
    have serves : (s.on && s.lantern.serving) = true := by rw [ho, hs]; rfl
    exact ⟨_, congrArg Host.Outcome.next (if_pos serves), telemetrySample_takes hk, frame.memSame (by decide) (by decide),
      frame.keepSame (by decide) (by decide)⟩
  case quiet =>
    refine ⟨_, execLoadWindow_eq ho hs (by omega), ?_, loadWindow_load s x, (loadWindow_within s x []).memSame (by decide) (by decide)⟩
    rw [loadWindow_shed, hz]
    exact shedStep_quiet _ hx
  case highest =>
    refine ⟨_, execLoadWindow_eq ho hs hx', ?_, loadWindow_load s x⟩
    rw [loadWindow_shed]
    exact shedStep_highest _ hx hl

end Sys2Proof.Machine
end

section
/-! SUPPORT. What a frame of the management chain comes to: passed on as it came, answered, or acted on (R73 to R78, Tables 2.23 to 2.23b). -/

namespace Sys2Proof.Machine

open Sys2Proof

/-! ## Frames that go on as they came (R74) -/

/-- The frame is not for this module to act on: the chain passes through, the CRC fails, or the frame is addressed to another module. -/
def NotOurs (s : State) (f : ChainFrame) : Prop := passing s = true ∨ chainGood f = false ∨ (f.dest ≠ 0xFF ∧ s.lantern.chainAddr ≠ some f.dest)

section
variable {s : State} {f : ChainFrame}

/-- The two places at which a row sends such a frame on: before it looks at the address, and after. -/
theorem NotOurs.forwards (h : NotOurs s f) : (passing s || !chainGood f) = true ∨ (f.dest ≠ 0xFF ∧ s.lantern.chainAddr ≠ some f.dest) := by
  rcases h with h | h | h
  · exact .inl (by rw [h]; rfl)
  · exact .inl (by rw [h]; exact Bool.or_true _)
  · exact .inr h

theorem execEnum_passes (ht : f.type = 0x01) (h : NotOurs s f) : execEnum f s = .next (sendFrame s f) := by
  unfold execEnum
  rw [if_neg (not_not_intro ht)]
  rcases h.forwards with hp | ⟨hd, ha⟩
  · rw [if_pos hp]
  · rw [if_neg hd, if_neg ha, ite_self]

theorem execHealthReq_passes (ht : f.type = 0x02) (h : NotOurs s f ∨ f.dest = 0xFF) : execHealthReq f s = .next (sendFrame s f) := by
  have goesOn : (passing s || !chainGood f || decide (f.dest = 0xFF) || decide (s.lantern.chainAddr ≠ some f.dest)) = true := by
    rcases h with (h | h | ⟨-, h⟩) | h <;> simp [h]
  unfold execHealthReq
  rw [if_neg (not_not_intro ht), if_pos goesOn]

theorem chainIn_passes {type : Byte} {judge : ChainFrame → State → Judgment} (ht : f.type = type) (h : NotOurs s f) :
    chainIn type judge f s = sendFrame s f := by
  unfold chainIn
  rw [if_neg (not_not_intro ht)]
  rcases h.forwards with hp | ⟨hd, ha⟩
  · rw [if_pos hp]
  · rw [if_neg hd, if_neg ha, ite_self]

theorem execChainFrameOther_passes (ht : listedType f.type = true → f.type = 0x03 ∨ f.type = 0x0A ∨ f.type = 0x0B) (h : NotOurs s f) :
    execChainFrameOther f s = .next (sendFrame s f) := by
  have ours : ¬(listedType f.type && f.type != 0x03 && f.type != 0x0A && f.type != 0x0B) = true := by
    cases hl : listedType f.type
    · simp
    · rcases ht hl with h | h | h <;> simp [h]
  have goesOn : (passing s || !chainGood f || decide (f.dest = 0xFF) || decide (s.lantern.chainAddr ≠ some f.dest)) = true := by
    rcases h with h | h | ⟨-, h⟩ <;> simp [h]
  unfold execChainFrameOther
  rw [if_neg ours, if_pos goesOn]

end

/-- A type of Table 2.23 that has no row of its own is a reply. -/
theorem reply_of_listed {t : Byte} (hl : listedType t = true) (h1 : t ≠ 0x01) (h2 : t ≠ 0x02) (h4 : t ≠ 0x04) (h5 : t ≠ 0x05) (h6 : t ≠ 0x06)
    (h7 : t ≠ 0x07) (h8 : t ≠ 0x08) (h9 : t ≠ 0x09) : t = 0x03 ∨ t = 0x0A ∨ t = 0x0B := by
  unfold listedType at hl
  rw [Bool.and_eq_true, decide_eq_true_iff, decide_eq_true_iff] at hl
  bv_omega

/-- Each row passes on what is not this module's. -/
theorem chainRow_passes {s : State} {f : ChainFrame} (h : NotOurs s f) : exec (chainRow f) s = .next (sendFrame s f) := by
  unfold chainRow
  split_ifs with h1 h2 h4 h5 h6 h7 h8 h9
  · exact execEnum_passes h1 h
  · exact execHealthReq_passes h2 (.inl h)
  · exact congrArg Host.Outcome.next (chainIn_passes h4 h)
  · exact congrArg Host.Outcome.next (chainIn_passes h5 h)
  · exact congrArg Host.Outcome.next (chainIn_passes h6 h)
  · exact congrArg Host.Outcome.next (chainIn_passes h7 h)
  · exact congrArg Host.Outcome.next (chainIn_passes h8 h)
  · exact congrArg Host.Outcome.next (chainIn_passes h9 h)
  · exact execChainFrameOther_passes (fun hl => reply_of_listed hl h1 h2 h4 h5 h6 h7 h8 h9) h

theorem chainRow_health {f : ChainFrame} (h : f.type = 0x02) : chainRow f = .healthReq f := by
  unfold chainRow
  rw [h]
  rfl

/-- Settles O17: the row of a frame by its type, and a broadcast HEALTH_REQ. -/
theorem chainFramesGoOnUntouched : Obligations.ChainFramesGoOnUntouched := by
  intro s f
  refine ⟨chainRow_passes, fun hd ht => ?health, rfl, rfl, rfl⟩
  case health =>
    rw [chainRow_health ht]
    exact execHealthReq_passes ht (.inr hd)

/-! ## ENUM (R75) -/

theorem leNat_lt (bs : List Byte) : leNat bs < 256 ^ bs.length := by
  induction bs with
  | nil => decide
  | cons b bs ih =>
    rw [leNat, List.length_cons, Nat.pow_succ]
    have := b.isLt
    omega

theorem field_lt (bs : List Byte) (o n : Nat) : field bs o n < 256 ^ n :=
  (leNat_lt _).trans_le (Nat.pow_le_pow_right (by decide) (List.length_take_le ..))

/-- A two-byte field kept in a 16-bit register reads as it was. -/
theorem toNat_field_two (bs : List Byte) (o : Nat) : (BitVec.ofNat 16 (field bs o 2)).toNat = field bs o 2 := by
  rw [BitVec.toNat_ofNat]
  exact Nat.mod_eq_of_lt (field_lt bs o 2)

section
variable {s : State} {f : ChainFrame}

/-- A broadcast ENUM of a good form enumerates. -/
theorem execEnum_enumerates (hp : passing s = false) (hg : chainGood f = true) (hd : f.dest = 0xFF) (hl : f.len = f.payload.length) (h3 : 3 ≤ f.len)
    (hm : f.len < 1024) (ht : f.type = 0x01) : execEnum f s = .next (enumerate s f) := by
  have ours : ¬(passing s || !chainGood f) = true := by rw [hp, hg]; decide
  unfold execEnum
  rw [if_neg (not_not_intro ht), if_neg ours, if_pos hd, if_pos ⟨hl, h3, hm⟩]

theorem enumerate_addresses (h : (byteAt f.payload 2).toNat ≤ 0x40) :
    enumerate s f = sendFrame
      (s.setLantern { s.lantern with chainAddr := some (byteAt f.payload 2), shelf := BitVec.ofNat 16 (field f.payload 0 2) })
      (sealFrame f.dest f.src f.type f.seq (f.payload.set 2 (byteAt f.payload 2 + 1) ++ [s.part.slotid.setWidth 8])) :=
  if_pos h

theorem enumerate_full (h : 0x40 < (byteAt f.payload 2).toNat) :
    enumerate s f = sendFrame (s.setLantern { s.lantern with chainAddr := none, shelf := BitVec.ofNat 16 (field f.payload 0 2) })
      (sealFrame f.dest f.src f.type f.seq (f.payload ++ [0xFF])) :=
  if_neg h.not_ge

/-! ## Addressed frames (R76 to R78) -/

theorem ownChain_of_addressed (h : Addressed s f) : ownChain s = f.dest := by
  obtain ⟨-, -, -, ha⟩ := h
  unfold ownChain
  rw [ha]
  rfl

/-- An addressed frame is none that goes on as it came. -/
theorem addressed_not_forwarded (h : Addressed s f) :
    ¬(passing s || !chainGood f || decide (f.dest = 0xFF) || decide (s.lantern.chainAddr ≠ some f.dest)) = true := by
  obtain ⟨hp, hg, hd, ha⟩ := h
  rw [hp, hg, decide_eq_false hd, decide_eq_false (not_not_intro ha)]
  decide

theorem execHealthReq_answers (h : Addressed s f) (ht : f.type = 0x02) (hl : f.len = 0) (hp : f.payload = []) :
    execHealthReq f s = .next (reportAlerts (sendFrame s (sealFrame f.src f.dest 0x03 f.seq (healthBytes s)))) := by
  have good : ¬(!plain f 0) = true := by unfold plain; rw [hl, hp]; decide
  unfold execHealthReq
  rw [if_neg (not_not_intro ht), if_neg (addressed_not_forwarded h), if_neg good, ownChain_of_addressed h]

theorem execChainFrameOther_unknown (h : Addressed s f) (hl : listedType f.type = false) :
    execChainFrameOther f s = .next (sendFrame s (sealFrame f.src f.dest 0x0B f.seq [f.seq, 1])) := by
  unfold execChainFrameOther
  rw [hl, if_neg (by simp), if_neg (addressed_not_forwarded h), if_neg (by decide)]
  unfold nakFrame
  rw [ownChain_of_addressed h]
  rfl

/-- An addressed frame of its row's type is answered. -/
theorem chainIn_addressed {type : Byte} {judge : ChainFrame → State → Judgment} (h : Addressed s f) (ht : f.type = type) :
    chainIn type judge f s = answerFrame s f (judge f s) := by
  obtain ⟨hp, hg, hd, ha⟩ := h
  have ours : ¬(passing s || !chainGood f) = true := by rw [hp, hg]; decide
  unfold chainIn
  rw [if_neg (not_not_intro ht), if_neg ours, if_neg hd, if_pos ha]

/-- R78: a frame that repeats the last one acted on draws the same reply. -/
theorem answerFrame_repeats {q : ChainFrame} (h : Sparse.find? s.lantern.chainLast f.src.toNat = some (f.type, f.seq, q)) (j : Judgment) :
    answerFrame s f j = sendFrame s q := by
  unfold answerFrame
  rw [h]
  simp

/-- A frame that is not the last one acted on is acknowledged, remembered and acted on. -/
theorem answerFrame_acts (h : ∀ q, Sparse.find? s.lantern.chainLast f.src.toNat ≠ some (f.type, f.seq, q)) (g : State → State) :
    answerFrame s f (.act g) = g (acked s f) := by
  unfold answerFrame
  cases hx : Sparse.find? s.lantern.chainLast f.src.toNat with
  | none => rfl
  | some x =>
    obtain ⟨t, q, y⟩ := x
    have fresh : ¬(t = f.type ∧ q = f.seq) := by
      rintro ⟨rfl, rfl⟩
      exact h y hx
    simp only [fresh, if_false]
    rfl

theorem chainRow_repeats {q : ChainFrame} (h : Addressed s f) (h4 : 0x04 ≤ f.type.toNat) (h9 : f.type.toNat ≤ 0x09)
    (hq : Sparse.find? s.lantern.chainLast f.src.toNat = some (f.type, f.seq, q)) : exec (chainRow f) s = .next (sendFrame s q) := by
  have again {type : Byte} {judge : ChainFrame → State → Judgment} (ht : f.type = type) : chainIn type judge f s = sendFrame s q :=
    (chainIn_addressed h ht).trans (answerFrame_repeats hq _)
  unfold chainRow
  split_ifs with h1 h2 h4' h5 h6 h7 h8 h9'
  · exact absurd h4 (by rw [h1]; decide)
  · exact absurd h4 (by rw [h2]; decide)
  · exact congrArg Host.Outcome.next (again h4')
  · exact congrArg Host.Outcome.next (again h5)
  · exact congrArg Host.Outcome.next (again h6)
  · exact congrArg Host.Outcome.next (again h7)
  · exact congrArg Host.Outcome.next (again h8)
  · exact congrArg Host.Outcome.next (again h9')
  · bv_omega

end

/-- Settles O18: ENUM by its token, then each kind of addressed frame. -/
theorem chainEnumeratesAndReplies : Obligations.ChainEnumeratesAndReplies := by
  refine ⟨fun s f hp hg hd hl h3 hm ht token htok => ?enum, fun s f h => ⟨fun ht hl hp => ?health, fun hl => ?unknown, fun q h4 h9 hq => ?again⟩⟩
  case enum =>
    subst htok
    have row : exec (.enum f) s = .next (enumerate s f) := execEnum_enumerates hp hg hd hl h3 hm ht
    refine ⟨fun hle => ⟨_, row.trans (congrArg Host.Outcome.next (enumerate_addresses hle)), rfl, toNat_field_two _ _, rfl, rfl⟩,
      fun hlt => ⟨_, row.trans (congrArg Host.Outcome.next (enumerate_full hlt)), rfl, rfl, rfl⟩⟩
  case health => exact ⟨_, execHealthReq_answers h ht hl hp, rfl, rfl, rfl, rfl⟩
  case unknown => exact ⟨_, execChainFrameOther_unknown h hl, rfl, rfl, rfl⟩
  case again => exact chainRow_repeats h h4 h9 hq

/-! ## Actions (R497, R508, Table 2.23b) -/

section
variable {s : State} {f : ChainFrame}

theorem plain_of {n : Nat} (hl : f.len = n) (hp : f.payload.length = n) : plain f n = true := by
  unfold plain
  rw [hl, hp, beq_self_eq_true, Bool.and_self]

/-- A frame of a good form is judged by its own conditions alone, outside SCRAPPED and a pending transition. -/
theorem judged_acts {good : Bool} (hg : good = true) (h5 : s.keep.lc ≠ 5) (h7 : s.keep.lc ≠ 7) (g : State → State) : judged s good (.act g) = .act g := by
  unfold judged
  simp [hg, h5, h7]

/-- A fresh action frame of its row's type that is judged good is acknowledged, remembered and acted on. -/
theorem chainIn_acts {type : Byte} {judge : ChainFrame → State → Judgment} {g : State → State} (h : Addressed s f)
    (hn : ∀ q, Sparse.find? s.lantern.chainLast f.src.toNat ≠ some (f.type, f.seq, q)) (ht : f.type = type) (hj : judge f s = .act g) :
    chainIn type judge f s = g (acked s f) := by
  rw [chainIn_addressed h ht, hj, answerFrame_acts hn]

section
variable (h5 : s.keep.lc ≠ 5) (h7 : s.keep.lc ≠ 7)
include h5 h7

theorem judgePowerOn_acts (hl : f.len = 0) (hp : f.payload = []) (hs : s.carrier.power = .standby) (he : s.carrier.pwrEn = true) :
    judgePowerOn f s = .act coldStart := by
  unfold judgePowerOn
  rw [if_pos ⟨hs, he⟩, judged_acts (plain_of hl (by rw [hp]; rfl)) h5 h7]

theorem judgePowerOff_acts (hl : f.len = 0) (hp : f.payload = []) (ho : s.on = true) (hm : s.lantern.mstate = .ready ∨ s.lantern.mstate = .recovery) :
    judgePowerOff f s = .act chainPowerOff := by
  unfold judgePowerOff
  rw [if_pos ⟨ho, hm.imp_right (fun k => .inr (.inr k))⟩, judged_acts (plain_of hl (by rw [hp]; rfl)) h5 h7]

theorem judgeStop_acts {m : Byte} (hl : f.len = 1) (hp : f.payload = [m]) (ho : mainIsOff s = false) : judgeStop f s = .act (chainStop m) := by
  unfold judgeStop
  rw [if_neg (by rw [ho]; decide), judged_acts (plain_of hl (by rw [hp]; rfl)) h5 h7, hp]
  rfl

theorem judgeReset_acts (hl : f.len = 0) (hp : f.payload = []) (ho : mainIsOff s = false) : judgeReset f s = .act warmReset := by
  unfold judgeReset
  rw [if_neg (by rw [ho]; decide), judged_acts (plain_of hl (by rw [hp]; rfl)) h5 h7]

theorem judgeRecovery_acts {k : Byte} (hl : f.len = 1) (hp : f.payload = [k]) (hk : k.toNat < 2) (ht : s.carrier.power ≠ .tripped) :
    judgeRecovery f s = .act (chainRecovery k) := by
  have slot : byteAt f.payload 0 = k := by rw [hp]; rfl
  have good : (plain f 1 && decide ((byteAt f.payload 0).toNat < 2)) = true := by
    rw [plain_of hl (by rw [hp]; rfl), slot, decide_eq_true hk]; rfl
  unfold judgeRecovery
  rw [if_neg ht, judged_acts good h5 h7, slot]

theorem judgeRescue_acts (hl : f.len = f.payload.length) (h4 : 4 ≤ f.len) (hm : f.len ≤ 1024) (ho : mainIsOff s = false)
    (hw : wholeRescue (rescueWith s f) = none) : judgeRescue f s = .act (stageRescue f) := by
  have good : (f.len == f.payload.length && decide (4 ≤ f.len) && decide (f.len ≤ 1024)) = true := by
    rw [decide_eq_true h4, decide_eq_true hm, beq_iff_eq.mpr hl]; rfl
  unfold judgeRescue
  rw [if_neg (by rw [ho]; decide), hw]
  exact judged_acts good h5 h7 _

end

theorem clearAlert_keeps (t : State) (n : Nat) :
    (clearAlert t n).carrier.power = t.carrier.power ∧ (clearAlert t n).ctxs = t.ctxs ∧ (clearAlert t n).groups = t.groups ∧
      (clearAlert t n).lantern = t.lantern := by
  unfold clearAlert
  split <;> exact ⟨rfl, rfl, rfl, rfl⟩

theorem offAlerts_keeps (t : State) :
    (offAlerts t).carrier.power = t.carrier.power ∧ (offAlerts t).ctxs = t.ctxs ∧ (offAlerts t).groups = t.groups ∧
      (offAlerts t).lantern = t.lantern := by
  obtain ⟨power, ctxs, groups, lantern⟩ := clearAlert_keeps (clearAlert t aTHERMAL_CRITICAL) aCOOLANT_FLOW
  obtain ⟨power', ctxs', groups', lantern'⟩ := clearAlert_keeps t aTHERMAL_CRITICAL
  exact ⟨power.trans power', ctxs.trans ctxs', groups.trans groups', lantern.trans lantern'⟩

/-- POWER_OFF leaves STANDBY with no context and no group, and the module's chain address as it was. -/
theorem chainPowerOff_leaves (t : State) :
    (chainPowerOff t).carrier.power = .standby ∧ (chainPowerOff t).ctxs = [] ∧ (chainPowerOff t).groups = [] ∧
      (chainPowerOff t).lantern.chainAddr = t.lantern.chainAddr := by
  have closed : ((t.ctxs.map (fun e => e.1)).foldl (fun u n => closeContext u n 3) t).lantern = t.lantern :=
    (Within.foldl (Within.refl _ _) (fun u n => closeContext_within u n 3)).lanternSame (by decide)
  obtain ⟨power, ctxs, groups, lantern⟩ := offAlerts_keeps (mainOff ((t.ctxs.map (fun e => e.1)).foldl (fun u n => closeContext u n 3) t) .standby)
  exact ⟨power, ctxs, groups, (congrArg Lantern.chainAddr lantern).trans (congrArg Lantern.chainAddr closed :)⟩

/-- Bytes of a rescue image that is not whole yet are staged. -/
theorem stageRescue_stages (h : wholeRescue (rescueWith s f) = none) : stageRescue f s = s.setLantern { s.lantern with rescue := rescueWith s f } := by
  unfold stageRescue
  dsimp only
  rw [h]

end

/-- Settles O19: each action frame by its judgment. -/
theorem chainActionsAreAcknowledgedAndDone : Obligations.ChainActionsAreAcknowledgedAndDone := by
  intro s f h hn h5 h7
  refine ⟨fun ht hl hp hs he => ?powerOn, fun ht hl hp ho hm => ?powerOff, fun m ht hl hp ho => ?stop, fun ht hl hp ho => ?reset,
    fun k ht hl hp hk hx => ?recovery, fun ht hl h4 hm ho hw => ?rescue, ?ack⟩
  case powerOn => exact congrArg Host.Outcome.next (chainIn_acts h hn ht (judgePowerOn_acts h5 h7 hl hp hs he))
  case powerOff =>
    exact ⟨_, congrArg Host.Outcome.next (chainIn_acts h hn ht (judgePowerOff_acts h5 h7 hl hp ho hm)), chainPowerOff_leaves (acked s f)⟩
  case stop => exact congrArg Host.Outcome.next (chainIn_acts h hn ht (judgeStop_acts h5 h7 hl hp ho))
  case reset => exact congrArg Host.Outcome.next (chainIn_acts h hn ht (judgeReset_acts h5 h7 hl hp ho))
  case recovery => exact ⟨_, congrArg Host.Outcome.next (chainIn_acts h hn ht (judgeRecovery_acts h5 h7 hl hp hk hx)), rfl, rfl⟩
  case rescue =>
    have acts := chainIn_acts h hn ht (judgeRescue_acts h5 h7 hl h4 hm ho hw)
    exact ⟨_, congrArg Host.Outcome.next (acts.trans (stageRescue_stages (s := acked s f) hw)), rfl, rfl, rfl, rfl⟩
  case ack =>
    change s.tx.chain ++ [sealFrame f.src (ownChain s) 0x0A f.seq [f.seq]] = _
    rw [ownChain_of_addressed h]

end Sys2Proof.Machine
end

section
/-! SUPPORT. Convergence sites: what CONV does at a site it finds, opens or makes room for, and which site a forced release takes (R90 to R92). -/

namespace Sys2Proof.Machine

open Sys2Proof

@[simp] theorem State.setGroup_setGroup (s : State) (g : GroupId) (x y : Group) : (s.setGroup g x).setGroup g y = s.setGroup g y := by
  simp [State.setGroup]

theorem State.bump_setGroup (s : State) (i n : Nat) (g : GroupId) (x : Group) : (s.bump i n).setGroup g x = (s.setGroup g x).bump i n := rfl

/-! ## CONV (R90, R91) -/

/-- The site that CONV opens for the threads that act. -/
def newSite (e : Env) : Site := { addr := BitVec.ofNat 64 e.pc, expect := uVal e.gr e.i.s0, parked := e.act }

/-- The sites once the threads that act have arrived: at the site of this CONV, or at a new one. -/
def arriveSites (e : Env) (ss : List Site) : List Site :=
  if ss.any (fun x => x.addr.toNat == e.pc) then ss.map (fun x => if x.addr.toNat == e.pc then { x with parked := x.parked ||| e.act } else x)
  else ss ++ [newSite e]

/-- The group with its sites changed, its threads whose guard is false at the next instruction. -/
def parkAt (e : Env) (gr : Group) (ss : List Site) : Group := { e.skip gr with sites := ss }

section
variable {s : State} {e : Env}

@[simp] theorem skip_sites (e : Env) (gr : Group) : (e.skip gr).sites = gr.sites := by
  obtain ⟨p, h⟩ := skip_eq e gr
  rw [h]

/-- CONV where the site stands already or another may be opened. -/
theorem runConv_arrives (hg : s.group? e.g = some e.gr) (hr : e.gr.sites.any (fun x => x.addr.toNat == e.pc) = true ∨ e.gr.sites.length < 8) :
    runConv e s = .parked (s.setGroup e.g (checkSites (parkAt e e.gr (arriveSites e e.gr.sites)))) := by
  have room : (!e.gr.sites.any (fun x => x.addr.toNat == e.pc) && decide (8 ≤ e.gr.sites.length)) = false := by
    rcases hr with h | h
    · simp [h]
    · simp [Nat.not_le.mpr h]
  unfold runConv
  dsimp only
  rw [room]
  simp only [Bool.false_eq_true, if_false, Env.update, Env.group, hg, Option.getD_some, skip_sites]
  rfl

/-- R91: CONV at a ninth site releases the first one. -/
theorem runConv_forces {x : Site} {r : List Site} (hg : s.group? e.g = some e.gr) (hs : e.gr.sites = x :: r) (hl : r.length = 7)
    (hn : ∀ y ∈ x :: r, y.addr.toNat ≠ e.pc) (hx : ∀ y ∈ r, y.addr ≠ x.addr) :
    runConv e s = .parked ((s.setGroup e.g (checkSites (parkAt e (releaseSite e.gr x) (r ++ [newSite e])))).bump 0x09000005 1) := by
  have absent : e.gr.sites.any (fun y => y.addr.toNat == e.pc) = false := by rw [hs]; simpa using hn
  have left : (releaseSite e.gr x).sites = r := by
    rw [release_sites, hs, List.filter_cons_of_neg (by simp), List.filter_eq_self.mpr (fun y hy => bne_iff_ne.mpr (hx y hy))]
  have absent' : r.any (fun y => y.addr.toNat == e.pc) = false := by simpa using fun y hy => hn y (List.mem_cons_of_mem x hy)
  have forced : forceSite s e.g x = (s.setGroup e.g (releaseSite e.gr x)).bump 0x09000005 1 := by
    unfold forceSite
    rw [hg]
  unfold runConv
  dsimp only
  rw [absent]
  simp only [hs, List.length_cons, hl, Bool.not_false, Nat.reduceAdd, Nat.le_refl, decide_true, Bool.and_self, if_true, forced, Env.update,
    Env.group, State.bump_groupAt, State.group_setGroup, Option.getD_some, skip_sites, left, absent', Bool.false_eq_true, if_false]
  rw [State.bump_setGroup, State.setGroup_setGroup]
  rfl

theorem arriveSites_new {ss : List Site} (h : ∀ y ∈ ss, y.addr.toNat ≠ e.pc) : arriveSites e ss = ss ++ [newSite e] :=
  if_neg (by simpa using h)

theorem arriveSites_there {l r : List Site} {x : Site} (hx : x.addr.toNat = e.pc) (h : ∀ y ∈ l ++ r, y.addr.toNat ≠ e.pc) :
    arriveSites e (l ++ x :: r) = l ++ { x with parked := x.parked ||| e.act } :: r := by
  have same : ∀ k : List Site, (∀ y ∈ k, y ∈ l ++ r) → k.map (fun y => if y.addr.toNat == e.pc then { y with parked := y.parked ||| e.act } else y) = k :=
    fun k hk => (List.map_congr_left (g := id) (fun y hy => if_neg (by simpa using h y (hk y hy)))).trans (List.map_id k)
  unfold arriveSites
  rw [if_pos (by simp [hx]), List.map_append, List.map_cons, same l (by simp +contextual), same r (by simp +contextual), if_pos (by simpa using hx)]

/-! ## The group after an arrival -/

theorem siteDone_parkAt (e : Env) (gr : Group) (ss : List Site) (x : Site) : siteDone (parkAt e gr ss) x = siteDone gr x := by
  obtain ⟨p, h⟩ := skip_eq e gr
  unfold siteDone parkAt
  rw [h]

theorem parkAt_regs (e : Env) (gr : Group) (ss : List Site) :
    (parkAt e gr ss).live = gr.live ∧ (parkAt e gr ss).v = gr.v ∧ (parkAt e gr ss).u = gr.u ∧ (parkAt e gr ss).p = gr.p := by
  obtain ⟨p, h⟩ := skip_eq e gr
  unfold parkAt
  rw [h]
  exact ⟨rfl, rfl, rfl, rfl⟩

theorem checkSites_parkAt_waits {gr : Group} {ss : List Site} (h : ∀ y ∈ ss, siteDone gr y = false) : checkSites (parkAt e gr ss) = parkAt e gr ss :=
  checkSites_none _ (fun y hy => (siteDone_parkAt e gr ss y).trans (h y hy))

/-- R90: the site at which threads arrive waits for the rest of its expected set, or all its threads go on; the other sites wait as they did. -/
theorem checkSites_parkAt {l r : List Site} {x : Site} (hx : x.addr.toNat = e.pc)
    (h : ∀ y ∈ l ++ r, siteDone e.gr y = false ∧ y.addr.toNat ≠ e.pc) :
    let gr := checkSites (parkAt e e.gr (l ++ x :: r))
    (gr.live = e.gr.live ∧ gr.v = e.gr.v ∧ gr.u = e.gr.u ∧ gr.p = e.gr.p) ∧
      (siteDone e.gr x = false → gr.sites = l ++ x :: r ∧ ∀ t, t < 64 → gr.pcGet t = restPc e t) ∧
      (siteDone e.gr x = true → gr.sites = l ++ r ∧ ∀ t, t < 64 → gr.pcGet t = if x.parked.getLsbD t then BitVec.ofNat 64 (e.i.addr + 8) else restPc e t) := by
  intro gr
  have others : ∀ y ∈ l ++ r, siteDone (parkAt e e.gr (l ++ x :: r)) y = false := fun y hy => (siteDone_parkAt ..).trans (h y hy).1
  obtain ⟨hl, hv, hu, hp⟩ := parkAt_regs e e.gr (l ++ x :: r)
  cases hd : siteDone e.gr x with
  | false =>
    have e1 : gr = parkAt e e.gr (l ++ x :: r) := checkSites_parkAt_waits (fun y hy => by
      rcases List.mem_append.mp hy with hy | hy
      · exact (h y (List.mem_append_left r hy)).1
      · rcases List.mem_cons.mp hy with rfl | hy
        · exact hd
        · exact (h y (List.mem_append_right l hy)).1)
    rw [e1]
    exact ⟨⟨hl, hv, hu, hp⟩, fun _ => ⟨rfl, fun t ht => restPc_skip e ht⟩, by simp⟩
  | true =>
    have e1 : gr = releaseSite (parkAt e e.gr (l ++ x :: r)) x := checkSites_one _ l r x rfl ((siteDone_parkAt ..).trans hd) others
    have ne : ∀ y ∈ l ++ r, (y.addr != x.addr) = true := fun y hy => bne_iff_ne.mpr (fun k => (h y hy).2 (k ▸ hx))
    obtain ⟨rl, rv, ru, rp⟩ := release_regs (parkAt e e.gr (l ++ x :: r)) x
    rw [e1]
    refine ⟨⟨rl.trans hl, rv.trans hv, ru.trans hu, rp.trans hp⟩, by simp, fun _ => ⟨?sites, fun t ht => ?pcs⟩⟩
    case sites =>
      rw [release_sites]
      show List.filter _ (l ++ x :: r) = l ++ r
      rw [List.filter_append, List.filter_cons_of_neg (by simp), ← List.filter_append, List.filter_eq_self.mpr ne]
    case pcs =>
      rw [release_pc _ _ ht, hx]
      exact congrArg _ (restPc_skip e ht)

end

/-- Settles O28: a CONV that opens a site, one that joins a site, and one that makes room for its site. -/
theorem convergenceParksUntilAllHaveCome : Obligations.ConvergenceParksUntilAllHaveCome := by
  intro s g e h ha
  obtain ⟨rfl, hg, -⟩ := env_group h.stands
  have row : ∀ {t : State}, runConv e s = .parked t → Redirects (.conv e.g) s e.g t := fun hr => redirects_of_park h rfl (by decide) rfl hr
  have hpc : (BitVec.ofNat 64 e.pc).toNat = e.pc := by rw [BitVec.toNat_ofNat]; exact Nat.mod_eq_of_lt ha
  refine ⟨fun hl ho => ?opens, fun l x r hs hx ho => ?joins, fun x r hs hl ho hx hd => ?forces⟩
  case opens =>
    have run := runConv_arrives hg (.inr hl)
    rw [arriveSites_new (fun y hy => (ho y hy).2)] at run
    obtain ⟨⟨kl, kv, ku, kp⟩, waits, goes⟩ := checkSites_parkAt (l := e.gr.sites) (r := []) (x := newSite e) hpc (by simpa using ho)
    exact ⟨_, row run, kl, kv, ku, kp, waits, fun hd => ⟨by simpa using (goes hd).1, (goes hd).2⟩⟩
  case joins =>
    have run := runConv_arrives (s := s) hg (.inl (by simp [hs, hx]))
    rw [hs, arriveSites_there hx (fun y hy => (ho y hy).2)] at run
    obtain ⟨⟨kl, -, -, -⟩, waits, goes⟩ := checkSites_parkAt (x := { x with parked := x.parked ||| e.act }) hx ho
    exact ⟨_, row run, kl, waits, goes⟩
  case forces =>
    have released : ∀ y, siteDone (releaseSite e.gr x) y = siteDone e.gr y := fun y => by unfold siteDone; rw [(release_regs e.gr x).1]
    have waits : checkSites (parkAt e (releaseSite e.gr x) (r ++ [newSite e])) = parkAt e (releaseSite e.gr x) (r ++ [newSite e]) :=
      checkSites_parkAt_waits (fun y hy => (released y).trans (by
        rcases List.mem_append.mp hy with hy | hy
        · exact (ho y (List.mem_cons_of_mem x hy)).1
        · rw [List.mem_singleton.mp hy]; exact hd))
    refine ⟨_, row (runConv_forces hg hs hl (fun y hy => (ho y hy).2) hx), ?_⟩
    rw [waits]
    refine ⟨rfl, fun t ht hm => (skip_pc e (releaseSite e.gr x) ht).trans ?_⟩
    rw [hm, Bool.false_and, if_neg Bool.false_ne_true, release_pc _ _ ht]

/-! ## Forced releases (R92) -/

/-- The fuller of two sites: the one with more parked threads, the lower address on a tie. -/
def fullerSite (b y : Site) : Site :=
  if popMask b.parked < popMask y.parked ∨ (popMask b.parked = popMask y.parked ∧ y.addr.toNat < b.addr.toNat) then y else b

/-- `x` is `y`, or fuller than it. -/
def Beats (x y : Site) : Prop := y = x ∨ popMask y.parked < popMask x.parked ∨ (popMask y.parked = popMask x.parked ∧ x.addr.toNat < y.addr.toNat)

theorem fullerSite_left {x y : Site} (h : Beats x y) : fullerSite x y = x := by
  unfold fullerSite
  rcases h with rfl | h
  · exact ite_self _
  · exact if_neg (by omega)

theorem fullerSite_right {x y : Site} (h : Beats x y) : fullerSite y x = x := by
  unfold fullerSite
  rcases h with rfl | h
  · exact ite_self _
  · exact if_pos h

/-- The site that beats all others is the one a search through them ends with. -/
theorem foldl_fullerSite {x : Site} (l : List Site) (b : Site) (hx : x ∈ b :: l) (h : ∀ y ∈ b :: l, Beats x y) : l.foldl fullerSite b = x := by
  induction l generalizing b with
  | nil => exact (List.mem_singleton.mp hx).symm
  | cons y l ih =>
    have hb := h b (by simp)
    have hy := h y (by simp)
    have rest : ∀ z ∈ l, Beats x z := fun z hz => h z (by simp [hz])
    rw [List.foldl_cons]
    by_cases hm : x ∈ l
    · refine ih _ (List.mem_cons_of_mem _ hm) (fun z hz => ?_)
      rcases List.mem_cons.mp hz with rfl | hz
      · unfold fullerSite
        split
        · exact hy
        · exact hb
      · exact rest z hz
    · have first : fullerSite b y = x := by
        rcases List.mem_cons.mp hx with rfl | hx
        · exact fullerSite_left hy
        · rcases List.mem_cons.mp hx with rfl | hx
          · exact fullerSite_right hb
          · exact absurd hx hm
      rw [first]
      exact ih x (by simp) (fun z hz => (List.mem_cons.mp hz).elim Or.inl (rest z))

section
variable {s : State} {g : GroupId} {gr : Group}

theorem forceSite_eq (hg : s.group? g = some gr) (x : Site) : forceSite s g x = (s.setGroup g (releaseSite gr x)).bump 0x09000005 1 := by
  unfold forceSite
  rw [hg]

theorem forcedRelease_takes {x : Site} (hg : s.group? g = some gr) (ha : gr.st = .active) (hl : gr.live ≠ 0) (hr : gr.runnable = 0)
    (hd : ∀ y ∈ gr.sites, siteDone gr y = false) (hx : x ∈ gr.sites) (hb : ∀ y ∈ gr.sites, Beats x y) :
    forcedRelease s g = forceSite s g x := by
  have none : gr.sites.any (siteDone gr) = false := by simpa using hd
  unfold forcedRelease
  rw [hg]
  dsimp only
  rw [if_pos ⟨ha, hl, hr, by rw [none]; rfl⟩]
  cases hs : gr.sites with
  | nil => rw [hs] at hx; cases hx
  | cons b l =>
    rw [hs] at hx hb
    exact congrArg (forceSite s g) (foldl_fullerSite l b hx hb)

/-- A group that can move, or has no site, is left alone. -/
theorem forcedRelease_idle (hg : s.group? g = some gr) (h : gr.runnable ≠ 0 ∨ (∃ y ∈ gr.sites, siteDone gr y = true) ∨ gr.sites = []) :
    forcedRelease s g = s := by
  unfold forcedRelease
  rw [hg]
  dsimp only
  split
  case isFalse => rfl
  case isTrue c =>
    obtain ⟨-, -, hr, hd⟩ := c
    rcases h with h | ⟨y, hy, h⟩ | h
    · exact absurd hr h
    · rw [List.any_eq_true.mpr ⟨y, hy, h⟩] at hd
      exact absurd hd (by decide)
    · rw [h]

end

/-- Settles O31: the search for the fullest site ends with it, and its threads go on. -/
theorem forcedReleaseTakesTheFullestSite : Obligations.ForcedReleaseTakesTheFullestSite := by
  intro s g gr hg
  refine ⟨fun x hx ha hl hr hd hb => ?_, fun h => congrArg Host.Outcome.next (forcedRelease_idle hg h)⟩
  obtain ⟨kl, kv, ku, kp⟩ := release_regs gr x
  exact ⟨_, congrArg Host.Outcome.next ((forcedRelease_takes hg ha hl hr hd hx hb).trans (forceSite_eq hg x)), release_sites gr x, kv, ku, kp, kl,
    fun t ht => release_pc gr x ht⟩

end Sys2Proof.Machine
end

section
/-! SUPPORT. Barriers, exits and starved barriers: what judging a barrier leaves of every group, and when it opens (R93 to R97). -/

namespace Sys2Proof.Machine

open Sys2Proof

/-! ## What stands of a group while its threads park and go on -/

/-- The group but for where its threads stand and the barriers at which they are parked. -/
def fixedPart (x : Group) : Group := { x with pcs := [], bars := [] }

/-- The same groups hold their slots, and no more than their threads' places changed. -/
def GroupsMoved (s t : State) : Prop := ∀ h, (t.group? h).map fixedPart = (s.group? h).map fixedPart

theorem GroupsMoved.refl (s : State) : GroupsMoved s s := fun _ => rfl

theorem GroupsMoved.trans {s t u : State} (h : GroupsMoved s t) (k : GroupsMoved t u) : GroupsMoved s u := fun g => (k g).trans (h g)

theorem GroupsMoved.of_groups {s t : State} (h : t.groups = s.groups) : GroupsMoved s t := fun g => by unfold State.group?; rw [h]

theorem GroupsMoved.exists {s t : State} (k : GroupsMoved s t) {h : GroupId} {x : Group} (hx : s.group? h = some x) :
    ∃ y, t.group? h = some y ∧ fixedPart y = fixedPart x := by
  have e := k h
  rw [hx] at e
  exact Option.map_eq_some_iff.mp e

theorem regs_of_fixedPart {x y : Group} (h : fixedPart y = fixedPart x) : y.live = x.live ∧ y.v = x.v ∧ y.u = x.u ∧ y.p = x.p := by
  unfold fixedPart at h
  simp only [Group.mk.injEq] at h
  simp only [h, and_self]

theorem occupancy_of_fixedPart {x y : Group} (h : fixedPart y = fixedPart x) : y.live = x.live ∧ y.pend = x.pend ∧ y.st = x.st := by
  unfold fixedPart at h
  simp only [Group.mk.injEq] at h
  simp only [h, and_self]

theorem GroupsMoved.elim {s t : State} (k : GroupsMoved s t) {α : Type} (d : α) (f : Group → α) (hf : ∀ x, f x = f (fixedPart x)) (h : GroupId) :
    (t.group? h).elim d f = (s.group? h).elim d f := by
  have e := congrArg (fun o => Option.elim o d f) (k h)
  simpa only [Option.elim_map, Function.comp_def, ← hf] using e

theorem State.group_of_key (s : State) {g h : GroupId} (hk : groupKey h = groupKey g) : s.group? h = s.group? g := by
  unfold State.group?
  rw [hk]

/-- A group written over itself moves only its threads. -/
theorem GroupsMoved.setGroup {s : State} {g : GroupId} {x y : Group} (hg : s.group? g = some x) (h : fixedPart y = fixedPart x) :
    GroupsMoved s (s.setGroup g y) := by
  intro k
  by_cases hk : groupKey k = groupKey g
  · rw [State.group_of_key _ hk, State.group_of_key _ hk, State.group_setGroup, hg, Option.map_some, h, Option.map_some]
  · rw [State.group_setGroup_ne _ _ hk]

/-! ## Blocks -/

theorem blockGroups_eq (s : State) (b : Nat) (k : Block) : blockGroups s b k = k.groups.filter (fun h => (s.group? h).elim false (fun x => x.block == b)) := by
  unfold blockGroups
  refine List.filter_congr (fun h _ => ?_)
  cases s.group? h <;> rfl

theorem blockGroups_moved {s t : State} (m : GroupsMoved s t) (b : Nat) {k k' : Block} (hk : k'.groups = k.groups) : blockGroups t b k' = blockGroups s b k := by
  rw [blockGroups_eq, blockGroups_eq, hk]
  exact List.filter_congr (fun h _ => m.elim false (fun x => x.block == b) (fun _ => rfl) h)

@[simp] theorem setWd_groupAt (s : State) (c b n v : Nat) (h : GroupId) : (setWd s c b n v).group? h = s.group? h := by
  unfold State.group?
  rw [(setWd_within s c b n v).groupsSame (by decide)]

@[simp] theorem clearStale_groupAt (s : State) (c b : Nat) (h : GroupId) : (clearStale s c b).group? h = s.group? h := by
  unfold State.group?
  rw [(clearStale_within s c b).groupsSame (by decide)]

theorem blockOf_setBlock (s : State) (c b : Nat) (k : Block) : blockOf (setBlock s c b k) c b = some k := by
  unfold blockOf setBlock
  simp

section
variable {s : State} {c b : Nat} {k : Block}

theorem blockOf_setWd (h : blockOf s c b = some k) (n v : Nat) : blockOf (setWd s c b n v) c b = some { k with wd := Sparse.put 0 k.wd n v } := by
  unfold setWd
  rw [h]
  exact blockOf_setBlock ..

theorem blockOf_clearStale (h : blockOf s c b = some k) : blockOf (clearStale s c b) c b = some { k with stale := [] } := by
  unfold clearStale
  rw [h]
  exact blockOf_setBlock ..

/-- R96: the watchdog of a barrier that opens counts from zero. -/
theorem opened_wd (h : blockOf s c b = some k) (n : Nat) :
    ∃ k', blockOf (clearStale (setWd s c b n 0) c b) c b = some k' ∧ Sparse.get 0 k'.wd n = 0 :=
  ⟨_, blockOf_clearStale (blockOf_setWd h n 0), Sparse.get_put_self 0 k.wd n 0⟩

theorem foldl_blockThreads (f : Group → BitVec 64) (gs : List GroupId) :
    gs.foldl (fun a h => a + (s.group? h).elim 0 (fun x => popMask (f x))) 0 = blockThreads s gs (fun _ x => f x) := by
  unfold blockThreads
  rw [List.sum_eq_foldl, List.foldl_map]

/-! ## A barrier that opens -/

/-- The threads parked at barrier `n` continue at the next instruction. -/
def openBarrier (n : Nat) (x : Group) : Group :=
  let y := (threads (barAt x n)).foldl (fun z th => z.pcPut th (z.pcGet th + 8)) x
  { y with bars := Sparse.put 0 y.bars n 0 }

def openAt (n : Nat) (t : State) (g : GroupId) : State := (t.group? g).elim t (fun x => t.setGroup g (openBarrier n x))

/-- R93: a barrier at which not every live thread of the block is parked stays as it is. -/
theorem checkBarrier_waits {n : Nat} (hb : blockOf s c b = some k)
    (h : blockThreads s (blockGroups s b k) (fun _ x => barAt x n) = 0 ∨
      blockThreads s (blockGroups s b k) (fun _ x => barAt x n) ≠ blockThreads s (blockGroups s b k) (fun _ x => x.live)) :
    checkBarrier s c b n = s := by
  unfold checkBarrier
  rw [hb]
  dsimp only
  rw [foldl_blockThreads (fun x => barAt x n), foldl_blockThreads (fun x => x.live), if_pos h]

/-- R93: a barrier at which every live thread of the block is parked opens in each group of the block. -/
theorem checkBarrier_opens {n : Nat} (hb : blockOf s c b = some k) (h0 : blockThreads s (blockGroups s b k) (fun _ x => barAt x n) ≠ 0)
    (h : blockThreads s (blockGroups s b k) (fun _ x => barAt x n) = blockThreads s (blockGroups s b k) (fun _ x => x.live)) :
    checkBarrier s c b n = clearStale (setWd ((blockGroups s b k).foldl (openAt n) s) c b n 0) c b := by
  unfold checkBarrier
  rw [hb]
  dsimp only
  rw [foldl_blockThreads (fun x => barAt x n), foldl_blockThreads (fun x => x.live), if_neg (not_or.mpr ⟨h0, not_not.mpr h⟩)]
  congr 3
  funext t g
  unfold openAt openBarrier
  cases t.group? g <;> rfl

end

/-! ## The groups behind an open barrier -/

theorem barAt_openBarrier (n : Nat) (x : Group) : barAt (openBarrier n x) n = 0 := by
  unfold openBarrier barAt
  exact Sparse.get_put_self 0 _ n 0

/-- Threads that go on stand one instruction further, each moved once. -/
theorem pcGet_foldl_next (ts : List Nat) (hn : ts.Nodup) (x : Group) (th : Nat) :
    (ts.foldl (fun z t => z.pcPut t (z.pcGet t + 8)) x).pcGet th = if th ∈ ts then x.pcGet th + 8 else x.pcGet th := by
  induction ts generalizing x with
  | nil => simp
  | cons t ts ih =>
    obtain ⟨ht, hn⟩ := List.nodup_cons.mp hn
    rw [List.foldl_cons, ih hn, pcGet_pcPut]
    by_cases e : th = t
    · subst e
      simp [ht]
    · simp [e]

theorem foldl_next_pcs (ts : List Nat) (x : Group) : ∃ p, ts.foldl (fun z t => z.pcPut t (z.pcGet t + 8)) x = { x with pcs := p } := by
  induction ts generalizing x with
  | nil => exact ⟨x.pcs, rfl⟩
  | cons t ts ih =>
    obtain ⟨p, hp⟩ := ih (x.pcPut t (x.pcGet t + 8))
    exact ⟨p, hp⟩

theorem openBarrier_eq (n : Nat) (x : Group) : ∃ p, openBarrier n x = { x with pcs := p, bars := Sparse.put 0 x.bars n 0 } := by
  obtain ⟨p, hp⟩ := foldl_next_pcs (threads (barAt x n)) x
  exact ⟨p, by unfold openBarrier; rw [hp]⟩

theorem fixedPart_openBarrier (n : Nat) (x : Group) : fixedPart (openBarrier n x) = fixedPart x := by
  obtain ⟨p, hp⟩ := openBarrier_eq n x
  rw [hp]
  rfl

theorem pcGet_openBarrier (n : Nat) (x : Group) {th : Nat} (h : th < 64) :
    (openBarrier n x).pcGet th = if (barAt x n).getLsbD th then x.pcGet th + 8 else x.pcGet th := by
  refine (pcGet_foldl_next (threads (barAt x n)) (threads_nodup _) x th).trans ?_
  simp [mem_threads, h]

theorem Sparse.put_default_twice {α : Type} [DecidableEq α] (d : α) (m : Sparse α) (k : Nat) : Sparse.put d (Sparse.put d m k d) k d = Sparse.put d m k d := by
  simp [Sparse.put, Sparse.del]

/-- A barrier that is open stays as it is. -/
theorem openBarrier_twice (n : Nat) (x : Group) : openBarrier n (openBarrier n x) = openBarrier n x := by
  obtain ⟨p, hp⟩ := openBarrier_eq n x
  have none : threads (barAt (openBarrier n x) n) = [] := by rw [barAt_openBarrier]; decide
  rw [openBarrier, none, List.foldl_nil, hp]
  dsimp only
  rw [Sparse.put_default_twice]

theorem openAt_group (n : Nat) (s : State) (g h : GroupId) :
    (openAt n s g).group? h = (s.group? h).map (if groupKey h = groupKey g then openBarrier n else id) := by
  unfold openAt
  by_cases hk : groupKey h = groupKey g
  · rw [if_pos hk, State.group_of_key _ hk, State.group_of_key _ hk]
    cases e : s.group? g with
    | none => simp [e]
    | some x => simp
  · rw [if_neg hk, Option.map_id_apply]
    cases s.group? g with
    | none => rfl
    | some x => exact State.group_setGroup_ne _ _ hk

/-- A barrier opened in each group of a list, in some of them more than once. -/
theorem openAll_group (n : Nat) (gs : List GroupId) (s : State) (h : GroupId) :
    (gs.foldl (openAt n) s).group? h = (s.group? h).map (if groupKey h ∈ gs.map groupKey then openBarrier n else id) := by
  induction gs generalizing s with
  | nil => simp
  | cons g gs ih =>
    rw [List.foldl_cons, ih, openAt_group, Option.map_map]
    congr 1
    by_cases hg : groupKey h = groupKey g
    · have mem : groupKey h ∈ (g :: gs).map groupKey := by simp [hg]
      rw [if_pos hg, if_pos mem]
      split
      · exact funext (openBarrier_twice n)
      · rfl
    · have same : groupKey h ∈ (g :: gs).map groupKey ↔ groupKey h ∈ gs.map groupKey := by simp [hg]
      rw [if_neg hg, Function.comp_id]
      simp only [same]

theorem blockOf_foldl_openAt (n : Nat) (gs : List GroupId) {s : State} {c b : Nat} {k : Block} (h : blockOf s c b = some k) :
    blockOf (gs.foldl (openAt n) s) c b = some k :=
  List.foldlRecOn (motive := fun t => blockOf t c b = some k) gs _ h (fun t ht g _ => by
    unfold openAt
    cases t.group? g with
    | none => exact ht
    | some x => exact ht)

theorem checkBarrier_moved (s : State) (c b n : Nat) : GroupsMoved s (checkBarrier s c b n) := by
  cases hb : blockOf s c b with
  | none =>
    have same : checkBarrier s c b n = s := by unfold checkBarrier; rw [hb]
    rw [same]
    exact .refl s
  | some k =>
    by_cases h : blockThreads s (blockGroups s b k) (fun _ x => barAt x n) = 0 ∨
      blockThreads s (blockGroups s b k) (fun _ x => barAt x n) ≠ blockThreads s (blockGroups s b k) (fun _ x => x.live)
    · rw [checkBarrier_waits hb h]
      exact .refl s
    · obtain ⟨h0, he⟩ := not_or.mp h
      rw [checkBarrier_opens hb h0 (not_not.mp he)]
      intro g
      rw [clearStale_groupAt, setWd_groupAt, openAll_group, Option.map_map]
      congr 1
      split
      · exact funext (fixedPart_openBarrier n)
      · rfl

theorem checkBarriers_moved (s : State) (c b : Nat) : GroupsMoved s (checkBarriers s c b) :=
  List.foldlRecOn (motive := GroupsMoved s) (List.range 4) _ (.refl s) (fun t ht n _ =>
    ht.trans (.trans (.of_groups ((setWd_within t c b n 0).groupsSame (by decide))) (checkBarrier_moved _ c b n)))

/-! ## BAR (R93, R96) -/

section
variable {s : State} {e : Env}

/-- The group once the threads that act are parked at barrier `n`. -/
def barArrival (e : Env) (n : Nat) : Group := { e.skip e.gr with bars := Sparse.put 0 (e.skip e.gr).bars n (barAt (e.skip e.gr) n ||| e.act) }

theorem fixedPart_barArrival (e : Env) (n : Nat) : fixedPart (barArrival e n) = fixedPart e.gr := by
  obtain ⟨p, hp⟩ := skip_eq e e.gr
  unfold barArrival
  rw [hp]
  rfl

theorem barAt_barArrival (e : Env) (n : Nat) : barAt (barArrival e n) n = barAt e.gr n ||| e.act := by
  obtain ⟨p, hp⟩ := skip_eq e e.gr
  have bars : (e.skip e.gr).bars = e.gr.bars := by rw [hp]
  refine (Sparse.get_put_self ..).trans ?_
  unfold barAt
  rw [bars]

/-- The state in which BAR is judged. -/
def barArrived (s : State) (e : Env) : State := setWd (s.setGroup e.g (barArrival e e.i.imm.toNat)) e.g.cluster e.gr.block e.i.imm.toNat 0

theorem runBar_eq (hg : s.group? e.g = some e.gr) :
    runBar e s = .parked (checkBarrier (barArrived s e) e.g.cluster e.gr.block e.i.imm.toNat) := by
  unfold runBar
  dsimp only
  unfold Env.update Env.group
  rw [hg]
  rfl

theorem checkBar_none (h : e.gr.collMask = 0) : checkBar e = none := by
  unfold checkBar
  simp [h]

theorem barArrived_moved (hg : s.group? e.g = some e.gr) : GroupsMoved s (barArrived s e) :=
  .trans (.setGroup hg (fixedPart_barArrival e _)) (.of_groups ((setWd_within ..).groupsSame (by decide)))

/-- A group's arrivals at the barrier, and where its threads stand, once the threads that act have come. -/
theorem barArrived_group (hg : s.group? e.g = some e.gr) {h : GroupId} {x : Group} (hx : s.group? h = some x) :
    ∃ y, (barArrived s e).group? h = some y ∧
      barAt y e.i.imm.toNat = (if groupKey h = groupKey e.g then barAt x e.i.imm.toNat ||| e.act else barAt x e.i.imm.toNat) ∧
      ∀ th, th < 64 → y.pcGet th = if groupKey h = groupKey e.g then restPc e th else x.pcGet th := by
  unfold barArrived
  rw [setWd_groupAt]
  by_cases hk : groupKey h = groupKey e.g
  · obtain rfl : e.gr = x := Option.some.inj (hg.symm.trans ((State.group_of_key s hk).symm.trans hx))
    rw [State.group_of_key _ hk, State.group_setGroup]
    exact ⟨_, rfl, (barAt_barArrival ..).trans (if_pos hk).symm, fun th ht => (restPc_skip e ht).trans (if_pos hk).symm⟩
  · rw [State.group_setGroup_ne _ _ hk, hx]
    exact ⟨x, rfl, (if_neg hk).symm, fun th _ => (if_neg hk).symm⟩

theorem barArrived_threads (hg : s.group? e.g = some e.gr) (gs : List GroupId) :
    blockThreads (barArrived s e) gs (fun _ x => barAt x e.i.imm.toNat) =
      blockThreads s gs (fun h x => if groupKey h = groupKey e.g then barAt x e.i.imm.toNat ||| e.act else barAt x e.i.imm.toNat) := by
  unfold blockThreads
  congr 1
  refine List.map_congr_left (fun h _ => ?_)
  cases hx : s.group? h with
  | none =>
    have gone : (barArrived s e).group? h = none := by simpa [hx] using barArrived_moved hg h
    rw [gone]
    rfl
  | some x =>
    obtain ⟨y, hy, ha, -⟩ := barArrived_group hg hx
    rw [hy]
    exact congrArg popMask ha

theorem liveThreads_moved {s t : State} (m : GroupsMoved s t) (gs : List GroupId) : blockThreads t gs (fun _ x => x.live) = blockThreads s gs (fun _ x => x.live) := by
  unfold blockThreads
  exact congrArg List.sum (List.map_congr_left (fun h _ => m.elim 0 (fun x => popMask x.live) (fun _ => rfl) h))

end

/-- Settles O29: the arrival, then the barrier judged: it waits, or it opens in every group of the block. -/
theorem barriersReleaseWhenAllLiveThreadsHaveCome : Obligations.BarriersReleaseWhenAllLiveThreadsHaveCome := by
  intro s g e k h hc hb n gs came stands live _
  obtain ⟨rfl, hg, -⟩ := env_group h.stands
  have run := redirects_of_park (i := .bar e.g) h rfl (by decide) (checkBar_none hc) (runBar_eq hg)
  have moved : GroupsMoved s (barArrived s e) := barArrived_moved hg
  have block : blockOf (barArrived s e) e.g.cluster e.gr.block = some { k with wd := Sparse.put 0 k.wd n 0 } :=
    blockOf_setWd (s := s.setGroup e.g (barArrival e n)) hb n 0
  have groups : blockGroups (barArrived s e) e.gr.block { k with wd := Sparse.put 0 k.wd n 0 } = gs := blockGroups_moved moved _ rfl
  have arrived : blockThreads (barArrived s e) gs (fun _ x => barAt x n) = blockThreads s gs came := barArrived_threads hg gs
  have expected : blockThreads (barArrived s e) gs (fun _ x => x.live) = live := liveThreads_moved moved gs
  have memory : (checkBarrier (barArrived s e) e.g.cluster e.gr.block n).mem = s.mem :=
    ((checkBarrier_within ..).memSame (by decide) (by decide)).trans ((setWd_within ..).memSame (by decide) (by decide))
  have kept : ∀ h x, s.group? h = some x → ∃ y, (checkBarrier (barArrived s e) e.g.cluster e.gr.block n).group? h = some y ∧
      y.live = x.live ∧ y.v = x.v ∧ y.u = x.u ∧ y.p = x.p := fun h x hx => by
    obtain ⟨y, hy, same⟩ := (moved.trans (checkBarrier_moved _ e.g.cluster e.gr.block n)).exists hx
    exact ⟨y, hy, regs_of_fixedPart same⟩
  by_cases ho : blockThreads s gs came = live ∧ live ≠ 0
  case pos =>
    have opens := checkBarrier_opens (n := n) block (by rw [groups, arrived, ho.1]; exact ho.2) (by rw [groups, arrived, expected, ho.1])
    rw [groups] at opens
    refine ⟨_, run, ?_, memory, kept, fun hn => absurd ho.1 hn, fun _ _ h hm x hx => ?_⟩
    · rw [opens]
      exact opened_wd (blockOf_foldl_openAt n gs block) n
    · obtain ⟨y, hy, ha, hp⟩ := barArrived_group hg hx
      refine ⟨openBarrier n y, ?_, barAt_openBarrier n y, fun th ht => ?_⟩
      · rw [opens, clearStale_groupAt, setWd_groupAt, openAll_group, if_pos (List.mem_map_of_mem hm), hy, Option.map_some]
      · rw [pcGet_openBarrier n y ht, ha, hp th ht]
  case neg =>
    have waits := checkBarrier_waits (n := n) block (by
      rw [groups, arrived, expected]
      by_cases h0 : blockThreads s gs came = 0
      · exact .inl h0
      · exact .inr (fun he => ho ⟨he, fun hl => h0 (he.trans hl)⟩))
    refine ⟨_, run, ?_, memory, kept, fun _ h x hx => ?_, fun he hl => absurd ⟨he, hl⟩ ho⟩
    · rw [waits]
      exact ⟨_, block, Sparse.get_put_self 0 k.wd n 0⟩
    · rw [waits]
      exact barArrived_group hg hx

/-! ## EXIT (R87, R94) -/

section
variable {s : State} {g : GroupId} {e : Env}

/-- Sites that release move threads, and no more. -/
theorem checkSites_eq (gr : Group) : ∃ p ss, checkSites gr = { gr with pcs := p, sites := ss } := by
  unfold checkSites
  refine List.foldlRecOn (motive := fun x : Group => ∃ p ss, x = { gr with pcs := p, sites := ss }) _ _ ⟨gr.pcs, gr.sites, rfl⟩ ?_
  rintro x ⟨p, ss, rfl⟩ y -
  obtain ⟨q, hq⟩ := pcAll_pcs { gr with pcs := p, sites := ss } y.parked (y.addr.toNat + 8)
  exact ⟨q, _, by unfold releaseSite; rw [hq]⟩

@[simp] theorem settleBlock_groupAt (s : State) (c b : Nat) (h : GroupId) : (settleBlock s c b).group? h = s.group? h := by
  unfold State.group?
  rw [(settleBlock_within s c b).groupsSame (by decide)]

theorem settleGroup_stays {gr : Group} (hg : s.group? g = some gr) (h : gr.live ≠ 0 ∨ gr.pend ≠ []) : settleGroup s g = s := by
  unfold settleGroup
  rw [hg]
  dsimp only
  rw [if_neg (fun k => h.elim (absurd k.1) (absurd (List.isEmpty_iff.mp k.2.1)))]

/-- R87: a group with no live thread and nothing left to be written gives up its slot. -/
theorem settleGroup_frees {gr : Group} (hg : s.group? g = some gr) (hl : gr.live = 0) (hp : gr.pend = []) (ha : gr.st = .active) :
    (settleGroup s g).group? g = none := by
  unfold settleGroup
  rw [hg]
  dsimp only
  rw [if_pos ⟨hl, by rw [hp]; rfl, ha⟩, settleBlock_groupAt, State.group_freeGroup]

/-- The group once the threads that act have exited. -/
def exitArrival (e : Env) : Group :=
  let gr : Group := { e.skip e.gr with skipBp := false }
  checkSites { gr with live := gr.live &&& ~~~e.act }

theorem exitArrival_eq (e : Env) : ∃ p ss, exitArrival e = { e.gr with pcs := p, sites := ss, live := e.gr.live &&& ~~~e.act, skipBp := false } := by
  obtain ⟨p, hp⟩ := skip_eq e e.gr
  obtain ⟨q, ss, hq⟩ := checkSites_eq { e.skip e.gr with live := (e.skip e.gr).live &&& ~~~e.act, skipBp := false }
  exact ⟨q, ss, hq.trans (by rw [hp])⟩

/-- The state once the block's barriers have been judged after an exit. -/
def exited (s : State) (e : Env) : State := checkBarriers (s.setGroup e.g (exitArrival e)) e.g.cluster e.gr.block

theorem exitThreads_eq {gr : Group} (hg : s.group? g = some gr) (m : BitVec 64) :
    exitThreads s g m = settleGroup (checkBarriers (s.setGroup g (checkSites { gr with live := gr.live &&& ~~~m })) g.cluster gr.block) g := by
  unfold exitThreads
  rw [hg]

theorem runExit_eq (hg : s.group? e.g = some e.gr) : runExit e s = .jumped (settleGroup (exited s e) e.g) := by
  obtain ⟨p, hp⟩ := skip_eq e e.gr
  have block : (e.skip e.gr).block = e.gr.block := by rw [hp]
  have before : e.update s (fun gr => { e.skip gr with skipBp := false }) = s.setGroup e.g { e.skip e.gr with skipBp := false } := by
    unfold Env.update Env.group
    rw [hg, Option.getD_some]
  unfold runExit
  rw [before, exitThreads_eq (State.group_setGroup ..), State.setGroup_setGroup]
  unfold exited exitArrival
  dsimp only
  rw [block]

/-- The group of an EXIT keeps all but the threads that act. -/
theorem exited_group (s : State) (e : Env) : ∃ y, (exited s e).group? e.g = some y ∧
    (y.live = e.gr.live &&& ~~~e.act ∧ y.v = e.gr.v ∧ y.u = e.gr.u ∧ y.p = e.gr.p) ∧ y.pend = e.gr.pend ∧ y.st = e.gr.st := by
  obtain ⟨p, ss, hp⟩ := exitArrival_eq e
  obtain ⟨y, hy, same⟩ := (checkBarriers_moved _ e.g.cluster e.gr.block).exists (State.group_setGroup s e.g (exitArrival e))
  rw [hp] at same
  obtain ⟨-, hpend, hst⟩ := occupancy_of_fixedPart same
  exact ⟨y, hy, regs_of_fixedPart same, hpend, hst⟩

end

/-- Settles O30: the threads gone, the barriers judged, and the slot given up when nothing is left. -/
theorem exitEndsThreads : Obligations.ExitEndsThreads := by
  intro s g e h
  obtain ⟨rfl, hg, -⟩ := env_group h.stands
  have frame : Within 425984 s (settleGroup (exited s e) e.g) :=
    settleGroup_in (checkBarriers_in (State.setGroup_in (.refl _ s) (by decide)) (by decide)) (by decide)
  obtain ⟨y, hy, regs, hpend, hst⟩ := exited_group s e
  refine ⟨_, redirects_of_jump h rfl (by decide) rfl (runExit_eq hg), frame.memSame (by decide) (by decide), frame.hostMemSame (by decide),
    frame.keepSame (by decide) (by decide), ?_⟩
  by_cases stays : y.live ≠ 0 ∨ y.pend ≠ []
  case pos =>
    rw [settleGroup_stays hy stays, hy]
    rw [regs.1, hpend] at stays
    refine ⟨fun gr hgr => Option.some.inj hgr ▸ regs, fun _ => rfl, fun hl hp => absurd stays (by simp [hl, hp])⟩
  case neg =>
    obtain ⟨hl, hp⟩ := not_or.mp stays
    rw [settleGroup_frees hy (not_not.mp hl) (not_not.mp hp) (hst.trans h.active)]
    rw [regs.1, hpend] at stays
    exact ⟨fun gr hgr => (nomatch hgr), fun k => absurd k stays, fun _ _ => rfl⟩

end Sys2Proof.Machine
end

section
/-! SUPPORT. Groups of a block that trap together (R96, R97, R108). -/

namespace Sys2Proof.Machine

open Sys2Proof

/-! ## Traps of several groups -/

/-- A result that is written changes registers and their poison marks, and no more. -/
theorem deliver_eq (gr : Group) (p : Pend) : ∃ v u q, deliver gr p = { gr with v := v, u := u, poisoned := q } := by
  unfold deliver
  split
  · refine List.foldlRecOn (motive := fun x : Group => ∃ v u q, x = { gr with v := v, u := u, poisoned := q }) _ _ ⟨gr.v, gr.u, gr.poisoned, rfl⟩ ?_
    rintro x ⟨v, u, q, rfl⟩ a -
    dsimp only
    split <;> exact ⟨_, _, _, rfl⟩
  · dsimp only
    split <;> exact ⟨_, _, _, rfl⟩
  · exact ⟨gr.v, gr.u, gr.poisoned, rfl⟩

theorem retire_eq (gr : Group) : ∃ v u q, retire gr = { gr with v := v, u := u, poisoned := q, pend := gr.pend.filter (fun p => !p.ready) } := by
  have written : ∃ v u q, (gr.pend.filter (·.ready)).foldl deliver gr = { gr with v := v, u := u, poisoned := q } := by
    refine List.foldlRecOn (motive := fun x : Group => ∃ v u q, x = { gr with v := v, u := u, poisoned := q }) _ _ ⟨gr.v, gr.u, gr.poisoned, rfl⟩ ?_
    rintro x ⟨v, u, q, rfl⟩ p -
    obtain ⟨v', u', q', h⟩ := deliver_eq { gr with v := v, u := u, poisoned := q } p
    exact ⟨v', u', q', h⟩
  obtain ⟨v, u, q, h⟩ := written
  exact ⟨v, u, q, by unfold retire; rw [h]⟩

theorem retire_ctx (gr : Group) : (retire gr).ctx = gr.ctx := by
  obtain ⟨v, u, q, h⟩ := retire_eq gr
  rw [h]

section
variable {s : State} {cx : Ctx} {code : Nat}

/-- The traps of `ts` have code `code`, and each is of a group of a context. -/
def Trappable (s : State) (code : Nat) (ts : List (GroupId × Trap)) : Prop :=
  ∀ e ∈ ts, e.2.code = code ∧ ∃ x c, s.group? e.1 = some x ∧ s.ctx? x.ctx = some c

/-- A group that has trapped is HELD where it stood; one that has not is as it was. -/
def HeldIf (p : Prop) (code : Nat) (x y : Group) : Prop :=
  (y.pcs = x.pcs ∧ y.live = x.live ∧ y.ctx = x.ctx) ∧ (p → y.st = .held ∧ y.lastTrap = code) ∧ (¬p → y = x)

theorem postTrap_ctxAt (s : State) (g : GroupId) (t : Trap) (n : Nat) : (postTrap s g t).ctx? n = s.ctx? n := by
  unfold State.ctx?
  rw [(postTrap_within s g t).ctxsSame (by decide)]

theorem postTrap_heldIf {g h : GroupId} {x gr : Group} {c : Ctx} (hg : s.group? g = some gr) (hc : s.ctx? gr.ctx = some c) (t : Trap)
    (hx : s.group? h = some x) : ∃ y, (postTrap s g t).group? h = some y ∧ HeldIf (groupKey g = groupKey h) t.code x y := by
  by_cases hk : groupKey g = groupKey h
  · obtain rfl : gr = x := Option.some.inj (hg.symm.trans ((State.group_of_key s hk).trans hx))
    rw [← State.group_of_key _ hk, postTrap_group hg hc]
    exact ⟨_, rfl, ⟨(retire_keeps_threads gr).1, (retire_keeps_threads gr).2, retire_ctx gr⟩, fun _ => ⟨rfl, rfl⟩, fun n => absurd hk n⟩
  · rw [postTrap_group_ne hg hc t (Ne.symm hk)]
    exact ⟨x, hx, ⟨rfl, rfl, rfl⟩, fun k => absurd k hk, fun _ => rfl⟩

/-- R108: each group of a list takes its trap; the others stand as they did. -/
theorem postTraps_heldIf {ts : List (GroupId × Trap)} (hts : Trappable s code ts) {h : GroupId} {x : Group} (hx : s.group? h = some x) :
    ∃ y, (ts.foldl (fun t e => postTrap t e.1 e.2) s).group? h = some y ∧ HeldIf (∃ e ∈ ts, groupKey e.1 = groupKey h) code x y := by
  induction ts generalizing s x with
  | nil => exact ⟨x, hx, ⟨rfl, rfl, rfl⟩, fun ⟨_, hm, _⟩ => absurd hm List.not_mem_nil, fun _ => rfl⟩
  | cons e ts ih =>
    obtain ⟨hcode, gr, c, hg, hc⟩ := hts e List.mem_cons_self
    have rest : Trappable (postTrap s e.1 e.2) code ts := fun a ha => by
      obtain ⟨ka, z, d, hz, hd⟩ := hts a (List.mem_cons_of_mem e ha)
      obtain ⟨y, hy, ⟨-, -, yc⟩, -, -⟩ := postTrap_heldIf hg hc e.2 hz
      exact ⟨ka, y, d, hy, by rw [postTrap_ctxAt, yc]; exact hd⟩
    obtain ⟨y, hy, ⟨yp, yl, yc⟩, held, same⟩ := postTrap_heldIf hg hc e.2 hx
    obtain ⟨z, hz, ⟨zp, zl, zc⟩, held', same'⟩ := ih rest hy
    refine ⟨z, hz, ⟨zp.trans yp, zl.trans yl, zc.trans yc⟩, fun ⟨a, ha, hk⟩ => ?_, fun hn => ?_⟩
    · by_cases later : ∃ a ∈ ts, groupKey a.1 = groupKey h
      · exact held' later
      · rw [same' later]
        rcases List.mem_cons.mp ha with rfl | ha
        · exact hcode ▸ held hk
        · exact absurd ⟨a, ha, hk⟩ later
    · rw [same' (fun ⟨a, ha, hk⟩ => hn ⟨a, List.mem_cons_of_mem e ha, hk⟩)]
      exact same (fun hk => hn ⟨e, List.mem_cons_self, hk⟩)

/-- Traps that hold kill nothing. -/
theorem takeTraps_of_holds {g : GroupId} {t : Trap} {ts : List (GroupId × Trap)} {gr : Group} {c : Ctx} (hg : s.group? g = some gr)
    (hc : s.ctx? gr.ctx = some c) (hh : holds c t.code = true) :
    takeTraps s ((g, t) :: ts) = ((g, t) :: ts).foldl (fun x e => postTrap x e.1 e.2) s := by
  simp [takeTraps, hg, hc, hh]

end

/-! ## A starved barrier -/

/-- The trap of a group with threads parked at barrier `n`. -/
def starvedTrap (n limit : Nat) (x : Group) : Trap :=
  { mkTrap tBARRIER_STARVED n limit 0 (x.pcGet ((threads (barAt x n)).headD 0)).toNat (barAt x n) with bar := some n }

/-- The groups of `gs` with a thread parked at barrier `n`, with their traps. -/
def starvedTraps (s : State) (n limit : Nat) (gs : List GroupId) : List (GroupId × Trap) :=
  (gs.filter (fun g => (s.group? g).elim false (fun x => barAt x n != 0))).filterMap (fun g => (s.group? g).map (fun x => (g, starvedTrap n limit x)))

section
variable {s : State} {c b n : Nat} {k : Block}

theorem mem_starvedTraps {limit : Nat} {gs : List GroupId} {e : GroupId × Trap} :
    e ∈ starvedTraps s n limit gs ↔ e.1 ∈ gs ∧ ∃ x, s.group? e.1 = some x ∧ barAt x n ≠ 0 ∧ e.2 = starvedTrap n limit x := by
  unfold starvedTraps
  simp only [List.mem_filterMap, List.mem_filter, Option.map_eq_some_iff]
  constructor
  · rintro ⟨g, ⟨hg, hb⟩, x, hx, rfl⟩
    rw [hx] at hb
    exact ⟨hg, x, hx, by simpa using hb, rfl⟩
  · rintro ⟨hg, x, hx, hb, he⟩
    exact ⟨e.1, ⟨hg, by rw [hx]; simpa using hb⟩, x, hx, by rw [← he]⟩

/-- R97: with a group of the block stopped, the watchdog does nothing. -/
theorem barrierStarved_stopped (hb : blockOf s c b = some k) (h : ∃ g ∈ blockGroups s b k, ∃ x, s.group? g = some x ∧ x.st ≠ .active) :
    barrierStarved s c b n = s := by
  obtain ⟨g, hg, x, hx, ha⟩ := h
  have stopped : (blockGroups s b k).any (fun g => (s.group? g).elim false (fun x => x.st != .active)) = true :=
    List.any_eq_true.mpr ⟨g, hg, by rw [hx]; simpa using ha⟩
  unfold barrierStarved
  rw [hb]
  dsimp only
  rw [stopped]
  cases s.ctx? k.ctx <;> rfl

end

theorem holds_starved {cx : Ctx} (h : cx.hold = true) : holds cx tBARRIER_STARVED = true := by
  unfold holds failsStep
  rw [h]
  simp [tBARRIER_STARVED, tCOLLECTIVE_SPLIT, tSHARD_STALE, tPOISON]

section
variable {s : State} {c b n : Nat} {k : Block} {cx : Ctx}

/-- R97: while every group of the block runs, each with a thread parked at the barrier takes its trap. -/
theorem barrierStarved_posts (hb : blockOf s c b = some k) (hc : s.ctx? k.ctx = some cx) (hh : cx.hold = true)
    (ha : ∀ g ∈ blockGroups s b k, ∃ x, s.group? g = some x ∧ x.st = .active ∧ x.ctx = k.ctx) :
    ∃ s₀, (∀ g, s₀.group? g = s.group? g) ∧ (∀ m, s₀.ctx? m = s.ctx? m) ∧
      barrierStarved s c b n = (starvedTraps s n (2 ^ cx.wdW) (blockGroups s b k)).foldl (fun t e => postTrap t e.1 e.2) s₀ := by
  have running : (blockGroups s b k).any (fun g => (s.group? g).elim false (fun x => x.st != .active)) = false :=
    List.any_eq_false.mpr (fun g hg => by
      obtain ⟨x, hx, act, -⟩ := ha g hg
      rw [hx]
      simp [act])
  have sameCtx : ∀ m, (setWd s c b n (2 ^ cx.wdW)).ctx? m = s.ctx? m := fun m => by
    unfold State.ctx?
    rw [(setWd_within ..).ctxsSame (by decide)]
  unfold barrierStarved
  rw [hb]
  dsimp only
  rw [running, hc]
  dsimp only
  rw [Bool.false_or]
  split
  case isTrue he =>
    have none : starvedTraps s n (2 ^ cx.wdW) (blockGroups s b k) = [] := by
      unfold starvedTraps
      rw [List.isEmpty_iff.mp he]
      rfl
    rw [none]
    exact ⟨s, fun _ => rfl, fun _ => rfl, rfl⟩
  case isFalse =>
    refine ⟨setWd s c b n (2 ^ cx.wdW), setWd_groupAt s c b n _, sameCtx, ?_⟩
    change takeTraps _ (starvedTraps s n (2 ^ cx.wdW) (blockGroups s b k)) = _
    cases hts : starvedTraps s n (2 ^ cx.wdW) (blockGroups s b k) with
    | nil => rfl
    | cons e ts =>
      obtain ⟨hg, x, hx, -, he⟩ := mem_starvedTraps.mp (hts ▸ List.mem_cons_self : e ∈ starvedTraps s n (2 ^ cx.wdW) (blockGroups s b k))
      obtain ⟨y, hy, -, hk⟩ := ha e.1 hg
      obtain rfl : y = x := Option.some.inj (hy.symm.trans hx)
      exact takeTraps_of_holds ((setWd_groupAt ..).trans hx) ((sameCtx _).trans (hk ▸ hc)) (he ▸ holds_starved hh)

end

/-- Settles O33: nothing while a group is stopped; else each group with a parked thread takes its trap, which holds. -/
theorem starvedBarrierTrapsItsGroups : Obligations.StarvedBarrierTrapsItsGroups := by
  intro s c b n k hb
  refine ⟨fun h => congrArg Host.Outcome.next (barrierStarved_stopped hb h), fun cx hc hh ha => ?_⟩
  refine ⟨_, rfl, (barrierStarved_within s c b n).memSame (by decide) (by decide), fun g hg x hx => ?_⟩
  obtain ⟨s₀, groups, ctxs, posts⟩ := barrierStarved_posts (n := n) hb hc hh ha
  have trappable : Trappable s₀ tBARRIER_STARVED (starvedTraps s n (2 ^ cx.wdW) (blockGroups s b k)) := fun e he => by
    obtain ⟨hm, z, hz, -, ht⟩ := mem_starvedTraps.mp he
    obtain ⟨y, hy, -, hk⟩ := ha e.1 hm
    obtain rfl : y = z := Option.some.inj (hy.symm.trans hz)
    exact ⟨by rw [ht]; rfl, y, cx, (groups _).trans hy, (ctxs _).trans (hk ▸ hc)⟩
  have parked : (∃ e ∈ starvedTraps s n (2 ^ cx.wdW) (blockGroups s b k), groupKey e.1 = groupKey g) ↔ barAt x n ≠ 0 := by
    constructor
    · rintro ⟨e, he, hk⟩
      obtain ⟨-, z, hz, hp, -⟩ := mem_starvedTraps.mp he
      obtain rfl : z = x := Option.some.inj (hz.symm.trans ((State.group_of_key s hk).trans hx))
      exact hp
    · exact fun hp => ⟨(g, starvedTrap n (2 ^ cx.wdW) x), mem_starvedTraps.mpr ⟨hg, x, hx, hp, rfl⟩, rfl⟩
  obtain ⟨y, hy, ⟨pcs, live, -⟩, held, same⟩ := postTraps_heldIf trappable ((groups g).trans hx)
  refine ⟨y, (congrArg (State.group? · g) posts).trans hy, pcs, live, ?_⟩
  split
  case isTrue h0 => exact same (fun q => parked.mp q h0)
  case isFalse h0 => exact held (parked.mpr h0)

end Sys2Proof.Machine
end

section
/-! SUPPORT. Loads: what each lane reads, the result put on its way, and the result delivered (R85, R133, R304). -/

namespace Sys2Proof.Machine

open Sys2Proof

/-! ## Access checks -/

section
variable {s : State} {e : Env}

theorem checkAccess_none {kind : Nat} (h : ∀ t ∈ e.lanes, MayAccess kind s e t) : checkAccess kind e s = none := by
  have odd : e.lanes.filter (fun t => e.addr t % accWidth e.i != 0) = [] := List.filter_eq_nil_iff.mpr (fun t ht => by simp [(h t ht).aligned])
  have bad : e.lanes.filter (fun t => !mayAccess e.ctx e.c (kind != 1) (e.addr t) (accWidth e.i)) = [] :=
    List.filter_eq_nil_iff.mpr (fun t ht => by simp [(h t ht).mapped])
  have watched : e.lanes.filterMap (fun t => (watchHit s e kind (e.addr t) (accWidth e.i)).map (fun k => (t, k))) = [] :=
    List.filterMap_eq_nil_iff.mpr (fun t ht => by simp [(h t ht).unwatched])
  unfold checkAccess
  dsimp only
  rw [odd, bad, watched]
  rfl

theorem lanes_answer {kind : Nat} (h : ∀ t ∈ e.lanes, MayAccess kind s e t) : e.lanes.any (fun t => unavailable s (e.addr t) (accWidth e.i)) = false :=
  List.any_eq_false.mpr (fun t ht => by simp [(h t ht).answers])

/-! ## Values -/

/-- What is loaded is no longer than what was asked for. -/
theorem ctxLoad_length_le (s : State) (n : Nat) (c : Ctx) (a len : Nat) : (ctxLoad s n c a len).length ≤ len := by
  unfold ctxLoad
  split
  · split
    · exact List.length_take_le ..
    · simp [loadMem, Memory.load]
  · simp [loadMem, Memory.load]

/-- R133: the bytes of a load as a number of its width, extended as MOD[2] says. -/
theorem extendLoad_eq (sg : Bool) {n : Nat} (hn : 0 < n) {bs : List Byte} (h : bs.length ≤ n) :
    extendLoad sg n (leNat bs) = if sg then (BitVec.ofNat (8 * n) (leNat bs)).signExtend 64 else (BitVec.ofNat (8 * n) (leNat bs)).setWidth 64 := by
  have lt : leNat bs < 2 ^ (8 * n) := calc
    leNat bs < 256 ^ bs.length := leNat_lt bs
    _ ≤ 256 ^ n := Nat.pow_le_pow_right (by decide) h
    _ = 2 ^ (8 * n) := (Nat.pow_mul 2 8 n).symm
  have num : (BitVec.ofNat (8 * n) (leNat bs)).toNat = leNat bs := by rw [BitVec.toNat_ofNat, Nat.mod_eq_of_lt lt]
  unfold extendLoad
  cases sg with
  | false => exact BitVec.eq_of_toNat_eq (by rw [if_neg Bool.false_ne_true, if_neg Bool.false_ne_true, BitVec.toNat_setWidth, num, BitVec.toNat_ofNat])
  | true =>
    rw [if_pos rfl, if_pos rfl, BitVec.signExtend, ← signed_toInt (Nat.mul_pos (by decide) hn), num]

/-! ## The lanes read -/

/-- What reading a lane adds to what the lanes before it read (R305). -/
def readNext (e : Env) (x : Reads) (t : Nat) : Reads :=
  let n := accWidth e.i
  let r := readLane x.s e (e.addr t) n
  { s := r.1, vals := x.vals ++ [extendLoad (e.i.mod / 4 % 2 == 1) n r.2.1], poison := if r.2.2.isSome then x.poison ++ [t] else x.poison,
    pa := if x.pa.isSome then x.pa else r.2.2 }

theorem runLd_eq (h : ∀ t ∈ e.lanes, MayAccess 1 s e t) :
    runLd e s = .done (e.post (e.lanes.foldl (readNext e) ⟨s, [], [], none⟩).s e.lanes (e.lanes.foldl (readNext e) ⟨s, [], [], none⟩)) := by
  unfold runLd
  dsimp only
  rw [if_neg (by rw [lanes_answer h]; decide)]
  rfl

/-- The value that lane `t` reads, and whether it reads poison. -/
def laneValue (s : State) (e : Env) (t : Nat) : Word64 := extendLoad (e.i.mod / 4 % 2 == 1) (accWidth e.i) (leNat (ctxLoad s e.ctx e.c (e.addr t) (accWidth e.i)))
def lanePoisoned (s : State) (e : Env) (t : Nat) : Bool := (firstPoison s (e.addr t) (accWidth e.i)).isSome

/-- R304: a lane read from memory without stored errors counts at most. -/
theorem readLane_clean (h : s.mem.errs = []) (a n : Nat) :
    ∃ cs, readLane s e a n = ({ s with counters := cs }, leNat (ctxLoad s e.ctx e.c a n), firstPoison s a n) := by
  obtain ⟨cs, hcs⟩ := touch_clean h a n
  refine ⟨cs, ?_⟩
  unfold readLane
  rw [hcs]
  dsimp only
  have same : firstPoison { s with counters := cs } a n = firstPoison s a n := rfl
  rw [same]
  cases firstPoison s a n <;> rfl

/-- What the lanes of a list read: their values in order, and the lanes that met poison. -/
theorem foldl_readNext (h : s.mem.errs = []) (ts : List Nat) (x : Reads) (hx : ∃ cs, x.s = { s with counters := cs }) :
    let r := ts.foldl (readNext e) x
    (∃ cs, r.s = { s with counters := cs }) ∧ r.vals = x.vals ++ ts.map (laneValue s e) ∧ r.poison = x.poison ++ ts.filter (lanePoisoned s e) := by
  induction ts generalizing x with
  | nil => simpa using hx
  | cons t ts ih =>
    obtain ⟨cs, hcs⟩ := hx
    obtain ⟨cs', hr⟩ := readLane_clean (s := x.s) (e := e) (by rw [hcs]; exact h) (e.addr t) (accWidth e.i)
    have value : (readNext e x t).vals = x.vals ++ [laneValue s e t] := by unfold readNext; dsimp only; rw [hr, hcs]; rfl
    have poison : (readNext e x t).poison = x.poison ++ [t].filter (lanePoisoned s e) := by
      unfold readNext
      dsimp only
      rw [hr, hcs, List.filter_singleton]
      show (if lanePoisoned s e t = true then _ else _) = _
      cases lanePoisoned s e t <;> simp
    obtain ⟨hs, hv, hp⟩ := ih (readNext e x t) ⟨cs', by unfold readNext; dsimp only; rw [hr, hcs]⟩
    refine ⟨hs, hv.trans ?_, hp.trans ?_⟩
    · rw [value, List.append_assoc, List.singleton_append, List.map_cons]
    · rw [poison, List.append_assoc, ← List.filter_append, List.singleton_append]

/-- The result that a load puts on its way. -/
def loadPend (e : Env) (r : Reads) : Pend :=
  { dest := e.i.dst, mask := if isV e.i.dst then maskOf (fun t => e.lanes.contains t) else e.act, vals := r.vals,
    poison := maskOf (fun t => r.poison.contains t), paddr := r.pa.getD 0, pspace := spaceOf (r.pa.getD 0), ready := true, msg := none }

theorem post_eq (u : State) (hg : u.group? e.g = some e.gr) (r : Reads) :
    e.post u e.lanes r = u.setGroup e.g { e.gr with pend := e.gr.pend ++ [loadPend e r] } := by
  unfold Env.post Env.update Env.group
  rw [hg]
  rfl

end

/-! ## A result delivered (R85) -/

section
variable {gr : Group} {p : Pend}

/-- A value written to thread `t` of register `r`, marked when it is poison. -/
def deliverLane (p : Pend) (r : Nat) (x : Group) (a : Nat × Word64) : Group :=
  let y := x.vPut r a.1 (a.2.setWidth 32)
  if p.poison.getLsbD a.1 then { y with poisoned := Sparse.set y.poisoned (64 * r + a.1) (p.paddr, p.pspace) } else y

theorem deliver_v {r : Nat} (h : desig p.dest = .v r) : deliver gr p = ((threads p.mask).zip p.vals).foldl (deliverLane p r) gr := by
  unfold deliver
  rw [h]
  rfl

theorem deliver_u {r : Nat} (h : desig p.dest = .u r) : ∃ q, deliver gr p = { gr.uPut r (p.vals.headD 0) with poisoned := q } := by
  unfold deliver
  rw [h]
  dsimp only
  split
  · exact ⟨_, rfl⟩
  · exact ⟨_, rfl⟩

theorem deliverLane_eq (p : Pend) (r : Nat) (x : Group) (a : Nat × Word64) : ∃ q, deliverLane p r x a = { x.vPut r a.1 (a.2.setWidth 32) with poisoned := q } := by
  unfold deliverLane
  dsimp only
  split
  · exact ⟨_, rfl⟩
  · exact ⟨_, rfl⟩

theorem deliverLane_vGet (p : Pend) (r : Nat) (x : Group) {a : Nat × Word64} (ha : a.1 < 64) (q : Nat) {t : Nat} (ht : t < 64) :
    (deliverLane p r x a).vGet q t = if r = q ∧ t = a.1 then a.2.setWidth 32 else x.vGet q t := by
  obtain ⟨k, hk⟩ := deliverLane_eq p r x a
  rw [hk]
  exact vGet_vPut x r a.1 q t _ ha ht

/-- Lanes written leave every other thread and register alone. -/
theorem foldl_deliverLane_other (p : Pend) (r : Nat) (l : List (Nat × Word64)) (hl : ∀ a ∈ l, a.1 < 64) (x : Group) (q : Nat) {t : Nat} (ht : t < 64)
    (h : q ≠ r ∨ ∀ a ∈ l, a.1 ≠ t) : (l.foldl (deliverLane p r) x).vGet q t = x.vGet q t := by
  induction l generalizing x with
  | nil => rfl
  | cons a l ih =>
    rw [List.foldl_cons, ih (fun b hb => hl b (List.mem_cons_of_mem a hb)) _ (h.imp_right (fun k b hb => k b (List.mem_cons_of_mem a hb))),
      deliverLane_vGet p r x (hl a List.mem_cons_self) q ht, if_neg]
    rintro ⟨rfl, rfl⟩
    exact h.elim (fun k => k rfl) (fun k => k a List.mem_cons_self rfl)

/-- Each lane of a list without repeats gets its value. -/
theorem foldl_deliverLane_at (p : Pend) (r : Nat) (l : List (Nat × Word64)) (hl : ∀ a ∈ l, a.1 < 64) (hn : (l.map Prod.fst).Nodup) (x : Group)
    {a : Nat × Word64} (ha : a ∈ l) : (l.foldl (deliverLane p r) x).vGet r a.1 = a.2.setWidth 32 := by
  induction l generalizing x with
  | nil => cases ha
  | cons b l ih =>
    obtain ⟨hb, hn⟩ := List.nodup_cons.mp hn
    have rest : ∀ c ∈ l, c.1 < 64 := fun c hc => hl c (List.mem_cons_of_mem b hc)
    rw [List.foldl_cons]
    rcases List.mem_cons.mp ha with rfl | ha
    · have lt := hl a List.mem_cons_self
      rw [foldl_deliverLane_other p r l rest _ r lt (.inr (fun c hc k => hb (k ▸ List.mem_map_of_mem hc))), deliverLane_vGet p r x lt r lt,
        if_pos ⟨rfl, rfl⟩]
    · exact ih rest hn _ ha

theorem foldl_deliverLane_u (p : Pend) (r : Nat) (l : List (Nat × Word64)) (x : Group) : (l.foldl (deliverLane p r) x).u = x.u :=
  List.foldlRecOn (motive := fun y : Group => y.u = x.u) l _ rfl (fun y hy a _ => by
    obtain ⟨k, hk⟩ := deliverLane_eq p r y a
    rw [hk]
    exact hy)

theorem deliver_keeps (gr : Group) (p : Pend) : (deliver gr p).pcs = gr.pcs ∧ (deliver gr p).p = gr.p ∧ (deliver gr p).live = gr.live := by
  obtain ⟨v, u, q, h⟩ := deliver_eq gr p
  rw [h]
  exact ⟨rfl, rfl, rfl⟩

/-- R85: a result that has come is written, and its entry is free. -/
theorem loadReturn_writes {s : State} {g : GroupId} {n : Nat} (hg : s.group? g = some gr) (hp : gr.pend[n]? = some p) (hr : p.ready = true)
    (hl : gr.live ≠ 0) : loadReturn s g n = s.setGroup g { deliver gr p with pend := gr.pend.eraseIdx n } := by
  unfold loadReturn
  rw [hg]
  dsimp only
  rw [hp]
  dsimp only
  rw [if_pos hr]
  exact settleGroup_stays (State.group_setGroup ..) (.inl ((deliver_keeps gr p).2.2.trans_ne hl))

end

/-- Settles O34: the lanes read one after another, their result on its way, and the result delivered. -/
theorem loadsReturnWhatMemoryHolds : Obligations.LoadsReturnWhatMemoryHolds := by
  refine ⟨fun s g e h clean may => ?load, fun s g gr n p hg hp hr hl => ?back⟩
  case load =>
    intro n value
    obtain ⟨rfl, hg, -⟩ := env_group h.stands
    obtain ⟨⟨cs, hs⟩, hv, hp⟩ := foldl_readNext (e := e) clean e.lanes ⟨s, [], [], none⟩ ⟨s.counters, rfl⟩
    have run := commits_of_run (i := .ld e.g) h rfl (by decide) (checkAccess_none may) (runLd_eq may)
    generalize e.lanes.foldl (readNext e) ⟨s, [], [], none⟩ = r at hs hv hp run
    rw [post_eq r.s (by rw [hs]; exact hg), hs] at run
    refine ⟨_, loadPend e r, run, rfl, State.group_setGroup .., fun h hk => State.group_setGroup_ne _ _ hk, rfl, rfl, rfl, rfl, ?vals, fun t ht => ?mask, fun t ht => ?poison⟩
    case vals =>
      refine hv.trans (List.map_congr_left (fun t _ => ?_))
      refine (extendLoad_eq _ (Nat.two_pow_pos _) (ctxLoad_length_le ..)).trans ?_
      simp only [beq_iff_eq]
      rfl
    case mask =>
      unfold loadPend
      dsimp only
      split
      · rw [maskOf_bit _ ht, List.contains_eq_mem]
      · rfl
    case poison =>
      unfold loadPend
      rw [maskOf_bit _ ht, hp]
      simp [lanePoisoned, n]
  case back =>
    obtain ⟨pcs, preds, -⟩ := deliver_keeps gr p
    refine ⟨_, congrArg Host.Outcome.next (loadReturn_writes hg hp hr hl), rfl, pcs, preds, fun r hd hr64 => ?v, fun r hd => ?u⟩
    case v =>
      have lanes : ∀ a ∈ (threads p.mask).zip p.vals, a.1 < 64 := fun a ha => (mem_threads.mp (List.of_mem_zip ha).1).1
      have nodup : (((threads p.mask).zip p.vals).map Prod.fst).Nodup := by
        rw [List.zip_eq_zip_take_min, List.map_fst_zip (by simp)]
        exact (List.take_sublist ..).nodup (threads_nodup p.mask)
      refine ⟨(congrArg Group.u (deliver_v hd)).trans (foldl_deliverLane_u ..), fun k t x hk hx => ?_, fun q t ht ho => ?_⟩
      · exact (congrArg (Group.vGet · r t) (deliver_v hd)).trans
          (foldl_deliverLane_at p r _ lanes nodup gr (a := (t, x)) (List.mem_of_getElem? (i := k) (by rw [List.getElem?_zip_eq_some]; exact ⟨hk, hx⟩)))
      · refine (congrArg (Group.vGet · q t) (deliver_v hd)).trans (foldl_deliverLane_other p r _ lanes gr q ht (ho.imp_right (fun hm a ha k => ?_)))
        have bit := (mem_threads.mp (List.of_mem_zip ha).1).2
        rw [k, hm] at bit
        cases bit
    case u =>
      obtain ⟨q, hq⟩ := deliver_u (gr := gr) hd
      have same : (deliver gr p).v = gr.v := by rw [hq]; rfl
      refine ⟨same, (congrArg (Group.uGet · r) hq).trans ?_, fun a ha => (congrArg (Group.uGet · a) hq).trans ?_⟩
      · exact (uGet_uPut gr r r _).trans (if_pos rfl)
      · exact (uGet_uPut gr r a _).trans (if_neg (Ne.symm ha))

/-! ## Arrivals at a group-collective instruction (R100, R102, Table 3.5) -/

section
variable {s : State} {g : GroupId} {e : Env} {m : Mn} {i : Instr}

/-- The rows of the group-collective instructions issue them. -/
theorem engineRow_issues (h : (m, i) ∈ engineRows g) (s : State) :
    m ∈ [Mn.mcfg, .mload, .mmul, .mfill, .madapt, .mdrain, .streamIssue] ∧ Machine.exec i s = .next (issue m g s) := by
  simp only [engineRows, List.mem_cons, Prod.mk.injEq, List.not_mem_nil, or_false] at h
  rcases h with ⟨rfl, rfl⟩ | ⟨rfl, rfl⟩ | ⟨rfl, rfl⟩ | ⟨rfl, rfl⟩ | ⟨rfl, rfl⟩ | ⟨rfl, rfl⟩ | ⟨rfl, rfl⟩ <;> exact ⟨by decide, rfl⟩

/-- A group-collective instruction takes no scoreboard entry. -/
theorem takesEntry_engine (hm : m ∈ [Mn.mcfg, .mload, .mmul, .mfill, .madapt, .mdrain, .streamIssue]) (i : Insn) : takesEntry m i = false := by
  simp only [List.mem_cons, List.not_mem_nil, or_false] at hm
  rcases hm with rfl | rfl | rfl | rfl | rfl | rfl | rfl <;> rfl

theorem attempt_engine (hn : e.mn = m) (hm : m ∈ [Mn.mcfg, .mload, .mmul, .mfill, .madapt, .mdrain, .streamIssue]) (hu : marked e.gr e.f e.i = false)
    (hb : e.gr.skipBp = true ∨ Env.bpHit s e = none) : attempt e s = arriveColl e s := by
  have unstopped : (if e.gr.skipBp = true then none else Env.bpHit s e) = none := by rcases hb with hb | hb <;> simp [hb]
  have assigned : m ≠ .reserved := fun k => by rw [k] at hm; simp at hm
  unfold attempt
  rw [hn, hu, takesEntry_engine hm, unstopped]
  simp [assigned, acts_engine hn hm]

theorem issue_settles (he : nextEnv s g = some e) (ha : e.gr.st = .active) (hf : e.gr.stalled = false) (hn : e.mn = m) :
    issue m g s = settleRes e s (attempt e s) := by
  unfold issue
  rw [he]
  exact if_pos ⟨ha, hf, hn⟩

/-- R100: a subset that finds no other parked elsewhere, and is not the last to come, parks. -/
theorem arriveColl_parks (hg : s.group? e.g = some e.gr) (hr : e.collRoom s = true) (hl : e.gr.collMask ≠ e.gr.live)
    (hc : e.gr.collMask = 0 ∨ e.gr.collPc.toNat = e.pc) (hb : e.gr.barMask = 0) (ha : e.gr.collMask ||| e.mask ≠ e.gr.live) :
    arriveColl e s = .parked (s.setGroup e.g { e.gr with collMask := e.gr.collMask ||| e.mask, collPc := BitVec.ofNat 64 e.pc }) := by
  have together : e.collSplit = none := by
    unfold Env.collSplit
    rw [hb]
    rcases hc with hc | hc <;> simp [hc]
  unfold arriveColl
  rw [hr, together]
  simp only [Bool.not_true, Bool.false_eq_true, if_false, beq_iff_eq, hl, ha]
  unfold Env.update Env.group
  rw [hg, Option.getD_some]

/-- R102: a subset that finds another parked at a different collective instruction splits from it. -/
theorem arriveColl_splits (hr : e.collRoom s = true) (hl : e.gr.collMask ≠ e.gr.live) (hc : e.gr.collMask ≠ 0) (hp : e.gr.collPc.toNat ≠ e.pc) :
    arriveColl e s = .trap (e.split e.gr.collPc.toNat e.gr.collMask) := by
  have apart : e.collSplit = some (e.split e.gr.collPc.toNat e.gr.collMask) := by
    unfold Env.collSplit
    rw [if_pos (by simpa [hp] using hc)]
  unfold arriveColl
  rw [hr, apart]
  simp [hl]

end

/-- Settles O39: the row of an engine instruction by what the arrival comes to. -/
theorem collectiveArrivalsParkOrSplit : Obligations.CollectiveArrivalsParkOrSplit := by
  intro s g e m i hi he ha hf hn hu hb hr hl
  obtain ⟨rfl, hg, -⟩ := env_group he
  obtain ⟨hm, row⟩ := engineRow_issues hi s
  have settles : Machine.exec i s = .next (settleRes e s (arriveColl e s)) := by
    rw [row, issue_settles he ha hf hn, attempt_engine hn hm hu hb]
  refine ⟨fun hc h0 hx => ?parks, fun hc hp => ?splits⟩
  case parks =>
    rw [arriveColl_parks hg hr hl hc h0 hx] at settles
    exact settles
  case splits =>
    rw [arriveColl_splits hr hl hc hp] at settles
    exact ⟨_, settles, rfl, rfl, rfl, rfl⟩

end Sys2Proof.Machine
end

section
/-! SUPPORT. The debug commands: who may give them, the group they name, and what each does to it (R109 to R115, R472, Tables 3.6, 3.9 and 3.11). -/

namespace Sys2Proof.Machine

open Sys2Proof

/-! ## The context and the group a command names -/

section
variable {s : State} {r : RingId} {c : OutCmd} {p : List Byte} {x : Ctx} {gr : Group}

/-- R472: a function that does not own the context's slot may not debug it. -/
theorem debugDenied_other (h : fnOwns r.fn x.slot = false) : debugDenied s r.fn x = some dFUNCTION := by
  unfold debugDenied
  rw [h]
  rfl

theorem onCtx_begun (hx : s.ctx? c.context = some x) (hd : debugDenied s r.fn x = none) (f : Ctx → Ran) :
    onCtx (begun s r c p) r { c with payload := p } f = f x := by
  have hd' : debugDenied (begun s r c p) r.fn x = none := hd
  unfold onCtx
  dsimp only
  rw [begun_ctx, hx]
  dsimp only
  rw [hd']

theorem onCtx_denied (hx : s.ctx? c.context = some x) (h : fnOwns r.fn x.slot = false) (f : Ctx → Ran) :
    onCtx (begun s r c p) r { c with payload := p } f = .fin (begun s r c p) 4 1 [] := by
  unfold onCtx
  dsimp only
  rw [begun_ctx, hx]
  dsimp only
  rw [debugDenied_other h]
  rfl

theorem onGroup_begun (hx : s.ctx? c.context = some x) (hd : debugDenied s r.fn x = none) (hg : s.group? c.group = some gr) (hc : gr.ctx = c.context)
    (ok : Group → Bool) (f : Ctx → Group → Ran) :
    onGroup (begun s r c p) r { c with payload := p } ok f = if ok gr then f x gr else .fin (begun s r c p) 5 (gstateCode gr.st) [] := by
  have group : (begun s r c p).group? { c with payload := p }.group = some gr := hg
  unfold onGroup
  rw [onCtx_begun hx hd, group]
  dsimp only
  rw [hc, bne_self_eq_false, if_neg Bool.false_ne_true]
  rfl

theorem onGroup_ok (hx : s.ctx? c.context = some x) (hd : debugDenied s r.fn x = none) (hg : s.group? c.group = some gr) (hc : gr.ctx = c.context)
    {ok : Group → Bool} (ho : ok gr = true) (f : Ctx → Group → Ran) : onGroup (begun s r c p) r { c with payload := p } ok f = f x gr :=
  (onGroup_begun hx hd hg hc ok f).trans (if_pos ho)

theorem onGroup_wrong (hx : s.ctx? c.context = some x) (hd : debugDenied s r.fn x = none) (hg : s.group? c.group = some gr) (hc : gr.ctx = c.context)
    {ok : Group → Bool} (ho : ok gr = false) (f : Ctx → Group → Ran) :
    onGroup (begun s r c p) r { c with payload := p } ok f = .fin (begun s r c p) 5 (gstateCode gr.st) [] :=
  (onGroup_begun hx hd hg hc ok f).trans (if_neg (by rw [ho]; exact Bool.false_ne_true))

end

/-! ## Attach and detach (R109) -/

theorem Sparse.mem_of_find? {α : Type} {m : Sparse α} {k : Nat} {v : α} (h : Sparse.find? m k = some v) : (k, v) ∈ m := by
  induction m with
  | nil => cases h
  | cons e m ih =>
    obtain ⟨a, w⟩ := e
    by_cases hk : a = k
    · rw [Sparse.find?, if_pos hk] at h
      rw [hk, Option.some.inj h]
      exact List.mem_cons_self
    · rw [Sparse.find?, if_neg hk] at h
      exact List.mem_cons_of_mem _ (ih h)

/-- What a table holds for a key is its default, or listed. -/
theorem Sparse.get_eq_or_mem {α : Type} (d : α) (m : Sparse α) (k : Nat) : Sparse.get d m k = d ∨ (k, Sparse.get d m k) ∈ m := by
  unfold Sparse.get
  cases h : Sparse.find? m k with
  | none => exact .inl rfl
  | some v => exact .inr (Sparse.mem_of_find? h)

/-- An entry that is found in a table filtered passes the filter. -/
theorem Sparse.of_find?_filter {α : Type} {q : Nat × α → Bool} {m : Sparse α} {k : Nat} {v : α} (h : Sparse.find? (m.filter q) k = some v) : q (k, v) = true :=
  (List.mem_filter.mp (Sparse.mem_of_find? h)).2

/-- R114: no breakpoint of the context is left in any unit. -/
theorem clearPoints_bps {s : State} {n u i : Nat} {b : Bp} (h : Sparse.find? ((clearPoints s n).unitSt u).bps i = some b) : b.ctx ≠ n := by
  rcases Sparse.get_eq_or_mem UnitSt.fresh (clearPoints s n).units u with hd | hm
  · unfold State.unitSt at h
    rw [hd] at h
    cases h
  · obtain ⟨e, -, he⟩ := List.mem_map.mp (List.mem_filter.mp hm).1
    have same := congrArg Prod.snd he
    dsimp only at same
    rw [State.unitSt, ← same] at h
    simpa using Sparse.of_find?_filter h

/-- R115: no watchpoint of the context is left on any cluster. -/
theorem clearPoints_wps {s : State} {n k i : Nat} {w : Wp} (h : Sparse.find? ((clearPoints s n).cluster k).wps i = some w) : w.ctx ≠ n := by
  rcases Sparse.get_eq_or_mem Cluster.fresh (clearPoints s n).clusters k with hd | hm
  · unfold State.cluster at h
    rw [hd] at h
    cases h
  · obtain ⟨e, -, he⟩ := List.mem_map.mp (List.mem_filter.mp hm).1
    have same := congrArg Prod.snd he
    dsimp only at same
    rw [State.cluster, ← same] at h
    simpa using Sparse.of_find?_filter h

/-- A context in which no group is stopped runs on. -/
theorem detachDebugger_running {s : State} {n : Nat} (x : Ctx) (h : ∀ g gr, g ∈ ctxGroups s n → s.group? g = some gr → gr.st = .active) :
    detachDebugger s n x = clearPoints (s.setCtx n { x with hold := false }) n := by
  have running : ∀ g ∈ ctxGroups s n, (s.group? g).any (fun gr => gr.st == .halted) = false ∧ (s.group? g).any heldByFault = false := fun g hg => by
    cases he : s.group? g with
    | none => exact ⟨rfl, rfl⟩
    | some gr => simp [heldByFault, h g gr hg he]
  have freed : (ctxGroups (clearPoints (s.setCtx n { x with hold := false }) n) n).foldl
      (fun t g => if (t.group? g).any (fun gr => gr.st == .halted) then resumeGroup t g else t) (clearPoints (s.setCtx n { x with hold := false }) n) =
      clearPoints (s.setCtx n { x with hold := false }) n :=
    List.foldlRecOn (motive := fun t => t = clearPoints (s.setCtx n { x with hold := false }) n) _ _ rfl (fun t ht g hg => by
      rw [ht]
      exact if_neg (Bool.eq_false_iff.mp (running g hg).1))
  have unfaulted : (ctxGroups (clearPoints (s.setCtx n { x with hold := false }) n) n).find?
      (fun g => ((clearPoints (s.setCtx n { x with hold := false }) n).group? g).any heldByFault) = none :=
    List.find?_eq_none.mpr (fun g hg => Bool.eq_false_iff.mp (running g hg).2)
  unfold detachDebugger
  dsimp only
  rw [freed, unfaulted]

/-! ## Resume and step (R110, R111, R112) -/

section
variable {s : State} {g : GroupId} {gr : Group}

theorem retire_live (gr : Group) : (retire gr).live = gr.live := (retire_keeps_threads gr).2

/-- R110: a group that no barrier starved runs on from where it stopped. -/
theorem resumeGroup_eq (hg : s.group? g = some gr) (hl : gr.live ≠ 0) (ht : gr.lastTrap ≠ tBARRIER_STARVED) :
    resumeGroup s g = s.setGroup g { gr with st := .active, lastTrap := 0, skipBp := true } := by
  unfold resumeGroup
  rw [hg]
  dsimp only
  rw [if_neg ht]
  exact settleGroup_stays (State.group_setGroup ..) (.inl hl)

theorem byteAt_of_head {bs : List Byte} {b : Byte} (h : bs.head? = some b) : byteAt bs 0 = b := by
  cases bs with
  | nil => cases h
  | cons a l => exact Option.some.inj h

/-- R108, R111: STEP_DONE answers its record of 256 bytes and leaves the group HALTED. -/
theorem stepDone_halts (hg : (s.group? g).isSome = true) (gr : Group) (x : Ctx) (pc : Nat) (m : BitVec 64) (parked : Bool) :
    ∃ t b, stepDone s g gr x pc m parked = .fin t sOK 0 b ∧ b.length = 256 ∧ byteAt b 0 = 0x0A ∧
      t.group? g = some { gr with st := .halted, lastTrap := 0 } ∧ t.mem = s.mem := by
  unfold stepDone
  rw [if_pos hg]
  refine ⟨_, _, rfl, trapRecord_length .., byteAt_of_head (trapRecord_code ..), ?_, ?_⟩
  · rw [postEvent_groupAt, State.bump_groupAt, State.group_setGroup]
  · exact (postEvent_within ..).memSame (by decide) (by decide)

/-- The state in which a stopped group steps. -/
def stepping (s : State) (g : GroupId) (gr : Group) : State := s.setGroup g { gr with st := .active, skipBp := true, lastTrap := 0 }

/-- R111: a step of an instruction that commits, with no result outstanding. -/
theorem stepOnce_commits {c : OutCmd} {x : Ctx} {e : Env} {u : State} {y : Group} (hs : gr.stalled = false)
    (he : nextEnv (stepping s c.group gr) c.group = some e)
    (ha : attempt e (stepping s c.group gr) = .done u ∨ attempt e (stepping s c.group gr) = .jumped u)
    (hy : (settleRes e (stepping s c.group gr) (attempt e (stepping s c.group gr))).group? c.group = some y) (hf : y.stalled = false)
    (hr : y.pend.all (·.ready) = true) (ht : y.st ≠ .held) (hl : y.live ≠ 0) :
    ∃ t b, stepOnce s c x gr = .fin t sOK 0 b ∧ b.length = 256 ∧ byteAt b 0 = 0x0A ∧
      t.group? c.group = some { retire y with st := .halted, lastTrap := 0 } ∧
      t.mem = (settleRes e (stepping s c.group gr) (attempt e (stepping s c.group gr))).mem := by
  have came : (y.stalled || y.pend.any (fun q => !q.ready)) = false := by
    rw [hf, Bool.false_or, ← List.not_all_eq_any_not, hr]
    rfl
  have done : ∀ (v : State) (pc : Nat) (m : BitVec 64), ∃ t b,
      stepDone (settleGroup (v.setGroup c.group (retire y)) c.group) c.group (retire y) x pc m false = .fin t sOK 0 b ∧ b.length = 256 ∧
        byteAt b 0 = 0x0A ∧ t.group? c.group = some { retire y with st := .halted, lastTrap := 0 } ∧ t.mem = v.mem := fun v pc m => by
    rw [settleGroup_stays (State.group_setGroup ..) (.inl ((retire_live y).trans_ne hl))]
    exact stepDone_halts (by rw [State.group_setGroup]; rfl) ..
  unfold stepping at he ha hy ⊢
  unfold stepOnce
  dsimp only
  rw [if_neg (Bool.eq_false_iff.mp hs), he]
  dsimp only
  rcases ha with ha | ha <;>
    · rw [ha] at hy ⊢
      dsimp only
      rw [hy]
      dsimp only
      rw [came, if_neg Bool.false_ne_true, if_neg ht]
      exact done ..

end

/-! ## The register image written (R113, Table 3.11) -/

section
variable (c : OutCmd) (gr : Group)

theorem writePcs_eq : ∃ q, writePcs c gr = { gr with pcs := q, sites := [], bars := [], collMask := 0 } :=
  pcs_fold (fun t => BitVec.ofNat 64 (c.pay (64 + 8 * t) 8)) (threads gr.live) { gr with sites := [], bars := [], collMask := 0 }

theorem pcGet_writePcs {t : Nat} (h : t < 64) (hl : gr.live.getLsbD t = true) : (writePcs c gr).pcGet t = BitVec.ofNat 64 (c.pay (64 + 8 * t) 8) :=
  (pcGet_fold (fun t => BitVec.ofNat 64 (c.pay (64 + 8 * t) 8)) _ _ t).trans (if_pos (mem_threads.mpr ⟨h, hl⟩))

/-- Uniform registers of a list written: every other keeps its value. -/
theorem uGet_fold (f : Nat → Word64) (ns : List Nat) (g : Group) (n : Nat) :
    (ns.foldl (fun x m => x.uPut m (f m)) g).uGet n = if n ∈ ns then f n else g.uGet n := by
  induction ns generalizing g with
  | nil => simp
  | cons m ns ih =>
    rw [List.foldl_cons, ih, uGet_uPut]
    by_cases hm : m = n
    · simp [hm]
    · simp [hm, Ne.symm hm]

theorem writeU_eq : ∃ u q, writeU c gr = { gr with u := u, poisoned := q } := by
  unfold writeU
  refine List.foldlRecOn (motive := fun x : Group => ∃ u q, x = { gr with u := u, poisoned := q }) _ _ ⟨gr.u, gr.poisoned, rfl⟩ ?_
  rintro x ⟨u, q, rfl⟩ n -
  exact ⟨_, _, rfl⟩

theorem uGet_writeU {n : Nat} (h : n < 32) : (writeU c gr).uGet n = BitVec.ofNat 64 (c.pay (576 + 8 * n) 8) :=
  (uGet_fold (fun n => BitVec.ofNat 64 (c.pay (576 + 8 * n) 8)) _ _ n).trans (if_pos (List.mem_range.mpr h))

theorem writeP_eq : ∃ q, writeP c gr = { gr with p := q } := by
  unfold writeP
  refine List.foldlRecOn (motive := fun x : Group => ∃ q, x = { gr with p := q }) _ _ ⟨gr.p, rfl⟩ ?_
  rintro x ⟨q, rfl⟩ t -
  refine List.foldlRecOn (motive := fun x : Group => ∃ q, x = { gr with p := q }) _ _ ⟨q, rfl⟩ ?_
  rintro x ⟨q, rfl⟩ k -
  exact ⟨_, rfl⟩

theorem writeV_eq : ∃ v q, writeV c gr = { gr with v := v, poisoned := q } := by
  unfold writeV
  refine List.foldlRecOn (motive := fun x : Group => ∃ v q, x = { gr with v := v, poisoned := q }) _ _ ⟨gr.v, gr.poisoned, rfl⟩ ?_
  rintro x ⟨v, q, rfl⟩ t -
  refine List.foldlRecOn (motive := fun x : Group => ∃ v q, x = { gr with v := v, poisoned := q }) _ _ ⟨v, q, rfl⟩ ?_
  rintro x ⟨v, q, rfl⟩ k -
  exact ⟨_, _, rfl⟩

/-- Per-thread registers of a list written in one thread. -/
theorem vGet_fold (f : Nat → Word32) (ns : List Nat) (g : Group) {t : Nat} (ht : t < 64) (n : Nat) {th : Nat} (h : th < 64) :
    (ns.foldl (fun x m => x.vPut m t (f m)) g).vGet n th = if n ∈ ns ∧ th = t then f n else g.vGet n th := by
  induction ns generalizing g with
  | nil => simp
  | cons m ns ih =>
    rw [List.foldl_cons, ih, vGet_vPut _ _ _ _ _ _ ht h]
    by_cases hm : m = n
    · by_cases he : th = t <;> simp [hm, he]
    · simp [hm, Ne.symm hm]

/-- Per-thread registers of a list written in each thread of another. -/
theorem vGet_foldThreads (f : Nat → Nat → Word32) (ns ts : List Nat) (hts : ∀ t ∈ ts, t < 64) (g : Group) (n : Nat) {th : Nat} (h : th < 64) :
    (ts.foldl (fun x t => ns.foldl (fun y m => y.vPut m t (f t m)) x) g).vGet n th = if n ∈ ns ∧ th ∈ ts then f th n else g.vGet n th := by
  induction ts generalizing g with
  | nil => simp
  | cons t ts ih =>
    rw [List.foldl_cons, ih (fun a ha => hts a (List.mem_cons_of_mem t ha)), vGet_fold (f t) ns g (hts t List.mem_cons_self) n h]
    by_cases hn : n ∈ ns <;> by_cases ht : th ∈ ts <;> by_cases he : th = t <;> simp [hn, ht, he]

theorem vGet_writeV {n t : Nat} (hn : n < 64) (h : t < 64) (hl : gr.live.getLsbD t = true) :
    (writeV c gr).vGet n t = BitVec.ofNat 32 (c.pay (896 + 256 * t + 4 * n) 4) :=
  (vGet_foldThreads (fun t n => BitVec.ofNat 32 (c.pay (896 + 256 * t + 4 * n) 4)) _ _ (fun _ ha => (mem_threads.mp ha).1) gr n h).trans
    (if_pos ⟨List.mem_range.mpr hn, mem_threads.mpr ⟨h, hl⟩⟩)

/-! The parts of an image are written one after another: program counters, uniform registers, predicates, per-thread registers. -/

def pcsWritten : Group := if c.arg 4 1 % 2 = 1 then writePcs c gr else gr
def uWritten : Group := if c.arg 4 1 / 2 % 2 = 1 then writeU c (pcsWritten c gr) else pcsWritten c gr
def pWritten : Group := if c.arg 4 1 / 4 % 2 = 1 then writeP c (uWritten c gr) else uWritten c gr

theorem writeImage_eq : writeImage c gr = if c.arg 4 1 / 8 % 2 = 1 then writeV c (pWritten c gr) else pWritten c gr := rfl

theorem writeImage_from_p : ∃ v q, writeImage c gr = { pWritten c gr with v := v, poisoned := q } := by
  rw [writeImage_eq]
  split
  · exact writeV_eq c _
  · exact ⟨_, _, rfl⟩

theorem writeImage_from_u : ∃ p v q, writeImage c gr = { uWritten c gr with p := p, v := v, poisoned := q } := by
  obtain ⟨v, q, h⟩ := writeImage_from_p c gr
  rw [h, pWritten]
  split
  · obtain ⟨p, hp⟩ := writeP_eq c (uWritten c gr)
    rw [hp]
    exact ⟨_, _, _, rfl⟩
  · exact ⟨_, _, _, rfl⟩

theorem writeImage_from_pcs : ∃ u p v q, writeImage c gr = { pcsWritten c gr with u := u, p := p, v := v, poisoned := q } := by
  obtain ⟨p, v, q, h⟩ := writeImage_from_u c gr
  rw [h, uWritten]
  split
  · obtain ⟨u, k, hu⟩ := writeU_eq c (pcsWritten c gr)
    rw [hu]
    exact ⟨_, _, _, _, rfl⟩
  · exact ⟨_, _, _, _, rfl⟩

theorem pcsWritten_keeps : (pcsWritten c gr).live = gr.live ∧ (pcsWritten c gr).st = gr.st ∧ (pcsWritten c gr).u = gr.u ∧ (pcsWritten c gr).p = gr.p ∧
    (pcsWritten c gr).v = gr.v := by
  unfold pcsWritten
  split
  · obtain ⟨q, h⟩ := writePcs_eq c gr
    rw [h]
    exact ⟨rfl, rfl, rfl, rfl, rfl⟩
  · exact ⟨rfl, rfl, rfl, rfl, rfl⟩

theorem uWritten_keeps : (uWritten c gr).live = gr.live ∧ (uWritten c gr).p = gr.p ∧ (uWritten c gr).v = gr.v := by
  obtain ⟨hl, -, -, hp, hv⟩ := pcsWritten_keeps c gr
  unfold uWritten
  split
  · obtain ⟨u, q, h⟩ := writeU_eq c (pcsWritten c gr)
    rw [h]
    exact ⟨hl, hp, hv⟩
  · exact ⟨hl, hp, hv⟩

theorem pWritten_keeps : (pWritten c gr).live = gr.live ∧ (pWritten c gr).v = gr.v := by
  obtain ⟨hl, -, hv⟩ := uWritten_keeps c gr
  unfold pWritten
  split
  · obtain ⟨q, h⟩ := writeP_eq c (uWritten c gr)
    rw [h]
    exact ⟨hl, hv⟩
  · exact ⟨hl, hv⟩

/-- The threads of a group, and where a written image leaves them. -/
theorem writeImage_threads : (writeImage c gr).live = gr.live ∧ (writeImage c gr).st = gr.st ∧
    (c.arg 4 1 % 2 = 0 → (writeImage c gr).pcs = gr.pcs ∧ (writeImage c gr).sites = gr.sites ∧ (writeImage c gr).bars = gr.bars) ∧
    (c.arg 4 1 % 2 = 1 → (writeImage c gr).sites = [] ∧ (writeImage c gr).bars = [] ∧
      ∀ t < 64, gr.live.getLsbD t = true → (writeImage c gr).pcGet t = BitVec.ofNat 64 (c.pay (64 + 8 * t) 8)) := by
  obtain ⟨u, p, v, q, h⟩ := writeImage_from_pcs c gr
  obtain ⟨hl, hs, -⟩ := pcsWritten_keeps c gr
  rw [h]
  refine ⟨hl, hs, fun h0 => ?_, fun h1 => ?_⟩
  · rw [pcsWritten, if_neg (by omega)]
    exact ⟨rfl, rfl, rfl⟩
  · rw [pcsWritten, if_pos h1]
    obtain ⟨k, hk⟩ := writePcs_eq c gr
    exact ⟨by rw [hk], by rw [hk], fun t ht hlive => by rw [← pcGet_writePcs c gr ht hlive, Group.pcGet, Group.pcGet]⟩

theorem writeImage_u : (c.arg 4 1 / 2 % 2 = 0 → (writeImage c gr).u = gr.u) ∧
    (c.arg 4 1 / 2 % 2 = 1 → ∀ n < 32, (writeImage c gr).uGet n = BitVec.ofNat 64 (c.pay (576 + 8 * n) 8)) := by
  obtain ⟨p, v, q, h⟩ := writeImage_from_u c gr
  rw [h]
  refine ⟨fun h0 => ?_, fun h1 n hn => ?_⟩
  · rw [uWritten, if_neg (by omega)]
    exact (pcsWritten_keeps c gr).2.2.1
  · rw [uWritten, if_pos h1]
    rw [← uGet_writeU c (pcsWritten c gr) hn, Group.uGet, Group.uGet]

theorem writeImage_p (h0 : c.arg 4 1 / 4 % 2 = 0) : (writeImage c gr).p = gr.p := by
  obtain ⟨v, q, h⟩ := writeImage_from_p c gr
  rw [h, pWritten, if_neg (by omega)]
  exact (uWritten_keeps c gr).2.1

theorem writeImage_v : (c.arg 4 1 / 8 % 2 = 0 → (writeImage c gr).v = gr.v) ∧
    (c.arg 4 1 / 8 % 2 = 1 → ∀ t < 64, gr.live.getLsbD t = true → ∀ n < 64, (writeImage c gr).vGet n t = BitVec.ofNat 32 (c.pay (896 + 256 * t + 4 * n) 4)) := by
  obtain ⟨hl, hv⟩ := pWritten_keeps c gr
  rw [writeImage_eq]
  refine ⟨fun h0 => ?_, fun h1 t ht hlive n hn => ?_⟩
  · rw [if_neg (by omega)]
    exact hv
  · rw [if_pos h1]
    exact vGet_writeV c _ hn ht (hl ▸ hlive)

end

/-! ## Breakpoints and watchpoints (R114, R115) -/

section
variable {s : State} {r : RingId} {c : OutCmd} {p : List Byte} {x : Ctx}

/-- An index that another context holds is not given. -/
theorem any_other_some {α : Type} {o : Option α} {b : α} (f : α → Nat) {n : Nat} (h : o = some b) (hb : f b ≠ n) : o.any (fun y => f y != n) = true := by
  rw [h]
  simpa using hb

theorem any_other_none {α : Type} {o : Option α} (f : α → Nat) {n : Nat} (h : ∀ b, o = some b → f b = n) : o.any (fun y => f y != n) = false := by
  cases o with
  | none => rfl
  | some b => simpa using h b rfl

/-- A table in which one index is written or cleared. -/
def pointSet {α : Type} (m : Sparse α) (i on : Nat) (v : α) : Sparse α := if on = 0 then Sparse.del m i else Sparse.set m i v

theorem find?_pointSet {α : Type} (m : Sparse α) (i on : Nat) (v : α) : Sparse.find? (pointSet m i on v) i = if on = 0 then none else some v := by
  unfold pointSet
  split
  · exact Sparse.find?_del_self m i
  · exact Sparse.find?_set_self m i v

theorem find?_pointSet_ne {α : Type} (m : Sparse α) {i j : Nat} (on : Nat) (v : α) (h : j ≠ i) : Sparse.find? (pointSet m i on v) j = Sparse.find? m j := by
  unfold pointSet
  split
  · exact Sparse.find?_del_ne m h
  · exact Sparse.find?_set_ne m v h

/-- The unit's breakpoints after DBG_BP_SET. -/
def bpWritten (s : State) (c : OutCmd) : UnitSt :=
  { s.unitSt (unitKey c.group) with
    bps := pointSet (s.unitSt (unitKey c.group)).bps (c.arg 4 1) (c.arg 5 1) { ctx := c.context, slots := BitVec.ofNat 16 (c.arg 6 2), addr := BitVec.ofNat 64 (c.arg 8 8) } }

theorem cmdDbgBpSet_taken {b : Bp} (hx : s.ctx? c.context = some x) (hd : debugDenied s r.fn x = none)
    (hb : Sparse.find? (s.unitSt (unitKey c.group)).bps (c.arg 4 1) = some b) (hn : b.ctx ≠ c.context) :
    cmdDbgBpSet.run (begun s r c p) r { c with payload := p } = .fin (begun s r c p) 6 9 [] :=
  (onCtx_begun hx hd _).trans (if_pos (any_other_some Bp.ctx hb hn))

theorem cmdDbgBpSet_writes (hx : s.ctx? c.context = some x) (hd : debugDenied s r.fn x = none)
    (hb : ∀ b, Sparse.find? (s.unitSt (unitKey c.group)).bps (c.arg 4 1) = some b → b.ctx = c.context) :
    cmdDbgBpSet.run (begun s r c p) r { c with payload := p } = .fin ((begun s r c p).setUnit (unitKey c.group) (bpWritten s c)) sOK 0 [] := by
  refine (onCtx_begun hx hd _).trans ((if_neg (Bool.eq_false_iff.mp (any_other_none Bp.ctx hb))).trans ?_)
  unfold bpWritten pointSet
  by_cases h0 : c.arg 5 1 = 0
  · refine (if_pos h0).trans ?_
    rw [if_pos h0]
    rfl
  · refine (if_neg h0).trans ?_
    rw [if_neg h0]
    rfl

/-- The cluster's watchpoints after DBG_WP_SET. -/
def wpWritten (s : State) (c : OutCmd) : Cluster :=
  { s.cluster (siteCluster c.site) with
    wps := pointSet (s.cluster (siteCluster c.site)).wps (c.arg 4 1) (c.arg 5 1) { ctx := c.context, kind := c.arg 5 1, l := c.arg 6 1, base := c.arg 8 8 } }

theorem cmdDbgWpSet_taken {w : Wp} (hx : s.ctx? c.context = some x) (hd : debugDenied s r.fn x = none)
    (hw : Sparse.find? (s.cluster (siteCluster c.site)).wps (c.arg 4 1) = some w) (hn : w.ctx ≠ c.context) :
    cmdDbgWpSet.run (begun s r c p) r { c with payload := p } = .fin (begun s r c p) 6 0 [] :=
  (onCtx_begun hx hd _).trans (if_pos (any_other_some Wp.ctx hw hn))

theorem cmdDbgWpSet_writes (hx : s.ctx? c.context = some x) (hd : debugDenied s r.fn x = none)
    (hw : ∀ w, Sparse.find? (s.cluster (siteCluster c.site)).wps (c.arg 4 1) = some w → w.ctx = c.context) :
    cmdDbgWpSet.run (begun s r c p) r { c with payload := p } = .fin ((begun s r c p).setCluster (siteCluster c.site) (wpWritten s c)) sOK 0 [] := by
  refine (onCtx_begun hx hd _).trans ((if_neg (Bool.eq_false_iff.mp (any_other_none Wp.ctx hw))).trans ?_)
  unfold wpWritten pointSet
  by_cases h0 : c.arg 5 1 = 0
  · refine (if_pos h0).trans ?_
    rw [if_pos h0]
    rfl
  · refine (if_neg h0).trans ?_
    rw [if_neg h0]
    rfl

end

/-! ## The rows (Tables 3.6, 3.9 and 3.11) -/

section
variable {s : State} {r : RingId} {c : OutCmd} {p : List Byte} {x : Ctx} {gr : Group}

theorem dbgDetach_running (h : Ready cmdDbgDetach s r c p) (hx : s.ctx? c.context = some x) (hd : debugDenied s r.fn x = none)
    (ha : ∀ g gr, g ∈ ctxGroups s c.context → s.group? g = some gr → gr.st = .active) :
    CompletesWith (.dbgDetach r c.tag) s r c (clearPoints ((begun s r c p).setCtx c.context { x with hold := false }) c.context) [] :=
  completes_of_run h rfl ((onCtx_begun hx hd _).trans (congrArg Ran.ok (detachDebugger_running x ha)))

theorem dbgHalt_active (h : Ready cmdDbgHalt s r c p) (hx : s.ctx? c.context = some x) (hd : debugDenied s r.fn x = none)
    (hg : s.group? c.group = some gr) (hc : gr.ctx = c.context) (ha : gr.st = .active) (hr : gr.pend.all (·.ready) = true) :
    ∃ b, CompletesWith (.dbgHalt r c.tag) s r c ((begun s r c p).setGroup c.group { retire gr with st := .halted }) b ∧ b.length = 16 := by
  have active : isActiveGroup gr = true := beq_iff_eq.mpr ha
  refine ⟨_, completes_of_run h rfl ((onGroup_ok hx hd hg hc active _).trans (if_pos hr)), ?_⟩
  rw [List.length_append, leBytes_length, leBytes_length]

theorem dbgHalt_wrong (h : Ready cmdDbgHalt s r c p) (hx : s.ctx? c.context = some x) (hd : debugDenied s r.fn x = none)
    (hg : s.group? c.group = some gr) (hc : gr.ctx = c.context) (ha : gr.st ≠ .active) : RefusesWith (.dbgHalt r c.tag) s r c p 5 (gstateCode gr.st) := by
  have inactive : isActiveGroup gr = false := beq_eq_false_iff_ne.mpr ha
  exact refuses_of_run h rfl (onGroup_wrong hx hd hg hc inactive _)

theorem dbgResume_stopped (h : Ready cmdDbgResume s r c p) (hx : s.ctx? c.context = some x) (hd : debugDenied s r.fn x = none)
    (hg : s.group? c.group = some gr) (hc : gr.ctx = c.context) (ho : isOurs gr = true) (hl : gr.live ≠ 0) (ht : gr.lastTrap ≠ tBARRIER_STARVED) :
    CompletesWith (.dbgResume r c.tag) s r c ((begun s r c p).setGroup c.group { gr with st := .active, lastTrap := 0, skipBp := true }) [] :=
  completes_of_run h rfl ((onGroup_ok hx hd hg hc ho _).trans (congrArg Ran.ok (resumeGroup_eq hg hl ht)))

theorem dbgStep_stalled (h : Ready cmdDbgStep s r c p) (hx : s.ctx? c.context = some x) (hd : debugDenied s r.fn x = none)
    (hg : s.group? c.group = some gr) (hc : gr.ctx = c.context) (ho : isOurs gr = true) (hs : gr.stalled = true) :
    RefusesWith (.dbgStep r c.tag) s r c p 5 0x10 :=
  refuses_of_run h rfl ((onGroup_ok hx hd hg hc ho _).trans (by
    unfold stepOnce
    rw [hs]
    rfl))

theorem dbgStep_commits (h : Ready cmdDbgStep s r c p) (hx : s.ctx? c.context = some x) (hd : debugDenied s r.fn x = none)
    (hg : s.group? c.group = some gr) (hc : gr.ctx = c.context) (ho : isOurs gr = true) (hs : gr.stalled = false) {e : Env} {u : State} {y : Group}
    (he : nextEnv (stepping (begun s r c p) c.group gr) c.group = some e)
    (ha : attempt e (stepping (begun s r c p) c.group gr) = .done u ∨ attempt e (stepping (begun s r c p) c.group gr) = .jumped u)
    (hy : (settleRes e (stepping (begun s r c p) c.group gr) (attempt e (stepping (begun s r c p) c.group gr))).group? c.group = some y)
    (hf : y.stalled = false) (hr : y.pend.all (·.ready) = true) (ht : y.st ≠ .held) (hl : y.live ≠ 0) :
    ∃ t b, CompletesWith (.dbgStep r c.tag) s r c t b ∧ b.length = 256 ∧ byteAt b 0 = 0x0A ∧
      t.group? c.group = some { retire y with st := .halted, lastTrap := 0 } ∧
      t.mem = (settleRes e (stepping (begun s r c p) c.group gr) (attempt e (stepping (begun s r c p) c.group gr))).mem := by
  obtain ⟨t, b, hstep, hrest⟩ := stepOnce_commits (c := { c with payload := p }) (x := x) hs he ha hy hf hr ht hl
  exact ⟨t, b, completes_of_run h rfl ((onGroup_ok hx hd hg hc ho _).trans hstep), hrest⟩

theorem dbgRead_image (h : Ready cmdDbgRead s r c p) (hx : s.ctx? c.context = some x) (hd : debugDenied s r.fn x = none)
    (hg : s.group? c.group = some gr) (hc : gr.ctx = c.context) (ho : isStopped gr = true) :
    CompletesWith (.dbgRead r c.tag) s r c (begun s r c p) (image c.group gr) :=
  completes_of_run h rfl (onGroup_ok hx hd hg hc ho _)

theorem dbgWrite_image (h : Ready cmdDbgWrite s r c p) (hx : s.ctx? c.context = some x) (hd : debugDenied s r.fn x = none)
    (hg : s.group? c.group = some gr) (hc : gr.ctx = c.context) (ho : isStopped gr = true) :
    CompletesWith (.dbgWrite r c.tag) s r c ((begun s r c p).setGroup c.group (writeImage { c with payload := p } gr)) [] :=
  completes_of_run h rfl (onGroup_ok hx hd hg hc ho _)

theorem dbgKill_stopped (h : Ready cmdDbgKill s r c p) (hx : s.ctx? c.context = some x) (hd : debugDenied s r.fn x = none)
    (hg : s.group? c.group = some gr) (hc : gr.ctx = c.context) (ho : isStopped gr = true) :
    CompletesWith (.dbgKill r c.tag) s r c (killGroup (begun s r c p) c.group) [] :=
  completes_of_run h rfl (onGroup_ok hx hd hg hc ho _)

/-- A group that is not stopped is ACTIVE. -/
theorem gstateCode_of_not_stopped (h : isStopped gr = false) : gstateCode gr.st = 1 := by
  unfold isStopped at h
  cases hs : gr.st with
  | active => rfl
  | halted => rw [hs] at h; cases h
  | held => rw [hs] at h; cases h

theorem dbgKill_wrong (h : Ready cmdDbgKill s r c p) (hx : s.ctx? c.context = some x) (hd : debugDenied s r.fn x = none)
    (hg : s.group? c.group = some gr) (hc : gr.ctx = c.context) (ho : isStopped gr = false) : RefusesWith (.dbgKill r c.tag) s r c p 5 1 :=
  refuses_of_run h rfl (by rw [← gstateCode_of_not_stopped ho]; exact onGroup_wrong hx hd hg hc ho _)

end

/-- Settles O49, command by command: each row runs its command (`completes_of_run`, `refuses_of_run`), which first finds its context and its group. -/
theorem debugCommandsAct : Obligations.DebugCommandsAct := by
  intro s r c p x hx
  refine ⟨fun ho => ⟨fun h => refuses_of_run h rfl (onCtx_denied hx ho _), fun h => refuses_of_run h rfl (onCtx_denied hx ho _),
    fun h => refuses_of_run h rfl (onCtx_denied hx ho _), fun h => refuses_of_run h rfl (onCtx_denied hx ho _)⟩, fun hd => ?_⟩
  intro k
  refine ⟨fun h => completes_of_run h rfl (onCtx_begun hx hd _), fun h ha => ?detach, fun gr hg hc => ?group, fun h => ⟨fun b hb hn => ?bpTaken, fun hb => ?bpSet⟩,
    fun h => ⟨fun w hw hn => ?wpTaken, fun hw => ?wpSet⟩, fun h hl => ?status⟩
  case detach =>
    exact ⟨_, dbgDetach_running h hx hd ha, State.ctx_setCtx .., rfl, fun _ _ _ => clearPoints_bps, fun _ _ _ => clearPoints_wps⟩
  case group =>
    refine ⟨fun h ha hr => ?halt, fun h ha => dbgHalt_wrong h hx hd hg hc ha, fun h ho hl ht => ?resume, fun h ho hs => dbgStep_stalled h hx hd hg hc ho hs,
      fun h ho hs => ?step, fun h ho => dbgRead_image h hx hd hg hc ho, fun h ho => ?write, fun h ho => dbgKill_stopped h hx hd hg hc ho,
      fun h ho => dbgKill_wrong h hx hd hg hc ho⟩
    case halt =>
      obtain ⟨b, hb, hlen⟩ := dbgHalt_active h hx hd hg hc ha hr
      exact ⟨_, b, hb, hlen, State.group_setGroup .., fun _ hk => State.group_setGroup_ne _ _ hk, rfl⟩
    case resume =>
      exact ⟨_, dbgResume_stopped h hx hd hg hc ho hl ht, State.group_setGroup .., fun _ hk => State.group_setGroup_ne _ _ hk⟩
    case step =>
      intro s0 e u y he ha hy hf hr ht hl
      exact dbgStep_commits h hx hd hg hc ho hs he ha hy hf hr ht hl
    case write =>
      obtain ⟨hlive, hst, hkept, hset⟩ := writeImage_threads k gr
      obtain ⟨hu, hus⟩ := writeImage_u k gr
      obtain ⟨hv, hvs⟩ := writeImage_v k gr
      exact ⟨_, _, dbgWrite_image h hx hd hg hc ho, State.group_setGroup .., fun _ hk => State.group_setGroup_ne _ _ hk, hlive, hst, hkept, hu,
        writeImage_p k gr, hv, hset, hus, hvs⟩
  case bpTaken => exact refuses_of_run h rfl (cmdDbgBpSet_taken hx hd hb hn)
  case bpSet =>
    refine ⟨_, completes_of_run h rfl (cmdDbgBpSet_writes hx hd hb), fun u hu => State.unitSt_setUnit_ne _ _ hu, fun i hi => ?_, ?_⟩
    · rw [State.unitSt_setUnit]
      exact find?_pointSet_ne _ _ _ hi
    · rw [State.unitSt_setUnit]
      exact find?_pointSet ..
  case wpTaken => exact refuses_of_run h rfl (cmdDbgWpSet_taken hx hd hw hn)
  case wpSet =>
    refine ⟨_, completes_of_run h rfl (cmdDbgWpSet_writes hx hd hw), fun i hi => ?_, ?_⟩
    · rw [State.cluster_setCluster]
      exact find?_pointSet_ne _ _ _ hi
    · rw [State.cluster_setCluster]
      exact find?_pointSet ..
  case status => exact completes_of_run h rfl ((onCtx_begun hx hd _).trans (listResult_fits hl))

end Sys2Proof.Machine
end

section
/-! SUPPORT. What a result changes, and what the predicate, float and conversion instructions write (R119, R125, R128 to R130, R181, Tables 4.8
and 4.9). -/

namespace Sys2Proof.Machine

open Sys2Proof

/-! ## Results (R119, R125) -/

section
variable {s : State} {e : Env}

theorem lanes_lt (h : e.act ≠ 0) : ∀ t ∈ e.lanes, t < 64 := by
  intro t ht
  unfold Env.lanes at ht
  split at ht
  · exact (mem_threads.mp ht).1
  · rw [List.mem_singleton.mp ht]
    exact lead_lt e h

/-- The group with the result `f t` written for each lane. -/
def resultGroup (e : Env) (f : Nat → Word64) : Group := e.lanes.foldl (fun x t => putDst x e.i.dst t (f t)) e.gr

theorem write_setGroup (hg : s.group? e.g = some e.gr) (f : Nat → Word64) : e.write s f = s.setGroup e.g (resultGroup e f) := by
  rw [write_eq, Env.update, Env.group, hg]
  rfl

theorem writeFl_raise (e : Env) (s : State) (f : Nat → Word64 × Flags) :
    e.writeFl s f = e.raise (e.write s (fun t => (f t).1)) (e.lanes.foldl (fun a t => a ||| (f t).2) 0) := by
  unfold Env.writeFl Env.lanes
  cases actsOf e.i <;> rfl

theorem resultGroup_same (h : e.act ≠ 0) (f : Nat → Word64) : Same (resultGroup e f) e.gr := (fold_put e.i.dst f e.lanes (lanes_lt h) e.gr).1

/-- A u register is the destination of one result, that of the first acting thread. -/
theorem resultGroup_uGet (h : e.act ≠ 0) (hu : actsOf e.i = .perThread → ∀ r, desig e.i.dst ≠ .u r) (f : Nat → Word64) (r : Nat) :
    (resultGroup e f).uGet r = if desig e.i.dst = .u r then f e.lead else e.gr.uGet r := by
  by_cases ha : actsOf e.i = .perThread
  · rw [if_neg (hu ha r)]
    exact (fold_put e.i.dst f e.lanes (lanes_lt h) e.gr).2.2.2 r (hu ha r)
  · unfold resultGroup Env.lanes
    rw [if_neg ha]
    exact putDst_u ..

theorem advance_alone {gr : Group} (hg : s.group? e.g = some gr) (ha : actsOf e.i ≠ .collective) :
    advance e s = s.setGroup e.g (gr.pcAll e.mask e.i.next) := by
  unfold advance
  rw [hg]
  simp only [ha, if_false]

end

/-- Settles O20: a result is a fold of single writes over the lanes (`write_setGroup`), and the flags reach the unit alone (`raise_parts`). -/
theorem resultsReachTheirDestinationOnly : Obligations.ResultsReachTheirDestinationOnly := by
  intro s e f hg hact hu ts t
  have ht : t = e.raise (s.setGroup e.g (resultGroup e (fun t => (f t).1))) (ts.foldl (fun a t => a ||| (f t).2) 0) :=
    (writeFl_raise e s f).trans (by rw [write_setGroup hg]; rfl)
  obtain ⟨groups, mem, ctxs, clusters, sync, rings, keep, fabric, flags⟩ :=
    raise_parts e (s.setGroup e.g (resultGroup e (fun t => (f t).1))) (ts.foldl (fun a t => a ||| (f t).2) 0)
  rw [← ht] at groups mem ctxs clusters sync rings keep fabric flags
  have groupAt : ∀ h, t.group? h = (s.setGroup e.g (resultGroup e (fun t => (f t).1))).group? h := fun h => by
    unfold State.group?
    rw [groups]
  obtain ⟨same, v, p, -⟩ := fold_put e.i.dst (fun t => (f t).1) e.lanes (lanes_lt hact) e.gr
  refine ⟨⟨_, (groupAt e.g).trans (State.group_setGroup ..), fun r th _ h => v r th h, resultGroup_uGet hact hu _, fun k th _ h => p k th h,
    same.pcs, same.live, same.pend, same.sites, same.bars⟩, flags, fun h hk => (groupAt h).trans (State.group_setGroup_ne _ _ hk), mem, ctxs, clusters, sync,
    rings, keep, fabric, fun gr hgr ha => ?goesOn⟩
  case goesOn =>
    obtain ⟨q, hq⟩ := pcAll_pcs gr e.mask e.i.next
    rw [advance_alone hgr ha]
    refine ⟨_, State.group_setGroup .., fun th h => pcGet_pcAll _ _ _ h, ?_⟩
    rw [hq]
    exact ⟨rfl, rfl, rfl⟩

/-! ## Predicates (Table 4.9, R130) -/

/-- A 32-bit operand as a number, by the type's sign. -/
def asNumber (sg : Bool) (a : BitVec 32) : Int := if sg then a.toInt else a.toNat

theorem asNumber_inj (sg : Bool) (a b : BitVec 32) : asNumber sg a = asNumber sg b ↔ a = b := by
  cases sg with
  | true => exact BitVec.toInt_inj
  | false => exact Int.ofNat_inj.trans BitVec.toNat_inj

theorem asNumber_lt (sg : Bool) (a b : BitVec 32) : decide (asNumber sg a < asNumber sg b) = if sg then a.slt b else a.ult b := by
  cases sg with
  | true => rfl
  | false => exact decide_eq_decide.mpr Int.ofNat_lt

theorem asNumber_le (sg : Bool) (a b : BitVec 32) : decide (asNumber sg a ≤ asNumber sg b) = if sg then a.sle b else a.ule b := by
  cases sg with
  | true => rfl
  | false => exact decide_eq_decide.mpr Int.ofNat_le

/-- R130: with a NaN among its operands a comparison is neither equal nor ordered. -/
theorem f32Cmp_nan {a b : BitVec 32} (h : isNan32 a ∨ isNan32 b) :
    fvEq (f32 a) (f32 b) = false ∧ fvLess (f32 a) (f32 b) = false ∧ fvLess (f32 b) (f32 a) = false ∧ ((f32 a).isNan || (f32 b).isNan) = true := by
  have nan : ((f32 a).isNan || (f32 b).isNan) = true := by
    rcases h with h | h
    · simp [isNan_of a h]
    · simp [isNan_of b h]
  refine ⟨if_pos nan, ?_, ?_, nan⟩
  · rw [fvLess, nan]
    rfl
  · rw [fvLess, Bool.or_comm, nan]
    rfl

/-- Settles O23: each condition compares its operands as numbers of the type; the predicate instructions are their rows. -/
theorem predicateInstructionsCompute : Obligations.PredicateInstructionsCompute := by
  intro s g e p q
  refine ⟨fun h a b ha hb => ?isetp, fun h => ⟨_, commits_of_run h rfl (by decide) rfl rfl, fun _ => rfl⟩, fun a b hn => ?nan,
    fun h => commits_of_run h rfl (by decide) rfl rfl, fun h => commits_of_run h rfl (by decide) rfl rfl,
    fun h => commits_of_run h rfl (by decide) rfl ?pxor, fun h => commits_of_run h rfl (by decide) rfl rfl⟩
  case isetp =>
    have ra : ∀ t, readAs 32 (intSigned e.i) ((srcVal e.gr e.i e.i.s0 t).toNat % 2 ^ 32) = asNumber (intSigned e.i) (a t) := fun t => by
      rw [ha t]
      exact read32 ..
    have rb : ∀ t, readAs 32 (intSigned e.i) ((src1 e.gr e.i t).toNat % 2 ^ 32) = asNumber (intSigned e.i) (b t) := fun t => by
      rw [hb t]
      exact read32 ..
    have run : runIsetp e s = .done (e.write s (fun t => bit64 (intCmp (e.i.mod / 16) (asNumber (intSigned e.i) (a t)) (asNumber (intSigned e.i) (b t))))) := by
      simp only [← ra, ← rb]
      rfl
    refine ⟨_, commits_of_run h rfl (by decide) rfl run, fun t => ⟨fun hc => ?eq, fun hc => ?ne, fun hc => ?lt, fun hc => ?le, fun hc => ?gt,
      fun hc => ?ge⟩⟩
    all_goals rw [hc]
    case eq => exact decide_eq_decide.mpr (asNumber_inj ..)
    case ne => exact (congrArg not (decide_eq_decide.mpr (asNumber_inj ..))).trans (decide_not ..).symm
    case lt => exact asNumber_lt ..
    case le => exact asNumber_le ..
    case gt => exact asNumber_lt ..
    case ge => exact asNumber_le ..
  case nan =>
    obtain ⟨eq, less, more, nan⟩ := f32Cmp_nan hn
    refine ⟨fun cc hc => ?_, congrArg not eq, congrArg not nan, nan⟩
    unfold f32Cmp
    rcases hc with rfl | rfl | rfl | rfl | rfl <;> simp [eq, less, more]
  case pxor =>
    show runPxor e s = _
    unfold runPxor predRes
    simp only [Bool.bne_eq_xor]
    rfl

/-! ## Float instructions (Table 4.8, R128, R154) -/

theorem and_magnitude (x : BitVec 32) : x &&& 0x7FFFFFFF = BitVec.cons false (x.setWidth 31) := by
  conv => lhs; rw [← BitVec.cons_msb_setWidth x, show (0x7FFFFFFF : BitVec 32) = BitVec.cons false (BitVec.allOnes 31) by decide]
  rw [BitVec.cons_and_cons, Bool.and_false, BitVec.and_allOnes]

theorem xor_sign (x : BitVec 32) : x ^^^ 0x80000000 = BitVec.cons (!x.msb) (x.setWidth 31) := by
  conv => lhs; rw [← BitVec.cons_msb_setWidth x, show (0x80000000 : BitVec 32) = BitVec.cons true 0#31 by decide]
  rw [BitVec.cons_xor_cons, Bool.xor_true, BitVec.xor_zero]

/-- Settles O24: each row runs its operation on the operands cut to 32 bits; FABS and FNEG act on the sign bit (`and_magnitude`, `xor_sign`). -/
theorem floatInstructionsCompute : Obligations.FloatInstructionsCompute := by
  intro s g e m x a b c
  refine ⟨fun h => commits_of_run h rfl (by decide) rfl rfl, fun h => commits_of_run h rfl (by decide) rfl rfl,
    fun h => commits_of_run h rfl (by decide) rfl rfl, fun h => commits_of_run h rfl (by decide) rfl rfl,
    fun h => commits_of_run h rfl (by decide) rfl rfl, fun h => commits_of_run h rfl (by decide) rfl rfl,
    fun h => commits_of_run h rfl (by decide) rfl ?fabs, fun h => commits_of_run h rfl (by decide) rfl ?fneg,
    fun h => commits_of_run h rfl (by decide) rfl rfl, fun h => commits_of_run h rfl (by decide) rfl rfl,
    fun h => commits_of_run h rfl (by decide) rfl rfl, fun h => commits_of_run h rfl (by decide) rfl rfl,
    fun h => commits_of_run h rfl (by decide) rfl rfl⟩
  case fabs =>
    simp only [← and_magnitude]
    rfl
  case fneg =>
    simp only [← xor_sign]
    rfl

/-! ## Conversions (R129, R167) -/

section
variable {e : Env} {dst src : Ty}

/-- The scale exponent that CVT applies for thread `t`: the low byte of its operand where a format is scaled. -/
def cvtScale (e : Env) (dst src : Ty) (t : Nat) : Int := if dst.scaled || src.scaled then ((src1 e.gr e.i t).setWidth 8).toInt else 0

/-- A converted element as a result: a uniform I32 is sign-extended. -/
def cvtResult (e : Env) (dst : Ty) (r : Nat → Rounded) (t : Nat) : Word64 × Flags :=
  (if e.i.cls = 1 ∧ dst = .i32 then (BitVec.ofNat 32 (r t).code).signExtend 64 else BitVec.ofNat 64 (r t).code, (r t).flags)

theorem cvtWith_eq (hd : tyOf (e.i.mod % 16) = some dst) (hs : tyOf (e.i.mod / 16) = some src) (mode : Nat → Rmode) (s : State) :
    cvtWith mode e s = e.writeFl s (cvtResult e dst (fun t =>
      convert (mode ((threads e.act).filter (fun k => decide (k < t))).length) dst src (cvtScale e dst src t) (srcVal e.gr e.i e.i.s0 t).toNat)) := by
  have byte : ∀ w : Word64, signed 8 (w.toNat % 256) = (w.setWidth 8).toInt := fun w => by
    rw [← signed_toInt (by decide), BitVec.toNat_setWidth]
  unfold cvtWith
  rw [hd, hs]
  simp only [Option.getD_some, byte, ofInt_signed]
  rfl

end

/-- Settles O25: the three roundings of one conversion (`cvtWith_eq`); CVT.SR gives each element the draw of its place among the acting threads. -/
theorem conversionsCompute : Obligations.ConversionsCompute := by
  intro s g e dst src hd hs sc put
  refine ⟨fun h => commits_of_run h rfl (by decide) rfl (congrArg Res.done (cvtWith_eq hd hs _ s)),
    fun h => commits_of_run h rfl (by decide) rfl (congrArg Res.done (cvtWith_eq hd hs _ s)), fun h => ?sr⟩
  case sr =>
    refine ⟨fun t => (Config.draw16 e.g.cluster (s.free + ((threads e.act).filter (fun k => decide (k < t))).length)).toNat, fun t => BitVec.isLt _, ?_⟩
    have run := commits_of_run (i := .cvtSr g) h rfl (by decide) rfl (rfl : runOf .cvtSr e s = _)
    rw [cvtWith_eq hd hs] at run
    exact ⟨_, run⟩

end Sys2Proof.Machine
end

section
/-! SUPPORT. Branches: the target of a direct branch, the checks of an indirect one, and where the threads of the group stand after either (R89, R131, R132). -/

namespace Sys2Proof.Machine

open Sys2Proof

section
variable {s : State} {e : Env}

/-- R131: the target of BRA and CALL as a 64-bit address. -/
theorem branchTarget_eq {off : Int} (hi : e.i.i = true → off = e.i.imm) (hx : e.i.i = false → ∃ x, e.i.ext = some x ∧ off = x.toInt) :
    BitVec.ofNat 64 (branchTarget e.i) = BitVec.ofInt 64 ((e.i.addr : Int) + 8 * off) := by
  have whole : branchTarget e.i = unsign 64 (e.i.addr + 8 * off) := by
    unfold branchTarget
    cases hc : e.i.i with
    | true => rw [hi hc, if_pos rfl]
    | false =>
      obtain ⟨x, hex, rfl⟩ := hx hc
      rw [if_neg Bool.false_ne_true, hex, Option.getD_some, signed_toInt (by decide)]
  rw [whole, unsign_ofInt, BitVec.ofNat_toNat, BitVec.setWidth_eq]

/-- R89: a jump moves the threads that act, the rest of the subset goes on, and nothing else of the group changes. -/
theorem jump_moves {gr0 : Group} (hg : s.group? e.g = some gr0) (hp : gr0.pcs = e.gr.pcs) (f : Nat → Nat) :
    ∃ gr, e.jump s f = s.setGroup e.g gr ∧ Moves e gr (fun t => BitVec.ofNat 64 (f t)) ∧ { gr with pcs := gr0.pcs } = gr0 := by
  obtain ⟨gr, hj, hsame, hpc⟩ := jump_eq e s f gr0 hg
  have pc0 : ∀ t, gr0.pcGet t = e.gr.pcGet t := fun t => by rw [Group.pcGet, hp]; rfl
  exact ⟨gr, hj, fun t ht => by rw [hpc t ht, pc0]; rfl, hsame⟩

/-! ## Indirect targets (R132) -/

/-- A target outside the code, or at an extension word. -/
def outsideCode (e : Env) (t : Nat) : Bool :=
  decide (8 * e.c.code.length ≤ e.indirect t) || (e.indirect t % 8 == 0 && !isBoundary e.c.code (e.indirect t))

theorem outsideCode_iff (e : Env) (t : Nat) : outsideCode e t = true ↔
    8 * e.c.code.length ≤ e.indirect t ∨ (e.indirect t % 8 = 0 ∧ isBoundary e.c.code (e.indirect t) = false) := by
  simp [outsideCode]

/-- The acting threads with a target outside the code, and those whose target is no multiple of 8. -/
def illegalMask (e : Env) : BitVec 64 := maskOf (fun t => e.act.getLsbD t && outsideCode e t)
def oddMask (e : Env) : BitVec 64 := maskOf (fun t => e.act.getLsbD t && e.indirect t % 8 != 0)

theorem checkIndirect_eq (e : Env) : checkIndirect e = firstTrap [trapIf (illegalMask e != 0) (e.trap tILLEGAL_OP 0 0 (illegalMask e).toNat),
    trapIf (oddMask e != 0) (e.trap tMISALIGNED (e.indirect ((threads (oddMask e)).headD 0)) 8 (oddMask e).toNat)] := rfl

theorem illegalMask_eq_zero : illegalMask e = 0 ↔ ∀ t, t < 64 → e.act.getLsbD t = true → outsideCode e t = false := by
  unfold illegalMask
  rw [maskOf_eq_zero]
  simp

theorem oddMask_eq_zero : oddMask e = 0 ↔ ∀ t, t < 64 → e.act.getLsbD t = true → e.indirect t % 8 = 0 := by
  unfold oddMask
  rw [maskOf_eq_zero]
  simp

theorem checkIndirect_none (hb : illegalMask e = 0) (ho : oddMask e = 0) : checkIndirect e = none := by
  rw [checkIndirect_eq, hb, ho]
  rfl

/-- A target outside the code is met first. -/
theorem checkIndirect_illegal (hb : illegalMask e ≠ 0) : checkIndirect e = some (e.trap tILLEGAL_OP 0 0 (illegalMask e).toNat) := by
  rw [checkIndirect_eq, bne_iff_ne.mpr hb]
  rfl

theorem checkIndirect_misaligned (hb : illegalMask e = 0) (ho : oddMask e ≠ 0) :
    checkIndirect e = some (e.trap tMISALIGNED (e.indirect ((threads (oddMask e)).headD 0)) 8 (oddMask e).toNat) := by
  rw [checkIndirect_eq, hb, bne_iff_ne.mpr ho]
  rfl

end

/-- Settles O26: both rows are one jump (`jump_moves`), CALL's from the state in which its destination is written. -/
theorem branchesGoToOwnAddressPlusOffset : Obligations.BranchesGoToOwnAddressPlusOffset := by
  intro s g e off hi hx target
  have ht : BitVec.ofNat 64 (branchTarget e.i) = target := branchTarget_eq hi hx
  refine ⟨fun h => ?bra, fun h => ?call⟩
  case bra =>
    obtain ⟨rfl, hg, -⟩ := env_group h.stands
    obtain ⟨gr, hj, hm, hsame⟩ := jump_moves hg rfl (fun _ => branchTarget e.i)
    rw [ht] at hm
    exact ⟨gr, redirects_of_jump h rfl (by decide) rfl (congrArg Res.jumped hj), hm, hsame⟩
  case call =>
    obtain ⟨rfl, hg, -⟩ := env_group h.stands
    let gr0 := resultGroup e (fun _ => BitVec.ofNat 64 e.i.next)
    have hw : e.write s (fun _ => BitVec.ofNat 64 e.i.next) = s.setGroup e.g gr0 := write_setGroup hg _
    obtain ⟨gr, hj, hm, hsame⟩ := jump_moves (State.group_setGroup s e.g gr0) (resultGroup_same h.acts _).pcs (fun _ => branchTarget e.i)
    rw [State.setGroup_setGroup] at hj
    rw [ht] at hm
    exact ⟨gr0, gr, hw, redirects_of_jump h rfl (by decide) rfl (congrArg Res.jumped ((congrArg (Env.jump e · _) hw).trans hj)), hm, hsame⟩

section
variable {s : State} {g : GroupId} {e : Env} {m : Mn} {i : Instr}

/-- BRX and RET are one instruction but for their code. -/
theorem indirect_redirects (hm : (m = .brx ∧ i = .brx g) ∨ (m = .ret ∧ i = .ret g)) (h : Issues m s g e) {t : State} (hc : checkIndirect e = none)
    (hj : e.jump s e.indirect = t) : Redirects i s g t := by
  rcases hm with ⟨rfl, rfl⟩ | ⟨rfl, rfl⟩
  · exact redirects_of_jump h rfl (by decide) hc (congrArg Res.jumped hj)
  · exact redirects_of_jump h rfl (by decide) hc (congrArg Res.jumped hj)

theorem indirect_traps (hm : (m = .brx ∧ i = .brx g) ∨ (m = .ret ∧ i = .ret g)) (h : Issues m s g e) {x : Trap} (hc : checkIndirect e = some x) :
    Machine.exec i s = .next (takeTrap s g x) := by
  rcases hm with ⟨rfl, rfl⟩ | ⟨rfl, rfl⟩
  · exact congrArg Host.Outcome.next (issue_traps h (by decide) (acts_alone h.named (by decide)) hc)
  · exact congrArg Host.Outcome.next (issue_traps h (by decide) (acts_alone h.named (by decide)) hc)

end

/-- Settles O27: the checks of R132 in their order, then one jump. -/
theorem indirectBranchesGoToTheirRegister : Obligations.IndirectBranchesGoToTheirRegister := by
  intro s g e m i hm h target outside
  have out : ∀ t, outsideCode e t = true ↔ outside t := outsideCode_iff e
  have inside : ∀ t, outsideCode e t = false ↔ ¬ outside t := fun t => by rw [← out, Bool.not_eq_true]
  refine ⟨fun ok => ?goes, fun hex => ?illegal, fun t ht hat hodd hin hfirst => ?misaligned⟩
  case goes =>
    obtain ⟨rfl, hg, -⟩ := env_group h.stands
    have check : checkIndirect e = none := checkIndirect_none (illegalMask_eq_zero.mpr (fun t ht ha => (inside t).mpr (ok t ht ha).2))
      (oddMask_eq_zero.mpr (fun t ht ha => (ok t ht ha).1))
    obtain ⟨gr, hj, hmv, hsame⟩ := jump_moves hg rfl e.indirect
    refine ⟨gr, indirect_redirects hm h check hj, ?_, hsame⟩
    simpa only [Env.indirect, BitVec.ofNat_toNat, BitVec.setWidth_eq] using hmv
  case illegal =>
    obtain ⟨t, ht, ha, ho⟩ := hex
    have illegal : illegalMask e ≠ 0 := fun k => (inside t).mp (illegalMask_eq_zero.mp k t ht ha) ho
    exact ⟨_, indirect_traps hm h (checkIndirect_illegal illegal), rfl, rfl⟩
  case misaligned =>
    have legal : illegalMask e = 0 := illegalMask_eq_zero.mpr (fun k hk ha => (inside k).mpr (hin k hk ha))
    have odd : oddMask e ≠ 0 := fun k => hodd (oddMask_eq_zero.mp k t ht hat)
    have first : (threads (oddMask e)).headD 0 = t :=
      threads_head _ ht (Bool.and_eq_true_iff.mpr ⟨hat, bne_iff_ne.mpr hodd⟩) (fun k hk => by
        cases ha : e.act.getLsbD k with
        | false => rfl
        | true => exact bne_eq_false_iff_eq.mpr (hfirst k hk ha))
    refine ⟨_, indirect_traps hm h (checkIndirect_misaligned legal odd), rfl, ?_, rfl, rfl⟩
    rw [first]
    rfl

end Sys2Proof.Machine
end

section
/-! SUPPORT. Stores and atomics: the bytes several lanes leave, and a list of atomics performed one after another (R133, R144, R304, Table 4.12). -/

namespace Sys2Proof.Machine

open Sys2Proof

/-! ## Bytes and orders -/

theorem leBytes_getD (n x : Nat) {i : Nat} (h : i < n) : (leBytes n x).getD i 0 = BitVec.ofNat 8 (x / 2 ^ (8 * i)) := by
  induction n generalizing x i with
  | zero => cases h
  | succ n ih =>
    cases i with
    | zero => simp [leBytes]
    | succ i =>
      rw [leBytes, List.getD_cons_succ, ih _ (Nat.lt_of_succ_lt_succ h), Nat.div_div_eq_div_mul, show 256 = 2 ^ 8 from rfl, ← Nat.pow_add,
        show 8 + 8 * i = 8 * (i + 1) by omega]

/-- Byte `i` of a store's data. -/
theorem storeData_getD (e : Env) (t : Nat) {i : Nat} (h : i < accWidth e.i) :
    (e.storeData t).getD i 0 = ((srcVal e.gr e.i e.i.s2 t) >>> (8 * i)).setWidth 8 := by
  rw [Env.storeData, leBytes_getD _ _ h]
  apply BitVec.eq_of_toNat_eq
  simp [Nat.shiftRight_eq_div_pow]

@[simp] theorem storeData_length (e : Env) (t : Nat) : (e.storeData t).length = accWidth e.i := leBytes_length ..

theorem rotated_perm (s : State) (ts : List Nat) : (rotated s ts).Perm ts := by
  unfold rotated List.rotateLeft
  dsimp only
  split
  · exact .refl _
  · exact List.perm_append_comm.trans (.of_eq (List.take_append_drop ..))

/-- Two accesses of one width at its multiples are one access, or apart. -/
theorem aligned_apart {a b n : Nat} (ha : a % n = 0) (hb : b % n = 0) (h : a ≠ b) : a + n ≤ b ∨ b + n ≤ a := by
  have below : ∀ {x y : Nat}, x % n = 0 → y % n = 0 → x < y → x + n ≤ y := fun hx hy hxy => by
    have := Nat.le_of_dvd (Nat.sub_pos_of_lt hxy) (Nat.dvd_sub (Nat.dvd_of_mod_eq_zero hy) (Nat.dvd_of_mod_eq_zero hx))
    omega
  exact (Nat.lt_or_gt_of_ne h).imp (below ha hb) (below hb ha)

/-! ## Several stores -/

/-- Stores put one after another. -/
def storeEach (m : Sparse Byte) (ws : List (Nat × List Byte)) : Sparse Byte := ws.foldl (fun m w => Memory.store m w.1 w.2) m

/-- Stores leave every byte outside them alone. -/
theorem read_storeEach_outside (ws : List (Nat × List Byte)) (m : Sparse Byte) {x : Nat} (h : ∀ w ∈ ws, x < w.1 ∨ w.1 + w.2.length ≤ x) :
    Memory.read (storeEach m ws) x = Memory.read m x :=
  List.foldlRecOn (motive := fun k => Memory.read k x = Memory.read m x) ws _ rfl
    (fun k hk w hw => (Memory.read_store_outside k w.1 x w.2 (h w hw)).trans hk)

/-- Where stores of one width meet at one address or not at all, the last one at an address stands. -/
theorem read_storeEach_inside (ws : List (Nat × List Byte)) (m : Sparse Byte) {a n : Nat} (hn : ∀ w ∈ ws, w.2.length = n)
    (ha : ∀ w ∈ ws, w.1 = a ∨ w.1 + n ≤ a ∨ a + n ≤ w.1) (hw : ∃ w ∈ ws, w.1 = a) :
    ∃ w ∈ ws, w.1 = a ∧ ∀ i, i < n → Memory.read (storeEach m ws) (a + i) = w.2.getD i 0 := by
  induction ws using List.reverseRecOn with
  | nil => simp at hw
  | append_singleton ws w ih =>
    have last : storeEach m (ws ++ [w]) = Memory.store (storeEach m ws) w.1 w.2 := by
      unfold storeEach
      rw [List.foldl_append]
      rfl
    have hl : w.2.length = n := hn w (by simp)
    rw [last]
    by_cases hwa : w.1 = a
    · exact ⟨w, by simp, hwa, fun i hi => hwa ▸ Memory.read_store_inside _ w.1 i w.2 (hl ▸ hi)⟩
    · obtain ⟨y, hy, hya⟩ := hw
      have before : y ∈ ws := (List.mem_append.mp hy).resolve_right (fun k => hwa (List.mem_singleton.mp k ▸ hya))
      obtain ⟨x, hx, hxa, hr⟩ := ih (fun v hv => hn v (List.mem_append_left _ hv)) (fun v hv => ha v (List.mem_append_left _ hv)) ⟨y, before, hya⟩
      have apart := (ha w (by simp)).resolve_left hwa
      exact ⟨x, List.mem_append_left _ hx, hxa, fun i hi => (Memory.read_store_outside _ _ _ _ (by omega)).trans (hr i hi)⟩

/-- R304: stores to memory without stored errors change bytes, markers and counters. -/
theorem storeAll_clean {s : State} (h : s.mem.errs = []) (ws : List (Nat × List Byte)) :
    StoredFrom s (storeAll s ws) ∧ (storeAll s ws).mem.bytes = storeEach s.mem.bytes ws := by
  obtain ⟨stored, bytes, -⟩ := writeCells_clean
    (fun g => (List.range 64).all (fun k => ws.any (fun w => decide (w.1 ≤ 64 * g + k) && decide (64 * g + k < w.1 + w.2.length))))
    (fun _ x n => ws.any (fun w => decide (w.1 ≤ x) && decide (x + n ≤ w.1 + w.2.length)))
    (fun _ x n => ws.any (fun w => decide (w.1 < x + n) && decide (x < w.1 + w.2.length)))
    (ws.flatMap (fun w => granules w.1 w.2.length)).dedup h
  exact ⟨stored.trans ⟨rfl, stored.errs⟩, congrArg (storeEach · ws) bytes⟩

section
variable {s : State} {e : Env}

/-- ST stores the lanes' data in an order of the lanes, in a state that differs in its free values at most. -/
theorem runSt_eq (h : ∀ t ∈ e.lanes, MayAccess 2 s e t) :
    ∃ n order, List.Perm order e.lanes ∧ runSt e s = .done (storeAll { s with free := n } (order.map (fun t => (e.addr t, e.storeData t)))) := by
  unfold runSt
  dsimp only
  rw [if_neg (by rw [lanes_answer h]; decide)]
  cases decide ((e.lanes.map e.addr).dedup.length < e.lanes.length) with
  | true => exact ⟨s.free + 1, _, rotated_perm s e.lanes, rfl⟩
  | false => exact ⟨s.free, _, .refl _, rfl⟩

end

/-- Settles O35: the lanes' stores in some order, of which the last at an address stands (`read_storeEach_inside`). -/
theorem storesWriteTheirLanesOnly : Obligations.StoresWriteTheirLanesOnly := by
  intro s g e h clean may n
  obtain ⟨free, order, perm, run⟩ := runSt_eq may
  obtain ⟨stored, bytes⟩ := storeAll_clean (s := { s with free := free }) clean (order.map (fun t => (e.addr t, e.storeData t)))
  have commits := commits_of_run (i := .st g) h rfl (by decide) (checkAccess_none may) run
  generalize storeAll _ _ = t at stored bytes commits
  have width : ∀ w ∈ order.map (fun t => (e.addr t, e.storeData t)), w.2.length = n := by
    rintro w hw
    obtain ⟨k, -, rfl⟩ := List.mem_map.mp hw
    exact storeData_length ..
  refine ⟨t, commits, by rw [stored.rest], by rw [stored.rest], by rw [stored.rest], by rw [stored.rest], fun k hk => ?inside, fun a ha => ?outside⟩
  case inside =>
    obtain ⟨w, hw, hwa, hr⟩ := read_storeEach_inside (a := e.addr k) (n := n) (order.map (fun t => (e.addr t, e.storeData t))) s.mem.bytes width
      (fun w hw => by
        obtain ⟨j, hj, rfl⟩ := List.mem_map.mp hw
        rcases eq_or_ne (e.addr j) (e.addr k) with hjk | hjk
        · exact .inl hjk
        · exact .inr (aligned_apart (may j (perm.mem_iff.mp hj)).aligned (may k hk).aligned hjk))
      ⟨_, List.mem_map_of_mem (perm.mem_iff.mpr hk), rfl⟩
    obtain ⟨j, hj, rfl⟩ := List.mem_map.mp hw
    exact ⟨j, perm.mem_iff.mp hj, hwa, fun i hi => by rw [bytes, hr i hi, storeData_getD e j hi]⟩
  case outside =>
    rw [bytes]
    refine read_storeEach_outside _ _ (fun w hw => ?_)
    obtain ⟨k, hk, rfl⟩ := List.mem_map.mp hw
    rw [storeData_length]
    exact ha k (perm.mem_iff.mp hk)

/-! ## Atomics (R144) -/

/-- The operation of the model gives what the name of the atomic says, on numbers of `w` bits. -/
def AtomSays (op : Bool → Nat → Nat → Nat → Nat → Nat) (m : Mn) : Prop :=
  ∀ (sg : Bool) (w : Nat) (o x c : BitVec w), 0 < w → op sg w o.toNat x.toNat c.toNat % 2 ^ w = (atomNew m sg o x c).toNat

theorem toNat_pick_mod {w : Nat} (c : Prop) [Decidable c] (x o : BitVec w) : (if c then x.toNat else o.toNat) % 2 ^ w = (if c then x else o).toNat := by
  rw [← apply_ite BitVec.toNat]
  exact Nat.mod_eq_of_lt (BitVec.isLt _)

theorem atomSays_min : AtomSays (fun sg w o x _ => if (if sg then decide (signed w x < signed w o) else decide (x < o)) then x else o) .atomMin := by
  intro sg w o x c hw
  dsimp only [atomNew]
  rw [signed_toInt hw, signed_toInt hw, toNat_pick_mod]
  rfl

theorem atomSays_max : AtomSays (fun sg w o x _ => if (if sg then decide (signed w o < signed w x) else decide (o < x)) then x else o) .atomMax := by
  intro sg w o x c hw
  dsimp only [atomNew]
  rw [signed_toInt hw, signed_toInt hw, toNat_pick_mod]
  rfl

theorem atomSays_cas : AtomSays (fun _ _ o x c => if o = c then x else o) .atomCas := by
  intro sg w o x c _
  dsimp only [atomNew]
  rw [toNat_pick_mod]
  simp only [BitVec.toNat_inj]

/-- The row of an atomic runs an operation that does what its name says. -/
theorem atomRows_run {g : GroupId} {m : Mn} {i : Instr} (h : (m, i) ∈ atomRows g) :
    ∃ op, AtomSays op m ∧
      ∀ (s : State) (e : Env) (t : State), Issues m s g e → checkAccess 3 e s = none → atomRes op e s = .done t → Commits i s g e t := by
  simp only [atomRows, List.mem_cons, Prod.mk.injEq, List.not_mem_nil, or_false] at h
  rcases h with ⟨rfl, rfl⟩ | ⟨rfl, rfl⟩ | ⟨rfl, rfl⟩ | ⟨rfl, rfl⟩ | ⟨rfl, rfl⟩ | ⟨rfl, rfl⟩ | ⟨rfl, rfl⟩ | ⟨rfl, rfl⟩
  · exact ⟨fun _ _ o x _ => o + x, fun _ _ o x _ _ => (BitVec.toNat_add o x).symm, fun s e t h hk hr => commits_of_run h rfl (by decide) hk hr⟩
  · exact ⟨_, atomSays_min, fun s e t h hk hr => commits_of_run h rfl (by decide) hk hr⟩
  · exact ⟨_, atomSays_max, fun s e t h hk hr => commits_of_run h rfl (by decide) hk hr⟩
  · exact ⟨fun _ _ o x _ => o &&& x, fun _ _ o x _ _ => Nat.mod_eq_of_lt (o &&& x).isLt, fun s e t h hk hr => commits_of_run h rfl (by decide) hk hr⟩
  · exact ⟨fun _ _ o x _ => o ||| x, fun _ _ o x _ _ => Nat.mod_eq_of_lt (o ||| x).isLt, fun s e t h hk hr => commits_of_run h rfl (by decide) hk hr⟩
  · exact ⟨fun _ _ o x _ => o ^^^ x, fun _ _ o x _ _ => Nat.mod_eq_of_lt (o ^^^ x).isLt, fun s e t h hk hr => commits_of_run h rfl (by decide) hk hr⟩
  · exact ⟨fun _ _ _ x _ => x, fun _ _ _ x _ _ => Nat.mod_eq_of_lt x.isLt, fun s e t h hk hr => commits_of_run h rfl (by decide) hk hr⟩
  · exact ⟨_, atomSays_cas, fun s e t h hk hr => commits_of_run h rfl (by decide) hk hr⟩

/-- What an atomic of thread `t` finds at its address in `b`, what it compares it with, and the bytes it leaves. -/
def atomOld (e : Env) (b : Sparse Byte) (t : Nat) : BitVec (8 * accWidth e.i) :=
  BitVec.ofNat (8 * accWidth e.i) (leNat (Memory.load b (e.addr t) (accWidth e.i)))

def atomCompare (e : Env) (t : Nat) : Word64 :=
  match desig e.i.dst with
  | .v _ | .u _ => srcVal e.gr e.i e.i.dst t
  | _ => 0

def atomAct (m : Mn) (e : Env) (b : Sparse Byte) (t : Nat) : Sparse Byte :=
  Memory.store b (e.addr t) (leBytes (accWidth e.i)
    (atomNew m (e.i.mod / 4 % 2 == 1) (atomOld e b t) ((srcVal e.gr e.i e.i.s2 t).setWidth _) ((atomCompare e t).setWidth _)).toNat)

section
variable {op : Bool → Nat → Nat → Nat → Nat → Nat} {m : Mn} {s : State} {e : Env}

theorem toNat_atomOld (e : Env) (b : Sparse Byte) (t : Nat) : (atomOld e b t).toNat = leNat (Memory.load b (e.addr t) (accWidth e.i)) := by
  have lt : leNat (Memory.load b (e.addr t) (accWidth e.i)) < 2 ^ (8 * accWidth e.i) := calc
    leNat (Memory.load b (e.addr t) (accWidth e.i)) < 256 ^ (Memory.load b (e.addr t) (accWidth e.i)).length := leNat_lt _
    _ = 2 ^ (8 * accWidth e.i) := by simp [Memory.load, Nat.pow_mul]
  exact (BitVec.toNat_ofNat ..).trans (Nat.mod_eq_of_lt lt)

theorem ctxLoad_outside_const {c : Ctx} {n a len : Nat} (h : inConst n c a len = false) : ctxLoad s n c a len = Memory.load s.mem.bytes a len := by
  unfold ctxLoad
  split
  · rw [h]
    rfl
  · rfl

/-- One lane's atomic in memory without stored errors: the old value returned, the new one left. -/
theorem atomLane_clean (hop : AtomSays op m) (h : s.mem.errs = []) {t : Nat} (hc : inConst e.ctx e.c (e.addr t) (accWidth e.i) = false) :
    ∃ u p, atomLane op e s t = (u, (atomOld e s.mem.bytes t).setWidth 64, p) ∧ StoredFrom s u ∧ u.mem.bytes = atomAct m e s.mem.bytes t := by
  obtain ⟨cs, hr⟩ := readLane_clean (e := e) h (e.addr t) (accWidth e.i)
  have new := hop (e.i.mod / 4 % 2 == 1) (8 * accWidth e.i) (atomOld e s.mem.bytes t) ((srcVal e.gr e.i e.i.s2 t).setWidth _) ((atomCompare e t).setWidth _)
    (Nat.mul_pos (by decide) (Nat.two_pow_pos _))
  rw [ctxLoad_outside_const hc, ← toNat_atomOld] at hr
  obtain ⟨stored, bytes, -⟩ := storeMem_clean (s := { s with counters := cs }) h (e.addr t) (leBytes (accWidth e.i)
    (atomNew m (e.i.mod / 4 % 2 == 1) (atomOld e s.mem.bytes t) ((srcVal e.gr e.i e.i.s2 t).setWidth _) ((atomCompare e t).setWidth _)).toNat)
  refine ⟨_, firstPoison s (e.addr t) (accWidth e.i), ?_, StoredFrom.trans ⟨rfl, h⟩ stored, bytes⟩
  unfold atomLane
  dsimp only
  rw [hr]
  dsimp only
  rw [BitVec.ofNat_toNat, ← new, BitVec.toNat_setWidth, BitVec.toNat_setWidth]
  rfl

/-- The next atomic of a list performed, what it returns kept under its lane. -/
def atomNext (op : Bool → Nat → Nat → Nat → Nat → Nat) (e : Env) (x : State × List (Nat × Word64 × Option Nat)) (t : Nat) :
    State × List (Nat × Word64 × Option Nat) :=
  ((atomLane op e x.1 t).1, x.2 ++ [(t, (atomLane op e x.1 t).2)])

/-- R144: each atomic of a list acts on the bytes its predecessors left, and returns what it found there. -/
theorem foldl_atomNext (hop : AtomSays op m) (ts : List Nat) (hc : ∀ t ∈ ts, inConst e.ctx e.c (e.addr t) (accWidth e.i) = false)
    (x : State × List (Nat × Word64 × Option Nat)) (h : x.1.mem.errs = []) :
    ∃ got, (ts.foldl (atomNext op e) x).2 = x.2 ++ got ∧ StoredFrom x.1 (ts.foldl (atomNext op e) x).1 ∧
      (ts.foldl (atomNext op e) x).1.mem.bytes = ts.foldl (atomAct m e) x.1.mem.bytes ∧
      ∀ l t r, ts = l ++ t :: r → t ∉ l →
        ∃ p, got.find? (fun y => y.1 == t) = some (t, (atomOld e (l.foldl (atomAct m e) x.1.mem.bytes) t).setWidth 64, p) := by
  induction ts generalizing x with
  | nil => exact ⟨[], (List.append_nil _).symm, .refl h, rfl, by simp⟩
  | cons a ts ih =>
    obtain ⟨u, p, hu, stored, bytes⟩ := atomLane_clean hop h (hc a List.mem_cons_self)
    have next : atomNext op e x a = (u, x.2 ++ [(a, (atomOld e x.1.mem.bytes a).setWidth 64, p)]) := by rw [atomNext, hu]
    obtain ⟨got, hg, hs, hb, hf⟩ := ih (fun t ht => hc t (List.mem_cons_of_mem a ht)) (u, x.2 ++ [(a, (atomOld e x.1.mem.bytes a).setWidth 64, p)])
      stored.errs
    rw [List.foldl_cons, next]
    refine ⟨(a, (atomOld e x.1.mem.bytes a).setWidth 64, p) :: got, by rw [hg, List.append_assoc, List.singleton_append], stored.trans hs,
      by rw [hb, List.foldl_cons, bytes], fun l t r hl ht => ?_⟩
    cases l with
    | nil =>
      obtain ⟨rfl, rfl⟩ := List.cons.inj hl
      exact ⟨p, List.find?_cons_of_pos (by simp)⟩
    | cons b l =>
      obtain ⟨rfl, rest⟩ := List.cons.inj hl
      obtain ⟨q, hq⟩ := hf l t r rest (fun k => ht (List.mem_cons_of_mem a k))
      have other : ¬ (a == t) = true := fun k => ht (List.mem_cons.mpr (.inl (eq_of_beq k).symm))
      refine ⟨q, (List.find?_cons_of_neg (p := fun y : Nat × Word64 × Option Nat => y.1 == t) other).trans (hq.trans ?_)⟩
      rw [List.foldl_cons, bytes]

/-- What lane `t` gets of the returned values, and the reads of all lanes together. -/
def atomVal (got : List (Nat × Word64 × Option Nat)) (t : Nat) : Word64 × Option Nat := ((got.find? (fun x => x.1 == t)).map (·.2)).getD (0, none)

def atomReads (e : Env) (x : State × List (Nat × Word64 × Option Nat)) : Reads :=
  { s := x.1, vals := e.lanes.map (fun t => (atomVal x.2 t).1), poison := e.lanes.filter (fun t => (atomVal x.2 t).2.isSome),
    pa := (e.lanes.filterMap (fun t => (atomVal x.2 t).2)).head? }

theorem atomRes_eq (h : e.lanes.any (fun t => unavailable s (e.addr t) (accWidth e.i)) = false) :
    atomRes op e s =
      let x := (rotated s e.lanes).foldl (atomNext op e) (s.tick, [])
      if desig e.i.dst = .zero then .done x.1 else .done (e.post x.1 e.lanes (atomReads e x)) := by
  unfold atomRes
  dsimp only
  rw [if_neg (by rw [h]; decide)]
  rfl

end

/-- Settles O36: the lanes in a rotated order, each atomic on the bytes of those before it (`foldl_atomNext`), and the values on their way to the lanes. -/
theorem atomicsAreATotalOrder : Obligations.AtomicsAreATotalOrder := by
  intro s g e m i hmi h clean may n at_ cmp act
  obtain ⟨rfl, hg, -⟩ := env_group h.stands
  obtain ⟨op, hop, row⟩ := atomRows_run hmi
  have perm := rotated_perm s e.lanes
  have run := atomRes_eq (op := op) (lanes_answer (fun t ht => (may t ht).1))
  obtain ⟨got, hgot, stored, bytes, vals⟩ := foldl_atomNext (e := e) hop (rotated s e.lanes) (fun t ht => (may t (perm.mem_iff.mp ht)).2) (s.tick, []) clean
  generalize (rotated s e.lanes).foldl (atomNext op e) (s.tick, []) = x at run hgot stored bytes
  obtain ⟨groups, ctxs, sync⟩ : x.1.groups = s.groups ∧ x.1.ctxs = s.ctxs ∧ x.1.sync = s.sync := by
    rw [stored.rest]
    exact ⟨rfl, rfl, rfl⟩
  have check : checkAccess 3 e s = none := checkAccess_none (fun t ht => (may t ht).1)
  by_cases hz : desig e.i.dst = .zero
  · exact ⟨x.1, _, row s e _ h check (run.trans (if_pos hz)), perm, bytes, ctxs, sync, fun _ => groups, fun k => absurd hz k⟩
  · have group : x.1.group? e.g = some e.gr := by unfold State.group?; rw [groups]; exact hg
    refine ⟨_, _, row s e _ h check (run.trans (if_neg hz)), perm, ?bytes, ?ctxs, ?sync, fun k => absurd k hz,
      fun _ => ⟨loadPend e (atomReads e x), ?group, rfl, rfl, fun k t hk => ?returns⟩⟩
    case returns =>
      obtain ⟨l, r, hl, hn⟩ := List.eq_append_cons_of_mem (perm.mem_iff.mpr (List.mem_of_getElem? hk))
      obtain ⟨p, hp⟩ := vals l t r hl hn
      refine ⟨l, r, hl, ?_⟩
      show (e.lanes.map (fun t => (atomVal x.2 t).1))[k]? = _
      rw [List.getElem?_map, hk, Option.map_some, hgot, List.nil_append, atomVal, hp]
      rfl
    all_goals rw [post_eq x.1 group]
    case bytes => exact bytes
    case ctxs => exact ctxs
    case sync => exact sync
    case group => exact State.group_setGroup ..

end Sys2Proof.Machine
end

section
/-! SUPPORT. The DMA engine: a copy queued, a copy run granule by granule, and its completion (R143, R305, R313). -/

namespace Sys2Proof.Machine

open Sys2Proof

/-! ## Granules -/

/-- One aligned granule. -/
theorem granules_one {a : Nat} (h : a % 64 = 0) : granules a 64 = [a / 64] := by
  have last : (a + 64 - 1) / 64 - a / 64 + 1 = 1 := by omega
  unfold granules
  rw [if_neg (by decide), last]
  simp

/-- Whether a read delivers poison rests on the marker of its granule, and on parts of the state that a store leaves alone (R304, R511). -/
theorem poisonedAt_stored {s t : State} (h : StoredFrom s t) {a : Nat} (hp : Sparse.get false t.mem.poison (a / 64) = Sparse.get false s.mem.poison (a / 64)) :
    poisonedAt t a = poisonedAt s a := by
  have isolated : onIsolated t (64 * (a / 64)) = onIsolated s (64 * (a / 64)) := by rw [h.rest]; rfl
  unfold poisonedAt
  rw [hp, isolated]

/-! ## Copies (R305, R313) -/

section
variable {s : State}

/-- R305: a granule stored with its marker, in memory without stored errors. -/
theorem storeMarked_granule (h : s.mem.errs = []) {a : Nat} (ha : a % 64 = 0) {bs : List Byte} (hl : bs.length = 64) (p : Bool) :
    StoredFrom s (storeMarked s a bs p) ∧ (storeMarked s a bs p).mem.bytes = Memory.store s.mem.bytes a bs ∧
      ∀ q, Sparse.get false (storeMarked s a bs p).mem.poison q = if q = a / 64 then p else Sparse.get false s.mem.poison q := by
  obtain ⟨stored, bytes, poison⟩ := storeMem_clean h a bs
  rw [hl, granules_one ha] at poison
  have cleared : ∀ q, Sparse.get false (storeMem s a bs).mem.poison q = if q = a / 64 then false else Sparse.get false s.mem.poison q := fun q => by
    rw [poison q]
    by_cases hq : q = a / 64
    · rw [if_pos hq, if_pos ⟨List.mem_singleton.mpr hq, by omega, by omega⟩]
    · rw [if_neg hq, if_neg (fun k => hq (List.mem_singleton.mp k.1))]
  unfold storeMarked
  dsimp only
  cases p with
  | false => exact ⟨stored, bytes, cleared⟩
  | true =>
    rw [if_pos rfl, hl, granules_one ha]
    refine ⟨stored.trans ⟨rfl, stored.errs⟩, bytes, fun q => ?_⟩
    show Sparse.get false (Sparse.put false (storeMem s a bs).mem.poison (64 * (a / 64) / 64) true) q = _
    rw [Nat.mul_div_cancel_left _ (by decide)]
    by_cases hq : q = a / 64
    · rw [hq, Sparse.get_put_self, if_pos rfl]
    · rw [Sparse.get_put_ne _ _ _ hq, cleared q, if_neg hq, if_neg hq]

/-- The state once `n` granules from `src` have been copied to `dst`: each carries its source's bytes and poison, and all else stands as in `s`. -/
structure Copied (s t : State) (dst src n : Nat) : Prop where
  stored : StoredFrom s t
  inside : ∀ i, i < 64 * n → Memory.read t.mem.bytes (dst + i) = Memory.read s.mem.bytes (src + i)
  outside : ∀ a, a < dst ∨ dst + 64 * n ≤ a → Memory.read t.mem.bytes a = Memory.read s.mem.bytes a
  marked : ∀ j, j < n → Sparse.get false t.mem.poison (dst / 64 + j) = poisonedAt s (src + 64 * j)
  unmarked : ∀ q, q < dst / 64 ∨ dst / 64 + n ≤ q → Sparse.get false t.mem.poison q = Sparse.get false s.mem.poison q

theorem Copied.zero (h : s.mem.errs = []) (dst src : Nat) : Copied s s dst src 0 :=
  ⟨.refl h, fun _ k => absurd k (Nat.not_lt_zero _), fun _ _ => rfl, fun _ k => absurd k (Nat.not_lt_zero _), fun _ _ => rfl⟩

/-- The next granule of a copy that does not overlap its source. -/
theorem Copied.succ {t : State} {dst src n : Nat} (h : Copied s t dst src n) (hd : dst % 64 = 0) (hs : src % 64 = 0)
    (apart : dst + 64 * (n + 1) ≤ src ∨ src + 64 * (n + 1) ≤ dst) : Copied s (copyGranule t (dst + 64 * n) (src + 64 * n)) dst src (n + 1) := by
  have length : (loadMem t (src + 64 * n) 64).length = 64 := by simp [loadMem, Memory.load]
  obtain ⟨stored, bytes, marks⟩ := storeMarked_granule h.stored.errs (a := dst + 64 * n) (by omega) length (poisonedAt t (src + 64 * n))
  have source : poisonedAt t (src + 64 * n) = poisonedAt s (src + 64 * n) := poisonedAt_stored h.stored (h.unmarked _ (by omega))
  have here : (dst + 64 * n) / 64 = dst / 64 + n := by omega
  have poison : ∀ q, Sparse.get false (copyGranule t (dst + 64 * n) (src + 64 * n)).mem.poison q =
      if q = dst / 64 + n then poisonedAt s (src + 64 * n) else Sparse.get false t.mem.poison q := fun q => (marks q).trans (by rw [here, source])
  refine ⟨h.stored.trans stored, fun i hi => ?inside, fun a ha => ?outside, fun j hj => ?marked, fun q hq => ?unmarked⟩
  case inside =>
    refine (congrArg (Memory.read · (dst + i)) bytes).trans ?_
    by_cases old : i < 64 * n
    · rw [Memory.read_store_outside _ _ _ _ (by omega), h.inside i old]
    · obtain ⟨k, rfl⟩ := Nat.exists_eq_add_of_le (Nat.le_of_not_lt old)
      have hk : k < 64 := by omega
      rw [← Nat.add_assoc, Memory.read_store_inside _ _ _ _ (length ▸ hk), ← Nat.add_assoc]
      simp only [loadMem, Memory.load, List.getD_eq_getElem?_getD, List.getElem?_map, List.getElem?_range hk, Option.map_some, Option.getD_some]
      exact h.outside _ (by omega)
  case outside =>
    exact (congrArg (Memory.read · a) bytes).trans ((Memory.read_store_outside _ _ _ _ (by omega)).trans (h.outside a (by omega)))
  case marked =>
    refine (poison (dst / 64 + j)).trans ?_
    rcases Nat.lt_succ_iff_lt_or_eq.mp hj with old | rfl
    · rw [if_neg (by omega), h.marked j old]
    · rw [if_pos rfl]
  case unmarked => exact (poison q).trans ((if_neg (by omega)).trans (h.unmarked q (by omega)))

/-- R313: a copy whose ranges are apart. -/
theorem copyRange_apart (h : s.mem.errs = []) {dst src n : Nat} (hd : dst % 64 = 0) (hs : src % 64 = 0) (hn : n % 64 = 0)
    (apart : dst + n ≤ src ∨ src + n ≤ dst) : Copied s (copyRange s dst src n) dst src (n / 64) := by
  have steps : ∀ k, k ≤ n / 64 → Copied s ((List.range k).foldl (fun t i => copyGranule t (dst + 64 * i) (src + 64 * i)) s) dst src k := by
    intro k
    induction k with
    | zero => exact fun _ => .zero h dst src
    | succ k ih =>
      intro hk
      rw [List.range_succ, List.foldl_append]
      exact (ih (by omega)).succ hd hs (by omega)
  unfold copyRange
  dsimp only
  rw [if_pos apart]
  exact steps _ (Nat.le_refl _)

/-- The DMA engine takes the copy at the head of its queue, and the command waits to signal. -/
theorem dmaStart_eq {c ctx dst src n : Nat} {obj : Option Nat} {site : BitVec 32} {r : List DmaEntry}
    (hq : (s.cluster c).dq = .copy ctx dst src n obj site :: r) (hs : unavailable s src n = false) (hd : unavailable s dst n = false) :
    let t := (copyRange (touch s src n) dst src n).bump 0x0300000D n
    dmaStart s c = addDone (t.setCluster c { t.cluster c with dq := r }) c
      { engine := .dma, ctx := ctx, obj := obj, site := site, mark := poisonMark (readPoison (touch s src n) src n) } := by
  unfold dmaStart
  dsimp only
  rw [hq]
  dsimp only
  rw [if_neg (by simp [hs, hd])]

theorem addDone_cluster {t : State} (h : t.clusters = s.clusters) (c : Nat) (r : List DmaEntry) (d : Done) :
    (addDone (t.setCluster c { t.cluster c with dq := r }) c d).cluster c = { s.cluster c with dq := r, done := (s.cluster c).done ++ [d] } := by
  have same : t.cluster c = s.cluster c := by
    unfold State.cluster
    rw [h]
  unfold addDone
  dsimp only
  rw [State.cluster_setCluster, State.cluster_setCluster, same]

/-- R143: the oldest finished command of an engine signals. -/
theorem engineCompletion_eq {c : Nat} {d : Done} {l r : List Done} (hd : (s.cluster c).done = l ++ d :: r) (hl : ∀ x ∈ l, x.engine ≠ d.engine) :
    engineCompletion s c d.engine = complete (s.setCluster c { s.cluster c with done := l ++ r }) d.ctx d.obj d.site d.mark := by
  have first : (s.cluster c).done.find? (fun x => x.engine == d.engine) = some d := by
    rw [hd, List.find?_append, List.find?_eq_none.mpr (fun x hx => by simpa using hl x hx), List.find?_cons_of_pos (by simp)]
    rfl
  have rest : (s.cluster c).done.erase d = l ++ r := by
    rw [hd, List.erase_append_right _ (fun k => hl d k rfl), List.erase_cons_head]
  unfold engineCompletion
  dsimp only
  rw [first]
  dsimp only
  rw [rest]

/-! ## DMA issued (R136, R143) -/

theorem checkDma_none {e : Env} {u : Nat} (hu : desig e.i.dst = .u u) (hi : refIllegal (e.gr.uGet u) .completion = false)
    (ho : refOut e.c (e.gr.uGet u) = false) (hd : e.dmaDst % 64 = 0) (hs : e.dmaSrc % 64 = 0) (hn : e.dmaLen % 64 = 0) (hp : 0 < e.dmaLen)
    (hle : e.dmaLen ≤ 2 ^ 32) (hw : mayAccess e.ctx e.c true e.dmaDst e.dmaLen = true) (hr : mayAccess e.ctx e.c false e.dmaSrc e.dmaLen = true) :
    checkDma e s = none := by
  have illegal : e.objIllegal = false := by unfold Env.objIllegal; rw [hu]; exact hi
  have access : e.objAccess = none := by unfold Env.objAccess; rw [hu]; exact if_neg (by simp [ho])
  have length : (e.dmaLen % 64 != 0 || e.dmaLen == 0 || decide (2 ^ 32 < e.dmaLen)) = false := by
    simp only [Bool.or_eq_false_iff, bne_eq_false_iff_eq, beq_eq_false_iff_ne, decide_eq_false_iff_not]
    omega
  unfold checkDma
  dsimp only
  rw [length, illegal, access, hd, hs, hw, hr]
  rfl

theorem runDma_queues {e : Env} (h : (s.cluster e.g.cluster).dq.length < 16) :
    runDma e s = .done (s.setCluster e.g.cluster { s.cluster e.g.cluster with
      dq := (s.cluster e.g.cluster).dq ++ [.copy e.ctx e.dmaDst e.dmaSrc e.dmaLen e.obj (clusterSite e.g.cluster)] }) := by
  unfold runDma
  exact if_neg (Nat.not_le.mpr h)

end

/-- Settles O37: the copy queued, run granule by granule (`Copied`), and signalled. -/
theorem dmaCopiesAndSignals : Obligations.DmaCopiesAndSignals := by
  refine ⟨?issues, ?runs, ?signals⟩
  case issues =>
    intro s g e u h room hu hi ho dst src n hd hs hn hp hle hw hr k
    obtain ⟨rfl, -, -⟩ := env_group h.stands
    have obj : e.obj = some (refVid (e.gr.uGet u)) := by unfold Env.obj; rw [hu]
    have run := runDma_queues room
    rw [obj] at run
    exact commits_of_run h rfl (by decide) (checkDma_none (s := s) hu hi ho hd hs hn hp hle hw hr) run
  case runs =>
    intro s c ctx dst src n obj site r hq clean hsrc hdst hd hs hn apart
    obtain ⟨cs, hcs⟩ := touch_clean clean src n
    have copied := copyRange_apart (s := touch s src n) (by rw [hcs]; exact clean) hd hs hn apart
    have start := dmaStart_eq hq hsrc hdst
    generalize copyRange (touch s src n) dst src n = t at copied start
    rw [hcs] at copied
    have same : t.clusters = s.clusters ∧ t.groups = s.groups := by rw [copied.stored.rest]; exact ⟨rfl, rfl⟩
    refine ⟨_, poisonMark (readPoison (touch s src n) src n), congrArg Host.Outcome.next start, fun i hi => ⟨copied.inside i (by omega), ?poison⟩,
      fun a ha => ⟨copied.outside a (by omega), copied.unmarked _ (by omega)⟩, addDone_cluster (t := t.bump _ n) same.1 c r _, same.2⟩
    case poison =>
      have granule : (dst + i) / 64 = dst / 64 + i / 64 := by omega
      have source : (src + 64 * (i / 64)) / 64 = (src + i) / 64 := by omega
      have whole : poisonedAt s (src + 64 * (i / 64)) = poisonedAt s (src + i) := by unfold poisonedAt; rw [source]
      rw [granule, ← whole]
      exact copied.marked _ (by omega)
  case signals =>
    intro s c d l r vid hd hl ho
    have done := engineCompletion_eq hd hl
    rw [ho] at done
    exact ⟨_, _, congrArg Host.Outcome.next done, congrArg Cluster.done (State.cluster_setCluster ..), rfl, rfl, rfl, rfl, rfl, rfl, rfl, rfl, rfl⟩

end Sys2Proof.Machine
end

section
/-! SUPPORT. What reset leaves (Table 15.3). -/

namespace Sys2Proof.Machine

open Sys2Proof

/-- After reset every ring is as its function finds it (Tables 2.6 to 2.11). -/
theorem State.reset_ring (r : RingId) : State.reset.ring r = Ring.fresh := rfl

/-- After reset every cluster is FULL with FILL_TIMEOUT 256 and empty queues (Table 6.2, R222). -/
theorem State.reset_cluster (c : Nat) : State.reset.cluster c = Cluster.fresh := rfl

/-- Settles O58: rings and clusters are fresh (`State.reset_ring`, `State.reset_cluster`), and empty memories are canonical. -/
theorem resetStands : Obligations.ResetStands :=
  ⟨rfl, rfl, rfl, rfl, rfl, fun r => State.reset_ring r ▸ ⟨rfl, rfl⟩, fun c => State.reset_cluster c ▸ ⟨rfl, rfl, rfl, rfl, rfl, rfl⟩, rfl, rfl,
    Memory.wf_nil, Memory.wf_nil⟩

end Sys2Proof.Machine
end

section
/-! SUPPORT. The accumulator file under many writes, and rows of scratchpad read from memory that holds no stored error (R217, R195). -/

namespace Sys2Proof.Machine

open Sys2Proof

/-! ## Many writes to one table -/

/-- Entries put into the accumulator file one after another. -/
def putAll (m : Sparse Word32) (l : List (Nat × Word32)) : Sparse Word32 := l.foldl (fun m e => Sparse.put 0 m e.1 e.2) m

theorem putAll_append (m : Sparse Word32) (l l' : List (Nat × Word32)) : putAll m (l ++ l') = putAll (putAll m l) l' := List.foldl_append ..

/-- A key that no entry names keeps its value. -/
theorem get_putAll_absent (l : List (Nat × Word32)) (m : Sparse Word32) {k : Nat} (h : ∀ e ∈ l, e.1 ≠ k) :
    Sparse.get 0 (putAll m l) k = Sparse.get 0 m k :=
  List.foldlRecOn (motive := fun x => Sparse.get 0 x k = Sparse.get 0 m k) l _ rfl
    (fun x hx e he => (Sparse.get_put_ne 0 x e.2 (h e he).symm).trans hx)

/-- A key takes the value on which all its entries agree. -/
theorem get_putAll_present (l : List (Nat × Word32)) (m : Sparse Word32) {k : Nat} {v : Word32} (hv : ∀ e ∈ l, e.1 = k → e.2 = v)
    (hk : ∃ e ∈ l, e.1 = k) : Sparse.get 0 (putAll m l) k = v := by
  induction l using List.reverseRecOn with
  | nil => simp at hk
  | append_singleton l e ih =>
    rw [putAll_append]
    by_cases he : e.1 = k
    · exact he ▸ (Sparse.get_put_self 0 _ e.1 e.2).trans (hv e (by simp) he)
    · obtain ⟨x, hx, hxk⟩ := hk
      have before : x ∈ l := (List.mem_append.mp hx).resolve_right (fun q => he (List.mem_singleton.mp q ▸ hxk))
      exact (Sparse.get_put_ne 0 _ e.2 (Ne.symm he)).trans (ih (fun y hy => hv y (List.mem_append_left _ hy)) ⟨x, before, hxk⟩)

/-- R217: an element of the file is named by its tile, row and column. -/
theorem accKey_inj {t t' i i' j j' : Nat} (hi : i < 32) (hi' : i' < 32) (hj : j < 32) (hj' : j' < 32) :
    accKey t i j = accKey t' i' j' ↔ t = t' ∧ i = i' ∧ j = j' := by
  unfold accKey
  omega

/-! ## Rows of 32 results -/

/-- The entries of a result row: 32 columns of row `i` of tile `t`. -/
def rowCells (t i : Nat) (f : Nat → Word32) : List (Nat × Word32) := (List.range 32).map (fun col => (accKey t i col, f col))

theorem mem_rowCells {t i : Nat} {f : Nat → Word32} {e : Nat × Word32} : e ∈ rowCells t i f ↔ ∃ col < 32, (accKey t i col, f col) = e := by
  simp [rowCells]

/-- The entries of several result rows: row `R r` of tile `T r` for each `r`. -/
def rowsCells (T R : Nat → Nat) (f : Nat → Nat → Word32) (rs : List Nat) : List (Nat × Word32) := rs.flatMap (fun r => rowCells (T r) (R r) (f r))

section
variable {T R : Nat → Nat} {f : Nat → Nat → Word32} {rs : List Nat} (hR : ∀ r ∈ rs, R r < 32)
include hR

theorem get_putAll_rows {r col : Nat} (m : Sparse Word32) (hi : ∀ r' ∈ rs, T r' = T r → R r' = R r → r' = r) (hr : r ∈ rs) (hc : col < 32) :
    Sparse.get 0 (putAll m (rowsCells T R f rs)) (accKey (T r) (R r) col) = f r col := by
  refine get_putAll_present _ m (fun e he hk => ?_)
    ⟨_, List.mem_flatMap.mpr ⟨r, hr, mem_rowCells.mpr ⟨col, hc, rfl⟩⟩, rfl⟩
  obtain ⟨r', hr', hx⟩ := List.mem_flatMap.mp he
  obtain ⟨col', hc', rfl⟩ := mem_rowCells.mp hx
  obtain ⟨ht, hrow, rfl⟩ := (accKey_inj (hR r' hr') (hR r hr) hc' hc).mp hk
  rw [hi r' hr' ht hrow]

theorem get_putAll_rows_other {n i j : Nat} (m : Sparse Word32) (ho : ∀ r ∈ rs, n = T r → i ≠ R r) (hi : i < 32) (hj : j < 32) :
    Sparse.get 0 (putAll m (rowsCells T R f rs)) (accKey n i j) = Sparse.get 0 m (accKey n i j) := by
  refine get_putAll_absent _ m (fun e he hk => ?_)
  obtain ⟨r, hr, hx⟩ := List.mem_flatMap.mp he
  obtain ⟨col, hc, rfl⟩ := mem_rowCells.mp hx
  obtain ⟨ht, hrow, -⟩ := (accKey_inj (hR r hr) hi hc hj).mp hk
  exact ho r hr ht.symm hrow.symm

end

/-- A row's cells as entries of the file. -/
def TRow.entries (r : TRow) : List (Nat × Word32) := r.cells.map (fun e => (accKey r.tile r.row e.1, e.2))

theorem putCells_eq (m : Sparse Word32) (r : TRow) : putCells m r = putAll m r.entries := by
  simp [putCells, putAll, TRow.entries, List.foldl_map]

theorem foldl_putCells (m : Sparse Word32) (rs : List TRow) : rs.foldl putCells m = putAll m (rs.flatMap TRow.entries) := by
  induction rs generalizing m with
  | nil => rfl
  | cons r rs ih => rw [List.foldl_cons, ih, putCells_eq, List.flatMap_cons, putAll_append]

/-! ## Memory read -/

/-- `t` is `s` but for counters. -/
def Counted (s t : State) : Prop := ∃ cs, t = { s with counters := cs }

namespace Counted

variable {s t u : State}

theorem refl (s : State) : Counted s s := ⟨s.counters, rfl⟩

theorem trans (h : Counted s t) (k : Counted t u) : Counted s u := by
  obtain ⟨a, rfl⟩ := h
  obtain ⟨b, rfl⟩ := k
  exact ⟨b, rfl⟩

theorem bump (s : State) (id n : Nat) : Counted s (s.bump id n) := ⟨_, rfl⟩

theorem mem (h : Counted s t) : t.mem = s.mem := by obtain ⟨_, rfl⟩ := h; rfl
theorem groups (h : Counted s t) : t.groups = s.groups := by obtain ⟨_, rfl⟩ := h; rfl
theorem clusters (h : Counted s t) : t.clusters = s.clusters := by obtain ⟨_, rfl⟩ := h; rfl
theorem sync (h : Counted s t) : t.sync = s.sync := by obtain ⟨_, rfl⟩ := h; rfl
theorem clusterAt (h : Counted s t) (c : Nat) : t.cluster c = s.cluster c := by obtain ⟨_, rfl⟩ := h; rfl
theorem load (h : Counted s t) (a n : Nat) : loadMem t a n = loadMem s a n := congrArg (fun m : MemSys => Memory.load m.bytes a n) h.mem

end Counted

/-- A row read from clean memory gives its bytes and counts at most. -/
theorem readRow_clean {s : State} (h : s.mem.errs = []) (a n : Nat) : Counted s (readRow s a n).1 ∧ (readRow s a n).2.1 = loadMem s a n := by
  have counted : Counted s (touch s a n) := touch_clean h a n
  exact ⟨counted, counted.load a n⟩

theorem loadMem_length (s : State) (a n : Nat) : (loadMem s a n).length = n := by simp [loadMem, Memory.load]

/-- A field of loaded bytes is what memory holds there. -/
theorem field_loadMem (s : State) (a : Nat) {o n l : Nat} (h : o + n ≤ l) : field (loadMem s a l) o n = leNat (loadMem s (a + o) n) := by
  unfold field
  congr 1
  apply List.ext_getElem
  · simp [loadMem_length]; omega
  · intro i h1 h2
    simp [loadMem, Memory.load, Nat.add_assoc]

end Sys2Proof.Machine
end

section
/-! SUPPORT. A NORMAL pass of 16-bit floating operands in FULL: what its bank and its streamed rows hold, the products they make, and what the pass leaves of
its cluster (R191 to R198, R203 to R206). -/

namespace Sys2Proof.Machine

open Sys2Proof

/-! ## Operands of 16 bits -/

section
variable {t : Nat} (h : t = 5 ∨ t = 6)
include h

theorem tyBits_half : tyBits t = 16 := by rcases h with rfl | rfl <;> rfl
theorem usesExp_half : usesExp t = false := by rcases h with rfl | rfl <;> rfl
theorem intType_half : intType t = false := by rcases h with rfl | rfl <;> rfl
theorem statCols_half : statCols 0 t = 32 := by rcases h with rfl | rfl <;> rfl
theorem tileCols_half : tileCols 0 t = 1 := by rcases h with rfl | rfl <;> rfl
theorem statRow_half : statRow 0 t = 64 := by rcases h with rfl | rfl <;> rfl
theorem streamRow_half : streamRow 0 t = 64 := by rcases h with rfl | rfl <;> rfl

end

/-- Element `i` of a row of 32 operands of type `t` at address `a`, as an exact value. -/
def halfAt (s : State) (t a i : Nat) : FVal := opVal t (leNat (loadMem s (a + 2 * i) 2)) 0

/-- The codes of a row of 16-bit elements are the halfwords of memory. -/
theorem elems_loadMem (s : State) (a : Nat) :
    elems 16 32 (loadMem s a 64) = (List.range 32).map (fun i => leNat (loadMem s (a + 2 * i) 2)) := by
  refine List.map_congr_left (fun i hi => ?_)
  have hlt : i < 32 := List.mem_range.mp hi
  rw [if_neg (by decide), show i * 16 / 8 = 2 * i by omega]
  exact field_loadMem s a (by omega)

/-! ## Banks (R191 to R193) -/

/-- Rows read one after another from clean memory. -/
theorem foldl_readRow_clean {s : State} (h : s.mem.errs = []) (f : Nat → Nat) (n : Nat) (rs : List Nat)
    {x : State × List (List Byte) × Bool} (hx : Counted s x.1) :
    let y := rs.foldl (fun (x : State × List (List Byte) × Bool) r =>
      let (t, bs, q) := readRow x.1 (f r) n
      (t, x.2.1 ++ [bs], x.2.2 || q)) x
    Counted s y.1 ∧ y.2.1 = x.2.1 ++ rs.map (fun r => loadMem s (f r) n) := by
  induction rs generalizing x with
  | nil => exact ⟨hx, (List.append_nil _).symm⟩
  | cons r rs ih =>
    obtain ⟨counted, bytes⟩ := readRow_clean (hx.mem ▸ h) (f r) n
    rw [List.foldl_cons]
    obtain ⟨hc, hb⟩ := ih (x := ((readRow x.1 (f r) n).1, x.2.1 ++ [(readRow x.1 (f r) n).2.1], x.2.2 || (readRow x.1 (f r) n).2.2)) (hx.trans counted)
    exact ⟨hc, hb.trans (by simp [bytes, hx.load])⟩

/-- What a pass needs of its bank: the operand's type and raw rows, and no scale codes. -/
structure HoldsOperand (s : State) (h : Handle) (b : Bank) : Prop where
  handle : b.h = h
  rows   : b.rows = (List.range 32).map (fun d => loadMem s (rowAddr h.addr h.stride d) 64)
  codes  : b.codes = []

theorem HoldsOperand.of_mem {s t : State} {h : Handle} {b : Bank} (hb : HoldsOperand s h b) (hm : t.mem = s.mem) : HoldsOperand t h b := by
  refine ⟨hb.handle, hb.rows.trans ?_, hb.codes⟩
  unfold loadMem
  rw [hm]

theorem loadBank_half {s : State} {c : Nat} (hsh : (s.cluster c).shape = 0) (clean : s.mem.errs = []) {h : Handle} (ht : h.type = 5 ∨ h.type = 6)
    (hx : h.cplx = false) (ctx : Nat) : Counted s (loadBank s c ctx h).1 ∧ HoldsOperand s h (loadBank s c ctx h).2 := by
  obtain ⟨counted, rows⟩ := foldl_readRow_clean clean (rowAddr h.addr h.stride) 64 (List.range 32) (x := (s, [], false)) (.refl s)
  unfold loadBank
  simp only [hsh, hx, statRow_half ht, usesExp_half ht, Bool.false_eq_true, if_false]
  exact ⟨counted.trans (.bump ..), rfl, rows, rfl⟩

/-- The rows of the stationary operand. -/
theorem HoldsOperand.colVals {s : State} {h : Handle} {b : Bank} (hb : HoldsOperand s h b) (ht : h.type = 5 ∨ h.type = 6) {col : Nat} (hc : col < 32) :
    b.colVals 0 (b.elemRows 0 false) col = (List.range 32).map (fun d => halfAt s h.type (rowAddr h.addr h.stride d) col) := by
  have rows : b.elemRows 0 false = (List.range 32).map (fun d => (List.range 32).map (fun i => leNat (loadMem s (rowAddr h.addr h.stride d + 2 * i) 2))) := by
    unfold Bank.elemRows
    rw [hb.rows, hb.handle, tyBits_half ht, statCols_half ht, if_neg (by decide), List.drop_zero, List.take_of_length_le (by simp [depthOf]), List.map_map]
    exact List.map_congr_left (fun d _ => elems_loadMem s _)
  have code : ∀ d, b.code 0 d col = 0 := fun d => by unfold Bank.code; rw [hb.codes]; rfl
  unfold Bank.colVals
  rw [rows, hb.handle]
  apply List.ext_getElem
  · simp
  · intro i h1 h2
    simp [halfAt, code, hc]

/-! ## What a pass leaves of its cluster -/

/-- `t` has the memory and the groups of `s`, and of cluster `c` the shape, the command queue and the batches; `l` has been put into its accumulator file. -/
structure ArrayWrote (c : Nat) (s t : State) (l : List (Nat × Word32)) : Prop where
  mem     : t.mem = s.mem
  groups  : t.groups = s.groups
  shape   : (t.cluster c).shape = (s.cluster c).shape
  mq      : (t.cluster c).mq = (s.cluster c).mq
  batches : (t.cluster c).batches = (s.cluster c).batches
  acc     : (t.cluster c).acc = putAll (s.cluster c).acc l

/-- Nothing has been put into the file. -/
abbrev ArrayKept (c : Nat) (s t : State) : Prop := ArrayWrote c s t []

theorem ArrayKept.refl (c : Nat) (s : State) : ArrayKept c s s := ⟨rfl, rfl, rfl, rfl, rfl, rfl⟩

theorem ArrayWrote.trans {c : Nat} {s t u : State} {l l' : List (Nat × Word32)} (h : ArrayWrote c s t l) (k : ArrayWrote c t u l') : ArrayWrote c s u (l ++ l') :=
  ⟨k.mem.trans h.mem, k.groups.trans h.groups, k.shape.trans h.shape, k.mq.trans h.mq, k.batches.trans h.batches,
    by rw [k.acc, h.acc, putAll_append]⟩

theorem ArrayWrote.keep {c : Nat} {s t u : State} {l : List (Nat × Word32)} (h : ArrayWrote c s t l) (k : ArrayKept c t u) : ArrayWrote c s u l :=
  List.append_nil l ▸ h.trans k

theorem Counted.kept {s t : State} (h : Counted s t) (c : Nat) : ArrayKept c s t :=
  have same := h.clusterAt c
  ⟨h.mem, h.groups, congrArg Cluster.shape same, congrArg Cluster.mq same, congrArg Cluster.batches same, congrArg Cluster.acc same⟩

theorem ArrayWrote.bump {c : Nat} {s t : State} {l : List (Nat × Word32)} (h : ArrayWrote c s t l) (id n : Nat) : ArrayWrote c s (t.bump id n) l :=
  h.keep ((Counted.bump t id n).kept c)

/-- A cluster put back with other banks, gap, sample or counts. -/
theorem ArrayKept.setCluster {c : Nat} {s t : State} (h : ArrayKept c s t) {k : Cluster} (hs : k.shape = (t.cluster c).shape) (hm : k.mq = (t.cluster c).mq)
    (hb : k.batches = (t.cluster c).batches) (ha : k.acc = (t.cluster c).acc) : ArrayKept c s (t.setCluster c k) := by
  refine h.keep ⟨rfl, rfl, ?_, ?_, ?_, ?_⟩ <;> rw [State.cluster_setCluster] <;> assumption

/-- R192: a pass notes the use of its registration, and of the cluster counts it alone. -/
theorem noteUse_cluster (s : State) (c ctx gen : Nat) : ∃ n, (noteUse s c ctx gen).cluster c = { s.cluster c with handleN := n } := by
  unfold noteUse
  cases s.ctx? ctx with
  | none => exact ⟨_, rfl⟩
  | some cx => exact ⟨_, State.cluster_setCluster ..⟩

theorem noteUse_kept (s : State) (c ctx gen : Nat) : ArrayKept c s (noteUse s c ctx gen) := by
  obtain ⟨n, hn⟩ := noteUse_cluster s c ctx gen
  have within := noteUse_within s c ctx gen
  exact ⟨within.memSame (by decide) (by decide), within.groupsSame (by decide), (congrArg Cluster.shape hn :), (congrArg Cluster.mq hn :),
    (congrArg Cluster.batches hn :), (congrArg Cluster.acc hn :)⟩

/-- R193: where no bank is resident the array loads the operand. -/
theorem passBank_loads {s : State} {c : Nat} (hsh : (s.cluster c).shape = 0) (hact : Sparse.find? (s.cluster c).active 0 = none)
    (hshd : Sparse.find? (s.cluster c).shadow 0 = none) (clean : s.mem.errs = []) {h : Handle} (ht : h.type = 5 ∨ h.type = 6) (hx : h.cplx = false)
    (ctx : Nat) : ArrayKept c s (passBank s c ctx h).1 ∧ HoldsOperand s h (passBank s c ctx h).2 := by
  obtain ⟨counted, holds⟩ := loadBank_half hsh clean ht hx ctx
  have pos : posOfHandle (s.cluster c).shape h = 0 := if_neg (by rw [hsh]; decide)
  unfold passBank
  simp only [pos, hact, hshd, Option.filter_none]
  exact ⟨(counted.kept c).setCluster rfl rfl rfl rfl, holds⟩

/-- A pass's bank, from the note of its use on. -/
theorem passBank_noteUse {s : State} {c : Nat} (hsh : (s.cluster c).shape = 0) (hact : Sparse.find? (s.cluster c).active 0 = none)
    (hshd : Sparse.find? (s.cluster c).shadow 0 = none) (clean : s.mem.errs = []) {h : Handle} (ht : h.type = 5 ∨ h.type = 6) (hx : h.cplx = false)
    (ctx : Nat) :
    ArrayKept c s (passBank (noteUse s c ctx h.gen) c ctx h).1 ∧ HoldsOperand s h (passBank (noteUse s c ctx h.gen) c ctx h).2 := by
  have noted := noteUse_kept s c ctx h.gen
  obtain ⟨n, hn⟩ := noteUse_cluster s c ctx h.gen
  obtain ⟨kept, holds⟩ := passBank_loads (s := noteUse s c ctx h.gen) (by rw [noted.shape, hsh]) (by rw [hn]; exact hact) (by rw [hn]; exact hshd)
    (by rw [noted.mem]; exact clean) ht hx ctx
  exact ⟨noted.trans kept, holds.of_mem noted.mem.symm⟩

/-- R274: a tile that may be sampled leaves the array as it stands. -/
theorem sampleTile_kept (s : State) (c ctx : Nat) (stat : Word64) (cols : Nat → List (List FVal)) (rs : List TRow) :
    ArrayKept c s (sampleTile s c ctx stat cols rs) := by
  unfold sampleTile
  cases s.ctx? ctx with
  | none => exact .refl c s
  | some cx =>
    have ticked : ArrayKept c s s.tick := ⟨rfl, rfl, rfl, rfl, rfl, rfl⟩
    dsimp only
    split
    · exact .refl c s
    · split
      · exact (ArrayKept.refl c s).setCluster rfl rfl rfl rfl
      · split
        · refine ArrayWrote.bump ?_ _ _
          exact ticked.setCluster rfl rfl rfl rfl
        · exact ticked.setCluster rfl rfl rfl rfl

/-- Of a cluster, writing rows changes the file, its metadata and the flags. -/
theorem writeRows_eq (k : Cluster) (rs : List TRow) (fl : Flags) :
    ∃ m f, writeRows k rs fl = { k with acc := putAll k.acc (rs.flatMap TRow.entries), tmeta := m, matFlags := f } := by
  have metas : ∀ (ts : List Nat) (x : Cluster × Bool), ∃ m, (ts.foldl (fun (x : Cluster × Bool) t =>
      let (m, i) := metaAfter (x.1.tile t) (rs.filter (fun r => r.tile == t))
      (x.1.setTile t m, x.2 || i)) x).1 = { x.1 with tmeta := m } := fun ts => by
    induction ts with
    | nil => exact fun x => ⟨_, rfl⟩
    | cons t ts ih => exact fun x => (ih _).imp fun m hm => hm
  obtain ⟨m, hm⟩ := metas ((rs.map (·.tile)).dedup) ({ k with acc := rs.foldl putCells k.acc }, false)
  unfold writeRows
  dsimp only
  exact ⟨m, _, by rw [hm, foldl_putCells]⟩

/-- The end of a pass writes its rows into the file. -/
theorem endPass_wrote (s : State) (c ctx : Nat) (rs : List TRow) (fl : Flags) (sampled : Option (Word64 × (Nat → List (List FVal)))) :
    ArrayWrote c s (endPass s c ctx rs fl sampled) (rs.flatMap TRow.entries) := by
  obtain ⟨m, f, hk⟩ := writeRows_eq (s.cluster c) rs fl
  have written : ArrayWrote c s (s.setCluster c (writeRows (s.cluster c) rs fl)) (rs.flatMap TRow.entries) := by
    refine ⟨rfl, rfl, ?_, ?_, ?_, ?_⟩ <;> rw [State.cluster_setCluster, hk]
  unfold endPass
  cases sampled with
  | none => exact written
  | some x => exact List.foldlRecOn (motive := fun t => ArrayWrote c s t _) _ _ written (fun t ht _ _ => ht.keep (sampleTile_kept ..))

/-! ## Products (R195, R198) -/

/-- A streamed row that holds the 32 operands of type `t` at address `a`, bound for row `i` of a tile. -/
structure Streams (s : State) (t a tile i : Nat) (acc : Bool) (p : PRow) : Prop where
  tile : p.tile = tile
  row  : p.row = i
  acc  : p.acc = acc
  vals : p.vals t = (List.range 32).map (halfAt s t a)

/-- R195: a row streamed from clean memory. -/
theorem streamedRow_half {s u : State} (clean : s.mem.errs = []) (hu : u.mem = s.mem) {t : Nat} (h : t = 5 ∨ t = 6) (a tile i : Nat) (acc : Bool) (tag : BitVec 12)
    (strm : Word64) (n d : Nat) :
    let y := streamedRow u 0 t a strm n d (fun codes exps p => { tile := tile, row := i, acc := acc, tag := tag, codes := codes, exps := exps, poison := p })
    Counted u y.1 ∧ Streams s t a tile i acc y.2 := by
  obtain ⟨counted, bytes⟩ := readRow_clean (s := u) (hu ▸ clean) a 64
  have same : loadMem u a 64 = loadMem s a 64 := congrArg (fun m : MemSys => Memory.load m.bytes a 64) hu
  unfold streamedRow
  simp only [streamRow_half h, tyBits_half h, usesExp_half h, bytes, same, Bool.false_eq_true, if_false]
  refine ⟨counted, rfl, rfl, rfl, ?_⟩
  unfold PRow.vals
  rw [show depthOf 0 = 32 from rfl, elems_loadMem]
  apply List.ext_getElem
  · simp
  · intro k h1 h2
    simp [halfAt]

/-- Element `col` of a streamed row's product with the stationary columns, from what the file holds there or +0. -/
def productAt (s : State) (h : Handle) (k : Cluster) (t a tile i : Nat) (acc : Bool) (col : Nat) : Word32 :=
  (sumFp (priorOf k acc tile i col)
    ((List.range 32).map (fun d => (halfAt s t a d, halfAt s h.type (rowAddr h.addr h.stride d) col)))).w

/-- A streamed row against the bank gives one result row, its product. -/
theorem normalRows_half {s : State} {h : Handle} {b : Bank} (hb : HoldsOperand s h b) (ht : h.type = 5 ∨ h.type = 6) {t : Nat} (ht' : t = 5 ∨ t = 6)
    {a tile i : Nat} {acc : Bool} {p : PRow} (hp : Streams s t a tile i acc p) (k : Cluster) :
    (normalRows k 0 b (b.elemRows 0 false) t 0 false p).1.flatMap TRow.entries = rowCells tile i (productAt s h k t a tile i acc) := by
  unfold normalRows
  simp only [tileCols_half ht', statCols_half ht', intType_half ht', List.range_one, List.foldl_cons, List.foldl_nil, Bool.false_eq_true, if_false,
    List.nil_append, List.flatMap_cons, List.flatMap_nil, List.append_nil, TRow.entries, List.map_map, hp.tile, hp.row, hp.acc, hp.vals]
  refine List.map_congr_left (fun col hc => ?_)
  have hlt : col < 32 := List.mem_range.mp hc
  simp [Nat.mod_eq_of_lt hlt, productAt, hb.colVals ht hlt, List.zip_map', accKey]

theorem priorOf_congr {k k' : Cluster} (h : k.acc = k'.acc) : priorOf k = priorOf k' := by
  funext acc tile i j
  unfold priorOf Cluster.accGet
  rw [h]

theorem productAt_congr {s : State} {h : Handle} {k k' : Cluster} (hk : k.acc = k'.acc) : productAt s h k = productAt s h k' := by
  unfold productAt
  rw [priorOf_congr hk]

/-! ## A pass of the array -/

/-- Rows read one after another, each by a read that keeps memory. -/
theorem readRows_clean {s : State} {f : State → Nat → State × PRow} {Q : Nat → PRow → Prop}
    (hf : ∀ u r, u.mem = s.mem → Counted u (f u r).1 ∧ Q r (f u r).2) (rs : List Nat) {u : State} (hu : u.mem = s.mem) :
    Counted u (readRows u rs f).1 ∧ List.Forall₂ Q rs (readRows u rs f).2 := by
  unfold readRows
  induction rs using List.reverseRecOn with
  | nil => exact ⟨.refl u, .nil⟩
  | append_singleton rs r ih =>
    obtain ⟨counted, got⟩ := ih
    obtain ⟨one, hq⟩ := hf _ r (counted.mem.trans hu)
    rw [List.foldl_append]
    exact ⟨counted.trans one, List.rel_append got (.cons hq .nil)⟩

theorem gather_fst {α : Type} (f : α → List TRow × Flags) (ps : List α) : (gather f ps).1 = ps.flatMap (fun p => (f p).1) := by
  unfold gather
  induction ps using List.reverseRecOn with
  | nil => rfl
  | append_singleton ps p ih => rw [List.foldl_append, List.flatMap_append, ← ih]; simp

/-- The rows that streamed rows give, as entries of the file. -/
theorem gather_entries {f : PRow → List TRow × Flags} {T R : Nat → Nat} {g : Nat → Nat → Word32} {rs : List Nat} {xs : List PRow}
    (h : List.Forall₂ (fun r p => (f p).1.flatMap TRow.entries = rowCells (T r) (R r) (g r)) rs xs) :
    (gather f xs).1.flatMap TRow.entries = rowsCells T R g rs := by
  rw [gather_fst]
  unfold rowsCells
  induction h with
  | nil => rfl
  | cons h _ ih => simp only [List.flatMap_cons, List.flatMap_append, h, ih]

/-- R195, R198, R101: a NORMAL pass writes the products of its present threads' rows. -/
theorem mmulPass_half {s : State} {c : Nat} (hsh : (s.cluster c).shape = 0) (hact : Sparse.find? (s.cluster c).active 0 = none)
    (hshd : Sparse.find? (s.cluster c).shadow 0 = none) (clean : s.mem.errs = []) {h : Handle} (ht : h.type = 5 ∨ h.type = 6) (hx : h.cplx = false)
    {t : Nat} (ht' : t = 5 ∨ t = 6) (ctx tile addr stride y rows : Nat) (acc : Bool) (strm live : Word64) :
    ArrayWrote c s (mmulPass s c ctx tile addr stride (some h) y t acc 0 rows false false strm live)
      (rowsCells (fun r => tile + r / 32) (fun r => r % 32)
        (fun r => productAt s h (s.cluster c) t (rowAddr addr stride r) (tile + r / 32) (r % 32) acc)
        ((List.range rows).filter (fun r => live.getLsbD (r % 64)))) := by
  obtain ⟨kept, holds⟩ := passBank_noteUse (s := s.bump 0x0A000601 (rows * subPasses 0)) hsh hact hshd clean ht hx ctx
  obtain ⟨counted, streams⟩ := readRows_clean (Q := fun r => Streams s t (rowAddr addr stride r) (tile + r / 32) (r % 32) acc)
    (fun u r hu => streamedRow_half clean hu ht' (rowAddr addr stride r) (tile + r / 32) (r % 32) acc 0xFFF strm (r / 32) 1)
    ((List.range rows).filter (fun r => live.getLsbD (r % 64))) kept.mem
  unfold mmulPass
  simp only [hsh, tileCols_half ht', intType_half ht', if_true, Bool.false_eq_true, if_false, Nat.mul_one, show Nat.max 1 (depthOf 0 / 32) = 1 from rfl]
  generalize passBank (noteUse (s.bump 0x0A000601 (rows * subPasses 0)) c ctx h.gen) c ctx h = bank at kept holds counted streams ⊢
  generalize readRows bank.1 _ _ = read at counted streams ⊢
  have before : ArrayKept c s read.1 := ((Counted.bump s 0x0A000601 (rows * subPasses 0)).kept c).trans (kept.trans (counted.kept c))
  have cells := gather_entries (streams.imp fun r p hp => normalRows_half (holds.of_mem (t := s) rfl) ht ht' hp (read.1.cluster c))
  rw [productAt_congr before.acc] at cells
  exact cells ▸ before.trans (endPass_wrote ..)

section
variable {c : Nat} {s u : State} {T R : Nat → Nat} {f : Nat → Nat → Word32} {rs : List Nat} (w : ArrayWrote c s u (rowsCells T R f rs))
  (hR : ∀ r ∈ rs, R r < 32)
include w hR

theorem ArrayWrote.accGet_rows {r col : Nat} (hi : ∀ r' ∈ rs, T r' = T r → R r' = R r → r' = r) (hr : r ∈ rs) (hc : col < 32) :
    (u.cluster c).accGet (T r) (R r) col = f r col := by
  unfold Cluster.accGet
  rw [w.acc, get_putAll_rows hR _ hi hr hc]

theorem ArrayWrote.accGet_other {n i j : Nat} (ho : ∀ r ∈ rs, n = T r → i ≠ R r) (hi : i < 32) (hj : j < 32) :
    (u.cluster c).accGet n i j = (s.cluster c).accGet n i j := by
  unfold Cluster.accGet
  rw [w.acc, get_putAll_rows_other hR _ ho hi hj]

end

/-- R199: a pass at the head of the queue of a cluster in FULL runs, when no drain and no sample holds it. -/
theorem matrixDequeue_mmul {s : State} {c ctx tile addr stride y t kind rows : Nat} {h : Option Handle} {acc pair half : Bool} {strm live : Word64}
    {rest : List MatCmd} (hq : (s.cluster c).mq = .mmul ctx tile addr stride h y t acc kind rows pair half strm live :: rest)
    (hsh : (s.cluster c).shape = 0) (hd : (s.cluster c).drains = []) (hn : (s.cluster c).sample = none) :
    matrixDequeue s c =
      mmulPass (s.setCluster c { s.cluster c with mq := rest }) c ctx tile addr stride h y t acc kind rows pair half strm live := by
  unfold matrixDequeue
  simp [hq, hsh, hd, hn]

/-- Settles O40: the pass writes its rows' products (`mmulPass_half`), each to a row of its own. -/
theorem matrixPassIsTheMatrixProduct : Obligations.MatrixPassIsTheMatrixProduct := by
  intro s c ctx tile addr stride y t rows h acc strm live rest k hq hsh hd hn hact hshd clean ht' ht hx streamed stationary
  have same : (s.setCluster c { k with mq := rest }).cluster c = { k with mq := rest } := State.cluster_setCluster ..
  have wrote := mmulPass_half (s := s.setCluster c { k with mq := rest }) (c := c) (by rw [same]; exact hsh) (by rw [same]; exact hact)
    (by rw [same]; exact hshd) clean ht hx ht' ctx tile addr stride y rows acc strm live
  rw [← matrixDequeue_mmul hq hsh hd hn] at wrote
  have rowLt : ∀ r ∈ (List.range rows).filter (fun r => live.getLsbD (r % 64)), r % 32 < 32 := fun r _ => Nat.mod_lt r (by decide)
  refine ⟨matrixDequeue s c, rfl, wrote.mem, wrote.groups, by rw [wrote.mq, same], fun r col hr hlive hc => ?product, fun n i j hi hj hout => ?others⟩
  case product =>
    refine (wrote.accGet_rows rowLt (fun r' _ _ _ => by omega) (List.mem_filter.mpr ⟨List.mem_range.mpr hr, hlive⟩) hc).trans ?_
    rw [same]
    rfl
  case others =>
    refine (wrote.accGet_other rowLt (fun r hr hn => ?_) hi hj).trans (by rw [same]; rfl)
    obtain ⟨hr, hlive⟩ := List.mem_filter.mp hr
    exact hout r (List.mem_range.mp hr) hlive hn

/-! ## A batch of one request (R203 to R206) -/

/-- A row of a batch runs on what the rows before it left. -/
def batchRow (b : Bank) (t : Nat) (x : Cluster × List TRow × Flags) (p : PRow) : Cluster × List TRow × Flags :=
  let y := normalRows x.1 0 b (b.elemRows 0 false) t 0 false p
  ({ x.1 with acc := y.1.foldl putCells x.1.acc }, x.2.1 ++ y.1, x.2.2 ||| y.2)

/-- The rows run so far have put `l` into the file of `k`, and are to put it there again when the pass ends. -/
structure RanRows (k : Cluster) (l : List (Nat × Word32)) (x : Cluster × List TRow × Flags) : Prop where
  cluster : x.1 = { k with acc := putAll k.acc l }
  entries : x.2.1.flatMap TRow.entries = l

theorem RanRows.wrote {s : State} {c : Nat} {l : List (Nat × Word32)} {x : Cluster × List TRow × Flags} (h : RanRows (s.cluster c) l x) :
    ArrayWrote c s (s.setCluster c x.1) l := by
  refine ⟨rfl, rfl, ?_, ?_, ?_, ?_⟩ <;> rw [State.cluster_setCluster, h.cluster]

theorem rowCells_congr {t i : Nat} {f g : Nat → Word32} (h : ∀ col < 32, f col = g col) : rowCells t i f = rowCells t i g :=
  List.map_congr_left (fun col hc => by rw [h col (List.mem_range.mp hc)])

theorem rowsCells_append_singleton (T R : Nat → Nat) (f : Nat → Nat → Word32) (rs : List Nat) (r : Nat) :
    rowsCells T R f (rs ++ [r]) = rowsCells T R f rs ++ rowCells (T r) (R r) (f r) := by
  simp [rowsCells]

section
variable {s : State} {h : Handle} {b : Bank} (hb : HoldsOperand s h b) (ht : h.type = 5 ∨ h.type = 6) {t : Nat} (ht' : t = 5 ∨ t = 6)
  {A T R : Nat → Nat} (inj : ∀ r r', T r = T r' → R r = R r' → r = r') {acc : Bool} (k : Cluster)
include hb ht ht' inj

/-- R206: a row that no row before it wrote makes the product it would make alone. -/
theorem RanRows.batchRow {pre : List Nat} {r : Nat} (hr : r ∉ pre) (hR : ∀ r' ∈ pre ++ [r], R r' < 32) {x : Cluster × List TRow × Flags}
    (hx : RanRows k (rowsCells T R (fun r => productAt s h k t (A r) (T r) (R r) acc) pre) x) {p : PRow} (hp : Streams s t (A r) (T r) (R r) acc p) :
    RanRows k (rowsCells T R (fun r => productAt s h k t (A r) (T r) (R r) acc) (pre ++ [r])) (batchRow b t x p) := by
  have alone : rowCells (T r) (R r) (productAt s h x.1 t (A r) (T r) (R r) acc) = rowCells (T r) (R r) (productAt s h k t (A r) (T r) (R r) acc) :=
    rowCells_congr (fun col hc => by
      have prior : x.1.accGet (T r) (R r) col = k.accGet (T r) (R r) col := by
        unfold Cluster.accGet
        rw [hx.cluster]
        exact get_putAll_rows_other (fun r' hr' => hR r' (List.mem_append_left _ hr')) _ (fun r' hr' hT hRR => hr (inj r r' hT hRR ▸ hr'))
          (hR r (by simp)) hc
      unfold productAt priorOf
      rw [prior])
  have cells := (normalRows_half hb ht ht' hp x.1).trans alone
  rw [rowsCells_append_singleton]
  refine ⟨?_, ?_⟩
  · unfold Machine.batchRow
    dsimp only
    rw [foldl_putCells, cells, hx.cluster, putAll_append]
  · unfold Machine.batchRow
    dsimp only
    rw [List.flatMap_append, hx.entries, cells]

theorem RanRows.batchRows {rs : List Nat} {xs : List PRow} (hs : List.Forall₂ (fun r => Streams s t (A r) (T r) (R r) acc) rs xs) {pre : List Nat}
    (hn : (pre ++ rs).Nodup) (hR : ∀ r ∈ pre ++ rs, R r < 32) {x : Cluster × List TRow × Flags}
    (hx : RanRows k (rowsCells T R (fun r => productAt s h k t (A r) (T r) (R r) acc) pre) x) :
    RanRows k (rowsCells T R (fun r => productAt s h k t (A r) (T r) (R r) acc) (pre ++ rs)) (xs.foldl (Machine.batchRow b t) x) := by
  induction hs generalizing pre x with
  | nil => rw [List.append_nil]; exact hx
  | @cons r p rs xs hp _ ih =>
    have next : pre ++ r :: rs = pre ++ [r] ++ rs := by simp
    rw [next] at hn hR ⊢
    have fresh : r ∉ pre := fun hr => (List.nodup_append.mp (List.nodup_append.mp hn).1).2.2 r hr r (by simp) rfl
    exact ih hn hR (hx.batchRow hb ht ht' inj k fresh (fun r' hr' => hR r' (List.mem_append_left _ hr')) hp)

end

/-- Rows read for one request are rows read. -/
theorem foldl_requestRows (q : FillReq) (g : State → Nat → State × PRow) (rs : List Nat) (s : State) :
    rs.foldl (fun (x : State × List (FillReq × PRow)) r => ((g x.1 r).1, x.2 ++ [(q, (g x.1 r).2)])) (s, []) =
      ((readRows s rs g).1, (readRows s rs g).2.map (fun p => (q, p))) := by
  unfold readRows
  induction rs using List.reverseRecOn with
  | nil => rfl
  | append_singleton rs r ih => rw [List.foldl_append, List.foldl_append, ih]; simp

/-- R195: row `r` of a request is streamed from the array's rows of 64 bytes. -/
def requestRow (q : FillReq) (u : State) (r : Nat) : State × PRow :=
  streamedRow u 0 q.type (rowAddr q.addr 64 r) q.strm 0 1 (fun codes exps p =>
    { tile := q.tile, row := q.first + r, acc := q.acc, tag := q.tag, codes := codes, exps := exps, poison := p })

/-- The rows of the threads of a request that are present. -/
def requestRows (q : FillReq) : List Nat := (List.range q.rows).filter (fun r => q.live.getLsbD (q.first + r))

theorem requestRows_lt {q : FillReq} (h : q.first + q.rows ≤ 32) : ∀ r ∈ requestRows q, q.first + r < 32 := fun r hr => by
  have := List.mem_range.mp (List.mem_filter.mp hr).1
  omega

/-- R206: a batch of one request reads its rows, runs them in order, and ends as a pass does. -/
theorem runBatch_one {s : State} {c : Nat} {b : Batch} {q : FillReq} (hq : b.reqs = [q]) (hsh : (s.cluster c).shape = 0) (ht' : q.type = 5 ∨ q.type = 6) :
    let bank := passBank (noteUse s c b.ctx b.h.gen) c b.ctx b.h
    let read := readRows bank.1 (requestRows q) (requestRow q)
    let ran := read.2.foldl (batchRow bank.2 q.type) (read.1.cluster c, [], 0)
    ∃ sampled, runBatch s c b =
      ((endPass (read.1.setCluster c ran.1) c b.ctx ran.2.1 ran.2.2 sampled).bump 0x0A000608 b.rows).bump 0x0A000601 b.rows := by
  have reads : ∀ u : State, (requestRows q).foldl (fun (x : State × List (FillReq × PRow)) r =>
      ((requestRow q x.1 r).1, x.2 ++ [(q, (requestRow q x.1 r).2)])) (u, []) = _ := foldl_requestRows q (requestRow q) (requestRows q)
  unfold requestRow requestRows at reads
  unfold runBatch
  simp only [hq, hsh, List.flatMap_cons, List.flatMap_nil, List.append_nil, List.foldl_map, streamRow_half ht', reads]
  exact ⟨_, rfl⟩

/-- R203, R206: a batch of one request writes the products of its present threads' rows, row by row and again as the pass ends. -/
theorem runBatch_half {s : State} {c : Nat} {b : Batch} {q : FillReq} (hq : b.reqs = [q]) (hrow : q.first + q.rows ≤ 32)
    (hsh : (s.cluster c).shape = 0) (hact : Sparse.find? (s.cluster c).active 0 = none) (hshd : Sparse.find? (s.cluster c).shadow 0 = none)
    (clean : s.mem.errs = []) (ht' : q.type = 5 ∨ q.type = 6) (ht : b.h.type = 5 ∨ b.h.type = 6) (hx : b.h.cplx = false) :
    let l := rowsCells (fun _ => q.tile) (fun r => q.first + r)
      (fun r => productAt s b.h (s.cluster c) q.type (rowAddr q.addr 64 r) q.tile (q.first + r) q.acc) (requestRows q)
    ∃ v, ArrayWrote c s v l ∧ ArrayWrote c v (runBatch s c b) l := by
  obtain ⟨kept, holds⟩ := passBank_noteUse hsh hact hshd clean ht hx b.ctx
  obtain ⟨counted, streams⟩ := readRows_clean (f := requestRow q) (Q := fun r => Streams s q.type (rowAddr q.addr 64 r) q.tile (q.first + r) q.acc)
    (fun u r hu => streamedRow_half clean hu ht' ..) (requestRows q) kept.mem
  obtain ⟨sampled, run⟩ := runBatch_one (s := s) (c := c) hq hsh ht'
  generalize passBank (noteUse s c b.ctx b.h.gen) c b.ctx b.h = bank at kept holds counted streams run
  generalize readRows bank.1 (requestRows q) (requestRow q) = read at counted streams run
  have before : ArrayKept c s read.1 := kept.trans (counted.kept c)
  have ran := RanRows.batchRows holds ht ht' (T := fun _ => q.tile) (R := fun r => q.first + r) (fun _ _ _ h => Nat.add_left_cancel h) (read.1.cluster c)
    streams (pre := []) (List.nodup_range.filter _) (requestRows_lt hrow) (x := (read.1.cluster c, [], 0)) ⟨rfl, rfl⟩
  rw [List.nil_append, productAt_congr before.acc] at ran
  intro l
  generalize read.2.foldl (batchRow bank.2 q.type) (read.1.cluster c, [], 0) = y at run ran
  have ended := endPass_wrote (read.1.setCluster c y.1) c b.ctx y.2.1 y.2.2 sampled
  rw [ran.entries] at ended
  exact ⟨read.1.setCluster c y.1, before.trans ran.wrote, run ▸ (ended.bump ..).bump ..⟩

/-- R205: batch `n` leaves the list as its timeout closes it. -/
def batchClosed (s : State) (c n : Nat) : State := (s.setCluster c { s.cluster c with batches := (s.cluster c).batches.eraseIdx n }).bump 0x0A000606 1

theorem batchClosed_cluster (s : State) (c n : Nat) : (batchClosed s c n).cluster c = { s.cluster c with batches := (s.cluster c).batches.eraseIdx n } :=
  State.cluster_setCluster ..

theorem fillTimeout_eq {s : State} {c n : Nat} {b : Batch} (hb : (s.cluster c).batches[n]? = some b) :
    fillTimeout s c n = runBatch (batchClosed s c n) c b := by
  unfold fillTimeout closeBatch
  simp only [hb]
  rfl

/-- R203: what a batch of one request leaves when its timeout expires. -/
theorem fillTimeout_products {s : State} {c n : Nat} {b : Batch} {q : FillReq} (hb : (s.cluster c).batches[n]? = some b) (hq : b.reqs = [q])
    (hrow : q.first + q.rows ≤ 32) (hsh : (s.cluster c).shape = 0) (hact : Sparse.find? (s.cluster c).active 0 = none)
    (hshd : Sparse.find? (s.cluster c).shadow 0 = none) (clean : s.mem.errs = []) (ht' : q.type = 5 ∨ q.type = 6) (ht : b.h.type = 5 ∨ b.h.type = 6)
    (hx : b.h.cplx = false) :
    let u := fillTimeout s c n
    u.mem = s.mem ∧ u.groups = s.groups ∧ (u.cluster c).batches = (s.cluster c).batches.eraseIdx n ∧ (u.cluster c).mq = (s.cluster c).mq ∧
      (∀ r ∈ requestRows q, ∀ col < 32, (u.cluster c).accGet q.tile (q.first + r) col =
        productAt s b.h (s.cluster c) q.type (rowAddr q.addr 64 r) q.tile (q.first + r) q.acc col) ∧
      (∀ t i j, i < 32 → j < 32 → (∀ r ∈ requestRows q, t = q.tile → i ≠ q.first + r) →
        (u.cluster c).accGet t i j = (s.cluster c).accGet t i j) := by
  have closed := batchClosed_cluster s c n
  obtain ⟨v, first, again⟩ := runBatch_half (s := batchClosed s c n) hq hrow (by rw [closed]; exact hsh) (by rw [closed]; exact hact)
    (by rw [closed]; exact hshd) clean ht' ht hx
  rw [← fillTimeout_eq hb] at again
  have both := first.trans again
  rw [productAt_congr (k' := s.cluster c) (by rw [closed])] at first again
  refine ⟨both.mem, both.groups, by rw [both.batches, closed], by rw [both.mq, closed], fun r hr col hc => ?_, fun t i j hi hj ho => ?_⟩
  · exact again.accGet_rows (requestRows_lt hrow) (fun _ _ _ h => Nat.add_left_cancel h) hr hc
  · refine (again.accGet_other (requestRows_lt hrow) ho hi hj).trans ((first.accGet_other (requestRows_lt hrow) ho hi hj).trans ?_)
    rw [closed]
    rfl

end Sys2Proof.Machine
end

section
/-! SUPPORT. A plain FP32 drain of one tile: the rows it writes, the bytes it leaves, and the tile it clears (R213 to R216). -/

namespace Sys2Proof.Machine

open Sys2Proof

/-! ## Stores in clean memory -/

theorem StoredFrom.clusterAt {s t : State} (h : StoredFrom s t) (c : Nat) : t.cluster c = s.cluster c := by rw [h.rest]; rfl
theorem StoredFrom.groups {s t : State} (h : StoredFrom s t) : t.groups = s.groups := by rw [h.rest]

/-- R305: bytes stored with their granules poisoned or not. -/
theorem storeMarked_clean {s : State} (h : s.mem.errs = []) (a : Nat) (bs : List Byte) (p : Bool) :
    StoredFrom s (storeMarked s a bs p) ∧ (storeMarked s a bs p).mem.bytes = Memory.store s.mem.bytes a bs := by
  obtain ⟨stored, bytes, -⟩ := storeMem_clean h a bs
  unfold storeMarked
  cases p with
  | false => exact ⟨stored, bytes⟩
  | true =>
    exact List.foldlRecOn (motive := fun t => StoredFrom s t ∧ t.mem.bytes = Memory.store s.mem.bytes a bs) _ _ ⟨stored, bytes⟩
      (fun t ht g _ => ⟨ht.1.trans ⟨rfl, ht.1.errs⟩, ht.2⟩)

/-- Stores with marks, one after another. -/
theorem foldl_storeMarked {α : Type} (addr : α → Nat) (bytes : α → List Byte) (p : α → Bool) (ws : List α) {s : State} (h : s.mem.errs = []) :
    let t := ws.foldl (fun u w => storeMarked u (addr w) (bytes w) (p w)) s
    StoredFrom s t ∧ t.mem.bytes = storeEach s.mem.bytes (ws.map (fun w => (addr w, bytes w))) := by
  induction ws generalizing s with
  | nil => exact ⟨.refl h, rfl⟩
  | cons w ws ih =>
    obtain ⟨stored, bytes⟩ := storeMarked_clean h (addr w) (bytes w) (p w)
    obtain ⟨rest, all⟩ := ih stored.errs
    exact ⟨stored.trans rest, all.trans (by rw [bytes]; rfl)⟩

/-! ## Rows of a tile -/

/-- Byte `b` of block `j` of a row of blocks of `n` bytes. -/
theorem flatMap_blocks_getD {α : Type} {f : α → List Byte} {n : Nat} (hf : ∀ x, (f x).length = n) (l : List α) {j b : Nat} (hj : j < l.length) (hb : b < n) :
    (l.flatMap f).getD (n * j + b) 0 = (f l[j]).getD b 0 := by
  induction l generalizing j with
  | nil => cases hj
  | cons x l ih =>
    rw [List.flatMap_cons]
    cases j with
    | zero => rw [Nat.mul_zero, Nat.zero_add]; exact List.getD_append _ _ _ _ (by rw [hf]; exact hb)
    | succ j =>
      rw [List.getD_append_right _ _ _ _ (by rw [hf, Nat.mul_succ]; omega), hf, show n * (j + 1) + b - n = n * j + b by rw [Nat.mul_succ]; omega]
      exact ih (Nat.lt_of_succ_lt_succ hj)

/-- The bytes of row `i` of a tile of FP32 elements. -/
def tileRowBytes (k : Cluster) (tile i : Nat) : List Byte := (List.range 32).flatMap (fun j => leBytes 4 (k.accGet tile i j).toNat)

theorem tileRowBytes_length (k : Cluster) (tile i : Nat) : (tileRowBytes k tile i).length = 128 := by simp [tileRowBytes]

theorem tileRowBytes_getD (k : Cluster) (tile i : Nat) {j b : Nat} (hj : j < 32) (hb : b < 4) :
    (tileRowBytes k tile i).getD (4 * j + b) 0 = (leBytes 4 (k.accGet tile i j).toNat).getD b 0 := by
  have h := flatMap_blocks_getD (f := fun j => leBytes 4 (k.accGet tile i j).toNat) (fun _ => leBytes_length ..) (List.range 32)
    (j := j) (by simpa using hj) hb
  rw [List.getElem_range] at h
  exact h

/-- A row-major list of 1024 elements cut into rows. -/
theorem rows32_range (g : Nat → Nat) :
    rows32 ((List.range 1024).map g) = (List.range 32).map (fun r => (List.range 32).map (fun j => g (32 * r + j))) := by
  refine List.map_congr_left (fun r hr => ?_)
  have hlt : r < 32 := List.mem_range.mp hr
  apply List.ext_getElem
  · simp; omega
  · simp

/-- The elements of a tile, cut into rows and packed. -/
theorem packRow_rows32 (k : Cluster) (tile : Nat) :
    (rows32 ((List.range 1024).map (fun i => (k.accGet tile (i / 32) (i % 32)).toNat))).map (packRow 32) = (List.range 32).map (tileRowBytes k tile) := by
  rw [rows32_range, List.map_map]
  refine List.map_congr_left (fun r _ => ?_)
  simp only [Function.comp, packRow, tileRowBytes, List.flatMap_map]
  rw [if_neg (by decide)]
  refine List.flatMap_congr (fun j hj => ?_)
  have hlt : j < 32 := List.mem_range.mp hj
  rw [show (32 * r + j) / 32 = r by omega, show (32 * r + j) % 32 = j by omega]

/-- R214: what a drain writes of a valid FP32 tile. -/
theorem drainRows_fp32 {s : State} {c tile : Nat} (hi : ((s.cluster c).tile tile).int = false) (hv : ((s.cluster c).tile tile).invalid = false)
    (ctx : Nat) (w : Word64) (ep : Nat) :
    ∃ fl, drainRows s c ctx tile 4 0 w ep = (s, (List.range 32).map (tileRowBytes (s.cluster c) tile), fl, none) := by
  have values : tileValues (s.cluster c) tile = (List.range 1024).map (fun i => ⟨(s.cluster c).accGet tile (i / 32) (i % 32), 0⟩) := by
    unfold tileValues
    simp [hi, hv]
  unfold drainRows
  simp only [values, hi, tyOf, List.map_map, Bool.false_eq_true, false_and, and_false, if_false, if_true, OfNat.zero_ne_ofNat]
  exact ⟨_, by rw [← packRow_rows32]; rfl⟩

/-! ## The bytes a drain leaves -/

/-- The rows of a tile stored at their strides hold the tile's elements, and every byte between them stands. -/
theorem read_tileRows (k : Cluster) (tile : Nat) (m : Sparse Byte) {addr stride : Nat} (hs : 128 ≤ stride) :
    let m' := storeEach m ((List.range 32).map (fun i => (addr + i * stride, tileRowBytes k tile i)))
    (∀ i j, i < 32 → j < 32 → Memory.load m' (addr + i * stride + 4 * j) 4 = leBytes 4 (k.accGet tile i j).toNat) ∧
      (∀ a, (∀ i, i < 32 → a < addr + i * stride ∨ addr + i * stride + 128 ≤ a) → Memory.read m' a = Memory.read m a) := by
  have length : ∀ w ∈ (List.range 32).map (fun i => (addr + i * stride, tileRowBytes k tile i)), w.2.length = 128 := by
    intro w hw
    obtain ⟨i, -, rfl⟩ := List.mem_map.mp hw
    exact tileRowBytes_length ..
  have apart : ∀ {i i' : Nat}, i < i' → addr + i * stride + 128 ≤ addr + i' * stride := fun {i i'} h => by
    have := Nat.mul_le_mul_right stride (Nat.succ_le_of_lt h)
    rw [Nat.succ_mul] at this
    omega
  refine ⟨fun i j hi hj => ?inside, fun a ha => ?outside⟩
  case inside =>
    obtain ⟨w, hw, haddr, bytes⟩ := read_storeEach_inside _ m length (a := addr + i * stride)
      (fun w hw => by
        obtain ⟨i', -, rfl⟩ := List.mem_map.mp hw
        rcases Nat.lt_trichotomy i' i with h | rfl | h
        · exact .inr (.inl (apart h))
        · exact .inl rfl
        · exact .inr (.inr (apart h)))
      ⟨_, List.mem_map.mpr ⟨i, List.mem_range.mpr hi, rfl⟩, rfl⟩
    obtain ⟨i', -, rfl⟩ := List.mem_map.mp hw
    have same : i' = i := by
      rcases Nat.lt_trichotomy i' i with h | h | h
      · have := apart h; dsimp only at haddr; omega
      · exact h
      · have := apart h; dsimp only at haddr; omega
    subst same
    apply List.ext_getElem
    · simp [Memory.load]
    · intro b h1 h2
      have hb : b < 4 := by simpa using h2
      have byte := bytes (4 * j + b) (by omega)
      rw [tileRowBytes_getD k tile i' hj hb, ← Nat.add_assoc] at byte
      rw [List.getD_eq_getElem _ _ h2] at byte
      simpa [Memory.load] using byte
  case outside =>
    refine read_storeEach_outside _ m (fun w hw => ?_)
    rw [length w hw]
    obtain ⟨i, hi, rfl⟩ := List.mem_map.mp hw
    exact ha i (List.mem_range.mp hi)

/-- R216: a cleared tile reads 0, and no other tile changes. -/
theorem accGet_clearTile (k : Cluster) (tile t : Nat) {i j : Nat} (hi : i < 32) (hj : j < 32) :
    (clearTile k tile).accGet t i j = if t = tile then 0 else k.accGet t i j := by
  unfold Cluster.accGet clearTile Sparse.get Sparse.clear accKey
  by_cases h : t = tile
  · rw [if_pos h, Sparse.find?_filter_drop _ (fun _ => by simp; omega)]
    rfl
  · rw [if_neg h, Sparse.find?_filter_keep _ (fun _ => by simp; omega)]

/-! ## The drain (R215) -/

/-- The cluster as a drain leaves it, from the one its stores left. -/
def drained (k : Cluster) (tile : Nat) (clear : Bool) (fl : Flags) : Cluster :=
  if clear then clearTile { k with matFlags := k.matFlags ||| fl } tile else { k with matFlags := k.matFlags ||| fl }

theorem drained_drains (k : Cluster) (tile : Nat) (clear : Bool) (fl : Flags) : (drained k tile clear fl).drains = k.drains := by cases clear <;> rfl
theorem drained_done (k : Cluster) (tile : Nat) (clear : Bool) (fl : Flags) : (drained k tile clear fl).done = k.done := by cases clear <;> rfl

theorem drained_accGet (k : Cluster) (tile : Nat) (clear : Bool) (fl : Flags) (t : Nat) {i j : Nat} (hi : i < 32) (hj : j < 32) :
    (drained k tile clear fl).accGet t i j = if clear = true ∧ t = tile then 0 else k.accGet t i j := by
  cases clear with
  | false => simp [drained, Cluster.accGet]
  | true => exact (accGet_clearTile { k with matFlags := k.matFlags ||| fl } tile t hi hj).trans (by simp [Cluster.accGet])

/-- Drain `n` leaves the waiting drains as it starts. -/
def drainTaken (s : State) (c n : Nat) : State := s.setCluster c { s.cluster c with drains := (s.cluster c).drains.eraseIdx n }

theorem drainTaken_cluster (s : State) (c n : Nat) : (drainTaken s c n).cluster c = { s.cluster c with drains := (s.cluster c).drains.eraseIdx n } :=
  State.cluster_setCluster ..

/-- R213, R215: a plain FP32 drain that nothing holds stores its tile's rows, clears the tile if it says so, and has then still to signal. -/
theorem drainStart_fp32 {s : State} {c n ctx rel tile addr stride ep : Nat} {clear : Bool} {w : Word64} {obj : Option Nat} {site : BitVec 32}
    (hd : (s.cluster c).drains[n]? = some (.mdrain ctx rel tile addr stride 4 0 clear false w ep obj site))
    (hearly : ∀ d ∈ (s.cluster c).drains.take n, tile ∉ drainTiles d) (clean : s.mem.errs = []) (hi : ((s.cluster c).tile tile).int = false)
    (hv : ((s.cluster c).tile tile).invalid = false) (hs : 128 ≤ stride)
    (hfit : addr + 32 * stride ≤ 2 ^ 64) (havail : ∀ r, r < 32 → unavailable s (addr + r * stride) 128 = false) :
    ∃ t fl, StoredFrom (drainTaken s c n) t ∧
      t.mem.bytes = storeEach s.mem.bytes ((List.range 32).map (fun i => (addr + i * stride, tileRowBytes (s.cluster c) tile i))) ∧
      ∃ mark, drainStart s c n = addDone (t.setCluster c (drained (t.cluster c) tile clear fl)) c
        { engine := .matrix, ctx := ctx, obj := obj, site := site, mark := mark } := by
  have early : ((s.cluster c).drains.take n).any (fun d => (drainTiles d).any [tile].contains) = false := by
    simp only [List.any_eq_false]
    intro d hdm
    simpa using hearly d hdm
  have address : ∀ r, r < 32 → rowAddr addr stride r = addr + r * stride := fun r hr => by
    have := Nat.mul_le_mul_right stride (Nat.le_of_lt_succ hr)
    exact Nat.mod_eq_of_lt (by omega)
  have avail : (List.range 32).any (fun r => unavailable s (rowAddr addr stride r) (4 * tyBits 4)) = false := by
    simp only [List.any_eq_false, List.mem_range]
    intro r hr
    rw [address r hr, show 4 * tyBits 4 = 128 from rfl, havail r hr]
    decide
  have writes : (((List.range 32).map (tileRowBytes (s.cluster c) tile)).zipIdx).map (fun e => (rowAddr addr stride e.2, e.1)) =
      (List.range 32).map (fun i => (addr + i * stride, tileRowBytes (s.cluster c) tile i)) := by
    apply List.ext_getElem
    · simp
    · intro i h1 h2
      simpa using address i (by simpa using h2)
  obtain ⟨fl, rows⟩ := drainRows_fp32 (s := drainTaken s c n) (c := c) (tile := tile) (by rw [drainTaken_cluster]; exact hi)
    (by rw [drainTaken_cluster]; exact hv) ctx w ep
  rw [drainTaken_cluster] at rows
  obtain ⟨stored, bytes⟩ := foldl_storeMarked (s := drainTaken s c n) (fun e : List Byte × Nat => rowAddr addr stride e.2) (fun e => e.1)
    (fun e => [tile].any (fun t => ((s.cluster c).tile t).poison.getLsbD e.2) || false)
    ((List.range 32).map (tileRowBytes (s.cluster c) tile)).zipIdx clean
  rw [writes] at bytes
  refine ⟨_, fl, stored, bytes, ?_⟩
  unfold drainTaken at rows
  unfold drainStart
  simp only [hd, OfNat.zero_ne_ofNat, if_false, early, avail, rows, Bool.false_or, Bool.false_eq_true, Bool.and_false]
  exact ⟨_, rfl⟩

/-- R213, R215: what a plain FP32 drain leaves. -/
theorem drainStart_leaves {s t : State} {c n tile addr stride : Nat} {clear : Bool} {fl : Flags} {d : Done} (hs : 128 ≤ stride)
    (stored : StoredFrom (drainTaken s c n) t)
    (bytes : t.mem.bytes = storeEach s.mem.bytes ((List.range 32).map (fun i => (addr + i * stride, tileRowBytes (s.cluster c) tile i)))) :
    let u := addDone (t.setCluster c (drained (t.cluster c) tile clear fl)) c d
    (∀ i j, i < 32 → j < 32 → loadMem u (addr + i * stride + 4 * j) 4 = leBytes 4 ((s.cluster c).accGet tile i j).toNat) ∧
      (∀ a, (∀ i, i < 32 → a < addr + i * stride ∨ addr + i * stride + 128 ≤ a) → Memory.read u.mem.bytes a = Memory.read s.mem.bytes a) ∧
      (u.cluster c).drains = (s.cluster c).drains.eraseIdx n ∧ (u.cluster c).done = (s.cluster c).done ++ [d] ∧
      (∀ t i j, i < 32 → j < 32 → (u.cluster c).accGet t i j = if clear = true ∧ t = tile then 0 else (s.cluster c).accGet t i j) ∧
      u.groups = s.groups := by
  intro u
  obtain ⟨inside, outside⟩ := read_tileRows (s.cluster c) tile s.mem.bytes (addr := addr) hs
  rw [← bytes] at inside outside
  have cluster : u.cluster c = { drained (t.cluster c) tile clear fl with done := (drained (t.cluster c) tile clear fl).done ++ [d] } := by
    show (addDone _ c d).cluster c = _
    unfold addDone
    rw [State.cluster_setCluster, State.cluster_setCluster]
  have before : t.cluster c = { s.cluster c with drains := (s.cluster c).drains.eraseIdx n } := (stored.clusterAt c).trans (drainTaken_cluster ..)
  refine ⟨inside, outside, ?_, ?_, fun t' i j hi hj => ?_, stored.groups⟩
  · rw [cluster]; exact (drained_drains ..).trans (congrArg Cluster.drains before)
  · rw [cluster]; exact congrArg (· ++ [d]) ((drained_done ..).trans (by rw [before]))
  · rw [cluster]; exact (drained_accGet (t.cluster c) tile clear fl t' hi hj).trans (by rw [before]; rfl)

end Sys2Proof.Machine
end

section
/-! SUPPORT. The shadow recomputation: a sample is used up, and counts as a comparison in its tag's record when every pair is finite (R275, R276). -/

namespace Sys2Proof.Machine

open Sys2Proof

/-- The elements a recomputation compares: the result as the array gave it, and the pair summed again. -/
def shadowCells (x : ShadowSample) : List (Word32 × Pair) :=
  x.rows.flatMap (fun r => (r.2.1.zip (r.2.2.zip x.cols)).map (fun e => (e.2.1, (sumPair ⟨e.1, 0⟩ (r.1.zip e.2.2)).1)))

/-- The pairs alone. -/
theorem shadowCells_pairs (x : ShadowSample) : (shadowCells x).map Prod.snd =
    x.rows.flatMap (fun r => (r.2.1.zip (r.2.2.zip x.cols)).map (fun e => (sumPair ⟨e.1, 0⟩ (r.1.zip e.2.2)).1)) := by
  simp [shadowCells, List.map_flatMap, Function.comp_def]

/-- A pair that is not finite is found in the cells exactly when not all pairs are finite. -/
theorem shadowCells_any (x : ShadowSample) : (shadowCells x).any (fun e => !(f32 e.2.hi).isFin || !(f32 e.2.lo).isFin) =
    !((shadowCells x).map Prod.snd).all (fun p => (f32 p.hi).isFin && (f32 p.lo).isFin) := by
  simp [List.all_map, List.not_all_eq_any_not, Function.comp_def]

/-- The tag's record at `a` after one comparison more (R275, R276). -/
def countedRecord (s : State) (a : Nat) (wide inf : Bool) (num den : Nat × Int) : List Byte :=
  let r := loadMem s a 32
  let dm := signed 8 (field r 23 1)
  let fl := field r 22 1
  r.take 22 ++ [BitVec.ofNat 8 (if wide && fl / 4 % 2 == 0 then fl + 4 else fl),
    if inf then Config.freeByte s.free else if num.1 = 0 then sbyte dm else sbyte (max dm (ceilLog2 num.1 num.2 den.1 den.2))] ++
    leBytes 4 (field r 24 4 + 1) ++ leBytes 4 (field r 28 4 + b2n wide 1)

theorem countedRecord_parts (s : State) (a : Nat) (wide inf : Bool) (num den : Nat × Int) : ∃ front back, front.length = 24 ∧ back.length = 4 ∧
    countedRecord s a wide inf num den = front ++ leBytes 4 (field (loadMem s a 32) 24 4 + 1) ++ back :=
  ⟨_, _, by simp [loadMem_length], leBytes_length .., rfl⟩

/-- The record is written, and the alert posted when the record asks for one (R276). -/
def countSample (s : State) (c : Nat) (x : ShadowSample) (cx : Ctx) (a : Nat) (wide inf : Bool) (num den : Nat × Int) : State :=
  let r := loadMem s a 32
  let dfp := if inf then 0x7F800000 else (quotFp num.1 num.2 den.1 den.2).toNat
  let t := if inf then s.tick else s
  let u := t.setMem (Memory.store t.mem.bytes a (countedRecord s a wide inf num den))
  if wide && field r 22 1 / 4 % 2 == 0 then
    postEvent u (ownerFn cx) 0x0881 x.tag
      (rec8 [x.ctx, (clusterSite c).toNat, x.tag, x.epoch, dfp, field r 24 4 + 1, field r 28 4 + b2n wide 1])
  else u

theorem countSample_leaves (s : State) (c : Nat) (x : ShadowSample) (cx : Ctx) (a : Nat) (wide inf : Bool) (num den : Nat × Int) :
    let u := countSample s c x cx a wide inf num den
    u.clusters = s.clusters ∧ u.groups = s.groups ∧ ∃ front back, front.length = 24 ∧ back.length = 4 ∧
      u.mem.bytes = Memory.store s.mem.bytes a (front ++ leBytes 4 (field (loadMem s a 32) 24 4 + 1) ++ back) := by
  have posted : ∀ (t : State) (b : Bool) (code detail : Nat) (rec : List Byte) (fn : Nat),
      let u := if b then postEvent t fn code detail rec else t
      u.clusters = t.clusters ∧ u.groups = t.groups ∧ u.mem = t.mem := fun t b code detail rec fn => by
    cases b with
    | false => exact ⟨rfl, rfl, rfl⟩
    | true =>
      have within := postEvent_within t fn code detail rec
      exact ⟨within.clustersSame (by decide), within.groupsSame (by decide), within.memSame (by decide) (by decide)⟩
  have ticked : ∀ b : Bool, (if b then s.tick else s).clusters = s.clusters ∧ (if b then s.tick else s).groups = s.groups ∧
      (if b then s.tick else s).mem = s.mem := fun b => by cases b <;> exact ⟨rfl, rfl, rfl⟩
  unfold countSample
  dsimp only
  obtain ⟨clusters, groups, mem⟩ := posted (State.setMem (if inf then s.tick else s) _) _ 0x0881 x.tag _ (ownerFn cx)
  obtain ⟨front, back, hf, hb, record⟩ := countedRecord_parts s a wide inf num den
  refine ⟨clusters.trans (ticked inf).1, groups.trans (ticked inf).2.1, front, back, hf, hb, ?_⟩
  rw [mem, State.setMem_bytes, (ticked inf).2.2, record]

/-- What a record of 32 bytes holds at offset 24 once it is stored, and that no other byte changes. -/
theorem storedRecord_reads {m m' : Sparse Byte} {a v : Nat} {front back : List Byte} (hf : front.length = 24) (hb : back.length = 4)
    (h : m' = Memory.store m a (front ++ leBytes 4 v ++ back)) :
    field (Memory.load m' a 32) 24 4 = v % 2 ^ 32 ∧ ∀ x, x < a ∨ a + 32 ≤ x → Memory.read m' x = Memory.read m x := by
  have length : (front ++ leBytes 4 v ++ back).length = 32 := by simp [hf, hb]
  have loaded := Memory.load_store m a (front ++ leBytes 4 v ++ back)
  rw [length, ← h] at loaded
  refine ⟨?_, fun x hx => h ▸ Memory.read_store_outside _ _ _ _ (length.symm ▸ hx)⟩
  rw [loaded, List.append_assoc, field_append (by omega), hf]
  exact field_leBytes 4 v back

/-- The sample is taken from its buffer. -/
def sampleTaken (s : State) (c : Nat) : State := s.setCluster c { s.cluster c with sample := none }

/-- An array with no command and no batch is not busy. -/
theorem array_idle {k : Cluster} (hm : k.mq = []) (hb : k.batches = []) : (!k.mq.isEmpty || !k.batches.isEmpty) = false := by rw [hm, hb]; rfl

section
variable {s : State} {c : Nat} {x : ShadowSample} (hs : (s.cluster c).sample = some x) (hm : (s.cluster c).mq = []) (hb : (s.cluster c).batches = [])
include hs hm hb

/-- R276: a sample with a pair that is not finite is counted as dropped. -/
theorem shadowRecompute_drops (h : (shadowCells x).any (fun e => !(f32 e.2.hi).isFin || !(f32 e.2.lo).isFin) = true) :
    shadowRecompute s c = (sampleTaken s c).bump 0x08000008 1 := by
  unfold shadowCells at h
  unfold shadowRecompute
  simp only [hs, array_idle hm hb, h, Bool.false_eq_true, if_false, if_true]
  rfl

section
variable (h : (shadowCells x).any (fun e => !(f32 e.2.hi).isFin || !(f32 e.2.lo).isFin) = false)
include h

/-- R275: with no context, or no census at this cluster, a comparison counts at most. -/
theorem shadowRecompute_uncounted (hc : ∀ cx base, s.ctx? x.ctx = some cx → Sparse.find? cx.census c ≠ some base) :
    Counted (sampleTaken s c) (shadowRecompute s c) := by
  unfold shadowCells at h
  unfold shadowRecompute
  simp only [hs, array_idle hm hb, h, Bool.false_eq_true, if_false, State.setCluster_ctxAt]
  cases hx : s.ctx? x.ctx with
  | none => exact .refl _
  | some cx =>
    cases hcs : Sparse.find? cx.census c with
    | some base => exact absurd hcs (hc cx base hx)
    | none =>
      simp only [hcs]
      split
      · exact .trans (.bump ..) (.bump ..)
      · exact .bump ..

/-- R275: in a context with a census a comparison counts in its tag's record, of which it writes bytes 22 to 31. -/
theorem shadowRecompute_counts {cx : Ctx} {base : Nat} (hx : s.ctx? x.ctx = some cx) (hc : Sparse.find? cx.census c = some base) :
    let u := shadowRecompute s c
    u.clusters = (sampleTaken s c).clusters ∧ u.groups = s.groups ∧ ∃ front back, front.length = 24 ∧ back.length = 4 ∧
      u.mem.bytes = Memory.store s.mem.bytes (base + 32 * x.tag)
        (front ++ leBytes 4 (field (loadMem s (base + 32 * x.tag) 32) 24 4 + 1) ++ back) := by
  obtain ⟨wide, inf, num, den, same⟩ : ∃ wide inf num den, shadowRecompute s c = countSample
      (if wide then ((sampleTaken s c).bump 0x08000007 1).bump 0x08000009 1 else (sampleTaken s c).bump 0x08000007 1) c x cx
      (base + 32 * x.tag) wide inf num den := by
    unfold shadowCells at h
    unfold shadowRecompute
    simp only [hs, array_idle hm hb, h, Bool.false_eq_true, if_false, State.setCluster_ctxAt, hx, hc]
    exact ⟨_, _, _, _, rfl⟩
  have counted : Counted (sampleTaken s c)
      (if wide then ((sampleTaken s c).bump 0x08000007 1).bump 0x08000009 1 else (sampleTaken s c).bump 0x08000007 1) := by
    cases wide with
    | false => exact .bump ..
    | true => exact .trans (.bump ..) (.bump ..)
  obtain ⟨clusters, groups, front, back, hfront, hback, record⟩ := countSample_leaves _ c x cx (base + 32 * x.tag) wide inf num den
  rw [← same, counted.load, counted.mem] at record
  rw [← same] at clusters groups
  exact ⟨clusters.trans counted.clusters, groups.trans counted.groups, front, back, hfront, hback, record⟩

end

end

end Sys2Proof.Machine
end

section
/-! SUPPORT. The stream engine's commands: a descriptor read and judged, one that failed its checks, and the inline commands COPY, ZERO and AXPY
(R236, R238, R239). -/

namespace Sys2Proof.Machine

open Sys2Proof

/-! ## Reading a descriptor (R236) -/

/-- What reading a descriptor leaves of the state that read its bytes. -/
theorem operandBad_counted {s t : State} (h : Counted s t) (c n : Nat) (cx : Ctx) (base tiles op : Nat) (d : Desc) :
    operandBad t c n cx base tiles op d = operandBad s c n cx base tiles op d := by
  obtain ⟨_, rfl⟩ := h
  rfl

theorem readRow_unmarked {s : State} {a n : Nat} (clean : s.mem.errs = []) (hp : firstPoison s a n = none) : (readRow s a n).2.2 = false := by
  obtain ⟨_, h⟩ := touch_clean clean a n
  show (firstPoison (touch s a n) a n).isSome = false
  rw [h]
  exact congrArg Option.isSome hp

theorem setHead_cluster (s : State) (c : Nat) (h : HeadDesc) : (setHead s c h).cluster c = { s.cluster c with head := some h } := State.cluster_setCluster ..

@[simp] theorem setHead_mem (s : State) (c : Nat) (h : HeadDesc) : (setHead s c h).mem = s.mem := rfl

section
variable {s : State} {c op ctx base tiles desc ep : Nat} {obj : Option Nat} {site : BitVec 32} {s0 s1 s2 s3 : Word32} {r : List SeqEntry} {cx : Ctx}
  (hq : (s.cluster c).sq = .cmd op ctx base tiles obj site desc none s0 s1 s2 s3 ep :: r) (hh : (s.cluster c).head = none) (hop : op ≠ 0)
  (hc : s.ctx? ctx = some cx) (clean : s.mem.errs = []) (hp : firstPoison s desc 128 = none)
include hq hh hop hc clean hp

/-- R236: the fields are judged before the operands, and the operands before the wait. -/
theorem streamDescriptorRead_judges :
    ∃ u, Counted s u ∧
      (∀ o, descBad op (Desc.ofBytes (loadMem s desc 128)) = some o →
        streamDescriptorRead s c = setHead u c { code := 1, offset := o, bytes := loadMem s desc 128, waiting := false }) ∧
      (∀ code o, descBad op (Desc.ofBytes (loadMem s desc 128)) = none →
        operandBad s c ctx cx base tiles op (Desc.ofBytes (loadMem s desc 128)) = some (code, o) →
        streamDescriptorRead s c = setHead u c { code := code, offset := o, bytes := loadMem s desc 128, waiting := false }) ∧
      (descBad op (Desc.ofBytes (loadMem s desc 128)) = none → operandBad s c ctx cx base tiles op (Desc.ofBytes (loadMem s desc 128)) = none →
        field (loadMem s desc 128) 72 8 = 0 →
        streamDescriptorRead s c = setHead u c { code := 0, offset := 0, bytes := loadMem s desc 128, waiting := false }) := by
  obtain ⟨counted, bytes⟩ := readRow_clean clean desc 128
  refine ⟨(readRow s desc 128).1, counted, fun o bad => ?_, fun code o good bad => ?_, fun good fine w => ?_⟩
  all_goals
    unfold streamDescriptorRead
    simp only [hq, hh, if_neg hop, hc, readRow_unmarked clean hp, bytes, Bool.false_eq_true, if_false]
  · simp only [bad]; rfl
  · simp only [good, operandBad_counted counted, bad]
  · simp only [good, operandBad_counted counted, fine, w]
    rfl

/-- Whatever the descriptor holds, reading it changes no memory. -/
theorem streamDescriptorRead_mem : (streamDescriptorRead s c).mem = s.mem := by
  obtain ⟨counted, -⟩ := readRow_clean clean desc 128
  unfold streamDescriptorRead
  simp only [hq, hh, if_neg hop, hc, readRow_unmarked clean hp, Bool.false_eq_true, if_false]
  split
  · simpa using counted.mem
  · split
    · simpa using counted.mem
    · split
      · simpa using counted.mem
      · split <;> simpa using counted.mem

end

theorem addDone_clusterAt (s : State) (c : Nat) (d : Done) : (addDone s c d).cluster c = { s.cluster c with done := (s.cluster c).done ++ [d] } :=
  State.cluster_setCluster ..

@[simp] theorem addDone_mem (s : State) (c : Nat) (d : Done) : (addDone s c d).mem = s.mem := rfl
@[simp] theorem addDone_groups (s : State) (c : Nat) (d : Done) : (addDone s c d).groups = s.groups := rfl
@[simp] theorem addSe_mem (s : State) (c : Nat) (fl : Flags) : (addSe s c fl).mem = s.mem := rfl
@[simp] theorem addSe_groups (s : State) (c : Nat) (fl : Flags) : (addSe s c fl).groups = s.groups := rfl
@[simp] theorem popStream_mem (s : State) (c : Nat) : (popStream s c).mem = s.mem := rfl
@[simp] theorem popStream_groups (s : State) (c : Nat) : (popStream s c).groups = s.groups := rfl

/-! ## A descriptor that failed (R236) -/

/-- The failed command leaves the queue with INV raised, and is counted. -/
def streamFailed (s : State) (c : Nat) : State := (addSe (popStream s c) c fINV).bump 0x0A000703 1

theorem streamFailed_groups (s : State) (c : Nat) : (streamFailed s c).groups = s.groups := by simp [streamFailed]

theorem streamFailed_cluster (s : State) (c : Nat) : (streamFailed s c).cluster c =
    { s.cluster c with sq := (s.cluster c).sq.drop 1, head := none, seFlags := (s.cluster c).seFlags ||| fINV } := by
  show (addSe (popStream s c) c fINV).cluster c = _
  unfold addSe popStream
  rw [State.cluster_setCluster, State.cluster_setCluster]

theorem streamCommandStart_failed {s : State} {c op ctx base tiles desc ep : Nat} {obj : Option Nat} {site : BitVec 32} {s0 s1 s2 s3 : Word32}
    {r : List SeqEntry} {h : HeadDesc} (hq : (s.cluster c).sq = .cmd op ctx base tiles obj site desc none s0 s1 s2 s3 ep :: r) (hop : op ≠ 0)
    (hh : (s.cluster c).head = some h) (hw : h.waiting = false) (hcode : h.code ≠ 0) :
    ∃ mark, streamCommandStart s c = addDone (storeMem (streamFailed s c) (desc + 124) (leBytes 4 (h.code + 256 * h.offset))) c
      { engine := .stream, ctx := ctx, obj := obj, site := site, mark := mark } := by
  unfold streamCommandStart
  simp only [hq, hh, if_neg hop, hw, if_neg hcode, Bool.false_eq_true, if_false]
  exact ⟨_, rfl⟩

/-! ## Inline commands (R239) -/

/-- What an inline command computes at element (row, col) of its tile `i`, from the file as it starts. -/
def inlineValue (k : Cluster) (base op : Nat) (w : Word64) (s0 : Word32) (i row col : Nat) : Word32 :=
  let a := k.accGet (base + inA w + i) row col
  if op = 3 then 0 else if op = 2 then (if (f32 a).isNan then canonNan else a) else (f32Fma .rne s0 (k.accGet (base + inB w + i) row col) a).w

/-- The entries of one row of `n` tiles from `T` on. -/
def tilesCells (T n : Nat) (f : Nat → Nat → Nat → Word32) (row : Nat) : List (Nat × Word32) :=
  (List.range (32 * n)).map (fun i => (accKey (T + i / 32) row (i % 32), f (i / 32) row (i % 32)))

theorem mem_tilesCells {T n row : Nat} {f : Nat → Nat → Nat → Word32} {e : Nat × Word32} :
    e ∈ tilesCells T n f row ↔ ∃ i < n, ∃ col < 32, (accKey (T + i) row col, f i row col) = e := by
  simp only [tilesCells, List.mem_map, List.mem_range]
  constructor
  · rintro ⟨i, hi, rfl⟩
    exact ⟨i / 32, by omega, i % 32, Nat.mod_lt _ (by decide), rfl⟩
  · rintro ⟨i, hi, col, hc, rfl⟩
    refine ⟨32 * i + col, by omega, ?_⟩
    rw [show (32 * i + col) / 32 = i by omega, show (32 * i + col) % 32 = col by omega]

/-- The first `m` rows of `n` tiles, put into the file. -/
def tilesRows (T n : Nat) (f : Nat → Nat → Nat → Word32) (m : Nat) : List (Nat × Word32) := (List.range m).flatMap (tilesCells T n f)

theorem mem_tilesRows {T n m : Nat} {f : Nat → Nat → Nat → Word32} {e : Nat × Word32} :
    e ∈ tilesRows T n f m ↔ ∃ row < m, ∃ i < n, ∃ col < 32, (accKey (T + i) row col, f i row col) = e := by
  simp only [tilesRows, List.mem_flatMap, List.mem_range, mem_tilesCells]

theorem get_putAll_tiles {T n m : Nat} (hm : m ≤ 32) (f : Nat → Nat → Nat → Word32) (x : Sparse Word32) {i row col : Nat} (hi : i < n) (hr : row < m)
    (hc : col < 32) : Sparse.get 0 (putAll x (tilesRows T n f m)) (accKey (T + i) row col) = f i row col := by
  refine get_putAll_present _ x (fun e he hk => ?_) ⟨_, mem_tilesRows.mpr ⟨row, hr, i, hi, col, hc, rfl⟩, rfl⟩
  obtain ⟨row', hr', i', _, col', hc', rfl⟩ := mem_tilesRows.mp he
  obtain ⟨ht, rfl, rfl⟩ := (accKey_inj (by omega) (by omega) hc' hc).mp hk
  rw [Nat.add_left_cancel ht]

theorem get_putAll_tiles_other {T n m : Nat} (hm : m ≤ 32) (f : Nat → Nat → Nat → Word32) (x : Sparse Word32) {t row col : Nat}
    (ho : t < T ∨ T + n ≤ t ∨ m ≤ row) (hr : row < 32) (hc : col < 32) :
    Sparse.get 0 (putAll x (tilesRows T n f m)) (accKey t row col) = Sparse.get 0 x (accKey t row col) := by
  refine get_putAll_absent _ x (fun e he hk => ?_)
  obtain ⟨row', hr', i', hi', col', hc', rfl⟩ := mem_tilesRows.mp he
  obtain ⟨ht, hrow, -⟩ := (accKey_inj (by omega) hr hc' hc).mp hk
  omega

/-- A running command has put `l` into the file of cluster `c`, and has left memory and groups alone. -/
structure RunWrote (s : State) (c : Nat) (l : List (Nat × Word32)) (x : Run) : Prop where
  mem     : x.s.mem = s.mem
  groups  : x.s.groups = s.groups
  cluster : x.s.cluster c = { s.cluster c with acc := putAll (s.cluster c).acc l }

theorem Counted.runWrote {s : State} {x : Run} (h : Counted s x.s) (c : Nat) : RunWrote s c [] x := ⟨h.mem, h.groups, h.clusterAt c⟩

/-- R235: where element `i` of row `r` of an unpaired accumulator operand stands. -/
theorem accPlace_unpaired {o : Slot} (hp : o.pair = false) (cols : Nat) {r : Nat} (hr : r < 32) (i : Nat) :
    accPlace o cols r i = (o.tile + i / 32, r, i % 32) := by
  unfold accPlace
  simp [hp, Nat.div_eq_of_lt hr, Nat.mod_eq_of_lt hr]

/-- A row of an unpaired accumulator destination, put element by element, is a row of its tiles. -/
theorem foldl_putRow {o : Slot} (hp : o.pair = false) (base cols : Nat) {n r : Nat} (hr : r < 32) (f : Nat → Nat → Nat → Word32) (m : Sparse Word32) :
    ((List.range (32 * n)).map (fun i => (⟨f (i / 32) r (i % 32), 0⟩ : Pair))).zipIdx.foldl (fun m v =>
        Sparse.put 0 m (accKey (base + (accPlace o cols r v.2).1 + 0) (accPlace o cols r v.2).2.1 (accPlace o cols r v.2).2.2) v.1.hi) m =
      putAll m (tilesCells (base + o.tile) n f r) := by
  have entries : tilesCells (base + o.tile) n f r = ((List.range (32 * n)).map (fun i => (⟨f (i / 32) r (i % 32), 0⟩ : Pair))).zipIdx.map (fun v =>
      (accKey (base + (accPlace o cols r v.2).1 + 0) (accPlace o cols r v.2).2.1 (accPlace o cols r v.2).2.2, v.1.hi)) := by
    apply List.ext_getElem
    · simp [tilesCells]
    · intro i h1 h2
      simp [tilesCells, accPlace_unpaired hp cols hr, Nat.add_assoc]
  rw [entries, putAll, List.foldl_map]

/-- R235: a row of an unpaired accumulator destination is put into the file. -/
theorem RunWrote.row {s : State} {l : List (Nat × Word32)} {x : Run} {e : SCtx} (h : RunWrote s e.c l x) {o : Slot} (hs : o.space = true)
    (hp : o.pair = false) {n r : Nat} (hr : r < 32) (f : Nat → Nat → Nat → Word32) (p : Bool) :
    RunWrote s e.c (l ++ tilesCells (e.base + o.tile) n f r)
      (x.row e o false r ((List.range (32 * n)).map (fun i => ⟨f (i / 32) r (i % 32), 0⟩)) p) := by
  unfold Run.row
  simp only [hs, hp, if_true, Bool.false_eq_true, if_false]
  refine ⟨h.mem, h.groups, (State.cluster_setCluster ..).trans ?_⟩
  rw [h.cluster]
  exact congrArg (fun m => ({ s.cluster e.c with acc := m } : Cluster)) ((foldl_putRow hp e.base e.d.cols hr f _).trans (putAll_append ..).symm)

/-! ### The elements an inline command reads -/

/-- What a started command knows of its cluster. -/
def inlineCtx (k : Cluster) (c ctx : Nat) (cx : Ctx) (base op : Nat) (w : Word64) (s0 s1 s2 s3 : Word32) (ep : Nat) : SCtx :=
  { c := c, ctx := ctx, cx := cx, base := base, d := inlineDesc op w, tm := k.tmeta, s0 := s0, s1 := s1, s2 := s2, s3 := s3, epoch := ep }

/-- R235: an element of a valid FP32 tile reads as it stands. -/
theorem readElem_tile {e : SCtx} {s : State} {x : Slot} (hs : x.space = true) (hp : x.pair = false) {r : Nat} (hr : r < 32) {i : Nat}
    (hv : (Sparse.get TileMeta.fresh e.tm (e.base + (x.tile + i / 32))).invalid = false)
    (hi : (Sparse.get TileMeta.fresh e.tm (e.base + (x.tile + i / 32))).int = false) :
    (readElem e s x r i).p = ⟨(s.cluster e.c).accGet (e.base + (x.tile + i / 32)) r (i % 32), 0⟩ := by
  unfold readElem
  simp only [hs, hp, accPlace_unpaired hp e.d.cols hr, if_true, Bool.false_eq_true, if_false]
  unfold accWord
  simp [hv, hi]

/-- One output row of an inline command, from operands whose elements are those of the file. -/
theorem ewRow_inline {k : Cluster} {c ctx : Nat} {cx : Ctx} {base op : Nat} {w : Word64} {s0 s1 s2 s3 : Word32} {ep : Nat} (hpair : inPair w = false)
    (hop : op = 2 ∨ op = 3 ∨ op = 4) {as bs : List Elem} (cs : List Elem) {r : Nat}
    (ha : op ≠ 3 → ∀ i < 32 * inCount w, (as[i]?.map (·.p)).getD ⟨0, 0⟩ = ⟨k.accGet (base + inA w + i / 32) r (i % 32), 0⟩)
    (hb : op = 4 → ∀ i < 32 * inCount w, (bs[i]?.map (·.p)).getD ⟨0, 0⟩ = ⟨k.accGet (base + inB w + i / 32) r (i % 32), 0⟩) :
    (ewRow (inlineCtx k c ctx cx base op w s0 s1 s2 s3 ep) op as bs cs).map (fun o => o.1) =
      (List.range (32 * inCount w)).map (fun i => ⟨inlineValue k base op w s0 (i / 32) r (i % 32), 0⟩) := by
  have unpaired : (inlineCtx k c ctx cx base op w s0 s1 s2 s3 ep).d.out.pair = false := hpair
  unfold ewRow
  rw [List.map_map]
  refine List.map_congr_left (fun i hi => ?_)
  have hlt : i < 32 * inCount w := List.mem_range.mp hi
  rcases hop with rfl | rfl | rfl
  · simp only [Function.comp, unpaired, ha (by decide) i hlt, inlineValue, Bool.false_eq_true, if_false, if_true, Nat.reduceEqDiff]
    cases (f32 (k.accGet (base + inA w + i / 32) r (i % 32))).isNan <;> rfl
  · rfl
  · simp only [Function.comp, unpaired, ha (by decide) i hlt, hb rfl i hlt, inlineValue, Bool.false_eq_true, if_false, Nat.reduceEqDiff]
    rfl

section
variable {k : Cluster} {c ctx : Nat} {cx : Ctx} {base : Nat} {w : Word64} {s0 s1 s2 s3 : Word32} {ep : Nat}

/-- COPY and AXPY read operand A. -/
theorem inline_reads_a {op : Nat} (h : op = 2 ∨ op = 4) :
    ((inlineCtx k c ctx cx base op w s0 s1 s2 s3 ep).d.a.used && ewReads (inlineCtx k c ctx cx base op w s0 s1 s2 s3 ep) op 1) = true := by
  rcases h with rfl | rfl <;> rfl

/-- AXPY reads operand B. -/
theorem inline_reads_b : ((inlineCtx k c ctx cx base 4 w s0 s1 s2 s3 ep).d.b.used && ewReads (inlineCtx k c ctx cx base 4 w s0 s1 s2 s3 ep) 4 2) = true := rfl

end

/-- The tiles of an operand from `t` on are valid and hold FP32 elements. -/
def tilesValid (k : Cluster) (t n : Nat) : Prop := ∀ i, i < n → (k.tile (t + i)).invalid = false ∧ (k.tile (t + i)).int = false

/-- R235: the elements of row `r` of an operand, while that row of its tiles stands as in `k`. -/
theorem rowElems_tiles {e : SCtx} {s : State} {k : Cluster} {x : Slot} (hs : x.space = true) (hp : x.pair = false) {n r : Nat} (hr : r < 32)
    (ht : e.tm = k.tmeta) (hcols : e.d.cols = 32 * n) (hv : tilesValid k (e.base + x.tile) n)
    (hk : ∀ t col, col < 32 → (s.cluster e.c).accGet t r col = k.accGet t r col) {i : Nat} (hi : i < 32 * n) :
    ((rowElems e s x r)[i]?.map (·.p)).getD ⟨0, 0⟩ = ⟨k.accGet (e.base + x.tile + i / 32) r (i % 32), 0⟩ := by
  obtain ⟨invalid, int⟩ := hv (i / 32) (by omega)
  rw [Nat.add_assoc] at invalid int
  unfold Cluster.tile at invalid int
  rw [← ht] at invalid int
  unfold rowElems
  rw [hcols, List.getElem?_map, List.getElem?_range hi, Nat.add_assoc, ← hk _ _ (Nat.mod_lt i (by decide))]
  exact readElem_tile hs hp hr invalid int

/-! ### The command -/

section
variable {s : State} {c ctx base op : Nat} {cx : Ctx} {w : Word64} {s0 s1 s2 s3 : Word32} {ep : Nat} {k : Cluster} (hpair : inPair w = false)
  (hop : op = 2 ∨ op = 3 ∨ op = 4) (ha : tilesValid k (base + inA w) (inCount w)) (hb : tilesValid k (base + inB w) (inCount w))
  (hacc : (s.cluster c).acc = k.acc)
include hpair hop ha hb hacc

/-- R239: an inline command puts its values into the file row by row; a row is read before any of it is written, so that its tiles may overlap. -/
theorem runEw_inline {x : Run} (hx : RunWrote s c [] x) :
    RunWrote s c (tilesRows (base + inOut w) (inCount w) (inlineValue k base op w s0) 32)
      (runEw (inlineCtx k c ctx cx base op w s0 s1 s2 s3 ep) op x) := by
  unfold runEw
  dsimp only
  rw [if_pos (show (inlineCtx k c ctx cx base op w s0 s1 s2 s3 ep).d.aux0 = 0 from rfl)]
  suffices rows : ∀ m ≤ 32, RunWrote s c (tilesRows (base + inOut w) (inCount w) (inlineValue k base op w s0) m) ((List.range m).foldl _ x) from
    rows 32 (Nat.le_refl _)
  intro m hm
  induction m with
  | zero => exact hx
  | succ m ih =>
    have before := ih (Nat.le_of_succ_le hm)
    rw [List.range_succ, List.foldl_append, tilesRows, List.range_succ, List.flatMap_append]
    unfold tilesRows at before
    generalize (List.range m).foldl _ x = y at before ⊢
    have stands : ∀ t col, col < 32 → (y.s.cluster c).accGet t m col = k.accGet t m col := fun t col hc => by
      unfold Cluster.accGet
      rw [before.cluster, ← hacc]
      exact get_putAll_tiles_other (Nat.le_of_succ_le hm) _ _ (.inr (.inr (Nat.le_refl m))) hm hc
    simp only [List.foldl_cons, List.foldl_nil, List.flatMap_cons, List.flatMap_nil, List.append_nil]
    rw [ewRow_inline hpair hop _ ?a ?b]
    case a =>
      intro h3 i hi
      rw [if_pos (inline_reads_a (by omega))]
      exact rowElems_tiles rfl hpair hm rfl rfl ha stands hi
    case b =>
      rintro rfl i hi
      rw [if_pos inline_reads_b]
      exact rowElems_tiles rfl rfl hm rfl rfl hb stands hi
    refine RunWrote.row (e := inlineCtx k c ctx cx base op w s0 s1 s2 s3 ep) (o := (inlineDesc op w).out) ?_ rfl hpair hm
      (inlineValue k base op w s0) _
    exact ⟨before.mem, before.groups, before.cluster⟩

end

/-- R250: of a cluster, the end of a command changes the metadata of the tiles written. -/
theorem finishTiles_eq (k : Cluster) (ws : List (Nat × Nat × Bool)) : ∃ m, finishTiles k ws = { k with tmeta := m } :=
  List.foldlRecOn (motive := fun x => ∃ m, x = { k with tmeta := m }) _ _ ⟨_, rfl⟩ (fun x ⟨_, hx⟩ _ _ => ⟨_, by rw [hx]; rfl⟩)

theorem popStream_cluster (s : State) (c : Nat) : (popStream s c).cluster c = { s.cluster c with sq := (s.cluster c).sq.drop 1, head := none } :=
  State.cluster_setCluster ..

/-- An inline command reads no scratchpad. -/
theorem touchSlots_inline (d : Desc) (op : Nat) (w : Word64) (t : State) : (inlineDesc op w).slots.foldl (touchSlot d) t = t := by
  have tile : ∀ (u : State) (x : Slot), x.space = true → touchSlot d u x = u := fun u x hx => if_pos (by rw [hx, Bool.or_true])
  simp only [Desc.slots, inlineDesc, List.foldl_cons, List.foldl_nil, tile]

/-- The inline commands are run as element-wise commands. -/
theorem runCommand_inline {op : Nat} (hop : op = 2 ∨ op = 3 ∨ op = 4) (e : SCtx) (x : Run) : runCommand e op x = runEw e op x := by
  rcases hop with rfl | rfl | rfl <;> rfl

theorem streamCommandStart_inline_eq {s : State} {c op ctx base tiles desc ep : Nat} {obj : Option Nat} {site : BitVec 32} {w : Word64}
    {s0 s1 s2 s3 : Word32} {r : List SeqEntry} {cx : Ctx} (hq : (s.cluster c).sq = .cmd op ctx base tiles obj site desc (some w) s0 s1 s2 s3 ep :: r)
    (hop : op = 2 ∨ op = 3 ∨ op = 4) (hc : s.ctx? ctx = some cx) :
    ∃ x mark, x = runEw (inlineCtx (s.cluster c) c ctx cx base op w s0 s1 s2 s3 ep) op
        { s := ((popStream s c).bump 0x0A000701 1).bump 0x0A000702 ((inlineDesc op w).rows * (inlineDesc op w).cols * readsPerRow op), fl := 0,
          mark := none, bad := false, tiles := [], parts := noParts } ∧
      streamCommandStart s c = addDone (addSe (x.s.setCluster c (finishTiles (x.s.cluster c) x.tiles)) c x.fl) c
        { engine := .stream, ctx := ctx, obj := obj, site := site, mark := mark } := by
  have hop0 : op ≠ 0 := by omega
  unfold streamCommandStart
  simp only [hq, if_neg hop0, hc, runCommand_inline hop, touchSlots_inline, Bool.false_eq_true, if_false]
  exact ⟨_, _, rfl, rfl⟩

/-- R239: an inline command that starts runs on its block's tiles and has then still to signal. -/
theorem streamCommandStart_inline {s : State} {c op ctx base tiles desc ep : Nat} {obj : Option Nat} {site : BitVec 32} {w : Word64} {s0 s1 s2 s3 : Word32}
    {r : List SeqEntry} {cx : Ctx} (hq : (s.cluster c).sq = .cmd op ctx base tiles obj site desc (some w) s0 s1 s2 s3 ep :: r)
    (hop : op = 2 ∨ op = 3 ∨ op = 4) (hc : s.ctx? ctx = some cx) (hpair : inPair w = false)
    (ha : tilesValid (s.cluster c) (base + inA w) (inCount w)) (hb : tilesValid (s.cluster c) (base + inB w) (inCount w)) :
    let u := streamCommandStart s c
    u.mem = s.mem ∧ u.groups = s.groups ∧ ∃ m fl mark, u.cluster c = { s.cluster c with
      sq := r, head := none, tmeta := m, seFlags := fl,
      acc := putAll (s.cluster c).acc (tilesRows (base + inOut w) (inCount w) (inlineValue (s.cluster c) base op w s0) 32),
      done := (s.cluster c).done ++ [{ engine := .stream, ctx := ctx, obj := obj, site := site, mark := mark }] } := by
  have popped := popStream_cluster s c
  rw [hq, List.drop_one, List.tail_cons] at popped
  obtain ⟨x, mark, hx, start⟩ := streamCommandStart_inline_eq hq hop hc
  have ran : RunWrote (popStream s c) c (tilesRows (base + inOut w) (inCount w) (inlineValue (s.cluster c) base op w s0) 32) x :=
    hx ▸ runEw_inline hpair hop ha hb (by rw [popped]) (Counted.runWrote (.trans (.bump ..) (.bump ..)) c)
  obtain ⟨m, finished⟩ := finishTiles_eq (x.s.cluster c) x.tiles
  rw [start]
  refine ⟨by simpa using ran.mem, by simpa using ran.groups, m, (s.cluster c).seFlags ||| x.fl, mark, ?_⟩
  unfold addSe
  dsimp only
  rw [addDone_clusterAt, State.cluster_setCluster, State.cluster_setCluster, finished, ran.cluster, popped]

end Sys2Proof.Machine
end

section
/-! SUPPORT. What the engines do when their turn comes (R203, R213, R215, R236, R239, R275). -/

namespace Sys2Proof.Machine

open Sys2Proof

/-- Settles O41, engine by engine: the batch (`fillTimeout_products`), the drain (`drainStart_leaves`), the shadow sample (`shadowRecompute_counts`),
the descriptor (`streamDescriptorRead_judges`), the inline command (`streamCommandStart_inline`) and the failed one (`streamCommandStart_failed`). -/
theorem enginesRunTheirCommands : Obligations.EnginesRunTheirCommands := by
  refine ⟨?batch, ?drain, ?sample, ?descriptor, ?inline, ?failed⟩
  case batch =>
    intro s c n b q k h hb hq hrow hsh hact hshd clean ht' ht hx streamed stationary
    obtain ⟨mem, groups, batches, mq, rows, others⟩ := fillTimeout_products hb hq hrow hsh hact hshd clean ht' ht hx
    refine ⟨fillTimeout s c n, rfl, mem, groups, batches, mq,
      fun r col hr hlive hc => rows r (List.mem_filter.mpr ⟨List.mem_range.mpr hr, hlive⟩) col hc, fun t i j hi hj ho => others t i j hi hj (fun r hr => ?_)⟩
    obtain ⟨hr, hlive⟩ := List.mem_filter.mp hr
    exact ho r (List.mem_range.mp hr) hlive
  case drain =>
    intro s c n ctx rel tile addr stride clear w ep obj site k hd hearly clean hi hv hs hfit havail
    obtain ⟨t, fl, stored, bytes, mark, start⟩ := drainStart_fp32 hd hearly clean hi hv hs hfit havail
    obtain ⟨inside, outside, drains, done, file, groups⟩ := drainStart_leaves (clear := clear) (fl := fl)
      (d := { engine := .matrix, ctx := ctx, obj := obj, site := site, mark := mark }) hs stored bytes
    exact ⟨_, mark, congrArg Host.Outcome.next start, inside, outside, drains, done, file, groups⟩
  case sample =>
    intro s c x k hs hm hb pairs finite
    have judged : (shadowCells x).any (fun e => !(f32 e.2.hi).isFin || !(f32 e.2.lo).isFin) = !finite := by
      rw [shadowCells_any, shadowCells_pairs]
    cases hf : finite with
    | false =>
      have drops := shadowRecompute_drops hs hm hb (judged.trans (congrArg not hf))
      exact ⟨_, congrArg Host.Outcome.next drops, rfl, rfl, fun _ => rfl, fun _ _ _ _ h => absurd h (by decide)⟩
    | true =>
      have unfinite := judged.trans (congrArg not hf)
      by_cases hcount : ∃ cx base, s.ctx? x.ctx = some cx ∧ Sparse.find? cx.census c = some base
      · obtain ⟨cx, base, hcx, hbase⟩ := hcount
        obtain ⟨clusters, groups, front, back, hfront, hback, record⟩ := shadowRecompute_counts hs hm hb unfinite hcx hbase
        refine ⟨shadowRecompute s c, rfl, clusters, groups, fun h => absurd h (by decide), fun cx' base' hcx' hbase' _ => ?_⟩
        obtain rfl : cx = cx' := Option.some.inj (hcx.symm.trans hcx')
        obtain rfl : base = base' := Option.some.inj (hbase.symm.trans hbase')
        obtain ⟨count, outside⟩ := storedRecord_reads hfront hback record
        exact ⟨count, outside⟩
      · have counted := shadowRecompute_uncounted hs hm hb unfinite (fun cx base hcx hbase => hcount ⟨cx, base, hcx, hbase⟩)
        exact ⟨shadowRecompute s c, rfl, counted.clusters, counted.groups, fun h => absurd h (by decide),
          fun cx base hcx hbase _ => absurd ⟨cx, base, hcx, hbase⟩ hcount⟩
  case descriptor =>
    intro s c op ctx base tiles obj site desc s0 s1 s2 s3 ep r cx k hq hh hop hc clean hp bs
    obtain ⟨u, counted, fields, operands, fine⟩ := streamDescriptorRead_judges hq hh hop hc clean hp
    have head : ∀ h : HeadDesc, (setHead u c h).cluster c = { k with head := some h } ∧ (setHead u c h).sync = s.sync := fun h =>
      ⟨(setHead_cluster u c h).trans (by rw [counted.clusterAt]), counted.sync⟩
    exact ⟨streamDescriptorRead s c, rfl, streamDescriptorRead_mem hq hh hop hc clean hp, (streamDescriptorRead_within s c).groupsSame (by decide),
      fun o bad => fields o bad ▸ head _, fun code o good bad => operands code o good bad ▸ head _, fun good ok w => fine good ok w ▸ head _⟩
  case inline =>
    intro s c op ctx base tiles obj site desc w s0 s1 s2 s3 ep r cx k hq hop hc hpair hv value
    obtain ⟨mem, groups, m, fl, mark, cluster⟩ := streamCommandStart_inline hq hop hc hpair (fun i hi => ⟨(hv i hi).1, (hv i hi).2.1⟩)
      (fun i hi => (hv i hi).2.2)
    refine ⟨streamCommandStart s c, mark, rfl, mem, groups, congrArg Cluster.sq cluster, congrArg Cluster.done cluster, fun i row col hi hr hc => ?inside,
      fun t row col ht hr hc => ?outside⟩
    case inside =>
      unfold Cluster.accGet
      rw [cluster]
      exact get_putAll_tiles (Nat.le_refl 32) _ _ hi hr hc
    case outside =>
      unfold Cluster.accGet
      rw [cluster]
      exact get_putAll_tiles_other (Nat.le_refl 32) _ _ (ht.imp_right .inl) hr hc
  case failed =>
    intro s c op ctx base tiles obj site desc s0 s1 s2 s3 ep r h k hq hop hh hw hcode clean
    obtain ⟨mark, start⟩ := streamCommandStart_failed hq hop hh hw hcode
    obtain ⟨stored, bytes, -⟩ := storeMem_clean (s := streamFailed s c) clean (desc + 124) (leBytes 4 (h.code + 256 * h.offset))
    refine ⟨_, mark, congrArg Host.Outcome.next start, ?status, fun a ha => ?others, ?groups, ?cluster⟩
    case status =>
      have status := Memory.load_store s.mem.bytes (desc + 124) (leBytes 4 (h.code + 256 * h.offset))
      rw [leBytes_length] at status
      exact (congrArg (Memory.load · (desc + 124) 4) bytes).trans status
    case others => exact (congrArg (Memory.read · a) bytes).trans (Memory.read_store_outside _ _ _ _ (by rw [leBytes_length]; exact ha))
    case groups => rw [addDone_groups, stored.groups, streamFailed_groups]
    case cluster =>
      rw [addDone_clusterAt, stored.clusterAt, streamFailed_cluster, hq]
      rfl

end Sys2Proof.Machine
end

section
/-! SUPPORT. The sync and numerics commands: the context they act on, what moving and setting an object does, and what the census and the recovery leave in
memory (R269, R272, R279, R320, R321, R341 to R344, Tables 8.8, 8.11, 8.12 and 10.9 to 10.12). -/

namespace Sys2Proof.Machine

open Sys2Proof

/-! ## The context a command names (R56, R429) -/

section
variable {s : State} {r : RingId} {c : OutCmd} {p : List Byte} {x : Ctx}

theorem withCtx_owned (hx : s.ctx? c.context = some x) (ho : fnOwns r.fn x.slot = true) (f : Ctx → Ran) : withCtx s r c f = f x := by
  unfold withCtx
  rw [hx]
  exact if_pos ho

theorem withCtx_begun (hx : s.ctx? c.context = some x) (ho : fnOwns r.fn x.slot = true) (f : Ctx → Ran) :
    withCtx (begun s r c p) r { c with payload := p } f = f x :=
  withCtx_owned (s := begun s r c p) (c := { c with payload := p }) hx ho f

theorem withCtx_other (hx : s.ctx? c.context = some x) (ho : fnOwns r.fn x.slot = false) (f : Ctx → Ran) :
    withCtx (begun s r c p) r { c with payload := p } f = .fin (begun s r c p) 4 1 [] := by
  unfold withCtx
  rw [begun_ctx, hx]
  exact if_neg (Bool.eq_false_iff.mp ho)

/-- R49: fields that are answered with no DETAIL meet none of the conditions. -/
theorem leastBad_none {bs : List (Bool × Nat)} (h : leastBad bs = none) {b : Bool × Nat} (hb : b ∈ bs) : b.1 = false := by
  rw [leastBad_eq_min?, List.min?_eq_none_iff, List.map_eq_nil_iff, List.filter_eq_nil_iff] at h
  exact Bool.eq_false_iff.mpr (h b hb)

/-- R55: a list that fits is returned whole, its header counting every record. -/
theorem listResult_whole {hdr : Nat → List Byte} {recs : List (List Byte)} (h : (hdr recs.length ++ recs.flatten).length ≤ c.resultLen) :
    listResult s c hdr recs = .fin s sOK 0 (hdr recs.length ++ recs.flatten) := by
  rw [List.length_append, List.length_flatten] at h
  exact if_pos h

end

/-! ## Changing an object that nobody waits for (R329, R333) -/

theorem judge_unwaited {o : Obj} (hobs : o.obs = []) (hcons : o.cons = []) : judge o = { obj := o, freed := [], trapped := [] } := by
  obtain ⟨ctx, vid, value, base, mark, obs, cons, seq, lastSrc, lastSite, lastOp, lastEpoch⟩ := o
  subst hobs hcons
  rfl

/-- With no waiter, a change is the object's new value, and counters. -/
theorem applyChange_unwaited {s : State} {k : Nat} {o : Obj} (ho : s.obj? k = some o) (hobs : o.obs = []) (hcons : o.cons = []) (y : Signal) :
    ∃ o', (applyChange s k y).obj? k = some o' ∧ o'.value = (if y.set then y.value else o.value + y.value) ∧ o'.base = o.base ∧ o'.obs = [] ∧ o'.cons = [] ∧
      (∀ j, j ≠ k → (applyChange s k y).obj? j = s.obj? j) ∧ (applyChange s k y).mem = s.mem := by
  unfold applyChange
  rw [ho]
  dsimp only
  rw [judge_unwaited (by exact hobs) (by exact hcons)]
  unfold settle
  dsimp only [List.foldl_nil, List.filterMap_nil, takeTraps]
  refine ⟨_, State.obj_setObj .., rfl, rfl, hobs, hcons, fun j hj => ?_, ?_⟩
  · rw [State.bump_objAt, State.obj_setObj_ne _ _ hj]
    split <;> rfl
  · split <;> rfl

section
variable {s : State} {r : RingId} {c : OutCmd} {x : Ctx} {k : Nat} {o : Obj}

/-- A count field of 0 names one object (Table 10.9). -/
theorem rangeVids_one (h : c.arg 2 2 = 0) : (List.range (sCount c)).map (fun i => c.arg 0 2 + i) = [c.arg 0 2] := by
  unfold sCount
  rw [h]
  rfl

theorem anyWaiter_one {v : Nat} (hv : x.vids[v]? = some k) (ho : s.obj? k = some o) (hobs : o.obs = []) (hcons : o.cons = []) : anyWaiter s x [v] = false := by
  simp [anyWaiter, ctxObj, hv, ho, hobs, hcons]

/-! ## SYNC_HOME (R320, R344) -/

theorem moveObj_stays {n store v : Nat} (hx : s.ctx? n = some x) (hv : x.vids[v]? = some k) (hs : storeOf k = store) : moveObj s n store v = s := by
  simp [moveObj, hx, hv, hs]

/-- An object that moves takes its record along, and the context's VID with it. -/
theorem moveObj_moves {n store v new : Nat} (hx : s.ctx? n = some x) (hv : x.vids[v]? = some k) (ho : s.obj? k = some o) (hs : storeOf k ≠ store)
    (hnew : (freeIn s store).head? = some new) : (moveObj s n store v).ctx? n = some { x with vids := x.vids.set v new } ∧
      (moveObj s n store v).obj? new = some o ∧ (moveObj s n store v).mem = s.mem := by
  unfold moveObj
  simp only [hx, hv, if_neg hs, ho, hnew]
  exact ⟨State.ctx_setCtx .., State.obj_setObj .., rfl⟩

/-- A store the context may take objects of, with room for one that has to move, is the object's next home. -/
theorem cmdSyncHome_one (hx : s.ctx? c.context = some x) (ho : fnOwns r.fn x.slot = true) (h1 : c.arg 2 2 = 0) (hv : x.vids[c.arg 0 2]? = some k)
    (hk : s.obj? k = some o) (hobs : o.obs = []) (hcons : o.cons = []) (hstore : homeStore c ∈ ownStores x.slot ++ belfryStores s x.slot)
    (room : storeOf k = homeStore c ∨ freeIn s (homeStore c) ≠ []) :
    cmdSyncHome.run s r c = .fin (moveObj s c.context (homeStore c) (c.arg 0 2)) sOK 0 [] := by
  have grantable : ¬ (!(ownStores x.slot ++ belfryStores s x.slot).contains (homeStore c)) = true := by
    rw [List.contains_iff_mem.mpr hstore]
    decide
  have fits : ¬ (freeIn s (homeStore c)).length < (([c.arg 0 2]).filter (fun v => (x.vids[v]?).any (fun n => storeOf n != homeStore c))).length := by
    rcases room with stays | free
    · simp [hv, stays]
    · exact Nat.not_lt.mpr ((List.length_filter_le ..).trans (List.length_pos_of_ne_nil free))
  refine (withCtx_owned hx ho _).trans ?_
  dsimp only
  rw [rangeVids_one h1]
  exact (if_neg grantable).trans ((if_neg (Bool.eq_false_iff.mp (anyWaiter_one hv hk hobs hcons))).trans (if_neg fits))

/-! ## SYNC_SET (R341, R344) -/

/-- The change SYNC_SET makes to one object. -/
def setChange (s : State) (c : OutCmd) (k : Nat) (o : Obj) : State :=
  applyChange (s.setObj k { o with base := BitVec.ofNat 32 (c.arg 4 4) }) k (hostSignal s c (c.arg 0 2) true 5 none)

theorem cmdSyncSet_one (hx : s.ctx? c.context = some x) (ho : fnOwns r.fn x.slot = true) (h1 : c.arg 2 2 = 0) (hv : x.vids[c.arg 0 2]? = some k)
    (hk : s.obj? k = some o) (hobs : o.obs = []) (hcons : o.cons = []) : cmdSyncSet.run s r c = .fin (setChange s c k o) sOK 0 [] := by
  refine (withCtx_owned hx ho _).trans ?_
  dsimp only
  rw [rangeVids_one h1]
  refine (if_neg (Bool.eq_false_iff.mp (anyWaiter_one hv hk hobs hcons))).trans ?_
  simp only [List.foldl_cons, List.foldl_nil, hv, hk]
  rfl

theorem setChange_sets (hobs : o.obs = []) (hcons : o.cons = []) :
    ∃ o', (setChange s c k o).obj? k = some o' ∧ o'.value = BitVec.ofNat 32 (c.arg 4 4) ∧ o'.base = BitVec.ofNat 32 (c.arg 4 4) ∧ o'.obs = [] ∧ o'.cons = [] ∧
      (∀ j, j ≠ k → (setChange s c k o).obj? j = s.obj? j) ∧ (setChange s c k o).mem = s.mem := by
  obtain ⟨o', found, value, base, obs, cons, others, mem⟩ := applyChange_unwaited (State.obj_setObj s k { o with base := BitVec.ofNat 32 (c.arg 4 4) })
    hobs hcons (hostSignal s c (c.arg 0 2) true 5 none)
  exact ⟨o', found, value, base, obs, cons, fun j hj => (others j hj).trans (State.obj_setObj_ne _ _ hj), mem⟩

/-! ## SYNC_INFO, SYNC_DUMP, NUM_CENSUS_TAG and NUM_FLAGS -/

theorem syncInfo_reports {p : List Byte} (h : Ready cmdSyncInfo s r c p) (hx : s.ctx? c.context = some x) (ho : fnOwns r.fn x.slot = true) :
    ∃ b, CompletesWith (.syncInfo r c.tag) s r c (begun s r c p) b ∧ b.length = 16 ∧ field b 8 4 = x.syncObjects % 2 ^ 32 := by
  refine ⟨_, completes_of_run h rfl (withCtx_begun hx ho _), by simp only [List.length_append, leBytes_length, zeros_length], ?_⟩
  rw [List.append_assoc, field_append (by simp only [List.length_append, leBytes_length]; omega), List.length_append, leBytes_length, leBytes_length]
  exact field_leBytes 4 x.syncObjects _

theorem everyCtx_named (hn : c.context ≠ 0xFFFF_FFFF) : everyCtx c = false := beq_eq_false_iff_ne.mpr hn

/-- A dump of one context is the owner's to take. -/
theorem cmdSyncDump_named (hx : s.ctx? c.context = some x) (ho : fnOwns r.fn x.slot = true) (hn : c.context ≠ 0xFFFF_FFFF) :
    cmdSyncDump.run s r c = syncDump s c :=
  (if_neg (Bool.eq_false_iff.mp (everyCtx_named hn))).trans (withCtx_owned hx ho _)

theorem cmdNumCensusTag_one {base : Nat} (hx : s.ctx? c.context = some x) (ho : fnOwns r.fn x.slot = true) (hn : c.arg 0 2 ≠ 0xFFFF)
    (hb : Sparse.find? x.census (c.arg 0 2) = some base) : cmdNumCensusTag.run s r c = .fin (setTag c s base) sOK 0 [] := by
  refine (withCtx_owned hx ho _).trans ((if_neg hn).trans ?_)
  rw [hb]
  rfl

theorem cmdNumFlags_granted (hx : s.ctx? c.context = some x) (ho : fnOwns r.fn x.slot = true)
    (hf : r.fn = 0 ∨ clusterOfSlot x.slot (siteCluster c.site) = true) : cmdNumFlags.run s r c =
      .fin (clearFlags s c.group (c.arg 4 1) (BitVec.ofNat 4 (c.arg 5 1))) sOK 0 (leBytes 8 (engineFlags s c.group (c.arg 4 1)).toNat) := by
  have granted : (r.fn != 0 && !clusterOfSlot x.slot (siteCluster c.site)) = false := by
    rcases hf with pf0 | ours
    · rw [pf0]; rfl
    · rw [ours, Bool.not_true, Bool.and_false]
  exact (withCtx_owned hx ho _).trans (if_neg (Bool.eq_false_iff.mp granted))

end

/-! ## What a store leaves of a record -/

theorem load_congr {m m' : Sparse Byte} {a n : Nat} (h : ∀ q, a ≤ q → q < a + n → Memory.read m' q = Memory.read m q) :
    Memory.load m' a n = Memory.load m a n :=
  List.map_congr_left (fun i hi => h (a + i) (by omega) (by have := List.mem_range.mp hi; omega))

/-- A field of a record, within the bytes stored at offset `o` of it, is what was stored. -/
theorem field_load_store (m : Sparse Byte) (a : Nat) {o i n l : Nat} {bs : List Byte} (hi : i + n ≤ bs.length) (hl : o + bs.length ≤ l) :
    field (Memory.load (Memory.store m (a + o) bs) a l) (o + i) n = field bs i n := by
  unfold field
  congr 1
  apply List.ext_getElem
  · simp [Memory.load]; omega
  · intro j h1 h2
    have hj : j < n := by simp at h2; omega
    simp only [Memory.load, List.getElem_take, List.getElem_drop, List.getElem_map, List.getElem_range]
    rw [show a + (o + i + j) = a + o + (i + j) by omega, Memory.read_store_inside _ _ _ _ (by omega)]
    simp [show i + j < bs.length by omega]

/-- Records of `n` bytes stored in a row can be loaded one by one. -/
theorem load_store_blocks {α : Type} (m : Sparse Byte) (a : Nat) {f : α → List Byte} {n : Nat} (hf : ∀ y, (f y).length = n) (l : List α) {j : Nat}
    (hj : j < l.length) : Memory.load (Memory.store m a (l.flatMap f)) (a + n * j) n = f l[j] := by
  have length : (l.flatMap f).length = n * l.length := by simp [List.length_flatMap, hf, Nat.mul_comm]
  apply List.ext_getElem
  · simp [Memory.load, hf]
  · intro i h1 h2
    have hi : i < n := by simpa [hf] using h2
    have within : n * j + i < n * l.length := by
      have := Nat.mul_le_mul_left n (Nat.succ_le_of_lt hj)
      rw [Nat.mul_succ] at this
      omega
    simp only [Memory.load, List.getElem_map, List.getElem_range]
    rw [Nat.add_assoc, Memory.read_store_inside _ _ _ _ (length ▸ within), flatMap_blocks_getD hf l hj hi]
    simp [h2]

/-! ## The census (R269, Tables 8.8 and 8.11) -/

theorem freshRecord_length : freshRecord.length = 32 := rfl

/-- `n` fresh records stored at `a`. -/
theorem storeFresh_reads {s : State} (clean : s.mem.errs = []) (a n : Nat) :
    let t := storeMem s a ((List.range n).flatMap (fun _ => freshRecord))
    (∀ g < n, Memory.load t.mem.bytes (a + 32 * g) 32 = freshRecord) ∧ ∀ q, q < a ∨ a + 32 * n ≤ q → Memory.read t.mem.bytes q = Memory.read s.mem.bytes q := by
  obtain ⟨-, bytes, -⟩ := storeMem_clean clean a ((List.range n).flatMap (fun _ => freshRecord))
  have length : ((List.range n).flatMap (fun _ => freshRecord)).length = 32 * n := by
    simp [List.length_flatMap, freshRecord_length, Nat.mul_comm]
  dsimp only
  rw [bytes]
  exact ⟨fun g hg => load_store_blocks _ _ (fun _ => freshRecord_length) _ (by rw [List.length_range]; exact hg),
    fun q hq => Memory.read_store_outside _ _ _ _ (length ▸ hq)⟩

/-- The context's census of a cluster registered at the address ARGS give. -/
def censusRegistered (s : State) (c : OutCmd) (x : Ctx) : State :=
  (storeMem s (c.arg 2 6) ((List.range 4096).flatMap (fun _ => freshRecord))).setCtx c.context { x with census := Sparse.set x.census (c.arg 0 2) (c.arg 2 6) }

theorem cmdNumCensusReg_registers {s : State} {r : RingId} {c : OutCmd} {x : Ctx} (hx : s.ctx? c.context = some x) (ho : fnOwns r.fn x.slot = true) :
    cmdNumCensusReg.run s r c = .fin (censusRegistered s c x) sOK 0 [] := withCtx_owned hx ho _

theorem censusRegistered_reads {s : State} (clean : s.mem.errs = []) (c : OutCmd) (x : Ctx) :
    (censusRegistered s c x).ctx? c.context = some { x with census := Sparse.set x.census (c.arg 0 2) (c.arg 2 6) } ∧
      (∀ g < 4096, Memory.load (censusRegistered s c x).mem.bytes (c.arg 2 6 + 32 * g) 32 = freshRecord) ∧
      ∀ q, q < c.arg 2 6 ∨ c.arg 2 6 + 131072 ≤ q → Memory.read (censusRegistered s c x).mem.bytes q = Memory.read s.mem.bytes q := by
  unfold censusRegistered
  rw [State.setCtx_mem]
  exact ⟨State.ctx_setCtx .., storeFresh_reads clean (c.arg 2 6) 4096⟩

theorem kept_lt {old y b : Nat} (h1 : old < b) (h2 : y < b) : kept old y < b := by
  unfold kept
  split <;> assumption

/-- The five bytes that NUM_CENSUS_TAG writes: RUN_LIMIT, THRESH and the flags, where ARGS ask for them. -/
def tagBytes (c : OutCmd) (old : List Byte) : List Byte :=
  leBytes 2 (kept (field old 18 2) (c.arg 8 2)) ++ leBytes 2 (kept (field old 20 2) (c.arg 6 2)) ++ [BitVec.ofNat 8 (field old 22 1 / 2 * 2 + c.arg 4 1)]

theorem tagBytes_length (c : OutCmd) (old : List Byte) : (tagBytes c old).length = 5 := by simp [tagBytes]

section
variable (c : OutCmd) (old : List Byte)

theorem tagBytes_runLimit : field (tagBytes c old) 0 2 = kept (field old 18 2) (c.arg 8 2) := by
  unfold tagBytes
  rw [List.append_assoc, field_leBytes]
  exact Nat.mod_eq_of_lt (kept_lt (field_lt ..) (field_lt ..))

theorem tagBytes_thresh : field (tagBytes c old) 2 2 = kept (field old 20 2) (c.arg 6 2) := by
  unfold tagBytes
  rw [List.append_assoc, field_append (by simp), leBytes_length, field_leBytes]
  exact Nat.mod_eq_of_lt (kept_lt (field_lt ..) (field_lt ..))

/-- The lowest flag is ENABLE. -/
theorem tagBytes_enable (h : c.arg 4 1 ≤ 1) : field (tagBytes c old) 4 1 % 2 = c.arg 4 1 := by
  have : field (tagBytes c old) 4 1 = (field old 22 1 / 2 * 2 + c.arg 4 1) % 256 := by
    unfold tagBytes
    rw [field_append (by simp)]
    simp [field, leNat]
  omega

end

/-- A record whose tag is set: the three fields, and every other byte of memory as it was. -/
theorem setTag_writes {s : State} {c : OutCmd} {base : Nat} (clean : s.mem.errs = []) (h : c.arg 4 1 ≤ 1) :
    let a := base + 32 * c.arg 2 2
    let t := setTag c s base
    (∀ q, q < a + 18 ∨ a + 23 ≤ q → Memory.read t.mem.bytes q = Memory.read s.mem.bytes q) ∧
      field (Memory.load t.mem.bytes a 32) 18 2 = kept (field (Memory.load s.mem.bytes a 32) 18 2) (c.arg 8 2) ∧
      field (Memory.load t.mem.bytes a 32) 20 2 = kept (field (Memory.load s.mem.bytes a 32) 20 2) (c.arg 6 2) ∧
      field (Memory.load t.mem.bytes a 32) 22 1 % 2 = c.arg 4 1 := by
  intro a t
  obtain ⟨-, bytes, -⟩ := storeMem_clean clean (a + 18) (tagBytes c (loadMem s a 32))
  change t.mem.bytes = _ at bytes
  have length := tagBytes_length c (loadMem s a 32)
  have stored : ∀ {i n : Nat}, i + n ≤ 5 → field (Memory.load t.mem.bytes a 32) (18 + i) n = field (tagBytes c (loadMem s a 32)) i n := fun hi => by
    rw [bytes]
    exact field_load_store _ _ (length.symm ▸ hi) (by rw [length]; decide)
  refine ⟨fun q hq => ?_, ?_, ?_, ?_⟩
  · rw [bytes]
    exact Memory.read_store_outside _ _ _ _ (by rw [length]; omega)
  · exact (stored (i := 0) (by decide)).trans (tagBytes_runLimit ..)
  · exact (stored (i := 2) (by decide)).trans (tagBytes_thresh ..)
  · rw [stored (i := 4) (by decide)]
    exact tagBytes_enable _ _ h

/-! ## Recovered entries (R279, Table 8.11) -/

/-- One entry recovered in clean memory. -/
theorem recoverEntry_clears {s : State} (clean : s.mem.errs = []) (a : Nat) : StoredFrom s (recoverEntry s a) ∧
    Memory.load (recoverEntry s a).mem.bytes a 40 = zeros 40 ∧
    ∀ q, q < a ∨ a + 64 ≤ q → Memory.read (recoverEntry s a).mem.bytes q = Memory.read s.mem.bytes q := by
  unfold recoverEntry
  obtain ⟨cleared, bytes, -⟩ := storeMem_clean clean a (zeros 40)
  obtain ⟨flagged, bytes', -⟩ := storeMem_clean cleared.errs (a + 43) [BitVec.ofNat 8 (field (loadMem s (a + 43) 1) 0 1 / 4 * 4), 0, 0]
  refine ⟨cleared.trans flagged, ?_, fun q hq => ?_⟩
  · rw [bytes', load_congr (fun q _ hq => Memory.read_store_outside _ _ _ _ (by omega)), bytes]
    exact Memory.load_store s.mem.bytes a (zeros 40)
  · rw [bytes', Memory.read_store_outside _ _ _ _ (by simp only [List.length_cons, List.length_nil]; omega), bytes,
      Memory.read_store_outside _ _ _ _ (by rw [zeros_length]; omega)]

/-- The first `n` entries of a table at `a` recovered in clean memory. -/
theorem recoverEntries_clear {s : State} (clean : s.mem.errs = []) (a n : Nat) :
    let t := (List.range n).foldl (fun t i => recoverEntry t (a + 64 * i)) s
    StoredFrom s t ∧ (∀ i < n, Memory.load t.mem.bytes (a + 64 * i) 40 = List.replicate 40 0) ∧
      ∀ q, q < a ∨ a + 64 * n ≤ q → Memory.read t.mem.bytes q = Memory.read s.mem.bytes q := by
  induction n with
  | zero => exact ⟨.refl clean, fun i hi => absurd hi (Nat.not_lt_zero i), fun q _ => rfl⟩
  | succ n ih =>
    obtain ⟨stored, entries, outside⟩ := ih
    rw [List.range_succ, List.foldl_append, List.foldl_cons, List.foldl_nil]
    obtain ⟨last, entry, others⟩ := recoverEntry_clears stored.errs (a + 64 * n)
    refine ⟨stored.trans last, fun i hi => ?_, fun q hq => (others q (by omega)).trans (outside q (by omega))⟩
    rcases Nat.lt_succ_iff_lt_or_eq.mp hi with before | rfl
    · exact (load_congr (fun q _ hq => others q (by omega))).trans (entries i before)
    · exact entry

end Sys2Proof.Machine
end

section
/-! SUPPORT. The sync and numerics commands as rows (R269, R272, R279, R320, R321, R341 to R344). -/

namespace Sys2Proof.Machine

open Sys2Proof

/-- Settles O52, command by command: each row runs its command (`completes_of_run`), which first finds its context (`withCtx_begun`, `withCtx_other`); what
a moved object, a set one, a census record and a recovered entry become are lemmas of their own (`moveObj_moves`, `setChange_sets`, `setTag_writes`,
`recoverEntries_clear`). -/
theorem syncAndNumericsCommandsAct : Obligations.SyncAndNumericsCommandsAct := by
  intro s r c p x hx
  refine ⟨fun other => ⟨fun h => refuses_of_run h rfl (withCtx_other hx other _), fun h => refuses_of_run h rfl (withCtx_other hx other _),
    fun h => refuses_of_run h rfl (withCtx_other hx other _), fun h => refuses_of_run h rfl (withCtx_other hx other _)⟩, fun ho => ?_⟩
  refine ⟨fun h => syncInfo_reports h hx ho, fun h h1 old o hv hk hobs hcons => ?home, fun h h1 k o hv hk hobs hcons => ?set, fun h => ?signal,
    fun h hn => ?dump, fun h => ?balance, fun h => ?cfg, fun clean => ⟨fun h => ?register, fun h base hn hb => ?tag, fun h => ?recover⟩, fun h => ?state,
    fun h hf => completes_of_run h rfl (cmdNumFlags_granted hx ho hf)⟩
  case home =>
    intro store hstore
    refine ⟨fun stays => ?_, fun new moves hnew => ?_⟩
    · have run := cmdSyncHome_one (s := begun s r c p) (c := { c with payload := p }) hx ho h1 hv hk hobs hcons hstore (.inl stays)
      exact completes_of_run h rfl (run.trans (congrArg Ran.ok (moveObj_stays hx hv stays)))
    · have room : freeIn s store ≠ [] := fun none => by rw [none] at hnew; cases hnew
      exact ⟨_, completes_of_run h rfl (cmdSyncHome_one hx ho h1 hv hk hobs hcons hstore (.inr room)), moveObj_moves hx hv hk moves hnew⟩
  case set =>
    obtain ⟨o', sets⟩ := setChange_sets (s := begun s r c p) (c := { c with payload := p }) (k := k) hobs hcons
    exact ⟨_, o', completes_of_run h rfl (cmdSyncSet_one hx ho h1 hv hk hobs hcons), sets⟩
  case signal =>
    have answer := (runCmd_ready h).trans (congrArg (fun x => Host.Outcome.next (ranState s r c.tag x)) (withCtx_begun hx ho _))
    exact ⟨_, _, answer, rfl, rfl, rfl, rfl, rfl, rfl, rfl⟩
  case dump =>
    intro cs rs full fits
    have named : everyCtx { c with payload := p } = false := everyCtx_named hn
    refine completes_of_run h rfl ((cmdSyncDump_named (s := begun s r c p) (c := { c with payload := p }) hx ho hn).trans ?_)
    unfold syncDump
    rw [named]
    exact if_pos fits
  case balance =>
    intro lines fits
    exact completes_of_run h rfl ((withCtx_begun hx ho _).trans (listResult_fits fits))
  case cfg => exact ⟨_, completes_of_run h rfl (withCtx_begun hx ho _), rfl, rfl, rfl, rfl, rfl⟩
  case register =>
    exact ⟨_, completes_of_run h rfl (cmdNumCensusReg_registers hx ho), censusRegistered_reads (s := begun s r c p) clean { c with payload := p } x⟩
  case tag =>
    have enable : c.arg 4 1 ≤ 1 := by
      have unflagged : decide (1 < c.arg 4 1) = false := leastBad_none h.fields (List.mem_of_getElem? (i := 3) rfl)
      exact Nat.not_lt.mp (of_decide_eq_false unflagged)
    exact ⟨_, completes_of_run h rfl (cmdNumCensusTag_one hx ho hn hb), setTag_writes (s := begun s r c p) (c := { c with payload := p }) clean enable⟩
  case recover =>
    intro a n
    obtain ⟨-, entries, outside⟩ := recoverEntries_clear (s := begun s r c p) clean a n
    exact ⟨_, completes_of_run h rfl (withCtx_begun hx ho _), entries, outside⟩
  case state =>
    intro items full fits
    exact completes_of_run h rfl ((withCtx_begun hx ho _).trans (listResult_whole fits))

end Sys2Proof.Machine
end

section
/-! SUPPORT. A copy to the host that meets poison at once, and the end of a command whose ring lies in BAR2: neither writes host memory (R41, R305, R511). -/

namespace Sys2Proof.Machine

open Sys2Proof

/-! ## Completions in BAR2 (R41) -/

section
variable {s : State} {r : RingId}

theorem writeCq_bar2_hostMem (h : (s.ring r).loc = true) (e : CqEntry) : (writeCq s r e).hostMem = s.hostMem := by
  unfold writeCq ringWrite
  dsimp only
  rw [if_pos h, (raiseCause_within ..).hostMemSame (by decide)]
  rfl

theorem postCompletion_bar2_hostMem (h : (s.ring r).loc = true) (e : CqEntry) : (postCompletion s r e).hostMem = s.hostMem := by
  unfold postCompletion
  dsimp only
  split
  · rfl
  · exact writeCq_bar2_hostMem h e

/-- A command that ends with no result posts its completion alone; one that is not outstanding has ended already. -/
theorem finish_noResult (s : State) (r : RingId) (tag : BitVec 16) (status detail : Nat) :
    finish s r tag status detail [] = s ∨ ∃ e, finish s r tag status detail [] = postCompletion (removeOut s r tag) r e := by
  unfold finish
  dsimp only
  split
  · exact .inl rfl
  · rw [List.take_nil]
    exact .inr ⟨_, rfl⟩

theorem finish_noResult_loc (s : State) (r : RingId) (tag : BitVec 16) (status detail : Nat) :
    ((finish s r tag status detail []).ring r).loc = (s.ring r).loc := by
  rcases finish_noResult s r tag status detail with ended | ⟨e, posts⟩
  · rw [ended]
  · rw [posts, (postCompletion_sameConfig ..).loc, removeOut_loc]

theorem finish_noResult_bar2_hostMem (h : (s.ring r).loc = true) (tag : BitVec 16) (status detail : Nat) :
    (finish s r tag status detail []).hostMem = s.hostMem := by
  rcases finish_noResult s r tag status detail with ended | ⟨e, posts⟩
  · rw [ended]
  · exact posts ▸ postCompletion_bar2_hostMem ((removeOut_loc tag).trans h) e

end

/-! ## MEM_HOST_COPY from a poisoned block (R305) -/

section
variable {s : State} {r : RingId} {c : OutCmd}

/-- Poison in the first block ends the copy there: INTEGRITY with block number 0, and counters its only trace. -/
theorem cmdMemHostCopy_poisoned (hr : copyRefused s r c = none) (hu : unavailable s (c.arg 8 8) (c.arg 16 7) = false) (ho : c.arg 23 1 = 1)
    (hn : 64 ≤ c.arg 16 7) (clean : s.mem.errs = []) (hp : (firstPoison s (c.arg 8 8) 64).isSome = true) :
    ∃ cs, cmdMemHostCopy.run s r c = .fin { s with counters := cs } sINTEGRITY 0 [] := by
  obtain ⟨cs, touched⟩ := touch_clean clean (c.arg 8 8) 64
  obtain ⟨k, blocks⟩ : ∃ k, c.arg 16 7 / 64 = k + 1 := ⟨c.arg 16 7 / 64 - 1, by omega⟩
  refine ⟨cs, ?_⟩
  unfold cmdMemHostCopy
  dsimp only
  rw [hr]
  dsimp only
  rw [if_neg (Bool.eq_false_iff.mp hu), if_pos ho, blocks]
  unfold copyOut
  dsimp only
  rw [Nat.mul_zero, Nat.add_zero, touched]
  exact if_pos hp

/-- The row then writes nothing to host memory, its ring being in BAR2. -/
theorem memHostCopy_poisoned_hostMem {p : List Byte} (h : Ready cmdMemHostCopy s r c p) (hl : (s.ring r).loc = true) (hr : copyRefused s r c = none)
    (hu : unavailable s (c.arg 8 8) (c.arg 16 7) = false) (ho : c.arg 23 1 = 1) (hn : 64 ≤ c.arg 16 7) (clean : s.mem.errs = [])
    (hp : (firstPoison s (c.arg 8 8) 64).isSome = true) :
    ∃ t, Machine.exec (.memHostCopy r c.tag) s = .next t ∧ (t.ring r).loc = true ∧ t.hostMem = s.hostMem := by
  obtain ⟨cs, run⟩ := cmdMemHostCopy_poisoned (s := begun s r c p) (c := { c with payload := p }) hr hu ho hn clean hp
  have loc : ((begun s r c p).ring r).loc = true := by
    unfold begun setOut
    rw [State.ring_setRing]
    exact hl
  refine ⟨finish { begun s r c p with counters := cs } r c.tag sINTEGRITY 0 [], ?_, (finish_noResult_loc ..).trans loc,
    finish_noResult_bar2_hostMem (s := { begun s r c p with counters := cs }) loc ..⟩
  exact (runCmd_ready h).trans (congrArg (fun x => Host.Outcome.next (ranState s r c.tag x)) run)

end

/-! ## A module with an isolated die (R511) -/

/-- PF0's ring of port B. -/
def adminRing : RingId := ⟨.b, 0⟩

/-- MEM_HOST_COPY of 64 bytes from module address 0 to host address 0, CONTEXT 0. -/
def copyToHost : OutCmd :=
  { opcode := 0x0303, tag := 1, flags := 0, version := 1, rsv := 0, payloadLen := 0, resultLen := 0, payloadAddr := 0, resultAddr := 0, context := 0,
    timeoutMs := 0, args := zeros 16 ++ [64, 0, 0, 0, 0, 0, 0, 1], payload := [], started := false, stage := 0 }

/-- A ring in BAR2 (R41) that has fetched `copyToHost` and nothing else. -/
def copyFetched : Ring :=
  { Ring.fresh with en := true, ready := true, loc := true, sqLog2 := 4, cqLog2 := 4, sqHead := 1, sqTail := 1, out := [copyToHost] }

/-- A module in FIELD_DEBUG, ON and served, its spire die 0 isolated. Slot 0 is far memory of partition 0, so that address 0 lies on stack 0 of that die; the
byte there is 1. -/
def dieIsolated : State :=
  { State.reset with
    carrier := { Carrier.fresh with power := .on, inA := true, pwrEn := true, perstN := true, isolated := [0] }
    lantern := { Lantern.fresh with mstate := .ready, serving := true }
    keep := { Keep.fresh with lc := 3, parts := [(0, { Partition.fresh with exist := true })] }
    mem := { MemSys.fresh with bytes := [(0, 1)], slots := [(0, .far 0)] }
    rings := [(ringKey adminRing, copyFetched)] }

theorem copyToHost_ready : Ready cmdMemHostCopy dieIsolated adminRing copyToHost [] where
  outstanding := by decide
  code := by decide
  version := by decide
  turn := by decide
  served := by decide
  allowed := by decide
  header := by decide
  fetched := by decide
  fields := by decide

end Sys2Proof.Machine
end

section
/-! SUPPORT. The memory commands and events (R305, R511). -/

namespace Sys2Proof.Machine

open Sys2Proof

/-- Refutes O50: with no marker set and no error stored, MEM_HOST_COPY to the host need not complete with OK. Far data on a stack of an isolated die reads as
poison all the same (R511, Table 15.10), and a copy stops at its first poisoned block (R305). In `dieIsolated`, `copyToHost` ends with INTEGRITY and host
address 0 still reads 0 (`memHostCopy_poisoned_hostMem`), where the statement has it read 1. -/
theorem not_memoryCommandsAndEventsAct : ¬ Obligations.MemoryCommandsAndEventsAct := by
  unfold Obligations.MemoryCommandsAndEventsAct
  intro claim
  obtain ⟨-, -, copies, -⟩ := claim dieIsolated adminRing copyToHost []
  have granted : copyRefused dieIsolated adminRing copyToHost = none := by decide
  have answers : unavailable dieIsolated (copyToHost.arg 8 8) (copyToHost.arg 16 7) = false := by decide
  have toHost : copyToHost.arg 23 1 = 1 := by decide
  obtain ⟨u, row, inBar2, unwritten⟩ := memHostCopy_poisoned_hostMem copyToHost_ready (by decide) granted answers toHost (by decide) rfl (by decide)
  obtain ⟨t, completes, -, copied⟩ := (copies copyToHost_ready granted answers (by decide) rfl).2 toHost rfl rfl rfl
  have same : finish t adminRing copyToHost.tag sOK 0 [] = u := Host.Outcome.next.inj (completes.symm.trans row)
  have inBar2' : (t.ring adminRing).loc = true := (finish_noResult_loc ..).symm.trans (same ▸ inBar2)
  have host : t.hostMem = dieIsolated.hostMem := (finish_noResult_bar2_hostMem inBar2' ..).symm.trans (same ▸ unwritten)
  have byte := copied 0
  rw [host] at byte
  exact absurd byte (by decide)

end Sys2Proof.Machine
end

section
/-! SUPPORT. Signals and waits leave the cluster (R328, R330, R336, R337). -/

namespace Sys2Proof.Machine

open Sys2Proof

section
variable {s : State} {g : GroupId} {e : Env}

/-! ## The reference (Tables 10.2 and 10.3) -/

theorem checkRef_none {u : RefUse} (legal : refIllegal e.ref u = false) (bound : refRemote e.ref = true → e.c.job.isSome = true)
    (inside : refOut e.c e.ref = false) (kind : Nat) : checkRef u kind e s = none := by
  have reachable : (refRemote e.ref && e.c.job.isNone) = false := by
    cases far : refRemote e.ref with
    | false => rfl
    | true => simpa using bound far
  unfold checkRef
  rw [legal, reachable, inside]
  rfl

/-- Only a signal may name a remote object. -/
theorem refRemote_of_wait {r : Word64} (legal : refIllegal r .wait = false) : refRemote r = false := by
  cases far : refRemote r with
  | false => rfl
  | true => simp [refIllegal, far] at legal

/-! ## Signals (R328, R330) -/

theorem signalRes_local (set : Bool) (near : refRemote e.ref = false) : ∃ x : Signal,
    signalRes set e s = .done (s.setSync { s.sync with inflight := s.sync.inflight ++ [x] }) ∧ x.ctx = e.ctx ∧ x.vid = refVid e.ref ∧ x.set = set ∧
      x.value = e.operand ∧ x.mark = none := by
  unfold signalRes
  rw [near]
  exact ⟨_, rfl, rfl, rfl, rfl, rfl, rfl⟩

theorem signalRes_remote (set : Bool) (far : refRemote e.ref = true) (room : (s.cluster e.g.cluster).fq.length < 32) :
    signalRes set e s = .done (s.setCluster e.g.cluster { s.cluster e.g.cluster with
      fq := (s.cluster e.g.cluster).fq ++ [.signal e.ctx (refFabric e.ref) (refVid e.ref) set e.operand e.site] }) := by
  unfold signalRes
  rw [if_pos far]
  exact if_neg (Nat.not_le.mpr room)

/-- SIG.ADD and SIG.SET are one instruction but for their code. -/
theorem signal_commits {set : Bool} {t : State} (h : Issues (if set then .sigSet else .sigAdd) s g e)
    (check : ∀ kind, checkRef .sig kind e s = none) (run : signalRes set e s = .done t) : Commits (if set then .sigSet g else .sigAdd g) s g e t := by
  cases set with
  | false => exact commits_of_run (m := .sigAdd) h rfl (by decide) (check 3) run
  | true => exact commits_of_run (m := .sigSet) h rfl (by decide) (check 2) run

/-! ## Waits (R327, R336, R337) -/

theorem waitRes_stalls (take : Bool) (hg : s.group? e.g = some e.gr) (direct : refQueue e.ref = 0) : ∃ w : WaitMsg,
    waitRes take e s = .parked ((s.setSync { s.sync with arriving := s.sync.arriving ++ [w] }).setGroup e.g { e.gr with stalled := true }) ∧
      w.ctx = e.ctx ∧ w.vid = refVid e.ref ∧ w.take = take ∧ w.operand = e.operand ∧ w.queue = 0 ∧ w.group = some e.g := by
  have current (y : SyncSys) : e.group (s.setSync y) = e.gr := by
    unfold Env.group
    rw [State.setSync_groupAt, hg]
    rfl
  unfold waitRes Env.update
  dsimp only
  rw [if_pos direct, current]
  exact ⟨_, rfl, rfl, rfl, rfl, rfl, rfl, rfl⟩

/-- Each queue of the cluster has room for one entry. -/
structure WaitRoom (k : Cluster) : Prop where
  stream : k.sq.length < 16
  dma : k.dq.length < 16
  send : k.fq.length < 32

theorem WaitRoom.not_full {k : Cluster} (room : WaitRoom k) (q : Nat) :
    ¬ ((q = 1 ∧ streamRoom ≤ k.sq.length) ∨ (q = 2 ∧ dmaRoom ≤ k.dq.length) ∨ (q = 3 ∧ sendRoom ≤ k.fq.length)) := by
  obtain ⟨stream, dma, send⟩ := room
  unfold streamRoom dmaRoom sendRoom
  omega

theorem waitRes_traps {take : Bool} (queued : refQueue e.ref ≠ 0) (room : WaitRoom (s.cluster e.g.cluster))
    (bad : rangeBad take e.operand (valueNow s e.ctx (refVid e.ref)) = true) :
    ∃ x, waitRes take e s = .trap x ∧ x.code = tSYNC_RANGE ∧ x.pcA = e.pc := by
  unfold waitRes
  dsimp only
  rw [if_neg queued, if_neg (room.not_full _), if_pos bad]
  exact ⟨_, rfl, rfl, rfl⟩

theorem waitRes_queues {take : Bool} (queued : refQueue e.ref ≠ 0) (room : WaitRoom (s.cluster e.g.cluster))
    (ok : rangeBad take e.operand (valueNow s e.ctx (refVid e.ref)) = false) :
    let k := s.cluster e.g.cluster
    ∃ k', waitRes take e s = .done (s.setCluster e.g.cluster k') ∧
      (refQueue e.ref = 1 → k' = { k with sq := k.sq ++ [.wait e.ctx (refVid e.ref) take e.operand (clusterSite e.g.cluster)] }) ∧
      (refQueue e.ref = 2 → k' = { k with dq := k.dq ++ [.wait e.ctx (refVid e.ref) take e.operand (clusterSite e.g.cluster)] }) ∧
      (refQueue e.ref = 3 → k' = { k with fq := k.fq ++ [.wait e.ctx (refVid e.ref) take e.operand (clusterSite e.g.cluster)] }) := by
  unfold waitRes
  dsimp only
  rw [if_neg queued, if_neg (room.not_full _), if_neg (by simp [ok])]
  exact ⟨_, rfl, fun stream => by simp only [stream], fun dma => by simp only [dma], fun send => by simp only [send]⟩

/-- WAIT.GE and WAIT.TAKE are one instruction but for their code. -/
theorem wait_settles {take : Bool} (h : Issues (if take then .waitTake else .waitGe) s g e) (check : ∀ kind, checkRef .wait kind e s = none) :
    Machine.exec (if take then .waitTake g else .waitGe g) s = .next (settleRes e s (waitRes take e s)) := by
  cases take with
  | false => exact congrArg Host.Outcome.next (issue_runs (m := .waitGe) h (by decide) (acts_alone h.named (by decide)) (check 1))
  | true => exact congrArg Host.Outcome.next (issue_runs (m := .waitTake) h (by decide) (acts_alone h.named (by decide)) (check 3))

theorem queuedWaitHead_stream {c ctx vid : Nat} {take : Bool} {x : Word32} {site : BitVec 32} {r : List SeqEntry}
    (head : (s.cluster c).sq = .wait ctx vid take x site :: r) (unsent : Sparse.get false (s.cluster c).atWait 0 = false) : ∃ w : WaitMsg,
    queuedWaitHead s c .stream = (s.setCluster c { s.cluster c with atWait := Sparse.set (s.cluster c).atWait 0 true }).setSync
      { s.sync with arriving := s.sync.arriving ++ [w] } ∧ w.ctx = ctx ∧ w.vid = vid ∧ w.take = take ∧ w.operand = x ∧ w.queue = 1 ∧ w.cluster = c := by
  unfold queuedWaitHead
  dsimp only
  rw [head]
  dsimp only
  rw [if_neg (by simp [unsent])]
  exact ⟨_, rfl, rfl, rfl, rfl, rfl, rfl, rfl⟩

end

/-- Settles O42: one signal and one wait for each pair of instructions (`signal_commits`, `wait_settles`), then what each does by where its object is and by
its queue. -/
theorem signalsAndWaitsAreSent : Obligations.SignalsAndWaitsAreSent := by
  unfold Obligations.SignalsAndWaitsAreSent
  refine ⟨?signals, ?waits, ?head⟩
  case signals =>
    intro s g e set h legal inside i k
    obtain rfl := issues_here h
    refine ⟨fun near => ?near, fun far bound room => ?far⟩
    case near =>
      obtain ⟨x, run, sent⟩ := signalRes_local (s := s) set near
      exact ⟨x, signal_commits h (checkRef_none legal (by simp [near]) inside) run, sent⟩
    case far => exact signal_commits h (checkRef_none legal (fun _ => bound) inside) (signalRes_remote set far room)
  case waits =>
    intro s g e take h legal inside i k t v
    obtain ⟨rfl, group, -⟩ := env_group h.stands
    have near : refRemote e.ref = false := refRemote_of_wait legal
    have settles := wait_settles h (checkRef_none legal (by simp [near]) inside)
    refine ⟨fun direct => ?stalls, fun queued stream dma send => ⟨fun bad => ?traps, fun ok => ?queues⟩⟩
    case stalls =>
      obtain ⟨w, run, sent⟩ := waitRes_stalls take group direct
      rw [run] at settles
      exact ⟨w, settles, sent⟩
    case traps =>
      obtain ⟨x, run, code, pc⟩ := waitRes_traps queued ⟨stream, dma, send⟩ bad
      rw [run] at settles
      exact ⟨x, settles, code, pc⟩
    case queues =>
      obtain ⟨k', run, entered⟩ := waitRes_queues queued ⟨stream, dma, send⟩ ok
      rw [run] at settles
      exact ⟨k', settles, entered⟩
  case head =>
    intro s c ctx vid take x site r k head unsent
    obtain ⟨w, sent, fields⟩ := queuedWaitHead_stream head unsent
    exact ⟨w, congrArg Host.Outcome.next sent, fields⟩

end Sys2Proof.Machine
end

section
/-! SUPPORT. Halts and the fabric commands: what a halt leaves of the halt identifiers, and what FAB_INFO, FAB_LINK, FAB_ROUTE, FAB_HALT, FAB_INJECT and
FAB_CFG do (R366, R372, R380, R381, R383, R384, Tables 11.14 and 11.15). -/

namespace Sys2Proof.Machine

open Sys2Proof

/-! ## Halt identifiers (R380, R381) -/

@[simp] theorem postBoth_fabric (s : State) (i code detail : Nat) (rec : List Byte) : (postBoth s i code detail rec).fabric = s.fabric :=
  (postBoth_within ..).fabricSame (by decide)

@[simp] theorem setJob_fabric (s : State) (n : Nat) (j : Job) : (setJob s n j).fabric = s.fabric := (setJob_within ..).fabricSame (by decide)

theorem foldl_haltGroup_fabric (s : State) (gs : List GroupId) : (gs.foldl haltGroup s).fabric = s.fabric :=
  List.foldlRecOn (motive := fun t : State => t.fabric = s.fabric) gs haltGroup rfl
    (fun t ht g _ => ((haltGroup_within t g).fabricSame (by decide)).trans ht)

@[simp] theorem State.setLink_haltId (s : State) (n : Nat) (x : Link) : (s.setLink n x).fabric.haltId = s.fabric.haltId := rfl

theorem flood_haltId (s : State) (fpn id : Nat) : (flood s fpn id).fabric.haltId = s.fabric.haltId := by
  unfold flood
  refine List.foldlRecOn (motive := fun t : State => t.fabric.haltId = s.fabric.haltId) _ _ rfl (fun t ht n _ => ?_)
  dsimp only
  split
  · rw [State.setLink_haltId, ht]
  · exact ht

/-- A context that stops loses its collectives and nothing else of the fabric. -/
theorem stopContext_haltId (s : State) (n : Nat) : (stopContext s n).fabric.haltId = s.fabric.haltId := by
  unfold stopContext
  dsimp only
  rw [State.bump_fabric]
  refine List.foldlRecOn (motive := fun t : State => t.fabric.haltId = s.fabric.haltId) _ _ rfl (fun t ht g _ => ?_)
  split
  · rw [(settleBlock_within ..).fabricSame (by decide)]
    exact ht
  · exact ht

@[simp] theorem enterDiscard_haltId (s : State) (n : Nat) (j : Job) : (enterDiscard s n j).fabric.haltId = s.fabric.haltId :=
  (congrArg Fabric.haltId (setJob_fabric ..)).trans (stopContext_haltId s n)

/-- R381: a halt's identifier becomes this module's, whatever the halt finds. -/
theorem actHalt_haltId (s : State) (fpn id origin via : Nat) : (actHalt s fpn id origin via).fabric.haltId = Sparse.put 0 s.fabric.haltId fpn id := by
  unfold actHalt
  extract_lets f s1 s2
  have flooded : s2.fabric.haltId = Sparse.put 0 s.fabric.haltId fpn id := (congrArg Fabric.haltId (State.bump_fabric ..)).trans (flood_haltId s1 fpn id)
  clear_value s2
  split
  · exact flooded
  · extract_lets j s3 s4
    have posted : s4.fabric.haltId = Sparse.put 0 s.fabric.haltId fpn id :=
      (congrArg Fabric.haltId ((postBoth_fabric ..).trans (foldl_haltGroup_fabric ..))).trans flooded
    clear_value s4
    cases j.st
    case running => by_cases peer : origin = 0 <;> simp [peer, posted]
    case voted => by_cases peer : origin = 0 <;> simp [peer, posted]
    all_goals simp [posted]

@[simp] theorem haltIdOf_actHalt (s : State) (fpn id origin via : Nat) : haltIdOf (actHalt s fpn id origin via) fpn = id := by
  unfold haltIdOf
  rw [actHalt_haltId]
  exact Sparse.get_put_self ..

/-- R380: never a second wave for one FPN within a millisecond. -/
theorem originateHalt_again {s : State} {fpn t₀ : Nat} (began : Sparse.find? s.fabric.haltAt fpn = some t₀) (soon : s.time.toNat < t₀ + 1000000)
    (origin : Nat) : originateHalt s fpn origin = s := by
  unfold originateHalt
  rw [began]
  exact if_pos soon

/-- R380: a wave starts under the next identifier. -/
theorem originateHalt_starts {s : State} {fpn : Nat} (rested : ∀ t₀, Sparse.find? s.fabric.haltAt fpn = some t₀ → t₀ + 1000000 ≤ s.time.toNat) (origin : Nat) :
    originateHalt s fpn origin =
      actHalt (s.setFabric { s.fabric with haltAt := Sparse.set s.fabric.haltAt fpn s.time.toNat }) fpn ((haltIdOf s fpn + 1) % 8) origin 0xFF := by
  unfold originateHalt
  split
  · rename_i t₀ began
    exact if_neg (Nat.not_lt.mpr (rested t₀ began))
  · rfl

/-! ## FAB_INFO (Table 11.15) -/

/-- The result of FAB_INFO. -/
def fabricInfo (s : State) : List Byte :=
  (List.range 6).map (fun a => BitVec.ofNat 8 (axisLen s a)) ++ [if s.keep.sealed then 1 else 0] ++ zeros 9 ++ (List.range 48).flatMap (linkInfo s)

theorem linkInfo_length (s : State) (n : Nat) : (linkInfo s n).length = 8 := by simp [linkInfo]

theorem flatMap_linkInfo_length (s : State) : ((List.range 48).flatMap (linkInfo s)).length = 384 := by
  simp [List.length_flatMap, linkInfo_length]

theorem fabricInfo_length (s : State) : (fabricInfo s).length = 400 := by
  simp [fabricInfo, -List.length_flatMap, flatMap_linkInfo_length]

theorem fabricInfo_axis (s : State) {a : Nat} (ha : a < 6) : (fabricInfo s)[a]? = some (BitVec.ofNat 8 (axisLen s a)) := by
  unfold fabricInfo
  rw [List.append_assoc, List.append_assoc, List.getElem?_append_left (by simpa using ha)]
  simp [ha]

theorem fabricInfo_link (s : State) {n : Nat} (hn : n < 48) : (fabricInfo s)[16 + 8 * n]? = some (BitVec.ofNat 8 (linkCode (s.link n).st)) := by
  have code := flatMap_blocks_getD (linkInfo_length s) (List.range 48) (j := n) (b := 0) (by simpa using hn) (by decide)
  have inside : 8 * n < ((List.range 48).flatMap (linkInfo s)).length := by rw [flatMap_linkInfo_length]; omega
  rw [List.getElem_range, Nat.add_zero, List.getD_eq_getElem _ _ inside] at code
  unfold fabricInfo
  rw [List.getElem?_append_right (by simp)]
  simp only [List.length_append, List.length_map, List.length_range, List.length_singleton, zeros_length, Nat.add_sub_cancel_left]
  rw [List.getElem?_eq_getElem inside, code]
  rfl

/-! ## The commands -/

section
variable {s : State} {r : RingId} {c : OutCmd} {p : List Byte}

theorem cmdFabLink_enables (hf : r.fn = 0) (action : c.arg 1 1 = 0) (off : (s.link (c.arg 0 1)).st = .disabled)
    (axis : 1 < axisLen s (axisOfPort (portOfLink (c.arg 0 1)))) (die : s.carrier.isolated.contains (24 + c.arg 0 1 % 8) = false) :
    cmdFabLink.run s r c = .fin (setLinkSt s (c.arg 0 1) .detect) sOK 0 [] := by
  unfold cmdFabLink
  dsimp only
  rw [pf0Only_pf0 hf, if_pos action, if_pos ⟨off, axis, die⟩]
  rfl

/-- A link that is in no service leaves none. -/
theorem leaveService_idle {n : Nat} (active : (s.link n).st ≠ .active) (retrain : (s.link n).st ≠ .retrain) (st : LinkState) (detach : Bool) :
    leaveService s n st detach = setLinkSt s n st := if_pos ⟨active, retrain⟩

theorem cmdFabLink_disables (hf : r.fn = 0) (action : c.arg 1 1 = 1) (active : (s.link (c.arg 0 1)).st ≠ .active)
    (retrain : (s.link (c.arg 0 1)).st ≠ .retrain) : cmdFabLink.run s r c = .fin (setLinkSt s (c.arg 0 1) .disabled) sOK 0 [] := by
  unfold cmdFabLink
  dsimp only
  rw [pf0Only_pf0 hf, if_neg (by omega), if_pos action, leaveService_idle active retrain]
  rfl

theorem cmdFabLink_retrains (hf : r.fn = 0) (action : c.arg 1 1 = 2) : cmdFabLink.run s r c =
    if (s.link (c.arg 0 1)).st = .miswired then .fin (setLinkSt s (c.arg 0 1) .detect) sOK 0 [] else .fin s 5 (linkCode (s.link (c.arg 0 1)).st) [] := by
  unfold cmdFabLink
  dsimp only
  rw [pf0Only_pf0 hf, if_neg (by omega), if_neg (by omega)]
  rfl

/-- The state of one link set and the others as they were. -/
theorem setLinkSt_link (s : State) (n : Nat) (st : LinkState) :
    (setLinkSt s n st).link n = { s.link n with st := st } ∧ ∀ m, m ≠ n → (setLinkSt s n st).link m = s.link m :=
  ⟨State.link_setLink .., fun _ hm => State.link_setLink_ne _ _ hm⟩

theorem addDead_known {x : Nat × Nat} (known : x ∈ s.fabric.dead) : addDead s x = s := if_pos (List.contains_iff_mem.mpr known)

theorem addDead_new {x : Nat × Nat} (new : x ∉ s.fabric.dead) : addDead s x = purgeLinks (s.setFabric { s.fabric with dead := s.fabric.dead ++ [x] }) :=
  if_neg (fun known => new (List.contains_iff_mem.mp known))

theorem mem_dropDead {x y : Nat × Nat} : y ∈ (dropDead s x).fabric.dead ↔ y ∈ s.fabric.dead ∧ y ≠ x := by
  simp [dropDead]

theorem cmdFabRoute_adds (hf : r.fn = 0) (action : c.arg 2 1 = 1) : cmdFabRoute.run s r c = .fin (addDead s (c.arg 0 1, c.arg 1 1)) sOK 0 [] :=
  (if_pos hf).trans (congrArg Ran.ok (if_pos action))

theorem cmdFabRoute_drops (hf : r.fn = 0) (action : c.arg 2 1 = 0) : cmdFabRoute.run s r c = .fin (dropDead s (c.arg 0 1, c.arg 1 1)) sOK 0 [] :=
  (if_pos hf).trans (congrArg Ran.ok (if_neg (by omega)))

/-- Who may halt an FPN: PF0, or the VF of the slot that is bound to it. -/
theorem haltDenied_eq_false {fpn : Nat} (ours : r.fn = 0 ∨ ∃ n x j, s.boundTo fpn = some (n, x, j) ∧ x.slot + 1 = r.fn) :
    (r.fn != 0 && !(s.boundTo fpn).any (fun x => x.2.1.slot + 1 == r.fn)) = false := by
  rcases ours with pf0 | ⟨n, x, j, bound, slot⟩
  · simp [pf0]
  · simp [bound, slot]

theorem haltDenied_eq_true {fpn : Nat} (vf : r.fn ≠ 0) (others : ∀ n x j, s.boundTo fpn = some (n, x, j) → x.slot + 1 ≠ r.fn) :
    (r.fn != 0 && !(s.boundTo fpn).any (fun x => x.2.1.slot + 1 == r.fn)) = true := by
  cases bound : s.boundTo fpn with
  | none => simpa using vf
  | some b => simpa using ⟨vf, others b.1 b.2.1 b.2.2 bound⟩

theorem cmdFabHalt_answers (ours : r.fn = 0 ∨ ∃ n x j, s.boundTo (c.arg 0 2) = some (n, x, j) ∧ x.slot + 1 = r.fn) :
    cmdFabHalt.run s r c =
      .fin (originateHalt s (c.arg 0 2) 1) sOK 0 [BitVec.ofNat 8 (haltIdOf (originateHalt s (c.arg 0 2) 1) (c.arg 0 2))] :=
  if_neg (Bool.eq_false_iff.mp (haltDenied_eq_false ours))

theorem cmdFabHalt_refuses (vf : r.fn ≠ 0) (others : ∀ n x j, s.boundTo (c.arg 0 2) = some (n, x, j) → x.slot + 1 ≠ r.fn) :
    cmdFabHalt.run s r c = .fin s 4 1 [] := if_pos (haltDenied_eq_true vf others)

theorem cmdFabInject_closed (hf : r.fn = 0) (closed : s.keep.lc = 2 ∨ s.keep.lc = 5 ∨ s.keep.lc = 7) : cmdFabInject.run s r c = .fin s 4 2 [] :=
  (if_pos hf).trans (if_pos closed)

theorem cmdFabInject_open (hf : r.fn = 0) (field : s.keep.lc ≠ 2) (scrapped : s.keep.lc ≠ 5) (pending : s.keep.lc ≠ 7) :
    cmdFabInject.run s r c = .fin (s.setLink (c.pay 0 1) { s.link (c.pay 0 1) with inject := injectOf c }) sOK 0 [] :=
  (if_pos hf).trans (if_neg (by simp [field, scrapped, pending]))

end

/-- Settles O48, command by command: each row runs its command (`completes_of_run`, `refuses_of_run`); a halt's identifier is `haltIdOf_actHalt`. -/
theorem fabricCommandsAct : Obligations.FabricCommandsAct := by
  intro s r c p
  refine ⟨fun h => ?info, fun h hf => ⟨fun action off axis die => ?enable, fun action active retrain => ?disable, fun action wrong => ?retrain,
    fun action right => ?inPlace⟩, fun h hf => ⟨fun action known => ?known, fun action new => ?new, fun action => ?drop⟩,
    fun h ours => ⟨fun t₀ began soon => ?again, fun rested => ?starts⟩, fun h vf others => refuses_of_run h rfl (cmdFabHalt_refuses vf others),
    fun h hf => ⟨fun closed => refuses_of_run h rfl (cmdFabInject_closed hf closed),
      fun a b d => completes_of_run h rfl (cmdFabInject_open (s := begun s r c p) hf a b d)⟩,
    fun h hf => ⟨_, completes_of_run h rfl (if_pos hf), rfl, ?sameAck, ?ack, ?sameAdaptive, ?adaptive, ?oblivious⟩,
    fun vf => ⟨fun h => refuses_of_run h rfl (if_neg vf), fun h => refuses_of_run h rfl (if_neg vf), fun h => refuses_of_run h rfl (if_neg vf),
      fun h => refuses_of_run h rfl (if_neg vf)⟩⟩
  case info =>
    have sealed : (fabricInfo s)[6]? = some (if s.keep.sealed then 1 else 0) := rfl
    exact ⟨fabricInfo s, completes_of_run h rfl rfl, fabricInfo_length s, fun a => fabricInfo_axis s, sealed, fun n => fabricInfo_link s⟩
  case enable => exact ⟨_, completes_of_run h rfl (cmdFabLink_enables (s := begun s r c p) hf action off axis die), setLinkSt_link ..⟩
  case disable => exact ⟨_, completes_of_run h rfl (cmdFabLink_disables (s := begun s r c p) hf action active retrain), setLinkSt_link ..⟩
  case retrain =>
    exact ⟨_, completes_of_run h rfl ((cmdFabLink_retrains (s := begun s r c p) hf action).trans (if_pos wrong)), setLinkSt_link ..⟩
  case inPlace => exact refuses_of_run h rfl ((cmdFabLink_retrains (s := begun s r c p) hf action).trans (if_neg right))
  case known => exact completes_of_run h rfl ((cmdFabRoute_adds hf action).trans (congrArg Ran.ok (addDead_known known)))
  case new => exact completes_of_run h rfl ((cmdFabRoute_adds hf action).trans (congrArg Ran.ok (addDead_new new)))
  case drop => exact ⟨_, completes_of_run h rfl (cmdFabRoute_drops hf action), rfl, rfl, fun y => mem_dropDead⟩
  case again =>
    have run := cmdFabHalt_answers (s := begun s r c p) (c := { c with payload := p }) ours
    rw [OutCmd.arg_payload, originateHalt_again (s := begun s r c p) began soon] at run
    exact completes_of_run h rfl run
  case starts =>
    have run := cmdFabHalt_answers (s := begun s r c p) (c := { c with payload := p }) ours
    have next := originateHalt_starts (s := begun s r c p) rested 1
    have id : haltIdOf (originateHalt (begun s r c p) (c.arg 0 2) 1) (c.arg 0 2) = (haltIdOf s (c.arg 0 2) + 1) % 8 := by
      rw [next, haltIdOf_actHalt]
      rfl
    rw [OutCmd.arg_payload, id] at run
    exact ⟨_, completes_of_run h rfl run, (originateHalt_within ..).memSame (by decide) (by decide), id⟩
  case sameAck => exact fun keep => if_pos keep
  case ack => exact fun set => if_neg set
  case sameAdaptive => exact fun keep => if_pos keep
  case adaptive => exact fun on => (if_neg (by rw [OutCmd.arg_payload, on]; decide)).trans (by rw [OutCmd.arg_payload, on]; rfl)
  case oblivious => exact fun off => (if_neg (by rw [OutCmd.arg_payload, off]; decide)).trans (by rw [OutCmd.arg_payload, off]; rfl)

end Sys2Proof.Machine
end

section
/-! SUPPORT. Fabric and flag instructions, SCRD and SCWR: what enters a fabric send queue, a value on its way to a u register, flags cleared, and scale
references (R85, R137, R371, R374, R375, R397, Table 8.7). -/

namespace Sys2Proof.Machine

open Sys2Proof

section
variable {s : State} {e : Env}

/-! ## The fabric send queue (R371) -/

theorem sendQ_enters (room : (s.cluster e.g.cluster).fq.length < 32) (x : SendEntry) :
    e.sendQ s x = .done (s.setCluster e.g.cluster { s.cluster e.g.cluster with fq := (s.cluster e.g.cluster).fq ++ [x] }) :=
  if_neg (Nat.not_le.mpr room)

/-- The scoreboard entry of a GET to a register, filled when the response arrives (R85, R136). -/
def getPend (e : Env) : Pend :=
  { dest := e.i.dst, mask := e.act, vals := [0], poison := 0, paddr := 0, pspace := 0, ready := false, msg := none }

/-- An update of the group that stands where the instruction found it. -/
theorem update_eq {t : State} (group : t.group? e.g = some e.gr) (f : Group → Group) : e.update t f = t.setGroup e.g (f e.gr) := by
  unfold Env.update Env.group
  rw [group]
  rfl

theorem runGet_memory (kind : e.i.mod ≠ 1) :
    runGet e s = e.sendQ s (.get e.ctx e.localAddr e.msgLen e.destWord e.remote e.obj (clusterSite e.g.cluster) none) := if_neg kind

/-- R85: a GET to a register enters the queue and takes a scoreboard entry. -/
theorem runGet_register (group : s.group? e.g = some e.gr) (kind : e.i.mod = 1) (room : (s.cluster e.g.cluster).fq.length < 32) :
    runGet e s = .done ((s.setCluster e.g.cluster { s.cluster e.g.cluster with fq := (s.cluster e.g.cluster).fq ++
      [.get e.ctx 0 8 e.destWord e.remote none (clusterSite e.g.cluster) (some (e.g, e.i.dst))] }).setGroup e.g
        { e.gr with pend := e.gr.pend ++ [getPend e] }) := by
  unfold runGet
  dsimp only
  rw [if_pos kind, sendQ_enters room]
  dsimp only
  rw [update_eq ((State.setCluster_groupAt ..).trans group)]
  rfl

/-! ## A value on its way to a u register (R85) -/

/-- The result that FLAGRD and SCRD put on its way. -/
def valuePend (e : Env) (v : Word64) (poison : Option (Nat × Nat)) : Pend :=
  { dest := e.i.dst, mask := e.act, vals := [v], poison := if poison.isSome then 1 else 0, paddr := (poison.getD (0, 0)).1,
    pspace := (poison.getD (0, 0)).2, ready := true, msg := none }

theorem postU_eq {t : State} (group : t.group? e.g = some e.gr) (v : Word64) (poison : Option (Nat × Nat)) :
    e.postU t v poison = t.setGroup e.g { e.gr with pend := e.gr.pend ++ [valuePend e v poison] } := by
  unfold Env.postU
  dsimp only
  rw [update_eq group]
  rfl

/-- R85: an instruction that puts a value on its way and does nothing else commits, and its result waits to be written. -/
theorem posts_of_run {m : Mn} {i : Instr} {v : Word64} (h : Issues m s e.g e) (row : Machine.exec i s = .next (issue m e.g s))
    (alone : m ∉ [Mn.mcfg, .mload, .mmul, .mfill, .madapt, .mdrain, .streamIssue, .reserved]) (check : checkOf m e s = none)
    (run : runOf m e s = .done (e.postU s v none)) :
    ∃ (t : State) (p : Pend), Commits i s e.g e t ∧ t.group? e.g = some { e.gr with pend := e.gr.pend ++ [p] } ∧ p.dest = e.i.dst ∧ p.ready = true ∧
      p.vals = [v] ∧ t.mem = s.mem ∧ t.clusters = s.clusters ∧ t.sync = s.sync := by
  obtain ⟨-, group, -⟩ := env_group h.stands
  rw [postU_eq group] at run
  exact ⟨_, _, commits_of_run h row alone check run, State.group_setGroup .., rfl, rfl, rfl, rfl, rfl, rfl⟩

/-! ## Flags (R137) -/

theorem engineFlags_clearFlags (s : State) (g : GroupId) (m : Nat) (mask : Flags) :
    engineFlags (clearFlags s g m mask) g m = engineFlags s g m &&& ~~~mask := by
  match m with
  | 0 => exact congrArg UnitSt.flags (State.unitSt_setUnit ..)
  | 1 => exact congrArg Cluster.matFlags (State.cluster_setCluster ..)
  | _ + 2 => exact congrArg Cluster.seFlags (State.cluster_setCluster ..)

/-- The flags of the unit, of the array and of the stream engine are three words. -/
theorem engineFlags_clearFlags_ne (s : State) (g : GroupId) {m n : Nat} (hm : m < 3) (hn : n < 3) (ne : n ≠ m) (mask : Flags) :
    engineFlags (clearFlags s g m mask) g n = engineFlags s g n := by
  match m, n with
  | 0, 0 | 1, 1 | 2, 2 => exact absurd rfl ne
  | 0, 1 | 0, 2 | 1, 0 | 2, 0 => rfl
  | 1, 2 => exact (congrArg Cluster.seFlags (State.cluster_setCluster ..) :)
  | 2, 1 => exact (congrArg Cluster.matFlags (State.cluster_setCluster ..) :)

/-! ## SCRD and SCWR (Table 8.7) -/

theorem scValue_ref (field : 9 ≤ scField e) (x : SEntry) (b : Block) : scValue e x b = b.ref (scField e - 9) := by
  obtain ⟨k, hk⟩ := Nat.exists_eq_add_of_le' field
  unfold scValue
  rw [hk]
  rfl

theorem runScrd_ref (field : 9 ≤ scField e) : runScrd e s = .done (e.postU s (e.blk.ref (scField e - 9)) none) := by
  unfold runScrd
  rw [if_pos field, scValue_ref field]

/-- SCRD of a field of an entry that is not poisoned, in memory without stored errors. -/
theorem runScrd_field (field : scField e < 9) (clean : s.mem.errs = []) (sound : poisonedAt s e.entryAddr = false) :
    ∃ cs, runScrd e s = .done (e.postU { s with counters := cs } (scValue e (readEntry s e.entryAddr) e.blk) none) := by
  obtain ⟨cs, touched⟩ := touch_clean clean e.entryAddr 64
  have unmarked : poisonedAt { s with counters := cs } e.entryAddr = false := sound
  refine ⟨cs, ?_⟩
  unfold runScrd
  rw [if_neg (Nat.not_le.mpr field), touched]
  dsimp only
  rw [unmarked]
  rfl

theorem setRef_ref (b : Block) (n : Nat) (w : Word64) : (b.setRef n w).ref n = w := by
  match n with
  | 0 | 1 | _ + 2 => rfl

/-- The block once SCWR has stored a scale reference: what stood there is a value that other groups may still capture (R263). -/
def refStored (e : Env) (b : Block) : Block :=
  { b.setRef (scField e - 9) (src1 e.gr e.i e.lead) with stale := b.stale ++ [(scField e - 9, e.gr.idx, b.ref (scField e - 9))] }

theorem runScwr_ref {b : Block} (field : 9 ≤ scField e) (block : blockOf s e.g.cluster e.gr.block = some b) :
    runScwr e s = .done (setBlock s e.g.cluster e.gr.block (refStored e b)) := by
  unfold runScwr
  dsimp only
  rw [if_pos field, block]
  rfl

theorem refStored_ref (e : Env) (b : Block) : (refStored e b).ref (scField e - 9) = src1 e.gr e.i e.lead := by
  have kept : (refStored e b).ref (scField e - 9) = (b.setRef (scField e - 9) (src1 e.gr e.i e.lead)).ref (scField e - 9) := by
    unfold refStored Block.ref
    split <;> rfl
  rw [kept, setRef_ref]

end

/-- Settles O44: each row by what its instruction does once it meets no trap (`commits_of_run`). -/
theorem fabricAndFlagInstructionsAct : Obligations.FabricAndFlagInstructionsAct := by
  intro s g e
  refine ⟨?put, ?acc, ?get, ?getRegister, ?coll, ?flagrd, ?flagclr, ?scrdField, ?scrdRef, ?scwr⟩
  case put =>
    intro h check room
    obtain rfl := issues_here h
    exact commits_of_run h rfl (by decide) check (sendQ_enters room _)
  case acc =>
    intro h check room
    obtain rfl := issues_here h
    exact commits_of_run h rfl (by decide) check (sendQ_enters room _)
  case get =>
    intro h check room memory
    obtain rfl := issues_here h
    exact commits_of_run h rfl (by decide) check ((runGet_memory memory).trans (sendQ_enters room _))
  case getRegister =>
    intro h check room register
    obtain ⟨rfl, group, -⟩ := env_group h.stands
    exact ⟨_, getPend e, commits_of_run h rfl (by decide) check (runGet_register group register room), congrArg Cluster.fq (State.cluster_setCluster ..),
      State.group_setGroup .., rfl, rfl, rfl⟩
  case coll =>
    intro h check room
    obtain rfl := issues_here h
    exact commits_of_run h rfl (by decide) check (sendQ_enters room _)
  case flagrd =>
    intro h
    obtain rfl := issues_here h
    exact posts_of_run h rfl (by decide) rfl rfl
  case flagclr =>
    intro h
    obtain rfl := issues_here h
    have cleared := clearFlags_within s e.g (e.i.mod % 4) ((src0 e.gr e.i true e.lead).setWidth 4)
    exact ⟨_, commits_of_run h rfl (by decide) rfl rfl, cleared.groupsSame (by decide), cleared.memSame (by decide) (by decide),
      engineFlags_clearFlags .., fun n hn hm ne => engineFlags_clearFlags_ne _ _ hm hn ne _⟩
  case scrdField =>
    intro h check clean field sound
    obtain ⟨rfl, group, -⟩ := env_group h.stands
    obtain ⟨cs, run⟩ := runScrd_field field clean sound
    rw [postU_eq (t := { s with counters := cs }) group] at run
    exact ⟨_, _, commits_of_run h rfl (by decide) check run, State.group_setGroup .., rfl, rfl, rfl, rfl, rfl⟩
  case scrdRef =>
    intro h check field
    obtain rfl := issues_here h
    exact posts_of_run h rfl (by decide) check (runScrd_ref field)
  case scwr =>
    intro b h check field block
    obtain rfl := issues_here h
    exact ⟨_, _, commits_of_run h rfl (by decide) check (runScwr_ref field block), blockOf_setBlock .., refStored_ref e b, rfl, rfl⟩

end Sys2Proof.Machine
end

section
/-! SUPPORT. Packets on arrival: checked, acted on and answered (R305, R330, R331, R373, R376, Tables 11.10a and 11.11). -/

namespace Sys2Proof.Machine

open Sys2Proof

/-! ## The checks (R373, Table 11.10a) -/

section
variable {s : State} {n txn : Nat} {q : Packet} {need : Packet → Need} {f : State → Packet → Nat × Ctx × Job → State}

/-- Taking a packet in leaves what its authentication reads: a packet that arrives in clear is authentic. -/
theorem authentic_of_arrives (h : Arrives txn s n q) : ∃ p link, arrival s n txn = some (p, link) ∧ authentic (takeIn s n) p link = .ok q := by
  obtain ⟨p, link, here, crc, clear⟩ := h
  have opened : openPacket (takeIn s n) p = some q := clear
  refine ⟨p, link, here, ?_⟩
  unfold authentic
  rw [if_neg (not_not.mpr crc), opened]

/-- R373: a packet that fails a check is answered with that check's STATUS. -/
theorem onPacket_rejects (h : Arrives txn s n q) {st : Nat} (bad : admitted s q (need q) = .error st) : onPacket s n txn need f = sendAck (takeIn s n) q st := by
  obtain ⟨p, link, here, ok⟩ := authentic_of_arrives h
  unfold onPacket
  rw [here]
  dsimp only
  rw [ok]
  dsimp only
  rw [bad]

/-- R373: a packet that passes the checks acts, once the memory it needs answers. -/
theorem onPacket_acts (h : Arrives txn s n q) {b : Nat × Ctx × Job} (good : admitted s q (need q) = .ok b)
    (answers : unavailable s (need q).addr (need q).len = false) : onPacket s n txn need f = f (takeIn s n) q b := by
  obtain ⟨p, link, here, ok⟩ := authentic_of_arrives h
  unfold onPacket
  rw [here]
  dsimp only
  rw [ok]
  dsimp only
  rw [good]
  exact if_neg (Bool.eq_false_iff.mp answers)

/-- Check 6: what is admitted is aligned. -/
theorem aligned_of_admitted {d : Need} {b : Nat × Ctx × Job} (good : admitted s q d = .ok b) : d.addr % d.align = 0 ∧ d.len % d.align = 0 := by
  unfold admitted at good
  split at good
  · cases good
  · split_ifs at good with unmapped rights odd
    simpa using odd

theorem data_aligned {b : Nat × Ctx × Job} (good : admitted s q (dataNeed q) = .ok b) : q.addr % 64 = 0 ∧ q.data.length % 64 = 0 :=
  aligned_of_admitted good

theorem packetRows_exec {i : Instr} (row : (txn, i, need) ∈ packetRows n) : ∃ f, Machine.exec i s = .next (onPacket s n txn need f) := by
  simp only [packetRows, List.mem_cons, Prod.mk.injEq, List.not_mem_nil, or_false] at row
  rcases row with ⟨rfl, rfl, rfl⟩ | ⟨rfl, rfl, rfl⟩ | ⟨rfl, rfl, rfl⟩ | ⟨rfl, rfl, rfl⟩ | ⟨rfl, rfl, rfl⟩
  · exact ⟨putPacketBody, rfl⟩
  · exact ⟨getReqBody, rfl⟩
  · exact ⟨accPacketBody, rfl⟩
  · exact ⟨atomicBody, rfl⟩
  · exact ⟨putPacketBody, rfl⟩

theorem putRows_exec {i : Instr} (row : (txn, i) ∈ [(1, Instr.putPacket n), (9, Instr.permutePacket n)]) :
    Machine.exec i s = .next (onPacket s n txn dataNeed putPacketBody) := by
  simp only [List.mem_cons, Prod.mk.injEq, List.not_mem_nil, or_false] at row
  rcases row with ⟨rfl, rfl⟩ | ⟨rfl, rfl⟩
  · rfl
  · rfl

end

/-! ## Granules written one after another (R305) -/

section
variable {s t : State} {addr n : Nat} {block : Nat → List Byte} {mark : Nat → Bool}

/-- The state once `n` granules from `addr` have been written: granule `i` holds `block i` and the marker `mark i`, and all else stands as in `s`. -/
structure Filled (s t : State) (addr n : Nat) (block : Nat → List Byte) (mark : Nat → Bool) : Prop where
  stored : StoredFrom s t
  inside : ∀ i j, i < n → j < 64 → Memory.read t.mem.bytes (addr + 64 * i + j) = (block i).getD j 0
  outside : ∀ a, a < addr ∨ addr + 64 * n ≤ a → Memory.read t.mem.bytes a = Memory.read s.mem.bytes a
  marked : ∀ i, i < n → Sparse.get false t.mem.poison (addr / 64 + i) = mark i
  unmarked : ∀ g, g < addr / 64 ∨ addr / 64 + n ≤ g → Sparse.get false t.mem.poison g = Sparse.get false s.mem.poison g

theorem Filled.zero (clean : s.mem.errs = []) (addr : Nat) (block : Nat → List Byte) (mark : Nat → Bool) : Filled s s addr 0 block mark :=
  ⟨.refl clean, fun _ _ h => absurd h (Nat.not_lt_zero _), fun _ _ => rfl, fun _ h => absurd h (Nat.not_lt_zero _), fun _ _ => rfl⟩

/-- Counters are no part of what is written. -/
theorem Filled.counted (h : Filled s t addr n block mark) (cs : Sparse Nat) : Filled s { t with counters := cs } addr n block mark :=
  ⟨h.stored.trans ⟨rfl, h.stored.errs⟩, h.inside, h.outside, h.marked, h.unmarked⟩

theorem Filled.succ (h : Filled s t addr n block mark) (aligned : addr % 64 = 0) (whole : (block n).length = 64) :
    Filled s (storeMarked t (addr + 64 * n) (block n) (mark n)) addr (n + 1) block mark := by
  obtain ⟨stored, bytes, marks⟩ := storeMarked_granule h.stored.errs (a := addr + 64 * n) (by omega) whole (mark n)
  have here : (addr + 64 * n) / 64 = addr / 64 + n := by omega
  rw [here] at marks
  refine ⟨h.stored.trans stored, fun i j hi hj => ?inside, fun a ha => ?outside, fun i hi => ?marked, fun g hg => ?unmarked⟩
  case inside =>
    rw [bytes]
    rcases Nat.lt_succ_iff_lt_or_eq.mp hi with old | rfl
    · rw [Memory.read_store_outside _ _ _ _ (by omega), h.inside i j old hj]
    · exact Memory.read_store_inside _ _ _ _ (whole ▸ hj)
  case outside => rw [bytes, Memory.read_store_outside _ _ _ _ (by omega), h.outside a (by omega)]
  case marked =>
    rw [marks]
    rcases Nat.lt_succ_iff_lt_or_eq.mp hi with old | rfl
    · rw [if_neg (by omega), h.marked i old]
    · exact if_pos rfl
  case unmarked => rw [marks, if_neg (by omega), h.unmarked g (by omega)]

/-- Steps that each write the next granule. -/
theorem Filled.foldl (clean : s.mem.errs = []) {f : State → Nat → State} {k : Nat}
    (next : ∀ t i, i < k → Filled s t addr i block mark → Filled s (f t i) addr (i + 1) block mark) :
    Filled s ((List.range k).foldl f s) addr k block mark := by
  have steps : ∀ i, i ≤ k → Filled s ((List.range i).foldl f s) addr i block mark := by
    intro i
    induction i with
    | zero => exact fun _ => .zero clean addr block mark
    | succ i ih =>
      intro hi
      rw [List.range_succ, List.foldl_append]
      exact next _ i hi (ih (by omega))
  exact steps k (Nat.le_refl k)

theorem Filled.load (h : Filled s t addr n block mark) {i : Nat} (hi : i < n) (whole : (block i).length = 64) : loadMem t (addr + 64 * i) 64 = block i := by
  apply List.ext_getElem
  · simp [loadMem, Memory.load, whole]
  · intro j hj hj'
    have byte := h.inside i j hi (whole ▸ hj')
    rw [List.getD_eq_getElem _ _ hj'] at byte
    simpa [loadMem, Memory.load] using byte

/-- A granule not yet written holds what it held. -/
theorem Filled.ahead (h : Filled s t addr n block mark) : loadMem t (addr + 64 * n) 64 = loadMem s (addr + 64 * n) 64 := 
  load_congr (fun a ha _ => h.outside a (.inr ha))

theorem Filled.poisonedAt_ahead (h : Filled s t addr n block mark) : poisonedAt t (addr + 64 * n) = poisonedAt s (addr + 64 * n) :=
  poisonedAt_stored h.stored (h.unmarked _ (by omega))

theorem StoredFrom.sync (h : StoredFrom s t) : t.sync = s.sync := by rw [h.rest]

end

/-! ## PUT and PERMUTE (R305) -/

/-- Granule `i` of a packet's data. -/
def dataBlock (data : List Byte) (i : Nat) : List Byte := (data.drop (64 * i)).take 64

theorem dataBlock_length {data : List Byte} {i : Nat} (h : 64 * (i + 1) ≤ data.length) : (dataBlock data i).length = 64 := by
  simp only [dataBlock, List.length_take, List.length_drop]
  omega

theorem dataBlock_getD {data : List Byte} {k : Nat} {x : Byte} (h : data[k]? = some x) : (dataBlock data (k / 64)).getD (k % 64) 0 = x := by
  have place : 64 * (k / 64) + k % 64 = k := Nat.div_add_mod k 64
  simp [dataBlock, Nat.mod_lt, place, h]

theorem putData_filled {s : State} (clean : s.mem.errs = []) {addr : Nat} {data : List Byte} (ha : addr % 64 = 0) (hd : data.length % 64 = 0) (pmask : BitVec 64) :
    Filled s (putData s addr data pmask) addr (data.length / 64) (dataBlock data) (fun i => pmask.getLsbD i) := by
  have granules : (data.length + 63) / 64 = data.length / 64 := by omega
  unfold putData
  rw [granules]
  exact Filled.foldl clean (fun t i hi h => h.succ ha (dataBlock_length (by omega)))

/-! ## ACC (R376) -/

theorem accSize_divides (type : Nat) : 64 / accSize type * accSize type = 64 := by
  unfold accSize
  split <;> rfl

theorem accBlock_length (type k : Nat) (old new : List Byte) : (accBlock type k old new).length = k * accSize type := by
  induction k generalizing old new with
  | zero => simp [accBlock]
  | succ k ih =>
    simp only [accBlock, List.length_append, leBytes_length, ih]
    rw [Nat.succ_mul, Nat.add_comm]

/-- Granule `i` once the elements of a packet's data are added. -/
def accSum (s : State) (type addr : Nat) (data : List Byte) (i : Nat) : List Byte :=
  accBlock type (64 / accSize type) (loadMem s (addr + 64 * i) 64) (dataBlock data i)

theorem accSum_length (s : State) (type addr : Nat) (data : List Byte) (i : Nat) : (accSum s type addr data i).length = 64 :=
  (accBlock_length ..).trans (accSize_divides type)

/-- In memory without stored errors reading the granule first only counts. -/
theorem accGranule_clean {t : State} (clean : t.mem.errs = []) (type a : Nat) (data : List Byte) (bad : Bool) : ∃ cs, accGranule type t a data bad =
    storeMarked { t with counters := cs } a (accBlock type (64 / accSize type) (loadMem t a 64) data) (bad || poisonedAt t a) := by
  obtain ⟨cs, touched⟩ := touch_clean clean a 64
  exact ⟨cs, by unfold accGranule; rw [touched]; rfl⟩

theorem accGranules_filled {s : State} (clean : s.mem.errs = []) (type : Nat) {addr : Nat} (ha : addr % 64 = 0) (data : List Byte) (pmask : BitVec 64) (k : Nat) :
    Filled s ((List.range k).foldl (fun t i => accGranule type t (addr + 64 * i) (dataBlock data i) (pmask.getLsbD i)) s) addr k (accSum s type addr data)
      (fun i => pmask.getLsbD i || poisonedAt s (addr + 64 * i)) := by
  refine Filled.foldl clean (fun t i hi h => ?_)
  obtain ⟨cs, added⟩ := accGranule_clean h.stored.errs type (addr + 64 * i) (dataBlock data i) (pmask.getLsbD i)
  rw [added, h.ahead, h.poisonedAt_ahead]
  exact (h.counted cs).succ ha (accSum_length ..)

/-! ## GET, ATOMIC and SIGNAL (R330, R331, Table 11.11) -/

theorem dataPackets_length (s : State) (p : Packet) (laddr raddr len : Nat) : (dataPackets s p laddr raddr len).length = packetsOf len := by
  simp [dataPackets]

theorem getElem?_dataPackets {s : State} {p x : Packet} {laddr raddr len k : Nat} (h : (dataPackets s p laddr raddr len)[k]? = some x) :
    x = { p with pkt := k, npkt := packetsOf len, addr := raddr + 4096 * k, data := loadMem s (laddr + 4096 * k) (Nat.min 4096 (len - 4096 * k)),
                 pmask := poisonBits s (laddr + 4096 * k) (Nat.min 4096 (len - 4096 * k)) } := by
  unfold dataPackets at h
  rw [List.getElem?_map, Option.map_eq_some_iff] at h
  obtain ⟨i, hi, rfl⟩ := h
  obtain ⟨_, place⟩ := List.getElem?_eq_some_iff.mp hi
  rw [List.getElem_range] at place
  rw [place]

/-- R376: a GET reads its bytes and answers with them. -/
theorem getReqBody_clean {s : State} (clean : s.mem.errs = []) (q : Packet) (b : Nat × Ctx × Job) :
    ∃ cs, getReqBody s q b = (getPackets { s with counters := cs } q).foldl sendLoose { s with counters := cs } := by
  obtain ⟨cs, touched⟩ := touch_clean clean q.addr q.arg1.toNat
  exact ⟨cs, by unfold getReqBody; rw [touched]⟩

/-- What an atomic leaves at its address, by the value there (Table 11.11). -/
def atomicResult (q : Packet) (old : Nat) : Nat :=
  atomCode (q.arg0.toNat % 8) (q.arg0.getLsbD 4) (8 * atomWidth q) old (q.arg1.toNat % 2 ^ (8 * atomWidth q)) (leNat (q.data.take 8) % 2 ^ (8 * atomWidth q))

/-- R375: an atomic stores its result, and its response carries the value before it. -/
theorem atomicBody_clean {s : State} (clean : s.mem.errs = []) (q : Packet) (b : Nat × Ctx × Job) :
    let old := leNat (loadMem s q.addr (atomWidth q))
    ∃ (t : State) (a : Packet), atomicBody s q b = sendLoose t.tick a ∧ StoredFrom s t ∧
      t.mem.bytes = Memory.store s.mem.bytes q.addr (leBytes (atomWidth q) (atomicResult q old)) ∧
      a.txn = 7 ∧ a.dest = q.src ∧ a.msg = q.msg ∧ a.site = q.site ∧ a.arg0 = BitVec.ofNat 64 old := by
  intro old
  obtain ⟨cs, touched⟩ := touch_clean clean q.addr (atomWidth q)
  obtain ⟨stored, bytes, -⟩ := storeMem_clean (s := { s with counters := cs }) clean q.addr (leBytes (atomWidth q) (atomicResult q old))
  have counted : StoredFrom s { s with counters := cs } := ⟨rfl, clean⟩
  unfold atomicBody
  dsimp only
  rw [touched]
  exact ⟨_, _, rfl, counted.trans stored, bytes, rfl, rfl, rfl, rfl, rfl⟩

section
variable {s : State} {n : Nat} {q : Packet}

theorem signalIn_accepts (h : Arrives 5 s n q) {ctx : Nat} {c : Ctx} {j : Job} (bound : s.boundTo q.fpn = some (ctx, c, j))
    (inside : q.arg0.toNat % 65536 < c.syncObjects) : signalIn s n = sendAck (acceptSignal (takeIn s n) ctx q (q.arg0.toNat % 65536)) q 0 := by
  obtain ⟨p, link, here, ok⟩ := authentic_of_arrives h
  unfold signalIn
  rw [here]
  dsimp only
  rw [ok]
  dsimp only
  rw [bound]
  dsimp only
  rw [if_pos inside]

theorem signalIn_rejects (h : Arrives 5 s n q) (outside : ∀ ctx c j, s.boundTo q.fpn = some (ctx, c, j) → c.syncObjects ≤ q.arg0.toNat % 65536) :
    signalIn s n = sendAck (rejectSignal (takeIn s n) q (q.arg0.toNat % 65536)) q 0 := by
  obtain ⟨p, link, here, ok⟩ := authentic_of_arrives h
  unfold signalIn
  rw [here]
  dsimp only
  rw [ok]
  dsimp only
  cases bound : s.boundTo q.fpn with
  | none => rfl
  | some b => exact congrArg (sendAck · q 0) (if_neg (Nat.not_lt.mpr (outside b.1 b.2.1 b.2.2 bound)))

end

/-- Settles O45, transaction by transaction: the checks (`onPacket_rejects`, `onPacket_acts`), then what the packet does to memory (`putData_filled`,
`accGranules_filled`, `atomicBody_clean`) and with what it is answered. -/
theorem packetsActAndAreAnswered : Obligations.PacketsActAndAreAnswered := by
  intro s n q len
  refine ⟨fun txn i need st row h bad => ?rejected, fun txn i b row h good answers clean => ?put, fun b h good answers clean => ?acc,
    fun b h good answers clean => ?get, fun b h good answers clean => ?atomic, fun h => ⟨fun ctx c j bound inside => ?signal, fun outside => ?unbound⟩⟩
  case rejected =>
    obtain ⟨f, exec⟩ := packetRows_exec row
    rw [exec, onPacket_rejects h bad]
  case put =>
    obtain ⟨ha, hd⟩ := data_aligned good
    have filled := putData_filled (s := takeIn s n) clean ha hd q.pmask
    have whole : 64 * (q.data.length / 64) = len := Nat.mul_div_cancel' (Nat.dvd_of_mod_eq_zero hd)
    refine ⟨_, (putRows_exec row).trans (congrArg Host.Outcome.next (onPacket_acts h good answers)), fun k x hx => ?_, fun a out => ?_, fun k hk => ?_,
      filled.stored.groups, filled.stored.sync⟩
    · have hk : k < len := (List.getElem?_eq_some_iff.mp hx).1
      rw [← dataBlock_getD hx, ← filled.inside (k / 64) (k % 64) (by omega) (Nat.mod_lt _ (by decide)), Nat.add_assoc, Nat.div_add_mod]
    · exact filled.outside a (whole.symm ▸ out)
    · rw [← filled.marked (k / 64) (by omega)]
      congr 1
      omega
  case acc =>
    obtain ⟨ha, hd⟩ := data_aligned good
    have filled := accGranules_filled (s := takeIn s n) clean (q.arg0.toNat % 16) ha q.data q.pmask (len / 64)
    have whole : 64 * (len / 64) = len := Nat.mul_div_cancel' (Nat.dvd_of_mod_eq_zero hd)
    exact ⟨_, congrArg Host.Outcome.next (onPacket_acts h good answers), fun k hk => filled.load hk (accSum_length ..),
      fun a out => filled.outside a (whole.symm ▸ out), filled.stored.groups, filled.stored.sync⟩
  case get =>
    obtain ⟨cs, answer⟩ := getReqBody_clean (s := takeIn s n) clean q b
    refine ⟨_, _, congrArg Host.Outcome.next ((onPacket_acts h good answers).trans answer), rfl, rfl, rfl, dataPackets_length .., fun k p hp => ?_⟩
    rw [getElem?_dataPackets hp]
    exact ⟨rfl, rfl, rfl, rfl, rfl, rfl, rfl⟩
  case atomic =>
    intro w old
    obtain ⟨t, a, answer, stored, bytes, fields⟩ := atomicBody_clean (s := takeIn s n) clean q b
    have here : Memory.load t.mem.bytes q.addr w = leBytes w (atomicResult q old) := by
      have loaded := Memory.load_store s.mem.bytes q.addr (leBytes w (atomicResult q old))
      rw [leBytes_length] at loaded
      exact bytes ▸ loaded
    exact ⟨t.tick, a, congrArg Host.Outcome.next ((onPacket_acts h good answers).trans answer), here,
      fun x out => (congrArg (Memory.read · x) bytes).trans (Memory.read_store_outside _ _ _ _ (by rwa [leBytes_length])), stored.groups, stored.sync, fields⟩
  case signal => exact ⟨_, _, congrArg Host.Outcome.next (signalIn_accepts h bound inside), rfl, rfl, rfl, rfl, rfl, rfl, rfl⟩
  case unbound =>
    have rejected := rejectSignal_within (takeIn s n) q (q.arg0.toNat % 65536)
    exact ⟨_, congrArg Host.Outcome.next (signalIn_rejects h outside), rejected.syncSame (by decide), rejected.memSame (by decide) (by decide),
      rejected.groupsSame (by decide)⟩

end Sys2Proof.Machine
end

section
/-! SUPPORT. Links: their states, flits received, credits and acknowledgements, flits sent again, and failover (R353 to R358, R361, R381). -/

namespace Sys2Proof.Machine

open Sys2Proof

section
variable {s : State} {n : Nat}

/-! ## Link state rows (R353, R354) -/

/-- A link in service moves on from the state its row leaves. -/
theorem linkStep_served (h : Sys2Proof.Served s n) {st : LinkState} (stands : (s.link n).st = st) (f : State → State) : linkStep s n st f = .next (f s) := by
  obtain ⟨exist, up, clock, die⟩ := h
  exact congrArg Host.Outcome.next (if_pos ⟨exist, up, clock, die, stands⟩)

theorem trainRows_exec (h : Sys2Proof.Served s n) {i : Instr} {a b : LinkState} (row : (i, a, b) ∈ trainRows n) (stands : (s.link n).st = a) :
    Machine.exec i s = .next (s.setLink n { s.link n with st := b }) := by
  simp only [trainRows, List.mem_cons, Prod.mk.injEq, List.not_mem_nil, or_false] at row
  rcases row with ⟨rfl, rfl, rfl⟩ | ⟨rfl, rfl, rfl⟩ | ⟨rfl, rfl, rfl⟩ | ⟨rfl, rfl, rfl⟩
  · exact linkStep_served h stands (fun t => setLinkSt t n .equalise)
  · exact linkStep_served h stands (fun t => setLinkSt t n .align)
  · exact linkStep_served h stands (fun t => setLinkSt t n .exchange)
  · exact linkStep_served h stands (fun t => setLinkSt t n .detect)

theorem trainTimeout_fails (h : Sys2Proof.Served s n) (training : (s.link n).st = .equalise ∨ (s.link n).st = .align) :
    Machine.exec (.trainTimeout n) s = .next ((setLinkSt s n .down).bump 0x0500000F 1) :=
  congrArg Host.Outcome.next (if_pos ⟨h.exist, h.up, training⟩)

/-- An event changes no link. -/
@[simp] theorem postEvent_linkAt (s : State) (fn code detail : Nat) (rec : List Byte) (m : Nat) : (postEvent s fn code detail rec).link m = s.link m := by
  unfold State.link
  rw [(postEvent_within s fn code detail rec).fabricSame (by decide)]

theorem exchange_good (h : Sys2Proof.Served s n) (stands : (s.link n).st = .exchange) {farPort farSlot : Nat} {far : BitVec 64} (farSealed : Bool)
    (ok : identityOk s n farPort farSlot far = true) : Machine.exec (.exchange n farPort farSlot far farSealed) s = .next (activate s n farSealed) := by
  change execExchange n farPort farSlot far farSealed s = _
  unfold execExchange
  rw [linkStep_served h stands]
  exact congrArg Host.Outcome.next (if_pos ok)

theorem exchange_bad (h : Sys2Proof.Served s n) (stands : (s.link n).st = .exchange) {farPort farSlot : Nat} {far : BitVec 64} (farSealed : Bool)
    (bad : identityOk s n farPort farSlot far = false) : Machine.exec (.exchange n farPort farSlot far farSealed) s =
      .next (postEvent (setLinkSt s n .miswired) 0 0x0581 n (rec8 [farPort, farSlot, far.toNat])) := by
  change execExchange n farPort farSlot far farSealed s = _
  unfold execExchange
  rw [linkStep_served h stands]
  exact congrArg Host.Outcome.next (if_neg (Bool.eq_false_iff.mp bad))

/-! ## Credits and acknowledgements (R356, R361) -/

theorem takeCredit_eq (l : Link) (share vc : Nat) : ∃ c, takeCredit l share vc = { l with credits := c } := by
  unfold takeCredit
  dsimp only
  split
  · exact ⟨_, rfl⟩
  · exact ⟨_, rfl⟩

theorem foldl_takeCredit_eq (fs : List TxFlit) (l : Link) : ∃ c, fs.foldl (fun x f => takeCredit x f.share f.vc) l = { l with credits := c } :=
  List.foldlRecOn (motive := fun x => ∃ c, x = { l with credits := c }) fs _ ⟨_, rfl⟩ (fun x ⟨c, hx⟩ f _ => by
    obtain ⟨c', taken⟩ := takeCredit_eq x f.share f.vc
    exact ⟨c', by rw [taken, hx]⟩)

theorem giveCredit_eq (l : Link) (share vc : Nat) : ∃ c, giveCredit l share vc = { l with credits := c } := by
  unfold giveCredit
  dsimp only
  split
  · exact ⟨_, rfl⟩
  · exact ⟨_, rfl⟩

theorem giveCredits_eq (share vc k : Nat) (l : Link) : ∃ c, giveCredits share vc k l = { l with credits := c } := by
  induction k generalizing l with
  | zero => exact ⟨_, rfl⟩
  | succ k ih =>
    obtain ⟨c, given⟩ := giveCredit_eq l share vc
    obtain ⟨c', rest⟩ := ih { l with credits := c }
    exact ⟨c', by rw [giveCredits, given, rest]⟩

theorem takeAck_eq (l : Link) (ack : Nat) : ∃ r p, takeAck l ack = { l with replay := r, noProgress := p } := by
  unfold takeAck
  split
  · exact ⟨_, _, rfl⟩
  · exact ⟨_, _, rfl⟩

/-- Acknowledgements and credits leave the sequence number that a link expects. -/
theorem expSeq_acknowledged (l : Link) (share vc k ack : Nat) : (giveCredits share vc k (takeAck l ack)).expSeq = l.expSeq := by
  obtain ⟨r, p, taken⟩ := takeAck_eq l ack
  obtain ⟨c, given⟩ := giveCredits_eq share vc k (takeAck l ack)
  rw [given, taken]

/-! ## RETRAIN (R353, R357) -/

/-- A link that retrains keeps what it holds, but for its credits at a change of mode. -/
theorem enterRetrain_link (s : State) (n : Nat) (mode : Bool) :
    (∃ c o, (enterRetrain s n mode).link n = { s.link n with st := .retrain, retrains := (s.link n).retrains + 1, credits := c, crOwed := o }) ∧
      ∀ m, m ≠ n → (enterRetrain s n mode).link m = s.link m := by
  refine ⟨?_, fun m hm => State.link_setLink_ne _ _ hm⟩
  have written : (enterRetrain s n mode).link n = _ := State.link_setLink ..
  rw [written]
  cases mode with
  | false => exact ⟨_, _, rfl⟩
  | true =>
    obtain ⟨c, taken⟩ := foldl_takeCredit_eq (s.link n).replay
      { s.link n with st := .retrain, retrains := (s.link n).retrains + 1, credits := startCredits (s.link n).farSealed, crOwed := [] }
    exact ⟨c, [], taken⟩

theorem retrainEntry_enters (h : Sys2Proof.Served s n) (active : (s.link n).st = .active) {cause : RetrainCause} (due : cause ≠ .replays ∨ 16 ≤ (s.link n).noProgress) :
    Machine.exec (.retrainEntry n cause) s = .next (enterRetrain s n (cause == .modeChange)) := by
  change execRetrainEntry n cause s = _
  unfold execRetrainEntry
  rw [linkStep_served h active]
  refine congrArg Host.Outcome.next (if_neg ?_)
  rintro ⟨replays, progress⟩
  exact due.elim (· replays) (Nat.not_le.mpr progress)

theorem resend_empty (empty : (s.link n).replay = []) : resend s n = s := if_pos (by rw [empty]; rfl)

theorem pump_empty (empty : (s.link n).txq = []) : pump s n = s := by
  unfold pump
  rw [empty]
  rfl

/-- R358: a link that fails while another of its port retrains leaves its flits where they are. -/
theorem leaveService_sibling (retrain : (s.link n).st = .retrain) (quiet : ∀ m ∈ linksOf (portOfLink n), m ≠ n → (s.link m).st ≠ .active)
    (sibling : ∃ m ∈ linksOf (portOfLink n), m ≠ n ∧ (s.link m).st = .retrain) (detach : Bool) :
    leaveService s n .down detach = s.setLink n { s.link n with st := .down, displaced := true, rxPart := [], halts := [] } := by
  have none_active : failoverLink (s.setLink n { s.link n with st := .down, displaced := true, rxPart := [], halts := [] }) (portOfLink n) = none := by
    refine List.find?_eq_none.mpr (fun m hm => ?_)
    by_cases same : m = n
    · simp [same, isActive]
    · simp [isActive, State.link_setLink_ne _ _ same, quiet m hm same]
  obtain ⟨m, hm, ne, retrains⟩ := sibling
  unfold leaveService
  dsimp only
  rw [if_neg (by simp [retrain]), none_active]
  exact if_pos (List.any_eq_true.mpr ⟨m, hm, by simp [State.link_setLink_ne _ _ ne, retrains]⟩)

/-! ## Sending again (R357) -/

/-- What sending `k` flits again leaves of a link: each has gone out once more and is still held. -/
structure Resent (n k : Nat) (s t : State) : Prop where
  others : ∀ m, m ≠ n → t.link m = s.link m
  replay : (t.link n).replay = (s.link n).replay
  wire : (t.link n).wire.length = (s.link n).wire.length + k
  nextSeq : (t.link n).nextSeq = (s.link n).nextSeq
  expSeq : (t.link n).expSeq = (s.link n).expSeq
  inject : (t.link n).inject = (s.link n).inject

theorem Resent.trans {j k : Nat} {t u : State} (h : Resent n j s t) (h' : Resent n k t u) : Resent n (j + k) s u :=
  ⟨fun m hm => (h'.others m hm).trans (h.others m hm), h'.replay.trans h.replay, by rw [h'.wire, h.wire, Nat.add_assoc], h'.nextSeq.trans h.nextSeq,
    h'.expSeq.trans h.expSeq, h'.inject.trans h.inject⟩

/-- With no injection set a flit leaves as it is. -/
theorem resendFlit_resent (whole : (s.link n).inject = none) (f : TxFlit) : Resent n 1 s (resendFlit n s f) := by
  have hits (kind : Nat) : injectHits s (s.link n) kind f.vc = false := by
    unfold injectHits
    rw [whole]
  have sent : resendFlit n s f = (s.setLink n (emit (s.link n) true f.vc f.seq f.payload none)).bump 0x05000001 1 := by
    unfold resendFlit
    simp [hits, whole]
  have link : (resendFlit n s f).link n = emit (s.link n) true f.vc f.seq f.payload none := by
    rw [sent]
    exact State.link_setLink ..
  refine ⟨fun m hm => ?others, ?_, ?wire, ?_, ?_, ?_⟩
  case others =>
    rw [sent]
    exact State.link_setLink_ne _ _ hm
  case wire => rw [link]; simp [emit]
  all_goals rw [link]; rfl

theorem foldl_resendFlit_resent (whole : (s.link n).inject = none) (fs : List TxFlit) : Resent n fs.length s (fs.foldl (resendFlit n) s) := by
  induction fs generalizing s with
  | nil => exact ⟨fun _ _ => rfl, rfl, rfl, rfl, rfl, rfl⟩
  | cons f fs ih =>
    have first := resendFlit_resent whole f
    rw [List.length_cons, Nat.add_comm]
    exact first.trans (ih (first.inject.trans whole))

/-- The state in which a resend series starts: it is counted, and all that is held is still to be sent. -/
def seriesStart (s : State) (n : Nat) : State :=
  let s1 := (s.setLink n { s.link n with noProgress := (s.link n).noProgress + 1 }).bump 0x05000005 1
  { s1 with risk := { s1.risk with replays := s1.risk.replays + decayUnit } }

theorem resend_series (held : (s.link n).replay ≠ []) : resend s n = (s.link n).replay.foldl (resendFlit n) (seriesStart s n) := by
  have not_empty : ¬ (s.link n).replay.isEmpty = true := by simpa using held
  exact if_neg not_empty

theorem seriesStart_resent (s : State) (n : Nat) : Resent n 0 s (seriesStart s n) := by
  have here : (seriesStart s n).link n = { s.link n with noProgress := (s.link n).noProgress + 1 } := State.link_setLink s n _
  refine ⟨fun m hm => State.link_setLink_ne s _ hm, ?_, ?wire, ?_, ?_, ?_⟩
  case wire => rw [here]; rfl
  all_goals rw [here]

/-- R357: a resend sends every flit held, and keeps it. -/
theorem resend_resent (whole : (s.link n).inject = none) : Resent n (s.link n).replay.length s (resend s n) := by
  by_cases empty : (s.link n).replay = []
  · rw [resend_empty empty, empty]
    exact ⟨fun _ _ => rfl, rfl, rfl, rfl, rfl, rfl⟩
  · have started := seriesStart_resent s n
    rw [resend_series empty, ← Nat.zero_add (s.link n).replay.length]
    exact started.trans (foldl_resendFlit_resent (started.inject.trans whole) _)

/-! ## Flits received (R355 to R357, R381) -/

theorem nakOnce_link (s : State) (n : Nat) :
    (nakOnce s n).link n = (if (s.link n).nakDone then s.link n else { s.link n with nakOwed := true, nakDone := true }) ∧
      ∀ m, m ≠ n → (nakOnce s n).link m = s.link m := by
  unfold nakOnce
  dsimp only
  split
  · exact ⟨rfl, fun _ _ => rfl⟩
  · exact ⟨State.link_setLink .., fun m hm => State.link_setLink_ne _ _ hm⟩

theorem nakOnce_arrived (s : State) (n : Nat) : (nakOnce s n).fabric.arrived = s.fabric.arrived := by
  unfold nakOnce
  dsimp only
  split <;> rfl

/-- R356: a flit with a bad CRC is not read. -/
theorem receive_damaged (active : (s.link n).st = .active) {bytes : List Byte} (length : bytes.length = 256)
    (bad : crc64xz (bytes.take 248) ≠ field bytes 248 8) :
    receive s n bytes = answer (nakOnce ((s.bump 0x05000004 1).bump (0x05100000 + n) 1) n) n false := by
  unfold receive
  dsimp only
  rw [if_neg (by simp [active, length]), if_pos bad]

/-- The state once the header `h` of a good flit has acted: its halt, its acknowledgement and its credits. -/
def headerRead (s : State) (n h : Nat) : State :=
  (haltBit s n h).setLink n (giveCredits (h / 2 ^ 34 % 8) (h / 2 ^ 31 % 8) (h / 2 ^ 37 % 256) (takeAck ((haltBit s n h).link n) (h / 2 ^ 17 % 4096)))

/-- R355 to R357: a good flit that asks for no resend. -/
theorem receive_good (active : (s.link n).st = .active) {bytes : List Byte} {h : Nat} (good : GoodFlit bytes h) (noNak : h / 2 ^ 29 % 2 = 0) :
    receive s n bytes =
      if h % 4 = 1 then
        if h / 2 ^ 5 % 4096 = ((headerRead s n h).link n).expSeq then
          answer (acceptFlit (headerRead s n h) n (h / 4 % 8) (h / 2 ^ 5 % 4096) ((bytes.drop 8).take 240)) n true
        else answer (nakOnce (headerRead s n h) n) n false
      else answer (headerRead s n h) n false := by
  obtain ⟨length, crc, rfl⟩ := good
  have noResend : ¬ field bytes 0 8 / 2 ^ 29 % 2 = 1 := by omega
  unfold receive
  dsimp only
  rw [if_neg (by simp [active, length]), if_neg (not_not.mpr crc), if_neg noResend]
  rfl

theorem haltBit_clear {h : Nat} (clear : h / 2 ^ 30 % 2 = 0) : haltBit s n h = s := if_neg (fun halt => by omega)

theorem haltBit_new {h : Nat} (halt : h / 2 ^ 30 % 2 = 1) (new : h / 2 ^ 61 % 8 ≠ haltIdOf s (h / 2 ^ 45 % 2 ^ 16)) :
    haltBit s n h = actHalt s (h / 2 ^ 45 % 2 ^ 16) (h / 2 ^ 61 % 8) 0 n := if_pos ⟨halt, new⟩

theorem headerRead_mem (s : State) (n h : Nat) : (headerRead s n h).mem = s.mem := (haltBit_within ..).memSame (by decide) (by decide)

theorem haltIdOf_setLink (s : State) (n : Nat) (l : Link) (fpn : Nat) : haltIdOf (s.setLink n l) fpn = haltIdOf s fpn := rfl

theorem headerRead_haltId {h : Nat} (halt : h / 2 ^ 30 % 2 = 1) (new : h / 2 ^ 61 % 8 ≠ haltIdOf s (h / 2 ^ 45 % 2 ^ 16)) :
    haltIdOf (headerRead s n h) (h / 2 ^ 45 % 2 ^ 16) = h / 2 ^ 61 % 8 := by
  unfold headerRead
  rw [haltBit_new halt new, haltIdOf_setLink, haltIdOf_actHalt]

theorem headerRead_expSeq {h : Nat} (clear : h / 2 ^ 30 % 2 = 0) : ((headerRead s n h).link n).expSeq = (s.link n).expSeq := by
  unfold headerRead
  rw [haltBit_clear clear, State.link_setLink]
  exact expSeq_acknowledged ..

theorem flitReceive_exec (h : Sys2Proof.Served s n) (bytes : List Byte) : Machine.exec (.flitReceive n bytes) s = .next (receive s n bytes) :=
  congrArg Host.Outcome.next (if_pos ⟨h.exist, h.up⟩)

theorem haltFlit_exec (h : Sys2Proof.Served s n) {bytes : List Byte} {hd : Nat} (good : GoodFlit bytes hd) (halt : hd / 2 ^ 30 % 2 = 1)
    (new : hd / 2 ^ 61 % 8 ≠ haltIdOf s (hd / 2 ^ 45 % 2 ^ 16)) : Machine.exec (.haltFlit n bytes) s = .next (receive s n bytes) := by
  obtain ⟨-, crc, rfl⟩ := good
  exact congrArg Host.Outcome.next (if_pos ⟨h.exist, h.up, crc, halt, new⟩)

/-! ## Failover (R358) -/

theorem mem_spliceVc {held q : List TxFlit} {v : Nat} {x : TxFlit} (h : x ∈ q ∨ (x ∈ held ∧ x.vc = v)) : x ∈ spliceVc held q v := by
  unfold spliceVc
  extract_lets mine begun
  clear_value begun
  by_cases here : x.vc = v
  · rcases h with queued | ⟨hx, -⟩
    · have own : x ∈ mine := List.mem_filter.mpr ⟨queued, by simpa using here⟩
      rw [← List.take_append_drop begun mine, List.mem_append] at own
      simp only [List.mem_append]
      tauto
    · simp [hx, here]
  · have queued : x ∈ q := h.resolve_right (fun k => here k.2)
    simp [queued, here]

/-- A held flit stands in the queue once its VC has been spliced in, and stays there. -/
theorem mem_foldl_spliceVc {held : List TxFlit} {x : TxFlit} (hx : x ∈ held) (vs : List Nat) {q : List TxFlit} (h : x ∈ q ∨ x.vc ∈ vs) :
    x ∈ vs.foldl (fun q v => spliceVc held q v) q := by
  induction vs generalizing q with
  | nil => simpa using h
  | cons v vs ih =>
    refine ih ?_
    rcases h with queued | listed
    · exact .inl (mem_spliceVc (.inl queued))
    · rcases List.mem_cons.mp listed with here | later
      · exact .inl (mem_spliceVc (.inr ⟨hx, here⟩))
      · exact .inr later

/-- The flits that a failed link holds past the last one accepted, and those it has not sent. -/
def heldAfter (l : Link) (lastSeq : Nat) : List TxFlit :=
  (match l.replay.findIdx? (fun f => f.seq == lastSeq % 4096) with
    | some i => l.replay.drop (i + 1)
    | none => l.replay) ++ l.txq

theorem mem_heldAfter {l : Link} {lastSeq i : Nat} {x : TxFlit}
    (last : ∃ y, l.replay[i]? = some y ∧ y.seq = lastSeq % 4096 ∧ ∀ z ∈ l.replay.take i, z.seq ≠ lastSeq % 4096) (hx : x ∈ l.replay.drop (i + 1)) :
    x ∈ heldAfter l lastSeq := by
  obtain ⟨y, at_i, seq, first⟩ := last
  obtain ⟨hi, rfl⟩ := List.getElem?_eq_some_iff.mp at_i
  have found : l.replay.findIdx? (fun f => f.seq == lastSeq % 4096) = some i := by
    refine List.findIdx?_eq_some_iff_getElem.mpr ⟨hi, by simpa using seq, fun j hj => ?_⟩
    simpa using first _ (List.mem_take_iff_getElem.mpr ⟨j, by omega, rfl⟩)
  unfold heldAfter
  rw [found]
  exact List.mem_append_left _ hx

/-- R358: the flits of a link that is out of service move to the link on which FAILOVER came. -/
def failedOver (s : State) (n f lastSeq : Nat) : State :=
  let t := s.setLink f { s.link f with replay := [], txq := [] }
  t.setLink n { t.link n with txq := (List.range 8).foldl (fun q v => spliceVc (heldAfter (s.link f) lastSeq) q v) (t.link n).txq }

theorem takeFailover_moves {slot lastSeq : Nat} (hslot : slot < 4) (other : 4 * portOfLink n + slot ≠ n) (out : (s.link (4 * portOfLink n + slot)).st ≠ .active) :
    takeFailover s n slot lastSeq = pump (failedOver s n (4 * portOfLink n + slot) lastSeq) n := by
  unfold takeFailover
  dsimp only
  rw [Nat.mod_eq_of_lt hslot, if_neg (by simp [out, other])]
  rfl

theorem failover_exec (h : Sys2Proof.Served s n) (active : (s.link n).st = .active) {slot : Nat} (hslot : slot < 4) (lastSeq : Nat) :
    Machine.exec (.failover n slot lastSeq) s = .next (takeFailover s n slot lastSeq) :=
  congrArg Host.Outcome.next (if_pos ⟨h.exist, h.up, by simp [isActive, active], hslot⟩)

theorem replayTimeout_exec (h : Sys2Proof.Served s n) (active : (s.link n).st = .active) : Machine.exec (.replayTimeout n) s = .next (resend s n) :=
  congrArg Host.Outcome.next (if_pos ⟨h.exist, h.up, by simp [isActive, active]⟩)

theorem realignDone_idle (h : Sys2Proof.Served s n) (retrain : (s.link n).st = .retrain) (noReplay : (s.link n).replay = []) (noQueue : (s.link n).txq = []) :
    Machine.exec (.realignDone n) s = .next (s.setLink n { s.link n with st := .active, noProgress := 0 }) := by
  change execRealignDone n s = _
  unfold execRealignDone
  rw [linkStep_served h retrain, resend_empty (by rw [State.link_setLink]; exact noReplay), pump_empty (by rw [State.link_setLink]; exact noQueue)]

theorem retrainFail_exec (h : Sys2Proof.Served s n) (retrain : (s.link n).st = .retrain) :
    ∃ code, Machine.exec (.retrainFail n) s = .next (postEvent (leaveService s n .down false).tick 0 0x0580 n code) :=
  ⟨_, linkStep_served h retrain (fun t => postEvent (leaveService t n .down false).tick 0 0x0580 n
    (rec8 [6, 7, Config.freeNat (leaveService t n .down false).free, anyEpoch (leaveService t n .down false)]))⟩

end

/-- Settles O47: the rows of a link's state by the state each leaves (`linkStep_served`), a flit by its CRC and its header (`receive_damaged`,
`receive_good`), a resend flit by flit (`resend_resent`), and FAILOVER by the queues it joins (`takeFailover_moves`). -/
theorem linksTrainServeAndFailOver : Obligations.LinksTrainServeAndFailOver := by
  intro s n served l others
  refine ⟨fun i a b => trainRows_exec served, fun detect => ⟨_, linkStep_served served detect (fun t => t.bump 0x0500000F 1), rfl⟩,
    fun training => ⟨_, trainTimeout_fails served training, rfl⟩, fun farPort farSlot far farSealed stands => ?exchange,
    fun cause active due => ?retrain, fun retrain noReplay noQueue => realignDone_idle served retrain noReplay noQueue,
    fun retrain quiet sibling => ?fails, fun active bytes length bad => ?damaged, fun active bytes h good noHalt noNak => ?good, fun active whole => ?resend,
    fun active bytes h good halt new idle noNak => ?halt, fun slot lastSeq active hslot => ?failover⟩
  case exchange =>
    cases ok : identityOk s n farPort farSlot far with
    | true =>
      have here : (activate s n farSealed).link n = _ := State.link_setLink ..
      refine ⟨_, exchange_good served stands farSealed ok, fun m hm => State.link_setLink_ne _ _ hm, fun _ => ?_, nofun⟩
      rw [here]
      exact ⟨rfl, rfl, rfl, rfl, rfl, rfl, rfl⟩
    | false =>
      obtain ⟨here, rest⟩ := setLinkSt_link s n .miswired
      exact ⟨_, exchange_bad served stands farSealed ok, fun m hm => (postEvent_linkAt ..).trans (rest m hm), nofun,
        fun _ => (postEvent_linkAt ..).trans here⟩
  case retrain =>
    obtain ⟨⟨c, o, here⟩, rest⟩ := enterRetrain_link s n (cause == .modeChange)
    refine ⟨_, retrainEntry_enters served active due, rest, ?_⟩
    rw [here]
    exact ⟨rfl, rfl, rfl, rfl, rfl⟩
  case fails =>
    obtain ⟨code, row⟩ := retrainFail_exec served retrain
    rw [leaveService_sibling retrain quiet sibling] at row
    have here (m : Nat) : _ = _ := postEvent_linkAt (s.setLink n { s.link n with st := .down, displaced := true, rxPart := [], halts := [] }).tick 0 0x0580 n code m
    refine ⟨_, row, fun m hm => (here m).trans (State.link_setLink_ne s _ hm), ?_⟩
    rw [here, State.tick_linkAt, State.link_setLink]
    exact ⟨rfl, rfl⟩
  case damaged =>
    obtain ⟨here, rest⟩ := nakOnce_link ((s.bump 0x05000004 1).bump (0x05100000 + n) 1) n
    exact ⟨_, (flitReceive_exec served bytes).trans (congrArg Host.Outcome.next (receive_damaged active length bad)), rest, here, nakOnce_arrived ..⟩
  case good =>
    have read : headerRead s n h = s.setLink n (giveCredits (h / 2 ^ 34 % 8) (h / 2 ^ 31 % 8) (h / 2 ^ 37 % 256) (takeAck l (h / 2 ^ 17 % 4096))) := by
      unfold headerRead
      rw [haltBit_clear noHalt]
    have expected : ((headerRead s n h).link n).expSeq = l.expSeq := headerRead_expSeq noHalt
    have row := (flitReceive_exec served bytes).trans (congrArg Host.Outcome.next (receive_good active good noNak))
    rw [expected, read] at row
    refine ⟨fun idle => ?_, fun data inOrder => ?_, fun data gap => ?_⟩
    · rw [row, if_neg idle]
    · rw [row, if_pos data, if_pos inOrder, inOrder]
    · rw [row, if_pos data, if_neg gap]
  case resend =>
    obtain ⟨rest, replay, wire, nextSeq, expSeq, -⟩ := resend_resent whole
    exact ⟨_, replayTimeout_exec served active, rest, replay, wire, nextSeq, expSeq⟩
  case halt =>
    refine ⟨headerRead s n h, ?_, headerRead_haltId halt new, headerRead_mem s n h⟩
    rw [haltFlit_exec served good halt new, receive_good active good noNak, if_neg idle]
  case failover =>
    intro f other out
    have row := (failover_exec served active hslot lastSeq).trans (congrArg Host.Outcome.next (takeFailover_moves hslot other out))
    have here : (failedOver s n f lastSeq).link n = _ := State.link_setLink ..
    have failed : (failedOver s n f lastSeq).link f = { s.link f with replay := [], txq := [] } :=
      (State.link_setLink_ne _ _ other).trans (State.link_setLink ..)
    refine ⟨failedOver s n f lastSeq, row, by rw [failed], by rw [failed],
      fun m hn hf => (State.link_setLink_ne _ _ hn).trans (State.link_setLink_ne _ _ hf), fun i x last hx hvc => ?_⟩
    rw [here]
    exact mem_foldl_spliceVc (mem_heldAfter last hx) (List.range 8) (.inr (List.mem_range.mpr hvc))

end Sys2Proof.Machine
end

section
/-! SUPPORT. The job of a context: what binds it, what leaves it alone, and what a row of a step leaves (R393, R417). -/

namespace Sys2Proof.Machine

open Sys2Proof

/-! ## The job of a context -/

theorem jobAt_eq_some {s : State} {n : Nat} {x : Ctx} {j : Job} : jobAt s n = some (x, j) ↔ s.ctx? n = some x ∧ x.job = some j := by
  simp only [jobAt, Option.bind_eq_some_iff, Option.map_eq_some_iff, Prod.mk.injEq]
  constructor
  · rintro ⟨c, hc, i, hi, rfl, rfl⟩
    exact ⟨hc, hi⟩
  · rintro ⟨hx, hj⟩
    exact ⟨x, hx, j, hj, rfl, rfl⟩

theorem jobAt_congr {s t : State} (h : t.ctxs = s.ctxs) (n : Nat) : jobAt t n = jobAt s n := by
  unfold jobAt State.ctx?
  rw [h]

theorem setJob_eq {s : State} {n : Nat} {x : Ctx} (hx : s.ctx? n = some x) (j : Job) : setJob s n j = s.setCtx n { x with job := some j } := by
  unfold setJob
  rw [hx]

theorem jobAt_setJob {s : State} {n : Nat} {x : Ctx} (hx : s.ctx? n = some x) (j : Job) : jobAt (setJob s n j) n = some ({ x with job := some j }, j) := by
  rw [setJob_eq hx]
  exact jobAt_eq_some.mpr ⟨State.ctx_setCtx .., rfl⟩

/-- A member's rank rests on where its module stands and on the box of its job. -/
theorem ownRank_congr {s t : State} {j y : Job} (h : t.lantern = s.lantern) (ho : y.origin = j.origin) (he : y.extent = j.extent) :
    ownRank t y = ownRank s j := by
  unfold ownRank rankOf ownCoord axisLen
  rw [h, ho, he]

theorem isRoot_congr {s t : State} {j y : Job} (h : t.lantern = s.lantern) (ho : y.origin = j.origin) (he : y.extent = j.extent) :
    isRoot t y = isRoot s j := by
  unfold isRoot
  rw [ownRank_congr h ho he]

/-- The children of this member, and whether each has sent its OK. -/
theorem childrenOk_congr {s t : State} {j y : Job} (h : t.lantern = s.lantern) (ho : y.origin = j.origin) (he : y.extent = j.extent)
    (hk : y.childOk = j.childOk) : childrenOk t y = childrenOk s j := by
  unfold childrenOk childrenOf parentOf rankCoord rankOf jobSize
  rw [ownRank_congr h ho he, he, hk]

/-! ## What leads to a job -/

/-- From `s` the parts `m` may have changed to give `t`, in which context `n` has the job `y`. -/
structure Leads (m : Nat) (s t : State) (n : Nat) (y : Job) : Prop where
  within : Within m s t
  job : ∃ x, jobAt t n = some (x, y)

namespace Leads

variable {m k : Nat} {s t u : State} {n : Nat} {x : Ctx} {j y : Job}

theorem start (m : Nat) (h : jobAt s n = some (x, j)) : Leads m s s n j := ⟨.refl m s, x, h⟩

/-- What leaves the contexts alone leaves the job. -/
theorem quiet (h : Leads m s t n y) (q : Within k t u) (hm : k ||| m = m) (hc : k.testBit 13 = false) : Leads m s u n y := by
  obtain ⟨x, hx⟩ := h.job
  exact ⟨h.within.step q hm, x, (jobAt_congr (q.ctxsSame hc) n).trans hx⟩

theorem setJob (h : Leads m s t n y) (z : Job) (hm : 8192 ||| m = m) : Leads m s (setJob t n z) n z := by
  obtain ⟨x, hx⟩ := h.job
  exact ⟨h.within.step (setJob_within ..) hm, _, jobAt_setJob (jobAt_eq_some.mp hx).1 z⟩

/-- A member is the root where it was. -/
theorem isRoot_eq (h : Leads m s t n y) (hm : m.testBit 8 = false) (ho : y.origin = j.origin) (he : y.extent = j.extent) : isRoot t y = isRoot s j :=
  isRoot_congr (h.within.lanternSame hm) ho he

theorem mem_eq (h : Leads m s t n y) (h11 : m.testBit 11 = false) (h12 : m.testBit 12 = false) : t.mem = s.mem := h.within.memSame h11 h12

/-- A row that answers `t` gives the job that leads there. -/
theorem gives {i : Instr} {P : State → Job → Prop} (h : Leads m s t n y) (hi : Machine.exec i s = .next t) (hp : P t y) : JobGives i s n P := by
  obtain ⟨x, hx⟩ := h.job
  exact ⟨t, x, y, hi, hx, hp⟩

end Leads

end Sys2Proof.Machine
end

section
/-! SUPPORT. The step of a member: the vote, the decision and its journal, the discard, and the launch (R418 to R425, R482, Tables 12.9 to 12.11). -/

namespace Sys2Proof.Machine

open Sys2Proof

/-- The parts of the state that a row of a step may change when it writes no memory. -/
def stepParts : Nat := 26124920

section
variable {m : Nat} {s t : State} {n : Nat} {x : Ctx} {j y : Job}

/-! ## The vote (R418, R419) -/

theorem tryVote_waits (h : jobAt s n = some (x, j)) (wait : childrenOk s j = false) : tryVote s n = s := by
  unfold tryVote
  rw [h]
  exact if_pos (.inr (.inr (.inr wait)))

/-- A member other than the root at most notes that its own OK has gone up. -/
theorem tryVote_leads (h : Leads stepParts s t n y) (other : isRoot t y = false) : ∃ up, Leads stepParts s (tryVote t n) n { y with votedUp := up } := by
  obtain ⟨x, hx⟩ := h.job
  unfold tryVote
  rw [hx]
  dsimp only
  split
  · exact ⟨y.votedUp, h⟩
  · rw [if_pos (by rw [other]; rfl)]
    exact ⟨true, (h.quiet (tellParent_within ..) (by decide) (by decide)).setJob _ (by decide)⟩

theorem proposeEnter_votes (h : jobAt s n = some (x, j)) (hst : j.st = .running) (hl : j.launched = true) (hc : j.proposeAt ≤ stepCount s x j)
    (hg : ctxGroups s n = []) (hw : workQueued s n = false) : execProposeEnter n s =
      .next (tryVote (setJob (overRecs (proposeRec j.epoch) s j.shardTable j.shardRecs) n { j with st := .voted }) n) := by
  unfold execProposeEnter
  rw [h]
  exact if_neg (by simp [hst, hl, Nat.not_lt.mpr hc, hg, hw])

theorem voteOk_kept (h : jobAt s n = some (x, j)) {child : Nat} (hc : child ∈ below s j) : execVoteOk n child j.epoch s =
    .next (tryVote (setJob s n { j with childOk := j.childOk.filter (fun q => q != child) ++ [child] }) n) := by
  unfold execVoteOk
  rw [h]
  exact (if_neg (by simpa [below] using hc)).trans (if_pos rfl)

/-! ## A failure (R419) -/

/-- The job in which a first failure is noted. -/
def failedJob (j : Job) (cause fab site trap : Nat) : Job :=
  { j with failed := true, failCause := cause, failFab := fab, failSite := site, failTrap := trap }

theorem noteFail_first (clear : j.failed = false) (cause fab site trap : Nat) : noteFail j cause fab site trap = failedJob j cause fab site trap :=
  if_neg (by simp [clear])

/-- A member other than the root notes its first failure and sends it up. -/
theorem passFail_leads (h : jobAt s n = some (x, j)) (other : isRoot s j = false) (clear : j.failed = false) (cause fab site trap : Nat) :
    Leads stepParts s (passFail s n cause fab site trap) n (failedJob j cause fab site trap) := by
  unfold passFail
  rw [h]
  dsimp only
  rw [if_neg (by simp [other]), noteFail_first clear]
  exact ((Leads.start _ h).setJob _ (by decide)).quiet (tellParent_within ..) (by decide) (by decide)

theorem voteFail_passes (h : jobAt s n = some (x, j)) {child : Nat} (hc : child ∈ below s j) (cause fab site trap : Nat) :
    execVoteFail n child j.epoch cause fab site trap s = .next (passFail s n cause fab site trap) := by
  unfold execVoteFail
  rw [h]
  exact if_neg (by simpa [below] using hc)

theorem proposeTimeout_passes (h : jobAt s n = some (x, j)) {child : Nat} (hc : (below s j).find? (fun r => !j.childOk.contains r) = some child)
    (hst : j.st = .voted) (clear : j.failed = false) : execProposeTimeout n s = .next (passFail s n 3 (memberFab s j child) 0 0) := by
  unfold execProposeTimeout
  rw [h]
  dsimp only
  rw [show (((ownRank s j).map (childrenOf j)).getD []).find? (fun r => !j.childOk.contains r) = some child from hc]
  exact if_neg (by simp [hst, clear])

/-! ## The decision (R420, R421) -/

/-- An answer that came from the root's partner is reported. -/
def partnerReported (s : State) (x : Ctx) (j : Job) (verdict : Nat) : State :=
  match j.surv.rootPartner with
  | some p => if 3 < j.queries then postBoth s x.slot 0x0684 (j.epoch % 2 ^ 32) (rec8 [verdict, memberFab s j p]) else s
  | none => s

theorem partnerReported_within (s : State) (x : Ctx) (j : Job) (verdict : Nat) : Within 25165936 s (partnerReported s x j verdict) := by
  unfold partnerReported
  split
  · split
    · exact postBoth_within ..
    · exact .refl ..
  · exact .refl ..

/-- The state in which a member has reported a decision where it must, and sent it down. -/
def sentDown (s : State) (x : Ctx) (j : Job) (verdict : Nat) : State := tellChildren (partnerReported s x j verdict) j

theorem sentDown_leads (h : jobAt s n = some (x, j)) (verdict : Nat) : Leads stepParts s (sentDown s x j verdict) n j :=
  ((Leads.start _ h).quiet (partnerReported_within ..) (by decide) (by decide)).quiet (tellChildren_within ..) (by decide) (by decide)

theorem commitDecision_applies (h : jobAt s n = some (x, j)) (hst : j.st = .voted) (hv : j.votedUp = true) (other : isRoot s j = false) (snap : Option Nat) :
    execCommitDecision n j.epoch snap s =
      .next (setJob (sentDown s x j 1) n { j with st := .applying, decision := some { epoch := j.epoch, commit := true, snap := snap } }) := by
  unfold execCommitDecision
  rw [h]
  exact if_neg (by simp [hst, hv, other])

theorem abortDecision_aborts (h : jobAt s n = some (x, j)) (hd : j.decision = none) (other : isRoot s j = false) :
    execAbortDecision n j.epoch s =
      .next (actAbort (setJob (sentDown s x j 0) n { j with decision := some { epoch := j.epoch, commit := false, snap := none } }) n) := by
  unfold execAbortDecision
  rw [h]
  exact if_neg (by simp [hd, other])

/-- ABORT stops a launched step, voted on or not. -/
theorem actAbort_leads (h : Leads stepParts s t n y) (under : y.st = .voted ∨ (y.st = .running ∧ y.launched = true)) :
    Leads stepParts s (actAbort t n) n { y with st := .discarding, launched := false, haltHeld := false } := by
  obtain ⟨x, hx⟩ := h.job
  have discards : actAbort t n = enterDiscard t n y := by
    unfold actAbort
    rw [hx]
    rcases under with voted | ⟨running, launched⟩
    · simp [voted]
    · simp [running, launched]
  rw [discards]
  exact (h.quiet (stopContext_within ..) (by decide) (by decide)).setJob _ (by decide)

theorem decisionTimeout_asks (h : jobAt s n = some (x, j)) (hst : j.st = .voted) (hv : j.votedUp = true) (other : isRoot s j = false) (undecided : decided j = false) :
    execDecisionTimeout n s =
      .next (setJob (tell (s.bump 0x0600000C 1) j (if j.queries < 3 then 0 else j.surv.rootPartner.getD 0)) n { j with queries := j.queries + 1 }) := by
  unfold execDecisionTimeout
  rw [h]
  exact if_neg (by simp [hst, hv, other, undecided])

theorem decisionQuery_root (h : jobAt s n = some (x, j)) (root : isRoot s j = true) {d : Decision} (hd : j.decision = some d) (rank : Nat) :
    execDecisionQuery n rank d.epoch s = .next (tell s j rank) := by
  unfold execDecisionQuery
  rw [h]
  exact (if_pos root).trans (if_pos (by simp [hd]))

theorem decisionQuery_partner (h : jobAt s n = some (x, j)) (other : isRoot s j = false) (mine : j.surv.rootPartner = ownRank s j)
    (known : j.surv.rootPartner.isSome = true) (rank epoch : Nat) : execDecisionQuery n rank epoch s =
      if (.commit, epoch) ∈ j.partnerRec ∨ epoch ∈ j.partnerAbort then .next (tell s j rank)
      else .next (setJob (tell s j rank) n { j with partnerAbort := j.partnerAbort ++ [epoch] }) := by
  unfold execDecisionQuery
  rw [h]
  refine (if_neg (by simp [other])).trans ((if_pos ⟨mine, known⟩).trans ?_)
  simp only [List.contains_iff_mem]

/-- R420: the partner keeps a record, but no COMMIT of an epoch that it has answered with ABORT. -/
theorem journalRecord_keeps (h : jobAt s n = some (x, j)) (other : isRoot s j = false) (kind : JournalKind) (epoch : Nat) : execJournalRecord n kind epoch s =
    if kind = .commit ∧ epoch ∈ j.partnerAbort then .next (tell s j 0)
    else .next (setJob (tell s j 0) n { j with partnerRec := j.partnerRec.filter (fun r => r != (kind, epoch)) ++ [(kind, epoch)] }) := by
  unfold execJournalRecord
  rw [h]
  refine (if_neg (by simp [other])).trans ?_
  simp only [List.contains_iff_mem]

theorem journalRecordAck_commits (h : jobAt s n = some (x, j)) (root : isRoot s j = true) (waits : .commit ∈ j.awaiting) (hst : j.st = .voted) :
    execJournalRecordAck n .commit j.epoch true s = .next (decideCommit s n) := by
  unfold execJournalRecordAck
  rw [h]
  refine (if_neg (by simp [root, waits])).trans ?_
  simp [hst]

/-- The root's COMMIT: kept, and acted on. -/
theorem decideCommit_leads (h : jobAt s n = some (x, j)) : ∃ snap v, Leads stepParts s (decideCommit s n) n
    { j with st := .applying, decision := some { epoch := j.epoch, commit := true, snap := snap }, awaiting := j.awaiting.filter (fun k => k != .commit),
             surv := v } := by
  unfold decideCommit
  rw [h]
  exact ⟨_, _, ((Leads.start _ h).quiet (tellChildren_within ..) (by decide) (by decide)).setJob _ (by decide)⟩

/-! ## Discarding and starting again (R422, R424, R425) -/

/-- The root waits for every member's DISCARDED. -/
theorem tryRerun_waits (h : jobAt s n = some (x, j)) (wait : ∃ q < jobSize j, q ∉ j.discarded) : tryRerun s n = s := by
  unfold tryRerun
  rw [h]
  obtain ⟨q, hq, silent⟩ := wait
  have some_silent : (List.range (jobSize j)).all (fun r => j.discarded.contains r) = false :=
    List.all_eq_false.mpr ⟨q, List.mem_range.mpr hq, by simpa using silent⟩
  exact if_pos (by simp only [some_silent]; simp)

theorem discardedReport_goesUp (h : jobAt s n = some (x, j)) {rank : Nat} (hr : rank < jobSize j) (other : isRoot s j = false) (lost : Bool) :
    execDiscardedReport n rank j.epoch lost s = .next (tellParent s j) := by
  unfold execDiscardedReport
  rw [h]
  exact (if_neg (by simp [hr])).trans (if_pos (by simp [other]))

theorem discardedReport_gathers (h : jobAt s n = some (x, j)) {rank : Nat} (hr : rank < jobSize j) (root : isRoot s j = true) (lost : Bool) :
    execDiscardedReport n rank j.epoch lost s =
      .next (tryRerun (setJob s n { j with discarded := j.discarded.filter (fun r => r != rank) ++ [rank], anyLost := j.anyLost || lost }) n) := by
  unfold execDiscardedReport
  rw [h]
  exact (if_neg (by simp [hr])).trans (if_neg (by simp [root]))

theorem rollKey_if_within (s : State) (fpn : Nat) (roll : Prop) [Decidable roll] : Within 8913408 s (if roll then rollKey s fpn else s) := by
  split
  · exact rollKey_within ..
  · exact .refl ..

/-- A launch puts the job at the start of a step. -/
theorem launchStep_leads (h : Leads m s t n y) (hm : 172040 ||| m = m) : Leads m s (launchStep t n) n { freshStep y with st := .running, launched := true } := by
  obtain ⟨x, hx⟩ := h.job
  have ctxs : (launchStep t n).ctxs = (setJob t n { freshStep y with st := .running, launched := true }).ctxs := by
    unfold launchStep
    rw [hx]
    exact (Within.foldl (.refl 163848 _) (fun u l => launchRec_within n u l)).ctxsSame (by decide)
  exact ⟨h.within.step (launchStep_within t n) hm, _, (jobAt_congr ctxs n).trans (jobAt_setJob (jobAt_eq_some.mp hx).1 _)⟩

theorem rerun_launches (h : jobAt s n = some (x, j)) (hst : j.st = .waitRerun) (other : isRoot s j = false) : execRerun n j.epoch s =
    .next (launchStep (tellChildren (if j.lostFlag || Config.freeBool s.free then rollKey s j.fpn else s).tick j) n) := by
  unfold execRerun
  rw [h]
  exact if_neg (by simp [hst, other])

theorem launch_launches (h : jobAt s n = some (x, j)) (boundary : atBoundary j = true) (rest : j.surv.taking = 0) (own : j.surv.useExport = false)
    (stays : j.surv.relaunch = none) : execLaunch n j.epoch s = .next (launchStep (setJob (tellChildren
      (if j.retries && !isRoot s j && (j.lostFlag || Config.freeBool s.free) then rollKey s.tick j.fpn else s.tick) j) n { j with discards := 0 }) n) := by
  unfold execLaunch
  rw [h]
  exact (if_pos rfl).trans (if_neg (by simp [boundary, rest, own, stays]))

end

end Sys2Proof.Machine
end

section
/-! SUPPORT. What leaves the list of collectives alone: packets and messages sent, halts, and contexts stopped while there is none (R364, R372, R381, R397). -/

namespace Sys2Proof.Machine

open Sys2Proof

/-! ## Packets sent (R357, R364, R377) -/

@[simp] theorem State.setLink_colls (s : State) (n : Nat) (x : Link) : (s.setLink n x).fabric.colls = s.fabric.colls := rfl

theorem Within.collsSame {m : Nat} {s t : State} (h : Within m s t) (hm : m.testBit 19 = false) : t.fabric.colls = s.fabric.colls :=
  congrArg Fabric.colls (h.fabricSame hm)

theorem pumpLink_colls (n fuel : Nat) (s : State) : (pumpLink n fuel s).fabric.colls = s.fabric.colls := by
  induction fuel generalizing s with
  | zero => rfl
  | succ fuel ih =>
    unfold pumpLink
    extract_lets
    split
    · rfl
    · split
      · rfl
      · extract_lets f1 l1 drop corrupt l2 l3 s1 s2 s3
        have h2 : s2.fabric.colls = s.fabric.colls := by
          simp only [s2, s1]
          split <;> simp
        have h3 : s3.fabric.colls = s2.fabric.colls := by
          simp only [s3]
          split <;> rfl
        exact (ih s3).trans (h3.trans h2)

theorem queueOn_colls (s : State) (n vc : Nat) (p : Packet) (bs : List Byte) : (queueOn s n vc p bs).fabric.colls = s.fabric.colls := by
  unfold queueOn
  extract_lets l fs swap delay mine room l1 l2 s1 s2
  have h2 : s2.fabric.colls = s.fabric.colls := by
    simp only [s2, s1]
    split <;> rfl
  refine (pumpLink_colls ..).trans ?_
  split
  · exact h2
  · exact h2

theorem sealOn_colls {s t : State} {n : Nat} {p q : Packet} (h : sealOn s n p = some (q, t)) : t.fabric.colls = s.fabric.colls := by
  unfold sealOn at h
  split at h
  · cases h
    rfl
  · dsimp only at h
    split at h
    · cases h
    · split at h
      · cases h
      · cases h
        split
        · exact (postBoth_within ..).collsSame (by decide)
        · rfl

theorem sendPacket_colls (s : State) (p : Packet) : (sendPacket s p).1.fabric.colls = s.fabric.colls := by
  unfold sendPacket
  split
  · rfl
  · rfl
  · dsimp only
    split
    · rfl
    · split
      · rfl
      · rename_i sealed
        exact (queueOn_colls ..).trans (sealOn_colls sealed)

theorem tell_colls (s : State) (j : Job) (r : Nat) : (tell s j r).fabric.colls = s.fabric.colls := by
  unfold tell sendMgmt
  dsimp only
  split
  · rfl
  · exact sendPacket_colls ..

theorem tellParent_colls (s : State) (j : Job) : (tellParent s j).fabric.colls = s.fabric.colls := by
  unfold tellParent
  split
  · exact tell_colls ..
  · rfl

theorem tellChildren_colls (s : State) (j : Job) : (tellChildren s j).fabric.colls = s.fabric.colls := by
  unfold tellChildren
  split
  · exact List.foldlRecOn (motive := fun t : State => t.fabric.colls = s.fabric.colls) _ _ rfl (fun t ht r _ => (tell_colls ..).trans ht)
  · rfl

theorem flood_colls (s : State) (fpn id : Nat) : (flood s fpn id).fabric.colls = s.fabric.colls := by
  unfold flood
  refine List.foldlRecOn (motive := fun t : State => t.fabric.colls = s.fabric.colls) _ _ rfl (fun t ht n _ => ?_)
  dsimp only
  split
  · exact (State.setLink_colls ..).trans ht
  · exact ht

/-! ## A bound context with no collective -/

/-- Context `n` is open, and no collective is under way. -/
structure Calm (n : Nat) (s : State) : Prop where
  ctx : (s.ctx? n).isSome = true
  colls : s.fabric.colls = []

namespace Calm

variable {m n : Nat} {s t : State}

theorem congr (h : Calm n s) (hc : t.ctxs = s.ctxs) (hk : t.fabric.colls = s.fabric.colls) : Calm n t :=
  ⟨by unfold State.ctx?; rw [hc]; exact h.ctx, hk.trans h.colls⟩

theorem quiet (h : Calm n s) (q : Within m s t) (hc : m.testBit 13 = false) (hf : m.testBit 19 = false) : Calm n t :=
  h.congr (q.ctxsSame hc) (q.collsSame hf)

theorem setCtx (h : Calm n s) (k : Nat) (x : Ctx) : Calm n (s.setCtx k x) := by
  refine ⟨?_, h.colls⟩
  by_cases same : n = k
  · subst same
    rw [State.ctx_setCtx]
    rfl
  · rw [State.ctx_setCtx_ne _ _ same]
    exact h.ctx

theorem setJob (h : Calm n s) (k : Nat) (j : Job) : Calm n (setJob s k j) := by
  unfold Machine.setJob
  split
  · exact h.setCtx ..
  · exact h

theorem tellParent (h : Calm n s) (j : Job) : Calm n (tellParent s j) := h.congr ((tellParent_within ..).ctxsSame (by decide)) (tellParent_colls ..)

theorem tellChildren (h : Calm n s) (j : Job) : Calm n (tellChildren s j) := h.congr ((tellChildren_within ..).ctxsSame (by decide)) (tellChildren_colls ..)

/-- A context that stops loses its own collectives at most. -/
theorem stopContext (h : Calm n s) (k : Nat) : Calm n (stopContext s k) := by
  unfold Machine.stopContext
  dsimp only
  refine Calm.quiet ?_ (State.bump_within ..) (by decide) (by decide)
  refine List.foldlRecOn (motive := Calm n) _ _ ?_ (fun t ht g _ => ?_)
  · exact ⟨h.ctx, by simp [discardWork, h.colls]⟩
  · split
    · exact (ht.quiet (State.freeGroup_within ..) (by decide) (by decide)).quiet (settleBlock_within ..) (by decide) (by decide)
    · exact ht

theorem enterDiscard (h : Calm n s) (k : Nat) (j : Job) : Calm n (enterDiscard s k j) := (h.stopContext k).setJob ..

theorem rootAbort (h : Calm n s) (k : Nat) : Calm n (rootAbort s k) := by
  unfold Machine.rootAbort
  split
  · exact h
  · split
    · exact (h.tellChildren _).setJob ..
    · exact h

theorem actHalt (h : Calm n s) (fpn id origin via : Nat) : Calm n (actHalt s fpn id origin via) := by
  unfold Machine.actHalt
  extract_lets f s1 s2
  have flooded : Calm n s2 := by
    refine Calm.quiet ?_ (State.bump_within ..) (by decide) (by decide)
    exact Calm.congr (s := s) h ((flood_within ..).ctxsSame (by decide)) (flood_colls ..)
  clear_value s2
  split
  · exact flooded
  · extract_lets j s3 s4
    have halted : Calm n s3 := flooded.quiet (Within.foldl (.refl 8421376 _) (fun u g => (haltGroup_within u g).mono (by decide))) (by decide) (by decide)
    have posted : Calm n s4 := halted.quiet (postBoth_within ..) (by decide) (by decide)
    clear_value s4
    cases j.st
    case running =>
      dsimp only
      split
      · exact posted.enterDiscard ..
      · exact (posted.setJob ..).quiet (postBoth_within ..) (by decide) (by decide)
    case voted =>
      dsimp only
      split
      · exact posted.enterDiscard ..
      · exact posted.setJob ..
    all_goals exact posted.setJob ..

theorem originateHalt (h : Calm n s) (fpn origin : Nat) : Calm n (originateHalt s fpn origin) := by
  have marked : Calm n (s.setFabric { s.fabric with haltAt := Sparse.set s.fabric.haltAt fpn s.time.toNat }) := ⟨h.ctx, h.colls⟩
  unfold Machine.originateHalt
  split
  · split
    · exact h
    · exact marked.actHalt ..
  · exact marked.actHalt ..

theorem failStep (h : Calm n s) (k cause site trap : Nat) : Calm n (failStep s k cause site trap) := by
  unfold Machine.failStep
  split
  · exact h
  · exact (((h.enterDiscard ..).tellParent _).rootAbort _).originateHalt ..

theorem killContext (h : Calm n s) (k cause : Nat) : Calm n (killContext s k cause) := by
  unfold Machine.killContext
  split
  · exact h
  · exact ((h.stopContext k).quiet (free_within ..) (by decide) (by decide)).quiet (postEvent_within ..) (by decide) (by decide)

theorem killByTrap (h : Calm n s) (k site trap : Nat) : Calm n (killByTrap s k site trap) := by
  unfold Machine.killByTrap
  split
  · split
    · exact h.failStep ..
    · exact h.failStep ..
    · exact h.failStep ..
    · exact h.killContext ..
  · exact h.killContext ..

theorem takeTraps (h : Calm n s) (ts : List (GroupId × Trap)) : Calm n (takeTraps s ts) := by
  have posted : Calm n (ts.foldl (fun x e => postTrap x e.1 e.2) s) :=
    h.quiet (Within.foldl (.refl 25198704 s) (fun u e => postTrap_within u e.1 e.2)) (by decide) (by decide)
  unfold Machine.takeTraps
  dsimp only
  split
  · exact posted
  · split
    · exact posted
    · split
      · exact posted
      · split
        · exact posted
        · exact posted.killByTrap ..

theorem settle (h : Calm n s) (k : Nat) (j : Judged) (mark : Option (Nat × Nat × Nat)) : Calm n (settle s k j mark) := by
  unfold Machine.settle
  refine Calm.takeTraps ?_ _
  have stored : Calm n ((s.setObj k j.obj).bump 0x04000002 j.freed.length) := ⟨h.ctx, h.colls⟩
  exact stored.quiet (Within.foldl (.refl 163840 _) (fun u w => freeWaiter_within u w)) (by decide) (by decide)

/-- R418: setting the step object back ends no context and starts no collective. -/
theorem resetObj (h : Calm n s) (c : Ctx) (vid : Nat) : Calm n (resetObj s c vid) := by
  unfold Machine.resetObj
  split
  · exact h
  · split
    · exact h
    · exact h.settle ..

end Calm

end Sys2Proof.Machine
end

section
/-! SUPPORT. A step applied, and a step discarded (R406, R418, R424, Tables 12.9 and 12.11). -/

namespace Sys2Proof.Machine

open Sys2Proof

section
variable {s t : State} {n : Nat} {x : Ctx} {j y : Job}

/-! ## APPLY (R406, R418) -/

/-- The state in which a step's records are applied, its step object is set back, and the step is counted. -/
def appliedRecs (s : State) (x : Ctx) (j : Job) : State := (resetObj (overRecs applyRec s j.shardTable j.shardRecs) x j.stepObj).bump 0x06000001 1

theorem appliedRecs_calm (h : Calm n s) : Calm n (appliedRecs s x j) := by
  have records : Calm n (overRecs applyRec s j.shardTable j.shardRecs) :=
    h.quiet (overRecs_in (which := 27269240) (.refl ..) (by decide) applyRec_within) (by decide) (by decide)
  exact (records.resetObj x j.stepObj).quiet (State.bump_within ..) (by decide) (by decide)

/-- A step that is applied while a halt is held leaves the member halted at the boundary, in the next epoch. -/
theorem applyStep_halts (h : Calm n s) (held : j.haltHeld = true) (noSnap : ∀ d, j.decision = some d → d.snap = none) :
    ∃ z y, jobAt (applyStep s n x j) n = some (z, y) ∧ y.epoch = j.epoch + 1 ∧ y.st = .haltedAt ∧ y.launched = false ∧ y.votedUp = false ∧ y.discards = 0 := by
  have calm : Calm n (appliedRecs s x j) := appliedRecs_calm h
  obtain ⟨c, hc⟩ := Option.isSome_iff_exists.mp calm.ctx
  have snap : ((j.decision.filter (fun d => d.epoch == j.epoch)).bind (·.snap)) = none := by
    cases hd : j.decision with
    | none => rfl
    | some d => by_cases now : d.epoch = j.epoch <;> simp [Option.filter, now, noSnap d hd]
  unfold applyStep
  extract_lets s1 s2 order halt early fresh surv j1 s3 s4
  have order_none : order = none := snap
  have s4_eq : s4 = s3 := by
    simp only [s4, order_none, halt, held]
    rfl
  have calm3 : Calm n s3 := calm.setJob ..
  rw [s4_eq, calm3.colls]
  exact ⟨_, _, jobAt_setJob hc _, rfl, by simp [j1, halt, held], rfl, rfl, rfl⟩

theorem applyComplete_applies (h : jobAt s n = some (x, j)) (hst : j.st = .applying) (rest : j.surv.taking = 0) :
    execApplyComplete n s = .next (applyStep s n x j) := by
  unfold execApplyComplete
  rw [h]
  exact if_neg (by simp [hst, rest])

/-! ## Discarding (R424) -/

/-- An object with its value at its baseline, without waiters and marks. -/
def atBaseline (o : Obj) : Obj := { o with value := o.base, mark := none, obs := [], cons := [] }

theorem clearObjs_obj (s : State) (n k : Nat) : (clearObjs s n).obj? k = (s.obj? k).map (fun o => if o.ctx = n then atBaseline o else o) := by
  show Sparse.find? (s.sync.objs.map _) k = (Sparse.find? s.sync.objs k).map _
  induction s.sync.objs with
  | nil => rfl
  | cons e r ih =>
    obtain ⟨a, o⟩ := e
    by_cases own : o.ctx = n <;> by_cases same : a = k <;> simp [Sparse.find?, own, same, ih, atBaseline]

/-- The state in which a member's records and objects stand as the step found them. -/
def setBack (s : State) (n : Nat) (j : Job) : State := clearObjs (overRecs unproposeRec s j.shardTable j.shardRecs) n

theorem setBack_within (s : State) (n : Nat) (j : Job) : Within 27531384 s (setBack s n j) :=
  (overRecs_in (.refl 27269240 s) (by decide) unproposeRec_within).mono (by decide) |>.step (clearObjs_within ..) (by decide)

theorem setBack_obj {k : Nat} {o : Obj} (ho : s.obj? k = some o) (own : o.ctx = n) (j : Job) : (setBack s n j).obj? k = some (atBaseline o) := by
  have sync : (overRecs unproposeRec s j.shardTable j.shardRecs).sync = s.sync :=
    (overRecs_in (.refl 27269240 s) (by decide) unproposeRec_within).syncSame (by decide)
  unfold setBack
  rw [clearObjs_obj, State.obj?, sync]
  show (s.obj? k).map _ = _
  simp [ho, own]

theorem discardComplete_discards (h : jobAt s n = some (x, j)) (hst : j.st = .discarding) (ended : msgsOf s n = false) :
    execDiscardComplete n s = .next (discardDone s n x j) := by
  unfold execDiscardComplete
  rw [h]
  exact if_neg (by simp [hst, ended])

/-- A member other than the root counts the discard, and waits for RERUN, or halts after the third in a row. -/
theorem discardDone_leads (h : jobAt s n = some (x, j)) (other : isRoot s j = false) : ∃ y, Leads 28228216 s (discardDone s n x j) n y ∧
    (discardDone s n x j).sync = (setBack s n j).sync ∧ y.discards = j.discards + 1 ∧ y.votedUp = false ∧
    y.st = if 3 ≤ j.discards + 1 then .haltedAt else .waitRerun := by
  have back : Leads 28228216 s (setBack s n j) n j := (Leads.start _ h).quiet (setBack_within ..) (by decide) (by decide)
  unfold discardDone
  extract_lets s1 k cause last s2 own j1
  have posted : Within 25165944 s1 s2 :=
    (((State.tick_within s1).mono (by decide)).step (State.bump_within ..) (by decide)).step (postBoth_within ..) (by decide)
  rw [if_neg (by simp [other])]
  refine ⟨j1, ((back.quiet posted (by decide) (by decide)).setJob j1 (by decide)).quiet (tellParent_within ..) (by decide) (by decide), ?_, rfl, rfl,
    by simp [j1, last, k]⟩
  calc (tellParent (setJob s2 n j1) j1).sync
    _ = (setJob s2 n j1).sync := (tellParent_within ..).syncSame (by decide)
    _ = s2.sync := (setJob_within ..).syncSame (by decide)
    _ = s1.sync := posted.syncSame (by decide)

end

end Sys2Proof.Machine
end

section
/-! SUPPORT. The rows of a step (R418 to R425, R482, Tables 12.9 to 12.11). -/

namespace Sys2Proof.Machine

open Sys2Proof

section
variable {s : State} {n : Nat} {x : Ctx} {j : Job}

/-- R418: PROPOSE with a child still to report. The records are proposed, and no object changes. -/
theorem proposeEnter_gives (h : jobAt s n = some (x, j)) (hst : j.st = .running) (hl : j.launched = true) (hc : j.proposeAt ≤ stepCount s x j)
    (hg : ctxGroups s n = []) (hw : workQueued s n = false) (wait : childrenOk s j = false) :
    JobGives (.proposeEnter n) s n (fun t y => y.st = .voted ∧ y.votedUp = j.votedUp ∧ y.epoch = j.epoch ∧ t.sync = s.sync) := by
  have records : Within 27269240 s (overRecs (proposeRec j.epoch) s j.shardTable j.shardRecs) := overRecs_in (.refl ..) (by decide) (proposeRec_within _)
  have voted : Leads 27277432 s (setJob _ n _) n { j with st := .voted } :=
    ((Leads.start _ h).quiet records (by decide) (by decide)).setJob _ (by decide)
  obtain ⟨z, hz⟩ := voted.job
  have still : childrenOk _ { j with st := .voted } = false := (childrenOk_congr (voted.within.lanternSame (by decide)) rfl rfl rfl).trans wait
  refine voted.gives ((proposeEnter_votes h hst hl hc hg hw).trans ?_) ⟨rfl, rfl, rfl, voted.within.syncSame (by decide)⟩
  rw [tryVote_waits hz still]

/-- R419: the OK of a child is kept. -/
theorem voteOk_gives (h : jobAt s n = some (x, j)) (other : isRoot s j = false) {child : Nat} (hc : child ∈ below s j) :
    JobGives (.voteOk n child j.epoch) s n (fun t y => child ∈ y.childOk ∧ y.st = j.st ∧ t.mem = s.mem) := by
  have kept := (Leads.start stepParts h).setJob { j with childOk := j.childOk.filter (fun q => q != child) ++ [child] } (by decide)
  obtain ⟨up, voted⟩ := tryVote_leads kept ((kept.isRoot_eq (j := j) (by decide) rfl rfl).trans other)
  exact voted.gives (voteOk_kept h hc) ⟨by simp, rfl, voted.mem_eq (by decide) (by decide)⟩

/-- R420: ABORT stops a launched step. -/
theorem abortDecision_gives (h : jobAt s n = some (x, j)) (hd : j.decision = none) (other : isRoot s j = false)
    (under : j.st = .voted ∨ (j.st = .running ∧ j.launched = true)) : JobGives (.abortDecision n j.epoch) s n (fun t y =>
      y.st = .discarding ∧ y.launched = false ∧ y.decision = some { epoch := j.epoch, commit := false, snap := none } ∧ t.mem = s.mem) := by
  have decided := (sentDown_leads h 0).setJob { j with decision := some { epoch := j.epoch, commit := false, snap := none } } (by decide)
  have stopped := actAbort_leads decided under
  exact stopped.gives (abortDecision_aborts h hd other) ⟨rfl, rfl, rfl, stopped.mem_eq (by decide) (by decide)⟩

/-- R421: a member that waits for the decision asks, and counts its queries. -/
theorem decisionTimeout_gives (h : jobAt s n = some (x, j)) (hst : j.st = .voted) (hv : j.votedUp = true) (other : isRoot s j = false)
    (undecided : decided j = false) :
    JobGives (.decisionTimeout n) s n (fun t y => y.queries = j.queries + 1 ∧ y.st = .voted ∧ t.mem = s.mem) := by
  have asked := (((Leads.start stepParts h).quiet (State.bump_within s 0x0600000C 1) (by decide) (by decide)).quiet
    (tell_within _ j (if j.queries < 3 then 0 else j.surv.rootPartner.getD 0)) (by decide) (by decide)).setJob { j with queries := j.queries + 1 } (by decide)
  exact asked.gives (decisionTimeout_asks h hst hv other undecided) ⟨rfl, hst, asked.mem_eq (by decide) (by decide)⟩

/-- A member answers a query or a record, and notes it in its job. -/
theorem told_leads (h : jobAt s n = some (x, j)) (rank : Nat) (y : Job) : Leads stepParts s (setJob (tell s j rank) n y) n y :=
  ((Leads.start _ h).quiet (tell_within ..) (by decide) (by decide)).setJob _ (by decide)

/-- R421: the partner of the root answers what it knows, and from then on holds to ABORT where it knows nothing. -/
theorem decisionQuery_gives (h : jobAt s n = some (x, j)) (other : isRoot s j = false) (mine : j.surv.rootPartner = ownRank s j)
    (known : j.surv.rootPartner.isSome = true) (rank epoch : Nat) :
    ((.commit, epoch) ∈ j.partnerRec ∨ epoch ∈ j.partnerAbort → Machine.exec (.decisionQuery n rank epoch) s = .next (tell s j rank)) ∧
      ((.commit, epoch) ∉ j.partnerRec → epoch ∉ j.partnerAbort → JobGives (.decisionQuery n rank epoch) s n
        (fun t y => y.partnerAbort = j.partnerAbort ++ [epoch] ∧ t.mem = s.mem)) := by
  have row := decisionQuery_partner h other mine known rank epoch
  refine ⟨fun has => row.trans (if_pos has), fun noRec noAbort => ?_⟩
  have told := told_leads h rank { j with partnerAbort := j.partnerAbort ++ [epoch] }
  exact told.gives (row.trans (if_neg (by simp [noRec, noAbort]))) ⟨rfl, told.mem_eq (by decide) (by decide)⟩

/-- R420: what the partner is asked to record. -/
theorem journalRecord_gives (h : jobAt s n = some (x, j)) (other : isRoot s j = false) (kind : JournalKind) (epoch : Nat) :
    (kind ≠ .commit ∨ epoch ∉ j.partnerAbort →
      JobGives (.journalRecord n kind epoch) s n (fun t y => (kind, epoch) ∈ y.partnerRec ∧ t.mem = s.mem)) ∧
      (kind = .commit → epoch ∈ j.partnerAbort → Machine.exec (.journalRecord n kind epoch) s = .next (tell s j 0)) := by
  have row := journalRecord_keeps h other kind epoch
  refine ⟨fun free => ?_, fun commit answered => row.trans (if_pos ⟨commit, answered⟩)⟩
  have told := told_leads h 0 { j with partnerRec := j.partnerRec.filter (fun r => r != (kind, epoch)) ++ [(kind, epoch)] }
  exact told.gives (row.trans (if_neg (not_and_or.mpr free))) ⟨by simp, told.mem_eq (by decide) (by decide)⟩

/-- R420: the record acknowledged, the root's COMMIT stands. -/
theorem journalRecordAck_gives (h : jobAt s n = some (x, j)) (root : isRoot s j = true) (waits : .commit ∈ j.awaiting) (hst : j.st = .voted) :
    JobGives (.journalRecordAck n .commit j.epoch true) s n (fun t y =>
      y.st = .applying ∧ .commit ∉ y.awaiting ∧ (∃ snap, y.decision = some { epoch := j.epoch, commit := true, snap := snap }) ∧ t.mem = s.mem) := by
  obtain ⟨snap, v, committed⟩ := decideCommit_leads h
  exact committed.gives (journalRecordAck_commits h root waits hst) ⟨rfl, by simp, ⟨snap, rfl⟩, committed.mem_eq (by decide) (by decide)⟩

/-- R418, R422: a step applied while a halt is held. -/
theorem applyComplete_gives (h : jobAt s n = some (x, j)) (hst : j.st = .applying) (rest : j.surv.taking = 0) (held : j.haltHeld = true)
    (noSnap : ∀ d, j.decision = some d → d.snap = none) (noColls : s.fabric.colls = []) : JobGives (.applyComplete n) s n (fun _ y =>
      y.epoch = j.epoch + 1 ∧ y.st = .haltedAt ∧ y.launched = false ∧ y.votedUp = false ∧ y.discards = 0) := by
  have calm : Calm n s := ⟨by rw [(jobAt_eq_some.mp h).1]; rfl, noColls⟩
  obtain ⟨z, y, hy, applied⟩ := applyStep_halts (x := x) calm held noSnap
  exact ⟨_, z, y, applyComplete_applies h hst rest, hy, applied⟩

/-- R424: a discard ends with every object of the context at its baseline. -/
theorem discardComplete_gives (h : jobAt s n = some (x, j)) (hst : j.st = .discarding) (ended : msgsOf s n = false) (other : isRoot s j = false) :
    JobGives (.discardComplete n) s n (fun t y => y.discards = j.discards + 1 ∧ y.votedUp = false ∧
      y.st = (if 3 ≤ j.discards + 1 then .haltedAt else .waitRerun) ∧
      ∀ k o, s.obj? k = some o → o.ctx = n → ∃ o', t.obj? k = some o' ∧ o'.value = o.base ∧ o'.mark = none ∧ o'.obs = [] ∧ o'.cons = []) := by
  obtain ⟨y, done, sync, discards, votedUp, st⟩ := discardDone_leads h other
  refine done.gives (discardComplete_discards h hst ended) ⟨discards, votedUp, st, fun k o ho own => ⟨atBaseline o, ?_, rfl, rfl, rfl, rfl⟩⟩
  rw [State.obj?, sync]
  exact setBack_obj ho own j

/-- R425: DISCARDED, gathered at the root. -/
theorem discardedReport_gives (h : jobAt s n = some (x, j)) {rank : Nat} (hr : rank < jobSize j) (root : isRoot s j = true) (lost : Bool)
    (wait : ∃ q < jobSize j, q ≠ rank ∧ q ∉ j.discarded) : JobGives (.discardedReport n rank j.epoch lost) s n
      (fun t y => rank ∈ y.discarded ∧ y.anyLost = (j.anyLost || lost) ∧ y.st = j.st ∧ t.mem = s.mem) := by
  have noted := (Leads.start stepParts h).setJob { j with discarded := j.discarded.filter (fun r => r != rank) ++ [rank], anyLost := j.anyLost || lost } (by decide)
  obtain ⟨z, hz⟩ := noted.job
  obtain ⟨q, hq, apart, silent⟩ := wait
  refine noted.gives ((discardedReport_gathers h hr root lost).trans ?_) ⟨by simp, rfl, rfl, noted.mem_eq (by decide) (by decide)⟩
  rw [tryRerun_waits hz ⟨q, hq, by simp [apart, silent]⟩]

/-- R422, R425: RERUN starts the step again. -/
theorem rerun_gives (h : jobAt s n = some (x, j)) (hst : j.st = .waitRerun) (other : isRoot s j = false) : JobGives (.rerun n j.epoch) s n
    (fun t y => y.st = .running ∧ y.launched = true ∧ y.failed = false ∧ y.epoch = j.epoch ∧ t.mem = s.mem) := by
  have told := (((Leads.start stepParts h).quiet (rollKey_if_within s j.fpn (j.lostFlag || Config.freeBool s.free)) (by decide) (by decide)).quiet
    (State.tick_within _) (by decide) (by decide)).quiet (tellChildren_within _ j) (by decide) (by decide)
  have launched := launchStep_leads told (by decide)
  exact launched.gives (rerun_launches h hst other) ⟨rfl, rfl, rfl, rfl, launched.mem_eq (by decide) (by decide)⟩

/-- R422: LAUNCH of the member's own epoch at a boundary. -/
theorem launch_gives (h : jobAt s n = some (x, j)) (boundary : atBoundary j = true) (rest : j.surv.taking = 0) (own : j.surv.useExport = false)
    (stays : j.surv.relaunch = none) : JobGives (.launch n j.epoch) s n
      (fun t y => y.st = .running ∧ y.launched = true ∧ y.discards = 0 ∧ y.epoch = j.epoch ∧ t.mem = s.mem) := by
  have told := (((Leads.start stepParts h).quiet (State.tick_within s) (by decide) (by decide)).quiet
    (rollKey_if_within s.tick j.fpn (j.retries && !isRoot s j && (j.lostFlag || Config.freeBool s.free))) (by decide) (by decide)).quiet
    (tellChildren_within _ j) (by decide) (by decide)
  have launched := launchStep_leads (told.setJob { j with discards := 0 } (by decide)) (by decide)
  exact launched.gives (launch_launches h boundary rest own stays) ⟨rfl, rfl, rfl, rfl, launched.mem_eq (by decide) (by decide)⟩

end

/-- Settles O54, row by row: each row's answer is written out once, and `Leads` follows the job of the context through what the row calls. APPLY judges the step
object, whose waiters may trap and fail other steps: `Calm` says that the context stays open and that no collective starts. -/
theorem stepsCommitOrDiscard : Obligations.StepsCommitOrDiscard := by
  intro s n x j h
  refine ⟨fun hst hl hc hg hw wait => proposeEnter_gives h hst hl hc hg hw wait, fun child hc other => voteOk_gives h other hc,
    fun child cause fab site trap hc other clear => ?fail, fun child hc hst other clear => ?timeout, fun snap hst hv other => ?commit,
    fun hd other under => abortDecision_gives h hd other under, fun hst hv other undecided => decisionTimeout_gives h hst hv other undecided,
    fun rank epoch => ⟨?rootQuery, fun other mine known => decisionQuery_gives h other mine known rank epoch⟩,
    fun kind epoch other => journalRecord_gives h other kind epoch, fun root waits hst => journalRecordAck_gives h root waits hst,
    fun hst rest held noSnap noColls => applyComplete_gives h hst rest held noSnap noColls, fun hst ended other => discardComplete_gives h hst ended other,
    fun rank lost hr => ⟨fun other => ?report, fun root wait => discardedReport_gives h hr root lost wait⟩, fun hst other => rerun_gives h hst other,
    fun boundary rest own stays => launch_gives h boundary rest own stays⟩
  case fail =>
    have passed := passFail_leads h other clear cause fab site trap
    exact passed.gives (voteFail_passes h hc cause fab site trap) ⟨rfl, rfl, rfl, rfl, rfl, rfl, passed.mem_eq (by decide) (by decide)⟩
  case timeout =>
    have passed := passFail_leads h other clear 3 (memberFab s j child) 0 0
    exact passed.gives (proposeTimeout_passes h hc hst clear) ⟨rfl, rfl, rfl, hst, passed.mem_eq (by decide) (by decide)⟩
  case commit =>
    have kept := (sentDown_leads h 1).setJob { j with st := .applying, decision := some { epoch := j.epoch, commit := true, snap := snap } } (by decide)
    exact kept.gives (commitDecision_applies h hst hv other snap) ⟨rfl, rfl, rfl, kept.mem_eq (by decide) (by decide)⟩
  case rootQuery =>
    rintro root ⟨d, hd, rfl⟩
    exact decisionQuery_root h root hd rank
  case report => exact ⟨_, discardedReport_goesUp h hr other lost, (tellParent_within ..).ctxsSame (by decide), (tellParent_within ..).memSame (by decide) (by decide)⟩

end Sys2Proof.Machine
end

section
/-! SUPPORT. Contexts loaded, launched and closed (R388 to R392, Tables 4.16, 4.17, 4.21 and 12.0a). -/

namespace Sys2Proof.Machine

open Sys2Proof

section
variable {s : State} {r : RingId} {c : OutCmd} {x : Ctx}

/-! ## CTX_LOAD (R388, R389) -/

/-- The VMOD that CTX_LOAD reads. -/
def loadImage (s : State) (c : OutCmd) : List Byte := Memory.load s.hostMem (c.arg 0 8) (loadSize c)

/-- The objects that CTX_LOAD takes. -/
def loadVids (s : State) (c : OutCmd) : List Nat := (freeObjs s (loadSlot c)).take (field (loadImage s c) 32 4)

/-- The state in which the slot of a new context is in use. -/
def slotUsed (s : State) (i : Nat) : State := if i < 6 then s.setPart i { s.part? i with scrubbed := false } else s

/-- The state with the context that a good VMOD gives. -/
def ctxLoaded (s : State) (c : OutCmd) : State :=
  { takeObjs ((slotUsed s (loadSlot c)).setCtx s.nextCtx (newCtx (slotUsed s (loadSlot c)) c (loadImage s c) (loadVids s c))) s.nextCtx (loadVids s c) with
    nextCtx := s.nextCtx + 1 }

/-- CTX_LOAD may read its VMOD: its function owns the slot, the slot is a partition's or the shared one, and the host answers. -/
structure MayLoad (s : State) (r : RingId) (c : OutCmd) : Prop where
  owns : r.fn = 0 ∨ (loadSlot c ≠ 6 ∧ r.fn = loadSlot c + 1)
  exist : loadSlot c < 6 → (s.part? (loadSlot c)).exist = true
  reads : hostFails s (c.arg 0 8) (loadSize c) = false

theorem MayLoad.granted (h : MayLoad s r c) : (r.fn != 0 && (loadSlot c == 6 || r.fn != loadSlot c + 1)) = false := by
  rcases h.owns with pf0 | ⟨own, vf⟩
  · simp [pf0]
  · simp [own, vf]

theorem MayLoad.there (h : MayLoad s r c) : (decide (loadSlot c < 6) && !(s.part? (loadSlot c)).exist) = false := by
  by_cases low : loadSlot c < 6
  · simp [h.exist low]
  · simp [low]

/-- Table 4.21: the first check that fails names its offset. -/
theorem ctxLoadRun_refuses (h : MayLoad s r c) {o : Nat} (bad : firstBad (vmodBad (loadImage s c) (loadSize c)) = some o) :
    ctxLoadRun s r c = .fin s 3 (64 + o) [] := by
  unfold ctxLoadRun
  dsimp only
  rw [if_neg (by rw [h.granted]; simp), if_neg (by rw [h.there]; simp), if_neg (by rw [h.reads]; simp),
    show firstBad (vmodBad (Memory.load s.hostMem (c.arg 0 8) (loadSize c)) (loadSize c)) = some o from bad]
  rfl

/-- A VMOD that passes the checks, within every limit and with no CONST section, gives a context. -/
theorem ctxLoadRun_loads (h : MayLoad s r c) (good : firstBad (vmodBad (loadImage s c) (loadSize c)) = none)
    (version : field (loadImage s c) 6 2 ≤ (runningSlot s).virdyMax) (digest : sha3 ((loadImage s c).drop 256) = ((loadImage s c).drop 64).take 32)
    (room : (slotCtxs s (loadSlot c)).length < slotLimit (loadSlot c)) (objs : (loadVids s c).length = field (loadImage s c) 32 4)
    (noConst : findSection (loadImage s c) 3 = none) :
    ctxLoadRun s r c = .fin (ctxLoaded s c) sOK 0 (leBytes 4 s.nextCtx ++ leBytes 4 (field (loadImage s c) 32 4)) := by
  unfold ctxLoadRun
  dsimp only
  rw [if_neg (by rw [h.granted]; simp), if_neg (by rw [h.there]; simp), if_neg (by rw [h.reads]; simp),
    show firstBad (vmodBad (Memory.load s.hostMem (c.arg 0 8) (loadSize c)) (loadSize c)) = none from good]
  refine (if_neg (Nat.not_lt.mpr version)).trans ((if_neg (not_not_intro digest)).trans ((if_neg (Nat.not_le.mpr room)).trans
    ((if_neg (Nat.not_lt.mpr objs.ge)).trans ?_)))
  rw [show findSection (Memory.load s.hostMem (c.arg 0 8) (loadSize c)) 3 = none from noConst]
  rfl

theorem slotUsed_within (s : State) (i : Nat) : Within 512 s (slotUsed s i) := by
  unfold slotUsed
  split
  · exact State.setPart_within ..
  · exact .refl ..

/-- CTX_LOAD adds one context, and no other context changes. -/
theorem ctxLoaded_ctx (s : State) (c : OutCmd) :
    (ctxLoaded s c).ctx? s.nextCtx = some (newCtx (slotUsed s (loadSlot c)) c (loadImage s c) (loadVids s c)) ∧
      (∀ m, m ≠ s.nextCtx → (ctxLoaded s c).ctx? m = s.ctx? m) ∧ (ctxLoaded s c).mem = s.mem := by
  have ctxs : (ctxLoaded s c).ctxs = Sparse.set s.ctxs s.nextCtx (newCtx (slotUsed s (loadSlot c)) c (loadImage s c) (loadVids s c)) := by
    refine ((takeObjs_within ..).ctxsSame (by decide)).trans ?_
    rw [State.setCtx, (slotUsed_within s (loadSlot c)).ctxsSame (by decide)]
  unfold State.ctx?
  rw [ctxs]
  refine ⟨Sparse.find?_set_self .., fun m hm => Sparse.find?_set_ne _ _ hm, ?_⟩
  exact ((takeObjs_within ..).memSame (by decide) (by decide)).trans ((slotUsed_within s (loadSlot c)).memSame (by decide) (by decide))

/-! ## CTX_LAUNCH (R390, Table 4.16) -/

theorem placeGroups_length (n : Nat) (x : Ctx) (c b groups pc : Nat) (arg : Word64) (k i : Nat) (s : State) (gs : List GroupId) :
    (placeGroups n x c b groups pc arg k i s gs).2.length = gs.length + k := by
  induction k generalizing i s gs with
  | zero => rfl
  | succ k ih =>
    unfold placeGroups
    rw [ih]
    simp
    omega

/-- A block placed stands on its cluster, with its groups and its tiles. -/
theorem placeBlock_stands {n k b : Nat} {e : Entry} {arg : Word64} {done : Option Nat} {t : State} (h : placeBlock s n x k e arg done = .ok (t, b)) :
    ∃ y, Sparse.find? (t.cluster k).blocks b = some y ∧ y.ctx = n ∧ y.groups.length = e.groups ∧ y.tiles = x.accTiles := by
  unfold placeBlock at h
  dsimp only at h
  repeat' split at h
  all_goals cases h
  exact ⟨_, blockOf_setBlock .., rfl, (placeGroups_length ..).trans (Nat.zero_add _), rfl⟩

theorem placeBlocks_length {n k : Nat} {e : Entry} {arg : Word64} {done : Option Nat} {count : Nat} {t : State} {bs : List Nat}
    (h : placeBlocks n x k e arg done count s = .ok (t, bs)) : bs.length = count := by
  induction count generalizing s t bs with
  | zero =>
    cases h
    rfl
  | succ count ih =>
    unfold placeBlocks at h
    split at h
    · cases h
    · split at h
      · cases h
      · rename_i rest
        cases h
        rw [List.length_cons, ih rest]

theorem placeBlocks_single {n k b : Nat} {e : Entry} {arg : Word64} {done : Option Nat} {count : Nat} {t : State}
    (h : placeBlocks n x k e arg done count s = .ok (t, [b])) :
    ∃ y, Sparse.find? (t.cluster k).blocks b = some y ∧ y.ctx = n ∧ y.groups.length = e.groups ∧ y.tiles = x.accTiles := by
  obtain rfl : count = 1 := (placeBlocks_length h).symm
  unfold placeBlocks at h
  split at h
  · cases h
  · rename_i placed
    cases h
    exact placeBlock_stands placed

/-- What CTX_LAUNCH answers, from what placing its blocks came to. -/
def launchRan (s : State) : Except Nat (State × List Nat) → Ran
  | .error d => .fin s 6 d []
  | .ok (t, bs) => .fin t sOK 0 (bs.map (fun b => BitVec.ofNat 8 b))

/-- The blocks that CTX_LAUNCH asks for. -/
def launchPlaces (s : State) (c : OutCmd) (x : Ctx) (e : Entry) : Except Nat (State × List Nat) :=
  placeBlocks c.context x (c.arg 0 2) e (BitVec.ofNat 64 (c.arg 8 8)) (if c.arg 6 2 = 0xFFFF then none else some (c.arg 6 2)) (c.arg 4 1) s

theorem cmdCtxLaunch_unbound (hx : s.ctx? c.context = some x) (ho : fnOwns r.fn x.slot = true) (hj : x.job = none)
    (grant : clusterOfSlot x.slot (c.arg 0 2) = true) {e : Entry} (he : x.entries[c.arg 2 2]? = some e) :
    cmdCtxLaunch.run s r c = launchRan s (launchPlaces s c x e) := by
  refine (withCtx_owned hx ho _).trans ?_
  rw [if_neg (by simp [grant]), if_neg (by simp [hj]), he]
  unfold launchRan launchPlaces
  rfl

theorem cmdCtxLaunch_bound (hx : s.ctx? c.context = some x) (ho : fnOwns r.fn x.slot = true) {j : Job} (hj : x.job = some j)
    (grant : clusterOfSlot x.slot (c.arg 0 2) = true) : cmdCtxLaunch.run s r c = .fin s 5 2 [] := by
  refine (withCtx_owned hx ho _).trans ?_
  rw [if_neg (by simp [grant]), if_pos (by simp [hj])]
  rfl

/-! ## CTX_CLOSE and CTX_STATUS (R391, R392) -/

theorem cmdCtxClose_unbound (hx : s.ctx? c.context = some x) (ho : fnOwns r.fn x.slot = true) (hj : x.job = none) :
    cmdCtxClose.run s r c = .fin (closeContext s c.context 2) sOK 0 [] :=
  (withCtx_owned hx ho _).trans (if_neg (by simp [hj]))

theorem cmdCtxClose_bound (hx : s.ctx? c.context = some x) (ho : fnOwns r.fn x.slot = true) {j : Job} (hj : x.job = some j) :
    cmdCtxClose.run s r c = .fin s 5 2 [] :=
  (withCtx_owned hx ho _).trans (if_pos (by simp [hj]))

/-- A closed context is gone, and no other context changes. -/
theorem closeContext_closes {n : Nat} (hx : s.ctx? n = some x) (cause : Nat) :
    (closeContext s n cause).ctx? n = none ∧ (closeContext s n cause).mem = s.mem ∧ ∀ m, m ≠ n → (closeContext s n cause).ctx? m = s.ctx? m := by
  have ctxs : (closeContext s n cause).ctxs = Sparse.del s.ctxs n := by
    unfold closeContext
    rw [hx]
    refine congrArg (Sparse.del · n) ?_
    exact ((scrubObjs_within ..).ctxsSame (by decide)).trans (((clearPoints_within ..).ctxsSame (by decide)).trans ((killContext_within ..).ctxsSame (by decide)))
  refine ⟨?_, (closeContext_within ..).memSame (by decide) (by decide), fun m hm => ?_⟩
  · rw [State.ctx?, ctxs]
    exact Sparse.find?_del_self ..
  · rw [State.ctx?, ctxs]
    exact Sparse.find?_del_ne _ hm

/-- The report of CTX_STATUS. -/
def ctxReport (s : State) (c : OutCmd) (x : Ctx) : List Byte :=
  [if x.job.isSome then 2 else 1, BitVec.ofNat 8 x.slot] ++ zeros 2 ++ leBytes 4 (liveBlocks s c.context) ++ leBytes 4 x.fwVersion.toNat ++
    leBytes 4 x.syncObjects ++ padTo 16 x.digest

theorem cmdCtxStatus_reports (hx : s.ctx? c.context = some x) (ho : fnOwns r.fn x.slot = true) :
    cmdCtxStatus.run s r c = .fin s sOK 0 (ctxReport s c x) := withCtx_owned hx ho _

end

end Sys2Proof.Machine
end

section
/-! SUPPORT. The job commands and the rows of a re-shard (R393, R405, R412 to R416, R422, R423, R427, R428, Tables 12.1, 12.7 and 12.13 to 12.15). -/

namespace Sys2Proof.Machine

open Sys2Proof

section
variable {s : State} {r : RingId} {c : OutCmd} {x : Ctx} {j : Job}

/-! ## The job a command names (R392, R423) -/

theorem withJob_bound (hx : s.ctx? c.context = some x) (ho : fnOwns r.fn x.slot = true) (hj : x.job = some j) (f : Ctx → Job → Ran) :
    withJob s r c f = f x j := by
  unfold withJob
  rw [withCtx_owned hx ho, hj]

theorem withJob_unbound (hx : s.ctx? c.context = some x) (ho : fnOwns r.fn x.slot = true) (hj : x.job = none) (f : Ctx → Job → Ran) :
    withJob s r c f = .fin s 5 1 [] := by
  unfold withJob
  rw [withCtx_owned hx ho, hj]
  rfl

theorem withRoot_root (hx : s.ctx? c.context = some x) (ho : fnOwns r.fn x.slot = true) (hj : x.job = some j) (root : isRoot s j = true)
    (f : Ctx → Job → Ran) : withRoot s r c f = f x j :=
  (withJob_bound hx ho hj _).trans (if_pos root)

/-! ## JOB_BIND and JOB_UNBIND -/

theorem cmdJobBind_binds (hx : s.ctx? c.context = some x) (ho : fnOwns r.fn x.slot = true) (hj : x.job = none) (share : shareOf (c.pay 0 2) = x.slot)
    (alone : ∀ e ∈ s.ctxs, e.2.slot = x.slot → e.2.job = none)
    (keys : ∀ i ∈ [0, 1], (Sparse.find? s.keep.linkKeys (keyIndex (c.pay 0 2) i)).isSome) (room : 0x80_0000 ≤ stagingFree s x.slot) :
    cmdJobBind.run s r c = .fin (bindJob s c.context c.payload) sOK 0 [] := by
  refine (withCtx_owned hx ho _).trans ?_
  dsimp only
  have single : s.ctxs.any (fun e => e.2.slot == x.slot && e.2.job.isSome) = false := by
    refine List.any_eq_false.mpr (fun e he => ?_)
    by_cases same : e.2.slot = x.slot
    · simp [alone e he same]
    · simp [same]
  have keyed : [0, 1].any (fun i => (Sparse.find? s.keep.linkKeys (keyIndex (c.pay 0 2) i)).isNone) = false := by
    refine List.any_eq_false.mpr (fun i hi => ?_)
    simpa [Option.isSome_iff_ne_none] using keys i hi
  rw [if_neg (by simp [hj]), if_neg (by simp [share, single]), if_neg (by rw [keyed]; simp), if_neg (Nat.not_lt.mpr room)]
  rfl

theorem cmdJobUnbind_unbinds (hx : s.ctx? c.context = some x) (ho : fnOwns r.fn x.slot = true) (hj : x.job = some j) :
    cmdJobUnbind.run s r c = if atBoundary j = true then .fin (unbind s c.context x) sOK 0 [] else .fin s 5 (stepCode j.st) [] :=
  withJob_bound hx ho hj _

/-- A binding removed takes the collectives of its context with it. -/
theorem unbind_unbinds (s : State) (n : Nat) (x : Ctx) :
    (unbind s n x).ctx? n = some { x with job := none } ∧ (unbind s n x).mem = s.mem ∧ ∀ k ∈ (unbind s n x).fabric.colls, k.ctx ≠ n :=
  ⟨State.ctx_setCtx .., rfl, fun k hk => by simpa using (List.mem_filter.mp hk).2⟩

/-! ## STEP_STATUS and STEP_RESUME (R422, R423) -/

/-- A field of a record stands where its number was written. -/
theorem field_written {as : List Byte} {o : Nat} (h : as.length = o) (n v : Nat) (bs : List Byte) : field (as ++ (leBytes n v ++ bs)) o n = v % 256 ^ n := by
  rw [field_append (Nat.le_of_eq h), h, Nat.sub_self, field_leBytes]

/-- The report of STEP_STATUS. -/
def stepReport (s : State) (x : Ctx) (j : Job) : List Byte :=
  [BitVec.ofNat 8 (stepCode j.st), Config.freeByte s.free] ++ zeros 2 ++ leBytes 4 j.discards ++ leBytes 8 j.epoch ++ leBytes 4 (stepCount s x j) ++ zeros 12

theorem stepReport_reads (s : State) (x : Ctx) (j : Job) : byteAt (stepReport s x j) 0 = BitVec.ofNat 8 (stepCode j.st) ∧
    field (stepReport s x j) 4 4 = j.discards % 2 ^ 32 ∧ field (stepReport s x j) 8 8 = j.epoch % 2 ^ 64 := by
  refine ⟨rfl, ?_, ?_⟩
  · have split : stepReport s x j = ([BitVec.ofNat 8 (stepCode j.st), Config.freeByte s.free] ++ zeros 2) ++
        (leBytes 4 j.discards ++ (leBytes 8 j.epoch ++ (leBytes 4 (stepCount s x j) ++ zeros 12))) := by simp only [stepReport, List.append_assoc]
    rw [split]
    exact field_written (by simp) ..
  · have split : stepReport s x j = ([BitVec.ofNat 8 (stepCode j.st), Config.freeByte s.free] ++ zeros 2 ++ leBytes 4 j.discards) ++
        (leBytes 8 j.epoch ++ (leBytes 4 (stepCount s x j) ++ zeros 12)) := by simp only [stepReport, List.append_assoc]
    rw [split]
    exact field_written (by simp) ..

theorem cmdStepStatus_reports (hx : s.ctx? c.context = some x) (ho : fnOwns r.fn x.slot = true) (hj : x.job = some j) :
    cmdStepStatus.run s r c = .fin s.tick sOK 0 (stepReport s x j) := withJob_bound hx ho hj _

section
variable (hx : s.ctx? c.context = some x) (ho : fnOwns r.fn x.slot = true) (hj : x.job = some j) (root : isRoot s j = true)
include hx ho hj root

theorem cmdStepResume_continues (hst : j.st = .haltedIn) (order : c.arg 0 1 = 0) (clear : j.failed = false) :
    cmdStepResume.run s r c = .fin (continueStep s c.context j) sOK 0 [] :=
  (withRoot_root hx ho hj root _).trans (if_pos ⟨hst, order, clear⟩)

theorem cmdStepResume_aborts (hst : j.st = .haltedIn) (order : c.arg 0 1 = 1) :
    cmdStepResume.run s r c = .fin (decideAbort (setJob s c.context (noteFail j 4 s.lantern.fabricId 0 0)) c.context) sOK 0 [] :=
  (withRoot_root hx ho hj root _).trans ((if_neg (by simp [order])).trans (if_pos ⟨hst, order⟩))

theorem cmdStepResume_launches (hst : j.st = .haltedAt) (order : c.arg 0 1 = 2) (own : j.surv.useExport = false) (stays : j.surv.relaunch = none) :
    cmdStepResume.run s r c = .fin (resumeLaunch s c.context j) sOK 0 [] :=
  (withRoot_root hx ho hj root _).trans ((if_neg (by simp [order])).trans ((if_neg (by simp [order])).trans (if_pos ⟨hst, order, own, by simp [stays]⟩)))

theorem cmdStepResume_refuses (inside : j.st ≠ .haltedIn) (between : j.st ≠ .haltedAt) : cmdStepResume.run s r c = .fin s 5 (stepCode j.st) [] :=
  (withRoot_root hx ho hj root _).trans ((if_neg (by simp [inside])).trans ((if_neg (by simp [inside])).trans (if_neg (by simp [between]))))

end

/-! ## SHARD_REG, PIPE_REG and PIPE_STATUS (R405, R412 to R416) -/

theorem cmdShardReg_registers (hx : s.ctx? c.context = some x) (ho : fnOwns r.fn x.slot = true) (hj : x.job = some j) (boundary : atBoundary j = true) :
    cmdShardReg.run s r c = .fin (setJob (overRecs (registerRec j.epoch) s (c.arg 0 8) (c.arg 8 4)) c.context
      { j with shardTable := c.arg 0 8, shardRecs := c.arg 8 4 }) sOK 0 [] :=
  (withJob_bound hx ho hj _).trans (if_neg (by simp [boundary]))

theorem cmdPipeReg_adds (hx : s.ctx? c.context = some x) (ho : fnOwns r.fn x.slot = true) (hj : x.job = some j) :
    cmdPipeReg.run s r c = .fin (s.setCtx c.context { x with job := some { j with queues := j.queues ++ [parseQueue c.payload] } }) sOK 0 [] :=
  (withJob_bound hx ho hj _).trans (by rw [setJob_eq hx]; rfl)

theorem cmdPipeStatus_reports (hx : s.ctx? c.context = some x) (ho : fnOwns r.fn x.slot = true) (hj : x.job = some j) {q : StageQueue}
    (hq : j.queues.find? (fun q => q.qid == c.arg 0 2) = some q) : cmdPipeStatus.run s r c =
      .fin s.tick sOK 0 (leBytes 8 q.input ++ leBytes 8 q.credit ++ leBytes 8 q.other ++ leBytes 4 (queueCredits s x q) ++ zeros 4) := by
  refine (withJob_bound hx ho hj _).trans ?_
  rw [hq]
  rfl

/-! ## Re-sharding (R427, R428, Tables 12.13 and 12.14) -/

theorem reportIncomplete_whole (whole : j.reshard.st ≠ .incomplete) (n : Nat) : reportIncomplete s n x j = s := if_pos whole

theorem cmdReshardStart_starts (hx : s.ctx? c.context = some x) (ho : fnOwns r.fn x.slot = true) (hj : x.job = some j) (root : isRoot s j = true)
    (boundary : atBoundary j = true) (ended : j.reshard.st = .idle ∨ j.reshard.st = .done) :
    cmdReshardStart.run s r c = .fin (startReshard s c.context x j c) sOK 0 (leBytes 4 (j.reshard.number + 1)) := by
  refine (withRoot_root hx ho hj root _).trans ?_
  dsimp only
  rcases ended with idle | done
  · rw [if_neg (by simp [boundary, idle]), reportIncomplete_whole (by simp [idle])]
    rfl
  · rw [if_neg (by simp [boundary, done]), reportIncomplete_whole (by simp [done])]
    rfl

/-- The report of RESHARD_STATUS. -/
def reshardReport (s : State) (j : Job) : List Byte := [Config.freeByte s.free] ++ zeros 3 ++ leBytes 4 j.reshard.number ++ leBytes 8 j.reshard.moved

theorem reshardReport_reads (s : State) (j : Job) : (reshardReport s j).length = 16 ∧ field (reshardReport s j) 4 4 = j.reshard.number % 2 ^ 32 ∧
    field (reshardReport s j) 8 8 = j.reshard.moved % 2 ^ 64 := by
  refine ⟨by simp [reshardReport], ?_, ?_⟩
  · have split : reshardReport s j = ([Config.freeByte s.free] ++ zeros 3) ++ (leBytes 4 j.reshard.number ++ leBytes 8 j.reshard.moved) := by
      simp only [reshardReport, List.append_assoc]
    rw [split]
    exact field_written (by simp) ..
  · have split : reshardReport s j = ([Config.freeByte s.free] ++ zeros 3 ++ leBytes 4 j.reshard.number) ++ (leBytes 8 j.reshard.moved ++ []) := by
      rw [List.append_nil]
      rfl
    rw [split]
    exact field_written (by simp) ..

theorem cmdReshardStatus_reports (hx : s.ctx? c.context = some x) (ho : fnOwns r.fn x.slot = true) (hj : x.job = some j)
    (whole : j.reshard.st ≠ .incomplete) : cmdReshardStatus.run s r c = .fin s.tick sOK 0 (reshardReport s j) := by
  refine (withJob_bound hx ho hj _).trans ?_
  rw [reportIncomplete_whole whole]
  rfl

theorem breakReshard_copying (copying : j.reshard.st = .copying) : breakReshard j = { j with reshard := { j.reshard with st := .incomplete } } := if_pos copying

theorem cmdReshardAbort_breaks (hx : s.ctx? c.context = some x) (ho : fnOwns r.fn x.slot = true) (hj : x.job = some j) (copying : j.reshard.st = .copying)
    (other : isRoot s j = false) : cmdReshardAbort.run s r c =
      .fin (s.setCtx c.context { x with job := some { j with reshard := { j.reshard with st := .incomplete } } }) sOK 0 [] := by
  refine (withJob_bound hx ho hj _).trans ?_
  dsimp only
  rw [if_pos copying, if_neg (by simp [other]), breakReshard_copying copying, setJob_eq hx]
  rfl

end

section
variable {s : State} {n : Nat} {x : Ctx} {j : Job}

theorem reshardCopied_ends (h : jobAt s n = some (x, j)) (copying : j.reshard.st = .copying)
    (moved : ∀ m ∈ (s.cluster (svcCluster x.slot)).msgs, m.ctx ≠ n ∨ m.txn ≠ 9 ∨ m.laddr ≠ reshardKey j.reshard.number) :
    execReshardCopied n s = if j.lostFlag then .next (setJob s n (breakReshard j))
      else .next (noteCopied (setJob s n { j with reshard := { j.reshard with st := .copied } }) n ((ownRank s j).getD 0)) := by
  have ended : (s.cluster (svcCluster x.slot)).msgs.any (fun m => m.ctx == n && m.txn == 9 && m.laddr == reshardKey j.reshard.number) = false := by
    refine List.any_eq_false.mpr (fun m hm => ?_)
    have apart := moved m hm
    simp only [Bool.and_eq_true, beq_iff_eq]
    tauto
  unfold execReshardCopied
  rw [h]
  exact if_neg (by simp [copying, ended])

/-- The root acts on COPIED only once its own moves have ended. -/
theorem tryCommitted_waits (h : jobAt s n = some (x, j)) (early : j.reshard.st ≠ .copied) : tryCommitted s n = s := by
  unfold tryCommitted
  rw [h]
  exact if_pos (by simp [early])

theorem noteCopied_gathers (h : jobAt s n = some (x, j)) (root : isRoot s j = true) (early : j.reshard.st ≠ .copied) (rank : Nat) : noteCopied s n rank =
    setJob s n { j with reshard := { j.reshard with copiedBy := j.reshard.copiedBy.filter (fun q => q != rank) ++ [rank] } } := by
  unfold noteCopied
  rw [h]
  refine (if_neg (by simp [root])).trans ?_
  exact tryCommitted_waits (jobAt_setJob (jobAt_eq_some.mp h).1 _) early

theorem noteCopied_passes (h : jobAt s n = some (x, j)) (other : isRoot s j = false) (rank : Nat) : noteCopied s n rank = tellParent s j := by
  unfold noteCopied
  rw [h]
  exact if_pos (by simp [other])

theorem reshardCommitted_registers (h : jobAt s n = some (x, j)) (copied : j.reshard.st = .copied) (other : isRoot s j = false) :
    execReshardCommitted n s = .next (registerNew s n) := by
  unfold execReshardCommitted
  rw [h]
  exact if_neg (by simp [copied, other])

/-- R427: the new table is registered in place of the old one. -/
theorem registerNew_leads (h : jobAt s n = some (x, j)) : Leads 27801720 s (registerNew s n) n { j with
    shardTable := j.reshard.newTable, shardRecs := j.reshard.newRecs, reshard := { j.reshard with st := .done },
    awaiting := j.awaiting.filter (fun k => k != .reshardCommitted) } := by
  have records : Within 27269240 s (overRecs (registerRec j.epoch) s j.reshard.newTable j.reshard.newRecs) :=
    overRecs_in (.refl ..) (by decide) (registerRec_within _)
  unfold registerNew
  rw [h]
  exact (((Leads.start _ h).quiet records (by decide) (by decide)).quiet (tellChildren_within ..) (by decide) (by decide)).setJob _ (by decide)

end

end Sys2Proof.Machine
end

section
/-! SUPPORT. The context and job commands as rows (R388 to R394, R405, R406, R412 to R416, R422, R423, R427, R428). -/

namespace Sys2Proof.Machine

open Sys2Proof

section
variable {s : State} {r : RingId} {c : OutCmd} {p : List Byte} {x : Ctx} {j : Job}

/-- R388, Table 4.21: CTX_LOAD, refused by the first check that fails, or answered with a new context. -/
theorem ctxLoad_acts (h : Ready cmdCtxLoad s r c p) (may : MayLoad s r c) :
    (∀ o, firstBad (vmodBad (loadImage s c) (loadSize c)) = some o → RefusesWith (.ctxLoad r c.tag) s r c p 3 (64 + o)) ∧
    (firstBad (vmodBad (loadImage s c) (loadSize c)) = none → field (loadImage s c) 6 2 ≤ (runningSlot s).virdyMax →
      sha3 ((loadImage s c).drop 256) = ((loadImage s c).drop 64).take 32 → (slotCtxs s (loadSlot c)).length < slotLimit (loadSlot c) →
      (loadVids s c).length = field (loadImage s c) 32 4 → findSection (loadImage s c) 3 = none →
      ∃ t x, CompletesWith (.ctxLoad r c.tag) s r c t (leBytes 4 s.nextCtx ++ leBytes 4 (field (loadImage s c) 32 4)) ∧
        t.nextCtx = s.nextCtx + 1 ∧ t.ctx? s.nextCtx = some x ∧ x.slot = loadSlot c ∧ x.job = none ∧ x.maps = [] ∧ x.vids = loadVids s c ∧
        x.code = codeOf (loadImage s c) ∧ x.syncObjects = field (loadImage s c) 32 4 ∧ (∀ m, m ≠ s.nextCtx → t.ctx? m = s.ctx? m) ∧ t.mem = s.mem) := by
  have may' : MayLoad (begun s r c p) r { c with payload := p } := ⟨may.owns, may.exist, may.reads⟩
  refine ⟨fun o bad => refuses_of_run h rfl (ctxLoadRun_refuses may' bad), fun good version digest room objs noConst => ?_⟩
  obtain ⟨ctx, others, mem⟩ := ctxLoaded_ctx (begun s r c p) { c with payload := p }
  exact ⟨_, _, completes_of_run h rfl (ctxLoadRun_loads may' good version digest room objs noConst), rfl, ctx, rfl, rfl, rfl, rfl, rfl, rfl, others, mem⟩

/-- R390, Table 4.16: CTX_LAUNCH of an unbound context by what placing its blocks comes to. -/
theorem ctxLaunch_places (hx : s.ctx? c.context = some x) (ho : fnOwns r.fn x.slot = true) (hj : x.job = none) (h : Ready cmdCtxLaunch s r c p)
    (grant : clusterOfSlot x.slot (c.arg 0 2) = true) {e : Entry} (he : x.entries[c.arg 2 2]? = some e) :
    (∀ t bs, launchPlaces (begun s r c p) c x e = .ok (t, bs) → CompletesWith (.ctxLaunch r c.tag) s r c t (bs.map (fun b => BitVec.ofNat 8 b)) ∧
      (∀ b, bs = [b] → ∃ k, Sparse.find? (t.cluster (c.arg 0 2)).blocks b = some k ∧ k.ctx = c.context ∧ k.groups.length = e.groups ∧ k.tiles = x.accTiles)) ∧
    (∀ d, launchPlaces (begun s r c p) c x e = .error d → RefusesWith (.ctxLaunch r c.tag) s r c p 6 d) := by
  have run := cmdCtxLaunch_unbound (s := begun s r c p) (c := { c with payload := p }) hx ho hj grant he
  refine ⟨fun t bs placed => ⟨completes_of_run h rfl (run.trans (congrArg (launchRan _) placed)), fun b one => ?_⟩,
    fun d short => refuses_of_run h rfl (run.trans (congrArg (launchRan _) short))⟩
  subst one
  exact placeBlocks_single placed

/-- R427: the rows that a re-shard's messages bring. -/
theorem reshardRows {n : Nat} (h : jobAt s n = some (x, j)) :
    (j.reshard.st = .copying → (∀ m ∈ (s.cluster (svcCluster x.slot)).msgs, m.ctx ≠ n ∨ m.txn ≠ 9 ∨ m.laddr ≠ reshardKey j.reshard.number) →
      (j.lostFlag = true → Machine.exec (.reshardCopied n) s = .next (setJob s n { j with reshard := { j.reshard with st := .incomplete } })) ∧
      (j.lostFlag = false → Machine.exec (.reshardCopied n) s =
        .next (noteCopied (setJob s n { j with reshard := { j.reshard with st := .copied } }) n ((ownRank s j).getD 0)))) ∧
    (isRoot s j = true → j.reshard.st ≠ .copied → ∀ rank, ∃ t y, Machine.exec (.copied n rank) s = .next t ∧ jobAt t n = some y ∧ rank ∈ y.2.reshard.copiedBy ∧
      t.mem = s.mem) ∧
    (isRoot s j = false → ∀ rank, ∃ t, Machine.exec (.copied n rank) s = .next t ∧ t.ctxs = s.ctxs ∧ t.mem = s.mem) ∧
    (j.reshard.st = .copied → isRoot s j = false → ∃ t y, Machine.exec (.reshardCommitted n) s = .next t ∧ jobAt t n = some y ∧ y.2.reshard.st = .done ∧
      y.2.shardTable = j.reshard.newTable ∧ y.2.shardRecs = j.reshard.newRecs) := by
  refine ⟨fun copying moved => ⟨fun lost => ?lost, fun whole => ?whole⟩, fun root early rank => ?gather, fun other rank => ?pass, fun copied other => ?commit⟩
  case lost => exact (reshardCopied_ends h copying moved).trans ((if_pos lost).trans (by rw [breakReshard_copying copying]))
  case whole => exact (reshardCopied_ends h copying moved).trans (if_neg (by simp [whole]))
  case gather =>
    exact ⟨_, _, congrArg Host.Outcome.next (noteCopied_gathers h root early rank), jobAt_setJob (jobAt_eq_some.mp h).1 _, by simp,
      (setJob_within ..).memSame (by decide) (by decide)⟩
  case pass =>
    exact ⟨_, congrArg Host.Outcome.next (noteCopied_passes h other rank), (tellParent_within ..).ctxsSame (by decide),
      (tellParent_within ..).memSame (by decide) (by decide)⟩
  case commit =>
    obtain ⟨z, hz⟩ := (registerNew_leads h).job
    exact ⟨_, _, reshardCommitted_registers h copied other, hz, rfl, rfl, rfl⟩

end

/-- Settles O53, command by command: each row runs its command (`completes_of_run`, `refuses_of_run`), which first finds its context and its job (`withCtx_owned`,
`withJob_bound`, `withRoot_root`); the rows of a re-shard are `reshardRows`. -/
theorem contextAndJobCommandsAct : Obligations.ContextAndJobCommandsAct := by
  refine ⟨fun s r c p h owns exist reads => ctxLoad_acts h ⟨owns, exist, reads⟩, fun s r c p x hx ho => ⟨fun h => ?status, fun hj => ?unbound,
    fun j hj => ?bound⟩, fun s n x j h => reshardRows h⟩
  case status => exact ⟨_, completes_of_run h rfl (cmdCtxStatus_reports (s := begun s r c p) hx ho), rfl, rfl⟩
  case unbound =>
    refine ⟨fun h grant e he => ctxLaunch_places hx ho hj h grant he, fun h => ?close, fun h share alone keys room => ?bind, fun h => ?unbind⟩
    case close =>
      obtain ⟨gone, mem, others⟩ := closeContext_closes (s := begun s r c p) hx 2
      exact ⟨_, completes_of_run h rfl (cmdCtxClose_unbound (s := begun s r c p) hx ho hj), gone, mem, others⟩
    case bind => exact completes_of_run h rfl (cmdJobBind_binds (s := begun s r c p) (c := { c with payload := p }) hx ho hj share alone keys room)
    case unbind => exact refuses_of_run h rfl (withJob_unbound (s := begun s r c p) hx ho hj _)
  case bound =>
    refine ⟨fun h grant => refuses_of_run h rfl (cmdCtxLaunch_bound (s := begun s r c p) hx ho hj grant),
      fun h => refuses_of_run h rfl (cmdCtxClose_bound (s := begun s r c p) hx ho hj), fun h boundary => ?unbind, fun h under => ?unbindRefused, fun h => ?status,
      fun h root => ⟨fun hst order clear => completes_of_run h rfl (cmdStepResume_continues (s := begun s r c p) hx ho hj root hst order clear),
        fun hst order => completes_of_run h rfl (cmdStepResume_aborts (s := begun s r c p) hx ho hj root hst order),
        fun hst order own stays => completes_of_run h rfl (cmdStepResume_launches (s := begun s r c p) hx ho hj root hst order own stays),
        fun inside between => refuses_of_run h rfl (cmdStepResume_refuses (s := begun s r c p) hx ho hj root inside between)⟩,
      fun h boundary => completes_of_run h rfl (cmdShardReg_registers (s := begun s r c p) hx ho hj boundary), fun h => ?pipeReg, fun h q hq role => ?pipeStatus,
      fun h root boundary ended => completes_of_run h rfl (cmdReshardStart_starts (s := begun s r c p) hx ho hj root boundary ended), fun h whole => ?reshardStatus,
      fun h copying other => ?reshardAbort⟩
    case unbind =>
      exact ⟨_, completes_of_run h rfl ((cmdJobUnbind_unbinds (s := begun s r c p) hx ho hj).trans (if_pos boundary)), unbind_unbinds ..⟩
    case unbindRefused => exact refuses_of_run h rfl ((cmdJobUnbind_unbinds (s := begun s r c p) hx ho hj).trans (if_neg (by simp [under])))
    case status => exact ⟨_, _, completes_of_run h rfl (cmdStepStatus_reports (s := begun s r c p) hx ho hj), rfl, rfl, stepReport_reads ..⟩
    case pipeReg =>
      exact ⟨_, completes_of_run h rfl (cmdPipeReg_adds (s := begun s r c p) (c := { c with payload := p }) hx ho hj), State.ctx_setCtx .., rfl⟩
    case pipeStatus => exact ⟨_, _, completes_of_run h rfl (cmdPipeStatus_reports (s := begun s r c p) hx ho hj hq), rfl, rfl, rfl⟩
    case reshardStatus =>
      obtain ⟨length, number, moved⟩ := reshardReport_reads (begun s r c p) j
      exact ⟨_, _, completes_of_run h rfl (cmdReshardStatus_reports (s := begun s r c p) hx ho hj whole), rfl, length, number, moved⟩
    case reshardAbort =>
      exact ⟨_, completes_of_run h rfl (cmdReshardAbort_breaks (s := begun s r c p) hx ho hj copying other), State.ctx_setCtx .., rfl⟩

end Sys2Proof.Machine
end

section
/-! SUPPORT. The risk estimate and its report to the root (R433, R434, R436, Tables 13.1 and 13.2). -/

namespace Sys2Proof.Machine

open Sys2Proof

/-- The six inputs rest on the module's own counts and on the readings of its stacks. -/
theorem riskInputs_congr {s t : State} (hr : t.risk = s.risk) (hm : t.mem = s.mem) : riskInputs t = riskInputs s := by
  unfold riskInputs stackExcess State.stack
  rw [hr, hm]

/-- A factor over one, in the unit of 1/65,536, has no power of at most one half. -/
theorem decayFactor_le (h : Nat) : decayFactor h ≤ 65536 := by
  unfold decayFactor
  refine List.foldlRecOn (motive := fun f : Nat => f ≤ 65536) _ _ (Nat.zero_le _) (fun f hf b _ => ?_)
  split
  · next half =>
    by_contra more
    have grows : 65536 ^ h ≤ (f + b) ^ h := Nat.pow_le_pow_left (by omega) h
    have positive : 0 < 65536 ^ h := Nat.pow_pos (by decide)
    omega
  · exact hf

theorem decayed_le (h x : Nat) : decayed h x ≤ x :=
  Nat.div_le_of_le_mul ((Nat.mul_le_mul_left x (decayFactor_le h)).trans (Nat.mul_comm ..).le)

/-- The state in which the bound jobs are a second older and the module's counts have decayed. -/
def countsDecayed (s : State) : State :=
  let t := (boundCtxs s).foldl olderJob s
  let h := t.risk.halfLife
  { t with risk := { t.risk with
      memErr := decayed h t.risk.memErr, linkEv := decayed h t.risk.linkEv, replays := decayed h t.risk.replays, droops := decayed h t.risk.droops,
      neigh := decayed h t.risk.neigh, snapAge := oldestSnap t } }

/-- The state in which the risk is estimated anew. -/
def riskEstimated (s : State) : State :=
  { countsDecayed s with risk := { (countsDecayed s).risk with value := capped 65535 (riskInputs (countsDecayed s)).sum } }

theorem riskUpdate_estimates (s : State) : execRiskUpdate s = .next ((boundCtxs (riskEstimated s)).foldl riskReportOut (riskEstimated s)) := rfl

theorem olderJobs_within (s : State) : Within 8192 s ((boundCtxs s).foldl olderJob s) := Within.foldl (.refl ..) olderJob_within

/-- R433: the estimate is the sum of its inputs as they stand, and no report changes either. -/
theorem riskUpdate_sums (s : State) : ∃ t, Machine.exec .riskUpdate s = .next t ∧ t.risk.value ≤ 65535 ∧ t.risk.value = Nat.min 65535 (riskInputs t).sum ∧
    t.mem = s.mem ∧ t.risk.memErr ≤ s.risk.memErr ∧ t.risk.halfLife = s.risk.halfLife := by
  have aged : ((boundCtxs s).foldl olderJob s).risk = s.risk := (olderJobs_within s).riskSame (by decide)
  have memErr := congrArg Risk.memErr aged
  have halfLife := congrArg Risk.halfLife aged
  have reports := Within.foldl (l := boundCtxs (riskEstimated s)) (.refl 25698424 (riskEstimated s)) riskReportOut_within
  have risk := reports.riskSame (by decide)
  have mem := reports.memSame (by decide) (by decide)
  refine ⟨_, riskUpdate_estimates s, ?_, ?_, mem.trans ((olderJobs_within s).memSame (by decide) (by decide)), ?_, ?_⟩
  · rw [risk]
    exact Nat.min_le_left ..
  · rw [riskInputs_congr risk mem, risk]
    rfl
  · rw [risk]
    exact (decayed_le ..).trans memErr.le
  · rw [risk]
    exact halfLife

/-- R436: a report that reaches the threshold orders a snapshot at the root. -/
theorem riskReport_orders {s : State} {n : Nat} {x : Ctx} {j : Job} (h : jobAt s n = some (x, j)) (root : isRoot s j = true) {rank risk : Nat}
    (hr : rank < jobSize j) (reaches : j.surv.threshold ≤ risk) :
    execRiskReport n rank risk s = .next (setJob s n { j with surv := { j.surv with orderRisk := true } }) := by
  unfold execRiskReport
  rw [h]
  exact if_neg (by simp [root, hr, reaches])

end Sys2Proof.Machine
end

section
/-! SUPPORT. A snapshot on one member: its boundary copy, its writing, its report and its commit (R437, R444, R445, Tables 13.3 to 13.5). -/

namespace Sys2Proof.Machine

open Sys2Proof

section
variable {s : State} {n : Nat} {x : Ctx} {j : Job}

/-- R437, step 2: the copy of a member that launches no step opens the writing. -/
theorem snapBoundaryCopyDone_opens (h : jobAt s n = some (x, j)) (taking : j.surv.taking ≠ 0) (copying : j.surv.phase = 0) (rest : j.st ≠ .running)
    (micros : Nat) : execSnapBoundaryCopyDone n micros s = .next (setJob (s.bump 0x07000004 micros) n { j with surv := { j.surv with phase := 1 } }) := by
  unfold execSnapBoundaryCopyDone
  rw [h]
  exact (if_neg (by simp [taking, copying])).trans (if_neg (by simp [rest]))

theorem snapBoundaryCopyDone_gives (h : jobAt s n = some (x, j)) (taking : j.surv.taking ≠ 0) (copying : j.surv.phase = 0) (rest : j.st ≠ .running)
    (micros : Nat) : JobGives (.snapBoundaryCopyDone n micros) s n (fun t y => y = { j with surv := { j.surv with phase := 1 } } ∧ t.mem = s.mem ∧
      t.counter 0x07000004 = s.counter 0x07000004 + micros) := by
  have opened := ((Leads.start stepParts h).quiet (State.bump_within s 0x07000004 micros) (by decide) (by decide)).setJob
    { j with surv := { j.surv with phase := 1 } } (by decide)
  refine opened.gives (snapBoundaryCopyDone_opens h taking copying rest micros) ⟨rfl, opened.mem_eq (by decide) (by decide), ?_⟩
  rw [State.counter, (setJob_within ..).countersSame (by decide)]
  exact State.counter_bump ..

/-- A manifest begins with its magic number, so it is not empty. -/
theorem manifestOf_length_ne (s : State) (j : Job) (p : Snap) : (manifestOf s j p).length ≠ 0 := by
  simp [manifestOf]

/-- The job in which a member's landing set is written. -/
def snapWritten (j : Job) (p : Snap) (tensors : List Tensor) : Job := { j with surv := { j.surv with phase := 3, draft := some p, tensors := tensors } }

/-- R437, step 4: the landing set is written, and the manifest built. -/
theorem writeSnap_leads (h : jobAt s n = some (x, j)) (d : Snap) : ∃ p tensors, Leads stepParts s (writeSnap s n j d) n (snapWritten j p tensors) ∧
    p.epoch = d.epoch ∧ p.step = d.step ∧ p.manifest.length ≠ 0 := by
  unfold writeSnap
  exact ⟨_, _, ((Leads.start _ h).quiet (State.bump_within ..) (by decide) (by decide)).setJob (snapWritten j _ _) (by decide), rfl, rfl,
    manifestOf_length_ne _ _ _⟩

theorem noteSnapOk_passes (h : jobAt s n = some (x, j)) (other : isRoot s j = false) (rank : Nat) : noteSnapOk s n rank = tellParent s j := by
  unfold noteSnapOk
  rw [h]
  exact if_pos (by simp [other])

theorem snapWriteDone_writes (h : jobAt s n = some (x, j)) {d : Snap} (hd : j.surv.draft = some d) (taking : j.surv.taking ≠ 0) (writing : j.surv.phase = 1) :
    execSnapWriteDone n s = .next (noteSnapOk (writeSnap s n j d) n ((ownRank s j).getD 0)) := by
  unfold execSnapWriteDone
  rw [h]
  dsimp only
  rw [hd]
  exact if_neg (by simp [taking, writing])

/-- R437, steps 4 and 6: what is written is reported. -/
theorem snapWriteDone_gives (h : jobAt s n = some (x, j)) {d : Snap} (hd : j.surv.draft = some d) (taking : j.surv.taking ≠ 0) (writing : j.surv.phase = 1)
    (other : isRoot s j = false) : JobGives (.snapWriteDone n) s n (fun t y => y.surv.phase = 3 ∧ y.surv.taking = j.surv.taking ∧
      (∃ p, y.surv.draft = some p ∧ p.epoch = d.epoch ∧ p.step = d.step ∧ p.manifest.length ≠ 0) ∧ t.mem = s.mem) := by
  obtain ⟨p, tensors, written, epoch, step, manifest⟩ := writeSnap_leads h d
  obtain ⟨z, hz⟩ := written.job
  have reported := written.quiet (tellParent_within _ (snapWritten j p tensors)) (by decide) (by decide)
  refine reported.gives ((snapWriteDone_writes h hd taking writing).trans ?_)
    ⟨rfl, rfl, ⟨p, rfl, epoch, step, manifest⟩, reported.mem_eq (by decide) (by decide)⟩
  rw [noteSnapOk_passes hz ((written.isRoot_eq (j := j) (by decide) rfl rfl).trans other)]

theorem snapOk_notes (h : jobAt s n = some (x, j)) (taking : j.surv.taking ≠ 0) {rank : Nat} (hr : rank < jobSize j) :
    execSnapOk n rank j.surv.taking s = .next (noteSnapOk s n rank) := by
  unfold execSnapOk
  rw [h]
  exact if_neg (by simp [taking, hr])

/-- The root waits for every member's SNAP_OK. -/
theorem trySnapCommit_waits (h : jobAt s n = some (x, j)) (wait : ∃ q < jobSize j, q ∉ j.surv.okFrom) : trySnapCommit s n = s := by
  unfold trySnapCommit
  rw [h]
  obtain ⟨q, hq, silent⟩ := wait
  have some_silent : (List.range (jobSize j)).all (fun r => j.surv.okFrom.contains r) = false :=
    List.all_eq_false.mpr ⟨q, List.mem_range.mpr hq, by simpa using silent⟩
  exact if_pos (by simp only [some_silent]; simp)

/-- The job in which a member's SNAP_OK is noted. -/
def okNoted (j : Job) (rank : Nat) : Job := { j with surv := { j.surv with okFrom := j.surv.okFrom.filter (fun r => r != rank) ++ [rank] } }

theorem noteSnapOk_gathers (h : jobAt s n = some (x, j)) (root : isRoot s j = true) {rank : Nat} (wait : ∃ q < jobSize j, q ≠ rank ∧ q ∉ j.surv.okFrom) :
    noteSnapOk s n rank = setJob s n (okNoted j rank) := by
  obtain ⟨q, hq, apart, silent⟩ := wait
  unfold noteSnapOk
  rw [h]
  refine (if_neg (by simp [root])).trans ?_
  exact trySnapCommit_waits (jobAt_setJob (jobAt_eq_some.mp h).1 (okNoted j rank)) ⟨q, hq, by simp [okNoted, apart, silent]⟩

/-- R437, step 6: SNAP_OK goes up from a member, and is gathered at the root. -/
theorem snapOk_gives (h : jobAt s n = some (x, j)) (taking : j.surv.taking ≠ 0) {rank : Nat} (hr : rank < jobSize j) :
    (isRoot s j = false → ∃ t, Machine.exec (.snapOk n rank j.surv.taking) s = .next t ∧ t.ctxs = s.ctxs ∧ t.mem = s.mem) ∧
      (isRoot s j = true → (∃ q < jobSize j, q ≠ rank ∧ q ∉ j.surv.okFrom) → JobGives (.snapOk n rank j.surv.taking) s n (fun t y =>
        rank ∈ y.surv.okFrom ∧ y.surv.taking = j.surv.taking ∧ t.mem = s.mem)) := by
  have row := snapOk_notes h taking hr
  refine ⟨fun other => ⟨_, row.trans (congrArg _ (noteSnapOk_passes h other rank)), (tellParent_within ..).ctxsSame (by decide),
    (tellParent_within ..).memSame (by decide) (by decide)⟩, fun root wait => ?_⟩
  have noted := (Leads.start stepParts h).setJob (okNoted j rank) (by decide)
  exact noted.gives (row.trans (congrArg _ (noteSnapOk_gathers h root wait))) ⟨by simp [okNoted], rfl, noted.mem_eq (by decide) (by decide)⟩

theorem snapCommitted_commits (h : jobAt s n = some (x, j)) (taking : j.surv.taking ≠ 0) (written : j.surv.phase = 3) (other : isRoot s j = false) :
    execSnapCommitted n j.surv.taking s = .next (commitSnap s n) := by
  unfold execSnapCommitted
  rw [h]
  exact if_neg (by simp [taking, written, other])

/-- R437, step 7: the new landing set takes the place of the old one. -/
theorem commitSnap_leads (h : jobAt s n = some (x, j)) : ∃ y, Leads stepParts s (commitSnap s n) n y ∧ y.surv.saved = j.surv.draft ∧ y.surv.draft = none ∧
    y.surv.lastSnap = j.surv.taking ∧ y.surv.lastStep = j.surv.takingStep ∧ y.surv.taking = 0 := by
  unfold commitSnap
  rw [h]
  exact ⟨_, (((((Leads.start _ h).quiet (tellChildren_within s j) (by decide) (by decide)).quiet (State.tick_within _) (by decide) (by decide)).quiet
    (State.bump_within _ 0x07000001 1) (by decide) (by decide)).quiet (postBoth_within ..) (by decide) (by decide)).setJob _ (by decide),
    rfl, rfl, rfl, rfl, rfl⟩

theorem snapCommitted_gives (h : jobAt s n = some (x, j)) (taking : j.surv.taking ≠ 0) (written : j.surv.phase = 3) (other : isRoot s j = false) :
    JobGives (.snapCommitted n j.surv.taking) s n (fun t y => y.surv.saved = j.surv.draft ∧ y.surv.draft = none ∧ y.surv.lastSnap = j.surv.taking ∧
      y.surv.lastStep = j.surv.takingStep ∧ y.surv.taking = 0 ∧ t.mem = s.mem) := by
  obtain ⟨y, committed, saved, draft, lastSnap, lastStep, ended⟩ := commitSnap_leads h
  exact committed.gives (snapCommitted_commits h taking written other)
    ⟨saved, draft, lastSnap, lastStep, ended, committed.mem_eq (by decide) (by decide)⟩

end

end Sys2Proof.Machine
end

section
/-! SUPPORT. A lost member, and the spare that takes its place (R446, R447, R450 to R453, Table 13.8). -/

namespace Sys2Proof.Machine

open Sys2Proof

section
variable {s : State} {n : Nat} {x : Ctx} {j : Job}

/-! ## A member lost (R446, R447) -/

theorem breakReshard_st (j : Job) : (breakReshard j).st = j.st := by
  unfold breakReshard
  split <;> rfl

/-- The job in which a member other than the acting root keeps a loss. -/
def lossKept (j : Job) (rank : Nat) : Job := { breakReshard j with surv := { j.surv with lost := j.surv.lost ++ [rank] } }

theorem declareLost_passes (h : jobAt s n = some (x, j)) {rank : Nat} (hr : rank < jobSize j) (away : ownRank s j ≠ some rank) (new : rank ∉ j.surv.lost)
    (other : isActing s j (j.surv.lost ++ [rank]) = false) (cause : Nat) :
    declareLost s n rank cause = tell (setJob s n (lossKept j rank)) j (actingRoot j (j.surv.lost ++ [rank])) := by
  unfold declareLost
  rw [h]
  have lost : (if j.surv.lost.contains rank then j.surv.lost else j.surv.lost ++ [rank]) = j.surv.lost ++ [rank] := if_neg (by simpa using new)
  dsimp only
  rw [lost]
  exact (if_neg (by simp [hr, away])).trans (if_neg (by simp [other]))

/-- R446, R447: a declared or missed member is kept as lost, and passed on. -/
theorem declareLost_gives (h : jobAt s n = some (x, j)) {rank cause : Nat} {i : Instr} (hi : i = .memberLost n rank cause ∨ i = .memberHeartbeatMiss n rank)
    (hr : rank < jobSize j) (away : ownRank s j ≠ some rank) (new : rank ∉ j.surv.lost) (other : isActing s j (j.surv.lost ++ [rank]) = false) :
    JobGives i s n (fun t y => y.surv.lost = j.surv.lost ++ [rank] ∧ y.st = j.st ∧ t.mem = s.mem) := by
  have kept := ((Leads.start stepParts h).setJob (lossKept j rank) (by decide)).quiet (tell_within _ j (actingRoot j (j.surv.lost ++ [rank])))
    (by decide) (by decide)
  have passes := declareLost_passes h hr away new other
  have row : Machine.exec i s = .next (tell (setJob s n (lossKept j rank)) j (actingRoot j (j.surv.lost ++ [rank]))) := by
    rcases hi with rfl | rfl
    · exact congrArg Host.Outcome.next (passes cause)
    · exact congrArg Host.Outcome.next (passes 1)
  exact kept.gives row ⟨rfl, breakReshard_st j, kept.mem_eq (by decide) (by decide)⟩

/-! ## Spares (R450 to R452) -/

/-- The job in which a spare has moved to a state. -/
def spareMoved (j : Job) (fab : Nat) (st : SpareState) : Job := setSpare j fab (fun y => { y with st := st })

theorem spareMoved_st (j : Job) (fab : Nat) (st : SpareState) : ∀ z ∈ (spareMoved j fab st).surv.spares, z.fabricId = fab → z.st = st := by
  intro z hz here
  obtain ⟨y, -, rfl⟩ := List.mem_map.mp hz
  by_cases same : y.fabricId = fab
  · rw [if_pos same]
  · rw [if_neg same] at here
    exact absurd here same

theorem withSpare_found (h : jobAt s n = some (x, j)) {fab : Nat} {sp : Spare} (hf : j.surv.spares.find? (fun z => z.fabricId == fab) = some sp)
    (f : Job → Spare → State) : withSpare s n fab sp.st f = f j sp := by
  unfold withSpare
  rw [h]
  dsimp only
  rw [hf]
  exact if_pos rfl

/-- A job that awaits no relaunch stays as it is. -/
theorem tryRelaunch_stays (h : jobAt s n = some (x, j)) (stays : j.surv.relaunch = none) : tryRelaunch s n = s := by
  unfold tryRelaunch
  rw [h]
  exact if_pos (by simp [stays])

/-- A row that moves a spare once `t` is reached gives the spare in its new state, and leaves the step and memory. -/
theorem spareMoved_gives {i : Instr} {t : State} {fab : Nat} {st : SpareState} (h : Leads stepParts s t n j)
    (row : Machine.exec i s = .next (setJob t n (spareMoved j fab st))) : JobGives i s n (fun t y =>
      (∀ z ∈ y.surv.spares, z.fabricId = fab → z.st = st) ∧ y.st = j.st ∧ t.mem = s.mem) := by
  have moved := h.setJob (spareMoved j fab st) (by decide)
  exact moved.gives row ⟨spareMoved_st j fab st, rfl, moved.mem_eq (by decide) (by decide)⟩

/-- R452, Table 13.8: a spare from CLAIMED over FILLING and REBUILDING to guarded. -/
theorem spareRows (h : jobAt s n = some (x, j)) {fab : Nat} {sp : Spare} (hf : j.surv.spares.find? (fun z => z.fabricId == fab) = some sp) :
    (sp.st = .claimed → JobGives (.spareBindDone n fab true) s n (fun t y => (∀ z ∈ y.surv.spares, z.fabricId = fab → z.st = .filling) ∧ y.st = j.st ∧
      t.mem = s.mem)) ∧
    (sp.st = .filling → j.surv.relaunch = none → JobGives (.spareFillDone n fab) s n (fun t y => (∀ z ∈ y.surv.spares, z.fabricId = fab → z.st = .ready) ∧
      y.st = j.st ∧ t.mem = s.mem)) ∧
    (sp.st = .rebuilding → JobGives (.spareRebuildDone n fab) s n (fun t y => (∀ z ∈ y.surv.spares, z.fabricId = fab → z.st = .guarded) ∧ y.st = j.st ∧
      t.mem = s.mem)) := by
  have found := withSpare_found h hf
  refine ⟨fun claimed => ?bound, fun filling stays => ?filled, fun rebuilding => ?rebuilt⟩
  case bound =>
    rw [claimed] at found
    exact spareMoved_gives (.start _ h) (congrArg Host.Outcome.next (found _))
  case filled =>
    rw [filling] at found
    have counted := (Leads.start stepParts h).quiet (State.bump_within s 0x0700000B 1) (by decide) (by decide)
    obtain ⟨z, hz⟩ := (counted.setJob (spareMoved j fab .ready) (by decide)).job
    exact spareMoved_gives counted (congrArg Host.Outcome.next ((found _).trans (tryRelaunch_stays hz stays)))
  case rebuilt =>
    rw [rebuilding] at found
    exact spareMoved_gives (.start _ h) (congrArg Host.Outcome.next (found _))

end

end Sys2Proof.Machine
end

section
/-! SUPPORT. The snapshot and survival commands (R433, R435, R440, R442, R443, R447, R450, R456, Table 13.13). -/

namespace Sys2Proof.Machine

open Sys2Proof

section
variable {s : State} {r : RingId} {c : OutCmd} {x : Ctx} {j : Job}

/-! ## Commands of the commit root -/

theorem withRoot_other (hx : s.ctx? c.context = some x) (ho : fnOwns r.fn x.slot = true) (hj : x.job = some j) (other : isRoot s j = false)
    (f : Ctx → Job → Ran) : withRoot s r c f = .fin s 5 (stepCode j.st) [] :=
  (withJob_bound hx ho hj _).trans (if_neg (by simp [other]))

/-- The limits that SURV_CFG leaves. -/
def limitsSet (v : Survival) (c : OutCmd) : Survival :=
  { v with threshold := newOr v.threshold (c.arg 0 2), maxSteps := newOr v.maxSteps (c.arg 2 2), k := newOr v.k (c.arg 6 1), m := newOr v.m (c.arg 7 1),
           axis := newOr v.axis (c.arg 8 1), k4 := v.k4 || c.arg 9 1 == 1, mirrorMiB := newOr v.mirrorMiB (c.arg 10 4) }

/-- The state in which the decay of the risk counts has a half-life. -/
def halfLifeSet (s : State) (h : Nat) : State := { s with risk := { s.risk with halfLife := h } }

section
variable (hx : s.ctx? c.context = some x) (ho : fnOwns r.fn x.slot = true) (hj : x.job = some j) (root : isRoot s j = true)
include hx ho hj root

theorem cmdSurvCfg_sets : cmdSurvCfg.run s r c =
    .fin ((halfLifeSet s (newOr s.risk.halfLife (c.arg 4 2))).setCtx c.context { x with job := some { j with surv := limitsSet j.surv c } }) sOK 0 [] :=
  (withRoot_root hx ho hj root _).trans (congrArg (Ran.fin · sOK 0 [])
    (setJob_eq (s := halfLifeSet s (newOr s.risk.halfLife (c.arg 4 2))) hx { j with surv := limitsSet j.surv c }))

theorem cmdSnapNow_orders : cmdSnapNow.run s r c =
    .fin (s.setCtx c.context { x with job := some { j with surv := { j.surv with orderNow := true } } }) sOK 0 (leBytes 8 j.surv.nextSnap) := by
  refine (withRoot_root hx ho hj root _).trans ?_
  rw [setJob_eq hx]
  rfl

theorem cmdSurvRestore_restores {q : Snap} (hq : (if c.arg 0 1 = 1 then j.surv.exported else j.surv.saved) = some q) :
    cmdSurvRestore.run s r c = .fin (restoreJob s c.context (c.arg 0 1 == 1)) sOK 0 (leBytes 8 q.epoch) := by
  refine (withRoot_root hx ho hj root _).trans ?_
  rw [hq]
  rfl

theorem cmdSurvRestore_refuses (empty : (if c.arg 0 1 = 1 then j.surv.exported else j.surv.saved) = none) :
    cmdSurvRestore.run s r c = .fin s 5 (stepCode j.st) [] := by
  refine (withRoot_root hx ho hj root _).trans ?_
  rw [empty]
  rfl

end

/-! ## Spares joined and left (R450) -/

/-- The job in which a module has joined the pool of spares. -/
def spareJoined (j : Job) (fab : Nat) : Job := { j with surv := { j.surv with spares := j.surv.spares ++ [{ fabricId := fab, st := .pool, rank := 0 }] } }

/-- A job that has lost no member claims no spare. -/
theorem claimAll_whole {n : Nat} (h : jobAt s n = some (x, j)) (whole : j.surv.lost = []) : claimAll s n = s := by
  unfold claimAll
  rw [h]
  dsimp only
  rw [show waitingRanks j = [] by unfold waitingRanks; rw [whole]; rfl]
  rfl

section
variable (hx : s.ctx? c.context = some x) (ho : fnOwns r.fn x.slot = true) (hj : x.job = some j) (root : isRoot s j = true) (pf0 : r.fn = 0)
include hx ho hj root pf0

theorem cmdSurvSpareAdd_joins (whole : j.surv.lost = []) : cmdSurvSpareAdd.run s r c =
    .fin (s.setCtx c.context { x with job := some (spareJoined j (c.arg 0 4)) }) sOK 0 [] := by
  unfold cmdSurvSpareAdd
  dsimp only
  rw [pf0Only_pf0 pf0]
  exact (withRoot_root hx ho hj root _).trans (congrArg (Ran.fin · sOK 0 [])
    ((claimAll_whole (jobAt_setJob hx (spareJoined j (c.arg 0 4))) whole).trans (setJob_eq hx _)))

theorem cmdSurvSpareRemove_leaves {sp : Spare} (hf : j.surv.spares.find? (fun z => z.fabricId == c.arg 0 4) = some sp)
    (unused : sp.st = .pool ∨ sp.st = .ineligible) : cmdSurvSpareRemove.run s r c = .fin (s.setCtx c.context
      { x with job := some { j with surv := { j.surv with spares := j.surv.spares.filter (fun z => z.fabricId != c.arg 0 4) } } }) sOK 0 [] := by
  unfold cmdSurvSpareRemove
  dsimp only
  rw [pf0Only_pf0 pf0]
  refine (withRoot_root hx ho hj root _).trans ?_
  rw [hf]
  exact (if_pos unused).trans (by rw [setJob_eq hx]; rfl)

end

/-! ## Tensors (R440, R442, R443, Table 13.4) -/

/-- The flags of a tensor in a job of one member, which no other member protects. -/
def aloneFlags (j : Job) (flags shard : Nat) : Nat := (if flags % 2 = 1 then 1 else 0) + (if flags % 2 = 0 ∧ j.shardRecs ≤ shard then 2 else 0) + 8

theorem assignMethod_alone (alone : jobSize j = 1) (method flags bytes shard : Nat) :
    assignMethod s j method flags bytes shard = (1, aloneFlags j flags shard, false) := by
  unfold assignMethod
  dsimp only
  rw [if_pos alone]
  rcases Nat.mod_two_eq_zero_or_one flags with thawed | frozen
  · simp [aloneFlags, b2n, fBOUNDARY, fUNPROTECTED, thawed]
  · simp [aloneFlags, b2n, fFROZEN, fUNPROTECTED, frozen]

/-- The tensor that SNAP_TENSOR_REG registers in a job of one member. -/
def aloneTensor (j : Job) (c : OutCmd) : Tensor :=
  { id := c.pay 0 4, method := 1, flags := aloneFlags j (c.pay 5 1) (c.pay 24 4), addr := c.pay 8 8, bytes := c.pay 16 8, shard := c.pay 24 4, encoded := 0 }

/-- What a job registers, with the landing sets that it takes. -/
def tensorsSet (v : Survival) (ts : List Tensor) : Survival := { v with tensors := ts, landing := landUnits ts }

section
variable (hx : s.ctx? c.context = some x) (ho : fnOwns r.fn x.slot = true) (hj : x.job = some j)
include hx ho hj

theorem cmdSnapTensorReg_registers (boundary : atBoundary j = true) (alone : jobSize j = 1) (few : j.surv.tensors.length < 8191)
    (room : landUsed s - j.surv.landing + landUnits (j.surv.tensors ++ [aloneTensor j c]) ≤ landCapacity s) :
    cmdSnapTensorReg.run s r c = .fin (s.tick.tick.setCtx c.context
      { x with job := some { j with surv := tensorsSet j.surv (j.surv.tensors ++ [aloneTensor j c]) } }) sOK 0
      [1, BitVec.ofNat 8 (aloneFlags j (c.pay 5 1) (c.pay 24 4))] := by
  refine (withJob_bound hx ho hj _).trans ?_
  dsimp only
  rw [assignMethod_alone alone]
  refine (if_neg (by simp [boundary])).trans ((if_neg ?_).trans ?_)
  · simpa [alone, few, Nat.lt_succ_iff, aloneTensor, OutCmd.pay] using room
  · exact congrArg (Ran.fin · sOK 0 _) (setJob_eq (s := s.tick.tick) hx _)

theorem cmdSnapTensorUnreg_removes (boundary : atBoundary j = true) : cmdSnapTensorUnreg.run s r c = .fin (s.setCtx c.context
    { x with job := some { j with surv := tensorsSet j.surv (j.surv.tensors.filter (fun t => t.id != c.arg 0 4)) } }) sOK 0 [] :=
  (withJob_bound hx ho hj _).trans ((if_neg (by simp [boundary])).trans (congrArg (Ran.fin · sOK 0 []) (setJob_eq hx _)))

end

/-! ## Reports (R433, R437, R449) -/

/-- The report of SNAP_STATUS, its last fields given. -/
def snapReport (s : State) (j : Job) (partner : Nat) (axis : Byte) : List Byte :=
  leBytes 8 j.surv.lastSnap ++ leBytes 8 j.surv.lastStep ++ leBytes 8 j.surv.taking ++ leBytes 8 (j.surv.landing * landUnit) ++
    leBytes 8 ((landCapacity s - landUsed s) * landUnit) ++ leBytes 4 partner ++ [axis, if j.surv.correlated then 1 else 0, 0, 0]

theorem snapReport_reads (s : State) (j : Job) (partner : Nat) (axis : Byte) : (snapReport s j partner axis).length = 48 ∧
    field (snapReport s j partner axis) 0 8 = j.surv.lastSnap % 2 ^ 64 ∧ field (snapReport s j partner axis) 8 8 = j.surv.lastStep % 2 ^ 64 ∧
    field (snapReport s j partner axis) 16 8 = j.surv.taking % 2 ^ 64 := by
  refine ⟨by simp [snapReport], ?_, ?_, ?_⟩
  · simp only [snapReport, List.append_assoc]
    exact field_leBytes ..
  · simp only [snapReport, List.append_assoc]
    exact field_written (leBytes_length ..) ..
  · simp only [snapReport, List.append_assoc]
    rw [← List.append_assoc]
    exact field_written (by simp) ..

section
variable (hx : s.ctx? c.context = some x) (ho : fnOwns r.fn x.slot = true) (hj : x.job = some j)
include hx ho hj

theorem cmdSnapStatus_reports : ∃ partner axis, cmdSnapStatus.run s r c = .fin s.tick sOK 0 (snapReport s j partner axis) :=
  ⟨_, _, withJob_bound hx ho hj _⟩

theorem cmdSurvRisk_reports : cmdSurvRisk.run s r c =
    .fin s sOK 0 (leBytes 2 s.risk.value ++ (riskInputs s).flatMap (leBytes 2) ++ leBytes 2 j.surv.threshold) := by
  have job : jobOf s c = some j := by
    unfold jobOf
    rw [hx]
    exact hj
  unfold cmdSurvRisk
  dsimp only
  rw [job, withCtx_owned hx ho, ite_self]
  rfl

theorem cmdSurvReport_lists (room : 12 * j.surv.report.length ≤ c.resultLen) : cmdSurvReport.run s r c = .fin s sOK 0
    (j.surv.report.flatMap (fun l => leBytes 4 l.rank ++ leBytes 4 l.tensor ++ [BitVec.ofNat 8 l.source, BitVec.ofNat 8 l.missing, 0, 0])) := by
  refine (withJob_bound hx ho hj _).trans (listResult_fits ?_)
  simpa [List.length_flatten, Function.comp_def, Nat.mul_comm] using room

/-! ## Checkpoints (R447, R456) -/

theorem cmdSnapExport_writes {q : Snap} (hq : j.surv.saved = some q) (room : (exportBytes q).length ≤ c.arg 8 8)
    (answers : hostFails s (c.arg 0 8) (exportBytes q).length = false) :
    cmdSnapExport.run s r c = .fin (s.setHost (Memory.store s.hostMem (c.arg 0 8) (exportBytes q))) sOK 0 [] := by
  refine (withJob_bound hx ho hj _).trans ?_
  rw [hq]
  dsimp only
  rw [List.take_of_length_le room, if_neg (by simp [answers]), if_neg (lt_irrefl _)]
  rfl

theorem cmdSnapImport_keeps (halted : j.st = .haltedAt ∨ j.st = .haltedIn ∨ j.st = .restoring) (answers : hostFails s (c.arg 0 8) (c.arg 8 8) = false)
    (own : j.surv.useExport = false) {q : Snap} (hq : parseExport s j (Memory.load s.hostMem (c.arg 0 8) (c.arg 8 8)) = some q) :
    cmdSnapImport.run s r c =
      .fin (s.setCtx c.context { x with job := some { j with surv := { j.surv with exported := some q } } }) sOK 0 [] := by
  refine (withJob_bound hx ho hj _).trans ((if_neg (by tauto)).trans ((if_neg (by simp [answers])).trans ?_))
  rw [hq]
  dsimp only
  rw [if_neg (by simp [own]), setJob_eq hx]
  rfl

end

end

end Sys2Proof.Machine
end

section
/-! SUPPORT. The snapshot and survival commands as rows (Table 13.13). -/

namespace Sys2Proof.Machine

open Sys2Proof

section
variable {s : State} {r : RingId} {c : OutCmd} {p : List Byte} {x : Ctx} {j : Job}

/-- R456: SURV_CFG at the root, limit by limit. -/
theorem survCfg_acts (hx : s.ctx? c.context = some x) (ho : fnOwns r.fn x.slot = true) (hj : x.job = some j) (root : isRoot s j = true)
    (h : Ready cmdSurvCfg s r c p) : ∃ t v, CompletesWith (.survCfg r c.tag) s r c t [] ∧ t.ctx? c.context = some { x with job := some { j with surv := v } } ∧
      v.threshold = newOr j.surv.threshold (c.arg 0 2) ∧ v.maxSteps = newOr j.surv.maxSteps (c.arg 2 2) ∧ v.k = newOr j.surv.k (c.arg 6 1) ∧
      v.m = newOr j.surv.m (c.arg 7 1) ∧ v.mirrorMiB = newOr j.surv.mirrorMiB (c.arg 10 4) ∧ t.risk.halfLife = newOr s.risk.halfLife (c.arg 4 2) ∧
      t.mem = s.mem :=
  ⟨_, limitsSet j.surv c, completes_of_run h rfl (cmdSurvCfg_sets (s := begun s r c p) hx ho hj root), State.ctx_setCtx .., rfl, rfl, rfl, rfl, rfl, rfl, rfl⟩

end

/-- Settles O55, row by row and command by command: each row's answer is written out once, and `Leads` follows the job of the context through what the row calls;
each command runs (`completes_of_run`, `refuses_of_run`) once it has found its context and its job (`withJob_bound`, `withRoot_root`). -/
theorem snapshotsAndSurvivalAct : Obligations.SnapshotsAndSurvivalAct := by
  refine ⟨fun s n x j h => ⟨fun micros taking copying rest => snapBoundaryCopyDone_gives h taking copying rest micros,
    fun d hd taking writing other => snapWriteDone_gives h hd taking writing other, fun rank taking hr => snapOk_gives h taking hr,
    fun taking written other => snapCommitted_gives h taking written other, fun rank risk root hr reaches => ?risk,
    fun rank cause i hi hr away new other => declareLost_gives h hi hr away new other, fun fab sp hf => spareRows h hf⟩, riskUpdate_sums,
    fun s r c p x j hx ho hj => ⟨fun root => ⟨fun h => survCfg_acts hx ho hj root h,
        fun h => completes_of_run h rfl (cmdSnapNow_orders (s := begun s r c p) hx ho hj root),
        fun h pf0 whole => completes_of_run h rfl (cmdSurvSpareAdd_joins (s := begun s r c p) hx ho hj root pf0 whole),
        fun h pf0 sp hf unused => completes_of_run h rfl (cmdSurvSpareRemove_leaves (s := begun s r c p) hx ho hj root pf0 hf unused),
        fun h q hq => completes_of_run h rfl (cmdSurvRestore_restores (s := begun s r c p) hx ho hj root hq),
        fun h empty => refuses_of_run h rfl (cmdSurvRestore_refuses (s := begun s r c p) hx ho hj root empty)⟩,
      fun other => ⟨fun h => refuses_of_run h rfl (withRoot_other (s := begun s r c p) hx ho hj other _),
        fun h => refuses_of_run h rfl (withRoot_other (s := begun s r c p) hx ho hj other _)⟩,
      fun h boundary alone few => ?register, fun h boundary => ?remove, fun h => ?status,
      fun h => completes_of_run h rfl (cmdSurvRisk_reports (s := begun s r c p) hx ho hj),
      fun h room => completes_of_run h rfl (cmdSurvReport_lists (s := begun s r c p) (c := { c with payload := p }) hx ho hj room),
      fun q hq h room answers => completes_of_run h rfl (cmdSnapExport_writes (s := begun s r c p) (c := { c with payload := p }) hx ho hj hq room answers),
      fun h halted answers own q hq => completes_of_run h rfl
        (cmdSnapImport_keeps (s := begun s r c p) (c := { c with payload := p }) hx ho hj halted answers own hq)⟩⟩
  case risk =>
    have ordered := (Leads.start stepParts h).setJob { j with surv := { j.surv with orderRisk := true } } (by decide)
    exact ordered.gives (riskReport_orders h root hr reaches) ⟨rfl, rfl, ordered.mem_eq (by decide) (by decide)⟩
  case register =>
    intro d flags ten room
    exact ⟨_, tensorsSet j.surv (j.surv.tensors ++ [ten]),
      completes_of_run h rfl (cmdSnapTensorReg_registers (s := begun s r c p) (c := d) hx ho hj boundary alone few room), State.ctx_setCtx .., rfl, rfl⟩
  case remove =>
    exact ⟨_, tensorsSet j.surv (j.surv.tensors.filter (fun z => z.id != c.arg 0 4)),
      completes_of_run h rfl (cmdSnapTensorUnreg_removes (s := begun s r c p) hx ho hj boundary), State.ctx_setCtx .., rfl, rfl⟩
  case status =>
    obtain ⟨partner, axis, run⟩ := cmdSnapStatus_reports (s := begun s r c p) (c := { c with payload := p }) hx ho hj
    exact ⟨_, _, completes_of_run h rfl run, rfl, rfl, snapReport_reads ..⟩

end Sys2Proof.Machine
end

section
/-! SUPPORT. What a step does whatever command stands in front: the queue, the form of memory, and the anti-rollback count (R31, R464). -/

namespace Sys2Proof.Machine

open Sys2Proof

/-- Settles O57: the two forms of the queue. -/
theorem stepRunsTheFrontCommand : Obligations.StepRunsTheFrontCommand := by
  refine ⟨fun c s rest => rfl, fun s h => ?_⟩
  unfold step
  split
  · rfl
  · rename_i queued
    cases h.symm.trans queued

/-- An idle block and a command that runs keep the same things: what any command may touch (`exec_within`), but for the queue. -/
theorem step_sound {s t : State} (h : step s = .next t) : Sound s t ∧ t.part = s.part := by
  cases hp : s.pending with
  | nil =>
    have idles := stepRunsTheFrontCommand.2 s hp
    rw [idles] at h
    cases h
    exact ⟨(time_within s _).sound, rfl⟩
  | cons c rest =>
    have runs := stepRunsTheFrontCommand.1 c s rest
    rw [← hp] at runs
    have within := exec_within (runs.symm.trans h)
    exact ⟨⟨within.sound.mem, within.sound.host, within.sound.svn⟩, within.partSame (by decide)⟩

/-- Settles O59: what every step keeps (`step_sound`). -/
theorem everyStepKeepsMemoryCanonical : Obligations.EveryStepKeepsMemoryCanonical := fun _ _ mem host h =>
  ⟨(step_sound h).1.mem mem, (step_sound h).1.host host⟩

/-- Settles O60: what any command may touch (`exec_within`), and by induction on the number of steps. -/
theorem antiRollbackNeverFalls : Obligations.AntiRollbackNeverFalls := by
  refine ⟨fun c s t h => ?row, fun n f h => ?run⟩
  case row =>
    have within := exec_within h
    exact ⟨within.sound.svn, within.partSame (by decide), within.pendingSame (by decide), within.hostFailSame (by decide)⟩
  case run =>
    induction n with
    | zero => exact ⟨Nat.le_refl _, rfl⟩
    | succ n ih =>
      obtain ⟨svn, part⟩ := ih (fun i hi => h i (Nat.lt_succ_of_lt hi))
      obtain ⟨sound, same⟩ := step_sound (h n (Nat.lt_succ_self n))
      exact ⟨svn.trans sound.svn, same.trans part⟩

end Sys2Proof.Machine
end

section
/-! SUPPORT. The integer instructions, and the instructions that select and read (Tables 4.6, 4.7 and 4.10). -/

namespace Sys2Proof.Machine

open Sys2Proof

/-! ## Integer instructions (Table 4.6) -/

section Integer

variable {m : Mn} {i : Instr} {s : State} {g : GroupId} {e : Env} {op : Nat → Bool → Nat → Nat → Nat → Nat}
  {f : Nat → BitVec (intWidth e.i)}

theorem intWidth_pos (i : Insn) : 0 < intWidth i := by
  unfold intWidth
  split <;> decide

/-- The row of an integer instruction whose operation on numbers is `v` on the sources. -/
theorem putsInt_of_op (run : Env → State → Res) (hi : Machine.exec i s = .next (issue m g s))
    (hm : m ∉ [Mn.mcfg, .mload, .mmul, .mfill, .madapt, .mdrain, .streamIssue, .reserved]) (hk : checkOf m e s = none)
    (hr : runOf m e s = run e s) (ho : run = intRes false op)
    (v : BitVec (intWidth e.i) → BitVec (intWidth e.i) → BitVec (intWidth e.i) → BitVec (intWidth e.i))
    (h : ∀ a b c : BitVec (intWidth e.i), op (intWidth e.i) (intSigned e.i) a.toNat b.toNat c.toNat % 2 ^ intWidth e.i = (v a b c).toNat)
    (hf : ∀ t, f t = v (srcA e t) (srcB e t) (srcC e t)) : PutsInt m i s g e f := by
  intro issues
  rw [funext hf]
  exact commits_of_run issues hi hm hk (hr.trans ((congrFun₂ ho e s).trans (intRes_eq e s op v h)))

/-- The row of an integer instruction of one source. -/
theorem putsInt_of_op1 (run : Env → State → Res) (hi : Machine.exec i s = .next (issue m g s))
    (hm : m ∉ [Mn.mcfg, .mload, .mmul, .mfill, .madapt, .mdrain, .streamIssue, .reserved]) (hk : checkOf m e s = none)
    (hr : runOf m e s = run e s) (ho : run = intRes true op)
    (v : BitVec (intWidth e.i) → BitVec (intWidth e.i))
    (h : ∀ (a : BitVec (intWidth e.i)) b c, op (intWidth e.i) (intSigned e.i) a.toNat b c % 2 ^ intWidth e.i = (v a).toNat)
    (hf : ∀ t, f t = v (srcOne e t)) : PutsInt m i s g e f := by
  intro issues
  rw [funext hf]
  exact commits_of_run issues hi hm hk (hr.trans ((congrFun₂ ho e s).trans (intRes1_eq e s op v h)))

end Integer

/-! What each operation on numbers is on words, at any width. -/

section Words

variable {w : Nat} (a b : BitVec w)

theorem sub_toNat_mod : (a.toNat + 2 ^ w - b.toNat) % 2 ^ w = (a - b).toNat := by
  rw [BitVec.toNat_sub]
  congr 1
  have := b.isLt
  omega

theorem readAs_lt (hw : 0 < w) (sg : Bool) : readAs w sg a.toNat < readAs w sg b.toNat ↔ (if sg then a.slt b else a.ult b) = true := by
  rw [readAs_eq hw, readAs_eq hw]
  cases sg <;> simp [BitVec.slt, BitVec.ult]

/-- One of two words, chosen by the numbers they stand for. -/
theorem choose_toNat_mod (hw : 0 < w) (sg : Bool) (x y : BitVec w) :
    (if readAs w sg a.toNat < readAs w sg b.toNat then x.toNat else y.toNat) % 2 ^ w =
      (if (if sg then a.slt b else a.ult b) = true then x else y).toNat := by
  rw [if_congr (readAs_lt a b hw sg) rfl rfl, ← apply_ite BitVec.toNat]
  exact Nat.mod_eq_of_lt (BitVec.isLt _)

/-- MULHI: the high half of the exact product, by the type's sign. -/
theorem mulhi_toNat_mod (hw : 0 < w) (sg : Bool) :
    unsign w (readAs w sg a.toNat * readAs w sg b.toNat / ((2 ^ w : Nat) : Int)) % 2 ^ w =
      (if sg then BitVec.ofInt w (a.toInt * b.toInt / (2 ^ w : Nat)) else BitVec.ofNat w (a.toNat * b.toNat / 2 ^ w)).toNat := by
  rw [readAs_eq hw, readAs_eq hw, unsign_ofInt, Nat.mod_eq_of_lt (BitVec.isLt _)]
  cases sg with
  | true => rfl
  | false =>
    simp only [Bool.false_eq_true, if_false]
    rw [← Int.natCast_mul, ← Int.natCast_ediv, BitVec.ofInt_natCast]

theorem sar_toNat_mod (hw : 0 < w) (n : Nat) : unsign w (signed w a.toNat / ((2 ^ n : Nat) : Int)) % 2 ^ w = (a.sshiftRight n).toNat := by
  rw [signed_toInt hw, unsign_ofInt, Nat.mod_eq_of_lt (BitVec.isLt _), ← Int.shiftRight_eq_div_pow]
  rfl

/-- The bits of a word, counted. -/
theorem popc_toNat_mod : ((List.range w).filter (fun k => a.toNat.testBit k)).length % 2 ^ w =
    (BitVec.ofNat w ((List.range w).countP (fun k => a.getLsbD k))).toNat := by
  rw [BitVec.toNat_ofNat, List.countP_eq_length_filter]
  rfl

/-- CLZ, with the width at 0. -/
theorem clz_toNat_mod : (if a.toNat = 0 then w else w - 1 - Nat.log2 a.toNat) % 2 ^ w =
    (BitVec.ofNat w (if a = 0 then w else w - 1 - Nat.log2 a.toNat)).toNat := by
  rw [BitVec.toNat_ofNat, if_congr BitVec.toNat_eq rfl rfl]
  rfl

end Words

/-- Settles O21: each row computes on numbers below the width's power what its operation is on words (`putsInt_of_op`). -/
theorem integerInstructionsCompute : Obligations.IntegerInstructionsCompute := by
  intro s g e w sg less
  have hw : 0 < intWidth e.i := intWidth_pos e.i
  refine ⟨putsInt_of_op1 runMov rfl (by decide) rfl rfl rfl (fun a => a) ?mov fun _ => rfl,
    putsInt_of_op runAdd rfl (by decide) rfl rfl rfl (fun a b _ => a + b) ?add fun _ => rfl,
    putsInt_of_op runSub rfl (by decide) rfl rfl rfl (fun a b _ => a - b) ?sub fun _ => rfl,
    putsInt_of_op runMul rfl (by decide) rfl rfl rfl (fun a b _ => a * b) ?mul fun _ => rfl,
    putsInt_of_op runMulhi rfl (by decide) rfl rfl rfl (fun a b _ => if sg then BitVec.ofInt _ (a.toInt * b.toInt / (2 ^ w : Nat))
      else BitVec.ofNat _ (a.toNat * b.toNat / 2 ^ w)) ?mulhi fun _ => rfl,
    putsInt_of_op runMad rfl (by decide) rfl rfl rfl (fun a b c => a * b + c) ?mad fun _ => rfl,
    putsInt_of_op runMin rfl (by decide) rfl rfl rfl (fun a b _ => if less b a then b else a) ?min fun _ => rfl,
    putsInt_of_op runMax rfl (by decide) rfl rfl rfl (fun a b _ => if less a b then b else a) ?max fun _ => rfl,
    putsInt_of_op runAnd rfl (by decide) rfl rfl rfl (fun a b _ => a &&& b) ?and fun _ => rfl,
    putsInt_of_op runOr rfl (by decide) rfl rfl rfl (fun a b _ => a ||| b) ?or fun _ => rfl,
    putsInt_of_op runXor rfl (by decide) rfl rfl rfl (fun a b _ => a ^^^ b) ?xor fun _ => rfl,
    putsInt_of_op runShl rfl (by decide) rfl rfl rfl (fun a b _ => a <<< (b.toNat % w)) ?shl fun _ => rfl,
    putsInt_of_op runShr rfl (by decide) rfl rfl rfl (fun a b _ => a >>> (b.toNat % w)) ?shr fun _ => rfl,
    putsInt_of_op runSar rfl (by decide) rfl rfl rfl (fun a b _ => a.sshiftRight (b.toNat % w)) ?sar fun _ => rfl,
    putsInt_of_op1 runPopc rfl (by decide) rfl rfl rfl (fun a => BitVec.ofNat _ ((List.range w).countP (fun k => a.getLsbD k))) ?popc fun _ => rfl,
    putsInt_of_op1 runClz rfl (by decide) rfl rfl rfl (fun a => BitVec.ofNat _ (if a = 0 then w else w - 1 - Nat.log2 a.toNat)) ?clz fun _ => rfl⟩
  case mov => exact fun a _ _ => Nat.mod_eq_of_lt a.isLt
  case add => exact fun a b _ => (BitVec.toNat_add ..).symm
  case sub => exact fun a b _ => sub_toNat_mod a b
  case mul => exact fun a b _ => (BitVec.toNat_mul ..).symm
  case mulhi => exact fun a b _ => mulhi_toNat_mod a b hw sg
  case min => exact fun a b _ => choose_toNat_mod b a hw sg b a
  case max => exact fun a b _ => choose_toNat_mod a b hw sg b a
  case sar => exact fun a b _ => sar_toNat_mod a hw _
  case popc => exact fun a _ _ => popc_toNat_mod a
  case clz => exact fun a _ _ => clz_toNat_mod a
  case mad =>
    intro a b c
    rw [BitVec.toNat_add, BitVec.toNat_mul, Nat.mod_add_mod]
  case and =>
    intro a b c
    rw [← BitVec.toNat_and, Nat.mod_eq_of_lt (BitVec.isLt _)]
  case or =>
    intro a b c
    rw [← BitVec.toNat_or, Nat.mod_eq_of_lt (BitVec.isLt _)]
  case xor =>
    intro a b c
    rw [← BitVec.toNat_xor, Nat.mod_eq_of_lt (BitVec.isLt _)]
  case shl =>
    intro a b c
    rw [BitVec.toNat_shiftLeft, Nat.shiftLeft_eq]
  case shr =>
    intro a b c
    rw [← Nat.shiftRight_eq_div_pow, ← BitVec.toNat_ushiftRight, Nat.mod_eq_of_lt (BitVec.isLt _)]

/-! ## Instructions that select and read (Tables 4.6, 4.7 and 4.10) -/

/-- Settles O22: each row writes what its instruction reads; BALLOT's mask has the bits its predicate says (`maskOf_bit`). -/
theorem selectAndReadInstructionsCompute : Obligations.SelectAndReadInstructionsCompute := by
  intro s g e
  refine ⟨fun h k hk => commits_of_run h rfl (by decide) rfl ?sel, fun h r u hr hu => commits_of_run h rfl (by decide) rfl ?rdlane,
    fun h v hv => commits_of_run h rfl (by decide) rfl ?sreg, fun h => commits_of_run h rfl (by decide) rfl rfl,
    fun h => ⟨_, commits_of_run h rfl (by decide) rfl rfl, fun t ht => maskOf_bit _ ht⟩⟩
  case sel =>
    show runSel e s = _
    unfold runSel
    simp only [hk]
  case rdlane =>
    show runRdlane e s = _
    unfold runRdlane putDst srcVal
    simp only [hr, hu]
  case sreg =>
    show runSreg e s = _
    unfold runSreg
    rw [funext hv]
    obtain rfl := issues_here h
    rfl

end Sys2Proof.Machine
end

section
/-! SUPPORT. NOP, IDENTIFY, EVENT_GET and SURVEY_STATUS (Tables 2.17, 2.17a and 2.22a). -/

namespace Sys2Proof.Machine

open Sys2Proof

/-- Table 2.17a: the fields of IDENTIFY's result. -/
theorem identifyBytes_reads (s : State) (r : RingId) : (identifyBytes s r).length = 64 ∧ field (identifyBytes s r) 0 8 = (lidIdent s r).toNat ∧
    field (identifyBytes s r) 8 8 = (lidFwver s).toNat ∧ field (identifyBytes s r) 16 8 = (lidFabric s).toNat ∧
    byteAt (identifyBytes s r) 34 = BitVec.ofNat 8 (mstateCode s.lantern.mstate) := by
  have whole (x : BitVec 64) : x.toNat % 256 ^ 8 = x.toNat := Nat.mod_eq_of_lt x.isLt
  refine ⟨by simp [identifyBytes], ?ident, ?version, ?fabric, ?mstate⟩
  all_goals simp only [identifyBytes, List.append_assoc]
  case ident => exact (field_leBytes ..).trans (whole _)
  case version => exact (field_written (leBytes_length ..) ..).trans (whole _)
  case fabric =>
    rw [← List.append_assoc]
    exact (field_written (by simp) ..).trans (whole _)
  case mstate => simp [byteAt]

theorem coordBytes_length (c : List Nat) : (coordBytes c).length = 6 := by
  unfold coordBytes
  split <;> simp

/-- Table 2.22a: the survey record has 32 bytes, the state first. -/
theorem surveyBytes_reads (v : Survey) : (surveyBytes v).length = 32 ∧ byteAt (surveyBytes v) 0 = BitVec.ofNat 8 v.st :=
  ⟨by simp [surveyBytes, coordBytes_length], rfl⟩

theorem rawResult_fits {s : State} {c : OutCmd} {bs : List Byte} (h : bs.length ≤ c.resultLen) : rawResult s c bs = .fin s sOK 0 bs := if_pos h

/-- EVENT_GET returns the record its function keeps under the sequence number. -/
theorem cmdEventGet_returns {s : State} {r : RingId} {c : OutCmd} {e : EventRec} (kept : (s.fev r.fn).recs.find? (fun x => x.seq == c.arg 0 8) = some e)
    (room : (e.bytes.take 256).length ≤ c.resultLen) : cmdEventGet.run s r c = .fin s sOK 0 (e.bytes.take 256) := by
  unfold cmdEventGet
  dsimp only
  rw [kept]
  exact rawResult_fits room

/-- Settles O9: each command by its run, and the records of IDENTIFY and SURVEY_STATUS by what they read as (`identifyBytes_reads`, `surveyBytes_reads`). -/
theorem nopIdentifyEventAndSurveyResults : Obligations.NopIdentifyEventAndSurveyResults := by
  intro s r c p
  obtain ⟨identifyLength, fields⟩ := identifyBytes_reads s r
  obtain ⟨surveyLength, state⟩ := surveyBytes_reads s.lantern.survey
  exact ⟨fun h => completes_of_run h rfl rfl, fun h => ⟨_, identifyLength, completes_of_run h rfl rfl, fields⟩,
    fun e h kept room => completes_of_run h rfl (cmdEventGet_returns (s := begun s r c p) (c := { c with payload := p }) kept room),
    fun pf0 h => ⟨surveyLength, completes_of_run h rfl (if_pos pf0), state⟩⟩

end Sys2Proof.Machine
end

section
/-! SUPPORT. The security commands: the records they return, life-cycle transitions, partitions made and ended, link keys, and shared slots (R462 to R489,
Tables 14.5, 14.7, 14.8, 14.14 and 14.21). -/

namespace Sys2Proof.Machine

open Sys2Proof

section
variable {s : State} {r : RingId} {c : OutCmd}

/-! ## Identity and attestation (R462, Table 14.5) -/

theorem padTo_length (n : Nat) (bs : List Byte) : (padTo n bs).length = n := by
  simp [padTo]

/-- Table 14.5: fields of the signed report. -/
theorem reportBody_reads (s : State) (r : RingId) (nonce sig : List Byte) : field (reportBody s r nonce ++ sig) 0 4 = 0x5441354B ∧
    byteAt (reportBody s r nonce ++ sig) 6 = BitVec.ofNat 8 s.keep.lc ∧ byteAt (reportBody s r nonce ++ sig) 36 = BitVec.ofNat 8 s.keep.svn ∧
    ((reportBody s r nonce ++ sig).drop 64).take 32 = padTo 32 nonce := by
  refine ⟨?magic, ?lc, ?svn, ?nonce⟩
  all_goals simp only [reportBody, List.append_assoc]
  case magic => exact field_leBytes ..
  case lc => simp [byteAt, List.getElem?_append]
  case svn => simp [byteAt, List.getElem?_append]
  case nonce => simp [List.drop_append, List.drop_eq_nil_of_le, padTo_length]

/-! ## Life cycle (R466, R469, Tables 14.7 and 14.8) -/

/-- The report of SEC_LC_STATUS. -/
theorem cmdSecLcStatus_reports : ∃ b, cmdSecLcStatus.run s r c = .fin s.tick sOK 0 b ∧ b.length = 16 ∧ byteAt b 0 = BitVec.ofNat 8 s.keep.lc ∧
    (∀ n, s.keep.pendingLc = some n → byteAt b 1 = BitVec.ofNat 8 n) ∧ byteAt b 2 = BitVec.ofNat 8 s.keep.recs.length := by
  refine ⟨_, rfl, by simp, rfl, fun n hn => ?_, rfl⟩
  rw [hn]
  rfl

theorem erase_keep (s : State) : ∃ keys slots, (erase s).keep = { s.keep with keysOk := false, linkKeys := keys, sendSlot := slots } := by
  have closed : ((s.ctxs.map (fun e => e.1)).foldl (fun t n => closeContext t n 3) s).keep = s.keep :=
    (Within.foldl (Within.refl _ _) (fun u n => closeContext_within u n 3)).keepSame (by decide) (by decide)
  refine ⟨[], [], ?_⟩
  rw [← closed]
  rfl

/-- The actions of a transition leave its records, its target and the nonce. -/
theorem lcActions_records (s : State) (old new : Nat) : (lcActions s old new).keep.recs = s.keep.recs ∧
    (lcActions s old new).keep.pendingLc = s.keep.pendingLc ∧ (lcActions s old new).keep.nonce = s.keep.nonce := by
  obtain ⟨keys, slots, erased⟩ := erase_keep s
  unfold lcActions
  split
  · exact ⟨rfl, rfl, rfl⟩
  · split
    · exact ⟨rfl, rfl, rfl⟩
    · split
      · rw [erased]
        exact ⟨rfl, rfl, rfl⟩
      · exact ⟨rfl, rfl, rfl⟩

theorem setLastRec_length (k : Keep) (f : FuseRec → FuseRec) : (setLastRec k f).recs.length = k.recs.length ∧ (setLastRec k f).nonce = k.nonce := by
  unfold setLastRec
  split
  · exact ⟨rfl, rfl⟩
  · rename_i r rest h
    refine ⟨?_, rfl⟩
    have := congrArg List.length h
    simpa using this.symm

theorem evalChange_keep (old s : State) (n : Nat) : (evalChange old s n).keep = s.keep := (evalChange_within old s n).keepSame (by decide) (by decide)

/-- A transition has ended in life cycle `new`, or stays pending. -/
def Transitioned (t : State) (new : Nat) : Prop := (t.keep.lc = new ∧ t.keep.pendingLc = none) ∨ (t.keep.lc = 7 ∧ t.keep.pendingLc = some new)

/-- R466, R469: the recorded transition ends in its target, or its commit group fails and it stays pending. -/
theorem completeLc_ends {new : Nat} (h : s.keep.pendingLc = some new) : Transitioned (completeLc s) new ∧
    (completeLc s).keep.recs.length = s.keep.recs.length ∧ (completeLc s).keep.nonce = s.keep.nonce := by
  obtain ⟨recs, pending, nonce⟩ := lcActions_records s (committedLc s.keep) new
  unfold completeLc
  rw [h]
  dsimp only
  split
  · exact ⟨.inr ⟨rfl, pending.trans h⟩, congrArg List.length recs, nonce⟩
  · obtain ⟨length, last⟩ := setLastRec_length (lcActions s (committedLc s.keep) new).keep (fun r => { r with commitA := true, commitB := true })
    unfold Transitioned
    rw [evalChange_keep, (postEvent_within ..).keepSame (by decide) (by decide)]
    exact ⟨.inl ⟨rfl, rfl⟩, length.trans (congrArg List.length recs), last.trans nonce⟩

/-- A new transition uses the next free record and the nonce. -/
theorem beginLc_begins (s : State) (new : Nat) (digest : List Byte) : Transitioned (beginLc s new digest) new ∧
    (beginLc s new digest).keep.recs.length = s.keep.recs.length + 1 ∧ (beginLc s new digest).keep.nonce = none := by
  obtain ⟨ends, length, nonce⟩ := completeLc_ends (new := new) (s := s.setKeep { s.keep with
    recs := s.keep.recs ++ [{ target := new, digest := digest, intentA := true, intentB := true, commitA := false, commitB := false }],
    pendingLc := some new, nonce := none }) rfl
  exact ⟨ends, length.trans (List.length_append ..), nonce⟩

/-- A transition that has ended completes its command, one that stays pending answers NOT_IN_STATE with the code of its life cycle. -/
theorem lcResult_answers {i : Instr} {k : Cmd} {p : List Byte} {t : State} {new : Nat} (h : Ready k s r c p) (hi : Machine.exec i s = runCmd k r c.tag s)
    (hk : k.run (begun s r c p) r { c with payload := p } = lcResult t) (ends : Transitioned t new) (hn : new ≠ 7) :
    (t.keep.lc = new ∧ t.keep.pendingLc = none ∧ CompletesWith i s r c t []) ∨
      (t.keep.lc = 7 ∧ t.keep.pendingLc = some new ∧ Machine.exec i s = .next (finish t r c.tag 5 7 [])) := by
  rcases ends with ⟨lc, pending⟩ | ⟨lc, pending⟩
  · exact .inl ⟨lc, pending, completes_of_run h hi (hk.trans (if_neg (lc ▸ hn)))⟩
  · refine .inr ⟨lc, pending, ?_⟩
    rw [hi, runCmd_ready h, hk]
    exact congrArg (fun x => Host.Outcome.next (ranState s r c.tag x)) (if_pos lc : lcResult t = _)

/-- A token that is not refused names a transition of Table 14.8. -/
theorem tokenRefused_none {t : List Byte} (h : tokenRefused s t = none) : transitionOk (field t 6 1) (field t 7 1) = true := by
  cases ok : transitionOk (field t 6 1) (field t 7 1) with
  | true => rfl
  | false =>
    unfold tokenRefused at h
    simp [ok] at h

theorem transitionOk_settled {a b : Nat} (h : transitionOk a b = true) : b ≠ 7 := by
  rintro rfl
  simp [transitionOk] at h

theorem cmdSecLcToken_begins (hf : r.fn = 0) (signed : signedOk 2 domLCT (c.payload.take 64) (c.payload.drop 64) = true)
    (good : tokenRefused s c.payload = none) : cmdSecLcToken.run s r c = lcResult (beginLc s (c.pay 7 1) (sha3 c.payload)) := by
  unfold cmdSecLcToken
  dsimp only
  rw [pf0Only_pf0 hf, signed, good]
  rfl

theorem cmdSecLcToken_unsigned (hf : r.fn = 0) (signed : signedOk 2 domLCT (c.payload.take 64) (c.payload.drop 64) = false) :
    cmdSecLcToken.run s r c = .fin s sINTEGRITY 0 [] := by
  unfold cmdSecLcToken
  dsimp only
  rw [pf0Only_pf0 hf, signed]
  rfl

/-! ## The mode and the evaluated configuration (R474, R488, Table 14.20) -/

theorem cmdSecMode_locked (hf : r.fn = 0) (locked : evalLocked s = true) (shared : c.arg 0 1 = 0) : cmdSecMode.run s r c = .fin s 4 3 [] := by
  unfold cmdSecMode
  dsimp only
  rw [pf0Only_pf0 hf, locked, shared]
  rfl

/-- R474: the mode is set while no partition exists, and nothing of memory changes. -/
theorem cmdSecMode_sets (hf : r.fn = 0) (free : evalLocked s = false ∨ c.arg 0 1 ≠ 0) (empty : anyPart s = false) : ∃ t,
    cmdSecMode.run s r c = .fin t sOK 0 [] ∧ (t.keep.sealed = true ↔ c.arg 0 1 = 1) ∧ t.mem = s.mem ∧ t.carrier.budgets = [] ∧ t.keep.lc = s.keep.lc := by
  have unlocked : ¬(evalLocked s && c.arg 0 1 == 0) = true := by
    rcases free with h | h <;> simp [h]
  have frame (t : State) : Within 27787376 t (evalChange s ((List.range 48).foldl (fun t n => if isActive t n then enterRetrain t n true else t) t) 2) :=
    evalChange_in (Within.foldl (Within.refl _ t) fun u n => by
      split
      · exact enterRetrain_in (Within.refl _ u) (by decide)
      · exact Within.refl _ u) (by decide)
  refine ⟨_, (if_pos hf).trans ((if_neg unlocked).trans (if_neg (Bool.eq_false_iff.mp empty))), ?_⟩
  rw [(frame _).keepSame (by decide) (by decide), (frame _).memSame (by decide) (by decide), (frame _).carrierSame (by decide)]
  exact ⟨beq_iff_eq, rfl, rfl, rfl⟩

theorem cmdSecCfg_locked (hf : r.fn = 0) (locked : evalLocked s = true) (on : c.arg 0 1 = 1 ∨ c.arg 1 1 = 1) : cmdSecCfg.run s r c = .fin s 4 3 [] := by
  have refused : (evalLocked s && (c.arg 0 1 == 1 || c.arg 1 1 == 1)) = true := by
    rcases on with h | h <;> simp [locked, h]
  exact (if_pos hf).trans (if_pos refused)

theorem cmdSecCfg_sets (hf : r.fn = 0) (free : evalLocked s = false ∨ (c.arg 0 1 ≠ 1 ∧ c.arg 1 1 ≠ 1)) : ∃ t, cmdSecCfg.run s r c = .fin t sOK 0 [] ∧
    (t.keep.k4Import = true ↔ c.arg 0 1 = 1) ∧ (t.keep.pf0Keys = true ↔ c.arg 1 1 = 1) ∧ t.mem = s.mem ∧ t.keep.lc = s.keep.lc := by
  have allowed : ¬(evalLocked s && (c.arg 0 1 == 1 || c.arg 1 1 == 1)) = true := by
    rcases free with h | ⟨h, k⟩
    · simp [h]
    · simp [h, k]
  refine ⟨_, (if_pos hf).trans (if_neg allowed), ?_⟩
  rw [evalChange_keep, (evalChange_within ..).memSame (by decide) (by decide)]
  exact ⟨beq_iff_eq, beq_iff_eq, rfl, rfl⟩

/-! ## Partitions made (R475, R479) -/

theorem zeroRanges_slots (xs : List (Nat × Nat)) (s : State) : (zeroRanges s xs).mem.slots = s.mem.slots := by
  induction xs generalizing s with
  | nil => rfl
  | cons x xs ih => exact ih (zeroRange s x)

/-- Partition `i` made from the state in which its memory is assigned: scrubbed, and set as the command asks. -/
def partMade (s : State) (i : Nat) (debug : Bool) : State :=
  (scrubNew s i).setPart i { (scrubNew s i).part? i with exist := true, adminDebug := debug }

theorem cmdSecPartCreate_assigns (hf : r.fn = 0) (alive : s.keep.lc ≠ 5) (free : evalLocked s = false ∨ c.arg 1 1 ≠ 1)
    (absent : (s.part? (c.arg 0 1)).exist = false) (whole : ∀ q < 4, s.carrier.isolated.contains (4 * c.arg 0 1 + q) = false) :
    cmdSecPartCreate.run s r c = (assignSlots s (c.arg 0 1) (c.arg 2 1) (c.arg 3 1)).elim (.fin s 6 7 [])
      (fun u => .fin (evalChange s (partMade u (c.arg 0 1) (c.arg 1 1 == 1)) 3) sOK 0 []) := by
  have allowed : ¬(evalLocked s && c.arg 1 1 == 1) = true := by
    rcases free with h | h <;> simp [h]
  have dies : (List.range 4).any (fun d => s.carrier.isolated.contains (4 * c.arg 0 1 + d)) = false :=
    List.any_eq_false.mpr fun q hq => by simp only [whole q (List.mem_range.mp hq), Bool.false_eq_true, not_false_eq_true]
  have fresh : ¬((s.part? (c.arg 0 1)).exist || (List.range 4).any (fun d => s.carrier.isolated.contains (4 * c.arg 0 1 + d))) = true := by
    rw [absent, dies]
    decide
  refine (if_pos hf).trans ((if_neg alive).trans ((if_neg allowed).trans ((if_neg fresh).trans ?_)))
  cases assignSlots s (c.arg 0 1) (c.arg 2 1) (c.arg 3 1) with
  | none => rfl
  | some u => rfl

/-- R475: a partition made exists, with the slots assigned to it, and the others stand as they did. -/
theorem partMade_leaves {u : State} {i near far : Nat} (h : assignSlots s i near far = some u) (debug : Bool) (old : State) :
    let t := evalChange old (partMade u i debug) 3
    (t.part? i).exist = true ∧ (t.part? i).adminDebug = debug ∧ t.mem.slots = u.mem.slots ∧ ∀ m, m ≠ i → t.part? m = s.part? m := by
  intro t
  have parts (m : Nat) : t.part? m = (partMade u i debug).part? m := by
    unfold State.part?
    rw [evalChange_keep]
  have slots : t.mem.slots = (scrubNew u i).mem.slots := congrArg MemSys.slots ((evalChange_within ..).memSame (by decide) (by decide))
  refine ⟨?_, ?_, slots.trans (zeroRanges_slots ..), fun m hm => ?_⟩
  · rw [parts, partMade, State.part_setPart]
  · rw [parts, partMade, State.part_setPart]
  · rw [parts, partMade, State.part_setPart_ne _ _ hm, State.part?, (scrubNew_within ..).keepSame (by decide) (by decide),
      (assignSlots_within h).keepSame (by decide) (by decide)]
    rfl

/-! ## Contexts closed with their partition (R391, R477) -/

theorem closeContext_ctx {t : State} {n cause m : Nat} {x : Ctx} (h : (closeContext t n cause).ctx? m = some x) : t.ctx? m = some x ∧ m ≠ n := by
  cases hn : t.ctx? n with
  | none =>
    have same : closeContext t n cause = t := by
      unfold closeContext
      rw [hn]
    rw [same] at h
    exact ⟨h, fun e => by rw [e, hn] at h; cases h⟩
  | some y =>
    obtain ⟨gone, -, others⟩ := closeContext_closes hn cause
    have other : m ≠ n := fun e => by rw [e, gone] at h; cases h
    exact ⟨(others m other).symm.trans h, other⟩

theorem closeContexts_ctx (cause : Nat) (ns : List Nat) {t : State} {m : Nat} {x : Ctx}
    (h : (ns.foldl (fun u n => closeContext u n cause) t).ctx? m = some x) : t.ctx? m = some x ∧ m ∉ ns := by
  induction ns generalizing t with
  | nil => exact ⟨h, List.not_mem_nil⟩
  | cons n ns ih =>
    obtain ⟨still, later⟩ := ih h
    obtain ⟨stood, other⟩ := closeContext_ctx still
    exact ⟨stood, List.not_mem_cons_of_ne_of_not_mem other later⟩

/-- No context of the slot is left. -/
theorem closeSlot_ctx {i m : Nat} {x : Ctx} (h : (closeSlot s i).ctx? m = some x) : x.slot ≠ i := by
  unfold closeSlot at h
  obtain ⟨stood, other⟩ := closeContexts_ctx 3 _ h
  exact fun e => other (List.mem_map.mpr ⟨_, List.mem_filter.mpr ⟨Sparse.mem_of_find? stood, beq_iff_eq.mpr e⟩, rfl⟩)

theorem closeSlot_parts (s : State) (i : Nat) : (closeSlot s i).keep.parts = s.keep.parts := by
  have erased (ns : List Nat) (t : State) : (ns.foldl eraseKeys t).keep.parts = t.keep.parts := by
    induction ns generalizing t with
    | nil => rfl
    | cons n ns ih => exact ih (eraseKeys t n)
  have told (ns : List Nat) (t : State) : (ns.foldl reportLost t).keep = t.keep :=
    (Within.foldl (Within.refl _ _) reportLost_within).keepSame (by decide) (by decide)
  have closed (ns : List Nat) (t : State) : (ns.foldl (fun u n => closeContext u n 3) t).keep = t.keep :=
    (Within.foldl (Within.refl _ _) (fun u n => closeContext_within u n 3)).keepSame (by decide) (by decide)
  unfold closeSlot
  rw [closed, erased, told]
  rfl

/-- A partition's memory, clusters, events and landing sets wiped, before it is marked. -/
def wiped (s : State) (i : Nat) : State :=
  let s1 := setMarks (zeroRanges s ((partRanges s i).map (fun x => x.2))) ((partRanges s i).map (fun x => x.1))
  let s2 := (slotClusters i).foldl scrubCluster s1
  dropLandings (s2.setFev (i + 1) { s2.fev (i + 1) with recs := [], held := [] }) i

theorem wiped_keep (s : State) (i : Nat) : (wiped s i).keep = s.keep := by
  have clusters (l : List Nat) (t : State) : (l.foldl scrubCluster t).keep = t.keep :=
    (Within.foldl (Within.refl _ _) scrubCluster_within).keepSame (by decide) (by decide)
  unfold wiped
  rw [(dropLandings_within ..).keepSame (by decide) (by decide), State.setFev_keep, clusters, (setMarks_within ..).keepSame (by decide) (by decide),
    (zeroRanges_within ..).keepSame (by decide) (by decide)]

/-- The partition marked SCRUBBED, and the entropy of its keys drawn. -/
def scrubMarked (s : State) (i : Nat) : State :=
  let t := (wiped s i).setPart i { (wiped s i).part? i with scrubbed := true }
  t.setKeep { t.keep with entropyN := t.keep.entropyN + 1 }

theorem scrubSlot_keep (s : State) (i : Nat) (vf : Bool) : (scrubSlot s i vf).keep = (scrubMarked s i).keep := by
  have event (t : State) (fn code detail : Nat) (bs : List Byte) : (postEvent t fn code detail bs).keep = t.keep :=
    (postEvent_within ..).keepSame (by decide) (by decide)
  cases vf with
  | false => exact event ..
  | true => exact (event ..).trans (event ..)

/-- R479: a scrub marks its partition SCRUBBED, and changes no other setting of it. -/
theorem scrubSlot_part (s : State) (i : Nat) (vf : Bool) : (scrubSlot s i vf).part? i = { s.part? i with scrubbed := true } := by
  have part : (scrubSlot s i vf).part? i = ((wiped s i).setPart i { (wiped s i).part? i with scrubbed := true }).part? i := by
    unfold State.part?
    rw [scrubSlot_keep]
    rfl
  rw [part, State.part_setPart, State.part?, wiped_keep]
  rfl

/-- What is left once a partition's contexts are closed and it is scrubbed. -/
theorem scrubbed_leaves (s : State) (i : Nat) (vf : Bool) : (scrubSlot (closeSlot s i) i vf).part? i = { s.part? i with scrubbed := true } ∧
    ∀ m x, (scrubSlot (closeSlot s i) i vf).ctx? m = some x → x.slot ≠ i := by
  refine ⟨?_, fun m x h => ?_⟩
  · rw [scrubSlot_part, State.part?, closeSlot_parts]
    rfl
  · rw [State.ctx?, (scrubSlot_within ..).ctxsSame (by decide)] at h
    exact closeSlot_ctx h

/-- R477: SEC_PART_RESET keeps its partition, scrubbed and with no context. -/
theorem cmdSecPartReset_resets (own : fnOwns r.fn (c.arg 0 1) = true) (there : (s.part? (c.arg 0 1)).exist = true) :
    cmdSecPartReset.run s r c = .fin (scrubSlot (closeSlot s (c.arg 0 1)) (c.arg 0 1) true) sOK 0 [] :=
  (if_neg (by simp [own])).trans (if_pos there)

theorem cmdSecPartDestroy_destroys (hf : r.fn = 0) (there : (s.part? (c.arg 0 1)).exist = true) :
    cmdSecPartDestroy.run s r c = .fin (evalChange s (destroyPart s (c.arg 0 1)) 3) sOK 0 [] := (if_pos hf).trans (if_pos there)

/-- R476: a partition destroyed is gone, with its contexts. -/
theorem destroyPart_leaves (s : State) (i : Nat) : ((destroyPart s i).part? i).exist = false ∧ ∀ m x, (destroyPart s i).ctx? m = some x → x.slot ≠ i := by
  refine ⟨congrArg Partition.exist (State.part_setPart ..), fun m x h => (scrubbed_leaves s i false).2 m x ?_⟩
  have same : (destroyPart s i).ctxs = (scrubSlot (closeSlot s i) i false).ctxs := by
    unfold destroyPart
    dsimp only
    rw [State.setPart_ctxs, (dropVf_within ..).ctxsSame (by decide), (freePart_within ..).ctxsSame (by decide)]
  rwa [State.ctx?, same] at h

/-! ## Link keys (R480, R481) -/

theorem cmdSecKeyInstall_installs {key : List Byte} (own : ownsKeys s r.fn (c.pay 0 2) = true) (ok : s.keep.keysOk = true)
    (unwraps : Config.unwrapKey (c.pay 0 2) (c.pay 2 1) c.payload = some key) :
    cmdSecKeyInstall.run s r c = .fin (installKey s (c.pay 0 2) (c.pay 2 1) key) sOK 0 [] := by
  unfold cmdSecKeyInstall
  dsimp only
  rw [own, ok, if_pos rfl, unwraps]
  rfl

theorem cmdSecKeyInstall_zeroised (own : ownsKeys s r.fn (c.pay 0 2) = true) (zeroised : s.keep.keysOk = false) :
    cmdSecKeyInstall.run s r c = .fin s sINTEGRITY 0 [] := by
  unfold cmdSecKeyInstall
  dsimp only
  rw [own, zeroised]
  rfl

theorem installKey_leaves (s : State) (fpn slot : Nat) (key : List Byte) :
    Sparse.find? (installKey s fpn slot key).keep.linkKeys (keyIndex fpn slot) = some (padTo 32 key) ∧ (installKey s fpn slot key).mem = s.mem := by
  unfold installKey
  dsimp only
  rw [(freshCounters_within ..).keepSame (by decide) (by decide), (freshCounters_within ..).memSame (by decide) (by decide)]
  exact ⟨Sparse.find?_set_self .., rfl⟩

theorem cmdSecKeySwitch_switches (own : ownsKeys s r.fn (c.arg 0 2) = true)
    (there : (Sparse.find? s.keep.linkKeys (keyIndex (c.arg 0 2) (c.arg 2 1))).isSome) :
    cmdSecKeySwitch.run s r c = .fin (s.setKeep { s.keep with sendSlot := Sparse.put 0 s.keep.sendSlot (c.arg 0 2) (c.arg 2 1) }) sOK 0 [] :=
  (if_neg (by simp [own])).trans (if_neg (by simpa [Option.isSome_iff_ne_none] using there))

theorem cmdSecKeyErase_erases (own : ownsKeys s r.fn (c.arg 0 2) = true) (unbound : s.boundTo (c.arg 0 2) = none) : cmdSecKeyErase.run s r c =
    .fin (s.setKeep { s.keep with linkKeys := Sparse.del s.keep.linkKeys (keyIndex (c.arg 0 2) (c.arg 2 1)) }) sOK 0 [] :=
  (if_neg (by simp [own])).trans (if_neg (by simp [unbound]))

/-! ## Shared slots (R485) -/

section
variable {x : Shared} (hf : r.fn = 0) (hx : Sparse.find? s.keep.shared (c.arg 0 1) = some x)
include hf hx

/-- A shared command of PF0 acts on the slot it names. -/
theorem withShared_pf0 (k : Shared → Ran) : pf0Only s r (fun _ => withShared s c k) = k x := by
  rw [pf0Only_pf0 hf]
  unfold withShared
  rw [hx]

theorem cmdSecSharedSeal_seals (opened : x.st = .opened)
    (errs : Sparse.keysIn s.mem.errs (slotBytes * c.arg 0 1 / 64) (slotBytes * c.arg 0 1 / 64 + slotBytes / 64) = [])
    (poison : Sparse.keysIn s.mem.poison (slotBytes * c.arg 0 1 / 64) (slotBytes * c.arg 0 1 / 64 + slotBytes / 64) = [])
    (root : slotRoot s (c.arg 0 1) = c.payload.take 32) :
    cmdSecSharedSeal.run s r c = .fin (setShared s (c.arg 0 1) { x with st := .sealed, root := c.payload.take 32 }) sOK 0 [] := by
  refine (withShared_pf0 hf hx _).trans ((if_neg (by simp [opened])).trans ?_)
  dsimp only
  rw [errs]
  exact if_neg (by simp [poison, root])

theorem cmdSecSharedUnseal_unseals (used : x.st ≠ .opened) (unmapped : slotMapped s (c.arg 0 1) = false) : cmdSecSharedUnseal.run s r c =
    .fin (setShared s (c.arg 0 1) { x with st := .opened, root := [], stripe := none, repairs := [] }) sOK 0 [] :=
  (withShared_pf0 hf hx _).trans (if_neg (by simp [used, unmapped]))

theorem cmdSecSharedStripe_stripes (closed : x.st = .sealed) : cmdSecSharedStripe.run s r c =
    .fin (setShared s (c.arg 0 1) { x with stripe := some (c.arg 1 1, c.arg 2 1, c.arg 3 1, c.arg 4 4) }) sOK 0 [] :=
  (withShared_pf0 hf hx _).trans (if_neg (by simp [closed]))

end

end

/-! ## The commands -/

/-- Settles O56, command by command: each row runs its command (`completes_of_run`, `refuses_of_run`); a transition ends or stays pending
(`completeLc_ends`), and a partition that ends has no context left (`closeSlot_ctx`). -/
theorem securityCommandsAct : Obligations.SecurityCommandsAct := by
  intro s r c p d noneLeft
  refine ⟨fun h => completes_of_run h rfl rfl, fun h => ⟨_, completes_of_run h rfl rfl, reportBody_reads ..⟩, fun h => ?status,
    fun hf => ⟨fun h => ⟨_, _, completes_of_run h rfl (if_pos hf), padTo_length .., rfl, rfl⟩, fun h signed good => ?token,
      fun h signed => refuses_of_run h rfl (cmdSecLcToken_unsigned (s := begun s r c p) (c := d) hf signed),
      fun h => ⟨fun other => ?idle, fun new lc pending hn => ?retry⟩,
      fun h => ⟨fun locked shared => refuses_of_run h rfl (cmdSecMode_locked (s := begun s r c p) (c := d) hf locked shared), fun free empty => ?mode⟩,
      fun h alive free absent whole => ?create, fun h there => ?destroy,
      fun x hx => ⟨fun h opened errs poison root =>
          completes_of_run h rfl (cmdSecSharedSeal_seals (s := begun s r c p) (c := d) hf hx opened errs poison root),
        fun h used unmapped => completes_of_run h rfl (cmdSecSharedUnseal_unseals (s := begun s r c p) (c := d) hf hx used unmapped),
        fun h whole => completes_of_run h rfl (cmdSecSharedStripe_stripes (s := begun s r c p) (c := d) hf hx whole)⟩,
      fun h => ⟨fun locked on => refuses_of_run h rfl (cmdSecCfg_locked (s := begun s r c p) (c := d) hf locked on), fun free => ?cfg⟩⟩,
    fun hf => ⟨fun h => refuses_of_run h rfl (if_neg hf), fun h => refuses_of_run h rfl (if_neg hf), fun h => refuses_of_run h rfl (if_neg hf),
      fun h => refuses_of_run h rfl (if_neg hf)⟩,
    fun h own there => ?reset,
    fun h own => ⟨fun key ok unwraps => ⟨_, completes_of_run h rfl (cmdSecKeyInstall_installs (s := begun s r c p) (c := d) own ok unwraps),
        installKey_leaves ..⟩,
      fun zeroised => refuses_of_run h rfl (cmdSecKeyInstall_zeroised (s := begun s r c p) (c := d) own zeroised)⟩,
    fun h own there => ⟨_, completes_of_run h rfl (cmdSecKeySwitch_switches (s := begun s r c p) (c := d) own there), Sparse.get_put_self .., rfl, rfl⟩,
    fun h own unbound => ⟨_, completes_of_run h rfl (cmdSecKeyErase_erases (s := begun s r c p) (c := d) own unbound), Sparse.find?_del_self .., rfl⟩,
    fun other => ⟨fun h => refuses_of_run h rfl (if_pos ?switch), fun h => refuses_of_run h rfl (if_pos ?erase)⟩⟩
  case status =>
    obtain ⟨b, run, reads⟩ := cmdSecLcStatus_reports (s := begun s r c p) (r := r) (c := d)
    exact ⟨_, b, completes_of_run h rfl run, rfl, reads⟩
  case token =>
    intro new
    obtain ⟨ends, records, nonce⟩ := beginLc_begins (begun s r c p) new (sha3 p)
    have run := cmdSecLcToken_begins (s := begun s r c p) (c := d) hf signed good
    exact ⟨_, records, nonce, lcResult_answers h rfl run ends (transitionOk_settled (tokenRefused_none good))⟩
  case idle => exact refuses_of_run h rfl ((if_pos hf).trans (if_neg other))
  case retry => exact ⟨_, lcResult_answers h rfl ((if_pos hf).trans (if_pos lc)) (completeLc_ends (s := begun s r c p) pending).1 hn⟩
  case mode =>
    obtain ⟨t, run, sets⟩ := cmdSecMode_sets (s := begun s r c p) (c := d) hf free empty
    exact ⟨t, completes_of_run h rfl run, sets⟩
  case create =>
    have run := cmdSecPartCreate_assigns (s := begun s r c p) (c := d) hf alive free absent whole
    refine ⟨fun short => refuses_of_run h rfl (run.trans ?short), fun u assigned => ?made⟩
    case short => exact congrArg (fun o => Option.elim o _ _) short
    case made =>
      obtain ⟨there, debug, slots, others⟩ := partMade_leaves assigned (c.arg 1 1 == 1) (begun s r c p)
      exact ⟨_, completes_of_run h rfl (run.trans (congrArg (fun o => Option.elim o _ _) assigned)), there,
        (iff_of_eq (congrArg (· = true) debug)).trans beq_iff_eq, slots, others⟩
  case destroy =>
    obtain ⟨gone, left⟩ := destroyPart_leaves (begun s r c p) (c.arg 0 1)
    refine ⟨_, completes_of_run h rfl (cmdSecPartDestroy_destroys (s := begun s r c p) (c := d) hf there), ?_, fun m x hx => left m x ?_⟩
    · rw [State.part?, evalChange_keep]
      exact gone
    · rw [State.ctx?, (evalChange_within ..).ctxsSame (by decide)] at hx
      exact hx
  case cfg =>
    obtain ⟨t, run, sets⟩ := cmdSecCfg_sets (s := begun s r c p) (c := d) hf free
    exact ⟨t, completes_of_run h rfl run, sets⟩
  case reset =>
    obtain ⟨part, left⟩ := scrubbed_leaves (begun s r c p) (c.arg 0 1) true
    exact ⟨_, completes_of_run h rfl (cmdSecPartReset_resets (s := begun s r c p) (c := d) own there), (congrArg Partition.exist part).trans there,
      congrArg Partition.scrubbed part, left⟩
  case switch => exact congrArg not other
  case erase => exact congrArg not other

end Sys2Proof.Machine
end

section
/-! SUPPORT. The carrier: alerts, trips and power-up, power samples, thermal readings, clocks, PCIe reset and isolated dies (R494 to R513, Tables 15.3 to
15.10). -/

namespace Sys2Proof.Machine

open Sys2Proof

/-! ## Alerts (R507) -/

theorem mem_insertNat {x y : Nat} {l : List Nat} : y ∈ insertNat x l ↔ y = x ∨ y ∈ l := by
  induction l with
  | nil => simp [insertNat]
  | cons z l ih =>
    unfold insertNat
    split
    · simp
    · split
      · subst_vars
        simp
      · rw [List.mem_cons, ih, List.mem_cons]
        tauto

theorem raiseAlert_raises (s : State) (n : Nat) : n ∈ (raiseAlert s n).carrier.alerts := mem_insertNat.mpr (.inl rfl)

theorem raiseAlert_keeps {s : State} {m : Nat} (n : Nat) (h : m ∈ s.carrier.alerts) : m ∈ (raiseAlert s n).carrier.alerts := mem_insertNat.mpr (.inr h)

/-- An alert cleared stays outstanding: what has cleared is all that changes. -/
theorem clearAlert_eq (s : State) (n : Nat) : ∃ cs, clearAlert s n = s.setCarrier { s.carrier with cleared := cs } := by
  unfold clearAlert
  split
  · exact ⟨_, rfl⟩
  · exact ⟨s.carrier.cleared, rfl⟩

theorem offAlerts_eq (s : State) : ∃ cs, offAlerts s = s.setCarrier { s.carrier with cleared := cs } := by
  obtain ⟨cs, first⟩ := clearAlert_eq s aTHERMAL_CRITICAL
  obtain ⟨ds, second⟩ := clearAlert_eq (clearAlert s aTHERMAL_CRITICAL) aCOOLANT_FLOW
  refine ⟨ds, second.trans ?_⟩
  rw [first]
  rfl

/-! ## Inputs and straps (R493 to R496) -/

/-- The carrier once an input is accepted. -/
def inputOn (s : State) (i : Port) : Carrier :=
  match i with
  | .a => { s.carrier with inA := true }
  | .b => { s.carrier with inB := true }

section
variable {s : State}

/-- The first input accepted brings STANDBY up and latches both straps. -/
theorem execInputAccepted_first (off : s.carrier.power = .unpowered) (i : Port) (a b : BitVec 8) : ∃ cs pass l, Machine.exec (.inputAccepted i a b) s =
    .next ((s.setCarrier { inputOn s i with power := .standby, feedA := a, feedB := b, chainPass := pass, cleared := cs }).setLantern l) := by
  cases i with
  | a =>
    obtain ⟨cs, same⟩ := clearAlert_eq (s.setCarrier { s.carrier with inA := true }) aFEED_A_LOST
    exact ⟨cs, _, _, congrArg Host.Outcome.next ((if_pos off).trans (by rw [same]; rfl))⟩
  | b =>
    obtain ⟨cs, same⟩ := clearAlert_eq (s.setCarrier { s.carrier with inB := true }) aFEED_B_LOST
    exact ⟨cs, _, _, congrArg Host.Outcome.next ((if_pos off).trans (by rw [same]; rfl))⟩

theorem execInputAccepted_again (powered : s.carrier.power ≠ .unpowered) (i : Port) (a b : BitVec 8) : ∃ cs, Machine.exec (.inputAccepted i a b) s =
    .next (s.setCarrier { inputOn s i with cleared := cs }) := by
  cases i with
  | a =>
    obtain ⟨cs, same⟩ := clearAlert_eq (s.setCarrier { s.carrier with inA := true }) aFEED_A_LOST
    exact ⟨cs, congrArg Host.Outcome.next ((if_neg powered).trans same)⟩
  | b =>
    obtain ⟨cs, same⟩ := clearAlert_eq (s.setCarrier { s.carrier with inB := true }) aFEED_B_LOST
    exact ⟨cs, congrArg Host.Outcome.next ((if_neg powered).trans same)⟩

theorem execInputDropped_a (powered : s.carrier.power ≠ .unpowered) (on : s.carrier.inA = true) : Machine.exec (.inputDropped .a) s =
    .next (raiseAlert ((s.setCarrier { s.carrier with inA := false }).bump 0x0A000F03 1) aFEED_A_LOST) :=
  congrArg Host.Outcome.next (if_neg (by simp [on, powered]))

theorem execInputDropped_b (powered : s.carrier.power ≠ .unpowered) (on : s.carrier.inB = true) : Machine.exec (.inputDropped .b) s =
    .next (raiseAlert ((s.setCarrier { s.carrier with inB := false }).bump 0x0A000F04 1) aFEED_B_LOST) :=
  congrArg Host.Outcome.next (if_neg (by simp [on, powered]))

theorem execFeedidRead_changed {a b : BitVec 8} (powered : s.carrier.power ≠ .unpowered) (changed : a ≠ s.carrier.feedA ∨ b ≠ s.carrier.feedB) :
    Machine.exec (.feedidRead a b) s = .next (raiseAlert (s.bump 0x0A000F0A 1) aFEEDID_CHANGED) :=
  congrArg Host.Outcome.next ((if_neg powered).trans (if_neg (by tauto)))

end

/-! ## Power up and off (R497, R499, Table 15.4) -/

/-- With no context open an erasure ends no group. -/
theorem lcActions_groups {s : State} (h : s.ctxs = []) (old new : Nat) : (lcActions s old new).groups = s.groups := by
  have erased : (erase s).groups = s.groups := by
    unfold erase
    rw [h]
    rfl
  unfold lcActions
  split
  · rfl
  · split
    · rfl
    · split
      · exact erased
      · rfl

theorem completeLc_groups {s : State} (h : s.ctxs = []) : (completeLc s).groups = s.groups := by
  unfold completeLc
  split
  · rfl
  · dsimp only
    split
    · exact lcActions_groups h ..
    · rw [(evalChange_within ..).groupsSame (by decide), (postEvent_within ..).groupsSame (by decide)]
      exact lcActions_groups h ..

/-- Boot starts no group. -/
theorem startBoot_groups {s : State} (h : s.ctxs = []) : (startBoot s).groups = s.groups := by
  unfold startBoot
  extract_lets k s0 s1 l good s2
  have kept : s1.groups = s.groups := by
    unfold s1
    split
    · exact completeLc_groups (s := s0) h
    · rfl
  split
  · exact kept
  · split
    · exact kept
    · split
      · exact ((otherBoot_within s1).groupsSame (by decide)).trans kept
      · exact kept

/-- Table 15.4: a power-up whose first checks pass. -/
theorem coldStart_starts {s : State} (feed : s.carrier.inA = true ∨ s.carrier.inB = true) (cool : s.carrier.inlet ≤ 45) (clock : s.carrier.refSys = true) :
    coldStart s = startBoot (selectBoot { mainOff s .powerUp with time := 0 }) := by
  refine if_neg ?_
  have fed : (s.carrier.inA || s.carrier.inB) = true := by
    rcases feed with h | h <;> simp [h]
  simp [fed, clock, cool]

/-- The main domain comes up with its counter at zero and no group. -/
theorem coldStart_leaves {s : State} (feed : s.carrier.inA = true ∨ s.carrier.inB = true) (cool : s.carrier.inlet ≤ 45) (clock : s.carrier.refSys = true) :
    (coldStart s).carrier.power = .powerUp ∧ (coldStart s).carrier.pwrEn = s.carrier.pwrEn ∧ (coldStart s).time = 0 ∧ (coldStart s).groups = [] := by
  have frame (t : State) : Within 30391160 t (startBoot (selectBoot t)) := startBoot_in (selectBoot_in (Within.refl _ t) (by decide)) (by decide)
  have groups (t : State) (h : t.ctxs = []) : (startBoot (selectBoot t)).groups = t.groups :=
    (startBoot_groups (((selectBoot_within t).ctxsSame (by decide)).trans h)).trans ((selectBoot_within t).groupsSame (by decide))
  rw [coldStart_starts feed cool clock, (frame _).carrierSame (by decide), (frame _).timeSame (by decide), groups _ rfl]
  exact ⟨rfl, rfl, rfl, rfl⟩

/-- The main domain off after a trip, whose alert is raised. -/
theorem tripped_leaves (s : State) (alert : Nat) : let t := raiseAlert (offAlerts (mainOff s .tripped)) alert
    t.carrier.power = .tripped ∧ t.carrier.refSys = s.carrier.refSys ∧ t.mem.bytes = [] ∧ t.groups = [] := by
  obtain ⟨cs, off⟩ := offAlerts_eq (mainOff s .tripped)
  rw [off]
  exact ⟨rfl, rfl, rfl, rfl⟩

/-- Table 15.3: a trip turns the main domain off, with its cause and its alert. -/
theorem trip_leaves (s : State) (alert : Nat) : (trip s alert).carrier.power = .tripped ∧ (trip s alert).carrier.tripCause = alert ∧
    alert ∈ (trip s alert).carrier.alerts ∧ (trip s alert).carrier.refSys = s.carrier.refSys ∧ (trip s alert).mem.bytes = [] ∧ (trip s alert).groups = [] := by
  have told (fpns : List Nat) : (fpns.foldl (fun t f => originateHalt t f 0) s).carrier = s.carrier :=
    (Within.foldl (Within.refl _ _) (fun u f => originateHalt_within u f 0)).carrierSame (by decide)
  obtain ⟨power, clock, bytes, groups⟩ := tripped_leaves ((s.ctxs.filterMap (fun e => e.2.job.map (·.fpn))).foldl (fun t f => originateHalt t f 0) s) alert
  exact ⟨power, rfl, raiseAlert_raises .., clock.trans (congrArg Carrier.refSys (told _)), bytes, groups⟩

section
variable {s : State}

theorem execPwrEnFall_on (on : s.on = true) : ∃ cs, Machine.exec .pwrEnFall s =
    .next ((mainOff (s.setCarrier { s.carrier with pwrEn := false }) .standby).setCarrier
      { (mainOff (s.setCarrier { s.carrier with pwrEn := false }) .standby).carrier with cleared := cs }) := by
  obtain ⟨cs, off⟩ := offAlerts_eq (mainOff (s.setCarrier { s.carrier with pwrEn := false }) .standby)
  exact ⟨cs, congrArg Host.Outcome.next ((if_pos on).trans off)⟩

theorem execPowerUpComplete_on (up : s.carrier.power = .powerUp) : Machine.exec (.powerUpComplete true) s =
    .next ((s.setCarrier { s.carrier with power := .on }).setLantern { s.lantern with serving := s.lantern.mstate != .recovery }) :=
  congrArg Host.Outcome.next ((if_neg (by simp [up])).trans (if_pos rfl))

/-- A power-up that fails stands in STANDBY, its alert outstanding. -/
theorem execPowerUpComplete_fails (up : s.carrier.power = .powerUp) : ∃ cs, Machine.exec (.powerUpComplete false) s =
    .next ((raiseAlert (mainOff s .standby) aPOWER_FAULT).setCarrier { (raiseAlert (mainOff s .standby) aPOWER_FAULT).carrier with cleared := cs }) := by
  obtain ⟨cs, cleared⟩ := clearAlert_eq (raiseAlert (mainOff s .standby) aPOWER_FAULT) aPOWER_FAULT
  exact ⟨cs, congrArg Host.Outcome.next ((if_neg (by simp [up])).trans ((if_neg (by decide)).trans cleared))⟩

theorem execTripCleared_stands (tripped : s.carrier.power = .tripped) (gone : s.carrier.tripCause ≠ 0x18 ∨ s.carrier.refSys = true) :
    ∃ cs pass, Machine.exec .tripCleared s = .next (s.setCarrier { s.carrier with power := .standby, chainPass := pass, cleared := cs }) := by
  obtain ⟨cs, cleared⟩ := clearAlert_eq (s.setCarrier { s.carrier with power := .standby, chainPass := !s.carrier.refSys }) s.carrier.tripCause
  have clear : ¬(s.carrier.power ≠ .tripped ∨ (s.carrier.tripCause = aREFCLK_LOST ∧ s.carrier.refSys = false)) := by
    rcases gone with h | h <;> simp [tripped, h, aREFCLK_LOST]
  exact ⟨cs, _, congrArg Host.Outcome.next ((if_neg clear).trans cleared)⟩

end

/-! ## Power samples (R500, R501, R504) -/

theorem getBudget_setBudget (s : State) (k : Nat) (b : Budget) : getBudget (setBudget s k b) k = b := Sparse.get_put_self ..

/-- The module's budget after a sample, while neither limit has been passed for long: one step of the throttle level, and no trip. -/
theorem sampleBudget_module {b : Budget} (few : b.overs.length < 2000) (short : b.peakRun + 1 < 2000) (n w : Nat) (held : Bool) :
    let x := sampleBudget 7 n w held b
    x.2 = false ∧ (11000 < w → x.1.level = Nat.min 4 (b.level + 1)) ∧ (w ≤ 11000 → 9120 ≤ w → x.1.level = b.level) ∧
      (w < 9120 → b.lowRun < 99 → x.1.level = b.level) ∧ (w < 9120 → 99 ≤ b.lowRun → held = false → x.1.level = b.level - 1) := by
  have recent : (b.overs.filter (fun x => decide (n < x + 100000))).length < 2000 := (List.length_filter_le ..).trans_lt few
  have listed : (if 9600 < w then n :: b.overs.filter (fun x => decide (n < x + 100000)) else b.overs.filter (fun x => decide (n < x + 100000))).length ≤ 2000 := by
    split
    · exact recent
    · exact recent.le
  have brief : (if b.level = 4 then b.peakRun + 1 else 0) < 2000 := by split <;> omega
  dsimp only
  unfold sampleBudget
  by_cases peak : 11000 < w
  · have above : 9600 < w := by omega
    simp [budgetLimits, raiseLevel, Nat.not_le.mpr recent, peak, above, brief]
    omega
  · by_cases low : w < 9120
    · have below95 : 100 * w < 912000 := by omega
      have under : ¬9600 < w := by omega
      by_cases falls : 99 ≤ b.lowRun ∧ held = false
      · simp [budgetLimits, peak, below95, under, falls]
        omega
      · simp [budgetLimits, peak, below95, under, if_neg falls]
        exact fun _ long free => absurd ⟨long, free⟩ falls
    · have above95 : ¬100 * w < 912000 := by omega
      simp [budgetLimits, Nat.not_lt.mpr listed, peak, above95]
      omega

/-- R500: one sample in SHARED mode, against the module's budget alone. -/
theorem powerSample_module {s : State} (shared : s.keep.sealed = false) (few : (getBudget s 7).overs.length < 2000) (short : (getBudget s 7).peakRun + 1 < 2000)
    (total : Nat) (parts : List Nat) : ∃ cs, powerSample s total parts =
      { setBudget (s.setCarrier { s.carrier with watts := total, sampleN := s.carrier.sampleN + 1 }) 7
          (sampleBudget 7 s.carrier.sampleN total ((criticalBudgets s).contains 7) (getBudget s 7)).1 with counters := cs } := by
  have keys : budgetKeys s = [7] := by
    unfold budgetKeys
    rw [shared]
    rfl
  have calm : (sampleBudget 7 s.carrier.sampleN total ((criticalBudgets s).contains 7) (getBudget s 7)).2 = false := (sampleBudget_module few short ..).1
  unfold powerSample
  rw [keys]
  dsimp only [List.foldl_cons, List.foldl_nil, if_true, Bool.false_or]
  refine (?_ : ∃ cs, (if (sampleBudget 7 s.carrier.sampleN total ((criticalBudgets s).contains 7) (getBudget s 7)).2 = true then _ else _) = _)
  rw [calm, if_neg Bool.false_ne_true]
  split
  · exact ⟨_, rfl⟩
  · exact ⟨_, rfl⟩

/-! ## Thermal readings (R506, Table 15.7) -/

theorem setBudgets_eq (f : State → Nat → Budget) (ks : List Nat) (s : State) : ∃ bs,
    ks.foldl (fun t k => setBudget t k (f t k)) s = s.setCarrier { s.carrier with budgets := bs } := by
  induction ks generalizing s with
  | nil => exact ⟨s.carrier.budgets, rfl⟩
  | cons k ks ih => exact ih (setBudget s k (f s k))

theorem clearCritical_carrier (s : State) : ∃ cl, (clearAlert (s.setCarrier { s.carrier with critical := false }) aTHERMAL_CRITICAL).carrier =
    { s.carrier with critical := false, cleared := cl } := by
  obtain ⟨cl, cleared⟩ := clearAlert_eq (s.setCarrier { s.carrier with critical := false }) aTHERMAL_CRITICAL
  exact ⟨cl, congrArg State.carrier cleared⟩

/-- THERMAL_CRITICAL holds as long as it has a budget; beside it and the budgets only alerts change, and no alert is lost. -/
theorem judgeCritical_carrier (s : State) : ∃ bs x al cl, (judgeCritical s).carrier =
      { s.carrier with budgets := bs, critical := x, alerts := al, cleared := cl } ∧
    x = !(criticalBudgets s).isEmpty ∧ ∀ n ∈ s.carrier.alerts, n ∈ al := by
  obtain ⟨bs, budgets⟩ := setBudgets_eq (fun t k => { getBudget t k with level := 4, lowRun := 0 }) (criticalBudgets s) s
  unfold judgeCritical
  dsimp only
  rw [budgets]
  by_cases empty : (criticalBudgets s).isEmpty = true
  · rw [if_pos empty, empty]
    by_cases was : s.carrier.critical = true
    · obtain ⟨cl, cleared⟩ := clearCritical_carrier (s.setCarrier { s.carrier with budgets := bs })
      rw [if_pos was]
      exact ⟨bs, false, s.carrier.alerts, cl, cleared, rfl, fun _ h => h⟩
    · rw [if_neg was]
      exact ⟨bs, s.carrier.critical, s.carrier.alerts, s.carrier.cleared, rfl, Bool.eq_false_iff.mpr was, fun _ h => h⟩
  · rw [if_neg empty, Bool.eq_false_iff.mpr empty]
    by_cases was : s.carrier.critical = true
    · rw [if_pos was]
      exact ⟨bs, s.carrier.critical, s.carrier.alerts, s.carrier.cleared, rfl, was, fun _ h => h⟩
    · rw [if_neg was]
      exact ⟨bs, true, _, _, rfl, rfl, fun n h => mem_insertNat.mpr (.inr h)⟩

theorem judgeCritical_mem (s : State) : (judgeCritical s).mem = s.mem := (judgeCritical_within s).memSame (by decide) (by decide)

/-- A die at 115 degrees is critical. -/
theorem criticalBudgets_die {s : State} {d : Nat} {t : Int} (read : Sparse.find? s.carrier.dieTemp d = some t) (hot : 115 ≤ t) :
    (criticalBudgets s).isEmpty = false := by
  have mine : (d, t) ∈ s.carrier.dieTemp.filter (fun e => decide (115 ≤ e.2)) :=
    List.mem_filter.mpr ⟨Sparse.mem_of_find? read, decide_eq_true hot⟩
  exact List.isEmpty_eq_false_iff_exists_mem.mpr ⟨_, List.mem_append_left _ (List.mem_append_right _ (List.mem_map_of_mem mine))⟩

/-- An outlet at 70 degrees is critical while the module is ON. -/
theorem criticalBudgets_outlet {s : State} (on : s.on = true) (hot : 70 ≤ s.carrier.outlet) : (criticalBudgets s).isEmpty = false := by
  have keys : 7 ∈ budgetKeys s ∨ 0 ∈ budgetKeys s := by
    unfold budgetKeys
    split <;> simp
  unfold criticalBudgets
  rw [if_pos ⟨hot, on⟩]
  rcases keys with h | h
  · exact List.isEmpty_eq_false_iff_exists_mem.mpr ⟨_, List.mem_append_right _ h⟩
  · exact List.isEmpty_eq_false_iff_exists_mem.mpr ⟨_, List.mem_append_right _ h⟩

/-- A die below 125 degrees has its reading kept, and is judged. -/
theorem dieReading_judges (s : State) (d : Nat) {t : Int} (cool : t < 125) : ∃ u, dieReading s d t = judgeCritical u ∧
    u.carrier.dieTemp = Sparse.set s.carrier.dieTemp d t ∧ u.carrier.power = s.carrier.power ∧ u.mem = s.mem := by
  unfold dieReading
  dsimp only
  rw [if_neg (not_le.mpr cool)]
  by_cases cold : t < 100
  · rw [if_pos cold]
    exact ⟨_, rfl, rfl, rfl, rfl⟩
  · rw [if_neg cold]
    cases Sparse.find? s.carrier.dieRise d with
    | none => exact ⟨_, rfl, rfl, rfl, rfl⟩
    | some x =>
      dsimp only
      by_cases due : x + 1000000 ≤ s.time.toNat
      · rw [if_pos (decide_eq_true due)]
        exact ⟨_, rfl, rfl, rfl, rfl⟩
      · rw [if_neg (by simp only [decide_eq_true_eq]; exact due)]
        exact ⟨_, rfl, rfl, rfl, rfl⟩

theorem dieReading_leaves (s : State) (d : Nat) {t : Int} (cool : t < 125) : Sparse.find? (dieReading s d t).carrier.dieTemp d = some t ∧
    (dieReading s d t).carrier.power = s.carrier.power ∧ (dieReading s d t).mem = s.mem ∧ (115 ≤ t → (dieReading s d t).carrier.critical = true) := by
  obtain ⟨u, judged, temp, power, mem⟩ := dieReading_judges s d cool
  obtain ⟨bs, x, al, cl, carrier, critical, -⟩ := judgeCritical_carrier u
  have read : Sparse.find? u.carrier.dieTemp d = some t := by
    rw [temp]
    exact Sparse.find?_set_self ..
  rw [judged, judgeCritical_mem, carrier]
  refine ⟨read, power, mem, fun hot => ?_⟩
  rw [critical, criticalBudgets_die read hot]
  rfl

/-! ## Coolant readings -/

/-- An alert raised where its condition holds and cleared elsewhere: only alerts change, and none outstanding is lost. -/
theorem alertWhen_eq (s : State) (n : Nat) (p : Prop) [Decidable p] : ∃ al cl,
    (if p then raiseAlert s n else clearAlert s n) = s.setCarrier { s.carrier with alerts := al, cleared := cl } ∧
    (p → n ∈ al) ∧ ∀ m ∈ s.carrier.alerts, m ∈ al := by
  by_cases h : p
  · rw [if_pos h]
    exact ⟨_, _, rfl, fun _ => raiseAlert_raises s n, fun m hm => raiseAlert_keeps n hm⟩
  · obtain ⟨cl, cleared⟩ := clearAlert_eq s n
    rw [if_neg h, cleared]
    exact ⟨s.carrier.alerts, cl, rfl, fun hp => absurd hp h, fun m hm => hm⟩

/-- The carrier with coolant readings kept. -/
def coolantRead (s : State) (i o : Int) (f : Nat) : Carrier := { s.carrier with inlet := i, outlet := o, flow := f }

/-- Coolant readings are kept, alert by their limits, and while ON are judged. -/
theorem coolantReading_eq (s : State) (i o : Int) (f : Nat) : ∃ al cl, coolantReading s i o f =
      (if s.on then judgeCritical (s.setCarrier { coolantRead s i o f with alerts := al, cleared := cl })
        else s.setCarrier { coolantRead s i o f with alerts := al, cleared := cl }) ∧
    (45 < i → 0x13 ∈ al) ∧ (s.on = true → f < 160 → 0x14 ∈ al) := by
  obtain ⟨al, cl, first, hot, -⟩ := alertWhen_eq (s.setCarrier (coolantRead s i o f)) aINLET_HOT (45 < i)
  obtain ⟨am, cm, second, slow, kept⟩ := alertWhen_eq (s.setCarrier { coolantRead s i o f with alerts := al, cleared := cl }) aCOOLANT_FLOW (s.on = true ∧ f < 160)
  refine ⟨am, cm, ?_, fun h => kept _ (hot h), fun on h => slow ⟨on, h⟩⟩
  calc coolantReading s i o f
      = (fun u : State => if s.on then judgeCritical (if s.on = true ∧ f < 160 then raiseAlert u aCOOLANT_FLOW else clearAlert u aCOOLANT_FLOW)
          else (if s.on = true ∧ f < 160 then raiseAlert u aCOOLANT_FLOW else clearAlert u aCOOLANT_FLOW))
          (if 45 < i then raiseAlert (s.setCarrier (coolantRead s i o f)) aINLET_HOT else clearAlert (s.setCarrier (coolantRead s i o f)) aINLET_HOT) := rfl
    _ = _ := by
      rw [first]
      exact congrArg (fun u => if s.on then judgeCritical u else u) second

theorem coolantReading_leaves (s : State) (i o : Int) (f : Nat) : let t := coolantReading s i o f
    t.carrier.inlet = i ∧ t.carrier.outlet = o ∧ t.carrier.flow = f ∧ t.carrier.power = s.carrier.power ∧ t.mem = s.mem ∧
    (45 < i → 0x13 ∈ t.carrier.alerts) ∧ (s.on = true → f < 160 → 0x14 ∈ t.carrier.alerts) ∧ (s.on = true → 70 ≤ o → t.carrier.critical = true) := by
  obtain ⟨al, cl, read, hot, slow⟩ := coolantReading_eq s i o f
  dsimp only
  rw [read]
  by_cases on : s.on = true
  · obtain ⟨bs, x, am, cm, carrier, critical, kept⟩ := judgeCritical_carrier (s.setCarrier { coolantRead s i o f with alerts := al, cleared := cl })
    rw [if_pos on, judgeCritical_mem, carrier]
    refine ⟨rfl, rfl, rfl, rfl, rfl, fun h => kept _ (hot h), fun _ h => kept _ (slow on h), fun _ h => ?_⟩
    exact critical.trans (by rw [criticalBudgets_outlet (by exact on) (by exact h)]; rfl)
  · rw [if_neg on]
    exact ⟨rfl, rfl, rfl, rfl, rfl, hot, slow, fun h => absurd h on⟩

/-! ## The link clock (R513) -/

/-- The links of a list that are in a state of `p` go to `st`. -/
def moveLinks (p : LinkState → Bool) (st : LinkState) (l : List Nat) (s : State) : State :=
  l.foldl (fun t n => if p (t.link n).st then setLinkSt t n st else t) s

theorem moveLinks_link (p : LinkState → Bool) (st : LinkState) {l : List Nat} (nodup : l.Nodup) (s : State) : let t := moveLinks p st l s
    t.carrier = s.carrier ∧ t.mem = s.mem ∧ ∀ m, t.link m = if m ∈ l ∧ p (s.link m).st = true then { s.link m with st := st } else s.link m := by
  induction l generalizing s with
  | nil => exact ⟨rfl, rfl, fun m => (if_neg (by simp)).symm⟩
  | cons n l ih =>
    obtain ⟨fresh, nodup⟩ := List.nodup_cons.mp nodup
    obtain ⟨carrier, mem, links⟩ := ih nodup (if p (s.link n).st then setLinkSt s n st else s)
    have step : ∀ m, (if p (s.link n).st then setLinkSt s n st else s).link m =
        if m = n ∧ p (s.link m).st = true then { s.link m with st := st } else s.link m := by
      intro m
      by_cases same : m = n
      · subst same
        by_cases h : p (s.link m).st = true <;> simp [h, (setLinkSt_link s m st).1]
      · by_cases h : p (s.link n).st = true <;> simp [h, same, (setLinkSt_link s n st).2 m same]
    refine ⟨carrier.trans ?_, mem.trans ?_, fun m => (links m).trans ?_⟩
    · split <;> rfl
    · split <;> rfl
    · rw [step]
      by_cases same : m = n
      · subst same
        simp [fresh]
      · simp [same]

/-- With no link in service a loss of the link clock moves what is not disabled. -/
theorem quietLinks_leave {l : List Nat} (nodup : l.Nodup) {s : State} (idle : ∀ n ∈ l, (s.link n).st ≠ .active ∧ (s.link n).st ≠ .retrain) :
    l.foldl (fun t n => if (t.link n).st = .disabled then t else leaveService t n .down false) s =
      moveLinks (fun st => st != .disabled) .down l s := by
  induction l generalizing s with
  | nil => rfl
  | cons n l ih =>
    obtain ⟨fresh, nodup⟩ := List.nodup_cons.mp nodup
    have first : (if (s.link n).st = .disabled then s else leaveService s n .down false) = if (s.link n).st != .disabled then setLinkSt s n .down else s := by
      rw [leaveService_idle (idle n (.head _)).1 (idle n (.head _)).2]
      by_cases h : (s.link n).st = .disabled <;> simp [h]
    rw [List.foldl_cons, first]
    refine ih nodup (fun m hm => ?_)
    have other : m ≠ n := fun h => fresh (h ▸ hm)
    split
    · rw [(setLinkSt_link s n .down).2 m other]
      exact idle m (.tail _ hm)
    · exact idle m (.tail _ hm)

/-- With no link active none retrains. -/
theorem noActive_enters {l : List Nat} {s : State} (idle : ∀ n ∈ l, (s.link n).st ≠ .active) :
    l.foldl (fun t n => if isActive t n then enterRetrain t n false else t) s = s := by
  induction l with
  | nil => rfl
  | cons n l ih =>
    have quiet : isActive s n = false := beq_eq_false_iff_ne.mpr (idle n (.head _))
    rw [List.foldl_cons, quiet, if_neg Bool.false_ne_true]
    exact ih (fun m hm => idle m (.tail _ hm))

section
variable {s : State}

theorem execRefclkLinkLoss_quiet (on : s.on = true) (lit : s.carrier.refLink = true) (idle : ∀ n < 48, (s.link n).st ≠ .active ∧ (s.link n).st ≠ .retrain) :
    Machine.exec .refclkLinkLoss s = .next (moveLinks (fun st => st != .disabled) .down (List.range 48)
      (s.setCarrier { s.carrier with refLink := false })) := by
  have quiet : ∀ n ∈ List.range 48, ((s.setCarrier { s.carrier with refLink := false }).link n).st ≠ .active ∧
      ((s.setCarrier { s.carrier with refLink := false }).link n).st ≠ .retrain := fun n hn => idle n (List.mem_range.mp hn)
  refine (if_neg (by simp [lit])).trans ((if_neg (by simp [on])).trans (congrArg Host.Outcome.next ?_))
  rw [noActive_enters (fun n hn => (quiet n hn).1), quietLinks_leave List.nodup_range quiet]

theorem execRefclkLinkReturn_on (on : s.on = true) (dark : s.carrier.refLink = false) :
    Machine.exec .refclkLinkReturn s = .next (moveLinks (fun st => st == .down) .detect (List.range 48)
      (s.setCarrier { s.carrier with refLink := true })) := by
  refine congrArg Host.Outcome.next ((if_neg (by simp [on, dark])).trans ?_)
  simp only [moveLinks, beq_iff_eq]

end

/-! ## PCIe reset (R513, Table 2.1) -/

/-- Resetting the functions of a list leaves the ring of one that is reset, or already was, fresh but for its BAR2. -/
theorem flrs_ring (l : List RingId) (q : RingId) (s : State) (b : Sparse Byte) (kept : (s.ring q).bar2 = b)
    (reset : q ∈ l ∨ s.ring q = { Ring.fresh with bar2 := b }) : (l.foldl flr s).ring q = { Ring.fresh with bar2 := b } := by
  induction l generalizing s with
  | nil => exact reset.resolve_left (by simp)
  | cons r l ih =>
    by_cases key : ringKey q = ringKey r
    · have now : (flr s r).ring q = { Ring.fresh with bar2 := b } := by
        rw [ring_eq_of_key key, flr_ring, ← ring_eq_of_key key, kept]
      exact ih (flr s r) (by rw [now]) (.inr now)
    · have same : (flr s r).ring q = s.ring q := ring_setRing_of_ne _ key
      have other : q ≠ r := fun h => key (congrArg ringKey h)
      exact ih (flr s r) (by rw [same, kept]) (by rw [same]; simpa [other] using reset)

theorem resetPorts_leaves (s : State) : (resetPorts s).carrier = s.carrier ∧ (resetPorts s).mem = s.mem ∧ (resetPorts s).ctxs = s.ctxs ∧
    (resetPorts s).counters = s.counters ∧ ∀ q ∈ ringIds, (resetPorts s).ring q = { Ring.fresh with bar2 := (s.ring q).bar2 } := by
  have frame := resetPorts_within s
  exact ⟨frame.carrierSame (by decide), frame.memSame (by decide) (by decide), frame.ctxsSame (by decide), frame.countersSame (by decide),
    fun q hq => flrs_ring _ q s _ rfl (.inl hq)⟩

/-! ## The carrier's rows while ON -/

section
variable {s : State}

/-- An ON module's power state, by the model's test. -/
theorem power_of_on (on : s.on = true) : s.carrier.power = .on := beq_iff_eq.mp on

theorem execPowerSample_on (on : s.on = true) (total : Nat) (parts : List Nat) : Machine.exec (.powerSample total parts) s = .next (powerSample s total parts) :=
  congrArg Host.Outcome.next (if_pos on)

theorem execDroopEvent_on (on : s.on = true) (d : Option Nat) : Machine.exec (.droopEvent d) s =
    .next { (s.bump 0x0A000F02 1) with risk := { s.risk with droops := s.risk.droops + 65536 } } := congrArg Host.Outcome.next (if_pos on)

theorem execDieTempReading_on (on : s.on = true) {d : Nat} (hd : d < 32) (celsius : Int) : Machine.exec (.dieTempReading d celsius) s =
    .next (dieReading s d celsius) := congrArg Host.Outcome.next (if_pos ⟨hd, on⟩)

/-- A die at 125 degrees trips the module. -/
theorem dieReading_trips (s : State) (d : Nat) {t : Int} (hot : 125 ≤ t) :
    dieReading s d t = trip (s.setCarrier { s.carrier with dieTemp := Sparse.set s.carrier.dieTemp d t }) aTHERMAL_TRIP := if_pos hot

theorem execRefclkSysLoss_on (on : s.on = true) : Machine.exec .refclkSysLoss s = .next (trip (s.setCarrier { s.carrier with refSys := false }) aREFCLK_LOST) :=
  congrArg Host.Outcome.next (if_pos on)

theorem execRefclkSysLoss_standby (standby : s.carrier.power = .standby) :
    Machine.exec .refclkSysLoss s = .next (s.setCarrier { s.carrier with refSys := false, chainPass := true }) := by
  have off : ¬s.on = true := fun on => nomatch (power_of_on on).symm.trans standby
  exact congrArg Host.Outcome.next ((if_neg off).trans (if_pos standby))

/-- The system clock's return ends the pass-through of a module in STANDBY. -/
theorem execRefclkSysReturn_eq (s : State) : ∃ cs pass, Machine.exec .refclkSysReturn s =
    .next (s.setCarrier { s.carrier with refSys := true, cleared := cs, chainPass := pass }) ∧ (s.carrier.power = .standby → pass = false) := by
  obtain ⟨cs, cleared⟩ := clearAlert_eq (s.setCarrier { s.carrier with refSys := true }) aREFCLK_LOST
  by_cases standby : s.carrier.power = .standby
  · exact ⟨cs, false, congrArg Host.Outcome.next ((if_pos standby).trans (by rw [cleared]; rfl)), fun _ => rfl⟩
  · exact ⟨cs, s.carrier.chainPass, congrArg Host.Outcome.next ((if_neg standby).trans cleared), fun h => absurd h standby⟩

/-- A spire die isolated stays so. -/
theorem isolateDie_spire (s : State) {d : Nat} (spire : d < 24) : (isolateDie s d).carrier = { s.carrier with isolated := insertNat d s.carrier.isolated } ∧
    (isolateDie s d).mem = s.mem := by
  have frame (t : State) := loseSlot_within t (d / 4)
  unfold isolateDie
  dsimp only
  rw [if_pos spire, (frame _).carrierSame (by decide), (frame _).memSame (by decide) (by decide)]
  exact ⟨rfl, rfl⟩

end

/-! ## The clauses -/

/-- R493 to R495: an accepted input. -/
theorem execInputAccepted_leaves (s : State) (a b : BitVec 8) (i : Port) : ∃ t, Machine.exec (.inputAccepted i a b) s = .next t ∧ t.mem = s.mem ∧ t.ctxs = s.ctxs ∧
    (match i with | .a => t.carrier.inA = true ∧ t.carrier.inB = s.carrier.inB | .b => t.carrier.inB = true ∧ t.carrier.inA = s.carrier.inA) ∧
    (s.carrier.power = .unpowered → t.carrier.power = .standby ∧ t.carrier.feedA = a ∧ t.carrier.feedB = b) ∧
    (s.carrier.power ≠ .unpowered → t.carrier.power = s.carrier.power ∧ t.carrier.feedA = s.carrier.feedA ∧ t.carrier.feedB = s.carrier.feedB) := by
  by_cases off : s.carrier.power = .unpowered
  · obtain ⟨cs, pass, l, row⟩ := execInputAccepted_first off i a b
    refine ⟨_, row, rfl, rfl, ?_, fun _ => ⟨rfl, rfl, rfl⟩, fun h => absurd off h⟩
    cases i with
    | a => exact ⟨rfl, rfl⟩
    | b => exact ⟨rfl, rfl⟩
  · obtain ⟨cs, row⟩ := execInputAccepted_again off i a b
    refine ⟨_, row, rfl, rfl, ?_, fun h => absurd h off, fun _ => ?_⟩
    · cases i with
      | a => exact ⟨rfl, rfl⟩
      | b => exact ⟨rfl, rfl⟩
    · cases i with
      | a => exact ⟨rfl, rfl, rfl⟩
      | b => exact ⟨rfl, rfl, rfl⟩

/-- R500 to R502: a power sample in SHARED mode, short of a trip. -/
theorem execPowerSample_leaves {s : State} (total : Nat) (parts : List Nat) (on : s.on = true) (shared : s.keep.sealed = false)
    (few : (getBudget s 7).overs.length < 2000) (short : (getBudget s 7).peakRun + 1 < 2000) :
    ∃ t, Machine.exec (.powerSample total parts) s = .next t ∧ t.carrier.power = .on ∧ t.carrier.watts = total ∧ t.carrier.sampleN = s.carrier.sampleN + 1 ∧
      t.mem = s.mem ∧ (11000 < total → (getBudget t 7).level = Nat.min 4 ((getBudget s 7).level + 1)) ∧
      (total ≤ 11000 → 9120 ≤ total → (getBudget t 7).level = (getBudget s 7).level) ∧
      (total < 9120 → (getBudget s 7).lowRun < 99 → (getBudget t 7).level = (getBudget s 7).level) ∧
      (total < 9120 → 99 ≤ (getBudget s 7).lowRun → 7 ∉ criticalBudgets s → (getBudget t 7).level = (getBudget s 7).level - 1) := by
  obtain ⟨cs, sampled⟩ := powerSample_module shared few short total parts
  obtain ⟨-, rises, stays, waits, falls⟩ := sampleBudget_module few short s.carrier.sampleN total ((criticalBudgets s).contains 7)
  have level := congrArg Budget.level (getBudget_setBudget (s.setCarrier { s.carrier with watts := total, sampleN := s.carrier.sampleN + 1 }) 7
    (sampleBudget 7 s.carrier.sampleN total ((criticalBudgets s).contains 7) (getBudget s 7)).1)
  refine ⟨_, (execPowerSample_on on total parts).trans (congrArg Host.Outcome.next sampled), power_of_on on, rfl, rfl, rfl, fun h => level.trans (rises h),
    fun h k => level.trans (stays h k), fun h k => level.trans (waits h k), fun h k free => level.trans (falls h k ?_)⟩
  simpa using free

/-- R513: the host clock's loss and HOST_PERST_N reset every function. -/
theorem execHostReset_leaves (s : State) : (∃ t, Machine.exec .refclkHostLoss s = .next t ∧ t.carrier = { s.carrier with refHost := false } ∧ t.mem = s.mem ∧
      t.ctxs = s.ctxs ∧ ∀ q ∈ ringIds, t.ring q = { Ring.fresh with bar2 := (s.ring q).bar2 }) ∧
    (s.carrier.perstN = true → ∃ t, Machine.exec .hostPerstAssert s = .next t ∧ t.carrier = { s.carrier with perstN := false } ∧ t.mem = s.mem ∧ t.ctxs = s.ctxs ∧
      t.counter 0x0A000F0D = s.counter 0x0A000F0D + 1 ∧ ∀ q ∈ ringIds, t.ring q = { Ring.fresh with bar2 := (s.ring q).bar2 }) := by
  refine ⟨⟨_, rfl, ?_⟩, fun high => ⟨_, congrArg Host.Outcome.next (if_pos high), ?_⟩⟩
  · obtain ⟨carrier, mem, ctxs, -, rings⟩ := resetPorts_leaves (s.setCarrier { s.carrier with refHost := false })
    exact ⟨carrier, mem, ctxs, rings⟩
  · obtain ⟨carrier, mem, ctxs, counters, rings⟩ := resetPorts_leaves ((s.setCarrier { s.carrier with perstN := false }).bump 0x0A000F0D 1)
    refine ⟨carrier, mem, ctxs, ?_, rings⟩
    exact (congrArg (fun m => Sparse.get 0 m 0x0A000F0D) counters).trans (State.counter_bump ..)

/-- Settles O51: each clause is what the row of its event leaves. -/
theorem carrierEventsAct : Obligations.CarrierEventsAct := by
  refine ⟨execInputAccepted_leaves, ?dropped, ?bus, ?rise, ?fall, ?complete, ?cleared, ?sample, ?droop, ?straps, ?die, ?coolant, ?critical, ?system, ?link, ?host, ?isolate⟩
  case dropped =>
    intro s powered
    exact ⟨fun on => ⟨_, execInputDropped_a powered on, rfl, raiseAlert_raises .., rfl, rfl, State.counter_bump s 0x0A000F03 1⟩,
      fun on => ⟨_, execInputDropped_b powered on, rfl, raiseAlert_raises .., rfl, rfl, State.counter_bump s 0x0A000F04 1⟩⟩
  case bus => exact fun s => ⟨_, rfl, rfl, rfl, rfl, rfl, rfl, rfl, rfl, rfl⟩
  case rise =>
    intro s standby low feed cool clock
    obtain ⟨power, pwrEn, time, groups⟩ := coldStart_leaves (s := s.setCarrier { s.carrier with pwrEn := true }) feed cool clock
    exact ⟨_, congrArg Host.Outcome.next (if_pos ⟨standby, low⟩), power, pwrEn, time, groups⟩
  case fall =>
    intro s on
    obtain ⟨cs, row⟩ := execPwrEnFall_on on
    exact ⟨_, row, rfl, rfl, rfl, rfl, rfl⟩
  case complete =>
    intro s up
    obtain ⟨cs, fails⟩ := execPowerUpComplete_fails up
    exact ⟨⟨_, execPowerUpComplete_on up, rfl, bne_iff_ne, rfl⟩, ⟨_, fails, rfl, raiseAlert_raises ..⟩⟩
  case cleared =>
    intro s tripped gone
    obtain ⟨cs, pass, row⟩ := execTripCleared_stands tripped gone
    exact ⟨_, row, rfl, rfl⟩
  case sample => exact fun s total parts => execPowerSample_leaves total parts
  case droop => exact fun s d on => ⟨_, execDroopEvent_on on d, State.counter_bump s 0x0A000F02 1, rfl, rfl, rfl⟩
  case straps => exact fun s a b powered changed => ⟨_, execFeedidRead_changed powered changed, raiseAlert_raises .., rfl, rfl, rfl⟩
  case die =>
    intro s d celsius hd on
    refine ⟨fun cool => ?_, fun hot => ?_⟩
    · obtain ⟨read, power, mem, critical⟩ := dieReading_leaves s d cool
      exact ⟨_, execDieTempReading_on on hd celsius, read, power.trans (power_of_on on), mem, critical⟩
    · obtain ⟨power, cause, alert, -, bytes, groups⟩ := trip_leaves (s.setCarrier { s.carrier with dieTemp := Sparse.set s.carrier.dieTemp d celsius }) aTHERMAL_TRIP
      rw [execDieTempReading_on on hd, dieReading_trips s d hot]
      exact ⟨_, rfl, power, cause, alert, bytes, groups⟩
  case coolant => exact fun s i o f powered => ⟨_, congrArg Host.Outcome.next (if_neg powered), coolantReading_leaves s i o f⟩
  case critical =>
    intro s on held
    obtain ⟨power, cause, alert, -, bytes, -⟩ := trip_leaves s aTHERMAL_TRIP
    exact ⟨_, congrArg Host.Outcome.next (if_pos ⟨on, held⟩), power, cause, alert, bytes⟩
  case system =>
    intro s
    refine ⟨fun on => ?_, execRefclkSysLoss_standby, ?_⟩
    · obtain ⟨power, cause, -, clock, bytes, -⟩ := trip_leaves (s.setCarrier { s.carrier with refSys := false }) aREFCLK_LOST
      exact ⟨_, execRefclkSysLoss_on on, power, cause, clock, bytes⟩
    · obtain ⟨cs, pass, row, ends⟩ := execRefclkSysReturn_eq s
      exact ⟨_, row, rfl, rfl, rfl, ends⟩
  case link =>
    intro s on
    refine ⟨fun lit idle => ?_, fun dark => ?_⟩
    · obtain ⟨carrier, mem, links⟩ := moveLinks_link (fun st => st != .disabled) .down (List.nodup_range (n := 48)) (s.setCarrier { s.carrier with refLink := false })
      refine ⟨_, execRefclkLinkLoss_quiet on lit idle, (by rw [carrier]; rfl), mem, fun n hn => (links n).trans ?_⟩
      by_cases off : (s.link n).st = .disabled
      · exact (if_neg (by simp [off])).trans (if_pos off).symm
      · exact (if_pos ⟨List.mem_range.mpr hn, by simpa using off⟩).trans (if_neg off).symm
    · obtain ⟨carrier, mem, links⟩ := moveLinks_link (fun st => st == .down) .detect (List.nodup_range (n := 48)) (s.setCarrier { s.carrier with refLink := true })
      refine ⟨_, execRefclkLinkReturn_on on dark, (by rw [carrier]; rfl), mem, fun n hn => (links n).trans ?_⟩
      by_cases down : (s.link n).st = .down
      · exact (if_pos ⟨List.mem_range.mpr hn, by simpa using down⟩).trans (if_pos down).symm
      · exact (if_neg (by simp [down])).trans (if_neg down).symm
  case host =>
    intro s
    obtain ⟨loss, assert⟩ := execHostReset_leaves s
    exact ⟨loss, rfl, assert, rfl⟩
  case isolate =>
    intro s d spire on present
    obtain ⟨carrier, mem⟩ := isolateDie_spire s spire
    have acts : d < 32 ∧ s.on = true ∧ s.carrier.isolated.contains d = false := ⟨by omega, on, by simpa using present⟩
    refine ⟨_, congrArg Host.Outcome.next (if_pos acts), ?_, ?_, mem, ?_⟩
    · rw [carrier]
      exact mem_insertNat.mpr (.inl rfl)
    · rw [carrier]
      exact power_of_on on
    · rw [carrier]
      exact fun x hx => mem_insertNat.mpr (.inr hx)

end Sys2Proof.Machine
end
